-- ==== Sys2Proof/Word.lean ====
section
/-! DEFINITION. The word types of the block and their plainest arithmetic. -/

namespace Sys2Proof

/-- A 32-bit register word (R47). -/
abbrev Word := BitVec 32

/-- One byte of a frame, a buffer or a host-memory entry. -/
abbrev Byte := BitVec 8

/-- The `width` bits of a word from bit `lo` on, as a number (R6). -/
def Word.field (w : Word) (lo width : Nat) : Nat := (w.toNat >>> lo) % 2 ^ width

/-- The word with the `width` bits from bit `lo` on replaced by the low bits of v (R6). -/
def Word.setField (w : Word) (lo width v : Nat) : Word :=
  BitVec.ofNat 32 (w.toNat % 2 ^ lo + (v % 2 ^ width) * 2 ^ lo + (w.toNat >>> (lo + width)) * 2 ^ (lo + width))

/-- The number that a two's-complement field of `width` bits stands for (R8). -/
def signed (width v : Nat) : Int :=
  if v % 2 ^ width < 2 ^ (width - 1) then (v % 2 ^ width : Nat) else (v % 2 ^ width : Nat) - (2 ^ width : Nat)

/-- The two's-complement field of `width` bits that holds an integer (R8). -/
def unsigned (width : Nat) (v : Int) : Nat := (v % (2 ^ width : Nat)).toNat

/-- Division rounded half away from zero (R8); the divisor is positive. -/
def roundDiv (a : Int) (d : Nat) : Int :=
  if 0 ≤ a then (2 * a + d) / (2 * d : Nat) else -((2 * (-a) + d) / (2 * d : Nat))

/-- An integer limited to a signed field of `width` bits. -/
def saturate (width : Nat) (v : Int) : Int :=
  if v < -(2 ^ (width - 1) : Nat) then -(2 ^ (width - 1) : Nat)
  else if v > (2 ^ (width - 1) : Nat) - 1 then (2 ^ (width - 1) : Nat) - 1 else v

end Sys2Proof
end

