-- ==== Sys2Proof/Image.lean ====
section
/-! DEFINITION. Function images, CLE program images and tick images as data (R312, R327–R329, R353–R401, R462, R477). The
engine code of a function image is taken as the element graph it stands for (assumption 10). -/

namespace Sys2Proof

/-- Kinds of signal (R354). -/
inductive Kind where
  | s | p | m | a | f | i | b
  deriving DecidableEq, Repr

/-- The kind code of R354. -/
def Kind.code : Kind → Nat
  | .s => 0 | .p => 1 | .m => 2 | .a => 3 | .f => 4 | .i => 5 | .b => 6

/-- Fraction bits of a kind's format (R354). -/
def Kind.frac : Kind → Nat
  | .s => 24 | .p => 24 | .m => 24 | .a => 0 | .f => 16 | .i => 0 | .b => 0

/-- An element of R368 with its settings in one setting group. `bind` is the number of a binding entry (R329); complex
settings are pairs; FSRC names an element of the slot by its place. -/
inductive Cfg where
  | tap (bind gainM gainSh : Nat)
  | gin (bind mode : Nat)
  | din (bind : Nat) (inv : Bool)
  | clein (bind : Nat) (inv : Bool)
  | dft (h fnom : Nat) (fsrc : Option Nat)
  | seq (acb : Bool)
  | pwr (n : Nat)
  | freq (fnom : Nat) (trk : Bool) (navg m : Nat) (vmin : Int)
  | rms (fnom : Nat) (fsrc : Option Nat) (nfix : Nat)
  | hrat (imin : Int)
  | mag (amin : Int)
  | zloop (loop : Nat) (k0 : Int × Int)
  | mho (qmode : Nat) (zr : Int × Int) (imin vmin : Int) (memt : Nat)
  | quad (qmode : Nat) (x xb rr rl : Int) (ul ut : Int × Int) (imin : Int)
  | dir (qmode : Nat) (rca lim imin vmin : Int)
  | diff (qmode : Nat) (ks : List (Int × Int)) (bmode : Nat) (idmin idhi ib2 s1 s2 : Int)
  | therm (invk kib : Int) (bh bc : Nat) (istop almlv trr : Int) (bhor : Nat) (rhor : Int)
  | idmt (qmode : Nat) (invgs gpu : Int) (op : List (Int × Nat)) (rmode tr : Nat) (rst : List (Int × Nat))
  | cmp (qmode : Nat) (kind : Kind) (under : Bool) (th hy : Int)
  | add (kind : Kind) (cs : List (Int × Int)) (ofs : Int × Int)
  | mul (kx ky kz : Kind)
  | sel (n : Nat)
  | lim (lo hi : Int)
  | logic (n inv op k : Nat) (oinv : Bool)
  | timer (mode td td2 : Nat)
  | latch (prio q0 : Nat)
  | edge (p0 : Nat)
  | ctr (lim pre : Nat)
  | obit (idx qidx : Nat)
  | oval (w qidx : Nat) (kind : Kind)
  | gsel
  | topo (bin : List Bool) (pats : List (Nat × Nat × Nat)) (dflt fallback settle confirm : Nat)
  | mirror (tgts : List (Nat × Kind))
  deriving DecidableEq, Repr

/-- An element of a graph: its engine, its inputs as (element, output) or unbound, and its settings per group. -/
structure Element where
  engine : Nat
  ins : List (Option (Nat × Nat))
  cfgs : List Cfg
  deriving DecidableEq, Repr

/-- An entry of the output map (R462). -/
structure OutEntry where
  dest : Nat
  src : Nat
  idx : Nat
  type : Nat
  target : Nat
  kind : Nat
  deriving DecidableEq, Repr

/-- A function image (R327, R328): header fields, sections as (TYPE, bytes), the element graph in Epast's order, the
bindings as (KIND, INDEX), the output map, the initial state in words, the digest as a number (byte 0 lowest), the
outcome of the checks of DIGEST and SIGNATURE, TOOL, and the 96 bytes of SIGNATURE. -/
structure FnImage where
  version : Nat
  hdrLen : Nat
  length : Nat
  rate : Nat
  ngroups : Nat
  engines : Nat
  stateBytes : Nat
  sharedBytes : Nat
  outLen : Nat
  flags : Nat
  wcet : List Nat
  priv : List Nat
  sections : List (Nat × Nat)
  elems : List Element
  bindings : List (Nat × Nat)
  outMap : List OutEntry
  init : List Nat
  digest : Nat
  digestOk : Bool
  sigOk : Bool
  tool : Nat
  sig : List Nat
  deriving DecidableEq, Repr

/-- A CLE program image (R477): header fields, code words, initial data as words, digest and checks. -/
structure CleImage where
  version : Nat
  hdrLen : Nat
  length : Nat
  wq : Nat
  nm : Nat
  nk : Nat
  nkw : Nat
  nt : Nat
  nc : Nat
  flags : Nat
  code : List Nat
  m : List Nat
  k : List Nat
  kw : List Nat
  q : List Nat
  digest : Nat
  digestOk : Bool
  sigOk : Bool
  deriving DecidableEq, Repr

/-- A channel or GOOSE member of a tick image: index, value (INT32), quality word (R306, R312). -/
structure ImgChan where
  idx : Nat
  val : Int
  q : Nat
  deriving DecidableEq, Repr

/-- GOOSE status entry of an image (R312): entry, stNum, flags STALE, NEVER, TEST. -/
structure ImgGoose where
  idx : Nat
  st : Nat
  flags : Nat
  deriving DecidableEq, Repr

/-- A tick image (R312). Channels and members not listed are 0 with quality word 1, GOOSE entries not listed are empty. -/
structure TickImage where
  tick : Nat
  rate : Nat
  first : Bool
  untrusted : Bool
  cls : Nat
  tNs : Nat
  di : Nat
  missing : Nat
  expected : Nat
  chans : List ImgChan
  members : List ImgChan
  goose : List ImgGoose
  deriving DecidableEq, Repr

end Sys2Proof
end

