-- ==== Sys2Proof/Data.lean ====
section
/-! DEFINITION. The data that commands carry and the state holds: requests, fault records, journal entries, frames,
images, and what the module sends out. -/

namespace Sys2Proof

/-- The element of a list whose key is k, if any. -/
def findKey {α : Type} (key : α → Nat) (k : Nat) : List α → Option α
  | [] => none
  | x :: xs => if key x = k then some x else findKey key k xs

/-- The list with x in place of the element of the same key, or inserted before the first larger key. -/
def setKey {α : Type} (key : α → Nat) (x : α) : List α → List α
  | [] => [x]
  | y :: ys => if key y = key x then x :: ys else if key x < key y then x :: y :: ys else y :: setKey key x ys

/-- The list without the elements of key k. -/
def dropKey {α : Type} (key : α → Nat) (k : Nat) (l : List α) : List α := l.filter fun x => key x ≠ k

/-- Completion statuses of R69. -/
inductive Status where
  | ok | state | param | priv | busy | nores | integrity | aborted | timeout | version
  deriving DecidableEq, Repr

/-- The 8-bit code of a status (R69). -/
def Status.code : Status → Nat
  | .ok => 0 | .state => 1 | .param => 2 | .priv => 3 | .busy => 4 | .nores => 5
  | .integrity => 6 | .aborted => 7 | .timeout => 8 | .version => 9

/-- Who issued a command and where its completion goes: the slice, the ring that held the entry (none for the service
console), and the entry's VERSION byte (R146, R650). -/
structure Req where
  slice : Nat
  ring : Option Nat
  version : Nat
  deriving DecidableEq, Repr

/-- A fault record (R68). `time` is TAI ns; FLAGS bit 0 is `raised`, bit 1 `partner`. -/
structure FaultRec where
  code : Nat
  cls : Nat
  raised : Bool
  partner : Bool
  time : Nat
  slice : Nat
  detail : Nat
  tick : Nat
  deriving DecidableEq, Repr

/-- An active fault: the raise record and the instance of R705 it stands for. -/
structure ActiveFault where
  inst : Nat
  record : FaultRec
  deriving DecidableEq, Repr

/-- An entry of the event journal by KIND (R669): fault record, module state change, tally violation, power failure,
other occurrence. -/
inductive JEntry where
  | fault (r : FaultRec)
  | stateChange (old new reason time : Nat)
  | tally (q : Nat) (injected : Bool) (index expected found time tick : Nat)
  | power (source time seq : Nat)
  | other (block code detail time tick : Nat)
  deriving DecidableEq, Repr

/-- An event entry on its way to the EVQ rings (R147): the slice whose rings receive it, its KIND and its payload
bytes 4–27 as (first byte, width in bytes, value). -/
structure EvqItem where
  slice : Nat
  kind : Nat
  payload : List (Nat × Nat × Nat)
  deriving DecidableEq, Repr

/-- Body of a HELLO message (R429). -/
structure Hello where
  serial : Nat
  pos : Nat
  slot : Nat
  fwMajor : Nat
  fwMinor : Nat
  rate : Nat
  rho : Nat
  state : Nat
  health : Nat
  flags : Nat
  peer : Nat
  slotTab : Nat
  deriving DecidableEq, Repr

/-- The tick digest record (R406) as a DIGEST message carries it (R434). -/
structure Digest where
  tick : Nat
  sdig : Nat
  rdig : Nat
  imgcrc : Nat
  voters : Nat
  dflags : Nat
  state : Nat
  health : Nat
  flags : Nat
  pubcrc : Nat
  deriving DecidableEq, Repr

/-- A TOKEN ledger entry (R670). STATUS: 1 HELD, 2 RELEASED_AT, 3 PASSED, 4 RECLAIMED, 5 NOT_HELD. -/
structure TokenEntry where
  dsid : Nat
  status : Nat
  peer : Nat
  serial : Nat
  m : Nat
  time : Nat
  deriving DecidableEq, Repr

/-- Bodies of the pair messages (R426). -/
inductive PairBody where
  | hello (h : Hello)
  | digest (d : Digest)
  | resyncReq
  | resyncNak (reason : Nat)
  | copy (entries : List (Nat × Nat)) (seqs : List (List Nat))
  | endMark (sdig : Nat)
  | takeoverReq
  | fault (r : FaultRec)
  | releaseNote
  | token (e : TokenEntry)
  | tokenAck (seq : Nat)
  deriving DecidableEq, Repr

/-- A pair message: SEQ, TICK and body (R425). -/
structure PairMsg where
  seq : Nat
  tick : Nat
  body : PairBody
  deriving DecidableEq, Repr

/-- Handover messages (R179): TYPE, DSID, token serial, tick number, and for COPY the captured state. -/
inductive HoBody where
  | copy (rate rho : Nat) (digests : List Nat) (state : List (Nat × Nat)) (seqs : List (List Nat))
  | digest (dig : Nat)
  | ready | grant | accept | release | taken | notTaken | cancel | query
  deriving DecidableEq, Repr

/-- TYPE of a handover message (R179). -/
def HoBody.type : HoBody → Nat
  | .copy .. => 1 | .digest _ => 2 | .ready => 3 | .grant => 4 | .accept => 5 | .release => 6 | .taken => 7 | .notTaken => 8
  | .cancel => 9 | .query => 10

/-- A handover message (R179); `tagOk` tells whether its protection by MACsec or by the HMAC tag holds. -/
structure HoMsg where
  dsid : Nat
  serial : Nat
  tick : Nat
  body : HoBody
  tagOk : Bool := true
  deriving DecidableEq, Repr

/-- One measurement of the servo (R193, R197), times in 2^-16 ns: from a Sync on a port and domain, its corrected origin time t1 and
its ingress stamp t2 at the PCS boundary; or from PPS_IN, the stamp of the edge as t2. Then the increment that the servo trims to
(its law is not in the spec, assumption 9). -/
structure ServoSample where
  pps : Bool
  port : Nat
  domain : Nat
  t1 : Int
  t2 : Int
  incr : Nat
  deriving DecidableEq, Repr

/-- A peer-delay exchange (R196, R197), times in 2^-16 ns: the request's egress stamp t1 and the response's ingress stamp t4 at this
port's PCS boundary, and the peer's corrected times t2 and t3 of receiving the one and sending the other. -/
structure PdelayTimes where
  t1 : Int
  t2 : Int
  t3 : Int
  t4 : Int
  deriving DecidableEq, Repr

/-- An Announce message (R196): port, domain, timescale flag, grandmaster data in the order of comparison of IEEE 1588,
steps removed and currentUtcOffset. -/
structure Announce where
  port : Nat
  domain : Nat
  ptpTimescale : Bool
  rank : List Nat
  steps : Nat
  utcOffset : Nat
  deriving DecidableEq, Repr

/-- One ASDU of an SV frame (R295, R296, R300): svID bytes, smpCnt where it can be decoded, confRev, smpSynch, length of its
seqData in bytes, and the samples decoded from it as (value, quality bits). -/
structure Asdu where
  svid : List Nat
  smpCnt : Option Nat
  confRev : Nat
  smpSynch : Nat
  seqLen : Nat
  data : List (Int × Nat)
  deriving DecidableEq, Repr

/-- An SV frame or a duplicate report at the aligner intake (R294): intake timestamp in units, whether a MAC discarded the
copy, addressing, simulation bit, whether the APDU decodes under IEC 61850-9-2, noASDU, the ASDUs that could be decoded,
and whether an authentication tag is present and verifies under the subscription's key and algorithm. -/
structure SvFrame where
  stamp : Nat
  dup : Bool
  dst : Nat
  vid : Nat
  appid : Nat
  sim : Bool
  decodes : Bool
  noAsdu : Nat
  asdus : List Asdu
  tagOk : Bool
  deriving DecidableEq, Repr

/-- A GOOSE frame at the intake (R309): timestamp in units, addressing, gocbRef bytes, confRev, tag outcome, ndsCom, test,
simulation, stNum, sqNum, timeAllowedToLive in ms, and the dataset as (type, raw value): 0 BOOLEAN, 1 Dbpos, 2 integer,
3 FLOAT32 as its 32 bits, 4 quality, 5 other. -/
structure GooseFrame where
  stamp : Nat
  dst : Nat
  vid : Nat
  appid : Nat
  ref : List Nat
  confRev : Nat
  tagOk : Bool
  nds : Bool
  test : Bool
  sim : Bool
  st : Nat
  sq : Nat
  tal : Nat
  data : List (Nat × Int)
  deriving DecidableEq, Repr

/-- A write on its way to the persistent store (R671), with what becomes of it once durable: a journal entry with the
entries dropped before it; a TOKEN entry, own or to be acknowledged to the partner as a SEQ, and the handover step that
waits for it; a key blob (slot, GEN, words of its header) with the step of R643 that waits; a key-journal entry; revision
pointers; MISC. -/
inductive Immediate where
  | journal (e : JEntry) (dropped : Nat)
  | token (e : TokenEntry) (ack : Option Nat) (step : Nat)
  | keyBlob (slot gen : Nat) (words : List Nat) (step : Nat)
  | keyLog (words : List Nat)
  | config (revs : List Nat) (req : Option Req)
  | misc (what : Nat) (req : Option Req)
  deriving DecidableEq, Repr

/-- The section a write goes to (R662). -/
def Immediate.section' : Immediate → Nat
  | .journal .. => 8 | .token .. => 5 | .keyBlob .. => 6 | .keyLog .. => 7 | .config .. => 3 | .misc .. => 4

/-- Bytes of a write in the queue: a log slot, a key position, a bank header with its payload (assumption 12 for CONFIG
and MISC). -/
def Immediate.bytes : Immediate → Nat
  | .journal .. => 64 | .token .. => 8256 | .keyBlob .. => 128 | .keyLog .. => 64 | .config .. => 128 | .misc .. => 128

/-- First-stage outputs of one fine-path channel around a tick (R504, R505): channel, s_{j−N2+1} to s_{j+1} oldest first, and
whether the channel was stuck at any of them. -/
structure FineIn where
  chan : Nat
  s : List Int
  stuck : Bool
  deriving DecidableEq, Repr

/-- ADC triggers of sources 1 to 3 (R513): a tick, a module-time instant in ns, an edge of a DI at a stamp in ns. -/
inductive AdcTrig where
  | tick (n : Nat)
  | period (ns : Nat)
  | edge (input : Nat) (falling : Bool) (ns : Nat)
  deriving DecidableEq, Repr

/-- What happens at a modulator channel or clock (R508, R520): changes of stuck and overrange, the durations that raise
0x0E01 and 0x0E02, a MOD_CLK outside its grid for 1 ms. -/
inductive ModEvent where
  | stuck | unstuck | overs | inRange | stuckLong | overLong | clockOff
  deriving DecidableEq, Repr

/-- The fields of a publisher frame that do not change from frame to frame (R318, R466): destination, VLAN, priority and APPID, confRev,
the template of a control block or the svID of an own stream, members or ASDUs, the test flag of a control block, and the algorithm of
the IEC 62351-6 tag where the frame carries one. simulation is 0 and ndsCom is FALSE in every frame. -/
structure PubHead where
  dst : Nat
  vid : Nat
  pcp : Nat
  appid : Nat
  confRev : Nat
  name : List Nat
  entries : Nat
  test : Bool
  tag : Option Nat
  deriving DecidableEq, Repr

/-- A frame of the publisher that waits for its release instant (R460): control block (or 0x1000 + k for own stream k),
stNum, sqNum, launch and release instants in ns, timeAllowedToLive in ms, t of the change in UTC ns, TimeQuality (bit 7
LeapSecondsKnown, bit 6 ClockFailure, bit 5 ClockNotSynchronized, bits 4–0 accuracy), contents, slice, and for an own stream
its channels. -/
structure PubFrame where
  src : Nat
  st : Nat
  sq : Nat
  launch : Nat
  release : Nat
  tal : Nat
  t : Int
  timeq : Nat
  data : List Nat
  slice : Nat
  nch : Nat := 0
  head : PubHead
  deriving DecidableEq, Repr

/-- A frame as a MAC receives it (R236, R257): its bytes from the destination address to the end without FCS, whether the FCS
is correct, what MACsec makes of it (0 no SecTAG, 1 valid, 2 invalid, 3 no usable SA or unknown SCI, 4 outside the replay
window) with the bytes of a valid one, module time at the SFD and at completion of reception in ns. -/
structure RxWire where
  bytes : List Nat
  fcsOk : Bool
  sec : Nat
  plain : List Nat
  stamp : Nat
  done : Nat
  deriving DecidableEq, Repr

/-- What a transceiver declares (R239): whether it declares the configured speed, its maximum power in 0.1 W, whether it
declares digital diagnostics. -/
structure OptIdent where
  speedOk : Bool
  power : Nat
  ddm : Bool
  deriving DecidableEq, Repr

/-- An MKPDU as the keeper's MKA takes it (R256): port, peer, whether its ICV holds under the CAK of the port's slot, the
peer's key-server priority and whether it is the lower of the two on equal priorities, whether it distributes a SAK. -/
structure MkPdu where
  port : Nat
  peer : Nat
  icvOk : Bool
  prio : Nat
  lower : Bool
  sak : Bool
  deriving DecidableEq, Repr

/-- A TX entry as it stands in host memory (R142): LEN, FLAGS, TC, PORT, MAXAGE, LAUNCHTIME. -/
structure TxEntry where
  len : Nat
  flags : Nat
  tc : Nat
  port : Nat
  maxage : Nat
  launch : Nat
  deriving DecidableEq, Repr

/-- What redundancy adds to a copy (R243): the PRP trailer (suffix 0x88FB; LanId 0xA or 0xB) or the HSR tag (EtherType 0x892F), with
the LSDU size and the sequence number. -/
structure RedTag where
  mark : Nat
  lan : Nat
  lsdu : Nat
  seq : Nat
  deriving DecidableEq, Repr

/-- A frame on its way out of a port (R143, R243): core port, core frame number, bytes without FCS, EtherType, destination, the port's
own address where the module is the source (R235), trailer or tag, SFD instant in ns, what a ring's transparent clock adds to the
correctionField in 2^-16 ns (R196), XOR made to a byte by an injection (offset, mask), whether the FCS was recomputed after it. -/
structure WireTx where
  port : Nat
  frame : Nat
  len : Nat
  eth : Nat
  dst : Nat
  src : Option Nat
  red : Option RedTag
  sfd : Nat
  ptp : Option Int := none
  corrupt : Option (Nat × Nat) := none
  refcs : Bool := false
  deriving DecidableEq, Repr

/-- What a MAC or the keeper's MKA does on a port by itself (R252, R256, R239, R250): a PAUSE frame with its quanta, a PFC frame with
the quanta of each class it names, an MKPDU that distributes a SAK, a 10 ms pulse of TX_DISABLE, the BEACON of the PLCA coordinator with
its node count. -/
inductive MacTx where
  | pause (port quanta : Nat)
  | pfc (port : Nat) (quanta : List (Nat × Nat))
  | sak (port number : Nat)
  | txDisable (port : Nat)
  | beacon (port nodes : Nat)
  deriving DecidableEq, Repr

/-- Entries written back on a TX ring (R143): position and TAG of each, STATUS, TXTS as the number of its ten bytes (R11). -/
structure TxBack where
  ring : Nat
  entries : List (Nat × Nat)
  status : Status
  ts : Option Nat
  deriving DecidableEq, Repr

/-- An entry written back on an RX ring (R144); `ts` is RXTS as the number of its ten bytes (R11). -/
structure RxBack where
  ring : Nat
  pos : Nat
  tag : Nat
  bytes : Nat
  flags : Nat
  ts : Nat
  port : Nat
  tc : Nat
  frameLen : Nat
  deriving DecidableEq, Repr

/-- A mailbox message (R166): VERSION, PEER, MSGID, payload bytes. -/
structure MbMsg where
  version : Nat
  peer : Nat
  msgid : Nat
  payload : List Nat
  deriving DecidableEq, Repr

/-- What a relay of a mailbox does (R167–R169): the next OUT entry, where the module takes one, and whether it completes the oldest
message that it has taken. -/
structure MbWork where
  next : Option MbMsg
  deliver : Bool
  deriving DecidableEq, Repr

/-- A Sync that a port sends (R196, R197): the port and its stamp at the PCS boundary in 2^-16 ns. -/
structure SyncTx where
  port : Nat
  pcs : Nat
  deriving DecidableEq, Repr

/-- A read on the BARs (R47): byte address and width in bytes. -/
structure BarRead where
  addr : Nat
  width : Nat
  deriving DecidableEq, Repr

/-- What the tamper monitor senses beside the loops (R651): CASE_SW open, the die temperature in Q8.7 °C, the sub-second count of the
calendar. -/
structure TamperSense where
  caseOpen : Bool
  temp : Int
  sub : Nat
  deriving DecidableEq, Repr

/-- A ring in a slice image (R175): words BASE_LO, BASE_HI, CFG and COAL, indices, pass count, vector offset. -/
structure RingImg where
  baseLo : Nat
  baseHi : Nat
  cfg : Nat
  coal : Nat
  prod : Nat
  cons : Nat
  pass : Nat
  vec : Nat
  deriving DecidableEq, Repr

/-- A sub-record of a slice image's block state (R175): an SV subscription with its words; a GOOSE subscription with its words and
the last accepted frame's numbers, expiry instant (units), test bit, member values and age; a recorder channel with its words. Which
content a sub-record has is the model's choice (assumption 76). -/
inductive BlockImg where
  | svSub (idx : Nat) (words : List Nat)
  | goSub (idx : Nat) (words : List Nat) (never : Bool) (st sq expiry : Nat) (test : Bool) (vals : List (Nat × Int × Nat)) (age : Nat)
  | recChan (bin : Bool) (idx w0 w1 : Nat)
  deriving DecidableEq, Repr

/-- A slice image (R174, R175): the fields of its header, the outcome of the checks on the form of its bytes, and its sections: the
slice's SLC window; the rings; the mailbox as (OUT base, IN base, EN, OUT producer and consumer, IN producer and consumer) with the
messages taken and not delivered; held EVQ entries with LOCAL; block state; key references as (slot, identifier as a number, byte 0
lowest); the size of the DRAM window in MiB with the MiB that are not all 0 as (place, bytes as a number). -/
structure SliceImg where
  magic : Nat := 0x4E525349
  version : Nat := 1
  hdrLen : Nat := 128
  length : Nat := 0
  slice : Nat := 0
  sections : Nat := 0
  serial : Nat := 0
  time : Nat := 0
  tick : Nat := 0
  digest : Nat := 0
  formOk : Bool := true
  window : List Nat := []
  rings : List RingImg := []
  mailbox : Option (List Nat × List MbMsg) := none
  held : List (Nat × EvqItem) := []
  blocks : List BlockImg := []
  keys : List (Nat × Nat) := []
  dramMiB : Nat := 0
  dram : List (Nat × Nat) := []
  deriving DecidableEq, Repr

/-- The buffer of a restore (R171): its length and the image that it holds. -/
structure ImageBuf where
  len : Nat
  img : SliceImg
  deriving DecidableEq, Repr

/-- A recorder group message (R535): TYPE 0x30 ARM, 0x31 FIRE, 0x32 WAVE_TS; group, sender node, record id, instant in ns with
fraction in units of 2^-16 ns, channel, destination node, whether its protection holds. -/
structure GrpMsg where
  type : Nat
  group : Nat
  node : Nat
  id : Nat
  inst : Nat
  frac : Nat
  chan : Nat
  dest : Nat
  tagOk : Bool
  deriving DecidableEq, Repr

/-- A pair of wave samples around a possible wavefront (R546): channel, centre instant of the first in ns, the magnitudes of
their differences, whether both are clear in the mask, whether |d| has stayed below WTH / 2 for 256 outputs since the channel's last
detection. -/
structure WaveDet where
  chan : Nat
  tau : Nat
  prev : Nat
  cur : Nat
  clear : Bool
  rested : Bool
  deriving DecidableEq, Repr

/-- A 400 ns instant of the wave ring (R545, R550): the samples of the 16 channels, the mask of those stuck or overrange, the mask of
those within their first 3 outputs. -/
structure WaveRow where
  vals : List Int := []
  bad : Nat := 0
  fill : Nat := 0
  deriving DecidableEq, Repr

/-- How the write of a segment to flash goes (R541, R555): the block of a failed write, and what the wave ring holds of a capture. -/
structure SegWrite where
  failed : Option Nat
  wave : List WaveRow
  deriving DecidableEq, Repr

/-- A set-point batch (R623): slice, half, MODE byte, SEQ, SOLVE_ID, STEP_START, VALID_END, j, entries (node, QTY, FLAGS, VALUE). -/
structure RckBatch where
  slice : Nat
  half : Nat
  mode : Nat
  seq : Nat
  solve : Nat
  start : Nat
  valid : Nat
  stale : Nat
  entries : List (Nat × Nat × Nat × Int)
  deriving DecidableEq, Repr

/-- A signed image (R631, R632): kind (1 keeper firmware, 3 and 4 microcode of those stages), SVN, RAISE_FLOOR, REVOKE, the OTP signer
entry that its signer hash equals (4 = none), signer hash, whether its digest and both its signatures verify, digest, patch level. -/
structure FwImage where
  kind : Nat := 1
  svn : Nat := 0
  raiseFloor : Bool := false
  revoke : Nat := 0
  signer : Nat := 0
  hash : Nat := 0
  digestOk : Bool := true
  sigsOk : Bool := true
  digest : Nat := 0
  patch : Nat := 0
  deriving DecidableEq, Repr

/-- A function image that a revision restores (R121): slot, owning slice, setting group, length of its container, key slot that
verifies it, image. -/
structure RestoreImage where
  slot : Nat
  slice : Nat
  group : Nat
  len : Nat
  key : Nat
  img : FnImage
  deriving DecidableEq, Repr

/-- What a configuration revision says of a recorder channel (R550), as texts: identity, phase, circuit component, and for an analogue one
unit, a, b, primary, secondary and P or S. -/
structure ChanDesc where
  id : List Nat
  phase : List Nat
  circuit : List Nat
  unit : List Nat := []
  a : List Nat := []
  b : List Nat := []
  primary : List Nat := []
  secondary : List Nat := []
  ps : List Nat := []
  deriving DecidableEq, Repr

/-- The recorder description section of a configuration revision (R550): station name, line frequency, analogue and binary channels. -/
structure RecDesc where
  station : List Nat
  lineFreq : Nat
  ana : List (Nat × ChanDesc)
  bin : List (Nat × ChanDesc)
  deriving DecidableEq, Repr

/-- A configuration revision (R121): number, digest, whether digest and signature verify, key slot that verifies it, register
values as (address, word), function images to restore, CLE program, recorder description section. -/
structure Revision where
  num : Nat
  digest : Nat
  digestOk : Bool
  sigOk : Bool
  keySlot : Nat
  regs : List (Nat × Nat)
  images : List RestoreImage
  cle : Option CleImage
  desc : Option RecDesc := none
  deriving DecidableEq, Repr

/-- A staging record (R641): its fields, what the key engine makes of the material (unwrap and ephemeral key valid), the material as
bytes (of the unwrapped key, or of the public key). -/
structure KeyRecord where
  version : Nat
  mode : Nat
  slot : Nat
  policy : Nat
  uses : Nat
  wrapSlot : Nat
  engineOk : Bool
  material : List Nat
  deriving DecidableEq, Repr

/-- The end of a solve: its instant in ns, the iterations done by then where its time is over (R615), slices whose batch DMA fails. -/
structure SolveResult where
  now : Nat
  iters : Nat
  dmaFail : List Nat
  deriving DecidableEq, Repr

/-- What a step of BOOT reports (R108): whether it passed; the mask of the self-tests that did (R126); ms since RESET was left; the
SHA-384 digest of stage 0, whose content the model does not hold (boot ROM and OTP words, R107); findings of section reads as (section, 1 one bank invalid, 2 MAC wrong, 3 empty, 4 key blob bad;
key slot, generation); key slots whose material does not unwrap; VBK in mV. -/
structure BootRep where
  ok : Bool
  pass : Nat
  ms : Nat
  digest : Nat
  finds : List (Nat × Nat × Nat × Nat)
  bad : List Nat
  vbk : Nat
  deriving DecidableEq, Repr

/-- The descriptor of INJECT_START (R698), field by field; `rest` is bytes 28–31. -/
structure InjDesc where
  version : Nat
  kind : Nat
  id : Nat
  flags : Nat
  target : Nat
  tcmask : Nat
  ring : Nat
  n : Nat
  param : Nat
  mask : Nat
  limit : Nat
  duration : Nat
  rest : Nat
  deriving DecidableEq, Repr

/-- What the module writes into host memory (R133): EVQ entries with ring, TAG, SEQ (R147), completions of ring entries with RESULT,
RFLAGS and TAG (R146), entries of TX and RX rings and of mailboxes, images, records and batches into the buffers that a command or a
configuration names. -/
inductive Dma where
  | evq (ring tag seq : Nat) (item : EvqItem)
  | complete (req : Req) (status : Status) (result rflags tag : Nat)
  | txBack (b : TxBack)
  | rxBack (b : RxBack)
  | mbIn (slice peer pos tag rseq : Nat) (m : MbMsg)
  | mbOut (slice pos tag : Nat) (status : Status)
  | sliceImage (slice buf : Nat) (img : SliceImg)
  | recData (req : Req) (id part off buf : Nat) (bytes : List Nat)
  | statusRec (req : Req) (header : List (Nat × Nat × Nat)) (faults : List FaultRec)
  | journalRec (req : Req) (entries : List (Nat × Nat × JEntry))
  | keyRec (req : Req) (entries : List (Nat × List Nat))
  | counters (req : Req) (values : List (Nat × Nat)) (nodes : List (Nat × Nat × Nat))
  | rckBatch (b : RckBatch)
  deriving DecidableEq, Repr

/-- What the module sends to the outside: MSI-X messages (R62), DMA writes with the PASID of their prefix, none while PASID Enable is
0 (R132), answers to the service console (R650), MAC frames with the port's source address (R235), pair messages with the lane's port (R424, R426) and handover messages (R179), values read, frames, levels,
pulses with their end where a change of state cuts them (R96), an LED lit in a colour by the LED test (R90). -/
inductive Output where
  | msix (vector : Nat)
  | dma (pasid : Option Nat) (d : Dma)
  | console (d : Dma)
  | pair (port : Nat) (m : PairMsg)
  | ho (port src : Nat) (m : HoMsg)
  | ptpSync (port clockClass : Nat) (oneStep : Bool) (origin : Nat)
  | ppsOut (widthMs : Nat)
  | regRead (addr value : Nat)
  | frame (f : PubFrame)
  | strobe (levels : Nat)
  | wire (f : WireTx)
  | mac (src : Nat) (m : MacTx)
  | group (port src : Nat) (m : GrpMsg)
  | pulse (out widthMs : Nat)
  | pulseEnd (out : Nat)
  | ledTest (led colour ms : Nat)
  | loopSet (dev ch flags : Nat) (y : Int) (tick : Nat)
  deriving DecidableEq, Repr

end Sys2Proof
end

