-- ==== Sys2Proof/Syntax.lean ====
section
/-! DEFINITION. The commands of the block: one constructor per row of spec/opcode_table.json, in the order of the
table, with the data the row carries. -/

namespace Sys2Proof

/-- A command: one step of the part, whole and indivisible (95_what_each_step_holds). -/
inductive Instr where
  /-- VMAIN_VALID (R76): VMAIN has stayed above 9.9 V for 50 ms in OFF or VIGIL, so the module enters RESET. -/
  | vmainValid
  /-- VVG_IN_RANGE (R113): VVG comes into range in OFF while VMAIN is invalid, so vigil metering starts and the module enters VIGIL. -/
  | vvgInRange
  /-- VVG_LOW (R113): VVG falls below 3.0 V in VIGIL, so vigil writes its last record and the module enters OFF. -/
  | vvgLow (lost : Nat)
  /-- PFW_ASSERT (R79): PFW_N has been low for 10 µs, so the module makes an out-of-turn ledger commit. -/
  | pfwAssert (dur now : Nat) (ok : Bool)
  /-- PFW_HOLD_TIMEOUT (R79): PFW_N stays asserted for 500 ms with VMAIN in range, raising fault 0x0001. -/
  | pfwHoldTimeout
  /-- PFW_DEASSERT (R79): PFW_N de-asserts and fault 0x0001 clears. -/
  | pfwDeassert
  /-- VMAIN_DETECT (R80): VMAIN falls below the detection threshold, so custody is dropped, units stop, a final commit is made and the power failure is journaled. -/
  | vmainDetect (dur now : Nat) (ok : Bool)
  /-- HOLDUP_END (R81): The internal hold-up ends after detection, and the module enters VIGIL or OFF. -/
  | holdupEnd
  /-- RST_N_RESET (R85): RST_N has been low for at least 10 µs, so the module enters RESET. -/
  | rstNReset
  /-- RST_N_GLITCH (R115): A low pulse of 1–10 µs on RST_N is ignored and counted in GLITCH_CNT. -/
  | rstNGlitch
  /-- RESET_EXIT (R113): The module has spent 100 µs in RESET with RST_N high and VMAIN valid, so it enters BOOT. -/
  | resetExit (pos slot : Nat)
  /-- BOOT_STEP_COMPLETE (R108): A step of the boot sequence completes or fails, and the next step starts or BOOT ends in SAFE or SYNC. -/
  | bootStepComplete (r : BootRep)
  /-- BOOT_TAMPER (R111): A tamper detected during BOOT stops the boot and sends the module to SAFE with fault 0x0103. -/
  | bootTamper (source : Nat)
  /-- WATCHDOG_EXPIRY (R115): The keeper misses its watchdog service for 250 ms, causing a module reset. -/
  | watchdogExpiry
  /-- LOCKSTEP_ERROR (R115): The keeper's two cores disagree, resetting the module within 1 µs. -/
  | lockstepError
  /-- HEARTBEAT_EXPIRY (R448): The custody heartbeat is not serviced for 50 µs, so hardware de-asserts CUST_HOLD and latches the event. -/
  | heartbeatExpiry
  /-- HEARTBEAT_LATCH_FOUND (R448): The keeper finds the heartbeat latch and raises fault 0x0B07. -/
  | heartbeatLatchFound
  /-- PERST (R117): PERST_N resets the host interface only: rings stop, indices clear and MSI-X returns to reset. -/
  | perst
  /-- FLR_D3HOT (R131): A Function Level Reset or a move to D3hot acts as PERST_N. -/
  | flrD3hot
  /-- BUS_MASTER_DISABLE (R132): Bus Master Enable is 0, so DMA stops and every enabled ring stops as on a DMA error. -/
  | busMasterDisable
  /-- PASID_DISABLE (R132): PASID Enable goes from 1 to 0, stopping the rings and mailboxes of slices 1–255. -/
  | pasidDisable
  /-- PCIE_LINK_DOWN (R157): The PCIe link has been down for 100 ms, raising fault 0x0202. -/
  | pcieLinkDown
  /-- CUST_PEER_RISE (R93): CUST_PEER rises, so the output gate and the GOOSE permit close within 150 ns. -/
  | custPeerRise (stamp : Nat)
  /-- CUSTODY_COLLISION (R445): CUST_HOLD and CUST_PEER are both asserted for more than 20 ns, so both gates close and custody is dropped. -/
  | custodyCollision
  /-- CUSTODY_SAMPLE (R444): At d_n − 6 µs or d_n − 3 µs, the module samples CUST_PEER and may assert CUST_HOLD for boundary n. -/
  | custodySample
  /-- PEER_LINE_DISAGREE (R446): CUST_PEER has been asserted for 1 ms while the partner reports no CUST_HOLD, raising fault 0x0B09. -/
  | peerLineDisagree
  /-- TICK_BOUNDARY (R27): At decision instant d_n, the custody change, decision n, T-class commits, the release of image n + 1 and the result-mirror write happen in order. -/
  | tickBoundary (doBad : Nat) (mismatch : Bool) (crcFail : Nat)
  /-- VOTE (R408): At v_n, the beam votes the rods' streams 2-out-of-3 and settles tick n. -/
  | vote (differ : Option Nat)
  /-- ROD_RESULTS_DELIVERED (R346): A rod completes its work for a tick, and late results of a carry episode are compared with the retained voted results. -/
  | rodResultsDelivered (rod : Nat) (overs : List Nat) (corr : Nat) (upset : List (Nat × Nat))
  /-- SRAM_UNCORRECTABLE (R325): An uncorrectable SRAM error in a rod benches it at the next vote. -/
  | sramUncorrectable (rod word : Nat)
  /-- ROD_SELFTEST_DONE (R413): A RESETTING rod passes or fails reset and self-test. -/
  | rodSelftestDone (rod : Nat) (pass : Bool)
  /-- ROD_COPY_ROUND_END (R415): A state-copy round ends, and the next round or the final round is chosen. -/
  | rodCopyRoundEnd (rod written : Nat) (uncorr : Bool)
  /-- ROD_COPY_FINAL_ROUND (R415): The final copy round runs in [v_n, d_n), and the joining rod enters VERIFYING. -/
  | rodCopyFinalRound (rod written : Nat) (uncorr : Bool)
  /-- BEAM_SELFTEST (R418): The beam runs its 64 built-in vectors in both voter channels. -/
  | beamSelftest (failed : Option Nat)
  /-- DIAG_SELFTEST (R691): A periodic test of a diagnostic means runs and raises or clears fault 0x0106. -/
  | diagSelftest (test : Nat) (pass : Bool)
  /-- GATE_CHANNEL_DISAGREE (R693): The two custody-gate channels disagree, so the gate closes and fault 0x0007 is raised. -/
  | gateChannelDisagree (detail : Nat)
  /-- TIME_COUNTER_MISMATCH (R195): The second time counter disagrees with the first, raising fault 0x0404. -/
  | timeCounterMismatch
  /-- MAC_FRAME_RX (R236): A MAC receives a frame, checks length and FCS, and terminates it or passes it to the switch core. -/
  | macFrameRx (port : Nat) (frame : RxWire) (fecCorr fecUncorr : Nat) (luck : List Nat)
  /-- PAUSE_RX (R253): A received PAUSE frame stops the port from starting frames for q quanta. -/
  | pauseRx (port quanta now : Nat)
  /-- PFC_RX (R253): A received PFC frame pauses the obeyed traffic classes. -/
  | pfcRx (port classes : Nat) (quanta : List Nat) (now : Nat)
  /-- PAUSE_REFRESH (R252): The PAUSE refresh interval passes while occupancy stays above LO, so the PAUSE frame is sent again. -/
  | pauseRefresh (port : Nat)
  /-- SUPERVISION_RX (R248): A PRP or HSR supervision frame updates the node table. -/
  | supervisionRx (pair node now : Nat)
  /-- SUPERVISION_TX (R248): The LIFECHECK interval passes, so a supervision frame is sent on both ports of the pair. -/
  | supervisionTx (pair : Nat)
  /-- DUP_ENTRY_FORGET (R244): A duplicate-table entry is removed after FORGET ms without a frame from its source. -/
  | dupEntryForget (pair src : Nat)
  /-- NODE_ENTRY_AGE (R248): A node-table entry is removed after 60 s without supervision. -/
  | nodeEntryAge (pair node : Nat)
  /-- MOD_ABS_LOW (R239): A transceiver is inserted, and its identification is read 300 ms later to accept or reject it. -/
  | modAbsLow (port : Nat) (ident : OptIdent)
  /-- MOD_ABS_HIGH (R240): A transceiver is removed, so the port enters NO_OPTICS. -/
  | modAbsHigh (port : Nat)
  /-- TX_FAULT_ASSERT (R240): TX_FAULT is asserted, so the port enters FAULT. -/
  | txFaultAssert (port : Nat)
  /-- TX_FAULT_CLEAR (R240): TX_FAULT has been clear for 1 s with the cage powered, so the port returns to DOWN. -/
  | txFaultClear (port : Nat)
  /-- TX_DISABLE_PULSE (R239): In FAULT, the module pulses TX_DISABLE for 10 ms once every second. -/
  | txDisablePulse (port : Nat)
  /-- CAGE_OVERCURRENT (R88): A cage draws more than 0.55 A for 1 ms and is switched off. -/
  | cageOvercurrent (port : Nat)
  /-- CAGE_RETRY (R88): A cage that was switched off is retried every 10 s. -/
  | cageRetry (port : Nat)
  /-- DDM_READ (R239): The transceiver's digital diagnostics are read every second. -/
  | ddmRead (port temp tx rx : Nat) (alarm : Bool)
  /-- LINK_UP (R240): Sync has been held for UP_MS, with a SAK installed where needed, so the port enters UP. -/
  | linkUp (port : Nat) (anDone pauseRes : Bool)
  /-- LINK_DOWN (R240): LOS, or a loss of sync for DN_US, takes the port out of UP and starts the link-down hold. -/
  | linkDown (port : Nat) (los : Bool)
  /-- LINK_HOLD_END (R285): The link-down hold ends without a return to UP, and the remaining frames are flushed. -/
  | linkHoldEnd (port : Nat)
  /-- PORT_NOT_UP_TIMER (R265): A port of a pair, or a Vexza lane, has not been UP for 1 s, raising faults 0x0601, 0x0602, 0x0604 or 0x0605. -/
  | portNotUpTimer (port : Nat)
  /-- PLCA_STATUS_LOST (R250): The PLCA status changes from true to false, and the port falls back to CSMA/CD. -/
  | plcaStatusLost (port : Nat)
  /-- T1S_COLLISION (R249): A collision on 10BASE-T1S starts a backoff, and the frame is discarded after 16 attempts. -/
  | t1sCollision (port now : Nat) (late : Bool)
  /-- MKPDU_RX (R256): The keeper's MKA processes a received MKPDU. -/
  | mkpduRx (pdu : MkPdu)
  /-- MKA_PEER_LOST (R256): No MKPDU has come from the peer for 6 s, raising fault 0x0606. -/
  | mkaPeerLost (port : Nat)
  /-- PN_EXHAUSTED (R256): A packet number reaches 2^62, so a new SAK is distributed. -/
  | pnExhausted (port : Nat)
  /-- EGRESS_ADMIT (R282): A copy leaving a resequencer is admitted or refused at its egress port. -/
  | egressAdmit (frame port : Nat) (draws : List Nat)
  /-- RESEQ_TIMEOUT (R280): A resequencer gap has not closed within RESEQ.TIMEOUT, so the missing numbers are declared lost. -/
  | reseqTimeout (port src tc : Nat) (draws : List Nat)
  /-- PLANE_ERROR (R281): A plane discards a frame after an uncorrectable error, and is closed after a second error. -/
  | planeError (plane frame : Nat)
  /-- FRAME_EXPIRY (R284): A frame reaches its expiry instant and is discarded wherever it waits. -/
  | frameExpiry (frame port : Nat)
  /-- FRAME_TRANSMIT (R199): An eligible frame starts transmission on its port under launch time, gate and priority. -/
  | frameTransmit (port now : Nat) (luck : List Nat)
  /-- FRAME_TX_DONE (R143): A frame's last bit leaves the egress MAC, and its beads are released and its TX entries written back. -/
  | frameTxDone (port now : Nat)
  /-- PFC_REQUEST_CHANGE (R288): RX ring back-pressure for a class starts or ends, and the core requests or withdraws PFC. -/
  | pfcRequestChange (tc : Nat)
  /-- BEAD_AUDIT (R289): Every 1 ms the bead snapshot is taken, and unreferenced or double beads are reclaimed. -/
  | beadAudit (lost doubled : List Nat)
  /-- GCL_SWITCH (R205): At the switch instant, the admin gate-control list goes into operation. -/
  | gclSwitch (port : Nat)
  /-- SV_INTAKE (R299): An SV frame, or a duplicate report, at the aligner intake has each of its samples given one outcome. -/
  | svIntake (frame : SvFrame)
  /-- GOOSE_INTAKE (R309): A GOOSE frame at the intake is matched, checked, and accepted or discarded. -/
  | gooseIntake (frame : GooseFrame)
  /-- OWN_SV_BUILD (R318): An own-SV frame is built from the fine path and handed over for launch. -/
  | ownSvBuild (stream : Nat)
  /-- GOOSE_RETRANSMIT (R467): A control block reaches N without a change and sends the next sqNum. -/
  | gooseRetransmit (block : Nat)
  /-- PUBLISH_RELEASE (R460): At the release instant, the publisher checks the permit and passes or drops the frame. -/
  | publishRelease (len : Nat)
  /-- HELLO_TX (R426): Pair control sends a HELLO every 1 ms. -/
  | helloTx
  /-- HELLO_RX (R429): A partner HELLO is accepted and may complete the handshake. -/
  | helloRx (lane seq : Nat) (h : Hello)
  /-- HANDSHAKE_LOSS (R433): No pair message has been accepted for 2 ms, so the handshake is lost. -/
  | handshakeLoss
  /-- DIGEST_RX (R435): The partner's DIGEST arrives and settles tick n as SKIP, MATCH or MISMATCH. -/
  | digestRx (lane seq : Nat) (d : Digest) (delay : Nat)
  /-- DIGEST_SETTLE_TIMEOUT (R435): No partner DIGEST has arrived by d_n + 50 µs, so tick n is settled as SKIP. -/
  | digestSettleTimeout (tick : Nat)
  /-- RESYNC_REQ_RX (R438): The partner receives RESYNC_REQ and becomes the donor or answers RESYNC_NAK. -/
  | resyncReqRx (lane seq : Nat)
  /-- RESYNC_REQ_REPEAT (R437): RESYNC_REQ is repeated every 1 ms until COPY or RESYNC_NAK arrives. -/
  | resyncReqRepeat
  /-- RESYNC_NAK_RX (R441): A RESYNC_NAK fails the copy. -/
  | resyncNakRx (lane seq reason : Nat)
  /-- RESYNC_COPY_RX (R439): A COPY entry is written into the requester's VOTING rods. -/
  | resyncCopyRx (lane seq : Nat) (entries : List (Nat × Nat)) (seqs : List (List Nat)) (all : Bool)
  /-- RESYNC_END_RX (R440): An END marker is written, and the requester joins at the boundary when the SDIGs match. -/
  | resyncEndRx (lane seq tick sdig stamp : Nat)
  /-- RESYNC_RETRY (R441): 1 s after a failed copy, the requester requests again. -/
  | resyncRetry
  /-- RESYNC_FAIL_LIMIT (R441): The backlog exceeds 1 MiB, or there is no join within 4,800 ticks, so the copy fails. -/
  | resyncFailLimit (backlog : Bool)
  /-- TAKEOVER_REQ_TX (R453): A ready shadow sends TAKEOVER_REQ every 1 ms to a partner holding safe-mode custody. -/
  | takeoverReqTx
  /-- TAKEOVER_REQ_RX (R113): A module in safe-mode custody de-asserts CUST_HOLD at its next tick boundary. -/
  | takeoverReqRx (lane seq : Nat)
  /-- PAIR_FAULT_RX (R428): A partner FAULT message is journaled with the partner flag set. -/
  | pairFaultRx (lane seq : Nat) (r : FaultRec)
  /-- RELEASE_NOTE_RX (R426): A partner RELEASE_NOTE reports that the partner has given up custody. -/
  | releaseNoteRx (lane seq : Nat)
  /-- TOKEN_MSG_RX (R454): A TOKEN message is written to the ledger and acknowledged, or its acknowledgement is taken. -/
  | tokenMsgRx (lane seq : Nat) (e : Option TokenEntry) (ack : Nat)
  /-- TOKEN_RESEND (R454): An unacknowledged TOKEN entry is sent again every 1 ms. -/
  | tokenResend
  /-- SOLO_WAIT_EXPIRY (R112): SOLO_WAIT passes without a partner, so the module enters SOLO through R444. -/
  | soloWaitExpiry
  /-- ORPHAN_TIMEOUT (R451): ORPHAN_MS passes without a custody holder, so a shadow takes custody without READY. -/
  | orphanTimeout
  /-- SAFE_HOLD_EXPIRY (R472): SAFE_HOLD_MS passes with CUST_PEER de-asserted, so the module takes safe-mode custody. -/
  | safeHoldExpiry
  /-- SERVICE_LIMIT_REACHED (R113): GLB.SERVICE.LIMIT minutes pass in SERVICE, so the module leaves SERVICE. -/
  | serviceLimitReached
  /-- FAULT_F3_RAISE (R447): A fault of class F3 or F4 makes the holder de-assert CUST_HOLD and send RELEASE_NOTE. -/
  | faultF3Raise (code cls inst detail : Nat)
  /-- HO_COPY_RX (R180): The handover destination installs the copied slice state S(k0). -/
  | hoCopyRx (m : HoMsg) (stamp : Nat)
  /-- HO_DIGEST_RX (R180): A handover DIGEST is compared, and MATCHED counts up or resets. -/
  | hoDigestRx (m : HoMsg)
  /-- HO_DIGEST_MISSING (R180): A handover DIGEST has not arrived by d_{n+2}, so the match count resets. -/
  | hoDigestMissing
  /-- HO_COPY_DEADLINE (R180): The copy is not complete by d_{k0} + D, so the copy fails. -/
  | hoCopyDeadline
  /-- HO_COMPARE_TIMEOUT (R180): The match count has not been reached within 10 × HANDOVER_TICKS, so the handover fails. -/
  | hoCompareTimeout
  /-- HO_READY_RX (R181): The source chooses m on READY and sends GRANT(m). -/
  | hoReadyRx (m : HoMsg)
  /-- HO_GRANT_RX (R181): The destination answers GRANT(m) with ACCEPT(m) or CANCEL. -/
  | hoGrantRx (m : HoMsg)
  /-- HO_ACCEPT_RX (R181): The source commits the ledger entry released at m. -/
  | hoAcceptRx (m : HoMsg)
  /-- HO_RELEASE_TX (R181): At d_{m−1}, the source sends RELEASE(m) or CANCEL and closes or keeps its slice gate. -/
  | hoReleaseTx
  /-- HO_RELEASE_RX (R181): The destination opens its slice gate at d_m, commits the token and sends TAKEN(m). -/
  | hoReleaseRx (m : HoMsg) (stamp : Nat)
  /-- HO_TAKEN_RX (R181): The source commits passed. -/
  | hoTakenRx (m : HoMsg)
  /-- HO_NOT_TAKEN_RX (R183): The source commits reclaimed and reopens its gate. -/
  | hoNotTakenRx (m : HoMsg)
  /-- HO_CANCEL_RX (R182): A CANCEL before RELEASE leaves the token at the source and fails the handover. -/
  | hoCancelRx (m : HoMsg)
  /-- HO_DOUBT (R183): No answer 1 ms after d_m puts the token in doubt, and QUERY is sent every 1 ms. -/
  | hoDoubt
  /-- HO_QUERY_RX (R183): The destination answers a QUERY from its journal. -/
  | hoQueryRx (m : HoMsg) (path : Nat)
  /-- STATUS_READ (R695): The command writes the status record with the active faults. -/
  | statusRead (q : Req) (len : Nat)
  /-- JOURNAL_READ (R696): The command reads event or key journal entries from LSEQ FROM. -/
  | journalRead (q : Req) (sel start len : Nat)
  /-- COUNTER_READ (R697): The command reads, and may clear, every counter of one block in one cycle. -/
  | counterRead (q : Req) (block : Nat) (clear : Bool) (len : Nat)
  /-- CFG_STAGE (R121): The command stores a signed configuration revision in flash. -/
  | cfgStage (q : Req) (rev : Revision)
  /-- CFG_ACTIVATE (R121): The command sets the pending revision pointer for the next boot. -/
  | cfgActivate (q : Req) (num : Nat)
  /-- CFG_CANCEL (R121): The command removes a stored revision. -/
  | cfgCancel (q : Req) (num : Nat)
  /-- FW_STAGE (R632): The command verifies and stages a firmware image. -/
  | fwStage (q : Req) (img : FwImage)
  /-- MODULE_RESET (R118): The command requests a module reset where the state allows it. -/
  | moduleReset (q : Req)
  /-- CUSTODY_RELEASE (R449): The command gives up custody after the next decision, without a fault. -/
  | custodyRelease (q : Req) (force : Bool)
  /-- SERVICE_ENTER (R649): The command enters SERVICE after the service proof is verified. -/
  | serviceEnter (q : Req) (len : Nat) (keepCustody proofOk : Bool)
  /-- SERVICE_LEAVE (R113): The command leaves SERVICE, removing forces and injections, and enters SYNC. -/
  | serviceLeave (q : Req)
  /-- FORCE_SET (R496): The command forces one I or Q bit from the next boundary. -/
  | forceSet (q : Req) (addr : Nat) (value : Bool)
  /-- FORCE_CLEAR (R496): The command removes one force entry, or all of them. -/
  | forceClear (q : Req) (addr : Nat)
  /-- INJECT_START (R698): The command starts a fault injection from a descriptor. -/
  | injectStart (q : Req) (len : Nat) (d : InjDesc)
  /-- INJECT_STOP (R699): The command ends one injection, or all injections. -/
  | injectStop (q : Req) (id : Nat)
  /-- INJECT_END (R699): An injection's duration, limit or tick count expires at a boundary. -/
  | injectEnd (id now : Nat)
  /-- SLOT_LOAD (R330): The command verifies a function image and loads it into a slot on all rods. -/
  | slotLoad (q : Req) (slot len key : Nat) (img : FnImage)
  /-- SLOT_ADMIT (R331): The command admits a loaded slot against the engines' cycle budget. -/
  | slotAdmit (q : Req) (slot : Nat)
  /-- SLOT_UNLOAD (R334): The command empties a slot and releases its memory and quota. -/
  | slotUnload (q : Req) (slot : Nat)
  /-- SLOT_SHADOW (R334): The command moves a slot to SHADOW_RUN at the next boundary. -/
  | slotShadow (q : Req) (slot : Nat)
  /-- SLOT_RUN (R334): The command moves a shadow slot to RUNNING at the next boundary. -/
  | slotRun (q : Req) (slot : Nat)
  /-- SLOT_STOP (R334): The command returns a computed slot to ADMITTED at the next boundary. -/
  | slotStop (q : Req) (slot : Nat)
  /-- SLOT_GROUP (R340): The command changes a slot's setting group, its mode, or clears its sticky flags. -/
  | slotGroup (q : Req) (slot group mode : Nat) (clear : Bool)
  /-- CLE_LOAD (R491): The command verifies and stores the CLE program. -/
  | cleLoad (q : Req) (len key : Nat) (img : CleImage)
  /-- CLE_START (R490): The command starts the CLE warm or cold at the next boundary. -/
  | cleStart (q : Req) (cold : Bool)
  /-- CLE_STOP (R490): The command stops the CLE at the next boundary. -/
  | cleStop (q : Req)
  /-- CLE_WRITE (R493): The command changes one marker, constant bit or constant word at a cycle start. -/
  | cleWrite (q : Req) (target value at' : Nat)
  /-- SLICE_FREEZE (R172): The command stops a slice's rings and mailbox at the next boundary and writes its image. -/
  | sliceFreeze (q : Req) (slice buflen buf : Nat)
  /-- FREEZE_COMPLETE (R172): DMA drains and the freeze image is written, so the freeze completes with OK. -/
  | freezeComplete
  /-- SLICE_RESTORE (R173): The command restores a slice image, or thaws a frozen slice, at the next boundary. -/
  | sliceRestore (q : Req) (slice mode : Nat) (b : ImageBuf)
  /-- HANDOVER_BEGIN (R177): The command starts a handover of a protection slice as source or destination. -/
  | handoverBegin (q : Req) (slice peer role path peerSlice : Nat)
  /-- HANDOVER_ABORT (R182): The command aborts a handover before RELEASE has been sent. -/
  | handoverAbort (q : Req) (slice : Nat)
  /-- KEY_STAGE (R641): The command stages a new key for a slot. -/
  | keyStage (q : Req) (r : KeyRecord)
  /-- KEY_VERIFY (R642): The command proves a staged key by TEST, PEER or SELF. -/
  | keyVerify (q : Req) (slot method len : Nat) (proofOk : Bool)
  /-- KEY_PEER_PROOF (R642): An MKPDU under the staged CAK arrives, or 60 s pass, ending a PEER proof. -/
  | keyPeerProof (slot : Nat) (arrived : Bool) (now : Nat)
  /-- KEY_COMMIT (R643): The command writes the new blob and journal entry, swaps the generation and destroys the old blob, or destroys the slot. -/
  | keyCommit (q : Req) (slot : Nat) (destroy : Bool)
  /-- KEY_STAGE_EXPIRY (R642): A stage not committed within STAGE_TTL_S is discarded. -/
  | keyStageExpiry (slot now : Nat)
  /-- LIFECYCLE_ADVANCE (R648): The command destroys non-surviving slots and blows the life-cycle fuse. -/
  | lifecycleAdvance (q : Req) (target serialByte : Nat)
  /-- RCK_MODEL_LOAD (R603): The command loads, replaces or deletes district-model records as a whole. -/
  | rckModelLoad (q : Req) (len mode : Nat) (buf : List Nat)
  /-- RCK_SOLVE_NOW (R627): The command starts a solve at once, warm or cold. -/
  | rckSolveNow (q : Req) (cold : Bool) (now : Nat)
  /-- RCK_RULES_LOAD (R622): The command replaces the slice's fallback rule table. -/
  | rckRulesLoad (q : Req) (len : Nat) (buf : List Nat)
  /-- REC_FETCH (R551): The command delivers a chunk of one COMTRADE part of a record. -/
  | recFetch (q : Req) (id part len off buf : Nat)
  /-- MAILBOX_RELAY (R167): An OUT entry is relayed into the destination's IN ring, or written back with an error. -/
  | mailboxRelay (slice : Nat) (x : MbWork)
  /-- MB_CTRL_WRITE (R165): A write of EN enables or stops a mailbox, and enabling resets its indices. -/
  | mbCtrlWrite (slice data : Nat)
  /-- MB_OUT_DB (R165): A doorbell write gives a new OUT producer index. -/
  | mbOutDb (slice data : Nat)
  /-- MB_IN_DB (R165): A doorbell write gives a new IN consumer index. -/
  | mbInDb (slice data : Nat)
  /-- MB_EVCLR (R165): A write clears the mailbox event flag. -/
  | mbEvclr (slice data : Nat)
  /-- MAILBOX_DMA_ERROR (R170): A DMA error on a mailbox ring stops both of its rings. -/
  | mailboxDmaError (slice : Nat)
  /-- DOORBELL (R135): A DB write is accepted as a new ring index, or is ignored and counted. -/
  | doorbell (slice k data : Nat)
  /-- EVCLR (R138): A write clears a ring's event flag. -/
  | evclr (slice k data : Nat)
  /-- RING_ENABLE (R140): A write of CFG.EN = 1 enables a ring after the checks. -/
  | ringEnable (ring data : Nat)
  /-- RING_DISABLE (R141): A write of CFG.EN = 0 stops a ring and completes the entries already taken. -/
  | ringDisable (ring data : Nat)
  /-- RING_STOP_DONE (R141): The stop of a ring completes, and RSTAT.ACTIVE reads 0. -/
  | ringStopDone (ring : Nat)
  /-- TX_FETCH (R142): The module fetches a complete TX frame from a ring into beads. -/
  | txFetch (ring : Nat) (entries : List TxEntry) (bytes : List Nat) (now : Nat) (luck : List Nat)
  /-- RX_PLACE (R150): A frame for the host is placed into RX ring entries, or dropped or rewound. -/
  | rxPlace (lens : List Nat) (now : Nat) (luck : List Nat)
  /-- CMD_FETCH (R146): A CMD or REC entry is taken and executed in ring order. -/
  | cmdFetch (ring opcode version : Nat)
  /-- EVQ_WRITE (R147): An event entry is written to an EVQ ring, or held or dropped when the ring is full. -/
  | evqWrite
  /-- RING_DMA_ERROR (R149): A DMA request of a ring fails, so the ring stops with fault 0x0201. -/
  | ringDmaError (ring kind addr : Nat)
  /-- COAL_TIMER_EXPIRY (R153): COAL.USEC passes with pending write-backs, so the ring's event flag is set. -/
  | coalTimerExpiry (ring : Nat)
  /-- EVT_SRC_WRITE (R62): A write to EVT.SRC[i] sets the routing and signals at once when the flag is already set. -/
  | evtSrcWrite (source : Nat) (data : Word)
  /-- MSIX_SIGNAL (R62): A source flag goes from 0 to 1 and signals its MSI-X vector. -/
  | msixSignal (source : Nat)
  /-- BLOCK_COMMIT_WRITE (R56): A write of COMMIT checks the shadow as a set and captures it for a boundary. -/
  | blockCommitWrite (block : Nat) (discard : Bool)
  /-- BLOCK_DISCARD_WRITE (R58): A write of DISCARD reloads the shadow from the active values. -/
  | blockDiscardWrite (block : Nat)
  /-- RESET_CTRL_WRITE (R124): A write of RESET with the correct key requests a module reset. -/
  | resetCtrlWrite (data : Word)
  /-- SLICE_VALID_WRITE (R159): A write that sets VALID checks the slice and may mint its custody token. -/
  | sliceValidWrite (slice : Nat) (data : Word)
  /-- SVI_ENABLE (R20): A write of SVI.CTRL.EN = 1 enables the aligner at the next boundary, with any new rate or release offset. -/
  | sviEnable
  /-- SVI_DISABLE (R303): A write of SVI.CTRL.EN = 0 discards the open images and makes every tick idle. -/
  | sviDisable
  /-- ROD_ENABLE_CHANGE (R413): A change of ROD.CTRL.EN starts the rods together, or turns them OFF. -/
  | rodEnableChange (en : Bool)
  /-- PORT_ENABLE_CHANGE (R237): A port starts or stops operating, and its queues flush on stop. -/
  | portEnableChange (port : Nat) (ident : OptIdent)
  /-- INCR_HI_WRITE (R188): A write of INCR_HI applies the staged increment, clamped to the permitted range. -/
  | incrHiWrite (data : Word)
  /-- STEP_HI_WRITE (R190): A write of STEP_HI arms a phase step, or refuses it. -/
  | stepHiWrite (data : Word)
  /-- STEP_APPLY (R190): An armed step is applied at a counter cycle outside every vote window. -/
  | stepApply (now : Nat)
  /-- GCL_CHANGE_WRITE (R205): A write of CHANGE, or of EN from 0 to 1, schedules the admin list for the switch instant. -/
  | gclChangeWrite (port : Nat) (data : Word)
  /-- GCL_DISABLE (R205): A write of EN = 0 cancels a pending change and opens all gates. -/
  | gclDisable (port : Nat)
  /-- DIEDGE_POP (R208): A read pops the oldest DI edge entry and latches its stamp. -/
  | diedgePop
  /-- TIME_LATCH_READ (R189): A read of TIME_NS latches the seconds of the same counter cycle. -/
  | timeLatchRead (addr : Nat)
  /-- PTP_SYNC_RX (R193): A Sync, or a PPS_IN measurement, updates the servo and may meet the lock criterion. -/
  | ptpSyncRx (m : ServoSample)
  /-- PTP_ANNOUNCE_RX (R196): An Announce message feeds the best-master clock algorithm. -/
  | ptpAnnounceRx (m : Announce)
  /-- PTP_PDELAY (R196): A peer-delay exchange measures the link delay on each PTP port. -/
  | ptpPdelay (port : Nat) (x : PdelayTimes)
  /-- PTP_SOURCE_LOSS (R193): No Sync or PPS_IN edge arrives within the timeout, so LOCKED passes to HOLDOVER. -/
  | ptpSourceLoss
  /-- HOLDOVER_MAX_EXPIRY (R193): HOLD_MAX is reached in HOLDOVER, so the class moves to FREE_RUN. -/
  | holdoverMaxExpiry
  /-- REF_MEASURE (R192): REF_IN is measured every second, and the PLL may switch source. -/
  | refMeasure (deviation : Int)
  /-- REF_LOSS (R192): REF_IN is lost for 2 µs, so the PLL switches back to the TCXO. -/
  | refLoss (deviation : Int)
  /-- PPS_OUT_PULSE (R206): PPS_OUT rises at each whole second of module time. -/
  | ppsOutPulse
  /-- PPS_IN_EDGE (R207): A PPS_IN rising edge is stamped, or ignored as a glitch. -/
  | ppsInEdge (stamp : Nat)
  /-- DI_EDGE (R208): A selected DI edge is stamped into the FIFO, or dropped when it is full. -/
  | diEdge (input : Nat) (falling : Bool) (stamp : Nat)
  /-- RTC_WRITE_CROSS (R213): A queued backup-domain write crosses at a count edge. -/
  | rtcWriteCross (counts : Nat)
  /-- RTC_QUEUE_FULL (R213): A write that finds the crossing queue full has no effect and sets QFULL. -/
  | rtcQueueFull
  /-- CAL_SET (R216): A write of SET checks the staged date and time and applies them. -/
  | calSet (sub : Nat)
  /-- DST_ADD (R221): DST_CMD = 1 adds one hour at the next second edge. -/
  | dstAdd
  /-- DST_SUBTRACT (R221): DST_CMD = 2 subtracts one hour and starts the repeated hour. -/
  | dstSubtract
  /-- CAL_SHIFT (R219): A SHIFT write moves the calendar by k counts. -/
  | calShift (back : Bool) (count : Nat)
  /-- OSF_CLEAR (R220): A W1C of OSF clears it only when TIME_SET is 1. -/
  | osfClear
  /-- CAL_SECOND_EDGE (R226): A calendar second edge advances the calendar, applies leap seconds, evaluates the alarms and stamps EDGE. -/
  | calSecondEdge (stamp : Nat)
  /-- OSC_STOP (R220): The 32.768 kHz oscillator stops for more than 4 periods, setting OSF. -/
  | oscStop
  /-- WAKE_FIRE (R227): The periodic wake counter reaches N × base and fires. -/
  | wakeFire
  /-- PWRON_REQ_ASSERT (R228): A selected event in OFF or VIGIL asserts PWRON_REQ. -/
  | pwronReqAssert
  /-- PWRON_TIMEOUT (R228): PWRON_TIMEOUT passes, so the request de-asserts and PWRON_TO is set. -/
  | pwronTimeout
  /-- TAMPER_ACTIVE (R652): A tamper source becomes active, is latched, and each group takes its response. -/
  | tamperActive (source sub : Nat)
  /-- TAMPER_INACTIVE (R651): A tamper condition has been absent for 1 s, so the source becomes inactive. -/
  | tamperInactive (source : Nat)
  /-- TAMPER_CLEAR (R655): A write of TMP.CTRL.CLEAR clears the latch and every lock in SERVICE. -/
  | tamperClear
  /-- NONCE_READ (R649): A read of NONCE[0] draws a new service nonce. -/
  | nonceRead (now : Nat)
  /-- ROD_REARM (R413): A write of REARM in SERVICE moves a LOCKED_OUT rod to RESETTING. -/
  | rodRearm (rod : Nat)
  /-- FDB_INSTALL (R278): FDB_CMD OP = 1 installs a forwarding entry at once. -/
  | fdbInstall (index : Nat)
  /-- FDB_READ (R278): FDB_CMD OP = 2 copies a forwarding entry into the staging registers. -/
  | fdbRead (index : Nat)
  /-- GSUB_INSTALL (R308): GSUB_CMD OP = 1 installs a GOOSE subscription from the next boundary. -/
  | gsubInstall (index : Nat)
  /-- GSUB_READ (R308): GSUB_CMD OP = 2 copies a GOOSE subscription into the staging words. -/
  | gsubRead (index : Nat)
  /-- GCB_INSTALL (R465): GCB_CMD OP = 1 installs a GOOSE control block from the next boundary. -/
  | gcbInstall (index : Nat)
  /-- GCB_READ (R465): GCB_CMD OP = 2 copies a control block and its sequence state into the staging registers. -/
  | gcbRead (index : Nat)
  /-- CH_INSTALL (R528): CH_CMD OP = 1 installs a recorder channel and empties the ring. -/
  | chInstall (bin : Bool) (index : Nat)
  /-- CH_READ (R527): CH_CMD OP = 2 copies a recorder channel entry into the staging words. -/
  | chRead (bin : Bool) (index : Nat)
  /-- MPT_INSTALL (R544): MPT_CMD OP = 1 installs a mask point. -/
  | mptInstall (index : Nat)
  /-- MPT_READ (R544): MPT_CMD OP = 2 reads a mask point. -/
  | mptRead (index : Nat)
  /-- KEEP_RECORD (R543): KEEP_CMD OP = 1 marks a record KEEP. -/
  | keepRecord
  /-- RELEASE_RECORD (R543): KEEP_CMD OP = 2 releases a kept record. -/
  | releaseRecord
  /-- DELETE_RECORD (R543): KEEP_CMD OP = 3 deletes a record and aborts any fetch of it. -/
  | deleteRecord
  /-- REC_FIRE (R530): A write of CMD.FIRE triggers the recorder. -/
  | recFire
  /-- REC_ARM (R532): A write of CMD.ARM arms the recorder with a new record id. -/
  | recArm
  /-- REC_DISARM (R532): A write of CMD.DISARM disarms the recorder. -/
  | recDisarm
  /-- RECORDER_ROW (R524): The recorder writes one ring row per tick and evaluates the triggers on it. -/
  | recorderRow (tick : Nat)
  /-- SETTLEMENT_END (R537): 10 ms after entry to POST, S, T0 and E are fixed. -/
  | settlementEnd
  /-- RECORD_CLOSE (R541): Module time passes E + 1 ms, and the record closes once its segments are committed. -/
  | recordClose
  /-- REARM_TIMEOUT (R532): REARM_MS elapses with AUTO_REARM, so the recorder re-arms. -/
  | rearmTimeout
  /-- FLASH_SEGMENT_COMMIT (R541): One second of a record becomes durable in flash. -/
  | flashSegmentCommit (id wear : Nat) (x : SegWrite)
  /-- GROUP_ARM_RX (R536): A group ARM message arms the member with the carried record id. -/
  | groupArmRx (m : GrpMsg)
  /-- GROUP_FIRE_RX (R536): A group FIRE message counts as a trigger when its id matches. -/
  | groupFireRx (m : GrpMsg) (now : Nat)
  /-- WAVE_TS_RX (R549): A far-end wavefront arrival gives Δ and the fault distance. -/
  | waveTsRx (m : GrpMsg) (now : Nat)
  /-- WAVEFRONT_DETECT (R546): A wavefront is detected in the wave path and may open a wave capture. -/
  | wavefrontDetect (dets : List WaveDet)
  /-- FAR_ARRIVAL_TIMEOUT (R549): No far arrival comes within 20 ms, so TWL_RESULT STATUS is 2. -/
  | farArrivalTimeout
  /-- WAVE_CAPTURE_CLOSE (R548): A wave capture's window has passed and its data are committed. -/
  | waveCaptureClose
  /-- NRG_WINDOW_END (R560): A metering window ends, and energies are classified and accumulated. -/
  | nrgWindowEnd (point : Nat)
  /-- NRG_TICK (R557): A metering point forms the products of a tick from the image mirror. -/
  | nrgTick (point tick : Nat)
  /-- PULSE_START (R567): A pulse output starts a pulse from its backlog with the computed width. -/
  | pulseStart (out now : Nat)
  /-- HEAT_STEP (R571): A heat-meter step integrates volume and heat or cold, or counts error time. -/
  | heatStep (meter now : Nat)
  /-- HEAT_REPORT_WRITE (R569): A write of REP_V takes a staged heat-meter report. -/
  | heatReportWrite (meter lph : Nat)
  /-- ACC_SNAPSHOT (R565): A write of ACC_SEL takes a snapshot of one point's or meter's accumulators. -/
  | accSnapshot (heat : Bool) (index : Nat)
  /-- VIGIL_SECOND (R572): At each calendar second in VIGIL, charge is accumulated, unaccounted flow checked and a record stored. -/
  | vigilSecond (second n : Nat) (sums : List (Nat × Nat × Nat × Nat))
  /-- LEDGER_COMMIT (R673): Every 10 ms a ledger commit writes the NRG state after the energy and pulse audits. -/
  | ledgerCommit (dur now : Nat) (ok : Bool)
  /-- TALLY_AUDIT (R676): Every 1 ms the tally strobe latches counters and checks the identities. -/
  | tallyAudit (late : List Nat)
  /-- PER_WRITE_DONE (R664): An immediate write to the persistent store becomes durable, or fails read-back. -/
  | perWriteDone (ok : Bool) (now : Nat)
  /-- LOOP_EXECUTE (R578): A due loop reads its inputs, runs PID and supervision, and sends a SET frame. -/
  | loopExecute (loop tick : Nat)
  /-- LOOP_OP_CLOSE (R588): OP = 1 closes the loop at its next execution. -/
  | loopOpClose (loop : Nat)
  /-- LOOP_OP_OPEN (R588): OP = 2 opens the loop at its next execution. -/
  | loopOpOpen (loop : Nat)
  /-- LOOP_OP_OFF (R588): OP = 3 takes the loop to OFF at its next execution. -/
  | loopOpOff (loop : Nat)
  /-- DEVICE_REPORT_RX (R591): A field-device REPORT is matched to a device and channel, or counted as bad. -/
  | deviceReportRx (src type ch status position value now : Nat)
  /-- DEVICE_REPORT_STALE (R591): A device report in use passes TIMEOUT_MS, raising fault 0x1202. -/
  | deviceReportStale (dev ch now : Nat)
  /-- SOLVE_START (R604): A periodic or requested solve snapshots the model and builds the programme. -/
  | solveStart (now : Nat)
  /-- SOLVE_END (R615): A solve ends with its outcome and, if it converged, a release. -/
  | solveEnd (r : SolveResult)
  /-- SETPOINT_RELEASE (R618): At a step boundary or after a solve, set-points are released to loops and batches. -/
  | setpointRelease (now : Nat) (dmaFail : List Nat)
  /-- HEADROOM_READ (R620): Every second, a GRIDPT's headroom is read, and a partial release may follow. -/
  | headroomRead (now : Nat) (dmaFail : List Nat)
  /-- ADC_TRIGGER (R513): An accepted ADC trigger starts a single average or a chain of sequences. -/
  | adcTrigger (trig : AdcTrig) (start : Nat) (delayed : Bool)
  /-- ADC_CMD_TRIG (R513): A write of CMD.TRIG gives a source-0 trigger. -/
  | adcCmdTrig (start : Nat) (delayed : Bool)
  /-- ADC_CMD_STOP (R513): A write of CMD.STOP ends a continuous chain after the average in progress. -/
  | adcCmdStop
  /-- ADC_RESULT (R515): An average completes and its results become readable. -/
  | adcResult (codes : List (Nat × List Int))
  /-- ADC_MONITOR_PAIR (R516): Each millisecond, one internal-monitor pair is converted and checked. -/
  | adcMonitorPair (readings : List (Nat × Int))
  /-- MOD_TEMP_EVAL (R506): Once per second, θ, g and δ are evaluated for the fine-path correction. -/
  | modTempEval
  /-- MOD_CHANNEL_FAULT (R508): A modulator channel becomes stuck or overrange. -/
  | modChannelFault (chan : Nat) (ev : ModEvent)
  /-- MOD_VDD_LIMIT (R503): MOD_VDD has been at its current limit for 10 ms, raising fault 0x0E04. -/
  | modVddLimit
  /-- TEMP_FAULT (R128): The cold plate exceeds 85 °C or the die exceeds 105 °C, raising fault 0x0002 or 0x0003. -/
  | tempFault (plate die : Int)
  /-- REGISTER_WRITE (R54): A write to a register without a row of its own takes effect, goes to the shadow, or is rejected by field class. -/
  | registerWrite (addr : Nat) (data : Word) (bytes : Nat)
  /-- SAMPLE_INSTANT (R23): At t_n the aligner samples DI0–DI7 for tick n, and the modulator fine path places its sample on tick n. -/
  | sampleInstant (di : Nat) (fine : List FineIn)
  /-- SRAM_SCRUB (R325): Each rod scrubs its SRAM every 500 ms and corrects and counts the correctable errors it finds. -/
  | sramScrub (rod corr : Nat)
  /-- PTP_SYNC_TX (R196): As a boundary clock, the module sends Sync on its master ports at logSyncInterval, with clockClass 187 in HOLDOVER and none in RTC_SEEDED or FREE_RUN. -/
  | ptpSyncTx (x : SyncTx)
  /-- MKA_HELLO_TX (R256): The keeper's MKA sends an MKPDU on each MACsec port every 2 s hello time. -/
  | mkaHelloTx
  /-- BACKUP_DOMAIN_POWER_UP (R220): The backup domain first receives power, sets OSF and takes the reset values marked backup. -/
  | backupDomainPowerUp
  /-- PCIE_LINK_CHANGE (R156): The PCIe link trains or changes width or speed, setting source 180 and clearing fault 0x0202. -/
  | pcieLinkChange (width speed : Nat)
  /-- BUS_MASTER_ENABLE (R170): Bus Master Enable returns to 1, and the suspended mailbox relay resumes delivery. -/
  | busMasterEnable (pasid : Bool)
  /-- MSIX_VECTOR_UNMASK (R62): A BAR4 write unmasks an MSI-X vector whose pending bit is set, so the vector is signalled under the PCI Express rules. -/
  | msixVectorUnmask (vector : Nat)
  /-- REGISTER_READ (R50): A read with its own behaviour: RC fields clear, a low word latches the high word under R48, and CAL_SUB latches the calendar under R218. -/
  | registerRead (a : BarRead) (counts : Nat)
  /-- CUST_PEER_FALL (R451): CUST_PEER falls, starting the time without a custody holder and changing the peer level seen by the gate and the status. -/
  | custPeerFall (stamp : Nat)
  /-- PLCA_STATUS_UP (R250): The PLCA status becomes true, and the 10BASE-T1S port leaves CSMA/CD for PLCA medium access. -/
  | plcaStatusUp (port : Nat)
  /-- FAULT_TIMER_EXPIRY (R67): A fault raise or clear condition that is a duration runs out, such as held for 1 s, 10 s or 60 s without the cause. -/
  | faultTimerExpiry (code unit detail : Nat) (raised : Bool) (now : Nat)
  /-- HARDWARE_PARITY_ERROR (R157): A parity or uncorrectable error appears in a unit's state, such as the ring engine, slice table, MAC state, publisher sequence state, CLE program memory, loop state, accumulator SRAM, Reckoner memory or injection engine, and raises that unit's fault. -/
  | hardwareParityError (code unit addr : Nat)
  /-- DESTROY_RETRY (R645): A key blob whose overwrite failed verification is destroyed again every 1 s until it verifies, clearing fault 0x1403. -/
  | destroyRetry (slot gen : Nat) (ok : Bool)
  /-- TAMPER_LOOP_TEST (R651): At 8 Hz or 1,024 Hz, a random bit is driven on each tamper loop and compared, single mismatches are counted in LOOPERR, and the loop drivers and sensor are self-checked. -/
  | tamperLoopTest (bad0 bad1 : Bool) (x : TamperSense) (failed : List Nat)
  deriving DecidableEq, Repr

end Sys2Proof
end

