-- ==== Sys2Proof/Decode.lean ====
section
/-! DEFINITION. The commands that words of the command table spell. -/

namespace Sys2Proof

/-- The command that a word of `nbits` bits spells. The table gives no row of this part any bits: commands are events, register
accesses and messages, and no word spells one. -/
def decodeTableWord (_nbits _w : Nat) : Option Instr := none

end Sys2Proof
end

