-- ==== Sys2Proof/Config.lean ====
section
/-! DEFINITION. What an implementation fixes and the spec leaves open: values no proof can see. -/

namespace Sys2Proof.Config

/-- Draws of the hardware random source (R249, R283, R432, R649), by the model's own counter. Free value (assumption 5). -/
opaque freeValue : Nat → Nat

/-- The partial sums that the next addition of a reduction takes, by the count of its terms and of the partial sums that are left:
the order of an accumulation is open (R611, assumption 17). -/
opaque reduceOrder : Nat → Nat → Nat × Nat

/-- SHA-384 over a message given as bytes; the function of the standard is not in the spec (assumption 6). -/
opaque sha384 : List Nat → Nat

/-- HMAC-SHA-384 of a message under key material named by a number (assumption 6). -/
opaque hmac384 : Nat → List Nat → Nat

/-- The key derivation of R634: label, context and length; the root secret is part of the function (assumption 6). -/
opaque kdf : Nat → List Nat → Nat → Nat

/-- The P-384 public key of a private scalar, as a number (FIPS 186-5; assumption 6). -/
opaque p384Public : Nat → Nat

/-- The position code of a value outside 0–3 and above for which R370 and R400 name none (assumption 5). -/
opaque openPosition : Int → Nat

/-- The Device Serial Number of the module (R174, R429), a constant of the part (assumption 7). -/
opaque serialNumber : Nat

end Sys2Proof.Config
end

