-- ==== Sys2Proof/Machine/Elements.lean ====
section
/-! DEFINITION. The element catalogue (R353–R401): every element's arithmetic over its inputs, its settings of the active
group and its state words, and the computation of one slot for one image (R336, R338). The order of the state words of an
element is the model's (assumption 11). -/

namespace Sys2Proof.Machine

/-- A signal: value (imaginary part 0 but for a phasor) and validity 0 good, 1 questionable, 2 invalid (R357). -/
structure Val where
  re : Int := 0
  im : Int := 0
  v : Nat := 0
  deriving DecidableEq, Repr

/-- What an element delivers in a tick: outputs, new state words, flags raised (1 SAT, 2 OVF, 4 DIV0), record bits,
record words, mirror entries as words, and TOPO's request. -/
structure EOut where
  outs : List Val := []
  st : List Nat := []
  fl : Nat := 0
  bits : Nat := 0
  vals : List (Nat × Nat) := []
  mirror : List (List Nat) := []
  deriving DecidableEq, Repr

/-- What a slot reads in a tick (R336): image, samples per second, Δ of R361, active group, CLE output words and whether the
CLE is faulted, the bindings, whether the slot is in SHADOW_RUN, and its number. -/
structure Ctx where
  img : TickImage
  f : Nat
  delta : Nat
  group : Nat
  cleQ : List Nat
  cleBad : Bool
  bindings : List (Nat × Nat)
  shadow : Bool
  slot : Nat
  deriving DecidableEq, Repr

/-! ### Arithmetic of R343 -/

/-- Largest INT32. -/
def i32max : Int := 2147483647

/-- Store to a 32-bit signed format: saturated, with SAT. -/
def store32 (x : Int) : Int × Nat := if x < -2147483648 then (-2147483648, 1) else if x > i32max then (i32max, 1) else (x, 0)

/-- Store to kind M: a negative result gives 0 with SAT (R356). -/
def storeM (x : Int) : Int × Nat := if x < 0 then (0, 1) else if x > i32max then (i32max, 1) else (x, 0)

/-- Store by kind. -/
def storeK (k : Kind) (x : Int) : Int × Nat := if k = .m then storeM x else store32 x

/-- An accumulation in 72 bits: beyond the range it saturates and sets OVF. -/
def acc72 (x : Int) : Int × Nat :=
  if x < -(2 ^ 71 : Nat) then (-(2 ^ 71 : Nat), 2) else if x > (2 ^ 71 : Nat) - 1 then ((2 ^ 71 : Nat) - 1, 2) else (x, 0)

/-- Division of R343 to a 32-bit format: DIV0 gives the maximum with the sign of a, or 0. -/
def div32 (a b : Int) : Int × Nat :=
  if b = 0 then (if a = 0 then 0 else if a < 0 then -2147483648 else i32max, 4)
  else store32 (if b < 0 then roundDiv (-a) b.natAbs else roundDiv a b.natAbs)

/-- Angle addition wraps modulo 2^32 (R355). -/
def wrapA (x : Int) : Int := signed 32 (unsigned 32 x)

/-- Integer square root by bits, from 2^(k−1) down (R365). -/
def sqrtBits (u : Nat) : Nat → Nat → Nat
  | 0, r => r
  | k + 1, r => if (r + 2 ^ k) * (r + 2 ^ k) ≤ u then sqrtBits u k (r + 2 ^ k) else sqrtBits u k r

/-- isqrt of R365: the square root rounded to the nearest integer. -/
def isqrt (u : Nat) : Nat :=
  let r := sqrtBits u 40 0
  if u - r * r > r then r + 1 else r

/-- |X|² of a phasor, exact. -/
def Val.sq (x : Val) : Int := x.re * x.re + x.im * x.im

/-- |X| of a phasor (R365). -/
def Val.abs (x : Val) : Nat := isqrt x.sq.toNat

/-- The product X × conj(Y), exact. -/
def mulConj (x y : Val) : Int × Int := (x.re * y.re + x.im * y.im, x.im * y.re - x.re * y.im)

/-- The product of two complex numbers, exact. -/
def mulC (x y : Int × Int) : Int × Int := (x.1 * y.1 - x.2 * y.2, x.1 * y.2 + x.2 * y.1)

/-- The rotations of R366 from step i on. -/
def cordic : List Int → Nat → Int → Int → Int → Int
  | [], _, _, _, z => z
  | a :: l, i, x, y, z =>
    if y > 0 then cordic l (i + 1) (x + roundDiv y (2 ^ i)) (y - roundDiv x (2 ^ i)) (z + a)
    else cordic l (i + 1) (x - roundDiv y (2 ^ i)) (y + roundDiv x (2 ^ i)) (z - a)

/-- atan2 of R366, of kind A. -/
def atan2 (y x : Int) : Int :=
  if x = 0 && y = 0 then 0
  else if x < 0 then wrapA (cordic atnTable 0 (-x) (-y) (2 ^ 31 : Nat)) else wrapA (cordic atnTable 0 x y 0)

/-- KR[N] = round(2^24 × √2 / N) (R367). -/
def krTable (n : Nat) : Nat := (sqrtBits (2 ^ 51 / (n * n)) 40 0 + 1) / 2

/-! ### State words -/

/-- Word i of a state as a signed number, and as an unsigned one. -/
def wS (st : List Nat) (i : Nat) : Int := signed 32 (st.getD i 0)
def wU (st : List Nat) (i : Nat) : Nat := st.getD i 0

/-- A number as a state word. -/
def toW (x : Int) : Nat := unsigned 32 x

/-- NMIN and NMAX of R373. -/
def nMin (f fnom : Nat) : Nat := f / (fnom + 10)
def nMax (f fnom : Nat) : Nat := (f + (fnom - 10) - 1) / (fnom - 10)

/-- State words of an element (R368). -/
def stateWords (f : Nat) : Cfg → Nat
  | .gin .. => 1
  | .dft _ fnom _ => 2 * nMax f fnom + 10
  | .freq _ _ navg m _ => navg + m + 6
  | .rms fnom _ nfix => let nr := if nfix = 0 then nMax f fnom else nfix; nr + (nr + 1) / 2 + 8
  | .mag .. => 1
  | .mho .. => 4
  | .therm .. => 4
  | .idmt .. => 3
  | .cmp .. => 1
  | .timer .. => 3
  | .latch .. => 1
  | .edge .. => 1
  | .ctr .. => 2
  | .topo .. => 4
  | _ => 0

/-- A list cut or filled with zeros to n entries. -/
def fitTo (n : Nat) (l : List Nat) : List Nat := (l ++ List.replicate n 0).take n

/-! ### Taps -/

/-- Validity of a quality word (R357). -/
def vOf (q : Nat) : Nat := if q % 4 = 0 then 0 else if q % 4 = 3 then 1 else 2

/-- An image channel or member by its index; not listed: 0 with quality word 1 (R307, R312). -/
def chanAt (k : Nat) : List ImgChan → ImgChan
  | [] => ⟨k, 0, 1⟩
  | c :: l => if c.idx = k then c else chanAt k l

/-- The INDEX of a binding. -/
def Ctx.bind (c : Ctx) (b : Nat) : Nat := (c.bindings.getD b (0, 0)).2

/-- The position 0–3 that a value stands for where the spec names one; beyond, an open value (assumption 5). -/
def position (x : Int) : Nat :=
  if x < 0 then Config.openPosition x % 4 else if x > 3 then 3 else x.toNat

/-- A Boolean as a number. -/
def b2i (b : Bool) : Int := if b then 1 else 0

def evalTap (c : Ctx) (b gm gs : Nat) : EOut :=
  let ch := chanAt (c.bind b) c.img.chans
  let (y, fl) := store32 (roundDiv (ch.val * gm) (2 ^ (gs - 24)))
  { outs := [⟨y, 0, vOf ch.q⟩], fl := fl }

/-- GIN (R370): mode 1 delivers POS and B. -/
def evalGin (c : Ctx) (b mode : Nat) (st : List Nat) : EOut :=
  let ch := chanAt (c.bind b) c.img.members
  let v := vOf ch.q
  let last : Int := wU st 0
  if mode = 0 then
    let x := b2i (ch.val ≠ 0)
    { outs := [⟨x, 0, v⟩], st := [toW x] }
  else if mode = 1 then
    let p := position ch.val
    let (x, vb) := if p = 2 then ((1 : Int), v) else if p = 1 then (0, v) else if p = 0 then (last, max v 1) else (last, 2)
    { outs := [⟨p, 0, v⟩, ⟨x, 0, vb⟩], st := [toW x] }
  else if mode = 2 then { outs := [⟨ch.val, 0, v⟩], st := [wU st 0] }
  else
    let (y, fl) := store32 (ch.val * 256)
    { outs := [⟨y, 0, v⟩], st := [wU st 0], fl := fl }

def evalDin (c : Ctx) (b : Nat) (inv : Bool) : EOut :=
  { outs := [⟨b2i ((decide ((c.img.di >>> c.bind b) % 2 = 1)) != inv), 0, 0⟩] }

/-- A bit of the CLE output words. -/
def qBit (q : List Nat) (a : Nat) : Bool := decide ((q.getD (a / 32) 0 >>> (a % 32)) % 2 = 1)

def evalClein (c : Ctx) (b : Nat) (inv : Bool) : EOut :=
  { outs := [⟨b2i (qBit c.cleQ (c.bind b) != inv), 0, if c.cleBad then 2 else 0⟩] }

/-! ### Histories (R362) -/

/-- Filled entries before the new one, and whether the history is emptied. -/
def histPlan (c : Ctx) (ran : Bool) : Nat × Bool :=
  if c.delta ≥ 4 || c.img.first || !ran then (0, true) else (c.delta - 1, false)

/-- The window nw of R373 from the frequency ft. -/
def windowOf (f fnom nw : Nat) (ft : Int) : Nat × Nat :=
  let (w, fl) := div32 (f * 65536) ft
  let w1 := if w < (nw : Int) - 1 then (nw : Int) - 1 else if w > nw + 1 then (nw : Int) + 1 else w
  let w2 := if w1 < nMin f fnom then (nMin f fnom : Int) else if w1 > nMax f fnom then (nMax f fnom : Int) else w1
  (w2.toNat, fl)

/-- The frequency that a tracking element takes: its reference of tick n − 1 unless invalid or absent. -/
def trackFreq (fnom : Nat) (fsrc : Option Nat) (prevF : Nat → Int × Nat) : Int :=
  match fsrc with
  | none => fnom * 65536
  | some e => let (x, v) := prevF e; if v = 2 then fnom * 65536 else x

/-- Entries of a history as (value, twiddle index, V), newest first, from the state words. -/
def ringOf : List Nat → List (Int × Nat × Nat)
  | a :: b :: l => (signed 32 a, b % 4096, b / 4096) :: ringOf l
  | _ => []

def ringWords : List (Int × Nat × Nat) → List Nat
  | [] => []
  | (x, k, v) :: l => toW x :: (k + 4096 * v) :: ringWords l

/-- Push m filled entries and then x, phi moving by dphi each (R362, R373). -/
def pushAll (dphi : Nat) (x : Int) (v : Nat) : Nat → Nat → List (Int × Nat × Nat) → Nat × List (Int × Nat × Nat)
  | 0, phi, r =>
    let p := (phi + dphi) % 2 ^ 32
    (p, (x, (p + 2 ^ 19) / 2 ^ 20 % 4096, v) :: r)
  | m + 1, phi, r =>
    let p := (phi + dphi) % 2 ^ 32
    let last := match r with
      | [] => 0
      | (y, _, _) :: _ => y
    pushAll dphi x v m p ((last, (p + 2 ^ 19) / 2 ^ 20 % 4096, 1) :: r)

/-- The worst V of a list of entries. -/
def worst (l : List (Int × Nat × Nat)) : Nat := l.foldl (fun m e => max m e.2.2) 0

/-- DFT (R373). State: nw, phi, count, run flag, six spare words, then the ring. -/
def evalDft (c : Ctx) (h fnom : Nat) (fsrc : Option Nat) (prevF : Nat → Int × Nat) (x : Val) (st : List Nat) : EOut :=
  let ft := trackFreq fnom fsrc prevF
  let dphi := unsigned 32 (roundDiv (ft * h * 65536) c.f)
  let (nw, fl0) := windowOf c.f fnom (wU st 0) ft
  let nmax := nMax c.f fnom
  let (m, empty) := histPlan c (wU st 3 == 1)
  let ring0 := if empty then [] else (ringOf (st.drop 10)).take (wU st 2)
  let phi0 := if empty then (wU st 1 + (c.delta - 1) * dphi) % 2 ^ 32 else wU st 1
  let (phi, ring1) := pushAll dphi x.re x.v m phi0 ring0
  let ring := ring1.take nmax
  let win := ring.take nw
  let (sr, f1) := acc72 (win.foldl (fun a e => a + e.1 * csTable e.2.1) 0)
  let (si, f2) := acc72 (win.foldl (fun a e => a - e.1 * snTable e.2.1) 0)
  let (re, f3) := store32 (roundDiv (roundDiv sr (2 ^ 30) * krTable nw) (2 ^ 24))
  let (im, f4) := store32 (roundDiv (roundDiv si (2 ^ 30) * krTable nw) (2 ^ 24))
  let st1 := [nw, phi, ring.length, 1, 0, 0, 0, 0, 0, 0] ++ fitTo (2 * nmax) (ringWords ring)
  if ring.length < nw then { outs := [⟨0, 0, 2⟩], st := st1, fl := fl0 }
  else { outs := [⟨re, im, worst win⟩], st := st1, fl := fl0 ||| f1 ||| f2 ||| f3 ||| f4 }

/-- RMS (R377). State: nw, count, run flag, five spare words, values, and V in half words. -/
def evalRms (c : Ctx) (fnom : Nat) (fsrc : Option Nat) (nfix : Nat) (prevF : Nat → Int × Nat) (x : Val)
    (st : List Nat) : EOut :=
  let nr := if nfix = 0 then nMax c.f fnom else nfix
  let (nw, fl0) := if nfix = 0 then windowOf c.f fnom (wU st 0) (trackFreq fnom fsrc prevF) else (nfix, 0)
  let (m, empty) := histPlan c (wU st 2 == 1)
  let vals := (st.drop 8).take nr
  let vws := st.drop (8 + nr)
  let old : List (Int × Nat × Nat) := (List.range (wU st 1)).map fun i =>
    (signed 32 (vals.getD i 0), 0, vws.getD (i / 2) 0 >>> (16 * (i % 2)) % 65536)
  let (_, ring1) := pushAll 0 x.re x.v m 0 (if empty then [] else old)
  let ring := ring1.take nr
  let win := ring.take nw
  let (sum, f1) := acc72 (win.foldl (fun a e => a + e.1 * e.1) 0)
  let (y, f2) := storeM (isqrt (roundDiv sum nw).toNat)
  let vv := ring.map fun e => e.2.2
  let packed := (List.range ((nr + 1) / 2)).map fun i => vv.getD (2 * i) 0 + 65536 * vv.getD (2 * i + 1) 0
  { outs := [⟨y, 0, if ring.length < nw then 2 else worst win⟩],
    st := [nw, ring.length, 1, 0, 0, 0, 0, 0] ++ fitTo nr (ring.map fun e => toW e.1) ++ packed,
    fl := fl0 ||| f1 ||| f2 }

/-- The F output that a FREQ element holds in its state, with its V (R364). -/
def freqOut (st : List Nat) : Int × Nat := (wS st 2, wU st 4 >>> 20 % 4)

/-- FREQ (R376). Its rings are emptied as R362 says for a history, while a tick with Δ of 2 or 3 adds nothing. State: Xp, F, RC, packed counts and V, a spare word, ring of fi (bit 31: clamped), ring of F. -/
def evalFreq (c : Ctx) (fnom : Nat) (trk : Bool) (navg m : Nat) (vmin : Int) (x : Val) (st : List Nat) : EOut :=
  let p := wU st 4
  let usable := p % 2 == 1
  let empty := (histPlan c true).2
  let nfi := if empty then 0 else p >>> 1 % 2 ^ 7
  let nF := if empty then 0 else p >>> 8 % 2 ^ 11
  let (fOld, vOld) := freqOut st
  let ft : Int := if trk && vOld ≠ 2 then fOld else fnom * 65536
  let fis := ((st.drop 6).take navg).take nfi
  let fs := ((st.drop (6 + navg)).take m).take nF
  let pack := fun (u : Bool) (a b va vb : Nat) => (if u then 1 else 0) + a * 2 + b * 256 + va * 2 ^ 20 + vb * 2 ^ 22
  let mk := fun (xr xi : Nat) (fv rc : Int) (pk : Nat) (l1 l2 : List Nat) =>
    [xr, xi, toW fv, toW rc, pk, 0] ++ fitTo navg l1 ++ fitTo m l2
  if x.v = 2 || decide (x.sq < vmin * vmin) then
    { outs := [⟨fOld, 0, 2⟩, ⟨wS st 3, 0, 2⟩], st := mk (wU st 0) (wU st 1) fOld (wS st 3) (pack false 0 0 2 2) [] [] }
  else
    let xp : Val := ⟨wS st 0, wS st 1, 0⟩
    let (fv, rc, l1, l2, fl) :=
      if c.delta = 1 && usable then
        let (pr, pi) := mulConj x xp
        let raw := ft + roundDiv (atan2 pi pr * c.f) 65536
        let lo : Int := (fnom - 10) * 65536
        let hi : Int := (fnom + 10) * 65536
        let fi := if raw < lo then lo else if raw > hi then hi else raw
        let w := toW fi + (if raw = fi then 0 else 2 ^ 31)
        let l1 := (w :: fis).take navg
        let fv := roundDiv (l1.foldl (fun (a : Int) e => a + ((e % 2 ^ 31 : Nat) : Int)) 0) navg
        let l2 := (toW fv :: fs).take m
        let (rc, fl) := store32 (roundDiv ((fv - signed 32 (l2.getLastD 0)) * c.f) m)
        (fv, rc, l1, l2, fl)
      else (fOld, wS st 3, fis, fs, 0)
    let va := max x.v (if l1.length < navg || l1.any (fun e => decide (2 ^ 31 ≤ e)) then 1 else 0)
    let vb := max x.v (if l2.length < m then 1 else 0)
    { outs := [⟨fv, 0, va⟩, ⟨rc, 0, vb⟩],
      st := mk (toW x.re) (toW x.im) fv rc (pack true l1.length l2.length va vb) l1 l2, fl := fl }

/-! ### Phasors and measurands -/

/-- SEQ (R374): a and a² in Q1.30. -/
def evalSeq (acb : Bool) (xa xb0 xc0 : Val) : EOut :=
  let xb := if acb then xc0 else xb0
  let xc := if acb then xb0 else xc0
  let a : Int × Int := (-536870912, 929887697)
  let a2 : Int × Int := (-536870912, -929887697)
  let v := max xa.v (max xb.v xc.v)
  let one : Int × Int := (1073741824, 0)
  let comb := fun (kb kc : Int × Int) =>
    let b := mulC kb (xb.re, xb.im)
    let d := mulC kc (xc.re, xc.im)
    let (re, f1) := store32 (roundDiv (xa.re * 1073741824 + b.1 + d.1) (3 * 2 ^ 30))
    let (im, f2) := store32 (roundDiv (xa.im * 1073741824 + b.2 + d.2) (3 * 2 ^ 30))
    ((⟨re, im, v⟩ : Val), f1 ||| f2)
  let (z, f1) := comb one one
  let (ps, f2) := comb a a2
  let (ns, f3) := comb a2 a
  { outs := [z, ps, ns], fl := f1 ||| f2 ||| f3 }

/-- Pairs of consecutive inputs. -/
def pairsOf : List Val → List (Val × Val)
  | a :: b :: l => (a, b) :: pairsOf l
  | _ => []

/-- The worst V of a list of signals. -/
def worstV (l : List Val) : Nat := l.foldl (fun m x => max m x.v) 0

/-- PWR (R375). -/
def evalPwr (ins : List Val) : EOut :=
  let ps := pairsOf ins
  let (p, f1) := store32 (roundDiv (ps.foldl (fun a e => a + (mulConj e.1 e.2).1) 0) (2 ^ 24))
  let (q, f2) := store32 (roundDiv (ps.foldl (fun a e => a + (mulConj e.1 e.2).2) 0) (2 ^ 24))
  let (s, f3) := storeM (isqrt (p * p + q * q).toNat)
  let v := worstV ins
  { outs := [⟨p, 0, v⟩, ⟨q, 0, v⟩, ⟨s, 0, v⟩], fl := f1 ||| f2 ||| f3 }

/-- HRAT (R378). -/
def evalHrat (imin : Int) (xh x1 : Val) : EOut :=
  if (x1.abs : Int) < imin then { outs := [⟨0, 0, x1.v⟩] }
  else
    let (r, fl) := div32 (xh.abs * 2 ^ 24) x1.abs
    { outs := [⟨r, 0, max xh.v x1.v⟩], fl := fl }

/-- MAG (R379). -/
def evalMag (amin : Int) (x : Val) (ref : Option Val) (st : List Nat) : EOut :=
  let (mg, fl) := storeM x.abs
  let v := match ref with
    | some r => max x.v r.v
    | none => x.v
  let small := decide ((x.abs : Int) < amin) || (match ref with
    | some r => decide ((r.abs : Int) < amin)
    | none => false)
  let an := if small then wS st 0 else match ref with
    | some r => let (pr, pi) := mulConj x r; atan2 pi pr
    | none => atan2 x.im x.re
  { outs := [⟨mg, 0, v⟩, ⟨an, 0, if small then max v 1 else v⟩], st := [toW an], fl := fl }

/-- ZLOOP (R380). Inputs VA, VB, VC, IA, IB, IC. -/
def evalZloop (loop : Nat) (k0 : Int × Int) (ins : List Val) : EOut :=
  let i := fun k => ins.getD k {}
  if loop < 3 then
    let vp := i loop
    let ip := i (3 + loop)
    let r := mulC k0 ((i 3).re + (i 4).re + (i 5).re, (i 3).im + (i 4).im + (i 5).im)
    let (re, f1) := store32 (roundDiv (ip.re * 2 ^ 28 + r.1) (2 ^ 28))
    let (im, f2) := store32 (roundDiv (ip.im * 2 ^ 28 + r.2) (2 ^ 28))
    let v := max vp.v (max (i 3).v (max (i 4).v (i 5).v))
    { outs := [⟨vp.re, vp.im, v⟩, ⟨re, im, v⟩], fl := f1 ||| f2 }
  else
    let a := loop - 3
    let b := (loop - 2) % 3
    let v := max (max (i a).v (i b).v) (max (i (3 + a)).v (i (3 + b)).v)
    let (vr, f1) := store32 ((i a).re - (i b).re)
    let (vi, f2) := store32 ((i a).im - (i b).im)
    let (ir, f3) := store32 ((i (3 + a)).re - (i (3 + b)).re)
    let (ii, f4) := store32 ((i (3 + a)).im - (i (3 + b)).im)
    { outs := [⟨vr, vi, v⟩, ⟨ir, ii, v⟩], fl := f1 ||| f2 ||| f3 ||| f4 }

/-! ### Protection characteristics -/

/-- Blocking by QMODE (R358), v the worst V of the inputs used. -/
def blockedBy (qmode v : Nat) : Bool := if qmode = 0 then v == 2 else if qmode = 1 then decide (1 ≤ v) else false

/-- MHO (R381). State: VM, its V, its age. -/
def evalMho (c : Ctx) (qmode : Nat) (zr : Int × Int) (imin vmin : Int) (memt : Nat) (vl il vp : Val) (st : List Nat) :
    EOut :=
  let age := wU st 3
  let vm : Val := ⟨wS st 0, wS st 1, wU st 2⟩
  let (pol, vm1, age1) : Option Val × Val × Nat :=
    if vp.v = 0 && decide (vmin * vmin ≤ vp.sq) then (some vp, vp, 0)
    else if age < memt then (some vm, vm, min (age + c.delta) 65535)
    else (none, vm, age)
  let st1 := [toW vm1.re, toW vm1.im, vm1.v, age1]
  match pol with
  | none => { outs := [⟨0, 0, vp.v⟩], st := st1 }
  | some pl =>
    if il.sq < imin * imin then { outs := [⟨0, 0, max il.v pl.v⟩], st := st1 }
    else
      let v := max vl.v (max il.v pl.v)
      let z := mulC (il.re, il.im) zr
      let sr := roundDiv z.1 (2 ^ 24) - vl.re
      let si := roundDiv z.2 (2 ^ 24) - vl.im
      let pu := decide (0 < sr * pl.re + si * pl.im) && !blockedBy qmode v
      { outs := [⟨b2i pu, 0, v⟩], st := st1 }

/-- QUAD (R382). -/
def evalQuad (qmode : Nat) (x xb rr rl : Int) (ul ut : Int × Int) (imin : Int) (vl il : Val) (dirb : Option Val) :
    EOut :=
  let v := max (max vl.v il.v) (match dirb with
    | some d => d.v
    | none => 0)
  let (pr, pi) := mulConj vl il
  let wr := roundDiv pr (2 ^ 24)
  let wi := roundDiv pi (2 ^ 24)
  let g := roundDiv il.sq (2 ^ 24)
  let top := (mulC (wr, wi - roundDiv (x * g) (2 ^ 24)) ut).2
  let right := (mulC (wr - roundDiv (rr * g) (2 ^ 24), wi) ul).2
  let left := (mulC (wr + roundDiv (rl * g) (2 ^ 24), wi) ul).2
  let dirOk := match dirb with
    | some d => d.re == 1
    | none => true
  let pu := decide (roundDiv (imin * imin) (2 ^ 24) ≤ g) && decide (top ≤ 0) &&
    decide (-roundDiv (xb * g) (2 ^ 24) ≤ wi) && decide (0 ≤ right) && decide (left ≤ 0) && dirOk
  { outs := [⟨b2i (pu && !blockedBy qmode v), 0, v⟩] }

/-- DIR (R383). -/
def evalDir (qmode : Nat) (rca lim imin vmin : Int) (io vp : Val) : EOut :=
  let v := max io.v vp.v
  let (pr, pi) := mulConj io vp
  let ang := wrapA (atan2 pi pr - rca)
  let off := decide ((io.abs : Int) < imin) || decide ((vp.abs : Int) < vmin) || blockedBy qmode v
  let fwd := decide ((ang.natAbs : Int) ≤ lim) && !off
  let rev := decide (((wrapA (ang - 2147483648)).natAbs : Int) ≤ lim) && !off
  { outs := [⟨b2i fwd, 0, v⟩, ⟨b2i rev, 0, v⟩] }

/-- The matched currents J_t of R384 with the flags of their stores. -/
def matched : List (Int × Int) → List Val → List Val × Nat
  | k :: ks, x :: xs =>
    let p := mulC k (x.re, x.im)
    let (re, f1) := store32 (roundDiv p.1 (2 ^ 28))
    let (im, f2) := store32 (roundDiv p.2 (2 ^ 28))
    let (l, f) := matched ks xs
    (⟨re, im, x.v⟩ :: l, f ||| f1 ||| f2)
  | _, _ => ([], 0)

/-- DIFF (R384). -/
def evalDiff (qmode : Nat) (ks : List (Int × Int)) (bmode : Nat) (idmin idhi ib2 s1 s2 : Int) (xs : List Val)
    (blk : Option Val) : EOut :=
  let (js, f0) := matched ks xs
  let sum : Val := ⟨js.foldl (fun a j => a + j.re) 0, js.foldl (fun a j => a + j.im) 0, 0⟩
  let (id, f1) := storeM sum.abs
  let total : Nat := js.foldl (fun a j => a + j.abs) 0
  let largest : Nat := js.foldl (fun a j => max a j.abs) 0
  let (ib, f2) := storeM (if bmode = 0 then roundDiv total 2 else largest)
  let thr0 := if ib ≤ ib2 then roundDiv (s1 * ib) (2 ^ 24) else roundDiv (s1 * ib2 + s2 * (ib - ib2)) (2 ^ 24)
  let thr := max thr0 idmin
  let v := max (worstV xs) (match blk with
    | some b => b.v
    | none => 0)
  let free := match blk with
    | some b => b.re != 1
    | none => true
  let ok := !blockedBy qmode v
  let opr := decide (thr ≤ id) && free && ok
  let opu := decide (idhi ≤ id) && ok
  { outs := [⟨b2i (opr || opu), 0, v⟩, ⟨b2i opr, 0, v⟩, ⟨b2i opu, 0, v⟩, ⟨id, 0, v⟩, ⟨ib, 0, v⟩],
    fl := f0 ||| f1 ||| f2 }

/-- THERM (R385). State: θ in two words, q, TRIP. -/
def evalTherm (c : Ctx) (invk kib : Int) (bh bc : Nat) (istop almlv trr : Int) (bhor : Nat) (rhor : Int) (im : Val)
    (st : List Nat) : EOut :=
  let θ0 : Int := (wU st 0 + wU st 1 * 2 ^ 32 : Nat)
  let r := roundDiv (im.re * invk) (2 ^ 24)
  let q := if im.v = 0 then min (roundDiv (r * r) (2 ^ 24)) i32max else wS st 2
  let beta := if istop ≤ im.re then bh else bc
  let betaD := min (c.delta * beta) (2 ^ 40 - 1)
  let d := q - roundDiv θ0 (2 ^ 24)
  let θ1 := θ0 + roundDiv (betaD * d) (2 ^ 16)
  let θ := if θ1 < 0 then 0 else if θ1 > (2 ^ 55 : Nat) - 1 then ((2 ^ 55 : Nat) : Int) - 1 else θ1
  let (th, f1) := storeM (roundDiv θ (2 ^ 24))
  let trip : Int := if 2 ^ 24 ≤ th then 1 else if th < trr then 0 else wU st 3
  let u := max 0 ((2 : Int) ^ 24 - roundDiv (th * bhor) (2 ^ 32))
  let (ia, f2) := storeM (roundDiv (kib * isqrt (u * rhor).toNat) (2 ^ 24))
  { outs := [⟨th, 0, im.v⟩, ⟨trip, 0, im.v⟩, ⟨b2i (decide (almlv ≤ th)), 0, im.v⟩, ⟨ia, 0, im.v⟩],
    st := [θ.toNat % 2 ^ 32, θ.toNat / 2 ^ 32, toW q, trip.toNat], fl := f1 ||| f2 }

/-- Interpolation in a table of (G_k, INC_k); below the first point its value, above the last the last (R386). -/
def interp (g : Int) : List (Int × Nat) → Int
  | [] => 0
  | [(_, y)] => y
  | (x0, y0) :: (x1, y1) :: l =>
    if g ≤ x0 then y0
    else if g ≤ x1 then y0 + roundDiv (((y1 : Int) - y0) * (g - x0)) (x1 - x0).natAbs
    else interp g ((x1, y1) :: l)

/-- IDMT (R386). State: HI in two words, rt. -/
def evalIdmt (c : Ctx) (qmode : Nat) (invgs gpu : Int) (op : List (Int × Nat)) (rmode tr : Nat)
    (rst : List (Int × Nat)) (im : Val) (st : List Nat) : EOut :=
  let g := roundDiv (im.re * invgs) (2 ^ 24)
  let hi0 : Int := (wU st 0 + wU st 1 * 2 ^ 32 : Nat)
  let bl := blockedBy qmode im.v
  let (start, hi, rt) : Bool × Int × Nat :=
    if gpu < g && !bl then (true, min (hi0 + c.delta * interp g op) ((2 : Int) ^ 32), 0)
    else if rmode = 0 then (false, 0, wU st 2)
    else if rmode = 1 then
      let rt := min (wU st 2 + c.delta) (2 ^ 32 - 1)
      (false, if tr ≤ rt then 0 else hi0, rt)
    else (false, max 0 (hi0 - c.delta * interp g rst), wU st 2)
  { outs := [⟨b2i start, 0, im.v⟩, ⟨b2i (start && hi == (2 : Int) ^ 32), 0, im.v⟩, ⟨roundDiv hi 256, 0, im.v⟩],
    st := [hi.toNat % 2 ^ 32, hi.toNat / 2 ^ 32, rt] }

/-- CMP (R387). -/
def evalCmp (qmode : Nat) (under : Bool) (th hy : Int) (x : Val) (st : List Nat) : EOut :=
  let last : Int := wU st 0
  let pu : Int := if blockedBy qmode x.v then 0
    else if under then (if x.re ≤ th then 1 else if x.re > th + hy then 0 else last)
    else (if th ≤ x.re then 1 else if x.re < th - hy then 0 else last)
  { outs := [⟨pu, 0, x.v⟩], st := [pu.toNat] }

/-! ### Arithmetic and selection -/

/-- Σ C_i × X_i as complex numbers. -/
def sumProd : List (Int × Int) → List Val → Int × Int
  | c :: cs, x :: xs => let p := mulC c (x.re, x.im); let q := sumProd cs xs; (p.1 + q.1, p.2 + q.2)
  | _, _ => (0, 0)

/-- ADD (R388). -/
def evalAdd (k : Kind) (cs : List (Int × Int)) (ofs : Int × Int) (xs : List Val) : EOut :=
  let (ar, ai) := sumProd cs xs
  let (sr, f1) := acc72 (ar + ofs.1 * 2 ^ 24)
  let (si, f2) := acc72 (ai + ofs.2 * 2 ^ 24)
  let (re, f3) := storeK k (roundDiv sr (2 ^ 24))
  let (im, f4) := if k = .p then store32 (roundDiv si (2 ^ 24)) else (0, 0)
  { outs := [⟨re, im, worstV xs⟩], fl := f1 ||| f2 ||| f3 ||| f4 }

/-- MUL (R389). -/
def evalMul (kx ky kz : Kind) (x y : Val) : EOut :=
  let n := kx.frac + ky.frac
  let p := x.re * y.re
  let (z, fl) := storeK kz (if n ≤ kz.frac then p * 2 ^ (kz.frac - n) else roundDiv p (2 ^ (n - kz.frac)))
  { outs := [⟨z, 0, max x.v y.v⟩], fl := fl }

/-- SEL (R390). -/
def evalSel (n : Nat) (k : Val) (xs : List Val) : EOut :=
  let j := if k.re < 0 then 0 else if k.re > (n : Int) - 1 then n - 1 else k.re.toNat
  let x := xs.getD j {}
  { outs := [⟨x.re, x.im, max k.v x.v⟩] }

/-- LIM (R391). -/
def evalLim (lo hi : Int) (x : Val) : EOut :=
  { outs := [⟨if x.re < lo then lo else if x.re > hi then hi else x.re, 0, x.v⟩, ⟨b2i (decide (x.re < lo)), 0, x.v⟩,
      ⟨b2i (decide (x.re > hi)), 0, x.v⟩] }

/-! ### Logic, timers, counters -/

/-- How many of the inverted inputs are 1. -/
def onesOf (inv : Nat) : Nat → List Val → Nat
  | _, [] => 0
  | i, x :: xs => (if (x.re == 1) != decide ((inv >>> i) % 2 = 1) then 1 else 0) + onesOf inv (i + 1) xs

/-- LOGIC (R392). -/
def evalLogic (inv op k : Nat) (oinv : Bool) (xs : List Val) : EOut :=
  let c := onesOf inv 0 xs
  let y := if op = 0 then c == xs.length else if op = 1 then decide (0 < c) else if op = 2 then c % 2 == 1 else decide (k ≤ c)
  { outs := [⟨b2i (y != oinv), 0, worstV xs⟩] }

/-- The TIMER of R393 on (e, p, previous input, Q): the new values. -/
def timerStep (mode td td2 delta : Nat) (inp : Bool) (e p : Nat) (prev q : Bool) : Nat × Nat × Bool :=
  let e1 := if inp != prev then 0 else min (e + delta) (2 ^ 32 - 1)
  let rise := inp && !prev
  let p1 := if rise && (mode == 3 || decide (td ≤ p)) then 0 else min (p + delta) (2 ^ 32 - 1)
  if mode = 0 then (e1, p, inp && decide (td ≤ e1))
  else if mode = 1 then (e1, p, inp || decide (e1 < td))
  else if mode = 4 then
    (e1, p, if inp && decide (td ≤ e1) then true else if !inp && decide (td2 ≤ e1) then false else q)
  else (e1, p1, decide (p1 < td))

/-- TIMER (R393). State: e, p, flags (bit 0 previous input, bit 1 Q). -/
def evalTimer (c : Ctx) (mode td td2 : Nat) (x : Val) (st : List Nat) : EOut :=
  let fl := wU st 2
  let inp := x.re == 1
  let (e, p, q) := timerStep mode td td2 c.delta inp (wU st 0) (wU st 1) (fl % 2 == 1) (fl / 2 % 2 == 1)
  { outs := [⟨b2i q, 0, x.v⟩], st := [e, p, (if inp then 1 else 0) + (if q then 2 else 0)] }

/-- LATCH (R394). -/
def evalLatch (prio : Nat) (s r : Val) (st : List Nat) : EOut :=
  let q : Nat := if s.re = 1 && r.re = 1 then prio else if s.re = 1 then 1 else if r.re = 1 then 0 else wU st 0
  { outs := [⟨q, 0, max s.v r.v⟩], st := [q] }

/-- EDGE (R395). -/
def evalEdge (x : Val) (st : List Nat) : EOut :=
  let prev := wU st 0 == 1
  let inp := x.re == 1
  { outs := [⟨b2i (inp && !prev), 0, x.v⟩, ⟨b2i (!inp && prev), 0, x.v⟩], st := [if inp then 1 else 0] }

/-- CTR (R396). State: CNT, previous inputs. -/
def evalCtr (lim pre : Nat) (up dn rst : Val) (st : List Nat) : EOut :=
  let pv := wU st 1
  let u := if up.re = 1 && pv % 2 = 0 then 1 else 0
  let d := if dn.re = 1 && pv / 2 % 2 = 0 then 1 else 0
  let cnt : Int := if rst.re = 1 then pre else
    let x := (wU st 0 : Int) + u - d
    if x < 0 then 0 else if x > i32max then i32max else x
  let v := max up.v (max dn.v rst.v)
  { outs := [⟨cnt, 0, v⟩, ⟨b2i (decide ((lim : Int) ≤ cnt)), 0, v⟩],
    st := [cnt.toNat, (if up.re = 1 then 1 else 0) + (if dn.re = 1 then 2 else 0)] }

/-! ### Record outputs, groups, topology, mirror -/

/-- The quality bit that OBIT and OVAL write. -/
def qBits (qidx v : Nat) : Nat := if qidx < 32 && v ≠ 0 then 2 ^ qidx else 0

/-- OBIT (R397), OVAL (R398). -/
def evalObit (idx qidx : Nat) (x : Val) : EOut := { bits := (if x.re = 1 then 2 ^ idx else 0) ||| qBits qidx x.v }
def evalOval (w qidx : Nat) (k : Kind) (x : Val) : EOut :=
  { bits := qBits qidx x.v, vals := (w, toW x.re) :: (if k = .p then [(w + 1, toW x.im)] else []) }

/-- GSEL (R399). -/
def evalGsel (c : Ctx) : EOut :=
  { outs := ⟨c.group, 0, 0⟩ :: (List.range 8).map fun g => ⟨b2i (g == c.group), 0, 0⟩ }

/-- The first pattern that the position word meets (R400). -/
def patternOf (pos : Nat) (d : Nat) : List (Nat × Nat × Nat) → Nat
  | [] => d
  | (m, v, g) :: l => if pos &&& m = v then g else patternOf pos d l

/-- Positions of TOPO's inputs. -/
def positions : List Bool → List Val → List Nat
  | b :: bs, x :: xs => (if b then (if x.re = 1 then 2 else 1) else position x.re) :: positions bs xs
  | _, _ => []

/-- TOPO (R400). State: REQ (bit 8: requested), cand, same, uns. -/
def evalTopo (c : Ctx) (bin : List Bool) (pats : List (Nat × Nat × Nat)) (dflt fb settle confirm : Nat) (xs : List Val)
    (st : List Nat) : EOut :=
  let ps := positions bin xs
  let pos := (ps.reverse).foldl (fun a p => a * 4 + p) 0
  let settled := worstV xs == 0 && ps.all (fun p => p == 1 || p == 2)
  let uns := if settled then 0 else min (wU st 3 + c.delta) (2 ^ 32 - 1)
  let cand := wU st 1
  let g := if settled then patternOf pos dflt pats else if fb ≠ 0xFF && settle ≤ uns then fb else cand
  let same := if g = cand then min (wU st 2 + c.delta) (2 ^ 32 - 1) else 0
  let req := if confirm ≤ same then g + 256 else wU st 0
  { outs := [⟨(req % 256 : Nat), 0, 0⟩, ⟨b2i settled, 0, worstV xs⟩], st := [req, g, same, uns] }

/-- Mirror entries of R401, four words each. -/
def mirrorEntries (c : Ctx) : List (Nat × Kind) → List Val → List (List Nat)
  | (t, k) :: ts, x :: xs =>
    [t + k.code * 2 ^ 16 + (x.v + if c.shadow then 4 else 0) * 2 ^ 24, toW x.re, if k = .p then toW x.im else 0, c.slot] ::
      mirrorEntries c ts xs
  | _, _ => []

/-- One element in one tick. -/
def evalElem (c : Ctx) (prevF : Nat → Int × Nat) (ins : List Val) (bound : Nat → Bool) (st : List Nat) : Cfg → EOut
  | .tap b gm gs => evalTap c b gm gs
  | .gin b m => evalGin c b m st
  | .din b inv => evalDin c b inv
  | .clein b inv => evalClein c b inv
  | .dft h fn fs => evalDft c h fn fs prevF (ins.getD 0 {}) st
  | .seq acb => evalSeq acb (ins.getD 0 {}) (ins.getD 1 {}) (ins.getD 2 {})
  | .pwr _ => evalPwr ins
  | .freq fn trk na m vm => evalFreq c fn trk na m vm (ins.getD 0 {}) st
  | .rms fn fs nf => evalRms c fn fs nf prevF (ins.getD 0 {}) st
  | .hrat im => evalHrat im (ins.getD 0 {}) (ins.getD 1 {})
  | .mag am => evalMag am (ins.getD 0 {}) (if bound 1 then some (ins.getD 1 {}) else none) st
  | .zloop l k0 => evalZloop l k0 ins
  | .mho qm zr im vm mt => evalMho c qm zr im vm mt (ins.getD 0 {}) (ins.getD 1 {}) (ins.getD 2 {}) st
  | .quad qm x xb rr rl ul ut im =>
    evalQuad qm x xb rr rl ul ut im (ins.getD 0 {}) (ins.getD 1 {}) (if bound 2 then some (ins.getD 2 {}) else none)
  | .dir qm rca lim im vm => evalDir qm rca lim im vm (ins.getD 0 {}) (ins.getD 1 {})
  | .diff qm ks bm a b d s1 s2 =>
    evalDiff qm ks bm a b d s1 s2 (ins.take ks.length)
      (if bound ks.length then some (ins.getD ks.length {}) else none)
  | .therm a b bh bc d e t bhor rhor => evalTherm c a b bh bc d e t bhor rhor (ins.getD 0 {}) st
  | .idmt qm a g op rm tr rs => evalIdmt c qm a g op rm tr rs (ins.getD 0 {}) st
  | .cmp qm _ un th hy => evalCmp qm un th hy (ins.getD 0 {}) st
  | .add k cs ofs => evalAdd k cs ofs ins
  | .mul kx ky kz => evalMul kx ky kz (ins.getD 0 {}) (ins.getD 1 {})
  | .sel n => evalSel n (ins.getD 0 {}) (ins.drop 1)
  | .lim lo hi => evalLim lo hi (ins.getD 0 {})
  | .logic _ inv op k oi => evalLogic inv op k oi ins
  | .timer m td td2 => evalTimer c m td td2 (ins.getD 0 {}) st
  | .latch pr _ => evalLatch pr (ins.getD 0 {}) (ins.getD 1 {}) st
  | .edge _ => evalEdge (ins.getD 0 {}) st
  | .ctr l p => evalCtr l p (ins.getD 0 {}) (ins.getD 1 {}) (ins.getD 2 {}) st
  | .obit i q => evalObit i q (ins.getD 0 {})
  | .oval w q k => evalOval w q k (ins.getD 0 {})
  | .gsel => evalGsel c
  | .topo bin ps d fb se co => evalTopo c bin ps d fb se co ins st
  | .mirror ts => { mirror := mirrorEntries c ts ins }

/-! ### A slot in a tick -/

/-- The settings of an element in a group. -/
def settings (e : Element) (g : Nat) : Cfg := e.cfgs.getD g (e.cfgs.headD .gsel)

/-- State words of a graph from element i on as (offset, length). -/
def stateSpans (f : Nat) : Nat → List Element → List (Nat × Nat)
  | _, [] => []
  | o, e :: es => (o, stateWords f (settings e 0)) :: stateSpans f (o + stateWords f (settings e 0)) es

/-- Words before the elements' state: the 8-byte tick header of R360, and the sticky flags of R344 (assumption 11). -/
def headWords : Nat := 3

/-- All state words of a slot. -/
def slotWords (f : Nat) (es : List Element) : Nat := headWords + (es.map fun e => stateWords f (settings e 0)).sum

/-- The value an input reads: an output of an earlier element, or 0 and good where nothing is bound. -/
def inputOf (outs : List (List Val)) : Option (Nat × Nat) → Val
  | none => {}
  | some (e, o) => (outs.getD e []).getD o {}

/-- The elements of a graph in order: outputs so far, then what each delivers. -/
def evalGraph (c : Ctx) (prevF : Nat → Int × Nat) (words : List Nat) :
    List Element → List (Nat × Nat) → List (List Val) → List EOut
  | e :: es, (o, n) :: sp, outs =>
    let ins := e.ins.map (inputOf outs)
    let r := evalElem c prevF ins (fun k => (e.ins.getD k none).isSome) ((words.drop o).take n) (settings e c.group)
    { r with st := fitTo n r.st } :: evalGraph c prevF words es sp (outs ++ [r.outs])
  | _, _, _ => []

/-- A bound input that is not good (FLAGS bit 5 of R338). -/
def doubtful (c : Ctx) : Bool := c.bindings.any fun b =>
  if b.1 = 0 then vOf (chanAt b.2 c.img.chans).q ≠ 0
  else if b.1 = 1 then vOf (chanAt b.2 c.img.members).q ≠ 0
  else if b.1 = 3 then c.cleBad
  else false

/-- The words of VALUES by the writes of OVAL. -/
def valueWords (vals : List (Nat × Nat)) (n : Nat) : List Nat :=
  (List.range n).map fun w => (vals.foldl (fun a e => if e.1 = w then e.2 else a) 0)

/-- The result of a slot for an image: its new state words, its record (16 words, R338) and its mirror entries. -/
structure SlotResult where
  words : List Nat
  record : List Nat
  mirror : List Nat
  deriving DecidableEq, Repr

/-- The tick number in the header words of a slot state (R360), and the sticky flags. -/
def lastTick (words : List Nat) : Nat := wU words 0 + wU words 1 * 2 ^ 32
def stickyOf (words : List Nat) : Nat := wU words 2

/-- Δ of R361: 1 on the first image after entry. -/
def deltaOf (fresh : Bool) (n last : Nat) : Nat := if fresh then 1 else min (n - last) (2 ^ 32 - 1)

/-- A slot computes an image (R336, R338, R360, R361). `fresh` says that the state was just loaded from the initial state;
`clear` that the sticky flags were cleared at the boundary; `chg` that the group changed there. -/
def evalSlot (img : FnImage) (c0 : Ctx) (words : List Nat) (fresh clear auto chg : Bool) : SlotResult :=
  let c := { c0 with delta := deltaOf fresh c0.img.tick (lastTick words) }
  let spans := stateSpans c.f headWords img.elems
  let prevF := fun e => let (o, n) := spans.getD e (0, 0); freqOut ((words.drop o).take n)
  let rs := evalGraph c prevF words img.elems spans []
  let sticky := (if clear then 0 else stickyOf words) ||| rs.foldl (fun a r => a ||| r.fl) 0
  let n := c.img.tick
  let flags := sticky + (if chg then 8 else 0) + (if c.shadow then 16 else 0) + (if doubtful c then 32 else 0)
  let bits := rs.foldl (fun a r => a ||| r.bits) 0
  let vals := rs.foldl (fun a r => a ++ r.vals) []
  { words := [n % 2 ^ 32, n / 2 ^ 32, sticky] ++ rs.foldl (fun a r => a ++ r.st) [],
    record := fitTo 16 ([c.slot + (c.group + if auto then 128 else 0) * 2 ^ 16 + flags * 2 ^ 24, bits] ++
      valueWords vals (img.outLen / 4)),
    mirror := rs.foldl (fun a r => a ++ r.mirror.flatten) [] }

/-- TOPO's request in a slot's state: the group, once one has been made (R340, R400). -/
def topoRequest (f : Nat) (img : FnImage) (words : List Nat) : Option Nat :=
  let spans := stateSpans f headWords img.elems
  (img.elems.zip spans).findSome? fun (e, o, _) =>
    match settings e 0 with
    | .topo .. => let r := wU words o; if 256 ≤ r then some (r % 256) else none
    | _ => none

end Sys2Proof.Machine
end

