-- ==== Sys2Proof/Machine/State.lean ====
section
/-! DEFINITION. The state of the NRL-4812 block as plain data: the BAR registers in one canonical sparse store, and a
record per unit for the state that the spec gives the unit beyond its registers. -/

namespace Sys2Proof.Machine

/-- The model has no fault of its own: every module fault of the spec (R66) is state, not a stop. The one constructor
names the outcome no meaning gives; raising it would be safe (the machine stops). -/
inductive Fault where
  | none
  deriving DecidableEq, Repr

/-- `notModelled`: raised by the arm of a command whose meaning is still missing; safe, the machine stops. -/
inductive Refusal where
  | notModelled (mnemonic : String)
  deriving DecidableEq, Repr

/-- A register field: byte address in the register space, lowest bit, width (R6, R44). BAR0 offsets stand as they are;
the doorbell pages of BAR2 stand at 0x200000 and the MSI-X structures of BAR4 at 0x400000 (R130). -/
structure Field where
  addr : Nat
  lo : Nat
  width : Nat
  deriving DecidableEq, Repr

/-- The tick generator (R20, R21, R30): running, rate f in samples/s and ρ in µs in force, the tick whose boundary is
processed next, the tick sampled next, the enable of new settings that waits for the boundary at or after the write, and the first
tick that has an image after the start (R30). -/
structure TickGen where
  running : Bool := false
  f : Nat := 4800
  rho : Nat := 420
  next : Nat := 0
  sample : Nat := 0
  pendingEnable : Bool := false
  firstImage : Nat := 0
  deriving DecidableEq, Repr

/-- A commit buffer (R56, R57): block, boundary tick, and the words captured for the active addresses. -/
structure CommitBuf where
  block : Nat
  tick : Nat
  words : List (Nat × Word)
  deriving DecidableEq, Repr

/-- A frame taken from a TX ring and not yet written back (R137, R143): core frame, entries, how it ended with TXTS. -/
structure TxTaken where
  frame : Nat
  entries : Nat
  done : Option (Status × Option Nat) := none
  deriving DecidableEq, Repr

/-- What the ring engine keeps of an enabled ring beyond its registers (R134–R153): pass count W, position of the next entry
to be written back, the fields read at enable, write-backs pending for coalescing, command in progress, whether it stops,
SEQ, EVQ entries held and lost, TX frames taken, whether a freeze stopped it, EVQ entries produced and dropped in all. -/
structure RingRec where
  ring : Nat
  slice : Nat
  type : Nat
  log2size : Nat
  local' : Nat
  tc : Nat
  mark : Nat
  pass : Nat := 0
  wb : Nat := 0
  coal : Nat := 0
  cur : Option Nat := none
  stopping : Bool := false
  seq : Nat := 0
  held : List EvqItem := []
  lost : Nat := 0
  taken : List TxTaken := []
  frozen : Bool := false
  made : Nat := 0
  dropped : Nat := 0
  deriving DecidableEq, Repr

/-- A multi-step command in progress (R70): its request, its opcode (R148), and an operand of its chapter. -/
structure MultiCmd where
  req : Req
  opcode : Nat
  arg : Nat
  deadline : Nat
  deriving DecidableEq, Repr

/-- Pair control and custody state beyond the registers (R425–R454): messages sent and last accepted with the partner's
serial, its last HELLO and FLAGS, what the HELLOs have shown for the handshake, the role a handshake settled (0 while the
strap decides, 1 A, 2 B), boundaries to wait after a collision, digests, the first tick not settled, the gate, safe mode,
the boundary and the case custody is tried for, instants (units), what is due, the copy, what the donor's stream still has to send as
(tick, body) with the instant at which its next frame may start (R427, R438), unacknowledged TOKEN entries. -/
structure PairState where
  seqOut : Nat := 0
  peerSerial : Nat := 0
  seqIn : Nat := 0
  acceptedPeer : Nat := 0
  heardOwn : Bool := false
  sentPeer : Bool := false
  peerHello : Option Hello := none
  peerFlags : Nat := 0
  role : Nat := 0
  waitBoundaries : Nat := 0
  myDigests : List Digest := []
  peerDigests : List Digest := []
  settled : Nat := 0
  gateOpen : Bool := false
  safeMode : Bool := false
  trying : Option (Nat × Nat) := none
  releasedAt : Option Nat := none
  selfReleased : Bool := false
  safeRelease : Bool := false
  heldSinceHandshake : Bool := false
  handshakeAt : Nat := 0
  holderLostAt : Nat := 0
  partnerLostAt : Nat := 0
  peerFellAt : Nat := 0
  heartbeatLatch : Bool := false
  soloDue : Bool := false
  orphanDue : Bool := false
  safeDue : Bool := false
  takeoverAsked : Bool := false
  lanesAt : List (Nat × Nat) := []
  copyK0 : Nat := 0
  copyLast : Option (Nat × Nat) := none
  copyWords : List (Nat × Nat) := []
  copySeqs : List (List Nat) := []
  donorRod : Nat := 0
  donorOn : Bool := false
  stream : List (Nat × PairBody) := []
  streamAt : Nat := 0
  resyncAt : Nat := 0
  unacked : List (Nat × TokenEntry) := []
  deriving DecidableEq, Repr

/-- Start-up beyond the registers (R76–R81, R108–R123): instant (units) of entry to SYNC, the running keeper image, firmware
banks, the bank tried first, microcode of stages 3 and 4, the signer whose slot 1 key MAC2 stands under, revisions stored in flash, the
revision this boot runs, tamper sources whose latch is handled (mask), whether a trial boot was cut short, whether VMAIN and VVG are
present, whether the last reset was by watchdog or lockstep, or Power, PFW_N asserted, instant (ns) of detection, vigil seconds without
a record, whether VIGIL was entered since the last hand-over, whether the NRG SRAM holds its values, state changes outside the main
domain to be journaled as (old, new), failed tamper tests in a row by source (R651). -/
structure BootState where
  syncAt : Nat := 0
  image : FwImage := {}
  banks : List FwImage := [{}, {}]
  firstBank : Nat := 0
  micro : List FwImage := [{ kind := 3 }, { kind := 4 }]
  macHash : Option Nat := none
  revs : List Revision := []
  rev : Option Revision := none
  handled : Nat := 0
  trialCut : Bool := false
  vmain : Bool := true
  vvg : Bool := false
  wdog : Bool := false
  power : Bool := true
  pfw : Bool := false
  detected : Option Nat := none
  vigilLost : Nat := 0
  vigilRan : Bool := false
  nrgHeld : Bool := false
  trail : List (Nat × Nat) := []
  tampRuns : List (Nat × Nat) := []
  deriving DecidableEq, Repr

/-- An injection in progress beyond its registers (R698–R699): descriptor, the boundary tick at which it takes effect,
its end instant, frames seen and held. -/
structure Injection where
  id : Nat
  kind : Nat
  slice : Nat
  flags : Nat
  target : Nat
  tcmask : Nat
  ring : Nat
  n : Nat
  param : Nat
  mask : Nat
  limit : Nat
  durationMs : Nat
  active : Bool
  startTick : Nat
  endsAt : Nat
  seen : Nat := 0
  affected : Nat := 0
  stop : Bool := false
  deriving DecidableEq, Repr

/-- The write queue of the persistent store (R671, R672): entries waiting to become durable and entries held back in
keeper memory, the drop count carried to the next entry, and the durable event log with its LSEQ numbers (R668). -/
structure JournalState where
  queue : List Immediate := []
  waiting : List JEntry := []
  dropped : Nat := 0
  log : List (Nat × Nat × JEntry) := []
  lseq : Nat := 0
  deriving DecidableEq, Repr

/-- The time base beyond its registers (R187–R208): the increment in force, the armed step, servo runs, holdover entry,
increments applied with their instants (for the mean over 64 s), REF_IN run, last Sync and PPS_IN instants in units,
PPS_OUT high until, DI edges waiting as (stamp, input, falling), pending list switches as (port, instant in ns), entries of the list in operation per port,
announce data per port, link delay per port in 2^-16 ns. `history` is newest first, `ppsLast` the second of the last PPS_OUT pulse. -/
structure TimState where
  incr : Nat := 0x019999999A
  armed : Option Int := none
  armedAt : Nat := 0
  lockRun : Nat := 0
  unlockRun : Nat := 0
  holdStart : Nat := 0
  history : List (Nat × Nat) := []
  refRun : Nat := 0
  lastSync : Nat := 0
  lastPps : Nat := 0
  ppsSeen : Bool := false
  ppsUntil : Nat := 0
  ppsLast : Option Nat := none
  edges : List (Nat × Nat × Bool) := []
  gclPend : List (Nat × Nat) := []
  gclLen : List (Nat × Nat) := []
  announces : List Announce := []
  delays : List (Nat × Int) := []
  ignored : Nat := 0
  deriving DecidableEq, Repr

/-- The input snapshot of a CLE cycle (R479, R486): DI levels, GOOSE members that are not 0, members that are good and not
stale, BITS of the rod's own records, and the forced I bits. -/
structure CleSnap where
  di : Nat := 0
  set : List Nat := []
  good : List Nat := []
  recs : List (Nat × Nat) := []
  forced : List (Nat × Bool) := []
  deriving DecidableEq, Repr

/-- A rod's CLE instance (R482–R494): engine state, program counter, bit accumulator, bracket stack (newest first),
cycles used, start tick, overrun flags of the last 1,000 cycles with their position, operand spaces as words, timers
(e, p, flags), counters (value, edge memories); `phase` 0 no cycle, 1 snapshot, 2 execution, 3 commit; `part` cycles
spent on an instruction in progress. -/
structure Cle where
  st : Nat := 0
  pc : Nat := 0
  ba : Bool := false
  stack : List (Bool × Nat) := []
  used : Nat := 0
  start : Nat := 0
  overs : List Nat := []
  pos : Nat := 0
  cold : Bool := false
  first : Bool := false
  ovr : Bool := false
  q : List Nat := []
  wq : List Nat := []
  m : List Nat := []
  k : List Nat := []
  kw : List Nat := []
  timers : List (Nat × Nat × Nat) := []
  counters : List (Nat × Nat) := []
  phase : Nat := 0
  part : Nat := 0
  snap : CleSnap := {}
  deriving DecidableEq, Repr

/-- What the CLE of every rod does with one image (R486–R496): the boundary's tick, a start (from the initial data or not,
COLD) or stop that applies there, a value written at the cycle start, the force table, the configuration in force. -/
structure CleWork where
  boundary : Nat
  start : Option (Bool × Bool) := none
  stop : Bool := false
  write : Option (Nat × Nat) := none
  forces : List (Nat × Bool) := []
  period : Nat := 1
  tolPct : Nat := 10
  tolCount : Nat := 10
  m0 : Nat := 0
  budget : Nat := 102170
  deriving DecidableEq, Repr

/-- A slot that computes an image: its group, MODE, GROUP_CHG, SHADOW, the state installed before it computes, whether
the sticky flags are cleared, its image. -/
structure WorkSlot where
  slot : Nat
  group : Nat
  auto : Bool
  chg : Bool
  shadow : Bool
  install : Option (List Nat)
  fresh : Bool
  clear : Bool
  img : FnImage
  deriving DecidableEq, Repr

/-- An image delivered to the rods with the slots and CLE work that compute it (R336). -/
structure Work where
  image : TickImage
  slots : List WorkSlot
  cle : CleWork
  deriving DecidableEq, Repr

/-- A rod's results for a tick (R402): the vote stream, slots that exceeded their WCET, a CLE fault (cause, address), the
length of a committed CLE cycle and whether it overran, and the state digest. -/
structure Delivery where
  tick : Nat
  stream : List Nat
  overs : List Nat
  cleFault : Option (Nat × Nat)
  cleDone : Option (Nat × Bool)
  sdig : Nat
  deriving DecidableEq, Repr

/-- A rod beyond its registers (R324, R345–R349, R411–R416): state words per computed slot, its CLE instance, images not
computed yet, its results, the BITS of its last records, the carry episode (first tick), the ticks of it that were
compared wrong, an image whose CRC failed, its history of re-integrations (instants), the fault that benched it, the
final round of its copy due, LOCKED_OUT held in the persistent store (R412). -/
structure RodState where
  slots : List (Nat × List Nat) := []
  cle : Cle := {}
  todo : List Work := []
  result : Option Delivery := none
  recs : List (Nat × Nat) := []
  carryFrom : Option Nat := none
  lateBad : Bool := false
  crcBad : Option Nat := none
  history : List Nat := []
  benchFault : Nat := 0
  finalDue : Bool := false
  locked : Bool := false
  cleBad : Option Nat := none
  deriving DecidableEq, Repr

/-- A function slot that is not EMPTY (R333–R340): image, state, selected and active group, MODE, pending change to
QUARANTINED with its cause, an initial state or a copied state to install, the flags to clear, GROUP_CHG due. -/
structure Slot where
  slot : Nat
  state : Nat
  slice : Nat
  img : FnImage
  selected : Nat := 0
  group : Nat := 0
  auto : Bool := false
  chg : Bool := false
  install : Option (List Nat) := none
  fresh : Bool := false
  clear : Bool := false
  quarantine : Option Nat := none
  voted : Nat := 0
  lastBits : Nat := 0
  lastVals : List Nat := []
  deriving DecidableEq, Repr

/-- A slot or CLE command that waits for its boundary (R334, R335, R490): opcode, request, slot and arguments. -/
structure BoundCmd where
  req : Req
  opcode : Nat
  slot : Nat
  arg : Nat := 0
  arg2 : Nat := 0
  deriving DecidableEq, Repr

/-- The settled tick (R408): voted stream with its layout (slot, mirror entries), voters, whether it was decided. -/
structure Settled where
  tick : Nat
  decided : Bool
  voters : Nat
  idle : Bool
  noImage : Bool
  stream : List Nat
  layout : List (Nat × Nat)
  shadow : List Nat
  sdig : Nat
  rdig : Nat
  deriving DecidableEq, Repr

/-- A generation of the result mirror (R35): records per slot, CLE words, mirror entries, missed decision. -/
structure ResultGen where
  tick : Nat
  missed : Bool
  records : List (Nat × List Nat)
  cle : List Nat
  entries : List (List Nat)
  deriving DecidableEq, Repr

/-- The rods, the beam and the mirrors beyond their registers. -/
structure CoreState where
  rods : List RodState := [{}, {}, {}]
  bound : List BoundCmd := []
  retained : List (Nat × List Nat) := []
  settled : Option Settled := none
  layout : List (Nat × (List (Nat × Nat))) := []
  imageMirror : List TickImage := []
  resultMirror : List ResultGen := []
  rejoinAt : List Nat := []
  restart : Bool := false
  benchHist : List (Nat × Nat × Nat) := []
  decidedRun : Nat := 0
  enableRods : Bool := false
  stFails : Nat := 0
  stDue : Bool := false
  imgCrc : Nat := 0
  pendBench : List (Nat × Nat) := []
  overs : List (Nat × Nat × Nat) := []
  noImage : Option Nat := none
  hoLoad : List (Nat × Nat) := []
  deriving DecidableEq, Repr

/-- The CLE beyond its registers and the rods' instances (R490–R496): the program, the boundary of its run, the pending
write (request, target, value, AT), forces as (address, value) with entry numbers, forces of the next boundary, starts and
stops that wait (start, cold), CTRL.EN cleared, what the last boundary brought. -/
structure CleCtl where
  prog : Option CleImage := none
  m0 : Nat := 0
  fresh : Bool := true
  write : Option (Req × Nat × Nat × Nat) := none
  forces : List (Nat × Bool) := []
  forceOps : List (Req × Bool × Nat × Bool) := []
  autostart : Bool := false
  bound : List (Req × Bool × Bool) := []
  stopDue : Bool := false
  work : CleWork := { boundary := 0 }
  deriving DecidableEq, Repr

/-- A sample held in an open image (R299): channel, value, quality word, subscription, arrival order not needed. -/
structure HeldSample where
  chan : Nat
  val : Int
  q : Nat
  sub : Nat
  deriving DecidableEq, Repr

/-- An open image (R26): its tick and the samples it holds. -/
structure OpenImage where
  tick : Nat
  samples : List HeldSample
  deriving DecidableEq, Repr

/-- What the aligner keeps of a channel for R306 and R307: value and quality word in the last image, tick and value of the
last used sample, value of the sample before it when that was used for the tick before. -/
structure ChanHist where
  chan : Nat
  val : Int
  q : Nat
  usedTick : Nat
  usedVal : Int
  prevVal : Option Int
  deriving DecidableEq, Repr

/-- A subscription as it expects channels from a tick on (R298): number, BASE, NCH, MISS. -/
structure SubView where
  sub : Nat
  base : Nat
  nch : Nat
  miss : Nat
  deriving DecidableEq, Repr

/-- The aligner's record of a subscription for the faults of R323: last used sample, or the instant it came to be expected, reason all samples have failed for
with its start, instants of late samples. -/
structure SubWatch where
  sub : Nat
  lastUsed : Nat := 0
  badReason : Nat := 0
  badSince : Nat := 0
  lates : List Nat := []
  deriving DecidableEq, Repr

/-- An installed GOOSE subscription (R308–R311): its words, the last accepted frame's numbers, expiry instant (units), test
bit, member values as (member, value, quality), instant tick of acceptance for AGE, staleness as last shown. -/
structure Gsub where
  idx : Nat
  words : List Nat
  never : Bool := true
  st : Nat := 0
  sq : Nat := 0
  expiry : Nat := 0
  test : Bool := false
  vals : List (Nat × Int × Nat) := []
  age : Nat := 255
  stale : Bool := false
  bad : Bool := false
  deriving DecidableEq, Repr

/-- The aligner beyond its registers: enable under way, first tick it releases, open images, channel records, views of
the subscriptions as (first tick, views), FIRST due, last tick released, GOOSE entries, installs waiting for the boundary,
subscription records, own streams: ASDUs of the frame under way and first ASDU after custody due, samples per ASDU, samples
that have reached the intake (R301), ingress stamps of duplicate SV frames that a MAC has reported (R245). -/
structure SviState where
  enabled : Bool := false
  enablePending : Bool := false
  firstTick : Nat := 0
  open' : List OpenImage := []
  chans : List ChanHist := []
  views : List (Nat × List SubView) := []
  first : Bool := true
  last : Option Nat := none
  gsubs : List Gsub := []
  gsubPend : List (Nat × List Nat) := []
  watch : List SubWatch := []
  ownMark : List Nat := []
  parity : List Nat := []
  image : Option TickImage := none
  di : List (Nat × Nat) := []
  received : Nat := 0
  dups : List Nat := []
  deriving DecidableEq, Repr

/-- A handover beyond HO_STATUS (R177–R183): arguments, serial s, ticks k0 and m, copies failed, whether the copy is
installed, own and received digests as (tick, digest), messages held, instants (units); `shut` lists slices whose gate is
kept closed, `openTo` slices whose gate stays open with a RELEASED_AT entry until their d_m. -/
structure HoState where
  slice : Nat := 0
  peer : Nat := 0
  role : Nat := 0
  path : Nat := 0
  peerSlice : Nat := 0
  dsid : Nat := 0
  serial : Nat := 0
  k0 : Option Nat := none
  m : Nat := 0
  failed : Nat := 0
  firstK0 : Nat := 0
  installed : Bool := false
  copyDue : Bool := false
  mine : List (Nat × Nat) := []
  theirs : List (Nat × Nat) := []
  readySent : Bool := false
  accepted : Bool := false
  released : Bool := false
  releaseRx : Bool := false
  acceptable : Bool := true
  capture : List (Nat × Nat) := []
  shut : List Nat := []
  openTo : List (Nat × Nat) := []
  notTaken : List (Nat × Nat × Nat) := []
  waitStep : Option (Nat × Nat) := none
  durable : Bool := false
  sent : Bool := false
  resolving : List (Nat × Nat × Nat) := []
  moves : List (Nat × Nat × Nat) := []
  tokSync : Option (List Nat) := none
  deriving DecidableEq, Repr

/-- A dataset member as it was last published (R461–R464): member, TYPE of its last routing entry, raw value, KIND of the
value word, whether its source is RUNNING, and whether it carries substituted. -/
structure Member where
  idx : Nat
  type : Nat := 0
  value : Nat := 0
  kind : Nat := 5
  live : Bool := false
  subst : Bool := false
  deriving DecidableEq, Repr

/-- A GOOSE control block and its sequence state (R465–R468): words, template, stNum, sqNum, interval in µs, next launch in
TAI ns, CRC of allData, members, t of the last change, enabled at this boundary. -/
structure Gcb where
  idx : Nat
  words : List Nat
  tpl : List Nat
  st : Nat := 0
  sq : Nat := 0
  interval : Nat := 0
  next : Nat := 0
  crc : Nat := 0
  members : List Member := []
  tChange : Int := 0
  fresh : Bool := true
  deriving DecidableEq, Repr

/-- The publisher beyond its registers: control blocks, installs waiting for the boundary, frames waiting for release,
levels driven, instant SAFE was entered, whether the safe form is applied, first safe frame sent, slots in the safe form,
differences seen at the last readback, decisions without one, frames that expired. -/
structure PubState where
  gcbs : List Gcb := []
  gcbPend : List (Nat × List Nat × List Nat) := []
  frames : List PubFrame := []
  driven : Nat := 0
  safeSince : Nat := 0
  safeForm : Bool := false
  safeSent : Bool := false
  safeSlots : List Nat := []
  badLines : Nat := 0
  goodRun : Nat := 0
  expiries : List Nat := []
  deriving DecidableEq, Repr

/-- The modulator fine path beyond its registers (R501–R508): instant (ns) at which the histories of each channel were
emptied, source 114 due, gain and delay per channel that take effect at a tick, temperature source unusable, samples of
the last ticks as (tick, (value, faulty) per channel). -/
structure ModState where
  emptied : List Nat := []
  fillDue : Bool := false
  corr : Option (Nat × List (Nat × Int)) := none
  held : Bool := false
  fine : List (Nat × List (Int × Bool)) := []
  deriving DecidableEq, Repr

/-- The plant converters beyond their registers (R512–R516): start τ of the average in progress (ns), time the monitor
pairs have put between its sequences, STOP taken, per input the instant of its last result and of the first OVR of the
run, per monitor the readings in a row outside and inside its window. -/
structure AdcState where
  tau : Nat := 0
  ext : Nat := 0
  stop : Bool := false
  last : List (Nat × Nat) := []
  ovr : List (Nat × Nat) := []
  bad : List (Nat × Nat) := []
  good : List (Nat × Nat) := []
  deriving DecidableEq, Repr

/-- The persistent store beyond its registers (R662–R679): the durable TOKEN section, key journal, commit under way, tally
runs as (Q × 65536 + index, audits held in a row), SERIAL of each token at the last audit, complete audits in a row, instant of the
last commit of R79 and end of the last commit (ns), slices whose gate the tally closes. -/
structure PerState where
  ledger : List TokenEntry := []
  keyLog : List (List Nat) := []
  runs : List (Nat × Nat) := []
  serials : List (Nat × Nat) := []
  lates : Nat := 0
  pfwAt : Option Nat := none
  busyUntil : Nat := 0
  shutDue : List Nat := []
  deriving DecidableEq, Repr

/-- A write on its way into the backup domain (R213, R216): register offset, word, and for a SET the staged date and time. -/
structure RtcWrite where
  off : Nat
  data : Nat
  date : Nat := 0
  time : Nat := 0
  deriving DecidableEq, Repr

/-- The backup domain beyond its registers (R213–R228): crossing queue, staged date and time, what a read of CAL_SUB latched,
DST command that waits for the second edge, seconds left of the repeated hour, per alarm its last-fired second and whether it
was written after the last subtraction, second shown again for an inserted leap second, weekday to recompute, counts to the
next wake, selected events since the main domain went, those that asserted the request, those whose request timed out. -/
structure RtcState where
  queue : List RtcWrite := []
  date : Nat := 0x07D06101
  time : Nat := 0
  latchDate : Option Nat := none
  latchTime : Option Nat := none
  dst : Nat := 0
  repeatLeft : Nat := 0
  lastFired : List (Option Nat) := [none, none]
  rewritten : List Bool := [true, true]
  leapAgain : Bool := false
  wdayDue : Bool := false
  wakeLeft : Int := 32768
  pwrDue : Nat := 0
  pwrSrc : Nat := 0
  pwrLost : Nat := 0
  deriving DecidableEq, Repr

/-- A frame in the switch core (R266–R286): number, core ingress port, class, bytes L, EtherType, destination, VID, whether
tagged, colour, ingress timestamp in ns, FLAGS bits of R144, launch instant, expiry from MAXAGE or TRIP_AGE (ns), beads from
the class reserve and from the shared pool, references, destinations not decided, TX ring with TS_REQ, whether it left a port
with its transmit timestamp, how its last failed copy ended, control block or own stream, host slice, redundancy sequence
numbers per pair, whether it is a PTP event message (R197), for one forwarded around a ring its ingress stamp less the delay of the
ingress link in 2^-16 ns (R196). -/
structure CoreFrame where
  id : Nat
  src : Nat
  tc : Nat
  len : Nat
  eth : Nat := 0
  dst : Nat := 0
  vid : Nat := 0
  tagged : Bool := false
  colour : Nat := 0
  stamp : Nat := 0
  flags : Nat := 0
  launch : Option Nat := none
  age : Option Nat := none
  res : Nat := 0
  shared : Nat := 0
  refs : Nat := 0
  undecided : Nat := 0
  tx : Option Nat := none
  tsReq : Bool := false
  left : Bool := false
  txts : Option Nat := none
  fail : Option Status := none
  pub : Option Nat := none
  slice : Nat := 0
  seqs : List (Nat × Nat) := []
  event : Bool := false
  ring : Option Int := none
  deriving DecidableEq, Repr

/-- A copy of a frame for one egress port (R279–R287): stage 0 crossing a plane, 1 held by a resequencer, 2 queued, 3 in
transmission; flow sequence number, plane, order of admission, SFD instant (units). -/
structure CoreCopy where
  frame : Nat
  port : Nat
  src : Nat
  tc : Nat
  seq : Nat
  plane : Nat
  stage : Nat := 0
  order : Nat := 0
  start : Nat := 0
  deriving DecidableEq, Repr

/-- A flow (R279, R280): key 4096 × ingress + 16 × egress + class, next number given, next number expected. -/
structure Flow where
  key : Nat
  next : Nat := 0
  expect : Nat := 0
  deriving DecidableEq, Repr

/-- A marker's buckets in 1/8000 byte with the instant of its last frame in ns (R274). -/
structure Bucket where
  meter : Nat
  c : Nat
  p : Nat
  last : Nat
  deriving DecidableEq, Repr

/-- Deficit round robin of a port (R287): class in turn, whether it has had its quantum, deficits of TC0–TC3. -/
structure Dwrr where
  port : Nat
  turn : Nat := 0
  credited : Bool := false
  deficit : List Nat := [0, 0, 0, 0]
  deriving DecidableEq, Repr

/-- A frame that an injection holds (R699): injection, port, whether it is held on transmit, class, the received frame, the frame
sent, or the core frame with its PORT of the host port (12), instant (ns) at which a delay ends. -/
structure FijHeld where
  id : Nat
  port : Nat
  tx : Bool
  tc : Nat
  rx : Option RxWire
  out : Option WireTx
  core : Option (CoreFrame × Nat) := none
  due : Option Nat
  deriving DecidableEq, Repr

/-- The switch core beyond its registers (R266–R290): frame and order numbers, frames, copies, flows, buckets, average queue
depths as (16 × port + class, numerator, binary exponent), deficits, forwarding entries as (index, KEY_LO, KEY_HI, DEST), beads
without a reference as (bead, audits that saw them), instant of the last error per plane (units), audits in a row that reclaimed
nothing, classes that request PFC, instant of each link-down hold, frames that injections hold. -/
structure SwcState where
  nextId : Nat := 0
  order : Nat := 0
  frames : List CoreFrame := []
  copies : List CoreCopy := []
  flows : List Flow := []
  buckets : List Bucket := []
  avgs : List (Nat × Nat × Nat) := []
  dwrr : List Dwrr := []
  fdb : List (Nat × Nat × Nat × Nat) := []
  leaked : List (Nat × Nat) := []
  planeErr : List (Nat × Nat) := []
  cleanRun : Nat := 0
  pfc : Nat := 0
  fij : List FijHeld := []
  deriving DecidableEq, Repr

/-- An entry of a duplicate table (R244): source, highest number, windows dlv, fw0 and fw1, last frame in ns. -/
structure DupEntry where
  src : Nat
  high : Nat
  dlv : Nat := 0
  fw0 : Nat := 0
  fw1 : Nat := 0
  last : Nat := 0
  deriving DecidableEq, Repr

/-- The MACs beyond their registers (R234–R259): duplicate tables and node tables per pair, redundancy counters per pair,
PAUSE or PFC that a port asserts as a class mask (bit 8 PAUSE), instants (ns) until which a peer pauses 16 × port + class,
FCS errors in the present second as (port, second, count), cages switched off, collision attempts per port, instants (ns) to which a port backs off, live MKA peers,
SAKs installed, MAC control frames that wait for the end of the frame in progress (R252), ports whose new SAK no valid frame has
verified yet (R256). -/
structure MacState where
  dup : List (Nat × List DupEntry) := []
  nodes : List (Nat × List (Nat × Nat)) := []
  pairSeq : List (Nat × Nat) := []
  pausing : List (Nat × Nat) := []
  paused : List (Nat × Nat) := []
  fcs : List (Nat × Nat × Nat) := []
  cageOff : List Nat := []
  attempts : List (Nat × Nat) := []
  backoff : List (Nat × Nat) := []
  peers : List (Nat × Nat) := []
  saks : List (Nat × Nat) := []
  ctl : List (Nat × MacTx) := []
  unproven : List Nat := []
  deriving DecidableEq, Repr

/-- A mailbox beyond its registers (R165–R170): passes of the OUT and IN rings, messages delivered from each peer; messages taken
from OUT, written into IN rings, and written back with another status than OK (R675); the messages that the module has taken and not
yet delivered, oldest first. -/
structure MbRec where
  slice : Nat
  outPass : Nat := 0
  inPass : Nat := 0
  rseq : List (Nat × Nat) := []
  took : Nat := 0
  given : Nat := 0
  refused : Nat := 0
  waiting : List MbMsg := []
  deriving DecidableEq, Repr

/-- A freeze or restore in progress (R172, R173): slice, restore, MODE 1, whether its boundary has passed, with its tick and instant
(ns), length and address of the buffer, image, rings allocated for it. -/
structure SliceOp where
  slice : Nat
  restore : Bool
  thaw : Bool
  started : Bool := false
  tick : Nat := 0
  at' : Nat := 0
  buflen : Nat := 0
  buf : Nat := 0
  img : Option SliceImg := none
  alloc : List Nat := []
  deriving DecidableEq, Repr

/-- A stage (R641, R642): slot, MODE, policy and USES words, KEYID as a number (byte 0 lowest), issuer, instant of KEY_STAGE in ns,
whether it is verified. -/
structure KeyStaged where
  slot : Nat
  mode : Nat
  policy : Nat
  uses : Nat
  kid : Nat
  slice : Nat
  at' : Nat
  verified : Bool := false
  deriving DecidableEq, Repr

/-- A sealed blob in the key store (R636, R667): slot, GEN, policy and USES words, KEYID. -/
structure KeyBlob where
  slot : Nat
  gen : Nat
  policy : Nat
  uses : Nat
  kid : Nat
  deriving DecidableEq, Repr

/-- KEY_COMMIT or LIFECYCLE_ADVANCE in progress (R643, R648): request, kind (1 commit, 3 life cycle, 4 DESTROY), slot or target
state, generation, destructions outstanding. -/
structure KeyOp where
  req : Req
  kind : Nat
  slot : Nat
  gen : Nat
  left : Nat := 0
  deriving DecidableEq, Repr

/-- The key store beyond its registers (R636–R649): identifier of each slot's committed key as a number, byte 0 lowest; stages;
durable blobs; operation in progress; blobs (slot, GEN) whose overwrite failed; blobs (slot, GEN) that a ZEROISE response still
destroys; instant (ns) of the live nonce; a console whose proof was accepted. -/
structure KeyState where
  kids : List (Nat × Nat) := []
  stages : List KeyStaged := []
  blobs : List KeyBlob := []
  op : Option KeyOp := none
  retry : List (Nat × Nat) := []
  zero : List (Nat × Nat) := []
  nonceAt : Option Nat := none
  console : Bool := false
  deriving DecidableEq, Repr

/-- An installed recorder channel (R527): table, index, words 0 and 1. -/
structure RecChan where
  bin : Bool
  idx : Nat
  w0 : Nat
  w1 : Nat
  deriving DecidableEq, Repr

/-- A row of the disturbance ring (R524): tick, byte 8, analogue (value, quality byte) in channel order, binary channels as one
number. -/
structure RecRow where
  tick : Nat
  flags : Nat
  ana : List (Int × Nat)
  bin : Nat
  deriving DecidableEq, Repr

/-- A trigger as a record lists it (R538, R550): source (0 unit, 1 binary edge, 2 CMD.FIRE, 3 group, 4 wavefront), unit or
channel, instant in ns, role (0 first, 1 extend, 2 marked). -/
structure RecTrig where
  src : Nat
  unit : Nat
  inst : Nat
  role : Nat
  deriving DecidableEq, Repr

/-- What a record keeps of the module at its trigger (R550): serial number, FW_VERSION, configuration revision with its recorder
description, time class, PLL on REF_IN, LEAP, UNTRUSTED, UTC offset, time zone in quarter hours, ρ in µs, sample rate. -/
structure RecEnv where
  serial : Nat := 0
  fw : Nat := 0
  rev : Nat := 0
  desc : Option RecDesc := none
  cls : Nat := 0
  onRef : Bool := false
  leap : Nat := 0
  untrusted : Bool := false
  offset : Int := 0
  zone : Int := 0
  rho : Nat := 0
  rate : Nat := 4800
  deriving DecidableEq, Repr

/-- A record (R529–R552): id, type (0 disturbance, 1 wave), rate, channels, T0 and E in ns, first tick, index state (0 CAPTURING,
1 CLOSED, 2 TRUNCATED), KEEP, flags of KIND 5, triggers with the number lost, committed rows and segments, ticks without a row,
space in MiB, mask violations as (mask, first tick, count), wave captures listed, arrival (2^-16 ns) and its channel, far
difference (2^-16 ns) and distance; what it keeps of the module; the samples of a wave capture. -/
structure StoredRec where
  id : Nat
  type : Nat
  f : Nat
  chans : List RecChan
  t0 : Nat
  e : Nat
  first : Nat
  state : Nat := 0
  keep : Bool := false
  flags : Nat := 0
  trigs : List RecTrig := []
  lost : Nat := 0
  rows : List RecRow := []
  segs : Nat := 0
  gaps : List Nat := []
  mib : Nat := 0
  viol : List (Nat × Nat × Nat) := []
  waves : List Nat := []
  arrival : Nat := 0
  arrChan : Nat := 0
  far : Option (Int × Nat) := none
  env : RecEnv := {}
  wave : List WaveRow := []
  deriving DecidableEq, Repr

/-- The recorder beyond its registers: ring rows (newest first), channels, installs waiting for the boundary, mask points as
(index, offset, upper, lower), units that have triggered, records (newest first), the record in POST with the instant of its
start and whether it is settled, an ARM held in POST, DISARM in POST, record-id sequence, group messages accepted, instants of
lost generations, ticks without a row, wave capture, own arrival that waits for the far one, far arrival received as (instant,
arrival), start of REARM, channels whose detector is blocked. -/
structure AqeState where
  rows : List RecRow := []
  chans : List RecChan := []
  chPend : List RecChan := []
  mpts : List (Nat × Int × Int × Int) := []
  off : List Nat := []
  recs : List StoredRec := []
  cur : Option Nat := none
  postAt : Nat := 0
  settled : Bool := false
  heldArm : Option (Option Nat) := none
  disarm : Bool := false
  seq : Nat := 0
  seen : List (Nat × Nat × Nat × Nat) := []
  lossAt : List Nat := []
  lostGens : Nat := 0
  noRows : Nat := 0
  wave : Option Nat := none
  farPend : Option Nat := none
  farRx : Option (Nat × Nat) := none
  rearmAt : Nat := 0
  blocked : List Nat := []
  deriving DecidableEq, Repr

/-- A phase of a metering point (R557–R561): voltage samples newest first as (value, good), last good pair (p, q), sums of the
open window, residues of its seven registers. -/
structure NrgPhase where
  volt : List (Int × Bool) := []
  lastP : Int := 0
  lastQ : Int := 0
  sumP : Int := 0
  sumQ : Int := 0
  resid : List Nat := [0, 0, 0, 0, 0, 0, 0]
  deriving DecidableEq, Repr

/-- A metering point (R556–R562): configuration words in force (CFG, PH1–PH3, K low, K high), last tick processed, crossings
newest first as (1/1,024 tick, good), D, whether a window end is due and the tick at which it ended, registers
reg[φ][r] at 7φ + r, phases. -/
structure NrgPoint where
  point : Nat
  cfg : List Nat := [0, 0, 0, 0, 0, 0]
  last : Option Nat := none
  cross : List (Nat × Bool) := []
  d : Nat := 0
  due : Bool := false
  winEnd : Nat := 0
  regs : List Nat := List.replicate 28 0
  phases : List NrgPhase := [{}, {}, {}]
  deriving DecidableEq, Repr

/-- A pulse output (R566–R568): residue in 64 bits, pulses moved into the backlog as (instant in ns, number), instants at which
the pulse and its gap end; since the tally's index started (R677): pulses and units taken, EMITTED + BACKLOG and residue then. -/
structure PulseOut where
  out : Nat
  resid : Nat := 0
  moved : List (Nat × Nat) := []
  onUntil : Nat := 0
  busyUntil : Nat := 0
  taken : Nat := 0
  units : Nat := 0
  base : Nat := 0
  resid0 : Nat := 0
  deriving DecidableEq, Repr

/-- A heat meter (R569–R571): report (θs, θr, V̇, stamp in ns), HEAT, COLD, VOL and ERR_S with their residues, step instant,
instants since which its inputs θs, θr and V̇ have been invalid. -/
structure HeatMeter where
  meter : Nat
  report : Option (Int × Int × Nat × Nat) := none
  heat : Nat := 0
  cold : Nat := 0
  vol : Nat := 0
  errS : Nat := 0
  heatRes : Nat := 0
  coldRes : Nat := 0
  volRes : Nat := 0
  errRes : Nat := 0
  step : Nat := 0
  bad : List (Nat × Nat) := []
  deriving DecidableEq, Repr

/-- A vigil channel (R572): seconds, charges in µAh with their residues as fractions (numerator, denominator). -/
structure VigChan where
  chan : Nat
  secs : Nat := 0
  ahp : Nat := 0
  ahn : Nat := 0
  resP : Nat × Nat := (0, 1)
  resN : Nat × Nat := (0, 1)
  deriving DecidableEq, Repr

/-- Vigil metering (R572–R574): channels, the unaccounted flow as (first second, end, peak in mA, channel) in calendar seconds
since 2000, seconds in a row at or below the threshold; what the vigil domain took at entry to VIGIL: the channels of VIG_MASK, their
K, the threshold; MOD_CLK0 and MOD_CLK1 that run from the vigil oscillator (bits). -/
structure VigilState where
  chans : List VigChan := []
  flow : Option (Nat × Option Nat × Nat × Nat) := none
  calm : Nat := 0
  mask : Nat := 0
  ks : List Nat := []
  thresh : Nat := 0
  clocks : Nat := 0
  deriving DecidableEq, Repr

/-- The quantity unit beyond its registers: points, pulse outputs, heat meters, the last heat step, vigil metering. -/
structure NrgState where
  pts : List NrgPoint := []
  pos : List PulseOut := []
  hms : List HeatMeter := []
  heatAt : Nat := 0
  vig : VigilState := {}
  deriving DecidableEq, Repr

/-- A control loop beyond its registers (R582–R593): OP that waits for the next execution (0 none), tick of the last execution,
U, S of the previous execution, I, D, PVprev, u0, PV0, Δŷ, past U values newest first, executions in a row beyond BAND and
with PV invalid, close due at a takeover, CLE bit as last read, value delivered by the Reckoner with its validity end (ns),
whether that end has been seen. -/
structure LoopRec where
  loop : Nat
  op : Nat := 0
  last : Option Nat := none
  u : Int := 0
  sPrev : Option Int := none
  i : Int := 0
  d : Int := 0
  pvPrev : Int := 0
  u0 : Int := 0
  pv0 : Int := 0
  dy : Int := 0
  line : List Int := List.replicate 64 0
  overs : Nat := 0
  bad : Nat := 0
  reclose : Bool := false
  cbit : Bool := false
  deliv : Option (Int × Nat) := none
  expired : Bool := false
  deriving DecidableEq, Repr

/-- The last REPORT of a device channel (R591): 256 × device + CH, arrival in ns, STATUS bit 0, POSITION, VALUE, whether it has been
seen to be stale; and the POSITION of the last report without STATUS bit 0 (R592). -/
structure DevReport where
  key : Nat
  at' : Nat
  fault : Bool
  position : Int
  value : Int
  seen : Bool := false
  good : Option Int := none
  deriving DecidableEq, Repr

/-- The loop engine beyond its registers. -/
structure LceState where
  loops : List LoopRec := []
  reports : List DevReport := []
  deriving DecidableEq, Repr

/-- A record of the district model (R599–R601): TYPE, ID, NET, FLAGS and its bytes from byte 16 on. -/
structure RckRec where
  type : Nat
  id : Nat
  net : Nat
  flags : Nat
  body : List Nat
  deriving DecidableEq, Repr

/-- A rule (R622): node, QTY, INPUT, target, breakpoints and set-points. -/
structure RckRule where
  node : Nat
  qty : Nat
  input : Nat
  tgt : Nat
  xs : List Rat
  vs : List Rat
  deriving DecidableEq, Repr

/-- The estimator of a sub-station (R625, R626): φ, the matrix Pm by rows, skipped updates and good reports in a row, whether it
is frozen, updates applied. -/
structure RckEst where
  node : Nat
  phi : Rat × Rat
  pm : List Rat
  skips : Nat := 0
  goods : Nat := 0
  frozen : Bool := false
  updates : Nat := 0
  deriving DecidableEq, Repr

/-- Variables of a step (R607): a node or (edge = true) an edge, its TYPE, first position within the step, how many. -/
structure RckVar where
  edge : Bool
  id : Nat
  type : Nat
  off : Nat
  cnt : Nat
  deriving DecidableEq, Repr

/-- A constraint row (R609): step, kind, node or position, coefficients by variable, bounds. -/
structure RckRow where
  step : Nat
  kind : Nat
  id : Nat
  coef : List (Nat × Rat)
  l : Rat
  u : Rat
  deriving DecidableEq, Repr

/-- A programme (R607–R610): variables per step, steps, layout, P as (row, column, value), q, rows. -/
structure RckProg where
  ns : Nat
  steps : Nat
  layout : List RckVar
  p : List (Nat × Nat × Rat)
  q : List (Nat × Rat)
  rows : List RckRow
  deriving DecidableEq, Repr

/-- A solve that runs (R604, R616): id, start (ns), τ0, Δ (ns), cold, programme, initial values, and the unscaled x, z and d and the
ρ that it starts from. -/
structure RckSolve where
  id : Nat
  start : Nat
  t0 : Nat
  delta : Nat
  cold : Bool
  rho : Rat
  prog : RckProg
  init : List (Nat × Rat)
  x : List Rat := []
  z : List Rat := []
  d : List Rat := []
  deriving DecidableEq, Repr

/-- A converged plan (R616, R618): its solve, τ0, Δ (ns), programme shape, x, ρ at its end, initial values, unscaled z and d, and its
rows as (step, kind, which). -/
structure RckPlan where
  id : Nat
  t0 : Nat
  delta : Nat
  ns : Nat
  steps : Nat
  rowCount : Nat
  layout : List RckVar
  x : List Rat
  rho : Rat
  init : List (Nat × Rat)
  z : List Rat := []
  d : List Rat := []
  rows : List (Nat × Nat × Nat) := []
  deriving DecidableEq, Repr

/-- The Reckoner beyond its registers (R598–R626): model, rules, estimators, solve in progress, newest converged plan, flows
released as (step start in ns, edge, flow), released a and m of grid points as (node, a, m), batches per slice, an out-of-turn
solve that waits. -/
structure RckState where
  model : List RckRec := []
  rules : List RckRule := []
  est : List RckEst := []
  cur : Option RckSolve := none
  plan : Option RckPlan := none
  flows : List (Nat × Nat × Rat) := []
  released : List (Nat × Rat × Rat) := []
  seqs : List (Nat × Nat) := []
  again : Bool := false
  deriving DecidableEq, Repr

/-- What a LEDGER bank holds (R662, R663, R673): the NRG state with the words of the pulse outputs, FLAGS, instant of capture in ns,
SEQ. -/
structure Bank where
  nrg : NrgState
  words : List (Nat × Word)
  final : Bool
  pfw : Bool
  tally : Bool
  at' : Nat
  seq : Nat
  deriving DecidableEq, Repr

/-- The state of the block. `dram` holds the pool of slice windows (R161) as (MiB, its bytes as a number), places strictly rising, no
number 0; an unlisted MiB reads 0 (assumption 76). `pending` is the queue of waiting commands, first in first out. `regs` is the register
store: (address, word) pairs, addresses strictly rising, no entry equal to the reset word of its address; an unlisted
address reads its reset word. `hiLatch` holds the high words latched by reads of low words (R48). `time` is module time
in units of 2^-32 ns (R187). `outbox` is what the module has sent, newest first. `freeCtr` is the model's own counter
from which free values are drawn; it stands for no state of the hardware. -/
structure State where
  pending : List Instr := []
  regs : List (Nat × Word) := []
  hiLatch : List (Nat × Word) := []
  time : Nat := 0
  timeRun : Bool := false
  outbox : List Output := []
  freeCtr : Nat := 0
  evqPosted : List EvqItem := []
  faults : List ActiveFault := []
  tg : TickGen := {}
  commits : List CommitBuf := []
  rings : List RingRec := []
  multi : List MultiCmd := []
  pair : PairState := {}
  inj : List Injection := []
  journal : JournalState := {}
  boot : BootState := {}
  tim : TimState := {}
  slots : List Slot := []
  core : CoreState := {}
  cle : CleCtl := {}
  svi : SviState := {}
  pub : PubState := {}
  mod : ModState := {}
  adc : AdcState := {}
  per : PerState := {}
  ho : HoState := {}
  rtc : RtcState := {}
  swc : SwcState := {}
  macs : MacState := {}
  mbs : List MbRec := []
  sliceOp : Option SliceOp := none
  keys : KeyState := {}
  aqe : AqeState := {}
  nrg : NrgState := {}
  lce : LceState := {}
  rck : RckState := {}
  bank : Option Bank := none
  dram : List (Nat × Nat) := []
  deriving DecidableEq, Repr

/-- The machine right after reset: every register at its reset value, the module in BOOT with no step complete
(R113, R124), the queue empty. -/
def State.reset : State := {}

end Sys2Proof.Machine
end

