-- ==== Sys2Proof/Machine/CleCore.lean ====
section
/-! DEFINITION. The cyclic logic engine of one rod: program checks, operand spaces, instructions, chunks and the cycle with
its overrun tolerance (R477–R488, R494). -/

namespace Sys2Proof.Machine

/-! ### Program checks (R481–R483, R491) -/

/-- Whether a bit address exists in a space (R478–R480). -/
def cleAddrOk (p : CleImage) (space a : Nat) : Bool :=
  if space = 0 then decide (a < 8) || (decide (0x100 ≤ a) && decide (a < 0x2100)) ||
    (decide (0x4000 ≤ a) && decide (a < 0xC000))
  else if space = 1 then decide (a < 32 * p.wq)
  else if space = 2 then decide (a < p.nm)
  else if space = 3 then decide (a < p.nt)
  else if space = 4 then decide (a < p.nc)
  else if space = 5 then decide (a < p.nk)
  else if space = 6 then decide (a < 5) || (decide (8 ≤ a) && decide (a < 16))
  else false

/-- Whether an instruction word is assigned and its operand permitted. -/
def cleInstrOk (p : CleImage) (w : Nat) : Bool :=
  let op := w / 2 ^ 24 % 256
  let x := w % 2 ^ 24
  let space := x / 2 ^ 20
  let a := x % 2 ^ 20
  if op = 0 || op = 9 || op = 0xA || op = 0xB || (0x10 ≤ op && op ≤ 0x14) || op = 0x1F || op = 0x4F then x == 0
  else if 1 ≤ op && op ≤ 8 then cleAddrOk p space a
  else if 0x20 ≤ op && op ≤ 0x23 then (space == 1 || space == 2) && cleAddrOk p space a
  else if op = 0x24 || op = 0x25 then space == 2 && cleAddrOk p space a
  else if 0x30 ≤ op && op ≤ 0x32 then decide (x / 65536 < p.nt) && decide (x / 256 % 256 < p.nkw) && x % 256 == 0
  else if 0x38 ≤ op && op ≤ 0x3A then decide (x / 65536 < p.nc) && decide (x / 256 % 256 < p.nkw) && x % 256 == 0
  else if 0x40 ≤ op && op ≤ 0x42 then x / 65536 == 0
  else false

/-- Bytes of code and initial data (R477). -/
def cleBytes (p : CleImage) : Nat := 256 + 4 * p.code.length + p.nm / 8 + p.nk / 8 + 4 * p.nkw + 4 * p.wq

/-- Sizes within the ranges of R477. -/
def cleSizesOk (p : CleImage) : Bool :=
  p.hdrLen == 256 && p.length == cleBytes p && decide (1 ≤ p.code.length) && decide (p.code.length ≤ 65536) &&
  decide (p.wq ≤ 256) && decide (p.nm ≤ 16384) && p.nm % 32 == 0 && decide (p.nk ≤ 4096) && p.nk % 32 == 0 &&
  decide (p.nkw ≤ 256) && decide (p.nt ≤ 255) && decide (p.nc ≤ 255) && p.flags / 2 == 0 &&
  p.m.length == p.nm / 32 && p.k.length == p.nk / 32 && p.kw.length == p.nkw && p.q.length == p.wq

/-- A timer as the TIMER element starts (R393), never run. -/
def cleTimer0 : Nat × Nat × Nat := (2 ^ 32 - 1, 2 ^ 32 - 1, 0)

/-- The state of an instance from the initial data of a program (R490), with its engine state. -/
def cleInit (p : CleImage) (st : Nat) (cold : Bool) : Cle :=
  { st := st, cold := cold, first := true, q := p.q, wq := p.q, m := p.m, k := p.k, kw := p.kw,
    timers := List.replicate p.nt cleTimer0, counters := List.replicate p.nc (0, 0) }

/-! ### Bits -/

/-- A bit of a word list, and the list with it set. -/
def bitAt (l : List Nat) (a : Nat) : Bool := qBit l a
def setBit (l : List Nat) (a : Nat) (b : Bool) : List Nat :=
  let w := l.getD (a / 32) 0
  let has := decide ((w >>> (a % 32)) % 2 = 1)
  if has = b then l else l.set (a / 32) (if b then w + 2 ^ (a % 32) else w - 2 ^ (a % 32))

/-- The forced value of an address in the layout of R478, if any. -/
def forcedAt (fs : List (Nat × Bool)) (x : Nat) : Option Bool := (findKey Prod.fst x fs).map Prod.snd

/-- Q words with the forced Q bits at their forced values (R496). -/
def forceQ (fs : List (Nat × Bool)) (q : List Nat) : List Nat :=
  fs.foldl (fun q e => if e.1 / 2 ^ 20 = 1 then setBit q (e.1 % 2 ^ 20) e.2 else q) q

/-- The input snapshot (R479, R486). -/
def cleSnapshot (img : TickImage) (recs : List (Nat × Nat)) (forces : List (Nat × Bool)) : CleSnap :=
  { di := img.di, set := (img.members.filter fun c => c.val ≠ 0).map ImgChan.idx,
    good := (img.members.filter fun c => c.q % 4 = 0 && c.q / 2 ^ 20 % 2 = 0).map ImgChan.idx,
    recs := recs, forced := forces.filter fun e => e.1 / 2 ^ 20 == 0 }

/-- An input bit of the snapshot (R479). -/
def snapBit (s : CleSnap) (a : Nat) : Bool :=
  match forcedAt s.forced a with
  | some b => b
  | none =>
    if a < 8 then decide ((s.di >>> a) % 2 = 1)
    else if a < 0x1100 then s.set.contains (a - 0x100)
    else if a < 0x2100 then s.good.contains (a - 0x1100)
    else
      match findKey Prod.fst ((a - 0x4000) / 32) s.recs with
      | some (_, w) => decide ((w >>> (a % 32)) % 2 = 1)
      | none => false

/-- Q output of a counter: 1 while its value reaches the KW of the last counter instruction (R483). Its edge word holds
CTU's memory in bit 0, CTD's in bit 1, and 1 + the KW index above bit 2. -/
def counterOut (c : Cle) (i : Nat) : Bool :=
  let (v, e) := c.counters.getD i (0, 0)
  e / 4 ≠ 0 && decide (c.kw.getD (e / 4 - 1) 0 ≤ v)

/-- Reads a bit operand (R478–R481). Reads of Q return the working outputs, forced bits their forced values. -/
def cleRead (c : Cle) (f : Nat) (forces : List (Nat × Bool)) (x : Nat) : Bool :=
  let space := x / 2 ^ 20
  let a := x % 2 ^ 20
  if space = 0 then snapBit c.snap a
  else if space = 1 then (match forcedAt forces x with
    | some b => b
    | none => bitAt c.wq a)
  else if space = 2 then bitAt c.m a
  else if space = 3 then (c.timers.getD a cleTimer0).2.2 / 2 % 2 == 1
  else if space = 4 then counterOut c a
  else if space = 5 then bitAt c.k a
  else if a = 1 then true
  else if a = 2 then c.first
  else if a = 3 then c.ovr
  else if a = 4 then c.cold
  else if 8 ≤ a then decide ((c.start / f >>> (a - 8)) % 2 = 1)
  else false

/-- Writes a bit of Q or M. -/
def cleWriteBit (c : Cle) (x : Nat) (b : Bool) : Cle :=
  if x / 2 ^ 20 = 1 then { c with wq := setBit c.wq (x % 2 ^ 20) b } else { c with m := setBit c.m (x % 2 ^ 20) b }

/-! ### Instructions (R482, R483) -/

/-- Cycles of an instruction. -/
def cleCost (op : Nat) (ba : Bool) : Nat :=
  if (0x10 ≤ op && op ≤ 0x1F) || op = 0x24 || op = 0x25 || op = 0x40 then 2
  else if 0x30 ≤ op && op ≤ 0x3A then 3
  else if op = 0x41 then (if ba then 2 else 1)
  else if op = 0x42 then (if ba then 1 else 2)
  else 1

/-- Joins a bracket's result to the saved bit by operator code (R482). -/
def cleJoin (b : Bool) (code : Nat) (r : Bool) : Bool :=
  if code = 0 then b && r else if code = 1 then b || r else if code = 2 then b != r else if code = 3 then b && !r
  else b || !r

/-- A timer instruction: Δ since the cycle in which it last ran. Flags: previous input, Q, 1 + start tick. -/
def cleTimer (c : Cle) (mode t k : Nat) : Cle :=
  let (e, p, fl) := c.timers.getD t cleTimer0
  let stamp := (c.start + 1) % 2 ^ 30
  let last := fl / 4
  let delta := if last = 0 then 1 else (stamp + 2 ^ 30 - last) % 2 ^ 30
  let td := c.kw.getD k 0
  let (e1, p1, q) := timerStep mode td td delta c.ba e p (fl % 2 == 1) (fl / 2 % 2 == 1)
  { c with timers := c.timers.set t (e1, p1, (if c.ba then 1 else 0) + (if q then 2 else 0) + 4 * stamp) }

/-- A counter instruction. -/
def cleCounter (c : Cle) (op i k : Nat) : Cle :=
  let (v, e) := c.counters.getD i (0, 0)
  let up := e % 2
  let dn := e / 2 % 2
  let one := if c.ba then 1 else 0
  let (v1, up1, dn1) :=
    if op = 0x38 then (if c.ba && up = 0 then min (v + 1) (2 ^ 31 - 1) else v, one, dn)
    else if op = 0x39 then (if c.ba && dn = 0 then v - 1 else v, up, one)
    else (if c.ba then 0 else v, up, dn)
  { c with counters := c.counters.set i (v1, up1 + 2 * dn1 + 4 * (k + 1)) }

/-- The effect of an instruction other than jumps and END: the new instance, or the cause of a runtime error (R484). -/
def cleEffect (c : Cle) (f : Nat) (forces : List (Nat × Bool)) (op x : Nat) : Cle × Nat :=
  let b := cleRead c f forces x
  let c1 := { c with pc := c.pc + 1 }
  if op = 1 then ({ c1 with ba := b }, 0)
  else if op = 2 then ({ c1 with ba := !b }, 0)
  else if op = 3 then ({ c1 with ba := c.ba && b }, 0)
  else if op = 4 then ({ c1 with ba := c.ba && !b }, 0)
  else if op = 5 then ({ c1 with ba := c.ba || b }, 0)
  else if op = 6 then ({ c1 with ba := c.ba || !b }, 0)
  else if op = 7 then ({ c1 with ba := c.ba != b }, 0)
  else if op = 8 then ({ c1 with ba := c.ba != !b }, 0)
  else if op = 9 then ({ c1 with ba := !c.ba }, 0)
  else if op = 0xA then ({ c1 with ba := false }, 0)
  else if op = 0xB then ({ c1 with ba := true }, 0)
  else if 0x10 ≤ op && op ≤ 0x14 then
    if 16 ≤ c.stack.length then (c, 3)
    else ({ c1 with stack := (c.ba, op - 0x10) :: c.stack, ba := op == 0x10 || op == 0x13 }, 0)
  else if op = 0x1F then
    match c.stack with
    | [] => (c, 4)
    | (b0, code) :: l => ({ c1 with stack := l, ba := cleJoin b0 code c.ba }, 0)
  else if op = 0x20 then (cleWriteBit c1 x c.ba, 0)
  else if op = 0x21 then (cleWriteBit c1 x (!c.ba), 0)
  else if op = 0x22 then (if c.ba then cleWriteBit c1 x true else c1, 0)
  else if op = 0x23 then (if c.ba then cleWriteBit c1 x false else c1, 0)
  else if op = 0x24 then ({ cleWriteBit c1 x c.ba with ba := c.ba && !b }, 0)
  else if op = 0x25 then ({ cleWriteBit c1 x c.ba with ba := b && !c.ba }, 0)
  else if 0x30 ≤ op && op ≤ 0x32 then (cleTimer c1 (op - 0x30) (x / 65536) (x / 256 % 256), 0)
  else if 0x38 ≤ op && op ≤ 0x3A then (cleCounter c1 op (x / 65536) (x / 256 % 256), 0)
  else if op = 0x40 then ({ c1 with pc := x }, 0)
  else if op = 0x41 then (if c.ba then { c1 with pc := x } else c1, 0)
  else if op = 0x42 then (if c.ba then c1 else { c1 with pc := x }, 0)
  else (c1, 0)

/-! ### The cycle (R485–R488) -/

/-- How a chunk ended: still running, committed (C, overrun), or faulted (cause, address). -/
inductive CleEnd where
  | running
  | committed (c : Nat) (overs : Bool)
  | faulted (cause pc : Nat)
  deriving DecidableEq, Repr

/-- Overruns among the recorded cycles. `over` lists, newest first, 1 for a cycle that overran, at most 1,000 long. -/
def overruns (l : List Nat) : Nat := l.sum

/-- The end of a cycle of length C: commit, overrun or fault 2 (R486, R488). -/
def cleCommit (w : CleWork) (c : Cle) : Cle × CleEnd :=
  let overs := decide (w.period * w.budget < c.used)
  let hist := ((if overs then 1 else 0) :: c.overs).take 1000
  if overs && decide (w.tolCount < overruns hist) then
    ({ c with st := 2, phase := 0, overs := hist, pos := (c.pos + 1) % 1000 }, .faulted 2 c.pc)
  else
    ({ c with q := forceQ w.forces c.wq, phase := 0, overs := hist, pos := (c.pos + 1) % 1000, ovr := overs,
              first := false }, .committed c.used overs)

/-- The chunk: `fuel` bounds the instructions, `limit` is the cycle count at the chunk's end, `top` is L. -/
def cleRun (p : CleImage) (w : CleWork) (f limit top : Nat) : Nat → Cle → Cle × CleEnd
  | 0, c => (c, .running)
  | fuel + 1, c =>
    if c.phase = 2 && decide (p.code.length ≤ c.pc) then ({ c with st := 2, phase := 0 }, .faulted 6 c.pc)
    else
      let ins := p.code.getD c.pc 0
      let op := ins / 2 ^ 24 % 256
      let cost := if c.phase = 1 then 1024 else if c.phase = 3 then 320 else cleCost op c.ba
      let fin := c.used + (cost - c.part)
      if decide (top < fin) && decide (top ≤ limit) then
        ({ c with st := 2, phase := 0, used := top, part := 0 }, .faulted 1 c.pc)
      else if limit < fin then ({ c with used := limit, part := c.part + (limit - c.used) }, .running)
      else
        let c1 := { c with used := fin, part := 0 }
        if c.phase = 1 then cleRun p w f limit top fuel { c1 with phase := 2 }
        else if c.phase = 3 then cleCommit w c1
        else if op = 0x4F then
          if c1.stack.isEmpty then cleRun p w f limit top fuel { c1 with phase := 3 }
          else ({ c1 with st := 2, phase := 0 }, .faulted 5 c.pc)
        else
          let (c2, err) := cleEffect c1 f w.forces op (ins % 2 ^ 24)
          if err ≠ 0 then ({ c1 with st := 2, phase := 0 }, .faulted err c.pc)
          else cleRun p w f limit top fuel c2

/-- A value written by CLE_WRITE (R493). -/
def cleApplyWrite (c : Cle) (target value : Nat) : Cle :=
  let a := target % 2 ^ 20
  if target / 2 ^ 20 = 2 then { c with m := setBit c.m a (value % 2 == 1) }
  else if target / 2 ^ 20 = 5 then { c with k := setBit c.k a (value % 2 == 1) }
  else { c with kw := c.kw.set (target % 256) (value % 2 ^ 32) }

/-- A cycle starts at a boundary of the grid (R486, R487); its snapshot is taken with its first chunk. -/
def cleOpen (c : Cle) (w : CleWork) : Cle :=
  { c with phase := 1, pc := 0, ba := false, stack := [], used := 0, part := 0, start := w.boundary, wq := c.q }

/-- Whether a cycle starts at this boundary (R487). -/
def cleStarts (c : Cle) (w : CleWork) : Bool :=
  c.st == 1 && c.phase == 0 && decide (w.m0 ≤ w.boundary) && (w.boundary - w.m0) % w.period == 0

/-- What a boundary changes in the instance: stop, start, a value written, forced Q bits (R490, R493, R496). -/
def cleChange (p : CleImage) (w : CleWork) (c0 : Cle) : Cle :=
  let c1 := if w.stop then { c0 with st := 0, phase := 0, wq := c0.q } else c0
  let c2 := match w.start with
    | some (init, cold) =>
      if init then cleInit p 1 cold else { c1 with st := 1, first := true, cold := cold, phase := 0 }
    | none => c1
  let c3 := match w.write with
    | some (t, v) => cleApplyWrite c2 t v
    | none => c2
  { c3 with q := forceQ w.forces c3.q }

/-- What a boundary brings to the instance: its changes, then the start of a cycle where one is due. The cycle starts although no image
follows the boundary (R485: it then takes one tick more). -/
def cleEdge (p : CleImage) (w : CleWork) (c0 : Cle) : Cle :=
  let c1 := cleChange p w c0
  if cleStarts c1 w then cleOpen c1 w else c1

/-- Whether a chunk is due (R485). -/
def chunkDue (c : Cle) : Bool := c.st == 1 && c.phase ≠ 0

/-- The CLE work of a rod for an image (R485): the snapshot where the cycle has not run yet, then one chunk. -/
def cleTick (p : CleImage) (f : Nat) (w : CleWork) (img : TickImage) (recs : List (Nat × Nat)) (c4 : Cle) :
    Cle × CleEnd :=
  let c5 := if c4.phase = 1 && c4.used = 0 then { c4 with snap := cleSnapshot img recs w.forces } else c4
  if chunkDue c5 then
    cleRun p w f (c5.used + w.budget) (w.period * w.budget * (100 + w.tolPct) / 100) (w.budget + 3) c5
  else (c5, .running)

/-! ### State words (R494) -/

/-- A Boolean as a bit. -/
def bit (b : Bool) : Nat := if b then 1 else 0

/-- The words of the overrun flags: 1,000 bits, then the 10-bit position. -/
def overWords (c : Cle) : List Nat :=
  let bits := c.overs ++ List.replicate (1000 - c.overs.length) 0 ++ (List.range 10).map fun i => c.pos >>> i % 2
  (List.range 32).map fun w => (List.range 32).foldl (fun a i => a + bits.getD (32 * w + i) 0 * 2 ^ i) 0

/-- The bracket stack, entry 0 the oldest (R494). -/
def stackWord (l : List (Bool × Nat)) (w : Nat) : Nat :=
  (List.range 8).foldl (fun a i => a + (match l.reverse[8 * w + i]? with
    | some (b, k) => 8 * bit b + k
    | none => 0) * 16 ^ i) 0

/-- The state area of R494, with one word of the model's own for the phase and the cycles spent on the instruction in
progress (assumption 11). -/
def cleWords (c : Cle) : List Nat :=
  [c.pc % 65536 + bit c.ba * 2 ^ 16 + c.stack.length * 2 ^ 17 + c.st * 2 ^ 22 + bit c.cold * 2 ^ 24 + bit c.first * 2 ^ 25 +
    bit c.ovr * 2 ^ 26, stackWord c.stack 0, stackWord c.stack 1, c.used, c.start % 2 ^ 32, c.start / 2 ^ 32] ++
  overWords c ++ c.q ++ c.wq ++ c.m ++ c.k ++ c.kw ++
  c.timers.foldl (fun a t => a ++ [t.1, t.2.1, t.2.2]) [] ++ c.counters.foldl (fun a t => a ++ [t.1, t.2]) [] ++
  [c.phase + 4 * c.part]

/-- Triples and pairs of words. -/
def triples : List Nat → List (Nat × Nat × Nat)
  | a :: b :: c :: l => (a, b, c) :: triples l
  | _ => []
def pairs : List Nat → List (Nat × Nat)
  | a :: b :: l => (a, b) :: pairs l
  | _ => []

/-- The instance that a state area holds, for a program; the input snapshot is kept from `c0`, which the words lack. -/
def cleOfWords (p : CleImage) (c0 : Cle) (w : List Nat) : Cle :=
  let h := w.getD 0 0
  let depth := h >>> 17 % 32
  let nib := fun e => w.getD (1 + e / 8) 0 >>> (4 * (e % 8)) % 16
  let ovBit := fun i => w.getD (6 + i / 32) 0 >>> (i % 32) % 2
  let r := w.drop 38
  let r1 := r.drop p.wq
  let r2 := r1.drop p.wq
  let r3 := r2.drop (p.nm / 32)
  let r4 := r3.drop (p.nk / 32)
  let r5 := r4.drop p.nkw
  let r6 := r5.drop (3 * p.nt)
  let r7 := r6.drop (2 * p.nc)
  { c0 with
    pc := h % 65536, ba := h >>> 16 % 2 == 1, stack := ((List.range depth).map fun e => (nib e / 8 == 1, nib e % 8)).reverse,
    st := h >>> 22 % 4, cold := h >>> 24 % 2 == 1, first := h >>> 25 % 2 == 1, ovr := h >>> 26 % 2 == 1,
    used := w.getD 3 0, start := w.getD 4 0 + w.getD 5 0 * 2 ^ 32,
    overs := (List.range 1000).map ovBit, pos := (List.range 10).foldl (fun a i => a + ovBit (1000 + i) * 2 ^ i) 0,
    q := r.take p.wq, wq := r1.take p.wq, m := r2.take (p.nm / 32), k := r3.take (p.nk / 32), kw := r4.take p.nkw,
    timers := triples (r5.take (3 * p.nt)), counters := pairs (r6.take (2 * p.nc)),
    phase := r7.headD 0 % 4, part := r7.headD 0 / 4 }

end Sys2Proof.Machine
end

