-- ==== Sys2Proof/Machine/Crc.lean ====
section
/-! DEFINITION. The CRCs of the spec: CRC-32C (R313), CRC-64/XZ (R404), over lists of byte values, and the byte form of a
tick image (R312). -/

namespace Sys2Proof.Machine

/-- One bit of a reflected CRC with polynomial `poly` (reflected). -/
def crcBit (poly c : Nat) : Nat := if c % 2 = 1 then (c / 2) ^^^ poly else c / 2

/-- One byte of a reflected CRC. -/
def crcByte (poly c b : Nat) : Nat :=
  crcBit poly (crcBit poly (crcBit poly (crcBit poly (crcBit poly (crcBit poly (crcBit poly (crcBit poly (c ^^^ b))))))))

/-- CRC-32C (R313): polynomial 0x1EDC6F41 reflected, initial value and final XOR all ones. -/
def crc32c (l : List Nat) : Nat := l.foldl (crcByte 0x82F63B78) 0xFFFFFFFF ^^^ 0xFFFFFFFF

/-- CRC-64/XZ (R404): polynomial 0x42F0E1EBA9EA3693 reflected, initial value and final XOR all ones. -/
def crc64 (l : List Nat) : Nat := l.foldl (crcByte 0xC96C5795D7870F42) 0xFFFFFFFFFFFFFFFF ^^^ 0xFFFFFFFFFFFFFFFF

/-- n bytes of a number, little-endian. -/
def le : Nat → Nat → List Nat
  | 0, _ => []
  | n + 1, x => x % 256 :: le n (x / 256)

/-- The bytes of words, little-endian. -/
def wordBytes (l : List Nat) : List Nat := l.foldr (fun w a => le 4 w ++ a) []

/-- mix(x, w) of R404. -/
def mix (x w : Nat) : Nat := crc64 (le 4 x ++ le 4 w)

/-- XOR of mix over the words of a list, numbered from x on (R404). -/
def mixAll : Nat → List Nat → Nat
  | _, [] => 0
  | x, w :: l => mix x w ^^^ mixAll (x + 1) l

/-- Channels of an image in bytes: `count` entries of 8 bytes from the sparse list. -/
def chanBytes (l : List ImgChan) (count : Nat) : List Nat :=
  (List.range count).foldr (fun i a =>
    (match findKey ImgChan.idx i l with
      | some c => le 4 (unsigned 32 c.val) ++ le 4 c.q
      | none => le 4 0 ++ le 4 1) ++ a) []

/-- GOOSE status entries in bytes; an empty entry is all zero except NEVER. -/
def gooseBytes (l : List ImgGoose) : List Nat :=
  (List.range 1024).foldr (fun i a =>
    (match l.find? fun g => g.idx == i with
      | some g => le 4 g.st ++ le 4 g.flags
      | none => le 4 0 ++ le 4 2) ++ a) []

/-- The bytes of an image up to TR_OFF (R312), C the channel capacity of its rate. -/
def imageBytes (img : TickImage) (cap : Nat) : List Nat :=
  le 4 0x4E525449 ++ le 2 1 ++ [img.rate, (if img.first then 1 else 0) + (if img.untrusted then 2 else 0) + img.cls * 4] ++
  le 8 img.tick ++ le 8 img.tNs ++ le 2 cap ++ [img.di, 0] ++ le 2 img.missing ++ le 2 img.expected ++
  le 4 (64 + 8 * cap) ++ le 4 (64 + 8 * cap + 32768) ++ le 4 (64 + 8 * cap + 40960) ++ List.replicate 20 0 ++
  chanBytes img.chans cap ++ chanBytes img.members 4096 ++ gooseBytes img.goose

/-- Channel capacity of a RATE code (R19). -/
def capOf (rate : Nat) : Nat := if rate < 2 then 4096 else 1536

/-- The CRC field of an image (R312). -/
def imageCrc (img : TickImage) : Nat := crc32c (imageBytes img (capOf img.rate))

end Sys2Proof.Machine
end

