-- ==== Sys2Proof/Machine/RegTable.lean ====
section
/-! DEFINITION. The register tables of the spec as data: per block the registers beyond the common
four (R59), each with its offset, its index dimensions (count, stride) and its fields. A field carries
its lowest bit, its width, its access code (R50), its class (R52), its reset value and the range that
its Description states (R55). Reset values the spec marks OTP, PER, image, strap, flash, derived or backup stand
as 0 here (assumption 3). -/

namespace Sys2Proof.Machine

/-- Access codes of R50. -/
inductive Access where
  | ro | rw | wo | w1c | w1s | rc
  deriving DecidableEq, Repr

/-- Field classes of R52; `none` where the table gives no class. -/
inductive FClass where
  | s | t | l | none
  deriving DecidableEq, Repr

/-- One field of a register table row. -/
structure FieldSpec where
  lo : Nat
  width : Nat
  acc : Access
  cls : FClass
  reset : Nat
  min : Nat
  max : Nat
  deriving DecidableEq, Repr

/-- One register of a table: offset in its block, index dimensions as (count, stride), number of 32-bit words, fields. -/
structure RegSpec where
  off : Nat
  dims : List (Nat × Nat)
  words : Nat
  fields : List FieldSpec
  deriving DecidableEq, Repr

/-- Registers of GLB (R124), part 0: STATE, STATUS, RESET_CAUSE, RESET_CTRL, STRAPS, BOOT_TIME, SAFE, SERVICE, CFG_ACTIVE, CFG_PENDING, CFG_PREVIOUS, TEMP, EVT. -/
def specsGLB0 : List RegSpec := [
  ⟨0x10, [], 1, [⟨8, 4, .ro, .none, 3, 0, 0xf⟩, ⟨7, 1, .ro, .none, 0, 0, 1⟩, ⟨4, 3, .ro, .none, 0, 0, 7⟩, ⟨0, 4, .ro, .none, 3, 0, 0xf⟩]⟩,
  ⟨0x14, [], 1, [⟨6, 1, .ro, .none, 0, 0, 1⟩, ⟨5, 1, .ro, .none, 0, 0, 1⟩, ⟨4, 1, .ro, .none, 0, 0, 1⟩, ⟨3, 1, .ro, .none, 0, 0, 1⟩, ⟨2, 1, .ro, .none, 0, 0, 1⟩, ⟨1, 1, .ro, .none, 0, 0, 1⟩, ⟨0, 1, .ro, .none, 0, 0, 1⟩]⟩,
  ⟨0x18, [], 1, [⟨16, 16, .ro, .none, 0, 0, 0xffff⟩, ⟨5, 1, .w1c, .none, 0, 0, 1⟩, ⟨4, 1, .w1c, .none, 0, 0, 1⟩, ⟨3, 1, .w1c, .none, 0, 0, 1⟩, ⟨2, 1, .w1c, .none, 0, 0, 1⟩, ⟨1, 1, .w1c, .none, 0, 0, 1⟩, ⟨0, 1, .w1c, .none, 1, 0, 1⟩]⟩,
  ⟨0x1c, [], 1, [⟨16, 16, .wo, .none, 0, 0, 0xffff⟩, ⟨0, 1, .wo, .none, 0, 0, 1⟩]⟩,
  ⟨0x20, [], 1, [⟨5, 1, .ro, .none, 0, 0, 1⟩, ⟨0, 5, .ro, .none, 0, 0, 0x1f⟩]⟩,
  ⟨0x24, [], 1, [⟨16, 16, .ro, .none, 0, 0, 0xffff⟩, ⟨0, 16, .ro, .none, 0, 0, 0xffff⟩]⟩,
  ⟨0x28, [], 1, [⟨24, 8, .ro, .none, 0, 0, 0xff⟩, ⟨16, 8, .ro, .none, 0, 0, 0xff⟩, ⟨0, 16, .ro, .none, 0, 0, 0xffff⟩]⟩,
  ⟨0x2c, [], 1, [⟨0, 11, .rw, .l, 0xf0, 1, 0x5a0⟩]⟩,
  ⟨0x30, [], 1, [⟨0, 32, .ro, .none, 0, 0, 0xffffffff⟩]⟩,
  ⟨0x34, [], 1, [⟨0, 32, .ro, .none, 0, 0, 0xffffffff⟩]⟩,
  ⟨0x38, [], 1, [⟨0, 32, .ro, .none, 0, 0, 0xffffffff⟩]⟩,
  ⟨0x3c, [], 1, [⟨16, 16, .ro, .none, 0, 0, 0xffff⟩, ⟨0, 16, .ro, .none, 0, 0, 0xffff⟩]⟩,
  ⟨0x40, [], 1, [⟨0, 8, .w1c, .none, 0, 0, 0xff⟩]⟩]

/-- Registers of GLB. -/
def specsGLB : List RegSpec := specsGLB0

/-- Registers of KPR (R126), part 0: FW_VERSION, SVN, BOOT, SELFTEST, EVT, MEAS. -/
def specsKPR0 : List RegSpec := [
  ⟨0x10, [], 1, [⟨24, 8, .ro, .none, 4, 0, 0xff⟩, ⟨16, 8, .ro, .none, 2, 0, 0xff⟩, ⟨0, 16, .ro, .none, 0, 0, 0xffff⟩]⟩,
  ⟨0x14, [], 1, [⟨0, 16, .ro, .none, 0, 0, 0xffff⟩]⟩,
  ⟨0x18, [], 1, [⟨16, 16, .ro, .none, 0, 0, 0xffff⟩, ⟨8, 4, .ro, .none, 0, 0, 0xf⟩, ⟨4, 4, .ro, .none, 0, 0, 0xf⟩, ⟨0, 4, .ro, .none, 0, 0, 0xf⟩]⟩,
  ⟨0x1c, [], 1, [⟨0, 9, .ro, .none, 0, 0, 0x1ff⟩]⟩,
  ⟨0x20, [], 1, [⟨0, 4, .w1c, .none, 0, 0, 0xf⟩]⟩,
  ⟨0x100, [(8, 0x40), (12, 4)], 1, [⟨0, 32, .ro, .none, 0, 0, 0xffffffff⟩]⟩]

/-- Registers of KPR. -/
def specsKPR : List RegSpec := specsKPR0

/-- Registers of HIF (R155), part 0: LINK, EVT, RINGS, DB_BAD, DB_STRAY, RX_NORING, DMAERR_LO, DMAERR_HI, DMAERR_INFO, RING_EVT, RING_BASE_LO, RING_BASE_HI, RING_CFG, RING_COAL, RING_PTR, RING_RSTAT. -/
def specsHIF0 : List RegSpec := [
  ⟨0x10, [], 1, [⟨9, 1, .ro, .none, 0, 0, 1⟩, ⟨8, 1, .ro, .none, 0, 0, 1⟩, ⟨4, 4, .ro, .none, 0, 0, 0xf⟩, ⟨0, 4, .ro, .none, 0, 0, 0xf⟩]⟩,
  ⟨0x14, [], 1, [⟨0, 4, .w1c, .none, 0, 0, 0xf⟩]⟩,
  ⟨0x18, [], 1, [⟨0, 11, .ro, .none, 0, 0, 0x7ff⟩]⟩,
  ⟨0x1c, [], 1, [⟨16, 10, .rc, .none, 0, 0, 0x3ff⟩, ⟨0, 16, .rc, .none, 0, 0, 0xffff⟩]⟩,
  ⟨0x20, [], 1, [⟨16, 8, .rc, .none, 0, 0, 0xff⟩, ⟨0, 16, .rc, .none, 0, 0, 0xffff⟩]⟩,
  ⟨0x24, [], 1, [⟨16, 8, .rc, .none, 0, 0, 0xff⟩, ⟨0, 16, .rc, .none, 0, 0, 0xffff⟩]⟩,
  ⟨0x28, [], 1, [⟨0, 32, .ro, .none, 0, 0, 0xffffffff⟩]⟩,
  ⟨0x2c, [], 1, [⟨0, 32, .ro, .none, 0, 0, 0xffffffff⟩]⟩,
  ⟨0x30, [], 1, [⟨16, 10, .rc, .none, 0, 0, 0x3ff⟩, ⟨0, 4, .rc, .none, 0, 0, 0xf⟩]⟩,
  ⟨0x100, [(32, 4)], 1, [⟨0, 32, .w1c, .none, 0, 0, 0xffffffff⟩]⟩,
  ⟨0x1000, [(1024, 0x10)], 1, [⟨12, 20, .rw, .l, 0, 0, 0xfffff⟩, ⟨6, 6, .rw, .l, 0, 0, 0x3f⟩]⟩,
  ⟨0x1004, [(1024, 0x10)], 1, [⟨0, 32, .rw, .l, 0, 0, 0xffffffff⟩]⟩,
  ⟨0x1008, [(1024, 0x10)], 1, [⟨31, 1, .rw, .l, 0, 0, 1⟩, ⟨28, 3, .rw, .l, 0, 0, 4⟩, ⟨24, 4, .rw, .l, 0, 0, 0xf⟩, ⟨16, 8, .rw, .l, 0, 0, 0xff⟩, ⟨13, 3, .rw, .l, 0, 0, 7⟩, ⟨0, 12, .rw, .l, 0, 0, 0xfff⟩]⟩,
  ⟨0x100c, [(1024, 0x10)], 1, [⟨16, 16, .rw, .l, 0, 0, 0xffff⟩, ⟨0, 16, .rw, .l, 0, 0, 0x8000⟩]⟩,
  ⟨0x5000, [(1024, 8)], 1, [⟨16, 16, .ro, .none, 0, 0, 0xffff⟩, ⟨0, 16, .ro, .none, 0, 0, 0xffff⟩]⟩,
  ⟨0x5004, [(1024, 8)], 1, [⟨16, 16, .ro, .none, 0, 0, 0xffff⟩, ⟨4, 1, .ro, .none, 0, 0, 1⟩, ⟨3, 1, .ro, .none, 0, 0, 1⟩, ⟨2, 1, .ro, .none, 0, 0, 1⟩, ⟨1, 1, .ro, .none, 0, 0, 1⟩, ⟨0, 1, .ro, .none, 0, 0, 1⟩]⟩]

/-- Registers of HIF (R155), part 1: RING_CNT. -/
def specsHIF1 : List RegSpec := [
  ⟨0x7000, [(1024, 4)], 1, [⟨16, 16, .rc, .none, 0, 0, 0xffff⟩, ⟨0, 16, .rc, .none, 0, 0, 0xffff⟩]⟩]

/-- Registers of HIF. -/
def specsHIF : List RegSpec := specsHIF0 ++ specsHIF1

/-- Registers of SLC (R184), part 0: EVT, POOL, HO_STATUS, HO_CFG, SLICE_ID, SLICE_QA, SLICE_QB, SLICE_QC, SLICE_QD, SLICE_RCKR, SLICE_DRAMW, SLICE_VEC, SLICE_EGRESS, SLICE_DMA, SLICE_STATE, SLICE_UA. -/
def specsSLC0 : List RegSpec := [
  ⟨0x10, [], 1, [⟨0, 8, .w1c, .none, 0, 0, 0xff⟩]⟩,
  ⟨0x14, [], 1, [⟨16, 11, .ro, .none, 0x400, 0, 0x7ff⟩, ⟨0, 11, .ro, .none, 0x400, 0, 0x7ff⟩]⟩,
  ⟨0x18, [], 1, [⟨24, 8, .ro, .none, 0, 0, 0xff⟩, ⟨20, 4, .ro, .none, 0, 0, 0xf⟩, ⟨16, 4, .ro, .none, 0, 0, 0xf⟩, ⟨0, 16, .ro, .none, 0, 0, 0xffff⟩]⟩,
  ⟨0x1c, [], 1, [⟨8, 8, .rw, .l, 3, 0, 7⟩, ⟨0, 8, .rw, .l, 0x10, 4, 0xff⟩]⟩,
  ⟨0x1000, [(256, 0x40)], 1, [⟨31, 1, .rw, .l, 0, 0, 1⟩, ⟨30, 1, .rw, .l, 0, 0, 1⟩, ⟨29, 1, .rw, .l, 0, 0, 1⟩, ⟨28, 1, .rw, .l, 0, 0, 1⟩, ⟨0, 20, .rw, .l, 0, 0, 0xfffff⟩]⟩,
  ⟨0x1004, [(256, 0x40)], 1, [⟨18, 10, .rw, .l, 0, 0, 0x3ff⟩, ⟨7, 11, .rw, .l, 0, 0, 0x7ff⟩, ⟨0, 7, .rw, .l, 0, 0, 0x7f⟩]⟩,
  ⟨0x1008, [(256, 0x40)], 1, [⟨10, 11, .rw, .l, 0, 0, 0x7ff⟩, ⟨0, 10, .rw, .l, 0, 0, 0x3ff⟩]⟩,
  ⟨0x100c, [(256, 0x40)], 1, [⟨13, 14, .rw, .l, 0, 0, 0x3fff⟩, ⟨0, 13, .rw, .l, 0, 0, 0x1fff⟩]⟩,
  ⟨0x1010, [(256, 0x40)], 1, [⟨0, 11, .rw, .l, 0, 0, 0x7ff⟩]⟩,
  ⟨0x1014, [(256, 0x40)], 1, [⟨16, 13, .rw, .l, 0, 0, 0x1000⟩, ⟨0, 12, .rw, .l, 0, 0, 0xfff⟩]⟩,
  ⟨0x1018, [(256, 0x40)], 1, [⟨16, 13, .rw, .l, 0, 0, 0x1000⟩, ⟨0, 12, .rw, .l, 0, 0, 0xfff⟩]⟩,
  ⟨0x101c, [(256, 0x40)], 1, [⟨12, 12, .rw, .l, 0, 0, 0x800⟩, ⟨0, 11, .rw, .l, 0, 0, 0x7ff⟩]⟩,
  ⟨0x1020, [(256, 0x40)], 1, [⟨16, 8, .rw, .l, 0, 0, 0xff⟩, ⟨12, 1, .rw, .l, 0, 0, 1⟩, ⟨0, 12, .rw, .l, 0, 0, 0xfff⟩]⟩,
  ⟨0x1024, [(256, 0x40)], 1, [⟨8, 8, .rw, .l, 0, 0, 0x80⟩, ⟨0, 8, .rw, .l, 1, 1, 0xff⟩]⟩,
  ⟨0x1028, [(256, 0x40)], 1, [⟨0, 4, .ro, .none, 0, 0, 0xf⟩]⟩,
  ⟨0x102c, [(256, 0x40)], 1, [⟨0, 32, .ro, .none, 0, 0, 0xffffffff⟩]⟩]

/-- Registers of SLC (R184), part 1: SLICE_UB, SLICE_UC, SLICE_UD, SLICE_DSID. -/
def specsSLC1 : List RegSpec := [
  ⟨0x1030, [(256, 0x40)], 1, [⟨0, 32, .ro, .none, 0, 0, 0xffffffff⟩]⟩,
  ⟨0x1034, [(256, 0x40)], 1, [⟨0, 32, .ro, .none, 0, 0, 0xffffffff⟩]⟩,
  ⟨0x1038, [(256, 0x40)], 1, [⟨0, 32, .ro, .none, 0, 0, 0xffffffff⟩]⟩,
  ⟨0x103c, [(256, 0x40)], 1, [⟨0, 32, .rw, .l, 0, 0, 0xffffffff⟩]⟩]

/-- Registers of SLC. -/
def specsSLC : List RegSpec := specsSLC0 ++ specsSLC1

/-- Registers of TIM (R209), part 0: CTRL, STATUS, INCR_LO, INCR_HI, TIME_NS, TIME_SEC_LO, TIME_SEC_HI, STEP_LO, STEP_HI, HOLD_MAX, PTP_CFG, PPS, PPS_IN_NS, PPS_IN_SEC_LO, PPS_IN_SEC_HI, PPS_IN_CNT. -/
def specsTIM0 : List RegSpec := [
  ⟨0x10, [], 1, [⟨1, 1, .rw, .l, 1, 0, 1⟩, ⟨0, 1, .ro, .none, 0, 0, 1⟩]⟩,
  ⟨0x14, [], 1, [⟨16, 16, .ro, .none, 0, 0, 0xffff⟩, ⟨11, 1, .w1c, .l, 0, 0, 1⟩, ⟨10, 1, .ro, .none, 0, 0, 1⟩, ⟨9, 1, .w1c, .l, 0, 0, 1⟩, ⟨8, 1, .ro, .none, 0, 0, 1⟩, ⟨7, 1, .ro, .none, 0, 0, 1⟩, ⟨6, 1, .ro, .none, 0, 0, 1⟩, ⟨5, 1, .ro, .none, 0, 0, 1⟩, ⟨4, 1, .ro, .none, 0, 0, 1⟩, ⟨0, 3, .ro, .none, 0, 0, 7⟩]⟩,
  ⟨0x18, [], 1, [⟨0, 32, .rw, .l, 0x9999999a, 0, 0xffffffff⟩]⟩,
  ⟨0x1c, [], 1, [⟨0, 8, .rw, .l, 1, 0, 0xff⟩]⟩,
  ⟨0x20, [], 1, [⟨0, 30, .ro, .none, 0, 0, 0x3fffffff⟩]⟩,
  ⟨0x24, [], 1, [⟨0, 32, .ro, .none, 0, 0, 0xffffffff⟩]⟩,
  ⟨0x28, [], 1, [⟨0, 16, .ro, .none, 0, 0, 0xffff⟩]⟩,
  ⟨0x2c, [], 1, [⟨0, 32, .rw, .l, 0, 0, 0xffffffff⟩]⟩,
  ⟨0x30, [], 1, [⟨0, 32, .rw, .l, 0, 0, 0xffffffff⟩]⟩,
  ⟨0x34, [], 1, [⟨0, 17, .rw, .l, 0x12c, 1, 0x15180⟩]⟩,
  ⟨0x38, [], 1, [⟨24, 8, .rw, .s, 0, 0, 0xff⟩, ⟨20, 4, .rw, .s, 0, 0, 0xf⟩, ⟨16, 4, .rw, .s, 3, 2, 0xa⟩, ⟨10, 1, .rw, .s, 0, 0, 1⟩, ⟨9, 1, .rw, .s, 0, 0, 1⟩, ⟨8, 1, .rw, .s, 0, 0, 1⟩, ⟨0, 8, .rw, .s, 0, 0, 0xff⟩]⟩,
  ⟨0x3c, [], 1, [⟨9, 1, .rw, .l, 0, 0, 1⟩, ⟨0, 9, .rw, .l, 0x64, 1, 0x1f4⟩]⟩,
  ⟨0x40, [], 1, [⟨0, 30, .ro, .none, 0, 0, 0x3fffffff⟩]⟩,
  ⟨0x44, [], 1, [⟨0, 32, .ro, .none, 0, 0, 0xffffffff⟩]⟩,
  ⟨0x48, [], 1, [⟨0, 16, .ro, .none, 0, 0, 0xffff⟩]⟩,
  ⟨0x4c, [], 1, [⟨16, 16, .rc, .none, 0, 0, 0xffff⟩, ⟨0, 16, .ro, .none, 0, 0, 0xffff⟩]⟩]

/-- Registers of TIM (R209), part 1: DIEDGE_EN, DIEDGE_POP, DIEDGE_TS_NS, DIEDGE_TS_SEC_LO, DIEDGE_TS_SEC_HI, DIEDGE_STAT, EVT, SERVO_OFS, SERVO_MPD, PTP_STATE, PORT_LAT_TX, PORT_LAT_RX, PORT_ASYM, PORT_LATE_MAX, PORT_LATE_CNT, PORT_GCL_CTRL. -/
def specsTIM1 : List RegSpec := [
  ⟨0x50, [], 1, [⟨8, 8, .rw, .l, 0, 0, 0xff⟩, ⟨0, 8, .rw, .l, 0, 0, 0xff⟩]⟩,
  ⟨0x54, [], 1, [⟨31, 1, .rc, .none, 0, 0, 1⟩, ⟨8, 3, .rc, .none, 0, 0, 7⟩, ⟨0, 1, .rc, .none, 0, 0, 1⟩]⟩,
  ⟨0x58, [], 1, [⟨0, 30, .ro, .none, 0, 0, 0x3fffffff⟩]⟩,
  ⟨0x5c, [], 1, [⟨0, 32, .ro, .none, 0, 0, 0xffffffff⟩]⟩,
  ⟨0x60, [], 1, [⟨0, 16, .ro, .none, 0, 0, 0xffff⟩]⟩,
  ⟨0x64, [], 1, [⟨16, 16, .rc, .none, 0, 0, 0xffff⟩, ⟨0, 7, .ro, .none, 0, 0, 0x7f⟩]⟩,
  ⟨0x68, [], 1, [⟨0, 8, .w1c, .none, 0, 0, 0xff⟩]⟩,
  ⟨0x6c, [], 1, [⟨0, 32, .ro, .none, 0, 0, 0xffffffff⟩]⟩,
  ⟨0x70, [], 1, [⟨0, 32, .ro, .none, 0, 0, 0xffffffff⟩]⟩,
  ⟨0x74, [], 1, [⟨16, 8, .ro, .none, 0xff, 0, 0xff⟩, ⟨0, 16, .ro, .none, 0, 0, 0xffff⟩]⟩,
  ⟨0x1000, [(12, 0x80)], 1, [⟨0, 32, .rw, .l, 0, 0, 0xffffffff⟩]⟩,
  ⟨0x1004, [(12, 0x80)], 1, [⟨0, 32, .rw, .l, 0, 0, 0xffffffff⟩]⟩,
  ⟨0x1008, [(12, 0x80)], 1, [⟨0, 32, .rw, .l, 0, 0, 0xffffffff⟩]⟩,
  ⟨0x100c, [(12, 0x80)], 1, [⟨0, 10, .rw, .l, 0x14, 0, 0x3e8⟩]⟩,
  ⟨0x1010, [(12, 0x80)], 1, [⟨0, 32, .rc, .none, 0, 0, 0xffffffff⟩]⟩,
  ⟨0x1014, [(12, 0x80)], 1, [⟨16, 9, .rw, .l, 1, 1, 0x100⟩, ⟨3, 1, .ro, .none, 0, 0, 1⟩, ⟨2, 1, .ro, .none, 1, 0, 1⟩, ⟨1, 1, .wo, .none, 0, 0, 1⟩, ⟨0, 1, .rw, .l, 0, 0, 1⟩]⟩]

/-- Registers of TIM (R209), part 2: PORT_GCL_CYCLE, PORT_GCL_BASE_LO, PORT_GCL_BASE_HI, PORT_GCL_OPER_CYCLE, PORT_GCL_OPER_BASE_LO, PORT_GCL_OPER_BASE_HI, PORT_GCL_OVERSIZE, GCL. -/
def specsTIM2 : List RegSpec := [
  ⟨0x1018, [(12, 0x80)], 1, [⟨0, 32, .rw, .l, 0xf4240, 0x3e8, 0x3b9aca00⟩]⟩,
  ⟨0x101c, [(12, 0x80)], 1, [⟨0, 32, .rw, .l, 0, 0, 0xffffffff⟩]⟩,
  ⟨0x1020, [(12, 0x80)], 1, [⟨0, 32, .rw, .l, 0, 0, 0xffffffff⟩]⟩,
  ⟨0x1024, [(12, 0x80)], 1, [⟨0, 32, .ro, .none, 0, 0, 0xffffffff⟩]⟩,
  ⟨0x1028, [(12, 0x80)], 1, [⟨0, 32, .ro, .none, 0, 0, 0xffffffff⟩]⟩,
  ⟨0x102c, [(12, 0x80)], 1, [⟨0, 32, .ro, .none, 0, 0, 0xffffffff⟩]⟩,
  ⟨0x1030, [(12, 0x80)], 1, [⟨0, 32, .rc, .none, 0, 0, 0xffffffff⟩]⟩,
  ⟨0x2000, [(12, 0x800), (2, 0x400), (256, 4)], 1, [⟨24, 8, .rw, .l, 0xff, 0, 0xff⟩, ⟨0, 24, .rw, .l, 0xf4240, 1, 0xffffff⟩]⟩]

/-- Registers of TIM. -/
def specsTIM : List RegSpec := specsTIM0 ++ specsTIM1 ++ specsTIM2

/-- Registers of RTC (R231), part 0: CAL_MODE, STATUS, CAL_DATE, CAL_TIME, CAL_SUB, CAL_SET, DST_CMD, SHIFT, UTC_OFFSET, ALM_DATE, ALM_TIME, ALM_CTRL, WAKE, PWRON_CFG, PWRON_TIMEOUT, XTAL_CAP. -/
def specsRTC0 : List RegSpec := [
  ⟨0x10, [], 1, [⟨1, 1, .rw, .l, 0, 0, 1⟩, ⟨0, 1, .rw, .l, 0, 0, 1⟩]⟩,
  ⟨0x14, [], 1, [⟨12, 1, .ro, .none, 0, 0, 1⟩, ⟨11, 1, .ro, .none, 0, 0, 1⟩, ⟨10, 1, .w1c, .l, 0, 0, 1⟩, ⟨8, 2, .w1c, .l, 0, 0, 3⟩, ⟨6, 2, .w1c, .l, 0, 0, 3⟩, ⟨5, 1, .w1c, .l, 0, 0, 1⟩, ⟨4, 1, .ro, .none, 0, 0, 1⟩, ⟨3, 1, .ro, .none, 0, 0, 1⟩, ⟨2, 1, .ro, .none, 0, 0, 1⟩, ⟨1, 1, .ro, .none, 0, 0, 1⟩, ⟨0, 1, .w1c, .l, 1, 0, 1⟩]⟩,
  ⟨0x18, [], 1, [⟨16, 11, .rw, .l, 0x7d0, 0, 0x7ff⟩, ⟨12, 3, .rw, .l, 6, 0, 7⟩, ⟨8, 4, .rw, .l, 1, 0, 0xf⟩, ⟨0, 5, .rw, .l, 1, 0, 0x1f⟩]⟩,
  ⟨0x1c, [], 1, [⟨16, 5, .rw, .l, 0, 0, 0x1f⟩, ⟨8, 6, .rw, .l, 0, 0, 0x3f⟩, ⟨0, 6, .rw, .l, 0, 0, 0x3f⟩]⟩,
  ⟨0x20, [], 1, [⟨0, 15, .ro, .none, 0, 0, 0x7fff⟩]⟩,
  ⟨0x24, [], 1, [⟨16, 15, .wo, .none, 0, 0, 0x7fff⟩, ⟨0, 1, .wo, .none, 0, 0, 1⟩]⟩,
  ⟨0x28, [], 1, [⟨0, 2, .wo, .none, 0, 1, 2⟩]⟩,
  ⟨0x2c, [], 1, [⟨16, 1, .wo, .none, 0, 0, 1⟩, ⟨0, 15, .wo, .none, 0, 1, 0x7fff⟩]⟩,
  ⟨0x30, [], 1, [⟨24, 8, .rw, .l, 0, 0, 0xff⟩, ⟨16, 2, .rw, .l, 0, 0, 2⟩, ⟨0, 8, .rw, .l, 0x25, 0, 0xff⟩]⟩,
  ⟨0x40, [(2, 0x10)], 1, []⟩,
  ⟨0x44, [(2, 0x10)], 1, []⟩,
  ⟨0x48, [(2, 0x10)], 1, [⟨31, 1, .rw, .l, 0, 0, 1⟩, ⟨0, 7, .rw, .l, 0x3f, 0, 0x7f⟩]⟩,
  ⟨0x60, [], 1, [⟨31, 1, .rw, .l, 0, 0, 1⟩, ⟨16, 2, .rw, .l, 2, 0, 3⟩, ⟨0, 16, .rw, .l, 1, 1, 0xffff⟩]⟩,
  ⟨0x64, [], 1, [⟨0, 5, .rw, .l, 0, 0, 0x1f⟩]⟩,
  ⟨0x68, [], 1, [⟨0, 16, .rw, .l, 0x258, 0, 0xffff⟩]⟩,
  ⟨0x6c, [], 1, [⟨0, 6, .rw, .l, 0x20, 0, 0x3f⟩]⟩]

/-- Registers of RTC (R231), part 1: EDGE_NS, EDGE_SEC_LO, EDGE_SEC_HI, TAMPER, TAMPER_DATE, TAMPER_TIME, TAMPER_SUB, EVT. -/
def specsRTC1 : List RegSpec := [
  ⟨0x70, [], 1, [⟨0, 30, .ro, .none, 0, 0, 0x3fffffff⟩]⟩,
  ⟨0x74, [], 1, [⟨0, 32, .ro, .none, 0, 0, 0xffffffff⟩]⟩,
  ⟨0x78, [], 1, [⟨0, 16, .ro, .none, 0, 0, 0xffff⟩]⟩,
  ⟨0x7c, [], 1, [⟨31, 1, .ro, .none, 0, 0, 1⟩, ⟨0, 8, .ro, .none, 0, 0, 0xff⟩]⟩,
  ⟨0x80, [], 1, []⟩,
  ⟨0x84, [], 1, []⟩,
  ⟨0x88, [], 1, [⟨0, 15, .ro, .none, 0, 0, 0x7fff⟩]⟩,
  ⟨0x8c, [], 1, [⟨0, 8, .w1c, .none, 0, 0, 0xff⟩]⟩]

/-- Registers of RTC. -/
def specsRTC : List RegSpec := specsRTC0 ++ specsRTC1

/-- Registers of MAC (R260, R261), part 0: EVT, CTRL, ADDR_LO, ADDR_HI, PAIR_CFG, PAIR_STAT, PAIR_FULL_CNT, PAIR_OOW_CNT, ENABLE, CFG, STAT, TIMING, ERR_LIMIT, FC, FC_MARK, FC_QUANTA. -/
def specsMAC0 : List RegSpec := [
  ⟨0x10, [], 1, [⟨0, 24, .w1c, .none, 0, 0, 0xffffff⟩]⟩,
  ⟨0x14, [], 1, [⟨0, 1, .rw, .l, 0, 0, 1⟩]⟩,
  ⟨0x18, [], 1, [⟨0, 32, .ro, .none, 0, 0, 0xffffffff⟩]⟩,
  ⟨0x1c, [], 1, [⟨0, 16, .ro, .none, 0, 0, 0xffff⟩]⟩,
  ⟨0x40, [(4, 0x10)], 1, [⟨16, 12, .rw, .s, 0x190, 0xa, 0xfa0⟩, ⟨2, 14, .rw, .s, 0x7d0, 0x64, 0x2710⟩, ⟨0, 2, .rw, .s, 0, 0, 3⟩]⟩,
  ⟨0x44, [(4, 0x10)], 1, [⟨25, 1, .ro, .none, 0, 0, 1⟩, ⟨16, 9, .ro, .none, 0, 0, 0x1ff⟩, ⟨0, 11, .ro, .none, 0, 0, 0x7ff⟩]⟩,
  ⟨0x48, [(4, 0x10)], 1, [⟨0, 32, .rc, .none, 0, 0, 0xffffffff⟩]⟩,
  ⟨0x4c, [(4, 0x10)], 1, [⟨0, 32, .rc, .none, 0, 0, 0xffffffff⟩]⟩,
  ⟨0x1000, [(12, 0x1000)], 1, [⟨0, 1, .rw, .l, 0, 0, 1⟩]⟩,
  ⟨0x1004, [(12, 0x1000)], 1, [⟨6, 1, .rw, .s, 0, 0, 1⟩, ⟨5, 1, .rw, .s, 0, 0, 1⟩, ⟨4, 1, .rw, .s, 0, 0, 1⟩, ⟨0, 3, .rw, .s, 1, 0, 7⟩]⟩,
  ⟨0x1008, [(12, 0x1000)], 1, [⟨16, 1, .ro, .none, 0, 0, 1⟩, ⟨15, 1, .ro, .none, 0, 0, 1⟩, ⟨14, 1, .ro, .none, 0, 0, 1⟩, ⟨13, 1, .ro, .none, 0, 0, 1⟩, ⟨12, 1, .ro, .none, 0, 0, 1⟩, ⟨11, 1, .ro, .none, 0, 0, 1⟩, ⟨10, 1, .ro, .none, 0, 0, 1⟩, ⟨9, 1, .ro, .none, 0, 0, 1⟩, ⟨8, 1, .ro, .none, 1, 0, 1⟩, ⟨4, 4, .ro, .none, 1, 0, 0xf⟩, ⟨0, 3, .ro, .none, 0, 0, 7⟩]⟩,
  ⟨0x100c, [(12, 0x1000)], 1, [⟨16, 10, .rw, .l, 0x32, 0, 0x3e8⟩, ⟨0, 10, .rw, .l, 0xa, 1, 0x3e8⟩]⟩,
  ⟨0x1010, [(12, 0x1000)], 1, [⟨0, 16, .rw, .l, 0x64, 0, 0xffff⟩]⟩,
  ⟨0x1014, [(12, 0x1000)], 1, [⟨16, 8, .rw, .s, 0, 0, 0xff⟩, ⟨8, 4, .rw, .s, 0, 0, 0xf⟩, ⟨2, 1, .rw, .s, 0, 0, 1⟩, ⟨0, 2, .rw, .s, 0, 0, 3⟩]⟩,
  ⟨0x1018, [(12, 0x1000)], 1, [⟨16, 16, .rw, .t, 0x300, 0, 0xffff⟩, ⟨0, 16, .rw, .t, 0x400, 1, 0xffff⟩]⟩,
  ⟨0x101c, [(12, 0x1000)], 1, [⟨0, 16, .rw, .l, 0xffff, 1, 0xffff⟩]⟩]

/-- Registers of MAC (R261, R262), part 1: MACSEC, MACSEC_WIN, CAUSE, OPTICS, OPT_PWR, T1S, RX_FRAMES, RX_OCTETS, TX_FRAMES, TX_OCTETS, FCS_ERR, LEN_ERR, CTL_RX, CTL_TX, CTRL_BAD, DUP_DISCARD. -/
def specsMAC1 : List RegSpec := [
  ⟨0x1020, [(12, 0x1000)], 1, [⟨16, 10, .rw, .s, 0, 0, 0x3ff⟩, ⟨4, 8, .rw, .s, 0x80, 0, 0xff⟩, ⟨3, 1, .rw, .s, 0, 0, 1⟩, ⟨2, 1, .rw, .s, 0, 0, 1⟩, ⟨1, 1, .rw, .s, 1, 0, 1⟩, ⟨0, 1, .rw, .s, 0, 0, 1⟩]⟩,
  ⟨0x1024, [(12, 0x1000)], 1, [⟨0, 30, .rw, .s, 0, 0, 0x3fffffff⟩]⟩,
  ⟨0x1028, [(12, 0x1000)], 1, [⟨0, 12, .w1c, .l, 0, 0, 0xfff⟩]⟩,
  ⟨0x102c, [(12, 0x1000)], 1, [⟨24, 1, .ro, .none, 0, 0, 1⟩, ⟨16, 8, .ro, .none, 0, 0, 0xff⟩, ⟨0, 16, .ro, .none, 0, 0, 0xffff⟩]⟩,
  ⟨0x1030, [(12, 0x1000)], 1, [⟨16, 16, .ro, .none, 0, 0, 0xffff⟩, ⟨0, 16, .ro, .none, 0, 0, 0xffff⟩]⟩,
  ⟨0x1034, [(12, 0x1000)], 1, [⟨24, 8, .rw, .s, 0x80, 0, 0xff⟩, ⟨16, 8, .rw, .s, 0, 0, 0xff⟩, ⟨8, 8, .rw, .s, 0x20, 1, 0xff⟩, ⟨4, 4, .rw, .s, 8, 1, 8⟩, ⟨1, 3, .rw, .s, 0, 0, 7⟩, ⟨0, 1, .rw, .s, 0, 0, 1⟩]⟩,
  ⟨0x1100, [(14, 0x1000)], 2, [⟨0, 64, .ro, .none, 0, 0, 0xffffffffffffffff⟩]⟩,
  ⟨0x1108, [(14, 0x1000)], 2, [⟨0, 64, .ro, .none, 0, 0, 0xffffffffffffffff⟩]⟩,
  ⟨0x1110, [(14, 0x1000)], 2, [⟨0, 64, .ro, .none, 0, 0, 0xffffffffffffffff⟩]⟩,
  ⟨0x1118, [(14, 0x1000)], 2, [⟨0, 64, .ro, .none, 0, 0, 0xffffffffffffffff⟩]⟩,
  ⟨0x1120, [(12, 0x1000)], 1, [⟨0, 32, .rc, .none, 0, 0, 0xffffffff⟩]⟩,
  ⟨0x1124, [(12, 0x1000)], 1, [⟨0, 32, .rc, .none, 0, 0, 0xffffffff⟩]⟩,
  ⟨0x1128, [(12, 0x1000)], 1, [⟨16, 16, .rc, .none, 0, 0, 0xffff⟩, ⟨0, 16, .rc, .none, 0, 0, 0xffff⟩]⟩,
  ⟨0x112c, [(12, 0x1000)], 1, [⟨16, 16, .rc, .none, 0, 0, 0xffff⟩, ⟨0, 16, .rc, .none, 0, 0, 0xffff⟩]⟩,
  ⟨0x1130, [(12, 0x1000)], 1, [⟨0, 32, .rc, .none, 0, 0, 0xffffffff⟩]⟩,
  ⟨0x1134, [(12, 0x1000)], 1, [⟨0, 32, .rc, .none, 0, 0, 0xffffffff⟩]⟩]

/-- Registers of MAC (R262), part 2: LAN_ERR, COLL, FEC_CORR, FEC_UNCORR, MACSEC_BAD, MACSEC_NOSA, MACSEC_LATE, LINK_DOWNS. -/
def specsMAC2 : List RegSpec := [
  ⟨0x1138, [(12, 0x1000)], 1, [⟨0, 32, .rc, .none, 0, 0, 0xffffffff⟩]⟩,
  ⟨0x113c, [(12, 0x1000)], 1, [⟨24, 8, .rc, .none, 0, 0, 0xff⟩, ⟨16, 8, .rc, .none, 0, 0, 0xff⟩, ⟨0, 16, .rc, .none, 0, 0, 0xffff⟩]⟩,
  ⟨0x1140, [(12, 0x1000)], 1, [⟨0, 32, .rc, .none, 0, 0, 0xffffffff⟩]⟩,
  ⟨0x1144, [(12, 0x1000)], 1, [⟨0, 32, .rc, .none, 0, 0, 0xffffffff⟩]⟩,
  ⟨0x1148, [(12, 0x1000)], 1, [⟨0, 32, .rc, .none, 0, 0, 0xffffffff⟩]⟩,
  ⟨0x114c, [(12, 0x1000)], 1, [⟨0, 32, .rc, .none, 0, 0, 0xffffffff⟩]⟩,
  ⟨0x1150, [(12, 0x1000)], 1, [⟨0, 32, .rc, .none, 0, 0, 0xffffffff⟩]⟩,
  ⟨0x1154, [(12, 0x1000)], 1, [⟨0, 32, .rc, .none, 0, 0, 0xffffffff⟩]⟩]

/-- Registers of MAC. -/
def specsMAC : List RegSpec := specsMAC0 ++ specsMAC1 ++ specsMAC2

/-- Registers of SWC (R291), part 0: EVT, CTRL, RESEQ, HOLD, TRIP_AGE, RESV_A, RESV_B, BEADS_FREE, BEADS_QUEUED, BEADS_INFLIGHT, AUDIT, LAST_LEAK, PCP_MAP, FLOOD, PLANES, FDB_CMD. -/
def specsSWC0 : List RegSpec := [
  ⟨0x10, [], 1, [⟨0, 8, .w1c, .none, 0, 0, 0xff⟩]⟩,
  ⟨0x14, [], 1, [⟨0, 1, .rw, .l, 0, 0, 1⟩]⟩,
  ⟨0x18, [], 1, [⟨0, 8, .rw, .s, 0x14, 1, 0xff⟩]⟩,
  ⟨0x1c, [], 1, [⟨0, 8, .rw, .l, 0x14, 0, 0xfa⟩]⟩,
  ⟨0x20, [], 1, [⟨0, 14, .rw, .s, 0x7d0, 0x64, 0x2710⟩]⟩,
  ⟨0x24, [], 1, [⟨16, 16, .rw, .s, 0x800, 0, 0xffff⟩, ⟨0, 16, .rw, .s, 0x100, 0, 0xffff⟩]⟩,
  ⟨0x28, [], 1, [⟨16, 16, .rw, .s, 0x400, 0, 0xffff⟩, ⟨0, 16, .rw, .s, 0x400, 0, 0xffff⟩]⟩,
  ⟨0x2c, [], 1, [⟨0, 17, .ro, .none, 0x10000, 0, 0x1ffff⟩]⟩,
  ⟨0x30, [], 1, [⟨0, 17, .ro, .none, 0, 0, 0x1ffff⟩]⟩,
  ⟨0x34, [], 1, [⟨0, 17, .ro, .none, 0, 0, 0x1ffff⟩]⟩,
  ⟨0x38, [], 1, [⟨16, 16, .rc, .none, 0, 0, 0xffff⟩, ⟨0, 16, .rc, .none, 0, 0, 0xffff⟩]⟩,
  ⟨0x3c, [], 1, [⟨0, 16, .ro, .none, 0, 0, 0xffff⟩]⟩,
  ⟨0x40, [], 1, [⟨0, 16, .rw, .l, 0xfa50, 0, 0xffff⟩]⟩,
  ⟨0x44, [], 1, [⟨17, 1, .rw, .l, 0, 0, 1⟩, ⟨0, 17, .rw, .l, 0, 0, 0x1ffff⟩]⟩,
  ⟨0x48, [], 1, [⟨0, 2, .ro, .none, 3, 0, 3⟩]⟩,
  ⟨0x100, [], 1, [⟨30, 2, .wo, .none, 0, 1, 2⟩, ⟨0, 12, .wo, .none, 0, 0, 0xfff⟩]⟩]

/-- Registers of SWC (R291), part 1: FDB_KEY_LO, FDB_KEY_HI, FDB_DEST, WRED_TH, WRED_P, METER_CIR, METER_PIR, METER_CBS, METER_PBS, PORT_ING, PORT_EGR, PORT_DWRR, PORT_CLASS, PORT_METER, PORT_ING_DROP, PORT_RED_DROP. -/
def specsSWC1 : List RegSpec := [
  ⟨0x104, [], 1, [⟨0, 32, .rw, .l, 0, 0, 0xffffffff⟩]⟩,
  ⟨0x108, [], 1, [⟨31, 1, .rw, .l, 0, 0, 1⟩, ⟨16, 12, .rw, .l, 0, 0, 0xfff⟩, ⟨0, 16, .rw, .l, 0, 0, 0xffff⟩]⟩,
  ⟨0x10c, [], 1, [⟨18, 8, .rw, .l, 0, 0, 0xff⟩, ⟨17, 1, .rw, .l, 0, 0, 1⟩, ⟨0, 17, .rw, .l, 0, 0, 0x1ffff⟩]⟩,
  ⟨0x200, [(12, 8)], 1, [⟨16, 16, .rw, .t, 0x2000, 0, 0xffff⟩, ⟨0, 16, .rw, .t, 0x1000, 0, 0xffff⟩]⟩,
  ⟨0x204, [(12, 8)], 1, [⟨8, 4, .rw, .t, 4, 0, 0xf⟩, ⟨0, 8, .rw, .t, 0x20, 0, 0xff⟩]⟩,
  ⟨0x400, [(64, 0x10)], 1, [⟨31, 1, .rw, .t, 0, 0, 1⟩, ⟨0, 19, .rw, .t, 0, 0, 0x61a80⟩]⟩,
  ⟨0x404, [(64, 0x10)], 1, [⟨0, 19, .rw, .t, 0, 0, 0x61a80⟩]⟩,
  ⟨0x408, [(64, 0x10)], 1, [⟨0, 24, .rw, .t, 0, 0, 0xffffff⟩]⟩,
  ⟨0x40c, [(64, 0x10)], 1, [⟨0, 24, .rw, .t, 0, 0, 0xffffff⟩]⟩,
  ⟨0x1000, [(17, 0x40)], 1, [⟨16, 16, .ro, .none, 0, 0, 0xffff⟩, ⟨0, 16, .rw, .s, 0x1000, 1, 0xffff⟩]⟩,
  ⟨0x1004, [(17, 0x40)], 1, [⟨17, 1, .ro, .none, 0, 0, 1⟩, ⟨16, 1, .ro, .none, 0, 0, 1⟩, ⟨0, 16, .rw, .s, 0x4000, 1, 0xffff⟩]⟩,
  ⟨0x1008, [(17, 0x40)], 1, [⟨0, 32, .rw, .s, 0x8040201, 0, 0xffffffff⟩]⟩,
  ⟨0x100c, [(17, 0x40)], 1, [⟨0, 2, .rw, .l, 0, 0, 3⟩]⟩,
  ⟨0x1010, [(17, 0x40)], 1, [⟨0, 32, .rw, .t, 0xffffffff, 0, 0xffffffff⟩]⟩,
  ⟨0x1014, [(17, 0x40)], 1, [⟨0, 32, .rc, .none, 0, 0, 0xffffffff⟩]⟩,
  ⟨0x1018, [(17, 0x40)], 1, [⟨0, 32, .rc, .none, 0, 0, 0xffffffff⟩]⟩]

/-- Registers of SWC (R291), part 2: PORT_WRED_DROP, PORT_QFULL_DROP, PORT_EG_DOWN, PORT_EXPIRED, PORT_PORT_FLUSH, PORT_RESEQ. -/
def specsSWC2 : List RegSpec := [
  ⟨0x101c, [(17, 0x40)], 1, [⟨0, 32, .rc, .none, 0, 0, 0xffffffff⟩]⟩,
  ⟨0x1020, [(17, 0x40)], 1, [⟨0, 32, .rc, .none, 0, 0, 0xffffffff⟩]⟩,
  ⟨0x1024, [(17, 0x40)], 1, [⟨0, 32, .rc, .none, 0, 0, 0xffffffff⟩]⟩,
  ⟨0x1028, [(17, 0x40)], 1, [⟨0, 32, .rc, .none, 0, 0, 0xffffffff⟩]⟩,
  ⟨0x102c, [(17, 0x40)], 1, [⟨0, 32, .rc, .none, 0, 0, 0xffffffff⟩]⟩,
  ⟨0x1030, [(17, 0x40)], 1, [⟨16, 16, .rc, .none, 0, 0, 0xffff⟩, ⟨0, 16, .rc, .none, 0, 0, 0xffff⟩]⟩]

/-- Registers of SWC. -/
def specsSWC : List RegSpec := specsSWC0 ++ specsSWC1 ++ specsSWC2

/-- Registers of SVI (R321), part 0: CTRL, CFG, STATUS, EVT, IMG_SIZE, LAST_TICK_LO, LAST_TICK_HI, DISCARDED, MISMATCH, GSUB_CMD, USED, DUPLICATE, LATE, INVALID, UNEXPECTED, EXPECTED. -/
def specsSVI0 : List RegSpec := [
  ⟨0x10, [], 1, [⟨0, 1, .rw, .l, 0, 0, 1⟩]⟩,
  ⟨0x14, [], 1, [⟨2, 12, .rw, .s, 0x1a4, 0x64, 0xbb8⟩, ⟨0, 2, .rw, .s, 1, 0, 3⟩]⟩,
  ⟨0x18, [], 1, [⟨26, 6, .ro, .none, 0, 0, 0x3f⟩, ⟨16, 10, .ro, .none, 0, 0, 0x3ff⟩, ⟨3, 13, .ro, .none, 0, 0, 0x1fff⟩, ⟨0, 1, .ro, .none, 0, 0, 1⟩]⟩,
  ⟨0x1c, [], 1, [⟨0, 8, .w1c, .none, 0, 0, 0xff⟩]⟩,
  ⟨0x20, [], 1, [⟨0, 17, .ro, .none, 0x12048, 0, 0x1ffff⟩]⟩,
  ⟨0x24, [], 1, [⟨0, 32, .ro, .none, 0, 0, 0xffffffff⟩]⟩,
  ⟨0x28, [], 1, [⟨0, 32, .ro, .none, 0, 0, 0xffffffff⟩]⟩,
  ⟨0x2c, [], 1, [⟨0, 32, .rc, .none, 0, 0, 0xffffffff⟩]⟩,
  ⟨0x30, [], 1, [⟨0, 32, .rc, .none, 0, 0, 0xffffffff⟩]⟩,
  ⟨0x34, [], 1, [⟨30, 2, .wo, .none, 0, 1, 2⟩, ⟨0, 10, .wo, .none, 0, 0, 0x3ff⟩]⟩,
  ⟨0x40, [], 2, [⟨0, 64, .ro, .none, 0, 0, 0xffffffffffffffff⟩]⟩,
  ⟨0x48, [], 2, [⟨0, 64, .ro, .none, 0, 0, 0xffffffffffffffff⟩]⟩,
  ⟨0x50, [], 2, [⟨0, 64, .ro, .none, 0, 0, 0xffffffffffffffff⟩]⟩,
  ⟨0x58, [], 2, [⟨0, 64, .ro, .none, 0, 0, 0xffffffffffffffff⟩]⟩,
  ⟨0x60, [], 2, [⟨0, 64, .ro, .none, 0, 0, 0xffffffffffffffff⟩]⟩,
  ⟨0x68, [], 2, [⟨0, 64, .ro, .none, 0, 0, 0xffffffffffffffff⟩]⟩]

/-- Registers of SVI (R321), part 1: MISSING, HELD, GOOSE_RX, GOOSE_BAD, GOOSE_OLD, GOOSE_UNEXP, GSUB_W, OWN_CTRL, OWN_DST_LO, OWN_DST_HI, OWN_CONFREV, OWN_MAP, OWN_LAUNCH, OWN_KEY, OWN_SVID, OWN_SENT. -/
def specsSVI1 : List RegSpec := [
  ⟨0x70, [], 2, [⟨0, 64, .ro, .none, 0, 0, 0xffffffffffffffff⟩]⟩,
  ⟨0x78, [], 1, [⟨0, 32, .ro, .none, 0, 0, 0xffffffff⟩]⟩,
  ⟨0x80, [], 1, [⟨0, 32, .rc, .none, 0, 0, 0xffffffff⟩]⟩,
  ⟨0x84, [], 1, [⟨0, 32, .rc, .none, 0, 0, 0xffffffff⟩]⟩,
  ⟨0x88, [], 1, [⟨0, 32, .rc, .none, 0, 0, 0xffffffff⟩]⟩,
  ⟨0x8c, [], 1, [⟨0, 32, .rc, .none, 0, 0, 0xffffffff⟩]⟩,
  ⟨0x100, [(22, 4)], 1, [⟨0, 32, .rw, .l, 0, 0, 0xffffffff⟩]⟩,
  ⟨0x200, [(4, 0x40)], 1, [⟨31, 1, .rw, .t, 0, 0, 1⟩, ⟨30, 1, .rw, .t, 0, 0, 1⟩, ⟨26, 4, .rw, .t, 1, 1, 8⟩, ⟨22, 4, .rw, .t, 8, 1, 8⟩, ⟨21, 1, .rw, .t, 0, 0, 1⟩, ⟨20, 1, .rw, .t, 0, 0, 1⟩, ⟨0, 16, .rw, .t, 0x4000, 0, 0xffff⟩]⟩,
  ⟨0x204, [(4, 0x40)], 1, [⟨0, 32, .rw, .t, 0, 0, 0xffffffff⟩]⟩,
  ⟨0x208, [(4, 0x40)], 1, [⟨29, 3, .rw, .t, 4, 0, 7⟩, ⟨16, 12, .rw, .t, 0, 0, 0xfff⟩, ⟨0, 16, .rw, .t, 0, 0, 0xffff⟩]⟩,
  ⟨0x20c, [(4, 0x40)], 1, [⟨0, 32, .rw, .t, 1, 0, 0xffffffff⟩]⟩,
  ⟨0x210, [(4, 0x40)], 1, [⟨0, 32, .rw, .t, 0x76543210, 0, 0xffffffff⟩]⟩,
  ⟨0x214, [(4, 0x40)], 1, [⟨0, 10, .rw, .t, 0x3c, 0x14, 0x3e8⟩]⟩,
  ⟨0x218, [(4, 0x40)], 1, [⟨0, 10, .rw, .t, 0, 0, 0x3ff⟩]⟩,
  ⟨0x220, [(4, 0x40), (8, 4)], 1, [⟨0, 32, .rw, .t, 0, 0, 0xffffffff⟩]⟩,
  ⟨0x300, [(4, 8)], 1, [⟨0, 32, .rc, .none, 0, 0, 0xffffffff⟩]⟩]

/-- Registers of SVI (R321), part 2: OWN_GATED, SUB_DST_LO, SUB_DST_HI, SUB_ID, SUB_SVID_CRC, SUB_CONFREV, SUB_LAYOUT, SUB_POLICY, SUB_ARRIVE, SUB_MISS, SUB_INV. -/
def specsSVI2 : List RegSpec := [
  ⟨0x304, [(4, 8)], 1, [⟨0, 32, .rc, .none, 0, 0, 0xffffffff⟩]⟩,
  ⟨0x1000, [(512, 0x20)], 1, [⟨0, 32, .rw, .t, 0, 0, 0xffffffff⟩]⟩,
  ⟨0x1004, [(512, 0x20)], 1, [⟨31, 1, .rw, .t, 0, 0, 1⟩, ⟨16, 12, .rw, .t, 0, 0, 0xfff⟩, ⟨0, 16, .rw, .t, 0, 0, 0xffff⟩]⟩,
  ⟨0x1008, [(512, 0x20)], 1, [⟨16, 16, .rw, .t, 0, 0, 0xffff⟩, ⟨0, 7, .rw, .t, 1, 1, 0x7f⟩]⟩,
  ⟨0x100c, [(512, 0x20)], 1, [⟨0, 32, .rw, .t, 0, 0, 0xffffffff⟩]⟩,
  ⟨0x1010, [(512, 0x20)], 1, [⟨0, 32, .rw, .t, 1, 0, 0xffffffff⟩]⟩,
  ⟨0x1014, [(512, 0x20)], 1, [⟨24, 8, .rw, .t, 0, 0, 0xff⟩, ⟨20, 4, .rw, .t, 1, 1, 8⟩, ⟨12, 5, .rw, .t, 8, 1, 0x18⟩, ⟨0, 12, .rw, .t, 0, 0, 0xfff⟩]⟩,
  ⟨0x1018, [(512, 0x20)], 1, [⟨12, 10, .rw, .t, 0, 0, 0x3ff⟩, ⟨11, 1, .rw, .t, 0, 0, 1⟩, ⟨10, 1, .rw, .t, 0, 0, 1⟩, ⟨9, 1, .rw, .t, 0, 0, 1⟩, ⟨2, 2, .rw, .t, 0, 0, 3⟩, ⟨0, 2, .rw, .t, 0, 0, 2⟩]⟩,
  ⟨0x101c, [(512, 0x20)], 1, [⟨16, 16, .ro, .none, 0, 0, 0xffff⟩, ⟨0, 16, .rc, .none, 0, 0, 0xffff⟩]⟩,
  ⟨0x5000, [(512, 8)], 1, [⟨0, 32, .rc, .none, 0, 0, 0xffffffff⟩]⟩,
  ⟨0x5004, [(512, 8)], 1, [⟨28, 4, .rc, .none, 0, 0, 0xf⟩, ⟨0, 28, .rc, .none, 0, 0, 0xfffffff⟩]⟩]

/-- Registers of SVI. -/
def specsSVI : List RegSpec := specsSVI0 ++ specsSVI1 ++ specsSVI2

/-- Registers of ROD (R350), part 0: CTRL, CFG, STATUS, EVT, RODSTAT_CARRY, RODSTAT_OUTCOME, RODSTAT_ECC, RODSTAT_CRC, MISSED, SHARED_FREE, ENG_LIMIT, CFG2, ENG_LOAD, PRIV_FREE, SLOT_STATE, SLOT_FLAGS. -/
def specsROD0 : List RegSpec := [
  ⟨0x10, [], 1, [⟨0, 1, .rw, .l, 0, 0, 1⟩]⟩,
  ⟨0x14, [], 1, [⟨0, 3, .rw, .s, 1, 0, 4⟩]⟩,
  ⟨0x18, [], 1, [⟨16, 11, .ro, .none, 0, 0, 0x7ff⟩, ⟨0, 11, .ro, .none, 0, 0, 0x7ff⟩]⟩,
  ⟨0x1c, [], 1, [⟨0, 8, .w1c, .none, 0, 0, 0xff⟩]⟩,
  ⟨0x20, [(3, 0x10)], 1, [⟨0, 32, .rc, .none, 0, 0, 0xffffffff⟩]⟩,
  ⟨0x24, [(3, 0x10)], 1, [⟨16, 16, .rc, .none, 0, 0, 0xffff⟩, ⟨0, 16, .rc, .none, 0, 0, 0xffff⟩]⟩,
  ⟨0x28, [(3, 0x10)], 1, [⟨16, 16, .rc, .none, 0, 0, 0xffff⟩, ⟨0, 16, .rc, .none, 0, 0, 0xffff⟩]⟩,
  ⟨0x2c, [(3, 0x10)], 1, [⟨0, 32, .rc, .none, 0, 0, 0xffffffff⟩]⟩,
  ⟨0x50, [], 1, [⟨16, 16, .ro, .none, 0, 0, 0xffff⟩, ⟨0, 16, .rc, .none, 0, 0, 0xffff⟩]⟩,
  ⟨0x54, [], 1, [⟨0, 22, .ro, .none, 0x370000, 0, 0x3fffff⟩]⟩,
  ⟨0x58, [], 1, [⟨0, 20, .ro, .none, 0x31e34, 0, 0xfffff⟩]⟩,
  ⟨0x5c, [], 1, [⟨16, 16, .rw, .l, 0x12c0, 0, 0xffff⟩]⟩,
  ⟨0x100, [(12, 4)], 1, [⟨0, 20, .ro, .none, 0x7d0, 0, 0xfffff⟩]⟩,
  ⟨0x140, [(12, 4)], 1, [⟨0, 18, .ro, .none, 0x3c000, 0, 0x3ffff⟩]⟩,
  ⟨0x1000, [(1024, 0x10)], 1, [⟨24, 8, .ro, .none, 0, 0, 0xff⟩, ⟨16, 4, .ro, .none, 0, 0, 0xf⟩, ⟨15, 1, .ro, .none, 0, 0, 1⟩, ⟨0, 3, .ro, .none, 0, 0, 7⟩]⟩,
  ⟨0x1004, [(1024, 0x10)], 1, [⟨3, 1, .ro, .none, 0, 0, 1⟩, ⟨2, 1, .ro, .none, 0, 0, 1⟩, ⟨1, 1, .ro, .none, 0, 0, 1⟩, ⟨0, 1, .ro, .none, 0, 0, 1⟩]⟩]

/-- Registers of ROD (R350), part 1: SLOT_AGREE, SLOT_IMGID. -/
def specsROD1 : List RegSpec := [
  ⟨0x1008, [(1024, 0x10)], 1, [⟨0, 32, .ro, .none, 0, 0, 0xffffffff⟩]⟩,
  ⟨0x100c, [(1024, 0x10)], 1, [⟨0, 32, .ro, .none, 0, 0, 0xffffffff⟩]⟩]

/-- Registers of ROD. -/
def specsROD : List RegSpec := specsROD0 ++ specsROD1

/-- Registers of BEAM (R419), part 0: CFG, STATUS, EVT, DECIDED, NOMAJ, SELFTEST, CHMIS, ROD_STATE, ROD_CTRL, ROD_LAST, ROD_VERIFY, ROD_COPY, ROD_BENCHES. -/
def specsBEAM0 : List RegSpec := [
  ⟨0x10, [], 1, [⟨10, 1, .rw, .l, 1, 0, 1⟩, ⟨0, 10, .rw, .l, 0xfa, 0x64, 0x3e8⟩]⟩,
  ⟨0x14, [], 1, [⟨11, 1, .ro, .none, 0, 0, 1⟩, ⟨10, 1, .ro, .none, 0, 0, 1⟩, ⟨9, 1, .ro, .none, 0, 0, 1⟩, ⟨4, 3, .ro, .none, 0, 0, 7⟩, ⟨0, 3, .ro, .none, 0, 0, 7⟩]⟩,
  ⟨0x18, [], 1, [⟨0, 8, .w1c, .none, 0, 0, 0xff⟩]⟩,
  ⟨0x20, [], 2, [⟨0, 64, .ro, .none, 0, 0, 0xffffffffffffffff⟩]⟩,
  ⟨0x28, [], 1, [⟨0, 32, .rc, .none, 0, 0, 0xffffffff⟩]⟩,
  ⟨0x2c, [], 1, [⟨16, 16, .rc, .none, 0, 0, 0xffff⟩, ⟨0, 16, .ro, .none, 0, 0, 0xffff⟩]⟩,
  ⟨0x30, [], 1, [⟨0, 32, .rc, .none, 0, 0, 0xffffffff⟩]⟩,
  ⟨0x40, [(3, 0x20)], 1, [⟨24, 2, .ro, .none, 0, 0, 3⟩, ⟨8, 4, .ro, .none, 0, 0, 0xf⟩, ⟨0, 3, .ro, .none, 0, 0, 7⟩]⟩,
  ⟨0x44, [(3, 0x20)], 1, [⟨0, 1, .wo, .none, 0, 0, 1⟩]⟩,
  ⟨0x48, [(3, 0x20)], 1, [⟨0, 32, .ro, .none, 0, 0, 0xffffffff⟩]⟩,
  ⟨0x4c, [(3, 0x20)], 1, [⟨0, 16, .ro, .none, 0, 0, 0xffff⟩]⟩,
  ⟨0x50, [(3, 0x20)], 1, [⟨24, 8, .ro, .none, 0, 0, 0xff⟩, ⟨0, 24, .ro, .none, 0, 0, 0xffffff⟩]⟩,
  ⟨0x54, [(3, 0x20)], 1, [⟨0, 32, .rc, .none, 0, 0, 0xffffffff⟩]⟩]

/-- Registers of BEAM. -/
def specsBEAM : List RegSpec := specsBEAM0

/-- Registers of PAIR (R457), part 0: CFG, CFG2, STATUS, MATCH, EVT, MISMATCH, IMG_DIFF, SKIPPED, RESYNC_CNT, TAKEOVERS, COLLISIONS, LAST_MM_LO, LAST_MM_HI, PEER_SN_LO, PEER_SN_HI, PEER_INFO. -/
def specsPAIR0 : List RegSpec := [
  ⟨0x10, [], 1, [⟨16, 3, .rw, .s, 2, 0, 7⟩, ⟨0, 12, .rw, .s, 0x1e, 1, 0xe10⟩]⟩,
  ⟨0x14, [], 1, [⟨16, 16, .rw, .l, 0x1e0, 0x1e0, 0xffff⟩, ⟨0, 14, .rw, .l, 0x64, 0xa, 0x2710⟩]⟩,
  ⟨0x18, [], 1, [⟨18, 3, .ro, .none, 0, 0, 7⟩, ⟨17, 1, .ro, .none, 0, 0, 1⟩, ⟨14, 3, .ro, .none, 0, 0, 7⟩, ⟨10, 4, .ro, .none, 0, 0, 0xf⟩, ⟨8, 2, .ro, .none, 0, 0, 3⟩, ⟨6, 1, .ro, .none, 0, 0, 1⟩, ⟨5, 1, .ro, .none, 0, 0, 1⟩, ⟨4, 1, .ro, .none, 0, 0, 1⟩, ⟨3, 1, .ro, .none, 0, 0, 1⟩, ⟨2, 1, .ro, .none, 0, 0, 1⟩, ⟨1, 1, .ro, .none, 0, 0, 1⟩, ⟨0, 1, .ro, .none, 0, 0, 1⟩]⟩,
  ⟨0x1c, [], 1, [⟨16, 4, .ro, .none, 0, 0, 0xf⟩, ⟨0, 16, .ro, .none, 0, 0, 0xffff⟩]⟩,
  ⟨0x20, [], 1, [⟨0, 8, .w1c, .none, 0, 0, 0xff⟩]⟩,
  ⟨0x24, [], 1, [⟨0, 32, .rc, .none, 0, 0, 0xffffffff⟩]⟩,
  ⟨0x28, [], 1, [⟨0, 32, .rc, .none, 0, 0, 0xffffffff⟩]⟩,
  ⟨0x2c, [], 1, [⟨0, 32, .rc, .none, 0, 0, 0xffffffff⟩]⟩,
  ⟨0x30, [], 1, [⟨16, 16, .rc, .none, 0, 0, 0xffff⟩, ⟨0, 16, .rc, .none, 0, 0, 0xffff⟩]⟩,
  ⟨0x34, [], 1, [⟨16, 16, .rc, .none, 0, 0, 0xffff⟩, ⟨0, 16, .rc, .none, 0, 0, 0xffff⟩]⟩,
  ⟨0x38, [], 1, [⟨0, 32, .rc, .none, 0, 0, 0xffffffff⟩]⟩,
  ⟨0x3c, [], 1, [⟨0, 32, .ro, .none, 0, 0, 0xffffffff⟩]⟩,
  ⟨0x40, [], 1, [⟨0, 32, .ro, .none, 0, 0, 0xffffffff⟩]⟩,
  ⟨0x44, [], 1, [⟨0, 32, .ro, .none, 0, 0, 0xffffffff⟩]⟩,
  ⟨0x48, [], 1, [⟨0, 32, .ro, .none, 0, 0, 0xffffffff⟩]⟩,
  ⟨0x4c, [], 1, [⟨24, 8, .ro, .none, 0, 0, 0xff⟩, ⟨16, 8, .ro, .none, 0, 0, 0xff⟩, ⟨5, 1, .ro, .none, 0, 0, 1⟩, ⟨0, 5, .ro, .none, 0, 0, 0x1f⟩]⟩]

/-- Registers of PAIR (R457), part 1: LATENCY. -/
def specsPAIR1 : List RegSpec := [
  ⟨0x50, [], 1, [⟨16, 16, .rc, .none, 0, 0, 0xffff⟩, ⟨0, 16, .ro, .none, 0, 0, 0xffff⟩]⟩]

/-- Registers of PAIR. -/
def specsPAIR : List RegSpec := specsPAIR0 ++ specsPAIR1

/-- Registers of PUB (R474), part 0: CTRL, CFG, STATUS, EVT, GOOSE_SENT, GOOSE_GATED, GOOSE_LATE, TAG_FAIL, STROBES, GCB_CMD, GCB_ST, GCB_SQ, GCB_W, GCB_TPL, DO_CFG. -/
def specsPUB0 : List RegSpec := [
  ⟨0x10, [], 1, [⟨0, 1, .rw, .l, 0, 0, 1⟩]⟩,
  ⟨0x14, [], 1, [⟨16, 14, .rw, .s, 0x7d0, 0, 0x2710⟩, ⟨0, 10, .rw, .s, 0, 0, 0x3e8⟩]⟩,
  ⟨0x18, [], 1, [⟨16, 8, .ro, .none, 0, 0, 0xff⟩, ⟨8, 8, .ro, .none, 0, 0, 0xff⟩, ⟨2, 1, .ro, .none, 0, 0, 1⟩, ⟨1, 1, .ro, .none, 0, 0, 1⟩, ⟨0, 1, .ro, .none, 0, 0, 1⟩]⟩,
  ⟨0x1c, [], 1, [⟨0, 8, .w1c, .none, 0, 0, 0xff⟩]⟩,
  ⟨0x20, [], 1, [⟨0, 32, .rc, .none, 0, 0, 0xffffffff⟩]⟩,
  ⟨0x24, [], 1, [⟨0, 32, .rc, .none, 0, 0, 0xffffffff⟩]⟩,
  ⟨0x28, [], 1, [⟨0, 32, .rc, .none, 0, 0, 0xffffffff⟩]⟩,
  ⟨0x2c, [], 1, [⟨0, 32, .rc, .none, 0, 0, 0xffffffff⟩]⟩,
  ⟨0x30, [], 1, [⟨0, 32, .rc, .none, 0, 0, 0xffffffff⟩]⟩,
  ⟨0x34, [], 1, [⟨30, 2, .wo, .none, 0, 1, 2⟩, ⟨0, 9, .wo, .none, 0, 0, 0x1ff⟩]⟩,
  ⟨0x38, [], 1, [⟨0, 32, .ro, .none, 0, 0, 0xffffffff⟩]⟩,
  ⟨0x3c, [], 1, [⟨0, 32, .ro, .none, 0, 0, 0xffffffff⟩]⟩,
  ⟨0x40, [(8, 4)], 1, [⟨0, 32, .rw, .l, 0, 0, 0xffffffff⟩]⟩,
  ⟨0x100, [(96, 4)], 1, [⟨0, 32, .rw, .l, 0, 0, 0xffffffff⟩]⟩,
  ⟨0x300, [(8, 4)], 1, [⟨16, 16, .rw, .t, 0, 0, 0xffff⟩, ⟨8, 8, .rw, .t, 0, 0, 0xff⟩, ⟨4, 1, .rw, .t, 0, 0, 1⟩, ⟨0, 2, .rw, .t, 0, 0, 2⟩]⟩]

/-- Registers of PUB. -/
def specsPUB : List RegSpec := specsPUB0

/-- Registers of CLE (R498), part 0: CTRL, CFG, OWNER, STATUS, EVT, PROG, PROG_ID, BUDGET, CYCLE_LAST, CYCLE_MAX, OVERRUNS, CYCLES, START_LO, START_HI, FAULT_PC, FORCE. -/
def specsCLE0 : List RegSpec := [
  ⟨0x10, [], 1, [⟨1, 1, .rw, .l, 0, 0, 1⟩, ⟨0, 1, .rw, .l, 0, 0, 1⟩]⟩,
  ⟨0x14, [], 1, [⟨16, 10, .rw, .s, 0xa, 0, 0x3e8⟩, ⟨9, 6, .rw, .s, 0xa, 0, 0x32⟩, ⟨0, 9, .rw, .s, 1, 1, 0x100⟩]⟩,
  ⟨0x18, [], 1, [⟨0, 8, .rw, .s, 0, 0, 0xff⟩]⟩,
  ⟨0x1c, [], 1, [⟨16, 9, .ro, .none, 0, 0, 0x1ff⟩, ⟨8, 8, .ro, .none, 0, 0, 0xff⟩, ⟨4, 1, .ro, .none, 0, 0, 1⟩, ⟨3, 1, .ro, .none, 0, 0, 1⟩, ⟨2, 1, .ro, .none, 0, 0, 1⟩, ⟨0, 2, .ro, .none, 0, 0, 3⟩]⟩,
  ⟨0x20, [], 1, [⟨0, 8, .w1c, .none, 0, 0, 0xff⟩]⟩,
  ⟨0x24, [], 1, [⟨17, 9, .ro, .none, 0, 0, 0x1ff⟩, ⟨0, 17, .ro, .none, 0, 0, 0x1ffff⟩]⟩,
  ⟨0x28, [], 1, [⟨0, 32, .ro, .none, 0, 0, 0xffffffff⟩]⟩,
  ⟨0x2c, [], 1, [⟨0, 17, .ro, .none, 0x18f1a, 0, 0x1ffff⟩]⟩,
  ⟨0x30, [], 1, [⟨0, 32, .ro, .none, 0, 0, 0xffffffff⟩]⟩,
  ⟨0x34, [], 1, [⟨0, 32, .rc, .none, 0, 0, 0xffffffff⟩]⟩,
  ⟨0x38, [], 1, [⟨16, 16, .ro, .none, 0, 0, 0xffff⟩, ⟨0, 16, .rc, .none, 0, 0, 0xffff⟩]⟩,
  ⟨0x3c, [], 1, [⟨0, 32, .ro, .none, 0, 0, 0xffffffff⟩]⟩,
  ⟨0x40, [], 1, [⟨0, 32, .ro, .none, 0, 0, 0xffffffff⟩]⟩,
  ⟨0x44, [], 1, [⟨0, 32, .ro, .none, 0, 0, 0xffffffff⟩]⟩,
  ⟨0x48, [], 1, [⟨0, 16, .ro, .none, 0, 0, 0xffff⟩]⟩,
  ⟨0x400, [(256, 4)], 1, [⟨31, 1, .ro, .none, 0, 0, 1⟩, ⟨30, 1, .ro, .none, 0, 0, 1⟩, ⟨0, 24, .ro, .none, 0, 0, 0xffffff⟩]⟩]

/-- Registers of CLE (R498), part 1: Q. -/
def specsCLE1 : List RegSpec := [
  ⟨0x1000, [(256, 4)], 1, [⟨0, 32, .ro, .none, 0, 0, 0xffffffff⟩]⟩]

/-- Registers of CLE. -/
def specsCLE : List RegSpec := specsCLE0 ++ specsCLE1

/-- Registers of MOD (R518), part 0: CTRL, CFG, SAMPLE_PT, TEMP_CFG, TEMP_OFS, TEMP_NOW, STATUS, LATENCY, EVT, FINE, CORR_G, CORR_D, ERRCNT, CAL_N, CAL_T, CAL_G. -/
def specsMOD0 : List RegSpec := [
  ⟨0x10, [], 1, [⟨1, 1, .rw, .l, 0, 0, 1⟩, ⟨0, 1, .rw, .l, 0, 0, 1⟩]⟩,
  ⟨0x14, [], 1, [⟨16, 8, .rw, .s, 0, 0, 0xff⟩, ⟨0, 16, .rw, .s, 0xffff, 0, 0xffff⟩]⟩,
  ⟨0x18, [], 1, [⟨0, 32, .rw, .s, 0x1e1e1e1e, 0, 0xffffffff⟩]⟩,
  ⟨0x1c, [], 1, [⟨16, 16, .rw, .s, 0, 0, 0xffff⟩, ⟨0, 5, .rw, .s, 0, 0, 0x10⟩]⟩,
  ⟨0x20, [], 1, [⟨0, 16, .rw, .s, 0, 0, 0xffff⟩]⟩,
  ⟨0x24, [], 1, [⟨16, 1, .ro, .none, 0, 0, 1⟩, ⟨0, 16, .ro, .none, 0, 0, 0xffff⟩]⟩,
  ⟨0x28, [], 1, [⟨16, 16, .ro, .none, 0, 0, 0xffff⟩, ⟨0, 16, .ro, .none, 0, 0, 0xffff⟩]⟩,
  ⟨0x2c, [], 1, [⟨8, 8, .ro, .none, 0x5a, 0, 0xff⟩, ⟨0, 8, .ro, .none, 0x31, 0, 0xff⟩]⟩,
  ⟨0x30, [], 1, [⟨0, 4, .w1c, .none, 0, 0, 0xf⟩]⟩,
  ⟨0x100, [(16, 4)], 1, [⟨25, 1, .ro, .none, 1, 0, 1⟩, ⟨24, 1, .ro, .none, 1, 0, 1⟩, ⟨0, 24, .ro, .none, 0, 0, 0xffffff⟩]⟩,
  ⟨0x140, [(16, 8)], 1, [⟨0, 32, .ro, .none, 0x40000000, 0, 0xffffffff⟩]⟩,
  ⟨0x144, [(16, 8)], 1, [⟨0, 32, .ro, .none, 0, 0, 0xffffffff⟩]⟩,
  ⟨0x1c0, [(16, 4)], 1, [⟨16, 16, .rc, .none, 0, 0, 0xffff⟩, ⟨0, 16, .rc, .none, 0, 0, 0xffff⟩]⟩,
  ⟨0x200, [(16, 4)], 1, [⟨0, 5, .rw, .t, 1, 1, 0x10⟩]⟩,
  ⟨0x1000, [(16, 0x100), (16, 0x10)], 1, [⟨0, 16, .rw, .t, 0, 0, 0xffff⟩]⟩,
  ⟨0x1004, [(16, 0x100), (16, 0x10)], 1, [⟨0, 32, .rw, .t, 0x40000000, 0, 0xffffffff⟩]⟩]

/-- Registers of MOD (R518), part 1: CAL_D. -/
def specsMOD1 : List RegSpec := [
  ⟨0x1008, [(16, 0x100), (16, 0x10)], 1, [⟨0, 32, .rw, .t, 0, 0, 0xffffffff⟩]⟩]

/-- Registers of MOD. -/
def specsMOD : List RegSpec := specsMOD0 ++ specsMOD1

/-- Registers of ADC (R521), part 0: CTRL, CFG, PERIOD, RANGE, SEQMAP, CMD, STATUS, TRIG_IGNORED, MON_DELAY, EVT, RES_TS, RES, MON. -/
def specsADC0 : List RegSpec := [
  ⟨0x10, [], 1, [⟨0, 1, .rw, .l, 0, 0, 1⟩]⟩,
  ⟨0x14, [], 1, [⟨28, 1, .rw, .s, 0, 0, 1⟩, ⟨25, 3, .rw, .s, 0, 0, 7⟩, ⟨9, 16, .rw, .s, 1, 1, 0xffff⟩, ⟨5, 4, .rw, .s, 0, 0, 8⟩, ⟨3, 2, .rw, .s, 3, 0, 3⟩, ⟨2, 1, .rw, .s, 0, 0, 1⟩, ⟨0, 2, .rw, .s, 0, 0, 3⟩]⟩,
  ⟨0x18, [], 1, [⟨0, 20, .rw, .s, 0x3e8, 2, 0xf4240⟩]⟩,
  ⟨0x1c, [], 1, [⟨0, 32, .rw, .s, 0, 0, 0xffffffff⟩]⟩,
  ⟨0x20, [], 1, [⟨0, 32, .rw, .s, 0xe4e4e4e4, 0, 0xffffffff⟩]⟩,
  ⟨0x24, [], 1, [⟨1, 1, .wo, .none, 0, 0, 1⟩, ⟨0, 1, .wo, .none, 0, 0, 1⟩]⟩,
  ⟨0x28, [], 1, [⟨16, 16, .ro, .none, 0, 0, 0xffff⟩, ⟨2, 1, .ro, .none, 0, 0, 1⟩, ⟨1, 1, .ro, .none, 0, 0, 1⟩, ⟨0, 1, .ro, .none, 0, 0, 1⟩]⟩,
  ⟨0x2c, [], 1, [⟨0, 32, .rc, .none, 0, 0, 0xffffffff⟩]⟩,
  ⟨0x30, [], 1, [⟨0, 32, .rc, .none, 0, 0, 0xffffffff⟩]⟩,
  ⟨0x34, [], 1, [⟨0, 4, .w1c, .none, 0, 0, 0xf⟩]⟩,
  ⟨0x38, [], 2, [⟨0, 64, .ro, .none, 0, 0, 0xffffffffffffffff⟩]⟩,
  ⟨0x100, [(16, 4)], 1, [⟨24, 8, .ro, .none, 0, 0, 0xff⟩, ⟨16, 1, .ro, .none, 0, 0, 1⟩, ⟨0, 16, .ro, .none, 0, 0, 0xffff⟩]⟩,
  ⟨0x140, [(8, 4)], 1, [⟨31, 1, .ro, .none, 0, 0, 1⟩, ⟨0, 16, .ro, .none, 0, 0, 0xffff⟩]⟩]

/-- Registers of ADC. -/
def specsADC : List RegSpec := specsADC0

/-- Registers of AQE (R553), part 0: CTRL, CAPT, OPT, REARM, WAVE, WDET, GRP, NODE, GRP_DST_LO, GRP_DST_HI, TWL_LEN, TWL_VEL, CMD, STATUS, REC_ID, EVT. -/
def specsAQE0 : List RegSpec := [
  ⟨0x10, [], 1, [⟨2, 1, .rw, .l, 1, 0, 1⟩, ⟨1, 1, .rw, .l, 0, 0, 1⟩, ⟨0, 1, .rw, .l, 0, 0, 1⟩]⟩,
  ⟨0x14, [], 1, [⟨16, 15, .rw, .s, 0x3e8, 0, 0x7530⟩, ⟨0, 16, .rw, .s, 0x3e8, 0xa, 0x7530⟩]⟩,
  ⟨0x18, [], 1, [⟨31, 1, .rw, .s, 0, 0, 1⟩, ⟨30, 1, .rw, .s, 0, 0, 1⟩, ⟨29, 1, .rw, .s, 0, 0, 1⟩, ⟨28, 1, .rw, .s, 0, 0, 1⟩, ⟨0, 17, .rw, .s, 0xbb8, 0, 0x1ffff⟩]⟩,
  ⟨0x1c, [], 1, [⟨0, 14, .rw, .s, 0xc8, 0, 0x2710⟩]⟩,
  ⟨0x20, [], 1, [⟨16, 16, .rw, .s, 0x7d0, 0, 0xc350⟩, ⟨0, 16, .rw, .s, 0xc8, 0, 0xc350⟩]⟩,
  ⟨0x24, [], 1, [⟨16, 15, .rw, .s, 0x7d0, 1, 0x7fff⟩, ⟨0, 16, .rw, .s, 0, 0, 0xffff⟩]⟩,
  ⟨0x28, [], 1, [⟨31, 1, .rw, .s, 0, 0, 1⟩, ⟨30, 1, .rw, .s, 0, 0, 1⟩, ⟨27, 3, .rw, .s, 1, 1, 4⟩, ⟨16, 10, .rw, .s, 0, 0, 0x3ff⟩, ⟨0, 16, .rw, .s, 0, 0, 0xffff⟩]⟩,
  ⟨0x2c, [], 1, [⟨16, 12, .rw, .s, 0xfff, 0, 0xfff⟩, ⟨0, 12, .rw, .s, 0, 0, 0xfff⟩]⟩,
  ⟨0x30, [], 1, [⟨0, 32, .rw, .s, 0, 0, 0xffffffff⟩]⟩,
  ⟨0x34, [], 1, [⟨16, 12, .rw, .s, 0, 0, 0xfff⟩, ⟨0, 16, .rw, .s, 0, 0, 0xffff⟩]⟩,
  ⟨0x38, [], 1, [⟨0, 32, .rw, .s, 0, 0, 0xffffffff⟩]⟩,
  ⟨0x3c, [], 1, [⟨0, 32, .rw, .s, 0xa21fe80, 0x5f5e100, 0x11e1a300⟩]⟩,
  ⟨0x40, [], 1, [⟨2, 1, .wo, .none, 0, 0, 1⟩, ⟨1, 1, .wo, .none, 0, 0, 1⟩, ⟨0, 1, .wo, .none, 0, 0, 1⟩]⟩,
  ⟨0x44, [], 1, [⟨16, 16, .ro, .none, 0, 0, 0xffff⟩, ⟨5, 1, .ro, .none, 0, 0, 1⟩, ⟨4, 1, .ro, .none, 0, 0, 1⟩, ⟨3, 1, .ro, .none, 0, 0, 1⟩, ⟨0, 3, .ro, .none, 0, 0, 7⟩]⟩,
  ⟨0x48, [], 1, [⟨0, 32, .ro, .none, 0, 0, 0xffffffff⟩]⟩,
  ⟨0x4c, [], 1, [⟨0, 8, .w1c, .none, 0, 0, 0xff⟩]⟩]

/-- Registers of AQE (R553), part 1: CH_CMD, CH_W0, CH_W1, MPT_CMD, MPT_OFS, MPT_UP, MPT_LO, VIOL, VIOL_VAL, VIOL_TICK, TWL_RESULT, TWL_DT, RECORDS, BLIND, IGNORED, GAPS. -/
def specsAQE1 : List RegSpec := [
  ⟨0x50, [], 1, [⟨30, 2, .wo, .none, 0, 1, 2⟩, ⟨29, 1, .wo, .none, 0, 0, 1⟩, ⟨0, 13, .wo, .none, 0, 0, 0x1fff⟩]⟩,
  ⟨0x54, [], 1, [⟨0, 32, .rw, .l, 0, 0, 0xffffffff⟩]⟩,
  ⟨0x58, [], 1, [⟨0, 32, .rw, .l, 0, 0, 0xffffffff⟩]⟩,
  ⟨0x5c, [], 1, [⟨30, 2, .wo, .none, 0, 1, 2⟩, ⟨0, 10, .wo, .none, 0, 0, 0x3ff⟩]⟩,
  ⟨0x60, [], 1, [⟨0, 32, .rw, .l, 0, 0, 0xffffffff⟩]⟩,
  ⟨0x64, [], 1, [⟨0, 32, .rw, .l, 0, 0, 0xffffffff⟩]⟩,
  ⟨0x68, [], 1, [⟨0, 32, .rw, .l, 0, 0, 0xffffffff⟩]⟩,
  ⟨0x70, [], 1, [⟨31, 1, .rc, .none, 0, 0, 1⟩, ⟨0, 12, .rc, .none, 0, 0, 0xfff⟩]⟩,
  ⟨0x74, [], 1, [⟨0, 32, .ro, .none, 0, 0, 0xffffffff⟩]⟩,
  ⟨0x78, [], 2, [⟨0, 64, .ro, .none, 0, 0, 0xffffffffffffffff⟩]⟩,
  ⟨0x80, [], 1, [⟨31, 1, .rc, .none, 0, 0, 1⟩, ⟨28, 3, .rc, .none, 0, 0, 7⟩, ⟨0, 28, .rc, .none, 0, 0, 0xfffffff⟩]⟩,
  ⟨0x84, [], 1, [⟨0, 32, .ro, .none, 0, 0, 0xffffffff⟩]⟩,
  ⟨0x90, [], 1, [⟨0, 32, .rc, .none, 0, 0, 0xffffffff⟩]⟩,
  ⟨0x94, [], 1, [⟨0, 32, .rc, .none, 0, 0, 0xffffffff⟩]⟩,
  ⟨0x98, [], 1, [⟨0, 32, .rc, .none, 0, 0, 0xffffffff⟩]⟩,
  ⟨0x9c, [], 1, [⟨0, 32, .rc, .none, 0, 0, 0xffffffff⟩]⟩]

/-- Registers of AQE (R553), part 2: FIRE_TX, FIRE_RX, FIRE_BAD, FLASH, IDX_SEL, IDX_ID, IDX_INFO, IDX_T0, KEEP_ID, KEEP_CMD, TRG_CTRL, TRG_TH, TRG_HY, MASK_CTRL, MASK_PTS, WDELAY. -/
def specsAQE2 : List RegSpec := [
  ⟨0xa0, [], 1, [⟨0, 32, .rc, .none, 0, 0, 0xffffffff⟩]⟩,
  ⟨0xa4, [], 1, [⟨0, 32, .rc, .none, 0, 0, 0xffffffff⟩]⟩,
  ⟨0xa8, [], 1, [⟨16, 16, .rc, .none, 0, 0, 0xffff⟩, ⟨0, 16, .rc, .none, 0, 0, 0xffff⟩]⟩,
  ⟨0xb0, [], 1, [⟨16, 16, .ro, .none, 0, 0, 0xffff⟩, ⟨0, 16, .ro, .none, 0, 0, 0xffff⟩]⟩,
  ⟨0xc0, [], 1, [⟨0, 16, .rw, .l, 0, 0, 0xffff⟩]⟩,
  ⟨0xc4, [], 1, [⟨0, 32, .ro, .none, 0, 0, 0xffffffff⟩]⟩,
  ⟨0xc8, [], 1, [⟨24, 8, .ro, .none, 0, 0, 0xff⟩, ⟨16, 2, .ro, .none, 0, 0, 3⟩, ⟨0, 8, .ro, .none, 0, 0, 0xff⟩]⟩,
  ⟨0xd0, [], 2, [⟨0, 64, .ro, .none, 0, 0, 0xffffffffffffffff⟩]⟩,
  ⟨0xd8, [], 1, [⟨0, 32, .rw, .l, 0, 0, 0xffffffff⟩]⟩,
  ⟨0xdc, [], 1, [⟨0, 2, .wo, .none, 0, 1, 3⟩]⟩,
  ⟨0x1000, [(64, 0x10)], 1, [⟨31, 1, .rw, .t, 0, 0, 1⟩, ⟨28, 3, .rw, .t, 0, 0, 4⟩, ⟨16, 12, .rw, .t, 1, 1, 0xfff⟩, ⟨0, 12, .rw, .t, 0, 0, 0xfff⟩]⟩,
  ⟨0x1004, [(64, 0x10)], 1, [⟨0, 32, .rw, .t, 0, 0, 0xffffffff⟩]⟩,
  ⟨0x1008, [(64, 0x10)], 1, [⟨0, 32, .rw, .t, 0, 0, 0x7fffffff⟩]⟩,
  ⟨0x1400, [(64, 8)], 1, [⟨31, 1, .rw, .l, 0, 0, 1⟩, ⟨0, 12, .rw, .l, 0, 0, 0xfff⟩]⟩,
  ⟨0x1404, [(64, 8)], 1, [⟨16, 10, .rw, .l, 2, 2, 0x400⟩, ⟨0, 10, .rw, .l, 0, 0, 0x3ff⟩]⟩,
  ⟨0x1600, [(16, 4)], 1, [⟨0, 32, .rw, .s, 0, 0, 0xffffffff⟩]⟩]

/-- Registers of AQE. -/
def specsAQE : List RegSpec := specsAQE0 ++ specsAQE1 ++ specsAQE2

/-- Registers of NRG (R575), part 0: CTRL, PULSE_WIDTH, HEAT_PERIOD, VIGIL_THRESH, STATUS, EVT, UFLOW_START, UFLOW_END, UFLOW_PEAK, ACC_SEL, ACC_STAT, ACC_WIN, ACC, PO_CFG, PO_CONST, PO_BACKLOG. -/
def specsNRG0 : List RegSpec := [
  ⟨0x10, [], 1, [⟨0, 1, .rw, .l, 0, 0, 1⟩]⟩,
  ⟨0x14, [], 1, [⟨0, 8, .rw, .s, 0x64, 0x14, 0xfa⟩]⟩,
  ⟨0x18, [], 1, [⟨0, 14, .rw, .s, 0x3e8, 0x64, 0x2710⟩]⟩,
  ⟨0x1c, [], 1, [⟨0, 20, .rw, .s, 0x1f4, 1, 0xf4240⟩]⟩,
  ⟨0x20, [], 1, [⟨2, 1, .ro, .none, 0, 0, 1⟩, ⟨1, 1, .w1c, .l, 0, 0, 1⟩, ⟨0, 1, .w1c, .l, 0, 0, 1⟩]⟩,
  ⟨0x24, [], 1, [⟨0, 8, .w1c, .none, 0, 0, 0xff⟩]⟩,
  ⟨0x28, [], 2, [⟨0, 64, .ro, .none, 0, 0, 0xffffffffffffffff⟩]⟩,
  ⟨0x30, [], 2, [⟨0, 64, .ro, .none, 0, 0, 0xffffffffffffffff⟩]⟩,
  ⟨0x38, [], 1, [⟨24, 3, .ro, .none, 0, 0, 7⟩, ⟨0, 20, .ro, .none, 0, 0, 0xfffff⟩]⟩,
  ⟨0x40, [], 1, [⟨31, 1, .rw, .l, 0, 0, 1⟩, ⟨0, 8, .rw, .l, 0, 0, 0xff⟩]⟩,
  ⟨0x44, [], 1, [⟨0, 1, .ro, .none, 0, 0, 1⟩]⟩,
  ⟨0x48, [], 2, [⟨0, 64, .ro, .none, 0, 0, 0xffffffffffffffff⟩]⟩,
  ⟨0x100, [(4, 0x38), (7, 8)], 2, [⟨0, 64, .ro, .none, 0, 0, 0xffffffffffffffff⟩]⟩,
  ⟨0x200, [(4, 0x20)], 1, [⟨31, 1, .rw, .t, 0, 0, 1⟩, ⟨16, 8, .rw, .t, 0, 0, 0x81⟩, ⟨8, 2, .rw, .t, 0, 0, 3⟩, ⟨0, 3, .rw, .t, 0, 0, 6⟩]⟩,
  ⟨0x204, [(4, 0x20)], 1, [⟨0, 32, .rw, .t, 0x3e8, 1, 0xffffffff⟩]⟩,
  ⟨0x208, [(4, 0x20)], 1, [⟨0, 32, .ro, .none, 0, 0, 0xffffffff⟩]⟩]

/-- Registers of NRG (R575), part 1: PO_EMITTED, PO_RESID, PO_WIDTH, HM_CFG, HM_TCAL, HM_VGAIN, HM_VOFS, HM_LIMITS, HM_REP_T, HM_REP_V, HM_STAT, KTAB, VIG_K, VIG_SECS, VIG_AHP, VIG_AHN. -/
def specsNRG1 : List RegSpec := [
  ⟨0x20c, [(4, 0x20)], 1, [⟨0, 32, .ro, .none, 0, 0, 0xffffffff⟩]⟩,
  ⟨0x210, [(4, 0x20)], 1, [⟨0, 32, .ro, .none, 0, 0, 0xffffffff⟩]⟩,
  ⟨0x214, [(4, 0x20)], 1, [⟨0, 8, .ro, .none, 0, 0, 0xff⟩]⟩,
  ⟨0x400, [(64, 0x20)], 1, [⟨31, 1, .rw, .t, 0, 0, 1⟩, ⟨30, 1, .rw, .t, 0, 0, 1⟩, ⟨29, 1, .rw, .t, 0, 0, 1⟩, ⟨28, 1, .rw, .t, 0, 0, 1⟩, ⟨12, 4, .rw, .t, 0, 0, 0xf⟩, ⟨8, 4, .rw, .t, 0, 0, 0xf⟩, ⟨4, 4, .rw, .t, 0, 0, 0xf⟩]⟩,
  ⟨0x404, [(64, 0x20)], 1, [⟨16, 16, .rw, .t, 0, 0, 0xffff⟩, ⟨0, 16, .rw, .t, 0, 0, 0xffff⟩]⟩,
  ⟨0x408, [(64, 0x20)], 1, [⟨0, 32, .rw, .t, 0, 0, 0xffffffff⟩]⟩,
  ⟨0x40c, [(64, 0x20)], 1, [⟨0, 32, .rw, .t, 0, 0, 0xffffffff⟩]⟩,
  ⟨0x410, [(64, 0x20)], 1, [⟨16, 16, .rw, .t, 0x3c, 1, 0xe10⟩, ⟨0, 16, .rw, .t, 0xd, 0, 0x7fff⟩]⟩,
  ⟨0x414, [(64, 0x20)], 1, [⟨16, 16, .rw, .l, 0, 0, 0xffff⟩, ⟨0, 16, .rw, .l, 0, 0, 0xffff⟩]⟩,
  ⟨0x418, [(64, 0x20)], 1, [⟨0, 32, .rw, .l, 0, 0, 0xffffffff⟩]⟩,
  ⟨0x41c, [(64, 0x20)], 1, [⟨16, 16, .ro, .none, 0, 0, 0xffff⟩, ⟨1, 1, .ro, .none, 1, 0, 1⟩, ⟨0, 1, .ro, .none, 0, 0, 1⟩]⟩,
  ⟨0xc00, [(2, 0x400), (16, 0x40), (16, 4)], 1, [⟨0, 32, .rw, .t, 0x4a000000, 0, 0xffffffff⟩]⟩,
  ⟨0x1400, [(8, 0x20)], 1, [⟨0, 32, .rw, .s, 0, 0, 0xffffffff⟩]⟩,
  ⟨0x1404, [(8, 0x20)], 1, [⟨0, 32, .ro, .none, 0, 0, 0xffffffff⟩]⟩,
  ⟨0x1408, [(8, 0x20)], 2, [⟨0, 64, .ro, .none, 0, 0, 0xffffffffffffffff⟩]⟩,
  ⟨0x1410, [(8, 0x20)], 2, [⟨0, 64, .ro, .none, 0, 0, 0xffffffffffffffff⟩]⟩]

/-- Registers of NRG (R575), part 2: PT_CFG, PT_PH, PT_K_LO, PT_K_HI, PT_FREQ, PT_GAP_TICKS, PT_INV_TICKS. -/
def specsNRG2 : List RegSpec := [
  ⟨0x2000, [(130, 0x40)], 1, [⟨31, 1, .rw, .t, 0, 0, 1⟩, ⟨29, 2, .rw, .t, 3, 1, 3⟩, ⟨28, 1, .rw, .t, 0, 0, 1⟩]⟩,
  ⟨0x2004, [(130, 0x40), (3, 4)], 1, [⟨16, 12, .rw, .t, 0, 0, 0xfff⟩, ⟨0, 12, .rw, .t, 0, 0, 0xfff⟩]⟩,
  ⟨0x2010, [(130, 0x40)], 1, [⟨0, 32, .rw, .t, 0, 0, 0xffffffff⟩]⟩,
  ⟨0x2014, [(130, 0x40)], 1, [⟨0, 32, .rw, .t, 0, 0, 0xffffffff⟩]⟩,
  ⟨0x2018, [(130, 0x40)], 1, [⟨16, 1, .ro, .none, 0, 0, 1⟩, ⟨0, 16, .ro, .none, 0, 0, 0xffff⟩]⟩,
  ⟨0x201c, [(130, 0x40)], 1, [⟨0, 32, .rc, .none, 0, 0, 0xffffffff⟩]⟩,
  ⟨0x2020, [(130, 0x40)], 1, [⟨0, 32, .rc, .none, 0, 0, 0xffffffff⟩]⟩]

/-- Registers of NRG. -/
def specsNRG : List RegSpec := specsNRG0 ++ specsNRG1 ++ specsNRG2

/-- Registers of LCE (R595), part 0: CTRL, STATUS, EVT, EXEC, TX, TX_GATED, REPORT_RX, REPORT_BAD, DEV_ADDR_LO, DEV_CFG, LOOP_SCHED, LOOP_SRC, LOOP_PV_GAIN, LOOP_PV_OFS, LOOP_CFG, LOOP_OUT. -/
def specsLCE0 : List RegSpec := [
  ⟨0x10, [], 1, [⟨0, 1, .rw, .l, 0, 0, 1⟩]⟩,
  ⟨0x14, [], 1, [⟨16, 9, .ro, .none, 0x80, 0, 0x1ff⟩, ⟨0, 8, .ro, .none, 0, 0, 0xff⟩]⟩,
  ⟨0x18, [], 1, [⟨0, 8, .w1c, .none, 0, 0, 0xff⟩]⟩,
  ⟨0x1c, [], 1, [⟨0, 32, .ro, .none, 0, 0, 0xffffffff⟩]⟩,
  ⟨0x20, [], 1, [⟨0, 32, .rc, .none, 0, 0, 0xffffffff⟩]⟩,
  ⟨0x24, [], 1, [⟨0, 32, .rc, .none, 0, 0, 0xffffffff⟩]⟩,
  ⟨0x28, [], 1, [⟨0, 32, .rc, .none, 0, 0, 0xffffffff⟩]⟩,
  ⟨0x2c, [], 1, [⟨0, 32, .rc, .none, 0, 0, 0xffffffff⟩]⟩,
  ⟨0x100, [(32, 8)], 1, [⟨0, 32, .rw, .s, 0, 0, 0xffffffff⟩]⟩,
  ⟨0x104, [(32, 8)], 1, [⟨31, 1, .rw, .s, 0, 0, 1⟩, ⟨30, 1, .rw, .s, 0, 0, 1⟩, ⟨16, 14, .rw, .s, 0x1f4, 1, 0x3fff⟩, ⟨0, 16, .rw, .s, 0, 0, 0xffff⟩]⟩,
  ⟨0x1000, [(128, 0x80)], 1, [⟨16, 16, .rw, .s, 0, 0, 0xffff⟩, ⟨0, 16, .rw, .s, 1, 1, 0xffff⟩]⟩,
  ⟨0x1004, [(128, 0x80)], 1, [⟨28, 4, .rw, .s, 1, 0, 4⟩, ⟨16, 12, .rw, .s, 0, 0, 0xfff⟩, ⟨12, 4, .rw, .s, 0, 0, 4⟩, ⟨0, 12, .rw, .s, 0, 0, 0xfff⟩]⟩,
  ⟨0x1008, [(128, 0x80)], 1, [⟨0, 32, .rw, .s, 0x10000, 0, 0xffffffff⟩]⟩,
  ⟨0x100c, [(128, 0x80)], 1, [⟨0, 32, .rw, .s, 0, 0, 0xffffffff⟩]⟩,
  ⟨0x1010, [(128, 0x80)], 1, [⟨31, 1, .rw, .s, 0, 0, 1⟩, ⟨30, 1, .rw, .s, 0, 0, 1⟩, ⟨28, 2, .rw, .s, 0, 0, 3⟩, ⟨26, 2, .rw, .s, 0, 0, 2⟩, ⟨22, 4, .rw, .s, 0, 0, 0xf⟩, ⟨0, 13, .rw, .s, 0, 0, 0x1fff⟩]⟩,
  ⟨0x1014, [(128, 0x80)], 1, [⟨31, 1, .rw, .s, 0, 0, 1⟩, ⟨16, 5, .rw, .s, 0, 0, 0x1f⟩, ⟨0, 8, .rw, .s, 0, 0, 0xff⟩]⟩]

/-- Registers of LCE (R595), part 1: LOOP_SP, LOOP_SPB, LOOP_SP_LO, LOOP_SP_HI, LOOP_RAMP_RATE, LOOP_MAN, LOOP_OUTLIM, LOOP_SAFE, LOOP_MODEL, LOOP_MG, LOOP_KFF, LOOP_BAND, LOOP_SUP, LOOP_CTRL, LOOP_STATE, LOOP_PV. -/
def specsLCE1 : List RegSpec := [
  ⟨0x1018, [(128, 0x80)], 1, [⟨0, 32, .rw, .l, 0, 0, 0xffffffff⟩]⟩,
  ⟨0x101c, [(128, 0x80)], 1, [⟨0, 32, .rw, .l, 0, 0, 0xffffffff⟩]⟩,
  ⟨0x1020, [(128, 0x80)], 1, [⟨0, 32, .rw, .s, 0x80000000, 0, 0xffffffff⟩]⟩,
  ⟨0x1024, [(128, 0x80)], 1, [⟨0, 32, .rw, .s, 0x7fffffff, 0, 0xffffffff⟩]⟩,
  ⟨0x1028, [(128, 0x80)], 1, [⟨0, 32, .rw, .l, 0, 0, 0xffffffff⟩]⟩,
  ⟨0x102c, [(128, 0x80)], 1, [⟨0, 32, .rw, .l, 0, 0, 0xffffffff⟩]⟩,
  ⟨0x1030, [(128, 0x80)], 1, [⟨16, 16, .rw, .l, 0xc800, 0, 0xffff⟩, ⟨0, 16, .rw, .l, 0, 0, 0xffff⟩]⟩,
  ⟨0x1034, [(128, 0x80)], 1, [⟨16, 16, .rw, .l, 0, 0, 0xffff⟩, ⟨0, 16, .rw, .l, 0x40, 0, 0xffff⟩]⟩,
  ⟨0x1038, [(128, 0x80)], 1, [⟨16, 16, .rw, .l, 0x1000, 0, 0xffff⟩, ⟨0, 6, .rw, .l, 0, 0, 0x3f⟩]⟩,
  ⟨0x103c, [(128, 0x80)], 1, [⟨0, 32, .rw, .l, 0x10000, 0, 0xffffffff⟩]⟩,
  ⟨0x1040, [(128, 0x80)], 1, [⟨0, 32, .rw, .l, 0, 0, 0xffffffff⟩]⟩,
  ⟨0x1044, [(128, 0x80)], 1, [⟨0, 32, .rw, .l, 0x7fffffff, 0, 0xffffffff⟩]⟩,
  ⟨0x1048, [(128, 0x80)], 1, [⟨16, 16, .rw, .l, 0xa, 1, 0xffff⟩, ⟨0, 16, .rw, .l, 3, 0, 0xffff⟩]⟩,
  ⟨0x104c, [(128, 0x80)], 1, [⟨31, 1, .rw, .l, 0, 0, 1⟩, ⟨30, 1, .rw, .l, 1, 0, 1⟩, ⟨28, 2, .rw, .l, 0, 0, 3⟩, ⟨27, 1, .rw, .l, 0, 0, 1⟩, ⟨26, 1, .rw, .l, 1, 0, 1⟩]⟩,
  ⟨0x1050, [(128, 0x80)], 1, [⟨29, 3, .wo, .none, 0, 0, 3⟩, ⟨20, 4, .ro, .none, 0, 0, 0xf⟩, ⟨15, 1, .ro, .none, 0, 0, 1⟩, ⟨11, 1, .w1c, .l, 0, 0, 1⟩, ⟨10, 1, .w1c, .l, 0, 0, 1⟩, ⟨9, 1, .w1c, .l, 0, 0, 1⟩, ⟨8, 1, .w1c, .l, 0, 0, 1⟩, ⟨0, 2, .ro, .none, 0, 0, 3⟩]⟩,
  ⟨0x1054, [(128, 0x80)], 1, [⟨0, 32, .ro, .none, 0, 0, 0xffffffff⟩]⟩]

/-- Registers of LCE (R595), part 2: LOOP_W, LOOP_Y, LOOP_RES, LOOP_ALPHA, LOOP_KP0, LOOP_KI0, LOOP_KD0, LOOP_KP1, LOOP_KI1, LOOP_KD1, FRIC. -/
def specsLCE2 : List RegSpec := [
  ⟨0x1058, [(128, 0x80)], 1, [⟨0, 32, .ro, .none, 0, 0, 0xffffffff⟩]⟩,
  ⟨0x105c, [(128, 0x80)], 1, [⟨0, 32, .ro, .none, 0, 0, 0xffffffff⟩]⟩,
  ⟨0x1060, [(128, 0x80)], 1, [⟨0, 32, .ro, .none, 0, 0, 0xffffffff⟩]⟩,
  ⟨0x1064, [(128, 0x80)], 1, [⟨16, 16, .rw, .l, 0, 0, 0xffff⟩, ⟨0, 16, .rw, .l, 0, 0, 0xffff⟩]⟩,
  ⟨0x1068, [(128, 0x80)], 1, [⟨0, 32, .rw, .l, 0, 0, 0xffffffff⟩]⟩,
  ⟨0x106c, [(128, 0x80)], 1, [⟨0, 32, .rw, .l, 0, 0, 0xffffffff⟩]⟩,
  ⟨0x1070, [(128, 0x80)], 1, [⟨0, 32, .rw, .l, 0, 0, 0xffffffff⟩]⟩,
  ⟨0x1074, [(128, 0x80)], 1, [⟨0, 32, .rw, .l, 0, 0, 0xffffffff⟩]⟩,
  ⟨0x1078, [(128, 0x80)], 1, [⟨0, 32, .rw, .l, 0, 0, 0xffffffff⟩]⟩,
  ⟨0x107c, [(128, 0x80)], 1, [⟨0, 32, .rw, .l, 0, 0, 0xffffffff⟩]⟩,
  ⟨0x5000, [(128, 0x40), (16, 4)], 1, [⟨0, 32, .rw, .l, 0, 0, 0xffffffff⟩]⟩]

/-- Registers of LCE. -/
def specsLCE : List RegSpec := specsLCE0 ++ specsLCE1 ++ specsLCE2

/-- Registers of RCK (R628), part 0: CTRL, CFG, CFG2, TOL_ABS, TOL_REL, RHO0, ADAPT, REP_MAX, HR_HYST, STATUS, EVT, SOLVE_ID, PLAN_T0, LAST_ITER, OBJ, RPRIM. -/
def specsRCK0 : List RegSpec := [
  ⟨0x10, [], 1, [⟨12, 10, .rw, .l, 0x3c, 0xa, 0x384⟩, ⟨2, 1, .rw, .l, 0, 0, 1⟩, ⟨1, 1, .rw, .l, 0, 0, 1⟩, ⟨0, 1, .rw, .l, 0, 0, 1⟩]⟩,
  ⟨0x14, [], 1, [⟨24, 6, .rw, .s, 0xf, 5, 0x3c⟩, ⟨16, 8, .rw, .s, 0x60, 0x18, 0xc0⟩]⟩,
  ⟨0x18, [], 1, [⟨16, 10, .rw, .l, 0x1f4, 0xa, 0x3e8⟩, ⟨0, 8, .rw, .l, 8, 0, 0xc0⟩]⟩,
  ⟨0x1c, [], 1, [⟨0, 32, .rw, .l, 0x3a83126f, 0, 0xffffffff⟩]⟩,
  ⟨0x20, [], 1, [⟨0, 32, .rw, .l, 0x3a83126f, 0, 0xffffffff⟩]⟩,
  ⟨0x24, [], 1, [⟨0, 32, .rw, .l, 0x3e000000, 0, 0xffffffff⟩]⟩,
  ⟨0x28, [], 1, [⟨16, 16, .rw, .l, 0xffbf, 0, 0xffff⟩, ⟨8, 8, .rw, .l, 0xa, 1, 0xff⟩, ⟨0, 8, .rw, .l, 6, 1, 0xff⟩]⟩,
  ⟨0x2c, [], 1, [⟨0, 13, .rw, .l, 0x384, 0x3c, 0x1c20⟩]⟩,
  ⟨0x30, [], 1, [⟨0, 32, .rw, .l, 0x42200000, 0, 0xffffffff⟩]⟩,
  ⟨0x34, [], 1, [⟨24, 8, .ro, .none, 0, 0, 0xff⟩, ⟨20, 4, .ro, .none, 0, 0, 0xf⟩, ⟨3, 1, .ro, .none, 0, 0, 1⟩, ⟨2, 1, .ro, .none, 0, 0, 1⟩, ⟨0, 2, .ro, .none, 3, 0, 3⟩]⟩,
  ⟨0x38, [], 1, [⟨0, 8, .w1c, .none, 0, 0, 0xff⟩]⟩,
  ⟨0x3c, [], 1, [⟨0, 32, .ro, .none, 0, 0, 0xffffffff⟩]⟩,
  ⟨0x40, [], 2, [⟨0, 64, .ro, .none, 0, 0, 0xffffffffffffffff⟩]⟩,
  ⟨0x48, [], 1, [⟨16, 16, .ro, .none, 0, 0, 0xffff⟩, ⟨0, 16, .ro, .none, 0, 0, 0xffff⟩]⟩,
  ⟨0x4c, [], 1, [⟨0, 32, .ro, .none, 0, 0, 0xffffffff⟩]⟩,
  ⟨0x50, [], 1, [⟨0, 32, .ro, .none, 0, 0, 0xffffffff⟩]⟩]

/-- Registers of RCK (R628), part 1: RDUAL, RHO, SIZE_N, SIZE_M, SIZE_NNZ, SOLVES, FAILS, SKIPPED, CLAMPS, SERIES_EXT, REP_OLD, ADAPT_SEL, ADAPT_UA, ADAPT_TAU, ADAPT_STAT, BATCH_ADDR_LO. -/
def specsRCK1 : List RegSpec := [
  ⟨0x54, [], 1, [⟨0, 32, .ro, .none, 0, 0, 0xffffffff⟩]⟩,
  ⟨0x58, [], 1, [⟨0, 32, .ro, .none, 0, 0, 0xffffffff⟩]⟩,
  ⟨0x5c, [], 1, [⟨0, 32, .ro, .none, 0, 0, 0xffffffff⟩]⟩,
  ⟨0x60, [], 1, [⟨0, 32, .ro, .none, 0, 0, 0xffffffff⟩]⟩,
  ⟨0x64, [], 1, [⟨0, 32, .ro, .none, 0, 0, 0xffffffff⟩]⟩,
  ⟨0x68, [], 1, [⟨0, 32, .rc, .none, 0, 0, 0xffffffff⟩]⟩,
  ⟨0x6c, [], 1, [⟨0, 32, .rc, .none, 0, 0, 0xffffffff⟩]⟩,
  ⟨0x70, [], 1, [⟨0, 32, .rc, .none, 0, 0, 0xffffffff⟩]⟩,
  ⟨0x74, [], 1, [⟨0, 32, .rc, .none, 0, 0, 0xffffffff⟩]⟩,
  ⟨0x78, [], 1, [⟨16, 16, .rc, .none, 0, 0, 0xffff⟩, ⟨0, 16, .rc, .none, 0, 0, 0xffff⟩]⟩,
  ⟨0x7c, [], 1, [⟨0, 32, .rc, .none, 0, 0, 0xffffffff⟩]⟩,
  ⟨0x80, [], 1, [⟨0, 12, .rw, .l, 0, 0, 0xfff⟩]⟩,
  ⟨0x84, [], 1, [⟨0, 32, .ro, .none, 0, 0, 0xffffffff⟩]⟩,
  ⟨0x88, [], 1, [⟨0, 32, .ro, .none, 0, 0, 0xffffffff⟩]⟩,
  ⟨0x8c, [], 1, [⟨31, 1, .ro, .none, 0, 0, 1⟩, ⟨0, 16, .ro, .none, 0, 0, 0xffff⟩]⟩,
  ⟨0x1000, [(256, 0x10)], 1, [⟨12, 20, .rw, .l, 0, 0, 0xfffff⟩]⟩]

/-- Registers of RCK (R628), part 2: BATCH_ADDR_HI, BATCH_CTRL, BATCH_STAT. -/
def specsRCK2 : List RegSpec := [
  ⟨0x1004, [(256, 0x10)], 1, [⟨0, 32, .rw, .l, 0, 0, 0xffffffff⟩]⟩,
  ⟨0x1008, [(256, 0x10)], 1, [⟨31, 1, .rw, .l, 0, 0, 1⟩, ⟨0, 15, .rw, .l, 0x40, 8, 0x4000⟩]⟩,
  ⟨0x100c, [(256, 0x10)], 1, [⟨16, 16, .ro, .none, 0, 0, 0xffff⟩, ⟨8, 1, .ro, .none, 0, 0, 1⟩, ⟨0, 8, .rc, .none, 0, 0, 0xff⟩]⟩]

/-- Registers of RCK. -/
def specsRCK : List RegSpec := specsRCK0 ++ specsRCK1 ++ specsRCK2

/-- Registers of KEY (R656), part 0: CFG, STATUS, EVT, SVN, SIGNERS, JRNL_SEQ, NONCE, XPORT, KID_SEL, KID, SLOT_POLICY, SLOT_USES, SLOT_STATE, SLOT_KID_LO. -/
def specsKEY0 : List RegSpec := [
  ⟨0x10, [], 1, [⟨0, 12, .rw, .l, 0x258, 0xa, 0xe10⟩]⟩,
  ⟨0x14, [], 1, [⟨29, 3, .ro, .none, 0, 0, 7⟩, ⟨28, 1, .ro, .none, 0, 0, 1⟩, ⟨23, 5, .ro, .none, 0, 0, 0x1f⟩, ⟨15, 8, .ro, .none, 0, 0, 0xff⟩, ⟨13, 2, .ro, .none, 0, 0, 3⟩, ⟨0, 11, .ro, .none, 0, 0, 0x7ff⟩]⟩,
  ⟨0x18, [], 1, [⟨0, 8, .w1c, .none, 0, 0, 0xff⟩]⟩,
  ⟨0x1c, [], 1, [⟨16, 16, .ro, .none, 0, 0, 0xffff⟩, ⟨0, 16, .ro, .none, 0, 0, 0xffff⟩]⟩,
  ⟨0x20, [], 1, [⟨8, 7, .ro, .none, 0, 0, 0x7f⟩, ⟨4, 4, .ro, .none, 0, 0, 0xf⟩, ⟨0, 4, .ro, .none, 0, 0, 0xf⟩]⟩,
  ⟨0x24, [], 1, [⟨0, 32, .ro, .none, 0, 0, 0xffffffff⟩]⟩,
  ⟨0x40, [(8, 4)], 1, [⟨0, 32, .ro, .none, 0, 0, 0xffffffff⟩]⟩,
  ⟨0x100, [(25, 4)], 1, [⟨0, 32, .ro, .none, 0, 0, 0xffffffff⟩]⟩,
  ⟨0x200, [], 1, [⟨0, 10, .rw, .l, 0, 0, 0x3ff⟩]⟩,
  ⟨0x210, [(12, 4)], 1, [⟨0, 32, .ro, .none, 0, 0, 0xffffffff⟩]⟩,
  ⟨0x1000, [(1024, 0x10)], 1, [⟨24, 8, .ro, .none, 0, 0, 0xff⟩, ⟨20, 4, .ro, .none, 0, 0, 0xf⟩, ⟨19, 1, .ro, .none, 0, 0, 1⟩, ⟨18, 1, .ro, .none, 0, 0, 1⟩, ⟨15, 3, .ro, .none, 0, 0, 7⟩, ⟨12, 3, .ro, .none, 0, 0, 7⟩, ⟨4, 8, .ro, .none, 0, 0, 0xff⟩]⟩,
  ⟨0x1004, [(1024, 0x10)], 1, [⟨16, 16, .ro, .none, 0, 0, 0xffff⟩, ⟨0, 9, .ro, .none, 0, 0, 0x1ff⟩]⟩,
  ⟨0x1008, [(1024, 0x10)], 1, [⟨8, 24, .ro, .none, 0, 0, 0xffffff⟩, ⟨5, 1, .ro, .none, 0, 0, 1⟩, ⟨4, 1, .ro, .none, 0, 0, 1⟩, ⟨3, 1, .ro, .none, 0, 0, 1⟩, ⟨0, 3, .ro, .none, 0, 0, 7⟩]⟩,
  ⟨0x100c, [(1024, 0x10)], 1, [⟨0, 32, .ro, .none, 0, 0, 0xffffffff⟩]⟩]

/-- Registers of KEY. -/
def specsKEY : List RegSpec := specsKEY0

/-- Registers of TMP (R659), part 0: CTRL, STATUS, EVT, MASK, LATCHSRC, RESP, DIE, EVENTS, LOOPERR, LAST. -/
def specsTMP0 : List RegSpec := [
  ⟨0x10, [], 1, [⟨0, 1, .wo, .none, 0, 0, 1⟩]⟩,
  ⟨0x14, [], 1, [⟨24, 1, .ro, .none, 0, 0, 1⟩, ⟨16, 8, .ro, .none, 0, 0, 0xff⟩, ⟨8, 8, .ro, .none, 0, 0, 0xff⟩, ⟨0, 8, .ro, .none, 0, 0, 0xff⟩]⟩,
  ⟨0x18, [], 1, [⟨0, 8, .w1c, .none, 0, 0, 0xff⟩]⟩,
  ⟨0x1c, [], 1, [⟨1, 7, .rw, .l, 0, 0, 0x7f⟩]⟩,
  ⟨0x20, [], 1, [⟨1, 7, .ro, .none, 0, 0, 0x7f⟩]⟩,
  ⟨0x24, [(7, 4)], 1, [⟨0, 16, .rw, .l, 0x5555, 0, 0xffff⟩]⟩,
  ⟨0x40, [], 1, [⟨0, 16, .ro, .none, 0, 0, 0xffff⟩]⟩,
  ⟨0x44, [], 1, [⟨0, 16, .rc, .none, 0, 0, 0xffff⟩]⟩,
  ⟨0x48, [], 1, [⟨16, 16, .rc, .none, 0, 0, 0xffff⟩, ⟨0, 16, .rc, .none, 0, 0, 0xffff⟩]⟩,
  ⟨0x4c, [], 1, [⟨8, 8, .ro, .none, 0, 0, 0xff⟩, ⟨0, 8, .ro, .none, 0, 0, 0xff⟩]⟩]

/-- Registers of TMP. -/
def specsTMP : List RegSpec := specsTMP0

/-- Registers of PER (R681), part 0: STATUS, EVT, COMMITS, CTIME, SKIPPED, BADBANK, QUEUE, DROPPED, GAP_MS, SECT_STATE, SECT_WRITES, SECT_SEQ. -/
def specsPER0 : List RegSpec := [
  ⟨0x10, [], 1, [⟨4, 1, .ro, .none, 0, 0, 1⟩, ⟨3, 1, .w1c, .l, 0, 0, 1⟩, ⟨2, 1, .ro, .none, 0, 0, 1⟩, ⟨1, 1, .w1c, .l, 0, 0, 1⟩, ⟨0, 1, .ro, .none, 0, 0, 1⟩]⟩,
  ⟨0x14, [], 1, [⟨0, 4, .w1c, .none, 0, 0, 0xf⟩]⟩,
  ⟨0x18, [], 1, [⟨0, 32, .ro, .none, 0, 0, 0xffffffff⟩]⟩,
  ⟨0x1c, [], 1, [⟨16, 16, .rc, .none, 0, 0, 0xffff⟩, ⟨0, 16, .ro, .none, 0, 0, 0xffff⟩]⟩,
  ⟨0x20, [], 1, [⟨0, 32, .rc, .none, 0, 0, 0xffffffff⟩]⟩,
  ⟨0x24, [], 1, [⟨16, 16, .rc, .none, 0, 0, 0xffff⟩, ⟨0, 16, .rc, .none, 0, 0, 0xffff⟩]⟩,
  ⟨0x28, [], 1, [⟨16, 16, .rc, .none, 0, 0, 0xffff⟩, ⟨0, 16, .ro, .none, 0, 0, 0xffff⟩]⟩,
  ⟨0x2c, [], 1, [⟨0, 32, .rc, .none, 0, 0, 0xffffffff⟩]⟩,
  ⟨0x30, [], 1, [⟨0, 4, .ro, .none, 0, 0, 0xf⟩]⟩,
  ⟨0x100, [(9, 0x10)], 1, [⟨2, 1, .ro, .none, 0, 0, 1⟩, ⟨1, 1, .ro, .none, 0, 0, 1⟩, ⟨0, 1, .ro, .none, 0, 0, 1⟩]⟩,
  ⟨0x104, [(9, 0x10)], 1, [⟨0, 32, .ro, .none, 0, 0, 0xffffffff⟩]⟩,
  ⟨0x108, [(9, 0x10)], 2, [⟨0, 64, .ro, .none, 0, 0, 0xffffffffffffffff⟩]⟩]

/-- Registers of PER. -/
def specsPER : List RegSpec := specsPER0

/-- Registers of TLY (R684), part 0: STATUS, EVT, AUDITS, LAUDITS, VIOL_CNT, LAST, LAST_EXP, LAST_FOUND, REPAIRS. -/
def specsTLY0 : List RegSpec := [
  ⟨0x10, [], 1, [⟨1, 7, .ro, .none, 0, 0, 0x7f⟩, ⟨0, 1, .ro, .none, 0, 0, 1⟩]⟩,
  ⟨0x14, [], 1, [⟨0, 4, .w1c, .none, 0, 0, 0xf⟩]⟩,
  ⟨0x18, [], 1, [⟨0, 32, .ro, .none, 0, 0, 0xffffffff⟩]⟩,
  ⟨0x1c, [], 1, [⟨0, 32, .ro, .none, 0, 0, 0xffffffff⟩]⟩,
  ⟨0x20, [(7, 4)], 1, [⟨0, 32, .rc, .none, 0, 0, 0xffffffff⟩]⟩,
  ⟨0x40, [], 1, [⟨24, 8, .ro, .none, 0, 0, 0xff⟩, ⟨23, 1, .ro, .none, 0, 0, 1⟩, ⟨0, 16, .ro, .none, 0, 0, 0xffff⟩]⟩,
  ⟨0x48, [], 2, [⟨0, 64, .ro, .none, 0, 0, 0xffffffffffffffff⟩]⟩,
  ⟨0x50, [], 2, [⟨0, 64, .ro, .none, 0, 0, 0xffffffffffffffff⟩]⟩,
  ⟨0x58, [], 1, [⟨16, 16, .rc, .none, 0, 0, 0xffff⟩, ⟨0, 16, .rc, .none, 0, 0, 0xffff⟩]⟩]

/-- Registers of TLY. -/
def specsTLY : List RegSpec := specsTLY0

/-- Registers of FIJ (R702), part 0: STATUS, EVT, STARTS, REFUSED, INJ_DESC, INJ_N, INJ_PARAM, INJ_AFFECTED, INJ_REMAIN, INJ_START_LO, INJ_START_HI. -/
def specsFIJ0 : List RegSpec := [
  ⟨0x10, [], 1, [⟨8, 8, .ro, .none, 0, 0, 0xff⟩, ⟨0, 8, .ro, .none, 0, 0, 0xff⟩]⟩,
  ⟨0x14, [], 1, [⟨0, 4, .w1c, .none, 0, 0, 0xf⟩]⟩,
  ⟨0x18, [], 1, [⟨0, 32, .rc, .none, 0, 0, 0xffffffff⟩]⟩,
  ⟨0x1c, [], 1, [⟨0, 32, .rc, .none, 0, 0, 0xffffffff⟩]⟩,
  ⟨0x100, [(8, 0x20)], 1, [⟨24, 8, .ro, .none, 0, 0, 0xff⟩, ⟨16, 8, .ro, .none, 0, 0, 0xff⟩, ⟨8, 8, .ro, .none, 0, 0, 0xff⟩, ⟨0, 8, .ro, .none, 0, 0, 0xff⟩]⟩,
  ⟨0x104, [(8, 0x20)], 1, [⟨0, 32, .ro, .none, 0, 0, 0xffffffff⟩]⟩,
  ⟨0x108, [(8, 0x20)], 1, [⟨0, 32, .ro, .none, 0, 0, 0xffffffff⟩]⟩,
  ⟨0x10c, [(8, 0x20)], 1, [⟨0, 32, .ro, .none, 0, 0, 0xffffffff⟩]⟩,
  ⟨0x110, [(8, 0x20)], 1, [⟨0, 32, .ro, .none, 0, 0, 0xffffffff⟩]⟩,
  ⟨0x114, [(8, 0x20)], 1, [⟨0, 32, .ro, .none, 0, 0, 0xffffffff⟩]⟩,
  ⟨0x118, [(8, 0x20)], 1, [⟨0, 32, .ro, .none, 0, 0, 0xffffffff⟩]⟩]

/-- Registers of FIJ. -/
def specsFIJ : List RegSpec := specsFIJ0

/-- Registers of EVT (R65), part 0: CTRL, ALERT_STATE, BADACC, BADACC_CNT, SRC, FLAGS. -/
def specsEVT0 : List RegSpec := [
  ⟨0x10, [], 1, [⟨0, 3, .rw, .l, 3, 1, 4⟩]⟩,
  ⟨0x14, [], 1, [⟨31, 1, .ro, .none, 0, 0, 1⟩, ⟨16, 11, .ro, .none, 0, 0, 0x7ff⟩, ⟨0, 16, .ro, .none, 0, 0, 0xffff⟩]⟩,
  ⟨0x18, [], 1, [⟨31, 1, .rc, .none, 0, 0, 1⟩, ⟨29, 2, .rc, .none, 0, 0, 3⟩, ⟨0, 21, .rc, .none, 0, 0, 0x1fffff⟩]⟩,
  ⟨0x1c, [], 1, [⟨0, 32, .rc, .none, 0, 0, 0xffffffff⟩]⟩,
  ⟨0x1000, [(1472, 4)], 1, [⟨13, 1, .ro, .none, 0, 0, 1⟩, ⟨12, 1, .rw, .l, 0, 0, 1⟩, ⟨11, 1, .rw, .l, 0, 0, 1⟩, ⟨0, 11, .rw, .l, 0, 0, 0x7ff⟩]⟩,
  ⟨0x3000, [(46, 4)], 1, [⟨0, 32, .ro, .none, 0, 0, 0xffffffff⟩]⟩]

/-- Registers of EVT. -/
def specsEVT : List RegSpec := specsEVT0

/-- The registers of block k beyond the common four (R44); none for a reserved block. -/
def blockSpecs : Nat → List RegSpec
  | 0 => specsGLB
  | 1 => specsKPR
  | 2 => specsHIF
  | 3 => specsSLC
  | 4 => specsTIM
  | 5 => specsRTC
  | 6 => specsMAC
  | 7 => specsSWC
  | 8 => specsSVI
  | 9 => specsROD
  | 10 => specsBEAM
  | 11 => specsPAIR
  | 12 => specsPUB
  | 13 => specsCLE
  | 14 => specsMOD
  | 15 => specsADC
  | 16 => specsAQE
  | 17 => specsNRG
  | 18 => specsLCE
  | 19 => specsRCK
  | 20 => specsKEY
  | 21 => specsTMP
  | 22 => specsPER
  | 23 => specsTLY
  | 24 => specsFIJ
  | 25 => specsEVT
  | _ => []

/-- Registers of block k without an RC field that have a field named COUNT (R697): offset and index dimensions. -/
def countRegs : Nat → List (Nat × List (Nat × Nat))
  | 2 => [(0x100c, [(1024, 0x10)])]
  | 5 => [(0x2c, [])]
  | 6 => [(0x1100, [(14, 0x1000)]), (0x1108, [(14, 0x1000)]), (0x1110, [(14, 0x1000)]), (0x1118, [(14, 0x1000)])]
  | 7 => [(0x2c, []), (0x30, []), (0x34, [])]
  | 8 => [(0x40, []), (0x48, []), (0x50, []), (0x58, []), (0x60, []), (0x68, []), (0x70, []), (0x78, [])]
  | 10 => [(0x20, [])]
  | 13 => [(0x3c, [])]
  | 17 => [(0x208, [(4, 0x20)]), (0x20c, [(4, 0x20)])]
  | 18 => [(0x1c, [])]
  | 22 => [(0x18, []), (0x104, [(9, 0x10)])]
  | 23 => [(0x18, []), (0x1c, [])]
  | 24 => [(0x10c, [(8, 0x20)])]
  | _ => []

end Sys2Proof.Machine
end

