-- ==== Sys2Proof/Machine/Regs.lean ====
section
/-! DEFINITION. The named fields of the BAR0 registers, one definition per field of a register
table of the spec (rules R59, R65, R124, R126, R155, R184, R209, R231, R260-R262, R291, R321, R350,
R419, R457, R474, R498, R518, R521, R553, R575, R595, R628, R656, R659, R681, R684, R702). A field
is a BAR0 byte address (block id x 0x10000 plus its offset, R44), a lowest bit and a width. -/

namespace Sys2Proof.Machine.Reg

def GLB_STATE_PREV : Field := ⟨0x10, 8, 4⟩
def GLB_STATE_SAFECUST : Field := ⟨0x10, 7, 1⟩
def GLB_STATE_HEALTH : Field := ⟨0x10, 4, 3⟩
def GLB_STATE_STATE : Field := ⟨0x10, 0, 4⟩
def GLB_STATUS_REVTRIAL : Field := ⟨0x14, 6, 1⟩
def GLB_STATUS_PEER : Field := ⟨0x14, 5, 1⟩
def GLB_STATUS_HOLD : Field := ⟨0x14, 4, 1⟩
def GLB_STATUS_PARTNER : Field := ⟨0x14, 3, 1⟩
def GLB_STATUS_INJECT : Field := ⟨0x14, 2, 1⟩
def GLB_STATUS_FORCED : Field := ⟨0x14, 1, 1⟩
def GLB_STATUS_KEEPCUST : Field := ⟨0x14, 0, 1⟩
def GLB_RESET_CAUSE_GLITCH_CNT : Field := ⟨0x18, 16, 16⟩
def GLB_RESET_CAUSE_HOST : Field := ⟨0x18, 5, 1⟩
def GLB_RESET_CAUSE_COMMAND : Field := ⟨0x18, 4, 1⟩
def GLB_RESET_CAUSE_LOCKSTEP : Field := ⟨0x18, 3, 1⟩
def GLB_RESET_CAUSE_WATCHDOG : Field := ⟨0x18, 2, 1⟩
def GLB_RESET_CAUSE_PIN : Field := ⟨0x18, 1, 1⟩
def GLB_RESET_CAUSE_POWER : Field := ⟨0x18, 0, 1⟩
def GLB_RESET_CTRL_KEY : Field := ⟨0x1c, 16, 16⟩
def GLB_RESET_CTRL_RESET : Field := ⟨0x1c, 0, 1⟩
def GLB_STRAPS_PAIR_POS : Field := ⟨0x20, 5, 1⟩
def GLB_STRAPS_SLOT_ID : Field := ⟨0x20, 0, 5⟩
def GLB_BOOT_TIME_TO_READY : Field := ⟨0x24, 16, 16⟩
def GLB_BOOT_TIME_TO_SYNC : Field := ⟨0x24, 0, 16⟩
def GLB_SAFE_REASON : Field := ⟨0x28, 24, 8⟩
def GLB_SAFE_SOURCE : Field := ⟨0x28, 16, 8⟩
def GLB_SAFE_FCODE : Field := ⟨0x28, 0, 16⟩
def GLB_SERVICE_LIMIT : Field := ⟨0x2c, 0, 11⟩
def GLB_CFG_ACTIVE_REV : Field := ⟨0x30, 0, 32⟩
def GLB_CFG_PENDING_REV : Field := ⟨0x34, 0, 32⟩
def GLB_CFG_PREVIOUS_REV : Field := ⟨0x38, 0, 32⟩
def GLB_TEMP_DIE : Field := ⟨0x3c, 16, 16⟩
def GLB_TEMP_PLATE : Field := ⟨0x3c, 0, 16⟩
def GLB_EVT_flags : Field := ⟨0x40, 0, 8⟩
def KPR_FW_VERSION_MAJOR : Field := ⟨0x10010, 24, 8⟩
def KPR_FW_VERSION_MINOR : Field := ⟨0x10010, 16, 8⟩
def KPR_FW_VERSION_PATCH : Field := ⟨0x10010, 0, 16⟩
def KPR_SVN_SVN : Field := ⟨0x10014, 0, 16⟩
def KPR_BOOT_FAIL_CODE : Field := ⟨0x10018, 16, 16⟩
def KPR_BOOT_FAIL_STEP : Field := ⟨0x10018, 8, 4⟩
def KPR_BOOT_BANK : Field := ⟨0x10018, 4, 4⟩
def KPR_BOOT_STAGE : Field := ⟨0x10018, 0, 4⟩
def KPR_SELFTEST_PASS : Field := ⟨0x1001c, 0, 9⟩
def KPR_EVT_flags : Field := ⟨0x10020, 0, 4⟩
def KPR_MEAS_WORD (i j : Nat) : Field := ⟨(0x10100 + 0x40 * i + 4 * j), 0, 32⟩
def HIF_LINK_PASID_EN : Field := ⟨0x20010, 9, 1⟩
def HIF_LINK_BME : Field := ⟨0x20010, 8, 1⟩
def HIF_LINK_WIDTH : Field := ⟨0x20010, 4, 4⟩
def HIF_LINK_SPEED : Field := ⟨0x20010, 0, 4⟩
def HIF_EVT_flags : Field := ⟨0x20014, 0, 4⟩
def HIF_RINGS_ENABLED : Field := ⟨0x20018, 0, 11⟩
def HIF_DB_BAD_RING : Field := ⟨0x2001c, 16, 10⟩
def HIF_DB_BAD_COUNT : Field := ⟨0x2001c, 0, 16⟩
def HIF_DB_STRAY_SLICE : Field := ⟨0x20020, 16, 8⟩
def HIF_DB_STRAY_COUNT : Field := ⟨0x20020, 0, 16⟩
def HIF_RX_NORING_SLICE : Field := ⟨0x20024, 16, 8⟩
def HIF_RX_NORING_COUNT : Field := ⟨0x20024, 0, 16⟩
def HIF_DMAERR_LO_ADDR : Field := ⟨0x20028, 0, 32⟩
def HIF_DMAERR_HI_ADDR : Field := ⟨0x2002c, 0, 32⟩
def HIF_DMAERR_INFO_RING : Field := ⟨0x20030, 16, 10⟩
def HIF_DMAERR_INFO_KIND : Field := ⟨0x20030, 0, 4⟩
def HIF_RING_EVT_flags (i : Nat) : Field := ⟨(0x20100 + 4 * i), 0, 32⟩
def HIF_RING_BASE_LO_ADDR (i : Nat) : Field := ⟨(0x21000 + 0x10 * i), 12, 20⟩
def HIF_RING_BASE_LO_LOCAL (i : Nat) : Field := ⟨(0x21000 + 0x10 * i), 6, 6⟩
def HIF_RING_BASE_HI_ADDR (i : Nat) : Field := ⟨(0x21004 + 0x10 * i), 0, 32⟩
def HIF_RING_CFG_EN (i : Nat) : Field := ⟨(0x21008 + 0x10 * i), 31, 1⟩
def HIF_RING_CFG_TYPE (i : Nat) : Field := ⟨(0x21008 + 0x10 * i), 28, 3⟩
def HIF_RING_CFG_LOG2SIZE (i : Nat) : Field := ⟨(0x21008 + 0x10 * i), 24, 4⟩
def HIF_RING_CFG_SLICE (i : Nat) : Field := ⟨(0x21008 + 0x10 * i), 16, 8⟩
def HIF_RING_CFG_TC (i : Nat) : Field := ⟨(0x21008 + 0x10 * i), 13, 3⟩
def HIF_RING_CFG_LOWMARK8 (i : Nat) : Field := ⟨(0x21008 + 0x10 * i), 0, 12⟩
def HIF_RING_COAL_USEC (i : Nat) : Field := ⟨(0x2100c + 0x10 * i), 16, 16⟩
def HIF_RING_COAL_COUNT (i : Nat) : Field := ⟨(0x2100c + 0x10 * i), 0, 16⟩
def HIF_RING_PTR_MOD (i : Nat) : Field := ⟨(0x25000 + 8 * i), 16, 16⟩
def HIF_RING_PTR_HOST (i : Nat) : Field := ⟨(0x25000 + 8 * i), 0, 16⟩
def HIF_RING_RSTAT_INFLIGHT (i : Nat) : Field := ⟨(0x25004 + 8 * i), 16, 16⟩
def HIF_RING_RSTAT_CMDBUSY (i : Nat) : Field := ⟨(0x25004 + 8 * i), 4, 1⟩
def HIF_RING_RSTAT_DMAERR (i : Nat) : Field := ⟨(0x25004 + 8 * i), 3, 1⟩
def HIF_RING_RSTAT_BP (i : Nat) : Field := ⟨(0x25004 + 8 * i), 2, 1⟩
def HIF_RING_RSTAT_STARVED (i : Nat) : Field := ⟨(0x25004 + 8 * i), 1, 1⟩
def HIF_RING_RSTAT_ACTIVE (i : Nat) : Field := ⟨(0x25004 + 8 * i), 0, 1⟩
def HIF_RING_CNT_NOBUF_TRUNC (i : Nat) : Field := ⟨(0x27000 + 4 * i), 16, 16⟩
def HIF_RING_CNT_DROP (i : Nat) : Field := ⟨(0x27000 + 4 * i), 0, 16⟩
def SLC_EVT_flags : Field := ⟨0x30010, 0, 8⟩
def SLC_POOL_SLOTS_FREE : Field := ⟨0x30014, 16, 11⟩
def SLC_POOL_RINGS_FREE : Field := ⟨0x30014, 0, 11⟩
def SLC_HO_STATUS_SLICE : Field := ⟨0x30018, 24, 8⟩
def SLC_HO_STATUS_PHASE : Field := ⟨0x30018, 20, 4⟩
def SLC_HO_STATUS_REASON : Field := ⟨0x30018, 16, 4⟩
def SLC_HO_STATUS_MATCHED : Field := ⟨0x30018, 0, 16⟩
def SLC_HO_CFG_RECOPY : Field := ⟨0x3001c, 8, 8⟩
def SLC_HO_CFG_LEAD : Field := ⟨0x3001c, 0, 8⟩
def SLC_SLICE_ID_VALID (i : Nat) : Field := ⟨(0x31000 + 0x40 * i), 31, 1⟩
def SLC_SLICE_ID_PROT (i : Nat) : Field := ⟨(0x31000 + 0x40 * i), 30, 1⟩
def SLC_SLICE_ID_INJECT (i : Nat) : Field := ⟨(0x31000 + 0x40 * i), 29, 1⟩
def SLC_SLICE_ID_MINT (i : Nat) : Field := ⟨(0x31000 + 0x40 * i), 28, 1⟩
def SLC_SLICE_ID_PASID (i : Nat) : Field := ⟨(0x31000 + 0x40 * i), 0, 20⟩
def SLC_SLICE_QA_SVSUB (i : Nat) : Field := ⟨(0x31004 + 0x40 * i), 18, 10⟩
def SLC_SLICE_QA_SLOTS (i : Nat) : Field := ⟨(0x31004 + 0x40 * i), 7, 11⟩
def SLC_SLICE_QA_RINGS (i : Nat) : Field := ⟨(0x31004 + 0x40 * i), 0, 7⟩
def SLC_SLICE_QB_GOSUB (i : Nat) : Field := ⟨(0x31008 + 0x40 * i), 10, 11⟩
def SLC_SLICE_QB_GOCB (i : Nat) : Field := ⟨(0x31008 + 0x40 * i), 0, 10⟩
def SLC_SLICE_QC_RECB (i : Nat) : Field := ⟨(0x3100c + 0x40 * i), 13, 14⟩
def SLC_SLICE_QC_RECA (i : Nat) : Field := ⟨(0x3100c + 0x40 * i), 0, 13⟩
def SLC_SLICE_QD_KEYS (i : Nat) : Field := ⟨(0x31010 + 0x40 * i), 0, 11⟩
def SLC_SLICE_RCKR_NODE_COUNT (i : Nat) : Field := ⟨(0x31014 + 0x40 * i), 16, 13⟩
def SLC_SLICE_RCKR_NODE_BASE (i : Nat) : Field := ⟨(0x31014 + 0x40 * i), 0, 12⟩
def SLC_SLICE_DRAMW_SIZE (i : Nat) : Field := ⟨(0x31018 + 0x40 * i), 16, 13⟩
def SLC_SLICE_DRAMW_BASE (i : Nat) : Field := ⟨(0x31018 + 0x40 * i), 0, 12⟩
def SLC_SLICE_VEC_VCOUNT (i : Nat) : Field := ⟨(0x3101c + 0x40 * i), 12, 12⟩
def SLC_SLICE_VEC_VBASE (i : Nat) : Field := ⟨(0x3101c + 0x40 * i), 0, 11⟩
def SLC_SLICE_EGRESS_TCS (i : Nat) : Field := ⟨(0x31020 + 0x40 * i), 16, 8⟩
def SLC_SLICE_EGRESS_FWD (i : Nat) : Field := ⟨(0x31020 + 0x40 * i), 12, 1⟩
def SLC_SLICE_EGRESS_PORTS (i : Nat) : Field := ⟨(0x31020 + 0x40 * i), 0, 12⟩
def SLC_SLICE_DMA_CAP (i : Nat) : Field := ⟨(0x31024 + 0x40 * i), 8, 8⟩
def SLC_SLICE_DMA_WEIGHT (i : Nat) : Field := ⟨(0x31024 + 0x40 * i), 0, 8⟩
def SLC_SLICE_STATE_MIG (i : Nat) : Field := ⟨(0x31028 + 0x40 * i), 0, 4⟩
def SLC_SLICE_UA_USED (i : Nat) : Field := ⟨(0x3102c + 0x40 * i), 0, 32⟩
def SLC_SLICE_UB_USED (i : Nat) : Field := ⟨(0x31030 + 0x40 * i), 0, 32⟩
def SLC_SLICE_UC_USED (i : Nat) : Field := ⟨(0x31034 + 0x40 * i), 0, 32⟩
def SLC_SLICE_UD_USED (i : Nat) : Field := ⟨(0x31038 + 0x40 * i), 0, 32⟩
def SLC_SLICE_DSID_DSID (i : Nat) : Field := ⟨(0x3103c + 0x40 * i), 0, 32⟩
def TIM_CTRL_REF_EN : Field := ⟨0x40010, 1, 1⟩
def TIM_CTRL_RUN : Field := ⟨0x40010, 0, 1⟩
def TIM_STATUS_HOLD_SECS : Field := ⟨0x40014, 16, 16⟩
def TIM_STATUS_INCR_CLAMP : Field := ⟨0x40014, 11, 1⟩
def TIM_STATUS_UNTRUSTED : Field := ⟨0x40014, 10, 1⟩
def TIM_STATUS_STEP_REFUSED : Field := ⟨0x40014, 9, 1⟩
def TIM_STATUS_STEP_PEND : Field := ⟨0x40014, 8, 1⟩
def TIM_STATUS_PPS_IN_OK : Field := ⟨0x40014, 7, 1⟩
def TIM_STATUS_REF_OK : Field := ⟨0x40014, 6, 1⟩
def TIM_STATUS_SRC : Field := ⟨0x40014, 5, 1⟩
def TIM_STATUS_LOCKSRC : Field := ⟨0x40014, 4, 1⟩
def TIM_STATUS_CLASS : Field := ⟨0x40014, 0, 3⟩
def TIM_INCR_LO_FRAC : Field := ⟨0x40018, 0, 32⟩
def TIM_INCR_HI_INT : Field := ⟨0x4001c, 0, 8⟩
def TIM_TIME_NS_NS : Field := ⟨0x40020, 0, 30⟩
def TIM_TIME_SEC_LO_SEC : Field := ⟨0x40024, 0, 32⟩
def TIM_TIME_SEC_HI_SEC : Field := ⟨0x40028, 0, 16⟩
def TIM_STEP_LO_NS : Field := ⟨0x4002c, 0, 32⟩
def TIM_STEP_HI_NS : Field := ⟨0x40030, 0, 32⟩
def TIM_HOLD_MAX_SECS : Field := ⟨0x40034, 0, 17⟩
def TIM_PTP_CFG_DOMAIN : Field := ⟨0x40038, 24, 8⟩
def TIM_PTP_CFG_LOG_SYNC : Field := ⟨0x40038, 20, 4⟩
def TIM_PTP_CFG_ANN_TIMEOUT : Field := ⟨0x40038, 16, 4⟩
def TIM_PTP_CFG_PPS_DISC : Field := ⟨0x40038, 10, 1⟩
def TIM_PTP_CFG_ONESTEP : Field := ⟨0x40038, 9, 1⟩
def TIM_PTP_CFG_BC : Field := ⟨0x40038, 8, 1⟩
def TIM_PTP_CFG_PORTS : Field := ⟨0x40038, 0, 8⟩
def TIM_PPS_QUAL : Field := ⟨0x4003c, 9, 1⟩
def TIM_PPS_WIDTH_MS : Field := ⟨0x4003c, 0, 9⟩
def TIM_PPS_IN_NS_NS : Field := ⟨0x40040, 0, 30⟩
def TIM_PPS_IN_SEC_LO_SEC : Field := ⟨0x40044, 0, 32⟩
def TIM_PPS_IN_SEC_HI_SEC : Field := ⟨0x40048, 0, 16⟩
def TIM_PPS_IN_CNT_GLITCH : Field := ⟨0x4004c, 16, 16⟩
def TIM_PPS_IN_CNT_EDGES : Field := ⟨0x4004c, 0, 16⟩
def TIM_DIEDGE_EN_FALL : Field := ⟨0x40050, 8, 8⟩
def TIM_DIEDGE_EN_RISE : Field := ⟨0x40050, 0, 8⟩
def TIM_DIEDGE_POP_VALID : Field := ⟨0x40054, 31, 1⟩
def TIM_DIEDGE_POP_INPUT : Field := ⟨0x40054, 8, 3⟩
def TIM_DIEDGE_POP_EDGE : Field := ⟨0x40054, 0, 1⟩
def TIM_DIEDGE_TS_NS_NS : Field := ⟨0x40058, 0, 30⟩
def TIM_DIEDGE_TS_SEC_LO_SEC : Field := ⟨0x4005c, 0, 32⟩
def TIM_DIEDGE_TS_SEC_HI_SEC : Field := ⟨0x40060, 0, 16⟩
def TIM_DIEDGE_STAT_LOST : Field := ⟨0x40064, 16, 16⟩
def TIM_DIEDGE_STAT_LEVEL : Field := ⟨0x40064, 0, 7⟩
def TIM_EVT_flags : Field := ⟨0x40068, 0, 8⟩
def TIM_SERVO_OFS_OFS : Field := ⟨0x4006c, 0, 32⟩
def TIM_SERVO_MPD_MPD : Field := ⟨0x40070, 0, 32⟩
def TIM_PTP_STATE_PARENT : Field := ⟨0x40074, 16, 8⟩
def TIM_PTP_STATE_PORT_ST : Field := ⟨0x40074, 0, 16⟩
def TIM_PORT_LAT_TX_LAT (i : Nat) : Field := ⟨(0x41000 + 0x80 * i), 0, 32⟩
def TIM_PORT_LAT_RX_LAT (i : Nat) : Field := ⟨(0x41004 + 0x80 * i), 0, 32⟩
def TIM_PORT_ASYM_ASYM (i : Nat) : Field := ⟨(0x41008 + 0x80 * i), 0, 32⟩
def TIM_PORT_LATE_MAX_US (i : Nat) : Field := ⟨(0x4100c + 0x80 * i), 0, 10⟩
def TIM_PORT_LATE_CNT_COUNT (i : Nat) : Field := ⟨(0x41010 + 0x80 * i), 0, 32⟩
def TIM_PORT_GCL_CTRL_ADMIN_LEN (i : Nat) : Field := ⟨(0x41014 + 0x80 * i), 16, 9⟩
def TIM_PORT_GCL_CTRL_PEND (i : Nat) : Field := ⟨(0x41014 + 0x80 * i), 3, 1⟩
def TIM_PORT_GCL_CTRL_OPER (i : Nat) : Field := ⟨(0x41014 + 0x80 * i), 2, 1⟩
def TIM_PORT_GCL_CTRL_CHANGE (i : Nat) : Field := ⟨(0x41014 + 0x80 * i), 1, 1⟩
def TIM_PORT_GCL_CTRL_EN (i : Nat) : Field := ⟨(0x41014 + 0x80 * i), 0, 1⟩
def TIM_PORT_GCL_CYCLE_NS (i : Nat) : Field := ⟨(0x41018 + 0x80 * i), 0, 32⟩
def TIM_PORT_GCL_BASE_LO_NS (i : Nat) : Field := ⟨(0x4101c + 0x80 * i), 0, 32⟩
def TIM_PORT_GCL_BASE_HI_NS (i : Nat) : Field := ⟨(0x41020 + 0x80 * i), 0, 32⟩
def TIM_PORT_GCL_OPER_CYCLE_NS (i : Nat) : Field := ⟨(0x41024 + 0x80 * i), 0, 32⟩
def TIM_PORT_GCL_OPER_BASE_LO_NS (i : Nat) : Field := ⟨(0x41028 + 0x80 * i), 0, 32⟩
def TIM_PORT_GCL_OPER_BASE_HI_NS (i : Nat) : Field := ⟨(0x4102c + 0x80 * i), 0, 32⟩
def TIM_PORT_GCL_OVERSIZE_COUNT (i : Nat) : Field := ⟨(0x41030 + 0x80 * i), 0, 32⟩
def TIM_GCL_GATES (i j k : Nat) : Field := ⟨(0x42000 + 0x800 * i + 0x400 * j + 4 * k), 24, 8⟩
def TIM_GCL_INTERVAL (i j k : Nat) : Field := ⟨(0x42000 + 0x800 * i + 0x400 * j + 4 * k), 0, 24⟩
def RTC_CAL_MODE_WDAY_FREE : Field := ⟨0x50010, 1, 1⟩
def RTC_CAL_MODE_DST_EN : Field := ⟨0x50010, 0, 1⟩
def RTC_STATUS_VBK_LOW : Field := ⟨0x50014, 12, 1⟩
def RTC_STATUS_PWRON : Field := ⟨0x50014, 11, 1⟩
def RTC_STATUS_PWRON_TO : Field := ⟨0x50014, 10, 1⟩
def RTC_STATUS_ALM_FIRED : Field := ⟨0x50014, 8, 2⟩
def RTC_STATUS_ALM_LATE : Field := ⟨0x50014, 6, 2⟩
def RTC_STATUS_QFULL : Field := ⟨0x50014, 5, 1⟩
def RTC_STATUS_SYNC_BUSY : Field := ⟨0x50014, 4, 1⟩
def RTC_STATUS_REPEAT : Field := ⟨0x50014, 3, 1⟩
def RTC_STATUS_DST : Field := ⟨0x50014, 2, 1⟩
def RTC_STATUS_TIME_SET : Field := ⟨0x50014, 1, 1⟩
def RTC_STATUS_OSF : Field := ⟨0x50014, 0, 1⟩
def RTC_CAL_DATE_YEAR : Field := ⟨0x50018, 16, 11⟩
def RTC_CAL_DATE_WDAY : Field := ⟨0x50018, 12, 3⟩
def RTC_CAL_DATE_MONTH : Field := ⟨0x50018, 8, 4⟩
def RTC_CAL_DATE_DAY : Field := ⟨0x50018, 0, 5⟩
def RTC_CAL_TIME_HOUR : Field := ⟨0x5001c, 16, 5⟩
def RTC_CAL_TIME_MIN : Field := ⟨0x5001c, 8, 6⟩
def RTC_CAL_TIME_SEC : Field := ⟨0x5001c, 0, 6⟩
def RTC_CAL_SUB_SUBSEC : Field := ⟨0x50020, 0, 15⟩
def RTC_CAL_SET_SUBSEC : Field := ⟨0x50024, 16, 15⟩
def RTC_CAL_SET_SET : Field := ⟨0x50024, 0, 1⟩
def RTC_DST_CMD_CMD : Field := ⟨0x50028, 0, 2⟩
def RTC_SHIFT_SUB : Field := ⟨0x5002c, 16, 1⟩
def RTC_SHIFT_COUNT : Field := ⟨0x5002c, 0, 15⟩
def RTC_UTC_OFFSET_ZONE : Field := ⟨0x50030, 24, 8⟩
def RTC_UTC_OFFSET_LEAP : Field := ⟨0x50030, 16, 2⟩
def RTC_UTC_OFFSET_OFFSET : Field := ⟨0x50030, 0, 8⟩
def RTC_ALM_CTRL_ARM (i : Nat) : Field := ⟨(0x50048 + 0x10 * i), 31, 1⟩
def RTC_ALM_CTRL_MASK (i : Nat) : Field := ⟨(0x50048 + 0x10 * i), 0, 7⟩
def RTC_WAKE_EN : Field := ⟨0x50060, 31, 1⟩
def RTC_WAKE_BASE : Field := ⟨0x50060, 16, 2⟩
def RTC_WAKE_N : Field := ⟨0x50060, 0, 16⟩
def RTC_PWRON_CFG_SRC : Field := ⟨0x50064, 0, 5⟩
def RTC_PWRON_TIMEOUT_SECS : Field := ⟨0x50068, 0, 16⟩
def RTC_XTAL_CAP_CODE : Field := ⟨0x5006c, 0, 6⟩
def RTC_EDGE_NS_NS : Field := ⟨0x50070, 0, 30⟩
def RTC_EDGE_SEC_LO_SEC : Field := ⟨0x50074, 0, 32⟩
def RTC_EDGE_SEC_HI_SEC : Field := ⟨0x50078, 0, 16⟩
def RTC_TAMPER_VALID : Field := ⟨0x5007c, 31, 1⟩
def RTC_TAMPER_SOURCE : Field := ⟨0x5007c, 0, 8⟩
def RTC_TAMPER_SUB_SUBSEC : Field := ⟨0x50088, 0, 15⟩
def RTC_EVT_flags : Field := ⟨0x5008c, 0, 8⟩
def MAC_EVT_flags : Field := ⟨0x60010, 0, 24⟩
def MAC_CTRL_EN : Field := ⟨0x60014, 0, 1⟩
def MAC_ADDR_LO_ADDR : Field := ⟨0x60018, 0, 32⟩
def MAC_ADDR_HI_ADDR : Field := ⟨0x6001c, 0, 16⟩
def MAC_PAIR_CFG_FORGET (i : Nat) : Field := ⟨(0x60040 + 0x10 * i), 16, 12⟩
def MAC_PAIR_CFG_LIFECHECK (i : Nat) : Field := ⟨(0x60040 + 0x10 * i), 2, 14⟩
def MAC_PAIR_CFG_MODE (i : Nat) : Field := ⟨(0x60040 + 0x10 * i), 0, 2⟩
def MAC_PAIR_STAT_FULL (i : Nat) : Field := ⟨(0x60044 + 0x10 * i), 25, 1⟩
def MAC_PAIR_STAT_NODES (i : Nat) : Field := ⟨(0x60044 + 0x10 * i), 16, 9⟩
def MAC_PAIR_STAT_ENTRIES (i : Nat) : Field := ⟨(0x60044 + 0x10 * i), 0, 11⟩
def MAC_PAIR_FULL_CNT_COUNT (i : Nat) : Field := ⟨(0x60048 + 0x10 * i), 0, 32⟩
def MAC_PAIR_OOW_CNT_COUNT (i : Nat) : Field := ⟨(0x6004c + 0x10 * i), 0, 32⟩
def MACP_ENABLE_EN (i : Nat) : Field := ⟨(0x61000 + 0x1000 * i), 0, 1⟩
def MACP_CFG_OPT_ANY (i : Nat) : Field := ⟨(0x61004 + 0x1000 * i), 6, 1⟩
def MACP_CFG_AN (i : Nat) : Field := ⟨(0x61004 + 0x1000 * i), 5, 1⟩
def MACP_CFG_FEC (i : Nat) : Field := ⟨(0x61004 + 0x1000 * i), 4, 1⟩
def MACP_CFG_SPEED (i : Nat) : Field := ⟨(0x61004 + 0x1000 * i), 0, 3⟩
def MACP_STAT_MKA (i : Nat) : Field := ⟨(0x61008 + 0x1000 * i), 16, 1⟩
def MACP_STAT_PAUSED (i : Nat) : Field := ⟨(0x61008 + 0x1000 * i), 15, 1⟩
def MACP_STAT_PLCA_ST (i : Nat) : Field := ⟨(0x61008 + 0x1000 * i), 14, 1⟩
def MACP_STAT_PAUSE_RES (i : Nat) : Field := ⟨(0x61008 + 0x1000 * i), 13, 1⟩
def MACP_STAT_AN_DONE (i : Nat) : Field := ⟨(0x61008 + 0x1000 * i), 12, 1⟩
def MACP_STAT_SYNC (i : Nat) : Field := ⟨(0x61008 + 0x1000 * i), 11, 1⟩
def MACP_STAT_TX_FAULT (i : Nat) : Field := ⟨(0x61008 + 0x1000 * i), 10, 1⟩
def MACP_STAT_LOS (i : Nat) : Field := ⟨(0x61008 + 0x1000 * i), 9, 1⟩
def MACP_STAT_MOD_ABS (i : Nat) : Field := ⟨(0x61008 + 0x1000 * i), 8, 1⟩
def MACP_STAT_REASON (i : Nat) : Field := ⟨(0x61008 + 0x1000 * i), 4, 4⟩
def MACP_STAT_STATE (i : Nat) : Field := ⟨(0x61008 + 0x1000 * i), 0, 3⟩
def MACP_TIMING_UP_MS (i : Nat) : Field := ⟨(0x6100c + 0x1000 * i), 16, 10⟩
def MACP_TIMING_DN_US (i : Nat) : Field := ⟨(0x6100c + 0x1000 * i), 0, 10⟩
def MACP_ERR_LIMIT_FCS (i : Nat) : Field := ⟨(0x61010 + 0x1000 * i), 0, 16⟩
def MACP_FC_PFC_OBEY (i : Nat) : Field := ⟨(0x61014 + 0x1000 * i), 16, 8⟩
def MACP_FC_PFC_GEN (i : Nat) : Field := ⟨(0x61014 + 0x1000 * i), 8, 4⟩
def MACP_FC_OBEY (i : Nat) : Field := ⟨(0x61014 + 0x1000 * i), 2, 1⟩
def MACP_FC_MODE (i : Nat) : Field := ⟨(0x61014 + 0x1000 * i), 0, 2⟩
def MACP_FC_MARK_LO (i : Nat) : Field := ⟨(0x61018 + 0x1000 * i), 16, 16⟩
def MACP_FC_MARK_HI (i : Nat) : Field := ⟨(0x61018 + 0x1000 * i), 0, 16⟩
def MACP_FC_QUANTA_QUANTA (i : Nat) : Field := ⟨(0x6101c + 0x1000 * i), 0, 16⟩
def MACP_MACSEC_CAK_SLOT (i : Nat) : Field := ⟨(0x61020 + 0x1000 * i), 16, 10⟩
def MACP_MACSEC_KS_PRIO (i : Nat) : Field := ⟨(0x61020 + 0x1000 * i), 4, 8⟩
def MACP_MACSEC_BYPASS_LLDP (i : Nat) : Field := ⟨(0x61020 + 0x1000 * i), 3, 1⟩
def MACP_MACSEC_BYPASS_PTP (i : Nat) : Field := ⟨(0x61020 + 0x1000 * i), 2, 1⟩
def MACP_MACSEC_REPLAY (i : Nat) : Field := ⟨(0x61020 + 0x1000 * i), 1, 1⟩
def MACP_MACSEC_EN (i : Nat) : Field := ⟨(0x61020 + 0x1000 * i), 0, 1⟩
def MACP_MACSEC_WIN_WINDOW (i : Nat) : Field := ⟨(0x61024 + 0x1000 * i), 0, 30⟩
def MACP_CAUSE_causes (i : Nat) : Field := ⟨(0x61028 + 0x1000 * i), 0, 12⟩
def MACP_OPTICS_DDM (i : Nat) : Field := ⟨(0x6102c + 0x1000 * i), 24, 1⟩
def MACP_OPTICS_PWR_DECL (i : Nat) : Field := ⟨(0x6102c + 0x1000 * i), 16, 8⟩
def MACP_OPTICS_TEMP (i : Nat) : Field := ⟨(0x6102c + 0x1000 * i), 0, 16⟩
def MACP_OPT_PWR_TX (i : Nat) : Field := ⟨(0x61030 + 0x1000 * i), 16, 16⟩
def MACP_OPT_PWR_RX (i : Nat) : Field := ⟨(0x61030 + 0x1000 * i), 0, 16⟩
def MACP_T1S_BURST_TMR (i : Nat) : Field := ⟨(0x61034 + 0x1000 * i), 24, 8⟩
def MACP_T1S_BURST_CNT (i : Nat) : Field := ⟨(0x61034 + 0x1000 * i), 16, 8⟩
def MACP_T1S_TO_TIMER (i : Nat) : Field := ⟨(0x61034 + 0x1000 * i), 8, 8⟩
def MACP_T1S_NODE_CNT (i : Nat) : Field := ⟨(0x61034 + 0x1000 * i), 4, 4⟩
def MACP_T1S_NODE_ID (i : Nat) : Field := ⟨(0x61034 + 0x1000 * i), 1, 3⟩
def MACP_T1S_PLCA_EN (i : Nat) : Field := ⟨(0x61034 + 0x1000 * i), 0, 1⟩
def MACP_RX_FRAMES_COUNT (i : Nat) : Field := ⟨(0x61100 + 0x1000 * i), 0, 64⟩
def MACP_RX_OCTETS_COUNT (i : Nat) : Field := ⟨(0x61108 + 0x1000 * i), 0, 64⟩
def MACP_TX_FRAMES_COUNT (i : Nat) : Field := ⟨(0x61110 + 0x1000 * i), 0, 64⟩
def MACP_TX_OCTETS_COUNT (i : Nat) : Field := ⟨(0x61118 + 0x1000 * i), 0, 64⟩
def MACP_FCS_ERR_COUNT (i : Nat) : Field := ⟨(0x61120 + 0x1000 * i), 0, 32⟩
def MACP_LEN_ERR_COUNT (i : Nat) : Field := ⟨(0x61124 + 0x1000 * i), 0, 32⟩
def MACP_CTL_RX_PFC (i : Nat) : Field := ⟨(0x61128 + 0x1000 * i), 16, 16⟩
def MACP_CTL_RX_PAUSE (i : Nat) : Field := ⟨(0x61128 + 0x1000 * i), 0, 16⟩
def MACP_CTL_TX_PFC (i : Nat) : Field := ⟨(0x6112c + 0x1000 * i), 16, 16⟩
def MACP_CTL_TX_PAUSE (i : Nat) : Field := ⟨(0x6112c + 0x1000 * i), 0, 16⟩
def MACP_CTRL_BAD_COUNT (i : Nat) : Field := ⟨(0x61130 + 0x1000 * i), 0, 32⟩
def MACP_DUP_DISCARD_COUNT (i : Nat) : Field := ⟨(0x61134 + 0x1000 * i), 0, 32⟩
def MACP_LAN_ERR_COUNT (i : Nat) : Field := ⟨(0x61138 + 0x1000 * i), 0, 32⟩
def MACP_COLL_EXCESS (i : Nat) : Field := ⟨(0x6113c + 0x1000 * i), 24, 8⟩
def MACP_COLL_LATE (i : Nat) : Field := ⟨(0x6113c + 0x1000 * i), 16, 8⟩
def MACP_COLL_COLL (i : Nat) : Field := ⟨(0x6113c + 0x1000 * i), 0, 16⟩
def MACP_FEC_CORR_COUNT (i : Nat) : Field := ⟨(0x61140 + 0x1000 * i), 0, 32⟩
def MACP_FEC_UNCORR_COUNT (i : Nat) : Field := ⟨(0x61144 + 0x1000 * i), 0, 32⟩
def MACP_MACSEC_BAD_COUNT (i : Nat) : Field := ⟨(0x61148 + 0x1000 * i), 0, 32⟩
def MACP_MACSEC_NOSA_COUNT (i : Nat) : Field := ⟨(0x6114c + 0x1000 * i), 0, 32⟩
def MACP_MACSEC_LATE_COUNT (i : Nat) : Field := ⟨(0x61150 + 0x1000 * i), 0, 32⟩
def MACP_LINK_DOWNS_COUNT (i : Nat) : Field := ⟨(0x61154 + 0x1000 * i), 0, 32⟩
def SWC_EVT_flags : Field := ⟨0x70010, 0, 8⟩
def SWC_CTRL_EN : Field := ⟨0x70014, 0, 1⟩
def SWC_RESEQ_TIMEOUT : Field := ⟨0x70018, 0, 8⟩
def SWC_HOLD_LINK_HOLD : Field := ⟨0x7001c, 0, 8⟩
def SWC_TRIP_AGE_US : Field := ⟨0x70020, 0, 14⟩
def SWC_RESV_A_TC6 : Field := ⟨0x70024, 16, 16⟩
def SWC_RESV_A_TC7 : Field := ⟨0x70024, 0, 16⟩
def SWC_RESV_B_TC4 : Field := ⟨0x70028, 16, 16⟩
def SWC_RESV_B_TC5 : Field := ⟨0x70028, 0, 16⟩
def SWC_BEADS_FREE_COUNT : Field := ⟨0x7002c, 0, 17⟩
def SWC_BEADS_QUEUED_COUNT : Field := ⟨0x70030, 0, 17⟩
def SWC_BEADS_INFLIGHT_COUNT : Field := ⟨0x70034, 0, 17⟩
def SWC_AUDIT_DOUBLE : Field := ⟨0x70038, 16, 16⟩
def SWC_AUDIT_LEAK_CNT : Field := ⟨0x70038, 0, 16⟩
def SWC_LAST_LEAK_BEAD : Field := ⟨0x7003c, 0, 16⟩
def SWC_PCP_MAP_MAP : Field := ⟨0x70040, 0, 16⟩
def SWC_FLOOD_HOST : Field := ⟨0x70044, 17, 1⟩
def SWC_FLOOD_PORTS : Field := ⟨0x70044, 0, 17⟩
def SWC_PLANES_UP : Field := ⟨0x70048, 0, 2⟩
def SWC_FDB_CMD_OP : Field := ⟨0x70100, 30, 2⟩
def SWC_FDB_CMD_INDEX : Field := ⟨0x70100, 0, 12⟩
def SWC_FDB_KEY_LO_ADDR : Field := ⟨0x70104, 0, 32⟩
def SWC_FDB_KEY_HI_VALID : Field := ⟨0x70108, 31, 1⟩
def SWC_FDB_KEY_HI_VID : Field := ⟨0x70108, 16, 12⟩
def SWC_FDB_KEY_HI_ADDR : Field := ⟨0x70108, 0, 16⟩
def SWC_FDB_DEST_SLICE : Field := ⟨0x7010c, 18, 8⟩
def SWC_FDB_DEST_HOST : Field := ⟨0x7010c, 17, 1⟩
def SWC_FDB_DEST_PORTS : Field := ⟨0x7010c, 0, 17⟩
def SWC_WRED_TH_MAX (i : Nat) : Field := ⟨(0x70200 + 8 * i), 16, 16⟩
def SWC_WRED_TH_MIN (i : Nat) : Field := ⟨(0x70200 + 8 * i), 0, 16⟩
def SWC_WRED_P_W (i : Nat) : Field := ⟨(0x70204 + 8 * i), 8, 4⟩
def SWC_WRED_P_MAXP (i : Nat) : Field := ⟨(0x70204 + 8 * i), 0, 8⟩
def SWC_METER_CIR_RED_DROP (i : Nat) : Field := ⟨(0x70400 + 0x10 * i), 31, 1⟩
def SWC_METER_CIR_RATE (i : Nat) : Field := ⟨(0x70400 + 0x10 * i), 0, 19⟩
def SWC_METER_PIR_RATE (i : Nat) : Field := ⟨(0x70404 + 0x10 * i), 0, 19⟩
def SWC_METER_CBS_BYTES (i : Nat) : Field := ⟨(0x70408 + 0x10 * i), 0, 24⟩
def SWC_METER_PBS_BYTES (i : Nat) : Field := ⟨(0x7040c + 0x10 * i), 0, 24⟩
def SWC_PORT_ING_OCC (i : Nat) : Field := ⟨(0x71000 + 0x40 * i), 16, 16⟩
def SWC_PORT_ING_LIMIT (i : Nat) : Field := ⟨(0x71000 + 0x40 * i), 0, 16⟩
def SWC_PORT_EGR_PFC_REQ (i : Nat) : Field := ⟨(0x71004 + 0x40 * i), 17, 1⟩
def SWC_PORT_EGR_HOLD (i : Nat) : Field := ⟨(0x71004 + 0x40 * i), 16, 1⟩
def SWC_PORT_EGR_QLIM (i : Nat) : Field := ⟨(0x71004 + 0x40 * i), 0, 16⟩
def SWC_PORT_DWRR_W3 (i : Nat) : Field := ⟨(0x71008 + 0x40 * i), 0, 32⟩
def SWC_PORT_CLASS_DEF_TC (i : Nat) : Field := ⟨(0x7100c + 0x40 * i), 0, 2⟩
def SWC_PORT_METER_SEL3 (i : Nat) : Field := ⟨(0x71010 + 0x40 * i), 0, 32⟩
def SWC_PORT_ING_DROP_COUNT (i : Nat) : Field := ⟨(0x71014 + 0x40 * i), 0, 32⟩
def SWC_PORT_RED_DROP_COUNT (i : Nat) : Field := ⟨(0x71018 + 0x40 * i), 0, 32⟩
def SWC_PORT_WRED_DROP_COUNT (i : Nat) : Field := ⟨(0x7101c + 0x40 * i), 0, 32⟩
def SWC_PORT_QFULL_DROP_COUNT (i : Nat) : Field := ⟨(0x71020 + 0x40 * i), 0, 32⟩
def SWC_PORT_EG_DOWN_COUNT (i : Nat) : Field := ⟨(0x71024 + 0x40 * i), 0, 32⟩
def SWC_PORT_EXPIRED_COUNT (i : Nat) : Field := ⟨(0x71028 + 0x40 * i), 0, 32⟩
def SWC_PORT_PORT_FLUSH_COUNT (i : Nat) : Field := ⟨(0x7102c + 0x40 * i), 0, 32⟩
def SWC_PORT_RESEQ_LATE (i : Nat) : Field := ⟨(0x71030 + 0x40 * i), 16, 16⟩
def SWC_PORT_RESEQ_LOST (i : Nat) : Field := ⟨(0x71030 + 0x40 * i), 0, 16⟩
def SVI_CTRL_EN : Field := ⟨0x80010, 0, 1⟩
def SVI_CFG_REL_OFFSET : Field := ⟨0x80014, 2, 12⟩
def SVI_CFG_RATE : Field := ⟨0x80014, 0, 2⟩
def SVI_STATUS_OPEN : Field := ⟨0x80018, 26, 6⟩
def SVI_STATUS_SUBS : Field := ⟨0x80018, 16, 10⟩
def SVI_STATUS_CHANNELS : Field := ⟨0x80018, 3, 13⟩
def SVI_STATUS_ALIGN_FAULT : Field := ⟨0x80018, 0, 1⟩
def SVI_EVT_flags : Field := ⟨0x8001c, 0, 8⟩
def SVI_IMG_SIZE_BYTES : Field := ⟨0x80020, 0, 17⟩
def SVI_LAST_TICK_LO_TICK : Field := ⟨0x80024, 0, 32⟩
def SVI_LAST_TICK_HI_TICK : Field := ⟨0x80028, 0, 32⟩
def SVI_DISCARDED_COUNT : Field := ⟨0x8002c, 0, 32⟩
def SVI_MISMATCH_COUNT : Field := ⟨0x80030, 0, 32⟩
def SVI_GSUB_CMD_OP : Field := ⟨0x80034, 30, 2⟩
def SVI_GSUB_CMD_INDEX : Field := ⟨0x80034, 0, 10⟩
def SVI_USED_COUNT : Field := ⟨0x80040, 0, 64⟩
def SVI_DUPLICATE_COUNT : Field := ⟨0x80048, 0, 64⟩
def SVI_LATE_COUNT : Field := ⟨0x80050, 0, 64⟩
def SVI_INVALID_COUNT : Field := ⟨0x80058, 0, 64⟩
def SVI_UNEXPECTED_COUNT : Field := ⟨0x80060, 0, 64⟩
def SVI_EXPECTED_COUNT : Field := ⟨0x80068, 0, 64⟩
def SVI_MISSING_COUNT : Field := ⟨0x80070, 0, 64⟩
def SVI_HELD_COUNT : Field := ⟨0x80078, 0, 32⟩
def SVI_GOOSE_RX_COUNT : Field := ⟨0x80080, 0, 32⟩
def SVI_GOOSE_BAD_COUNT : Field := ⟨0x80084, 0, 32⟩
def SVI_GOOSE_OLD_COUNT : Field := ⟨0x80088, 0, 32⟩
def SVI_GOOSE_UNEXP_COUNT : Field := ⟨0x8008c, 0, 32⟩
def SVI_GSUB_W_WORD (i : Nat) : Field := ⟨(0x80100 + 4 * i), 0, 32⟩
def SVI_OWN_CTRL_EN (i : Nat) : Field := ⟨(0x80200 + 0x40 * i), 31, 1⟩
def SVI_OWN_CTRL_TEST (i : Nat) : Field := ⟨(0x80200 + 0x40 * i), 30, 1⟩
def SVI_OWN_CTRL_NOASDU (i : Nat) : Field := ⟨(0x80200 + 0x40 * i), 26, 4⟩
def SVI_OWN_CTRL_NCH (i : Nat) : Field := ⟨(0x80200 + 0x40 * i), 22, 4⟩
def SVI_OWN_CTRL_AUTH (i : Nat) : Field := ⟨(0x80200 + 0x40 * i), 21, 1⟩
def SVI_OWN_CTRL_ALG (i : Nat) : Field := ⟨(0x80200 + 0x40 * i), 20, 1⟩
def SVI_OWN_CTRL_APPID (i : Nat) : Field := ⟨(0x80200 + 0x40 * i), 0, 16⟩
def SVI_OWN_DST_LO_ADDR (i : Nat) : Field := ⟨(0x80204 + 0x40 * i), 0, 32⟩
def SVI_OWN_DST_HI_PCP (i : Nat) : Field := ⟨(0x80208 + 0x40 * i), 29, 3⟩
def SVI_OWN_DST_HI_VID (i : Nat) : Field := ⟨(0x80208 + 0x40 * i), 16, 12⟩
def SVI_OWN_DST_HI_ADDR (i : Nat) : Field := ⟨(0x80208 + 0x40 * i), 0, 16⟩
def SVI_OWN_CONFREV_REV (i : Nat) : Field := ⟨(0x8020c + 0x40 * i), 0, 32⟩
def SVI_OWN_MAP_MAP (i : Nat) : Field := ⟨(0x80210 + 0x40 * i), 0, 32⟩
def SVI_OWN_LAUNCH_US (i : Nat) : Field := ⟨(0x80214 + 0x40 * i), 0, 10⟩
def SVI_OWN_KEY_KEYSLOT (i : Nat) : Field := ⟨(0x80218 + 0x40 * i), 0, 10⟩
def SVI_OWN_SVID_BYTES (i j : Nat) : Field := ⟨(0x80220 + 0x40 * i + 4 * j), 0, 32⟩
def SVI_OWN_SENT_COUNT (i : Nat) : Field := ⟨(0x80300 + 8 * i), 0, 32⟩
def SVI_OWN_GATED_COUNT (i : Nat) : Field := ⟨(0x80304 + 8 * i), 0, 32⟩
def SVI_SUB_DST_LO_ADDR (i : Nat) : Field := ⟨(0x81000 + 0x20 * i), 0, 32⟩
def SVI_SUB_DST_HI_EN (i : Nat) : Field := ⟨(0x81004 + 0x20 * i), 31, 1⟩
def SVI_SUB_DST_HI_VID (i : Nat) : Field := ⟨(0x81004 + 0x20 * i), 16, 12⟩
def SVI_SUB_DST_HI_ADDR (i : Nat) : Field := ⟨(0x81004 + 0x20 * i), 0, 16⟩
def SVI_SUB_ID_APPID (i : Nat) : Field := ⟨(0x81008 + 0x20 * i), 16, 16⟩
def SVI_SUB_ID_SVID_LEN (i : Nat) : Field := ⟨(0x81008 + 0x20 * i), 0, 7⟩
def SVI_SUB_SVID_CRC_CRC (i : Nat) : Field := ⟨(0x8100c + 0x20 * i), 0, 32⟩
def SVI_SUB_CONFREV_REV (i : Nat) : Field := ⟨(0x81010 + 0x20 * i), 0, 32⟩
def SVI_SUB_LAYOUT_SLICE (i : Nat) : Field := ⟨(0x81014 + 0x20 * i), 24, 8⟩
def SVI_SUB_LAYOUT_NOASDU (i : Nat) : Field := ⟨(0x81014 + 0x20 * i), 20, 4⟩
def SVI_SUB_LAYOUT_NCH (i : Nat) : Field := ⟨(0x81014 + 0x20 * i), 12, 5⟩
def SVI_SUB_LAYOUT_BASE (i : Nat) : Field := ⟨(0x81014 + 0x20 * i), 0, 12⟩
def SVI_SUB_POLICY_KEYSLOT (i : Nat) : Field := ⟨(0x81018 + 0x20 * i), 12, 10⟩
def SVI_SUB_POLICY_AUTH (i : Nat) : Field := ⟨(0x81018 + 0x20 * i), 11, 1⟩
def SVI_SUB_POLICY_TEST_OK (i : Nat) : Field := ⟨(0x81018 + 0x20 * i), 10, 1⟩
def SVI_SUB_POLICY_ALG (i : Nat) : Field := ⟨(0x81018 + 0x20 * i), 9, 1⟩
def SVI_SUB_POLICY_SYNC (i : Nat) : Field := ⟨(0x81018 + 0x20 * i), 2, 2⟩
def SVI_SUB_POLICY_MISS (i : Nat) : Field := ⟨(0x81018 + 0x20 * i), 0, 2⟩
def SVI_SUB_ARRIVE_LAST (i : Nat) : Field := ⟨(0x8101c + 0x20 * i), 16, 16⟩
def SVI_SUB_ARRIVE_MAX (i : Nat) : Field := ⟨(0x8101c + 0x20 * i), 0, 16⟩
def SVI_SUB_MISS_COUNT (i : Nat) : Field := ⟨(0x85000 + 8 * i), 0, 32⟩
def SVI_SUB_INV_LAST (i : Nat) : Field := ⟨(0x85004 + 8 * i), 28, 4⟩
def SVI_SUB_INV_COUNT (i : Nat) : Field := ⟨(0x85004 + 8 * i), 0, 28⟩
def ROD_CTRL_EN : Field := ⟨0x90010, 0, 1⟩
def ROD_CFG_CARRY_MAX : Field := ⟨0x90014, 0, 3⟩
def ROD_STATUS_RUN : Field := ⟨0x90018, 16, 11⟩
def ROD_STATUS_ADM : Field := ⟨0x90018, 0, 11⟩
def ROD_EVT_flags : Field := ⟨0x9001c, 0, 8⟩
def ROD_RODSTAT_CARRY_COUNT (i : Nat) : Field := ⟨(0x90020 + 0x10 * i), 0, 32⟩
def ROD_RODSTAT_OUTCOME_BENCH (i : Nat) : Field := ⟨(0x90024 + 0x10 * i), 16, 16⟩
def ROD_RODSTAT_OUTCOME_FORGIVEN (i : Nat) : Field := ⟨(0x90024 + 0x10 * i), 0, 16⟩
def ROD_RODSTAT_ECC_UNCORR (i : Nat) : Field := ⟨(0x90028 + 0x10 * i), 16, 16⟩
def ROD_RODSTAT_ECC_CORR (i : Nat) : Field := ⟨(0x90028 + 0x10 * i), 0, 16⟩
def ROD_RODSTAT_CRC_COUNT (i : Nat) : Field := ⟨(0x9002c + 0x10 * i), 0, 32⟩
def ROD_MISSED_RUN : Field := ⟨0x90050, 16, 16⟩
def ROD_MISSED_COUNT : Field := ⟨0x90050, 0, 16⟩
def ROD_SHARED_FREE_BYTES : Field := ⟨0x90054, 0, 22⟩
def ROD_ENG_LIMIT_CYCLES : Field := ⟨0x90058, 0, 20⟩
def ROD_CFG2_MIN_SHADOW : Field := ⟨0x9005c, 16, 16⟩
def ROD_ENG_LOAD_CYCLES (i : Nat) : Field := ⟨(0x90100 + 4 * i), 0, 20⟩
def ROD_PRIV_FREE_BYTES (i : Nat) : Field := ⟨(0x90140 + 4 * i), 0, 18⟩
def ROD_SLOT_STATE_SLICE (i : Nat) : Field := ⟨(0x91000 + 0x10 * i), 24, 8⟩
def ROD_SLOT_STATE_GROUP (i : Nat) : Field := ⟨(0x91000 + 0x10 * i), 16, 4⟩
def ROD_SLOT_STATE_AUTO (i : Nat) : Field := ⟨(0x91000 + 0x10 * i), 15, 1⟩
def ROD_SLOT_STATE_STATE (i : Nat) : Field := ⟨(0x91000 + 0x10 * i), 0, 3⟩
def ROD_SLOT_FLAGS_WCET (i : Nat) : Field := ⟨(0x91004 + 0x10 * i), 3, 1⟩
def ROD_SLOT_FLAGS_DIV0 (i : Nat) : Field := ⟨(0x91004 + 0x10 * i), 2, 1⟩
def ROD_SLOT_FLAGS_OVF (i : Nat) : Field := ⟨(0x91004 + 0x10 * i), 1, 1⟩
def ROD_SLOT_FLAGS_SAT (i : Nat) : Field := ⟨(0x91004 + 0x10 * i), 0, 1⟩
def ROD_SLOT_AGREE_TICKS (i : Nat) : Field := ⟨(0x91008 + 0x10 * i), 0, 32⟩
def ROD_SLOT_IMGID_ID (i : Nat) : Field := ⟨(0x9100c + 0x10 * i), 0, 32⟩
def BEAM_CFG_QUAR_EN : Field := ⟨0xa0010, 10, 1⟩
def BEAM_CFG_ST_PERIOD_MS : Field := ⟨0xa0010, 0, 10⟩
def BEAM_STATUS_ST_FAIL : Field := ⟨0xa0014, 11, 1⟩
def BEAM_STATUS_RESTART : Field := ⟨0xa0014, 10, 1⟩
def BEAM_STATUS_DEGRADED : Field := ⟨0xa0014, 9, 1⟩
def BEAM_STATUS_CARRYING : Field := ⟨0xa0014, 4, 3⟩
def BEAM_STATUS_VOTING : Field := ⟨0xa0014, 0, 3⟩
def BEAM_EVT_flags : Field := ⟨0xa0018, 0, 8⟩
def BEAM_DECIDED_COUNT : Field := ⟨0xa0020, 0, 64⟩
def BEAM_NOMAJ_COUNT : Field := ⟨0xa0028, 0, 32⟩
def BEAM_SELFTEST_FAIL : Field := ⟨0xa002c, 16, 16⟩
def BEAM_SELFTEST_RUNS : Field := ⟨0xa002c, 0, 16⟩
def BEAM_CHMIS_COUNT : Field := ⟨0xa0030, 0, 32⟩
def BEAM_ROD_STATE_REINT (i : Nat) : Field := ⟨(0xa0040 + 0x20 * i), 24, 2⟩
def BEAM_ROD_STATE_CAUSE (i : Nat) : Field := ⟨(0xa0040 + 0x20 * i), 8, 4⟩
def BEAM_ROD_STATE_STATE (i : Nat) : Field := ⟨(0xa0040 + 0x20 * i), 0, 3⟩
def BEAM_ROD_CTRL_REARM (i : Nat) : Field := ⟨(0xa0044 + 0x20 * i), 0, 1⟩
def BEAM_ROD_LAST_WORD (i : Nat) : Field := ⟨(0xa0048 + 0x20 * i), 0, 32⟩
def BEAM_ROD_VERIFY_MATCHED (i : Nat) : Field := ⟨(0xa004c + 0x20 * i), 0, 16⟩
def BEAM_ROD_COPY_ROUNDS (i : Nat) : Field := ⟨(0xa0050 + 0x20 * i), 24, 8⟩
def BEAM_ROD_COPY_REMAIN (i : Nat) : Field := ⟨(0xa0050 + 0x20 * i), 0, 24⟩
def BEAM_ROD_BENCHES_COUNT (i : Nat) : Field := ⟨(0xa0054 + 0x20 * i), 0, 32⟩
def PAIR_CFG_MISS_TOL : Field := ⟨0xb0010, 16, 3⟩
def PAIR_CFG_SOLO_WAIT : Field := ⟨0xb0010, 0, 12⟩
def PAIR_CFG2_HANDOVER_TICKS : Field := ⟨0xb0014, 16, 16⟩
def PAIR_CFG2_ORPHAN_MS : Field := ⟨0xb0014, 0, 14⟩
def PAIR_STATUS_RESYNC : Field := ⟨0xb0018, 18, 3⟩
def PAIR_STATUS_PEER_SAFECUST : Field := ⟨0xb0018, 17, 1⟩
def PAIR_STATUS_PEER_HEALTH : Field := ⟨0xb0018, 14, 3⟩
def PAIR_STATUS_PEER_STATE : Field := ⟨0xb0018, 10, 4⟩
def PAIR_STATUS_LANES : Field := ⟨0xb0018, 8, 2⟩
def PAIR_STATUS_COLLIDE : Field := ⟨0xb0018, 6, 1⟩
def PAIR_STATUS_EQPOS : Field := ⟨0xb0018, 5, 1⟩
def PAIR_STATUS_ROLE_A : Field := ⟨0xb0018, 4, 1⟩
def PAIR_STATUS_CUSTODY : Field := ⟨0xb0018, 3, 1⟩
def PAIR_STATUS_PEER_READY : Field := ⟨0xb0018, 2, 1⟩
def PAIR_STATUS_READY : Field := ⟨0xb0018, 1, 1⟩
def PAIR_STATUS_PARTNER : Field := ⟨0xb0018, 0, 1⟩
def PAIR_MATCH_SKIPRUN : Field := ⟨0xb001c, 16, 4⟩
def PAIR_MATCH_MATCHED : Field := ⟨0xb001c, 0, 16⟩
def PAIR_EVT_flags : Field := ⟨0xb0020, 0, 8⟩
def PAIR_MISMATCH_COUNT : Field := ⟨0xb0024, 0, 32⟩
def PAIR_IMG_DIFF_COUNT : Field := ⟨0xb0028, 0, 32⟩
def PAIR_SKIPPED_COUNT : Field := ⟨0xb002c, 0, 32⟩
def PAIR_RESYNC_CNT_FAIL : Field := ⟨0xb0030, 16, 16⟩
def PAIR_RESYNC_CNT_DONE : Field := ⟨0xb0030, 0, 16⟩
def PAIR_TAKEOVERS_UNREADY : Field := ⟨0xb0034, 16, 16⟩
def PAIR_TAKEOVERS_COUNT : Field := ⟨0xb0034, 0, 16⟩
def PAIR_COLLISIONS_COUNT : Field := ⟨0xb0038, 0, 32⟩
def PAIR_LAST_MM_LO_TICK : Field := ⟨0xb003c, 0, 32⟩
def PAIR_LAST_MM_HI_TICK : Field := ⟨0xb0040, 0, 32⟩
def PAIR_PEER_SN_LO_SERIAL : Field := ⟨0xb0044, 0, 32⟩
def PAIR_PEER_SN_HI_SERIAL : Field := ⟨0xb0048, 0, 32⟩
def PAIR_PEER_INFO_MAJOR : Field := ⟨0xb004c, 24, 8⟩
def PAIR_PEER_INFO_MINOR : Field := ⟨0xb004c, 16, 8⟩
def PAIR_PEER_INFO_POS : Field := ⟨0xb004c, 5, 1⟩
def PAIR_PEER_INFO_SLOT_ID : Field := ⟨0xb004c, 0, 5⟩
def PAIR_LATENCY_MAX : Field := ⟨0xb0050, 16, 16⟩
def PAIR_LATENCY_LAST : Field := ⟨0xb0050, 0, 16⟩
def PUB_CTRL_EN : Field := ⟨0xc0010, 0, 1⟩
def PUB_CFG_SAFE_HOLD_MS : Field := ⟨0xc0014, 16, 14⟩
def PUB_CFG_LAUNCH_OFFSET : Field := ⟨0xc0014, 0, 10⟩
def PUB_STATUS_DI_LEVEL : Field := ⟨0xc0018, 16, 8⟩
def PUB_STATUS_DO_LEVEL : Field := ⟨0xc0018, 8, 8⟩
def PUB_STATUS_SAFEFORM : Field := ⟨0xc0018, 2, 1⟩
def PUB_STATUS_SAFEMODE : Field := ⟨0xc0018, 1, 1⟩
def PUB_STATUS_PERMIT : Field := ⟨0xc0018, 0, 1⟩
def PUB_EVT_flags : Field := ⟨0xc001c, 0, 8⟩
def PUB_GOOSE_SENT_COUNT : Field := ⟨0xc0020, 0, 32⟩
def PUB_GOOSE_GATED_COUNT : Field := ⟨0xc0024, 0, 32⟩
def PUB_GOOSE_LATE_COUNT : Field := ⟨0xc0028, 0, 32⟩
def PUB_TAG_FAIL_COUNT : Field := ⟨0xc002c, 0, 32⟩
def PUB_STROBES_COUNT : Field := ⟨0xc0030, 0, 32⟩
def PUB_GCB_CMD_OP : Field := ⟨0xc0034, 30, 2⟩
def PUB_GCB_CMD_INDEX : Field := ⟨0xc0034, 0, 9⟩
def PUB_GCB_ST_STNUM : Field := ⟨0xc0038, 0, 32⟩
def PUB_GCB_SQ_SQNUM : Field := ⟨0xc003c, 0, 32⟩
def PUB_GCB_W_WORD (i : Nat) : Field := ⟨(0xc0040 + 4 * i), 0, 32⟩
def PUB_GCB_TPL_BYTES (i : Nat) : Field := ⟨(0xc0100 + 4 * i), 0, 32⟩
def PUB_DO_CFG_CLEBIT (i : Nat) : Field := ⟨(0xc0300 + 4 * i), 16, 16⟩
def PUB_DO_CFG_SLICE (i : Nat) : Field := ⟨(0xc0300 + 4 * i), 8, 8⟩
def PUB_DO_CFG_SRC (i : Nat) : Field := ⟨(0xc0300 + 4 * i), 4, 1⟩
def PUB_DO_CFG_SAFE (i : Nat) : Field := ⟨(0xc0300 + 4 * i), 0, 2⟩
def CLE_CTRL_CYC_EVT : Field := ⟨0xd0010, 1, 1⟩
def CLE_CTRL_EN : Field := ⟨0xd0010, 0, 1⟩
def CLE_CFG_TOL_COUNT : Field := ⟨0xd0014, 16, 10⟩
def CLE_CFG_TOL_PCT : Field := ⟨0xd0014, 9, 6⟩
def CLE_CFG_PERIOD : Field := ⟨0xd0014, 0, 9⟩
def CLE_OWNER_SLICE : Field := ⟨0xd0018, 0, 8⟩
def CLE_STATUS_FORCES : Field := ⟨0xd001c, 16, 9⟩
def CLE_STATUS_FCAUSE : Field := ⟨0xd001c, 8, 8⟩
def CLE_STATUS_FORCED : Field := ⟨0xd001c, 4, 1⟩
def CLE_STATUS_DEPEND : Field := ⟨0xd001c, 3, 1⟩
def CLE_STATUS_LOADED : Field := ⟨0xd001c, 2, 1⟩
def CLE_STATUS_STATE : Field := ⟨0xd001c, 0, 2⟩
def CLE_EVT_flags : Field := ⟨0xd0020, 0, 8⟩
def CLE_PROG_WQ : Field := ⟨0xd0024, 17, 9⟩
def CLE_PROG_NINSTR : Field := ⟨0xd0024, 0, 17⟩
def CLE_PROG_ID_ID : Field := ⟨0xd0028, 0, 32⟩
def CLE_BUDGET_B : Field := ⟨0xd002c, 0, 17⟩
def CLE_CYCLE_LAST_C : Field := ⟨0xd0030, 0, 32⟩
def CLE_CYCLE_MAX_C : Field := ⟨0xd0034, 0, 32⟩
def CLE_OVERRUNS_WINDOW : Field := ⟨0xd0038, 16, 16⟩
def CLE_OVERRUNS_TOTAL : Field := ⟨0xd0038, 0, 16⟩
def CLE_CYCLES_COUNT : Field := ⟨0xd003c, 0, 32⟩
def CLE_START_LO_TICK : Field := ⟨0xd0040, 0, 32⟩
def CLE_START_HI_TICK : Field := ⟨0xd0044, 0, 32⟩
def CLE_FAULT_PC_PC : Field := ⟨0xd0048, 0, 16⟩
def CLE_FORCE_VALID (i : Nat) : Field := ⟨(0xd0400 + 4 * i), 31, 1⟩
def CLE_FORCE_VALUE (i : Nat) : Field := ⟨(0xd0400 + 4 * i), 30, 1⟩
def CLE_FORCE_ADDR (i : Nat) : Field := ⟨(0xd0400 + 4 * i), 0, 24⟩
def CLE_Q_BITS (i : Nat) : Field := ⟨(0xd1000 + 4 * i), 0, 32⟩
def MOD_CTRL_WAVE_EN : Field := ⟨0xe0010, 1, 1⟩
def MOD_CTRL_EN : Field := ⟨0xe0010, 0, 1⟩
def MOD_CFG_VIG_MASK : Field := ⟨0xe0014, 16, 8⟩
def MOD_CFG_CH_EN : Field := ⟨0xe0014, 0, 16⟩
def MOD_SAMPLE_PT_PT3 : Field := ⟨0xe0018, 0, 32⟩
def MOD_TEMP_CFG_TGAIN : Field := ⟨0xe001c, 16, 16⟩
def MOD_TEMP_CFG_SRC : Field := ⟨0xe001c, 0, 5⟩
def MOD_TEMP_OFS_OFS : Field := ⟨0xe0020, 0, 16⟩
def MOD_TEMP_NOW_HELD : Field := ⟨0xe0024, 16, 1⟩
def MOD_TEMP_NOW_TEMP : Field := ⟨0xe0024, 0, 16⟩
def MOD_STATUS_OVR : Field := ⟨0xe0028, 16, 16⟩
def MOD_STATUS_STUCK : Field := ⟨0xe0028, 0, 16⟩
def MOD_LATENCY_FILL_US : Field := ⟨0xe002c, 8, 8⟩
def MOD_LATENCY_LAT_US : Field := ⟨0xe002c, 0, 8⟩
def MOD_EVT_flags : Field := ⟨0xe0030, 0, 4⟩
def MOD_FINE_FILL (i : Nat) : Field := ⟨(0xe0100 + 4 * i), 25, 1⟩
def MOD_FINE_FAULTY (i : Nat) : Field := ⟨(0xe0100 + 4 * i), 24, 1⟩
def MOD_FINE_VALUE (i : Nat) : Field := ⟨(0xe0100 + 4 * i), 0, 24⟩
def MOD_CORR_G_G (i : Nat) : Field := ⟨(0xe0140 + 8 * i), 0, 32⟩
def MOD_CORR_D_D (i : Nat) : Field := ⟨(0xe0144 + 8 * i), 0, 32⟩
def MOD_ERRCNT_STUCK (i : Nat) : Field := ⟨(0xe01c0 + 4 * i), 16, 16⟩
def MOD_ERRCNT_OVR (i : Nat) : Field := ⟨(0xe01c0 + 4 * i), 0, 16⟩
def MOD_CAL_N_NPTS (i : Nat) : Field := ⟨(0xe0200 + 4 * i), 0, 5⟩
def MOD_CAL_T_T (i j : Nat) : Field := ⟨(0xe1000 + 0x100 * i + 0x10 * j), 0, 16⟩
def MOD_CAL_G_G (i j : Nat) : Field := ⟨(0xe1004 + 0x100 * i + 0x10 * j), 0, 32⟩
def MOD_CAL_D_D (i j : Nat) : Field := ⟨(0xe1008 + 0x100 * i + 0x10 * j), 0, 32⟩
def ADC_CTRL_EN : Field := ⟨0xf0010, 0, 1⟩
def ADC_CFG_DI_FALL : Field := ⟨0xf0014, 28, 1⟩
def ADC_CFG_DI_SEL : Field := ⟨0xf0014, 25, 3⟩
def ADC_CFG_TICKDIV : Field := ⟨0xf0014, 9, 16⟩
def ADC_CFG_AVG_K : Field := ⟨0xf0014, 5, 4⟩
def ADC_CFG_NSTEP : Field := ⟨0xf0014, 3, 2⟩
def ADC_CFG_MODE : Field := ⟨0xf0014, 2, 1⟩
def ADC_CFG_TRIG_SRC : Field := ⟨0xf0014, 0, 2⟩
def ADC_PERIOD_US : Field := ⟨0xf0018, 0, 20⟩
def ADC_RANGE_RANGE : Field := ⟨0xf001c, 0, 32⟩
def ADC_SEQMAP_MAP : Field := ⟨0xf0020, 0, 32⟩
def ADC_CMD_STOP : Field := ⟨0xf0024, 1, 1⟩
def ADC_CMD_TRIG : Field := ⟨0xf0024, 0, 1⟩
def ADC_STATUS_RESCNT : Field := ⟨0xf0028, 16, 16⟩
def ADC_STATUS_MON : Field := ⟨0xf0028, 2, 1⟩
def ADC_STATUS_RUN : Field := ⟨0xf0028, 1, 1⟩
def ADC_STATUS_BUSY : Field := ⟨0xf0028, 0, 1⟩
def ADC_TRIG_IGNORED_COUNT : Field := ⟨0xf002c, 0, 32⟩
def ADC_MON_DELAY_COUNT : Field := ⟨0xf0030, 0, 32⟩
def ADC_EVT_flags : Field := ⟨0xf0034, 0, 4⟩
def ADC_RES_TS_NS : Field := ⟨0xf0038, 0, 64⟩
def ADC_RES_SEQ (i : Nat) : Field := ⟨(0xf0100 + 4 * i), 24, 8⟩
def ADC_RES_OVR (i : Nat) : Field := ⟨(0xf0100 + 4 * i), 16, 1⟩
def ADC_RES_CODE (i : Nat) : Field := ⟨(0xf0100 + 4 * i), 0, 16⟩
def ADC_MON_OUT (i : Nat) : Field := ⟨(0xf0140 + 4 * i), 31, 1⟩
def ADC_MON_VALUE (i : Nat) : Field := ⟨(0xf0140 + 4 * i), 0, 16⟩
def AQE_CTRL_AUTO_REARM : Field := ⟨0x100010, 2, 1⟩
def AQE_CTRL_WAVE_EN : Field := ⟨0x100010, 1, 1⟩
def AQE_CTRL_EN : Field := ⟨0x100010, 0, 1⟩
def AQE_CAPT_PRE_MS : Field := ⟨0x100014, 16, 15⟩
def AQE_CAPT_POST_MS : Field := ⟨0x100014, 0, 16⟩
def AQE_OPT_WFIRE : Field := ⟨0x100018, 31, 1⟩
def AQE_OPT_WAVE_ON_TRIG : Field := ⟨0x100018, 30, 1⟩
def AQE_OPT_STOP_VIOL : Field := ⟨0x100018, 29, 1⟩
def AQE_OPT_MASK_EN : Field := ⟨0x100018, 28, 1⟩
def AQE_OPT_MAX_MS : Field := ⟨0x100018, 0, 17⟩
def AQE_REARM_REARM_MS : Field := ⟨0x10001c, 0, 14⟩
def AQE_WAVE_WPOST_US : Field := ⟨0x100020, 16, 16⟩
def AQE_WAVE_WPRE_US : Field := ⟨0x100020, 0, 16⟩
def AQE_WDET_WTH : Field := ⟨0x100024, 16, 15⟩
def AQE_WDET_MASK : Field := ⟨0x100024, 0, 16⟩
def AQE_GRP_EN : Field := ⟨0x100028, 31, 1⟩
def AQE_GRP_MASTER : Field := ⟨0x100028, 30, 1⟩
def AQE_GRP_PATH : Field := ⟨0x100028, 27, 3⟩
def AQE_GRP_KEYSLOT : Field := ⟨0x100028, 16, 10⟩
def AQE_GRP_GROUP : Field := ⟨0x100028, 0, 16⟩
def AQE_NODE_FAR_NODE : Field := ⟨0x10002c, 16, 12⟩
def AQE_NODE_NODE : Field := ⟨0x10002c, 0, 12⟩
def AQE_GRP_DST_LO_ADDR : Field := ⟨0x100030, 0, 32⟩
def AQE_GRP_DST_HI_VID : Field := ⟨0x100034, 16, 12⟩
def AQE_GRP_DST_HI_ADDR : Field := ⟨0x100034, 0, 16⟩
def AQE_TWL_LEN_LEN : Field := ⟨0x100038, 0, 32⟩
def AQE_TWL_VEL_VEL : Field := ⟨0x10003c, 0, 32⟩
def AQE_CMD_DISARM : Field := ⟨0x100040, 2, 1⟩
def AQE_CMD_ARM : Field := ⟨0x100040, 1, 1⟩
def AQE_CMD_FIRE : Field := ⟨0x100040, 0, 1⟩
def AQE_STATUS_PRE_AVAIL : Field := ⟨0x100044, 16, 16⟩
def AQE_STATUS_WCAPT : Field := ⟨0x100044, 5, 1⟩
def AQE_STATUS_EXTENDED : Field := ⟨0x100044, 4, 1⟩
def AQE_STATUS_SETTLING : Field := ⟨0x100044, 3, 1⟩
def AQE_STATUS_STATE : Field := ⟨0x100044, 0, 3⟩
def AQE_REC_ID_ID : Field := ⟨0x100048, 0, 32⟩
def AQE_EVT_flags : Field := ⟨0x10004c, 0, 8⟩
def AQE_CH_CMD_OP : Field := ⟨0x100050, 30, 2⟩
def AQE_CH_CMD_BIN : Field := ⟨0x100050, 29, 1⟩
def AQE_CH_CMD_INDEX : Field := ⟨0x100050, 0, 13⟩
def AQE_CH_W0_WORD : Field := ⟨0x100054, 0, 32⟩
def AQE_CH_W1_WORD : Field := ⟨0x100058, 0, 32⟩
def AQE_MPT_CMD_OP : Field := ⟨0x10005c, 30, 2⟩
def AQE_MPT_CMD_INDEX : Field := ⟨0x10005c, 0, 10⟩
def AQE_MPT_OFS_O : Field := ⟨0x100060, 0, 32⟩
def AQE_MPT_UP_U : Field := ⟨0x100064, 0, 32⟩
def AQE_MPT_LO_L : Field := ⟨0x100068, 0, 32⟩
def AQE_VIOL_VALID : Field := ⟨0x100070, 31, 1⟩
def AQE_VIOL_CH : Field := ⟨0x100070, 0, 12⟩
def AQE_VIOL_VAL_X : Field := ⟨0x100074, 0, 32⟩
def AQE_VIOL_TICK_TICK : Field := ⟨0x100078, 0, 64⟩
def AQE_TWL_RESULT_VALID : Field := ⟨0x100080, 31, 1⟩
def AQE_TWL_RESULT_STATUS : Field := ⟨0x100080, 28, 3⟩
def AQE_TWL_RESULT_DIST : Field := ⟨0x100080, 0, 28⟩
def AQE_TWL_DT_DT : Field := ⟨0x100084, 0, 32⟩
def AQE_RECORDS_COUNT : Field := ⟨0x100090, 0, 32⟩
def AQE_BLIND_COUNT : Field := ⟨0x100094, 0, 32⟩
def AQE_IGNORED_COUNT : Field := ⟨0x100098, 0, 32⟩
def AQE_GAPS_COUNT : Field := ⟨0x10009c, 0, 32⟩
def AQE_FIRE_TX_COUNT : Field := ⟨0x1000a0, 0, 32⟩
def AQE_FIRE_RX_COUNT : Field := ⟨0x1000a4, 0, 32⟩
def AQE_FIRE_BAD_LATE : Field := ⟨0x1000a8, 16, 16⟩
def AQE_FIRE_BAD_BAD : Field := ⟨0x1000a8, 0, 16⟩
def AQE_FLASH_WEAR : Field := ⟨0x1000b0, 16, 16⟩
def AQE_FLASH_FREE : Field := ⟨0x1000b0, 0, 16⟩
def AQE_IDX_SEL_ORD : Field := ⟨0x1000c0, 0, 16⟩
def AQE_IDX_ID_ID : Field := ⟨0x1000c4, 0, 32⟩
def AQE_IDX_INFO_FLAGS : Field := ⟨0x1000c8, 24, 8⟩
def AQE_IDX_INFO_STATE : Field := ⟨0x1000c8, 16, 2⟩
def AQE_IDX_INFO_TYPE : Field := ⟨0x1000c8, 0, 8⟩
def AQE_IDX_T0_NS : Field := ⟨0x1000d0, 0, 64⟩
def AQE_KEEP_ID_ID : Field := ⟨0x1000d8, 0, 32⟩
def AQE_KEEP_CMD_OP : Field := ⟨0x1000dc, 0, 2⟩
def AQE_TRG_CTRL_EN (i : Nat) : Field := ⟨(0x101000 + 0x10 * i), 31, 1⟩
def AQE_TRG_CTRL_KIND (i : Nat) : Field := ⟨(0x101000 + 0x10 * i), 28, 3⟩
def AQE_TRG_CTRL_P (i : Nat) : Field := ⟨(0x101000 + 0x10 * i), 16, 12⟩
def AQE_TRG_CTRL_CH (i : Nat) : Field := ⟨(0x101000 + 0x10 * i), 0, 12⟩
def AQE_TRG_TH_TH (i : Nat) : Field := ⟨(0x101004 + 0x10 * i), 0, 32⟩
def AQE_TRG_HY_HY (i : Nat) : Field := ⟨(0x101008 + 0x10 * i), 0, 32⟩
def AQE_MASK_CTRL_EN (i : Nat) : Field := ⟨(0x101400 + 8 * i), 31, 1⟩
def AQE_MASK_CTRL_CH (i : Nat) : Field := ⟨(0x101400 + 8 * i), 0, 12⟩
def AQE_MASK_PTS_NPTS (i : Nat) : Field := ⟨(0x101404 + 8 * i), 16, 10⟩
def AQE_MASK_PTS_FIRST (i : Nat) : Field := ⟨(0x101404 + 8 * i), 0, 10⟩
def AQE_WDELAY_D (i : Nat) : Field := ⟨(0x101600 + 4 * i), 0, 32⟩
def NRG_CTRL_EN : Field := ⟨0x110010, 0, 1⟩
def NRG_PULSE_WIDTH_MS : Field := ⟨0x110014, 0, 8⟩
def NRG_HEAT_PERIOD_MS : Field := ⟨0x110018, 0, 14⟩
def NRG_VIGIL_THRESH_MA : Field := ⟨0x11001c, 0, 20⟩
def NRG_STATUS_SNAP_BUSY : Field := ⟨0x110020, 2, 1⟩
def NRG_STATUS_VIGDATA : Field := ⟨0x110020, 1, 1⟩
def NRG_STATUS_UFLOW : Field := ⟨0x110020, 0, 1⟩
def NRG_EVT_flags : Field := ⟨0x110024, 0, 8⟩
def NRG_UFLOW_START_NS : Field := ⟨0x110028, 0, 64⟩
def NRG_UFLOW_END_NS : Field := ⟨0x110030, 0, 64⟩
def NRG_UFLOW_PEAK_CH : Field := ⟨0x110038, 24, 3⟩
def NRG_UFLOW_PEAK_MA : Field := ⟨0x110038, 0, 20⟩
def NRG_ACC_SEL_HEAT : Field := ⟨0x110040, 31, 1⟩
def NRG_ACC_SEL_INDEX : Field := ⟨0x110040, 0, 8⟩
def NRG_ACC_STAT_READY : Field := ⟨0x110044, 0, 1⟩
def NRG_ACC_WIN_TICK : Field := ⟨0x110048, 0, 64⟩
def NRG_ACC_UNITS (i j : Nat) : Field := ⟨(0x110100 + 0x38 * i + 8 * j), 0, 64⟩
def NRG_PO_CFG_EN (i : Nat) : Field := ⟨(0x110200 + 0x20 * i), 31, 1⟩
def NRG_PO_CFG_POINT (i : Nat) : Field := ⟨(0x110200 + 0x20 * i), 16, 8⟩
def NRG_PO_CFG_PHASE (i : Nat) : Field := ⟨(0x110200 + 0x20 * i), 8, 2⟩
def NRG_PO_CFG_REG (i : Nat) : Field := ⟨(0x110200 + 0x20 * i), 0, 3⟩
def NRG_PO_CONST_UNITS (i : Nat) : Field := ⟨(0x110204 + 0x20 * i), 0, 32⟩
def NRG_PO_BACKLOG_COUNT (i : Nat) : Field := ⟨(0x110208 + 0x20 * i), 0, 32⟩
def NRG_PO_EMITTED_COUNT (i : Nat) : Field := ⟨(0x11020c + 0x20 * i), 0, 32⟩
def NRG_PO_RESID_UNITS (i : Nat) : Field := ⟨(0x110210 + 0x20 * i), 0, 32⟩
def NRG_PO_WIDTH_MS (i : Nat) : Field := ⟨(0x110214 + 0x20 * i), 0, 8⟩
def NRG_HM_CFG_EN (i : Nat) : Field := ⟨(0x110400 + 0x20 * i), 31, 1⟩
def NRG_HM_CFG_LOC (i : Nat) : Field := ⟨(0x110400 + 0x20 * i), 30, 1⟩
def NRG_HM_CFG_SRC_T (i : Nat) : Field := ⟨(0x110400 + 0x20 * i), 29, 1⟩
def NRG_HM_CFG_SRC_V (i : Nat) : Field := ⟨(0x110400 + 0x20 * i), 28, 1⟩
def NRG_HM_CFG_AIN_S (i : Nat) : Field := ⟨(0x110400 + 0x20 * i), 12, 4⟩
def NRG_HM_CFG_AIN_R (i : Nat) : Field := ⟨(0x110400 + 0x20 * i), 8, 4⟩
def NRG_HM_CFG_AIN_V (i : Nat) : Field := ⟨(0x110400 + 0x20 * i), 4, 4⟩
def NRG_HM_TCAL_TGAIN (i : Nat) : Field := ⟨(0x110404 + 0x20 * i), 16, 16⟩
def NRG_HM_TCAL_TOFS (i : Nat) : Field := ⟨(0x110404 + 0x20 * i), 0, 16⟩
def NRG_HM_VGAIN_GAIN (i : Nat) : Field := ⟨(0x110408 + 0x20 * i), 0, 32⟩
def NRG_HM_VOFS_OFS (i : Nat) : Field := ⟨(0x11040c + 0x20 * i), 0, 32⟩
def NRG_HM_LIMITS_TTL_S (i : Nat) : Field := ⟨(0x110410 + 0x20 * i), 16, 16⟩
def NRG_HM_LIMITS_DTMIN (i : Nat) : Field := ⟨(0x110410 + 0x20 * i), 0, 16⟩
def NRG_HM_REP_T_TS (i : Nat) : Field := ⟨(0x110414 + 0x20 * i), 16, 16⟩
def NRG_HM_REP_T_TR (i : Nat) : Field := ⟨(0x110414 + 0x20 * i), 0, 16⟩
def NRG_HM_REP_V_LPH (i : Nat) : Field := ⟨(0x110418 + 0x20 * i), 0, 32⟩
def NRG_HM_STAT_POWER (i : Nat) : Field := ⟨(0x11041c + 0x20 * i), 16, 16⟩
def NRG_HM_STAT_STALE (i : Nat) : Field := ⟨(0x11041c + 0x20 * i), 1, 1⟩
def NRG_HM_STAT_INVALID (i : Nat) : Field := ⟨(0x11041c + 0x20 * i), 0, 1⟩
def NRG_KTAB_K (i j k : Nat) : Field := ⟨(0x110c00 + 0x400 * i + 0x40 * j + 4 * k), 0, 32⟩
def NRG_VIG_K_K (i : Nat) : Field := ⟨(0x111400 + 0x20 * i), 0, 32⟩
def NRG_VIG_SECS_SECS (i : Nat) : Field := ⟨(0x111404 + 0x20 * i), 0, 32⟩
def NRG_VIG_AHP_UAH (i : Nat) : Field := ⟨(0x111408 + 0x20 * i), 0, 64⟩
def NRG_VIG_AHN_UAH (i : Nat) : Field := ⟨(0x111410 + 0x20 * i), 0, 64⟩
def NRG_PT_CFG_EN (i : Nat) : Field := ⟨(0x112000 + 0x40 * i), 31, 1⟩
def NRG_PT_CFG_NPH (i : Nat) : Field := ⟨(0x112000 + 0x40 * i), 29, 2⟩
def NRG_PT_CFG_FN60 (i : Nat) : Field := ⟨(0x112000 + 0x40 * i), 28, 1⟩
def NRG_PT_PH_ICH (i j : Nat) : Field := ⟨(0x112004 + 0x40 * i + 4 * j), 16, 12⟩
def NRG_PT_PH_VCH (i j : Nat) : Field := ⟨(0x112004 + 0x40 * i + 4 * j), 0, 12⟩
def NRG_PT_K_LO_K (i : Nat) : Field := ⟨(0x112010 + 0x40 * i), 0, 32⟩
def NRG_PT_K_HI_K (i : Nat) : Field := ⟨(0x112014 + 0x40 * i), 0, 32⟩
def NRG_PT_FREQ_VALID (i : Nat) : Field := ⟨(0x112018 + 0x40 * i), 16, 1⟩
def NRG_PT_FREQ_MHZ (i : Nat) : Field := ⟨(0x112018 + 0x40 * i), 0, 16⟩
def NRG_PT_GAP_TICKS_COUNT (i : Nat) : Field := ⟨(0x11201c + 0x40 * i), 0, 32⟩
def NRG_PT_INV_TICKS_COUNT (i : Nat) : Field := ⟨(0x112020 + 0x40 * i), 0, 32⟩
def LCE_CTRL_EN : Field := ⟨0x120010, 0, 1⟩
def LCE_STATUS_CAP : Field := ⟨0x120014, 16, 9⟩
def LCE_STATUS_ACTIVE : Field := ⟨0x120014, 0, 8⟩
def LCE_EVT_flags : Field := ⟨0x120018, 0, 8⟩
def LCE_EXEC_COUNT : Field := ⟨0x12001c, 0, 32⟩
def LCE_TX_COUNT : Field := ⟨0x120020, 0, 32⟩
def LCE_TX_GATED_COUNT : Field := ⟨0x120024, 0, 32⟩
def LCE_REPORT_RX_COUNT : Field := ⟨0x120028, 0, 32⟩
def LCE_REPORT_BAD_COUNT : Field := ⟨0x12002c, 0, 32⟩
def LCE_DEV_ADDR_LO_ADDR (i : Nat) : Field := ⟨(0x120100 + 8 * i), 0, 32⟩
def LCE_DEV_CFG_EN (i : Nat) : Field := ⟨(0x120104 + 8 * i), 31, 1⟩
def LCE_DEV_CFG_PORT (i : Nat) : Field := ⟨(0x120104 + 8 * i), 30, 1⟩
def LCE_DEV_CFG_TIMEOUT_MS (i : Nat) : Field := ⟨(0x120104 + 8 * i), 16, 14⟩
def LCE_DEV_CFG_ADDR (i : Nat) : Field := ⟨(0x120104 + 8 * i), 0, 16⟩
def LCE_LOOP_SCHED_PHASE (i : Nat) : Field := ⟨(0x121000 + 0x80 * i), 16, 16⟩
def LCE_LOOP_SCHED_PERIOD (i : Nat) : Field := ⟨(0x121000 + 0x80 * i), 0, 16⟩
def LCE_LOOP_SRC_PV_KIND (i : Nat) : Field := ⟨(0x121004 + 0x80 * i), 28, 4⟩
def LCE_LOOP_SRC_PV_IDX (i : Nat) : Field := ⟨(0x121004 + 0x80 * i), 16, 12⟩
def LCE_LOOP_SRC_FF_KIND (i : Nat) : Field := ⟨(0x121004 + 0x80 * i), 12, 4⟩
def LCE_LOOP_SRC_FF_IDX (i : Nat) : Field := ⟨(0x121004 + 0x80 * i), 0, 12⟩
def LCE_LOOP_PV_GAIN_GAIN (i : Nat) : Field := ⟨(0x121008 + 0x80 * i), 0, 32⟩
def LCE_LOOP_PV_OFS_OFS (i : Nat) : Field := ⟨(0x12100c + 0x80 * i), 0, 32⟩
def LCE_LOOP_CFG_COMPAT (i : Nat) : Field := ⟨(0x121010 + 0x80 * i), 31, 1⟩
def LCE_LOOP_CFG_REVERSE (i : Nat) : Field := ⟨(0x121010 + 0x80 * i), 30, 1⟩
def LCE_LOOP_CFG_SP_SRC (i : Nat) : Field := ⟨(0x121010 + 0x80 * i), 28, 2⟩
def LCE_LOOP_CFG_POS_KIND (i : Nat) : Field := ⟨(0x121010 + 0x80 * i), 26, 2⟩
def LCE_LOOP_CFG_POS_IDX (i : Nat) : Field := ⟨(0x121010 + 0x80 * i), 22, 4⟩
def LCE_LOOP_CFG_CBIT (i : Nat) : Field := ⟨(0x121010 + 0x80 * i), 0, 13⟩
def LCE_LOOP_OUT_SEND (i : Nat) : Field := ⟨(0x121014 + 0x80 * i), 31, 1⟩
def LCE_LOOP_OUT_DEV (i : Nat) : Field := ⟨(0x121014 + 0x80 * i), 16, 5⟩
def LCE_LOOP_OUT_CH (i : Nat) : Field := ⟨(0x121014 + 0x80 * i), 0, 8⟩
def LCE_LOOP_SP_SP (i : Nat) : Field := ⟨(0x121018 + 0x80 * i), 0, 32⟩
def LCE_LOOP_SPB_SP (i : Nat) : Field := ⟨(0x12101c + 0x80 * i), 0, 32⟩
def LCE_LOOP_SP_LO_LO (i : Nat) : Field := ⟨(0x121020 + 0x80 * i), 0, 32⟩
def LCE_LOOP_SP_HI_HI (i : Nat) : Field := ⟨(0x121024 + 0x80 * i), 0, 32⟩
def LCE_LOOP_RAMP_RATE_RATE (i : Nat) : Field := ⟨(0x121028 + 0x80 * i), 0, 32⟩
def LCE_LOOP_MAN_U (i : Nat) : Field := ⟨(0x12102c + 0x80 * i), 0, 32⟩
def LCE_LOOP_OUTLIM_HI (i : Nat) : Field := ⟨(0x121030 + 0x80 * i), 16, 16⟩
def LCE_LOOP_OUTLIM_LO (i : Nat) : Field := ⟨(0x121030 + 0x80 * i), 0, 16⟩
def LCE_LOOP_SAFE_SAFE_OUT (i : Nat) : Field := ⟨(0x121034 + 0x80 * i), 16, 16⟩
def LCE_LOOP_SAFE_DEADBAND (i : Nat) : Field := ⟨(0x121034 + 0x80 * i), 0, 16⟩
def LCE_LOOP_MODEL_MB (i : Nat) : Field := ⟨(0x121038 + 0x80 * i), 16, 16⟩
def LCE_LOOP_MODEL_MD (i : Nat) : Field := ⟨(0x121038 + 0x80 * i), 0, 6⟩
def LCE_LOOP_MG_MG (i : Nat) : Field := ⟨(0x12103c + 0x80 * i), 0, 32⟩
def LCE_LOOP_KFF_K (i : Nat) : Field := ⟨(0x121040 + 0x80 * i), 0, 32⟩
def LCE_LOOP_BAND_BAND (i : Nat) : Field := ⟨(0x121044 + 0x80 * i), 0, 32⟩
def LCE_LOOP_SUP_BTIME (i : Nat) : Field := ⟨(0x121048 + 0x80 * i), 16, 16⟩
def LCE_LOOP_SUP_PV_TOL (i : Nat) : Field := ⟨(0x121048 + 0x80 * i), 0, 16⟩
def LCE_LOOP_CTRL_BANK (i : Nat) : Field := ⟨(0x12104c + 0x80 * i), 31, 1⟩
def LCE_LOOP_CTRL_RAMP (i : Nat) : Field := ⟨(0x12104c + 0x80 * i), 30, 1⟩
def LCE_LOOP_CTRL_FB_MODE (i : Nat) : Field := ⟨(0x12104c + 0x80 * i), 28, 2⟩
def LCE_LOOP_CTRL_SUP_EN (i : Nat) : Field := ⟨(0x12104c + 0x80 * i), 27, 1⟩
def LCE_LOOP_CTRL_BUMPLESS (i : Nat) : Field := ⟨(0x12104c + 0x80 * i), 26, 1⟩
def LCE_LOOP_STATE_OP (i : Nat) : Field := ⟨(0x121050 + 0x80 * i), 29, 3⟩
def LCE_LOOP_STATE_FBCAUSE (i : Nat) : Field := ⟨(0x121050 + 0x80 * i), 20, 4⟩
def LCE_LOOP_STATE_BANK_ACT (i : Nat) : Field := ⟨(0x121050 + 0x80 * i), 15, 1⟩
def LCE_LOOP_STATE_SAT_FF (i : Nat) : Field := ⟨(0x121050 + 0x80 * i), 11, 1⟩
def LCE_LOOP_STATE_SAT_OUT (i : Nat) : Field := ⟨(0x121050 + 0x80 * i), 10, 1⟩
def LCE_LOOP_STATE_SAT_I (i : Nat) : Field := ⟨(0x121050 + 0x80 * i), 9, 1⟩
def LCE_LOOP_STATE_SAT_P (i : Nat) : Field := ⟨(0x121050 + 0x80 * i), 8, 1⟩
def LCE_LOOP_STATE_STATE (i : Nat) : Field := ⟨(0x121050 + 0x80 * i), 0, 2⟩
def LCE_LOOP_PV_PV (i : Nat) : Field := ⟨(0x121054 + 0x80 * i), 0, 32⟩
def LCE_LOOP_W_W (i : Nat) : Field := ⟨(0x121058 + 0x80 * i), 0, 32⟩
def LCE_LOOP_Y_Y (i : Nat) : Field := ⟨(0x12105c + 0x80 * i), 0, 32⟩
def LCE_LOOP_RES_R (i : Nat) : Field := ⟨(0x121060 + 0x80 * i), 0, 32⟩
def LCE_LOOP_ALPHA_ALPHA0 (i : Nat) : Field := ⟨(0x121064 + 0x80 * i), 16, 16⟩
def LCE_LOOP_ALPHA_ALPHA1 (i : Nat) : Field := ⟨(0x121064 + 0x80 * i), 0, 16⟩
def LCE_LOOP_KP0_K (i : Nat) : Field := ⟨(0x121068 + 0x80 * i), 0, 32⟩
def LCE_LOOP_KI0_K (i : Nat) : Field := ⟨(0x12106c + 0x80 * i), 0, 32⟩
def LCE_LOOP_KD0_K (i : Nat) : Field := ⟨(0x121070 + 0x80 * i), 0, 32⟩
def LCE_LOOP_KP1_K (i : Nat) : Field := ⟨(0x121074 + 0x80 * i), 0, 32⟩
def LCE_LOOP_KI1_K (i : Nat) : Field := ⟨(0x121078 + 0x80 * i), 0, 32⟩
def LCE_LOOP_KD1_K (i : Nat) : Field := ⟨(0x12107c + 0x80 * i), 0, 32⟩
def LCE_FRIC_F (i j : Nat) : Field := ⟨(0x125000 + 0x40 * i + 4 * j), 0, 32⟩
def RCK_CTRL_SOLVE_PERIOD : Field := ⟨0x130010, 12, 10⟩
def RCK_CTRL_ADAPT_EN : Field := ⟨0x130010, 2, 1⟩
def RCK_CTRL_SOLVE_EN : Field := ⟨0x130010, 1, 1⟩
def RCK_CTRL_EN : Field := ⟨0x130010, 0, 1⟩
def RCK_CFG_STEP_MIN : Field := ⟨0x130014, 24, 6⟩
def RCK_CFG_HSTEPS : Field := ⟨0x130014, 16, 8⟩
def RCK_CFG2_ITER_MAX : Field := ⟨0x130018, 16, 10⟩
def RCK_CFG2_STALE_MAX : Field := ⟨0x130018, 0, 8⟩
def RCK_TOL_ABS_EPS : Field := ⟨0x13001c, 0, 32⟩
def RCK_TOL_REL_EPS : Field := ⟨0x130020, 0, 32⟩
def RCK_RHO0_RHO : Field := ⟨0x130024, 0, 32⟩
def RCK_ADAPT_FORGET : Field := ⟨0x130028, 16, 16⟩
def RCK_ADAPT_RATE_MAX : Field := ⟨0x130028, 8, 8⟩
def RCK_ADAPT_FREEZE_N : Field := ⟨0x130028, 0, 8⟩
def RCK_REP_MAX_S : Field := ⟨0x13002c, 0, 13⟩
def RCK_HR_HYST_KW : Field := ⟨0x130030, 0, 32⟩
def RCK_STATUS_STALE_STEPS : Field := ⟨0x130034, 24, 8⟩
def RCK_STATUS_LAST : Field := ⟨0x130034, 20, 4⟩
def RCK_STATUS_BUILDING : Field := ⟨0x130034, 3, 1⟩
def RCK_STATUS_SOLVING : Field := ⟨0x130034, 2, 1⟩
def RCK_STATUS_MODE : Field := ⟨0x130034, 0, 2⟩
def RCK_EVT_flags : Field := ⟨0x130038, 0, 8⟩
def RCK_SOLVE_ID_ID : Field := ⟨0x13003c, 0, 32⟩
def RCK_PLAN_T0_NS : Field := ⟨0x130040, 0, 64⟩
def RCK_LAST_ITER_MS : Field := ⟨0x130048, 16, 16⟩
def RCK_LAST_ITER_ITER : Field := ⟨0x130048, 0, 16⟩
def RCK_OBJ_V : Field := ⟨0x13004c, 0, 32⟩
def RCK_RPRIM_V : Field := ⟨0x130050, 0, 32⟩
def RCK_RDUAL_V : Field := ⟨0x130054, 0, 32⟩
def RCK_RHO_V : Field := ⟨0x130058, 0, 32⟩
def RCK_SIZE_N_N : Field := ⟨0x13005c, 0, 32⟩
def RCK_SIZE_M_M : Field := ⟨0x130060, 0, 32⟩
def RCK_SIZE_NNZ_NNZ : Field := ⟨0x130064, 0, 32⟩
def RCK_SOLVES_COUNT : Field := ⟨0x130068, 0, 32⟩
def RCK_FAILS_COUNT : Field := ⟨0x13006c, 0, 32⟩
def RCK_SKIPPED_COUNT : Field := ⟨0x130070, 0, 32⟩
def RCK_CLAMPS_COUNT : Field := ⟨0x130074, 0, 32⟩
def RCK_SERIES_EXT_INIT_FALLBACK : Field := ⟨0x130078, 16, 16⟩
def RCK_SERIES_EXT_STEPS : Field := ⟨0x130078, 0, 16⟩
def RCK_REP_OLD_COUNT : Field := ⟨0x13007c, 0, 32⟩
def RCK_ADAPT_SEL_NODE : Field := ⟨0x130080, 0, 12⟩
def RCK_ADAPT_UA_V : Field := ⟨0x130084, 0, 32⟩
def RCK_ADAPT_TAU_V : Field := ⟨0x130088, 0, 32⟩
def RCK_ADAPT_STAT_FROZEN : Field := ⟨0x13008c, 31, 1⟩
def RCK_ADAPT_STAT_UPDATES : Field := ⟨0x13008c, 0, 16⟩
def RCK_BATCH_ADDR_LO_ADDR (i : Nat) : Field := ⟨(0x131000 + 0x10 * i), 12, 20⟩
def RCK_BATCH_ADDR_HI_ADDR (i : Nat) : Field := ⟨(0x131004 + 0x10 * i), 0, 32⟩
def RCK_BATCH_CTRL_EN (i : Nat) : Field := ⟨(0x131008 + 0x10 * i), 31, 1⟩
def RCK_BATCH_CTRL_KIB (i : Nat) : Field := ⟨(0x131008 + 0x10 * i), 0, 15⟩
def RCK_BATCH_STAT_SEQ (i : Nat) : Field := ⟨(0x13100c + 0x10 * i), 16, 16⟩
def RCK_BATCH_STAT_HALF (i : Nat) : Field := ⟨(0x13100c + 0x10 * i), 8, 1⟩
def RCK_BATCH_STAT_DROPPED (i : Nat) : Field := ⟨(0x13100c + 0x10 * i), 0, 8⟩
def KEY_CFG_STAGE_TTL_S : Field := ⟨0x140010, 0, 12⟩
def KEY_STATUS_LIFECYCLE : Field := ⟨0x140014, 29, 3⟩
def KEY_STATUS_DEBUG : Field := ⟨0x140014, 28, 1⟩
def KEY_STATUS_STAGED : Field := ⟨0x140014, 23, 5⟩
def KEY_STATUS_LOCKGRP : Field := ⟨0x140014, 15, 8⟩
def KEY_STATUS_OP : Field := ⟨0x140014, 13, 2⟩
def KEY_STATUS_USED : Field := ⟨0x140014, 0, 11⟩
def KEY_EVT_flags : Field := ⟨0x140018, 0, 8⟩
def KEY_SVN_RUNNING : Field := ⟨0x14001c, 16, 16⟩
def KEY_SVN_FLOOR : Field := ⟨0x14001c, 0, 16⟩
def KEY_SIGNERS_FLOOR_LEFT : Field := ⟨0x140020, 8, 7⟩
def KEY_SIGNERS_REVOKED : Field := ⟨0x140020, 4, 4⟩
def KEY_SIGNERS_VALID : Field := ⟨0x140020, 0, 4⟩
def KEY_JRNL_SEQ_SEQ : Field := ⟨0x140024, 0, 32⟩
def KEY_NONCE_BYTES (i : Nat) : Field := ⟨(0x140040 + 4 * i), 0, 32⟩
def KEY_XPORT_BYTES (i : Nat) : Field := ⟨(0x140100 + 4 * i), 0, 32⟩
def KEY_KID_SEL_SLOT : Field := ⟨0x140200, 0, 10⟩
def KEY_KID_BYTES (i : Nat) : Field := ⟨(0x140210 + 4 * i), 0, 32⟩
def KEY_SLOT_POLICY_OWNER (i : Nat) : Field := ⟨(0x141000 + 0x10 * i), 24, 8⟩
def KEY_SLOT_POLICY_TYPE (i : Nat) : Field := ⟨(0x141000 + 0x10 * i), 20, 4⟩
def KEY_SLOT_POLICY_DERIVED (i : Nat) : Field := ⟨(0x141000 + 0x10 * i), 19, 1⟩
def KEY_SLOT_POLICY_BIND (i : Nat) : Field := ⟨(0x141000 + 0x10 * i), 18, 1⟩
def KEY_SLOT_POLICY_GROUP (i : Nat) : Field := ⟨(0x141000 + 0x10 * i), 15, 3⟩
def KEY_SLOT_POLICY_SURVIVE (i : Nat) : Field := ⟨(0x141000 + 0x10 * i), 12, 3⟩
def KEY_SLOT_POLICY_MEASMASK (i : Nat) : Field := ⟨(0x141000 + 0x10 * i), 4, 8⟩
def KEY_SLOT_USES_MIN_SVN (i : Nat) : Field := ⟨(0x141004 + 0x10 * i), 16, 16⟩
def KEY_SLOT_USES_USES (i : Nat) : Field := ⟨(0x141004 + 0x10 * i), 0, 9⟩
def KEY_SLOT_STATE_GEN (i : Nat) : Field := ⟨(0x141008 + 0x10 * i), 8, 24⟩
def KEY_SLOT_STATE_VERIFIED (i : Nat) : Field := ⟨(0x141008 + 0x10 * i), 5, 1⟩
def KEY_SLOT_STATE_STAGED (i : Nat) : Field := ⟨(0x141008 + 0x10 * i), 4, 1⟩
def KEY_SLOT_STATE_LOCKED (i : Nat) : Field := ⟨(0x141008 + 0x10 * i), 3, 1⟩
def KEY_SLOT_STATE_STATE (i : Nat) : Field := ⟨(0x141008 + 0x10 * i), 0, 3⟩
def KEY_SLOT_KID_LO_BYTES (i : Nat) : Field := ⟨(0x14100c + 0x10 * i), 0, 32⟩
def TMP_CTRL_CLEAR : Field := ⟨0x150010, 0, 1⟩
def TMP_STATUS_LATCHED : Field := ⟨0x150014, 24, 1⟩
def TMP_STATUS_LOCKGRP : Field := ⟨0x150014, 16, 8⟩
def TMP_STATUS_MASKED : Field := ⟨0x150014, 8, 8⟩
def TMP_STATUS_ACTIVE : Field := ⟨0x150014, 0, 8⟩
def TMP_EVT_flags : Field := ⟨0x150018, 0, 8⟩
def TMP_MASK_SRC : Field := ⟨0x15001c, 1, 7⟩
def TMP_LATCHSRC_SRC : Field := ⟨0x150020, 1, 7⟩
def TMP_RESP_CLASS (i : Nat) : Field := ⟨(0x150024 + 4 * i), 0, 16⟩
def TMP_DIE_TEMP : Field := ⟨0x150040, 0, 16⟩
def TMP_EVENTS_COUNT : Field := ⟨0x150044, 0, 16⟩
def TMP_LOOPERR_LOOP1 : Field := ⟨0x150048, 16, 16⟩
def TMP_LOOPERR_LOOP0 : Field := ⟨0x150048, 0, 16⟩
def TMP_LAST_ZGRP : Field := ⟨0x15004c, 8, 8⟩
def TMP_LAST_SOURCE : Field := ⟨0x15004c, 0, 8⟩
def PER_STATUS_MAC2 : Field := ⟨0x160010, 4, 1⟩
def PER_STATUS_GAP : Field := ⟨0x160010, 3, 1⟩
def PER_STATUS_FINAL : Field := ⟨0x160010, 2, 1⟩
def PER_STATUS_HELD_FULL : Field := ⟨0x160010, 1, 1⟩
def PER_STATUS_BUSY : Field := ⟨0x160010, 0, 1⟩
def PER_EVT_flags : Field := ⟨0x160014, 0, 4⟩
def PER_COMMITS_COUNT : Field := ⟨0x160018, 0, 32⟩
def PER_CTIME_MAX : Field := ⟨0x16001c, 16, 16⟩
def PER_CTIME_LAST : Field := ⟨0x16001c, 0, 16⟩
def PER_SKIPPED_COUNT : Field := ⟨0x160020, 0, 32⟩
def PER_BADBANK_MAC : Field := ⟨0x160024, 16, 16⟩
def PER_BADBANK_CRC : Field := ⟨0x160024, 0, 16⟩
def PER_QUEUE_HELD_MAX : Field := ⟨0x160028, 16, 16⟩
def PER_QUEUE_BYTES : Field := ⟨0x160028, 0, 16⟩
def PER_DROPPED_COUNT : Field := ⟨0x16002c, 0, 32⟩
def PER_GAP_MS_MS : Field := ⟨0x160030, 0, 4⟩
def PER_SECT_STATE_NEWEST (i : Nat) : Field := ⟨(0x160100 + 0x10 * i), 2, 1⟩
def PER_SECT_STATE_VALID1 (i : Nat) : Field := ⟨(0x160100 + 0x10 * i), 1, 1⟩
def PER_SECT_STATE_VALID0 (i : Nat) : Field := ⟨(0x160100 + 0x10 * i), 0, 1⟩
def PER_SECT_WRITES_COUNT (i : Nat) : Field := ⟨(0x160104 + 0x10 * i), 0, 32⟩
def PER_SECT_SEQ_SEQ (i : Nat) : Field := ⟨(0x160108 + 0x10 * i), 0, 64⟩
def TLY_STATUS_VIOL : Field := ⟨0x170010, 1, 7⟩
def TLY_STATUS_INJ : Field := ⟨0x170010, 0, 1⟩
def TLY_EVT_flags : Field := ⟨0x170014, 0, 4⟩
def TLY_AUDITS_COUNT : Field := ⟨0x170018, 0, 32⟩
def TLY_LAUDITS_COUNT : Field := ⟨0x17001c, 0, 32⟩
def TLY_VIOL_CNT_COUNT (i : Nat) : Field := ⟨(0x170020 + 4 * i), 0, 32⟩
def TLY_LAST_Q : Field := ⟨0x170040, 24, 8⟩
def TLY_LAST_INJECTED : Field := ⟨0x170040, 23, 1⟩
def TLY_LAST_INDEX : Field := ⟨0x170040, 0, 16⟩
def TLY_LAST_EXP_VALUE : Field := ⟨0x170048, 0, 64⟩
def TLY_LAST_FOUND_VALUE : Field := ⟨0x170050, 0, 64⟩
def TLY_REPAIRS_TOKEN : Field := ⟨0x170058, 16, 16⟩
def TLY_REPAIRS_BEAD : Field := ⟨0x170058, 0, 16⟩
def FIJ_STATUS_SLICEINJ : Field := ⟨0x180010, 8, 8⟩
def FIJ_STATUS_ACTIVE : Field := ⟨0x180010, 0, 8⟩
def FIJ_EVT_flags : Field := ⟨0x180014, 0, 4⟩
def FIJ_STARTS_COUNT : Field := ⟨0x180018, 0, 32⟩
def FIJ_REFUSED_COUNT : Field := ⟨0x18001c, 0, 32⟩
def FIJ_INJ_DESC_KIND (i : Nat) : Field := ⟨(0x180100 + 0x20 * i), 24, 8⟩
def FIJ_INJ_DESC_SLICE (i : Nat) : Field := ⟨(0x180100 + 0x20 * i), 16, 8⟩
def FIJ_INJ_DESC_TARGET (i : Nat) : Field := ⟨(0x180100 + 0x20 * i), 8, 8⟩
def FIJ_INJ_DESC_FLAGS (i : Nat) : Field := ⟨(0x180100 + 0x20 * i), 0, 8⟩
def FIJ_INJ_N_N (i : Nat) : Field := ⟨(0x180104 + 0x20 * i), 0, 32⟩
def FIJ_INJ_PARAM_PARAM (i : Nat) : Field := ⟨(0x180108 + 0x20 * i), 0, 32⟩
def FIJ_INJ_AFFECTED_COUNT (i : Nat) : Field := ⟨(0x18010c + 0x20 * i), 0, 32⟩
def FIJ_INJ_REMAIN_MS (i : Nat) : Field := ⟨(0x180110 + 0x20 * i), 0, 32⟩
def FIJ_INJ_START_LO_TICK (i : Nat) : Field := ⟨(0x180114 + 0x20 * i), 0, 32⟩
def FIJ_INJ_START_HI_TICK (i : Nat) : Field := ⟨(0x180118 + 0x20 * i), 0, 32⟩
def EVT_CTRL_ALERT_MIN_CLASS : Field := ⟨0x190010, 0, 3⟩
def EVT_ALERT_STATE_ASSERTED : Field := ⟨0x190014, 31, 1⟩
def EVT_ALERT_STATE_SRC : Field := ⟨0x190014, 16, 11⟩
def EVT_ALERT_STATE_FCODE : Field := ⟨0x190014, 0, 16⟩
def EVT_BADACC_VALID : Field := ⟨0x190018, 31, 1⟩
def EVT_BADACC_KIND : Field := ⟨0x190018, 29, 2⟩
def EVT_BADACC_OFFSET : Field := ⟨0x190018, 0, 21⟩
def EVT_BADACC_CNT_COUNT : Field := ⟨0x19001c, 0, 32⟩
def EVT_SRC_FLAG (i : Nat) : Field := ⟨(0x191000 + 4 * i), 13, 1⟩
def EVT_SRC_ALERT_EN (i : Nat) : Field := ⟨(0x191000 + 4 * i), 12, 1⟩
def EVT_SRC_MSIX_EN (i : Nat) : Field := ⟨(0x191000 + 4 * i), 11, 1⟩
def EVT_SRC_VECTOR (i : Nat) : Field := ⟨(0x191000 + 4 * i), 0, 11⟩
def EVT_FLAGS_FLAG (i : Nat) : Field := ⟨(0x193000 + 4 * i), 0, 32⟩

end Sys2Proof.Machine.Reg
end

