-- ==== Sys2Proof/Machine/Ops.lean ====
section
/-! DEFINITION. The named operations every family uses: register reads and writes, module time, event flags, fault
records, the event queues and completions. -/

namespace Sys2Proof.Machine

/-! ### Reset words -/

/-- Whether offset d lies on the grid of the index dimensions (count, stride). -/
def onGrid : List (Nat × Nat) → Nat → Bool
  | [], d => d == 0
  | (c, st) :: ds, d => d / st < c && onGrid ds (d % st)

/-- The register that holds offset `off` of a block, with the index of its 32-bit word. -/
def findSpec (off : Nat) : List RegSpec → Option (RegSpec × Nat)
  | [] => none
  | r :: rs =>
    if r.off ≤ off && onGrid r.dims (off - r.off) then some (r, 0)
    else if r.words = 2 && r.off + 4 ≤ off && onGrid r.dims (off - r.off - 4) then some (r, 1)
    else findSpec off rs

/-- The word of the reset values of the fields that lie in 32-bit word k of a register. -/
def fieldsReset (k : Nat) : List FieldSpec → Word
  | [] => 0
  | f :: fs => (fieldsReset k fs).setField (f.lo - 32 * k) f.width
      (if 32 * k ≤ f.lo && f.lo < 32 * k + 32 then f.reset else if k = 1 && f.lo < 32 then f.reset >>> (32 - f.lo) else 0)

/-- Reset values that the tables give per index: slice 0's ID.VALID and its quotas (R158), the fixed fields of
P8–P11 (R261). -/
def resetExtra (blk off : Nat) : Option Word :=
  if blk = 3 then
    if off = 0x1000 then some 0x80000000 
    else if off = 0x1004 then some (BitVec.ofNat 32 (512 * 2 ^ 18 + 64))
    else if off = 0x1008 then some (BitVec.ofNat 32 (1024 * 2 ^ 10))
    else if off = 0x100C then some (BitVec.ofNat 32 (8192 * 2 ^ 13 + 4096))
    else if off = 0x1010 then some (BitVec.ofNat 32 1024)
    else none
  else if blk = 6 && 0x1000 ≤ off && off < 0xD000 then
    let p := off / 0x1000 - 1
    let x := off % 0x1000
    if x = 0x004 && (p = 8 || p = 9) then some 0x13
    else if x = 0x004 && 9 < p then some 0x4
    else if x = 0x020 && (p = 8 || p = 9) then some 0x3
    else if x = 0x020 && 9 < p then some 0x2
    else if x = 0x034 && p < 10 then some 0x2080
    else none
  else none

/-- The offset of the shadow register whose active value stands at `off` (R46), or `off` itself. -/
def shadowOf (blk off : Nat) : Nat :=
  if blk = 6 then (if 0x1000 ≤ off && off % 0x1000 ≥ 0x800 then off - 0x800 else off)
  else if 0x8000 ≤ off then off - 0x8000 else off

/-- Whether a register holds a field of class T. -/
def RegSpec.isT (r : RegSpec) : Bool := r.fields.any fun f => f.cls == .t

/-- Configuration space, at 0x500000 of the register space: identity and class (R129), 64-bit BARs (R130), Interrupt Pin 0, and the
capabilities Power Management, MSI-X with 2,048 vectors, PCI Express (512 B payload, Function Level Reset, ×8 at 16 GT/s), AER, Device
Serial Number and PASID, where the PCI Express layout puts them (assumption 31). -/
def pciReset (off : Nat) : Nat :=
  if off = 0x00 then 0x48121F6A
  else if off = 0x04 then 0x00100000
  else if off = 0x08 then 0x11800003
  else if off = 0x10 || off = 0x18 || off = 0x20 then 4
  else if off = 0x34 then 0x40
  else if off = 0x40 then 0x00035001
  else if off = 0x50 then 0x07FF7011
  else if off = 0x54 then 4
  else if off = 0x58 then 0x8004
  else if off = 0x70 then 0x00020010
  else if off = 0x74 then 0x10008002
  else if off = 0x78 then 0x2810
  else if off = 0x7C then 0x84
  else if off = 0x100 then 0x14820001
  else if off = 0x148 then 0x15810003
  else if off = 0x158 then 0x0001001B
  else if off = 0x15C then 0x1400
  else 0

/-- The word an address of the register space holds at reset: the reset values of its fields, the active view of a
T-class register as its shadow (R46), an MSI-X vector control word masked, configuration space, BLOCK_ID (R59), and 0 elsewhere. -/
def resetWord (a : Nat) : Word :=
  if a < 0x200000 then
    let blk := a / 0x10000
    let off := a % 0x10000
    if 25 < blk then 0
    else if off = 0 then BitVec.ofNat 32 (blk * 2 ^ 24 + 3 * 2 ^ 16 + 0x4E52)
    else match resetExtra blk off with
      | some w => w
      | none =>
        let o := shadowOf blk off
        match findSpec o (blockSpecs blk) with
        | some (r, k) => if o = off || r.isT then fieldsReset k r.fields else 0
        | none => 0
  else if 0x400000 ≤ a && a < 0x408000 && a % 16 = 12 then 1
  else if 0x500000 ≤ a && a < 0x501000 then BitVec.ofNat 32 (pciReset (a - 0x500000))
  else 0

/-! ### The register store -/

/-- The word listed for an address, or its reset word. -/
def rdList (a : Nat) : List (Nat × Word) → Word
  | [] => resetWord a
  | (b, w) :: l => if b = a then w else rdList a l

/-- The store with an entry for address a, which must not be the reset word of a, in rising order. -/
def insList (a : Nat) (w : Word) : List (Nat × Word) → List (Nat × Word)
  | [] => [(a, w)]
  | (b, v) :: l => if b = a then (a, w) :: l else if a < b then (a, w) :: (b, v) :: l else (b, v) :: insList a w l

/-- The store with address a holding w, in canonical form: an entry equal to the reset word is not listed. -/
def wrList (a : Nat) (w : Word) (l : List (Nat × Word)) : List (Nat × Word) :=
  if w = resetWord a then l.filter fun p => p.1 != a else insList a w l

/-- The canonical form: addresses strictly rising, no entry equal to the reset word of its address. -/
def RegsWf : List (Nat × Word) → Bool
  | [] => true
  | [(a, w)] => w != resetWord a
  | (a, w) :: (b, v) :: l => w != resetWord a && decide (a < b) && RegsWf ((b, v) :: l)

/-- The word of an address. -/
def State.rd (s : State) (a : Nat) : Word := rdList a s.regs

/-- The state with an address holding a word. -/
def State.wr (s : State) (a : Nat) (w : Word) : State := { s with regs := wrList a w s.regs }

/-- The value of a field; a field of more than 32 bits spans two words, low word first (R48). -/
def State.get (s : State) (f : Field) : Nat :=
  if f.lo + f.width ≤ 32 then (s.rd f.addr).field f.lo f.width
  else ((s.rd f.addr).toNat + (s.rd (f.addr + 4)).toNat * 2 ^ 32) >>> f.lo % 2 ^ f.width

/-- The state with a field holding a value. -/
def State.put (s : State) (f : Field) (v : Nat) : State :=
  if f.lo + f.width ≤ 32 then s.wr f.addr ((s.rd f.addr).setField f.lo f.width v)
  else (s.wr f.addr ((s.rd f.addr).setField f.lo (32 - f.lo) v)).wr (f.addr + 4)
    ((s.rd (f.addr + 4)).setField 0 (f.lo + f.width - 32) (v >>> (32 - f.lo)))

/-- A one-bit field as a truth value. -/
def State.flag (s : State) (f : Field) : Bool := s.get f == 1

/-- A one-bit field set to a truth value. -/
def State.putFlag (s : State) (f : Field) (b : Bool) : State := s.put f (if b then 1 else 0)

/-- The field of the active view of a T-class register (R46). -/
def Field.active (f : Field) : Field :=
  if f.addr / 0x10000 = 6 then { f with addr := f.addr + 0x800 } else { f with addr := f.addr + 0x8000 }

/-- The active value of a T-class field. -/
def State.getA (s : State) (f : Field) : Nat := s.get f.active

/-- A signed field. -/
def State.getS (s : State) (f : Field) : Int := signed f.width (s.get f)

/-! ### Outputs and free values -/

/-- The state after the module has sent something out. -/
def State.emit (s : State) (o : Output) : State := { s with outbox := o :: s.outbox }

/-- The PASID of a DMA request for a slice; none while PASID Enable is 0 (R132). -/
def State.pasidOf (s : State) (slice : Nat) : Option Nat :=
  if s.flag Reg.HIF_LINK_PASID_EN then some (s.get (Reg.SLC_SLICE_ID_PASID slice)) else none

/-- A DMA write for a slice leaves; while Bus Master Enable is 0 the module issues none (R132). -/
def State.dmaOut (s : State) (slice : Nat) (d : Dma) : State :=
  if s.flag Reg.HIF_LINK_BME then s.emit (.dma (s.pasidOf slice) d) else s

/-- What a command gives beside its completion: into the buffer of its slice, or to the service console (R146, R650). -/
def State.answer (s : State) (q : Req) (d : Dma) : State :=
  if q.ring.isSome then s.dmaOut q.slice d else s.emit (.console d)

/-- A free value for the current draw (assumption 5). -/
def State.free (s : State) : Nat := Config.freeValue s.freeCtr

/-- The state after a draw. -/
def State.drawn (s : State) : State := { s with freeCtr := s.freeCtr + 1 }

/-! ### Module time (R11, R21, R187) -/

/-- Units of module time in a nanosecond. -/
def nsUnit : Nat := 2 ^ 32

/-- Module time in whole TAI nanoseconds. -/
def State.ns (s : State) : Nat := s.time / nsUnit

/-- The samples per second that a RATE code names (R19). -/
def rateHz : Nat → Nat
  | 0 => 4000
  | 1 => 4800
  | 2 => 12800
  | _ => 14400

/-- Whether module time t (units) has reached x µs after the sample instant of tick n at rate f, exactly (R21):
t ≥ n × 10^9 / f ns + x µs. -/
def reached (t n f xUs : Nat) : Bool := decide (n * 1000000000 * nsUnit + xUs * 1000 * nsUnit * f ≤ t * f)

/-- The first instant, in units of module time, at or after x µs past t_n. -/
def instantOf (n f xUs : Nat) : Nat := (n * 1000000000 * nsUnit + xUs * 1000 * nsUnit * f + f - 1) / f

/-- The tick n with t_n ≤ time < t_{n+1} (R68), by the rate in force; 0 while module time does not run. -/
def State.tickNow (s : State) : Nat := if s.timeRun then s.time * s.tg.f / (1000000000 * nsUnit) else 0

/-- Where module time wraps, in units: 2^48 seconds (R187). -/
def timeTop : Nat := 2 ^ 48 * 1000000000 * nsUnit

/-- Module time moved on to an instant that the command stands for; time never runs back, and no module time lies at or beyond
2^48 s (R187; assumption 8). -/
def State.advance (s : State) (t : Nat) : State := if t < timeTop then { s with time := max s.time t } else s

/-- One counter cycle: while module time runs, the increment in force is added, modulo 2^48 s (R187; assumption 1). -/
def State.counterCycle (s : State) : State :=
  if s.timeRun then { s with time := (s.time + s.tim.incr) % timeTop } else s

/-- The 80-bit timestamp of an instant in ns: 48 bits of seconds, then 32 bits of nanoseconds, as the number that its ten bytes
hold, byte 0 lowest (R7, R11). -/
def stamp80 (ns : Nat) : Nat := ns / 1000000000 % 2 ^ 48 + ns % 1000000000 * 2 ^ 48

/-- The decision instant d_n = t_n + ρ + T in units (R11, R21). -/
def State.decisionInstant (s : State) (n : Nat) : Nat := instantOf (n + 1) s.tg.f s.tg.rho

/-- The vote instant v_n = d_n − 8 µs. -/
def State.voteInstant (s : State) (n : Nat) : Nat := s.decisionInstant n - 8000 * nsUnit

/-- The first tick boundary that is not yet processed. -/
def State.nextBoundary (s : State) : Nat := s.tg.next

/-! ### Module states (R106) -/

/-- Codes of the module states (R106). -/
def stOff : Nat := 0
def stVigil : Nat := 1
def stReset : Nat := 2
def stBoot : Nat := 3
def stSync : Nat := 4
def stShadow : Nat := 5
def stActive : Nat := 6
def stSolo : Nat := 7
def stSafe : Nat := 8
def stService : Nat := 9

/-- The module state (R106, R124). -/
def State.st (s : State) : Nat := s.get Reg.GLB_STATE_STATE

/-- Whether the main domain is absent (R72, R228). -/
def State.mainAbsent (s : State) : Bool := s.st == stOff || s.st == stVigil

/-- A main state after BOOT: commands are taken, blocks of R53 without an enable field are enabled. -/
def State.ready (s : State) : Bool := decide (stSync ≤ s.st) && decide (s.st ≤ stService)

/-! ### Event flags (R61, R62) -/

/-- The register word and bit that hold the flag of an event source (R61). Mailbox flags are MB_EVCLR of the
doorbell pages (R165). -/
def srcLoc (i : Nat) : Nat × Nat :=
  if i < 8 then (0x40, i)
  else if i < 16 then (0x10020, i - 8)
  else if i < 24 then (0x40068, i - 16)
  else if i < 32 then (0x5008C, i - 24)
  else if i < 56 then (0x60010, i - 32)
  else if i < 64 then (0x70010, i - 56)
  else if i < 72 then (0x8001C, i - 64)
  else if i < 80 then (0x9001C, i - 72)
  else if i < 88 then (0xA0018, i - 80)
  else if i < 96 then (0xB0020, i - 88)
  else if i < 104 then (0xC001C, i - 96)
  else if i < 112 then (0xD0020, i - 104)
  else if i < 116 then (0xE0030, i - 112)
  else if i < 120 then (0xF0034, i - 116)
  else if i < 128 then (0x10004C, i - 120)
  else if i < 136 then (0x110024, i - 128)
  else if i < 144 then (0x120018, i - 136)
  else if i < 152 then (0x130038, i - 144)
  else if i < 160 then (0x140018, i - 152)
  else if i < 168 then (0x150018, i - 160)
  else if i < 172 then (0x160014, i - 168)
  else if i < 176 then (0x170014, i - 172)
  else if i < 180 then (0x180014, i - 176)
  else if i < 184 then (0x20014, i - 180)
  else if i < 192 then (0x30010, i - 184)
  else if i < 1216 then (0x20100 + 4 * ((i - 192) / 32), (i - 192) % 32)
  else (0x20021C + 0x1000 * (i - 1216), 0)

/-- The field of an event source's flag. -/
def srcField (i : Nat) : Field := ⟨(srcLoc i).1, (srcLoc i).2, 1⟩

/-- The value of source flag i. -/
def State.srcFlag (s : State) (i : Nat) : Bool := s.flag (srcField i)

/-- The mask bit of an MSI-X vector's control word, and its bit of the pending-bit array (R130). -/
def msixMask (v : Nat) : Field := ⟨0x400000 + 16 * v + 12, 0, 1⟩
def msixPend (v : Nat) : Field := ⟨0x408000 + 4 * (v / 32), v % 32, 1⟩

/-- MSI-X Enable and Function Mask of configuration space. -/
def msixEnable : Field := ⟨0x500050, 31, 1⟩
def msixFnMask : Field := ⟨0x500050, 30, 1⟩

/-- Whether the PCI Express rules let a vector's message out: MSI-X is enabled, neither the function nor the vector is masked, and Bus
Master Enable is 1 (R62, R132; assumption 31). -/
def State.msixOpen (s : State) (v : Nat) : Bool :=
  s.flag msixEnable && !s.flag msixFnMask && s.flag Reg.HIF_LINK_BME && !s.flag (msixMask v)

/-- A vector is signalled: the message is sent, or its pending bit is set while it cannot be (R62, PCI Express; assumption 31). -/
def State.signal (s : State) (v : Nat) : State :=
  if s.msixOpen v then s.emit (.msix v) else s.put (msixPend v) 1

/-- An occurrence sets source flag i; on 0 to 1 the routed vector is signalled (R62). -/
def State.event (s : State) (i : Nat) : State :=
  if s.srcFlag i then s
  else
    let s1 := s.put (srcField i) 1
    if s1.flag (Reg.EVT_SRC_MSIX_EN i) then s1.signal (s1.get (Reg.EVT_SRC_VECTOR i)) else s1

/-- The event of source i, where a condition holds. -/
def State.eventIf (s : State) (c : Bool) (i : Nat) : State := if c then s.event i else s

/-! ### Event queues, counters -/

/-- An EVQ entry is posted on its way to the rings of a slice; EVQ_WRITE delivers it (R42, R147). -/
def State.post (s : State) (slice kind : Nat) (payload : List (Nat × Nat × Nat)) : State :=
  { s with evqPosted := s.evqPosted ++ [⟨slice, kind, payload⟩] }

/-- The KIND 4 entry of a counter field that has reached its maximum (R147); `slice` is the owner of a ring's counter. -/
def State.postSaturated (s : State) (slice : Nat) (f : Field) : State :=
  s.post slice 4 [(4, 1, f.addr / 0x10000), (6, 2, f.addr % 0x10000), (8, 1, f.lo)]

/-- A saturating counter rises by k; on reaching its maximum it posts a KIND 4 entry to the slice (R147). -/
def State.countFor (s : State) (slice : Nat) (f : Field) (k : Nat) : State :=
  let v := s.get f
  let top := 2 ^ f.width - 1
  if v = top then s
  else if v + k < top then s.put f (v + k)
  else (s.put f top).postSaturated slice f

/-- A saturating counter of slice 0 rises by k. -/
def State.countBy (s : State) (f : Field) (k : Nat) : State := s.countFor 0 f k

/-- A saturating counter rises by one. -/
def State.count (s : State) (f : Field) : State := s.countBy f 1

/-- A counter modulo its width rises by k. -/
def State.countMod (s : State) (f : Field) (k : Nat) : State := s.put f ((s.get f + k) % 2 ^ f.width)

/-- A rejected write to offset `off` of block blk is recorded (R59, R60). -/
def State.reject (s : State) (blk off reason : Nat) : State :=
  let a := blk * 0x10000 + 0xC
  let w := s.rd a
  let more := if w.field 31 1 = 1 then 1 else 0
  s.wr a (BitVec.ofNat 32 (2 ^ 31 + more * 2 ^ 30 + reason * 2 ^ 24 + off % 2 ^ 16))

/-- A register access of R49 is recorded; kind 0 reserved address, 1 write to RO, 2 partial write. -/
def State.badAccess (s : State) (kind a : Nat) : State :=
  (((s.put Reg.EVT_BADACC_OFFSET a).put Reg.EVT_BADACC_KIND kind).put Reg.EVT_BADACC_VALID 1).count
    Reg.EVT_BADACC_CNT_COUNT

/-! ### The event journal (R671, R672) -/

/-- Bytes of the immediate write queue (R671). -/
def queueBytes (l : List Immediate) : Nat := (l.map Immediate.bytes).sum

/-- A write enters the queue in order of entry; QUEUE shows its bytes (R671, R681). -/
def State.queueWrite (s : State) (w : Immediate) : State :=
  let q := s.journal.queue ++ [w]
  { s with journal := { s.journal with queue := q } }.put Reg.PER_QUEUE_BYTES (min (queueBytes q) 65535)

/-- Whether a journal entry is a fault record (R672). -/
def jIsFault : JEntry → Bool
  | .fault _ => true
  | _ => false

/-- The waiting entries without the one that R672 drops: the oldest that is no fault record, else the oldest. -/
def dropWaiting (l : List JEntry) : List JEntry :=
  if l.any fun e => !jIsFault e then l.eraseP fun e => !jIsFault e else l.drop 1

/-- An entry goes to the event journal: into the write queue, or to the waiting entries when the queue is full, of
which one is dropped and counted when 256 wait (R672). -/
def State.journalAdd (s : State) (e : JEntry) : State :=
  if queueBytes s.journal.queue + 64 ≤ 16384 && s.journal.waiting.isEmpty then
    { s with journal := { s.journal with dropped := 0 } }.queueWrite (.journal e (min s.journal.dropped 255))
  else if s.journal.waiting.length < 256 then
    let s0 := { s with journal := { s.journal with waiting := s.journal.waiting ++ [e] } }
    let s1 := s0.put Reg.PER_QUEUE_HELD_MAX (max (s0.get Reg.PER_QUEUE_HELD_MAX) s0.journal.waiting.length)
    if s1.journal.waiting.length = 256 then (s1.put Reg.PER_STATUS_HELD_FULL 1).event 170 else s1
  else
    ({ s with journal := { s.journal with
        waiting := dropWaiting s.journal.waiting ++ [e], dropped := s.journal.dropped + 1 } }).count
      Reg.PER_DROPPED_COUNT

/-- A KIND 4 journal entry: block, code, detail (R669). -/
def State.note (s : State) (block code detail : Nat) : State :=
  s.journalAdd (.other block code detail s.ns s.tickNow)

/-- A KIND 4 journal entry whose code and detail the spec does not state: both are free values (assumption 5). -/
def State.noteOpen (s : State) (block : Nat) : State :=
  (s.note block (s.free % 256) (Config.freeValue (s.freeCtr + 1) % 2 ^ 32)).drawn.drawn

/-! ### Pair messages (R424, R425) -/

/-- A lane of the Vexza link carries messages: P8 or P9 is UP (R424). State code 4 is UP (R240). -/
def stUp : Nat := 4
def State.portUp (s : State) (p : Nat) : Bool := s.get (Reg.MACP_STAT_STATE p) == stUp
def State.linkUp (s : State) : Bool := s.portUp 8 || s.portUp 9

/-- A pair message is sent on every lane that is UP; SEQ rises by one (R424, R425). -/
def State.pairSend (s : State) (tick : Nat) (b : PairBody) : State :=
  let s1 := { s with pair := { s.pair with seqOut := s.pair.seqOut + 1 } }
  let m : PairMsg := ⟨s1.pair.seqOut, tick, b⟩
  let s2 := if s.portUp 8 then s1.emit (.pair 8 m) else s1
  if s.portUp 9 then s2.emit (.pair 9 m) else s2

/-- The payload of a frame of the copy stream in bytes: 8 for the index and value of a state word, and 8 for each word of a control
block's sequence state, whose layout is the model's (R427, R438, assumption 77). -/
def streamBytes : PairBody → Nat
  | .copy entries seqs => 8 * entries.length + (seqs.map fun w => 8 * w.length).sum
  | _ => 0

/-- State words in COPY frames of at most 2,048 bytes of payload (R427). -/
def copyFrames : Nat → List (Nat × Nat) → List PairBody
  | 0, _ => []
  | _ + 1, [] => []
  | k + 1, e :: l => .copy ((e :: l).take 256) [] :: copyFrames k ((e :: l).drop 256)

/-- The COPY frames of state words and of sequence states, a control block to a frame. -/
def copyBodies (entries : List (Nat × Nat)) (seqs : List (List Nat)) : List PairBody :=
  copyFrames entries.length entries ++ seqs.map fun w => .copy [] [w]

/-- The donor's stream gets more to send for tick n. -/
def State.streamAdd (s : State) (n : Nat) (l : List PairBody) : State :=
  { s with pair := { s.pair with
    stream := s.pair.stream ++ l.map fun b => (n, b),
    streamAt := if s.pair.stream.isEmpty then max s.pair.streamAt s.time else s.pair.streamAt } }

/-- What the stream has had time to send goes out, in order, at 6.0 GB/s (R438): a frame is sent once the one before it is done, so
that every other pair message yields at most to one COPY frame (R427). -/
def State.streamOut (s : State) : Nat → State
  | 0 => s
  | k + 1 =>
    match s.pair.stream with
    | [] => s
    | (n, b) :: l =>
      if s.time < s.pair.streamAt then s
      else
        let s1 := { s with pair := { s.pair with stream := l, streamAt := s.pair.streamAt + streamBytes b * nsUnit / 6 } }
        (s1.pairSend n b).streamOut k

/-- The stream runs on to the present instant. -/
def State.streamNow (s : State) : State := s.streamOut s.pair.stream.length

/-! ### Faults (R66–R68, R705) -/

/-- The module's health: the highest class among the active faults (R67). -/
def healthOf (l : List ActiveFault) : Nat := l.foldl (fun h a => max h a.record.cls) 0

/-- HEALTH follows the active faults; source 1 on a change (R125). -/
def State.refreshHealth (s : State) : State :=
  let h := healthOf s.faults
  if s.get Reg.GLB_STATE_HEALTH = h then s else (s.put Reg.GLB_STATE_HEALTH h).event 1

/-- A fault record leaves: to the journal, to the EVQ rings of its slice (slice 0 when none, R147), and to the
partner when its class is F1 or higher (R428). -/
def State.report (s : State) (r : FaultRec) : State :=
  let s1 := s.journalAdd (.fault r)
  let s2 := s1.post (if r.slice = 0xFFFF then 0 else r.slice) 0
    [(4, 2, r.code), (6, 1, r.cls), (7, 1, (if r.raised then 1 else 0) + (if r.partner then 2 else 0)),
     (8, 10, stamp80 r.time), (18, 2, r.slice), (20, 4, r.detail), (24, 4, r.tick % 2 ^ 32)]
  if 1 ≤ r.cls && s.flag Reg.PAIR_STATUS_PARTNER then s2.pairSend s2.tickNow (.fault r) else s2

/-- Whether an instance of a fault is active (R705). -/
def State.isActive (s : State) (code inst : Nat) : Bool :=
  s.faults.any fun a => a.record.code == code && a.inst == inst

/-- Whether any instance of a code is active. -/
def State.anyActive (s : State) (code : Nat) : Bool := s.faults.any fun a => a.record.code == code

/-- A raise without the class response: nothing where the instance is active already (R705); F0 only reports. -/
def State.raiseRecord (s : State) (code cls inst slice detail : Nat) : State :=
  if cls ≠ 0 && s.isActive code inst then s
  else
    let r : FaultRec := ⟨code, cls, true, false, s.ns, slice, detail, s.tickNow⟩
    let s1 := if cls = 0 then s else { s with faults := s.faults ++ [⟨inst, r⟩] }
    (s1.report r).refreshHealth

/-- The records of clearing faults, oldest raise first, each with the DETAIL of its raise (R705). -/
def State.reportClears (s : State) : List ActiveFault → State
  | [] => s
  | a :: l => State.reportClears
      (s.report { a.record with raised := false, time := s.ns, tick := s.tickNow }) l

/-- Every active fault that satisfies p clears (R67, R705). -/
def State.clearWhere (s : State) (p : ActiveFault → Bool) : State :=
  let gone := s.faults.filter p
  let s1 := { s with faults := s.faults.filter fun a => !p a }
  (s1.reportClears gone).refreshHealth

/-- One instance of a fault clears; no effect when it is not active (R705). -/
def State.clearFault (s : State) (code inst : Nat) : State :=
  s.clearWhere fun a => a.record.code == code && a.inst == inst

/-- Every instance of a code clears. -/
def State.clearCode (s : State) (code : Nat) : State := s.clearWhere fun a => a.record.code == code

/-! ### Custody given up, state changes, SAFE -/

/-- CUSTODY and PERMIT follow the gate; sources 90 and 98 at a change (R443). -/
def State.gateBits (s : State) (b : Bool) : State :=
  let changed := s.pair.gateOpen != b
  (((({ s with pair := { s.pair with gateOpen := b } }.putFlag Reg.PAIR_STATUS_CUSTODY b).putFlag Reg.PUB_STATUS_PERMIT b).eventIf
    changed 90).eventIf changed 98)

/-- Safe mode and the safe form end. -/
def State.endSafeMode (s : State) : State :=
  let form := s.pub.safeForm
  let s1 := { s with pair := { s.pair with safeMode := false }, pub := { s.pub with safeForm := false, safeSent := false } }
  (((s1.put Reg.GLB_STATE_SAFECUST 0).put Reg.PUB_STATUS_SAFEMODE 0).put Reg.PUB_STATUS_SAFEFORM 0).eventIf form 99

/-- The custody gate opens or closes (R443). A gate that closes ends safe mode and the safe form. -/
def State.setGate (s : State) (b : Bool) : State := if b then s.gateBits b else (s.gateBits b).endSafeMode

/-- CUST_HOLD is de-asserted: the gate closes and, where the module held it, RELEASE_NOTE is sent (R426, R443, R447). -/
def State.dropCustody (s : State) : State :=
  let held := s.flag Reg.GLB_STATUS_HOLD
  let s1 := (s.put Reg.GLB_STATUS_HOLD 0).setGate false
  let s2 := { s1 with pair := { s1.pair with
    trying := none, releasedAt := none, safeRelease := false, holderLostAt := if held then s.time else s1.pair.holderLostAt } }
  if held then s2.pairSend s2.tickNow .releaseNote else s2

/-- The record of an enabled ring. -/
def State.ringOf (s : State) (r : Nat) : Option RingRec := findKey RingRec.ring r s.rings

/-- The record of a ring replaced. -/
def State.setRing (s : State) (x : RingRec) : State := { s with rings := setKey RingRec.ring x s.rings }

/-- The next k entries of a ring as (position, TAG), and the ring after their write-back (R136). -/
def ringTags (x : RingRec) : Nat → List (Nat × Nat) × RingRec
  | 0 => ([], x)
  | k + 1 =>
    let size := 2 ^ x.log2size
    let y := if x.wb + 1 = size then { x with wb := 0, pass := x.pass + 1 } else { x with wb := x.wb + 1 }
    let (l, z) := ringTags y k
    ((x.wb, 1 + x.pass % 255) :: l, z)

/-- Write-backs pending on a ring, and its event flag (R153). -/
def State.coalesce (s : State) (r k : Nat) : State :=
  match s.ringOf r with
  | none => s
  | some x =>
    let n := x.coal + k
    let c := s.get (Reg.HIF_RING_COAL_COUNT r)
    let due := (c = 0 && s.get (Reg.HIF_RING_COAL_USEC r) = 0) || (c ≠ 0 && decide (c ≤ n))
    if due && !s.srcFlag (192 + r) then (s.setRing { x with coal := 0 }).event (192 + r) else s.setRing { x with coal := n }

/-- k entries of a ring are written back: their positions and TAGs, and the state with counts and flag (R136, R153). -/
def State.wroteBack (s : State) (r k : Nat) : List (Nat × Nat) × State :=
  match s.ringOf r with
  | none => ([], s)
  | some x =>
    ((ringTags x k).1, (s.setRing (ringTags x k).2).coalesce r k)

/-- A command that holds an entry of ring r writes nothing back any more: it names no ring of the part (R149). -/
def dropReq (r : Nat) (q : Req) : Req := if q.ring = some r then { q with ring := some 1024 } else q

/-- A write that waits for the persistent store with the request of ring r dropped. -/
def dropWait (r : Nat) : Immediate → Immediate
  | .config l q => .config l (q.map (dropReq r))
  | .misc w q => .misc w (q.map (dropReq r))
  | w => w

/-- The entries that ring r has taken are discarded: whatever command holds one goes on and writes nothing back (R117, R149). -/
def State.orphan (s : State) (r : Nat) : State :=
  { s with
    multi := s.multi.map fun (m : MultiCmd) => { m with req := dropReq r m.req }
    core := { s.core with bound := s.core.bound.map fun (b : BoundCmd) => { b with req := dropReq r b.req } }
    cle := { s.cle with
      write := s.cle.write.map fun w => (dropReq r w.1, w.2)
      forceOps := s.cle.forceOps.map fun f => (dropReq r f.1, f.2)
      bound := s.cle.bound.map fun b => (dropReq r b.1, b.2) }
    keys := { s.keys with op := s.keys.op.map fun (o : KeyOp) => { o with req := dropReq r o.req } }
    journal := { s.journal with queue := s.journal.queue.map (dropWait r) } }

/-- No entry of a ring is in execution. -/
def State.clearCur (s : State) (r : Nat) : State :=
  match s.ringOf r with
  | some x => s.setRing { x with cur := none }
  | none => s

/-- A completion is written back on the ring of its entry, or given to the console (R137, R146); a ring that has stopped on
an error writes nothing back (R149). -/
def State.complete (s : State) (q : Req) (st : Status) (result rflags : Nat) : State :=
  match q.ring with
  | none => s.emit (.console (.complete q st result rflags 0))
  | some r =>
    if (s.ringOf r).isNone then s
    else
      let w := s.wroteBack r 1
      let s1 := (w.2.put (Reg.HIF_RING_RSTAT_INFLIGHT r) (w.2.get (Reg.HIF_RING_RSTAT_INFLIGHT r) - 1)).put
        (Reg.HIF_RING_RSTAT_CMDBUSY r) 0
      (s1.clearCur r).dmaOut q.slice (.complete q st result rflags ((w.1.map Prod.snd).headD 0))

/-- A freeze or restore that is cut short leaves the slice as it was: rings run, MIG as before. -/
def State.cancelSliceOp (s : State) : State :=
  match s.sliceOp with
  | none => s
  | some o =>
    let rings := s.rings.map fun (x : RingRec) => if x.slice = o.slice && !o.thaw then { x with frozen := false } else x
    { s with sliceOp := none, rings := rings }.put (Reg.SLC_SLICE_STATE_MIG o.slice) (if o.thaw then 2 else 0)

/-- The multi-step commands that a state change overtakes complete with ABORTED (R120). -/
def State.abortMulti (s : State) : List MultiCmd → State
  | [] => s
  | m :: l => State.abortMulti (s.complete m.req .aborted 0 0) l

/-- The module state changes (R106, R125): PREV, source 0, the journal and EVQ entries of KIND 1, and ABORTED for the
multi-step commands in progress; a PEER proof among them no longer runs (R642). -/
def State.setState (s : State) (new reason : Nat) : State :=
  let old := s.st
  if old = new then s
  else
    let s1 := (s.put Reg.GLB_STATE_PREV old).put Reg.GLB_STATE_STATE new
    let s2 := (s1.event 0).journalAdd (.stateChange old new reason s.ns)
    let s3 := s2.post 0 1 [(4, 1, old), (5, 1, new), (6, 2, reason)]
    let s4 : State := { (s3.abortMulti s3.multi).cancelSliceOp with multi := [] }
    if s4.get Reg.KEY_STATUS_OP = 2 then s4.put Reg.KEY_STATUS_OP 0 else s4

/-- SERVICE entered or left sets source 10 (R127). -/
def State.serviceEvent (s : State) : State := s.event 10

/-- The STATUS bits of an injection go; INJECT follows what is still active (R700, R702). -/
def State.injGone (s : State) (i : Injection) : State :=
  let off := fun (v : Nat) => if (v >>> i.id) % 2 = 1 then v - 2 ^ i.id else v
  let s1 := { s with inj := s.inj.filter fun (x : Injection) => x.id ≠ i.id }
  let s2 := (s1.put Reg.FIJ_STATUS_ACTIVE (off (s.get Reg.FIJ_STATUS_ACTIVE))).put Reg.FIJ_STATUS_SLICEINJ
    (off (s.get Reg.FIJ_STATUS_SLICEINJ))
  s2.putFlag Reg.GLB_STATUS_INJECT (s2.inj.any fun x => x.active)

/-- An injection ends with a reason: its record and source 177 (R699, R704); one that has not taken effect only goes. -/
def State.endInj (s : State) (i : Injection) (reason : Nat) : State :=
  if i.active then ((s.injGone i).raiseRecord 0x1802 0 0 0xFFFF (i.id + reason * 256)).event 177 else s.injGone i

/-- Every injection ends with a reason. -/
def State.endInjections (s : State) (reason : Nat) (l : List Injection) : State :=
  l.foldl (fun (s : State) i => s.endInj i reason) s

/-- A solve that runs ends with ABORTED (R615): outcome 8, FAILS, source 145, fault 0x1301. -/
def State.abortSolve (s : State) : State :=
  if s.flag Reg.RCK_STATUS_SOLVING then
    let s1 := ((s.put Reg.RCK_STATUS_SOLVING 0).put Reg.RCK_STATUS_BUILDING 0).put Reg.RCK_STATUS_LAST 8
    let s2 := ((s1.count Reg.RCK_FAILS_COUNT).count Reg.RCK_SOLVES_COUNT).event 145
    let s3 := { s2 with rck := { s2.rck with cur := none } }
    if s3.isActive 0x1301 0 then s3 else s3.raiseRecord 0x1301 1 0 0xFFFF (8 + (s3.get Reg.RCK_SOLVE_ID_ID % 2 ^ 24) * 256)
  else s

/-- Entry to SAFE (R113, R124): custody is given up, the reason recorded, injections and a solve end. -/
def State.enterSafe (s : State) (reason source fcode : Nat) : State :=
  let s1 := s.dropCustody
  let s2 := ((s1.put Reg.GLB_SAFE_REASON reason).put Reg.GLB_SAFE_SOURCE source).put Reg.GLB_SAFE_FCODE fcode
  let s3 := (s2.endInjections 4 s2.inj).abortSolve
  let s4 := { s3 with keys := { s3.keys with console := false } }.put Reg.GLB_STATUS_KEEPCUST 0
  let s5 := if s.st = stService then s4.serviceEvent else s4
  let s6 := if s5.flag Reg.GLB_STATUS_REVTRIAL then
      { s5.put Reg.GLB_STATUS_REVTRIAL 0 with boot := { s5.boot with trialCut := true } }
    else s5
  s6.setState stSafe fcode

/-- What a fault of class F3 or F4 does beyond its record (R66, R113, R447): F3 ends custody, ACTIVE and SOLO become
SHADOW, SERVICE goes on without custody; F4 leads to SAFE from every main state after BOOT. -/
def State.classResponse (s : State) (code cls : Nat) : State :=
  if cls = 3 then
    let s1 := s.dropCustody
    if s.st = stActive || s.st = stSolo then s1.setState stShadow code
    else if s.st = stService then s1.put Reg.GLB_STATUS_KEEPCUST 0
    else s1
  else if cls = 4 then
    if s.ready && s.st ≠ stSafe then s.enterSafe 1 0 code else s.dropCustody
  else s

/-- A fault is raised: its record, and the response of its class where the instance was not active (R66, R705). -/
def State.raise (s : State) (code cls inst slice detail : Nat) : State :=
  if cls ≠ 0 && s.isActive code inst then s
  else (s.raiseRecord code cls inst slice detail).classResponse code cls

/-- A fault that one instance per module has, concerning no slice. -/
def State.raise1 (s : State) (code cls detail : Nat) : State := s.raise code cls 0 0xFFFF detail

/-- The fault of an instance that a unit number names, concerning no slice. -/
def State.raiseAt (s : State) (code cls inst detail : Nat) : State := s.raise code cls inst 0xFFFF detail

end Sys2Proof.Machine
end

