-- ==== Sys2Proof/Machine/Operands.lean ====
section
/-! DEFINITION. What the operands of a command are checked against: the order of R70, the module states of R120, quotas
(R161) and key slots (R637, R638). -/

namespace Sys2Proof.Machine

/-- The first status of a list of (status, fails) that fails (R70). -/
def firstFail : List (Status × Bool) → Option Status
  | [] => none
  | (st, b) :: l => if b then some st else firstFail l

/-- The conditions of a command with the one of R650 in the place of PRIV: the service console without a proof gives only the
reads of R650. -/
def State.consoleCheck (s : State) (q : Req) (l : List (Status × Bool)) : List (Status × Bool) :=
  l.takeWhile (fun x => x.1 == .version || x.1 == .param) ++ [(.priv, q.ring.isNone && !s.keys.console)] ++
    l.dropWhile (fun x => x.1 == .version || x.1 == .param)

/-- A ring's entry is there for a command: CMD_FETCH has taken one with its opcode and slice, and no command executes it yet (R146,
R148). The service console needs no entry. -/
def State.entryFor (s : State) (op : Nat) (q : Req) : Bool :=
  match q.ring with
  | none => true
  | some r => (s.ringOf r).any fun x => x.slice == q.slice && x.cur == some op && !s.flag (Reg.HIF_RING_RSTAT_CMDBUSY r)

/-- A command with opcode op from a request reaches its checks: the module takes commands (R120) and the entry is there. -/
def State.reaches (s : State) (op : Nat) (q : Req) : Bool := s.ready && s.entryFor op q

/-- A command whose entry is not completed yet holds its ring (R146). -/
def State.holdRing (s : State) (op : Nat) (q : Req) : State :=
  match q.ring with
  | none => s
  | some r => if (s.ringOf r).any fun x => x.cur == some op then s.put (Reg.HIF_RING_RSTAT_CMDBUSY r) 1 else s

/-- A command with opcode op is taken (R70, R120): never in OFF, VIGIL, RESET or BOOT; VERSION first, then the conditions in the order
of R70; the first that fails completes it with a RESULT, and `quota` tells whether a NORES sets source 184 (R161). -/
def State.commandAny (s : State) (op : Nat) (q : Req) (fails : List (Status × Bool)) (quota : Bool) (ok : State → State)
    (result : Status → Nat := fun _ => 0) : State :=
  if !s.reaches op q then s
  else
    match firstFail ((.version, q.version ≠ 1) :: fails) with
    | some st => (s.eventIf (st == .nores && quota) 184).complete q st (result st) 0
    | none => (ok s).holdRing op q

/-- A command that the console takes only after its proof (R650). -/
def State.command (s : State) (op : Nat) (q : Req) (fails : List (Status × Bool)) (quota : Bool) (ok : State → State)
    (result : Status → Nat := fun _ => 0) : State :=
  s.commandAny op q (s.consoleCheck q fails) quota ok result

/-- The module is in none of the states listed (R120). -/
def State.notIn (s : State) (l : List Nat) : Bool := !l.contains s.st

/-- State lists of R120: SYNC 4, SHADOW 5, ACTIVE 6, SOLO 7, SAFE 8, SERVICE 9. -/
def stRun : List Nat := [5, 6, 7, 9]
def stLoad : List Nat := [4, 5, 6, 7, 9]

/-! ### Quotas (R161) -/

/-- The USE field that stands for a quota field: UA–UD lie 0x28 above QA–QD. -/
def useOf (f : Field) : Field := { f with addr := f.addr + 0x28 }

/-- Whether a slice would exceed a quota by taking n more. -/
def State.overQuota (s : State) (f : Field) (n : Nat) : Bool := decide (s.get f < s.get (useOf f) + n)

/-- A slice takes n of a resource, or gives n back. -/
def State.take (s : State) (f : Field) (n : Nat) : State := s.put (useOf f) (s.get (useOf f) + n)
def State.give (s : State) (f : Field) (n : Nat) : State := s.put (useOf f) (s.get (useOf f) - n)

/-! ### Slices (R158, R163) -/

def State.sliceValid (s : State) (k : Nat) : Bool := decide (k < 256) && s.flag (Reg.SLC_SLICE_ID_VALID k)
def State.isProt (s : State) (k : Nat) : Bool := s.flag (Reg.SLC_SLICE_ID_PROT k)

/-! ### Keys (R637, R638) -/

/-- Key slot states. -/
def keyEmpty : Nat := 0
def keySealed : Nat := 1
def keyReady : Nat := 2
def keyUnusable : Nat := 3

/-- A key slot is a slice's own (R637). -/
def State.keyOwn (s : State) (k slice : Nat) : Bool :=
  decide (k < 1024) && s.get (Reg.KEY_SLOT_STATE_STATE k) ≠ keyEmpty && s.get (Reg.KEY_SLOT_POLICY_OWNER k) == slice

/-- The committed uses of a slot include one (R638). -/
def State.keyHasUse (s : State) (k use : Nat) : Bool := (s.get (Reg.KEY_SLOT_USES_USES k) >>> use) % 2 == 1

/-- Whether a TYPE fits a use (R638). -/
def typeFits (type use : Nat) : Bool :=
  if use ≤ 2 || use = 6 then type == 0
  else if use = 3 || use = 4 || use = 7 then type == 1
  else if use = 5 then type == 0 || type == 3
  else type == 3

/-- The group of a slot is locked. -/
def State.keyLocked (s : State) (k : Nat) : Bool :=
  (s.get Reg.KEY_STATUS_LOCKGRP >>> s.get (Reg.KEY_SLOT_POLICY_GROUP k)) % 2 == 1

/-- A user obtains a key (R638). -/
def State.keyUsable (s : State) (k slice use : Nat) : Bool :=
  s.keyOwn k slice && s.get (Reg.KEY_SLOT_STATE_STATE k) == keyReady && !s.keyLocked k && s.keyHasUse k use &&
    typeFits (s.get (Reg.KEY_SLOT_POLICY_TYPE k)) use

/-- A refused use sets source 158 (R638). -/
def State.keyRefused (s : State) (ok : Bool) : State := s.eventIf (!ok) 158

/-- An entry enters the key journal (R646): TYPE, CAUSE, slot, GEN, time in ns, slice, KEYID bytes 0–7, SEQ. -/
def State.keyJournal (s : State) (type cause slot gen slice kid : Nat) : State :=
  let seq := (s.get Reg.KEY_JRNL_SEQ_SEQ + 1) % 2 ^ 32
  (s.put Reg.KEY_JRNL_SEQ_SEQ seq).queueWrite (.keyLog [type, cause, slot, gen, s.ns, slice, kid % 2 ^ 64, seq])

/-- A keeper image with RAISE_FLOOR reaches SHADOW or SOLO (R633): floor record, revocations, journal; fault 0x1405 without room. -/
def State.adoptImage (s : State) : State :=
  let i := s.boot.image
  if !i.raiseFloor then s
  else
    let left := s.get Reg.KEY_SIGNERS_FLOOR_LEFT
    let up := decide (s.get Reg.KEY_SVN_FLOOR < i.svn)
    let s1 := if up && decide (0 < left) then (s.put Reg.KEY_SVN_FLOOR i.svn).put Reg.KEY_SIGNERS_FLOOR_LEFT (left - 1)
      else if up then s.raise1 0x1405 1 i.svn else s
    let bits := (List.range 4).filter fun j => (i.revoke >>> j) % 2 == 1 && j != i.signer
    let s2 := s1.put Reg.KEY_SIGNERS_REVOKED (bits.foldl (fun r j => r ||| 2 ^ j) (s1.get Reg.KEY_SIGNERS_REVOKED))
    s2.keyJournal 9 0 0xFFFF 0 0xFFFF 0

/-! ### Module-wide notes -/

/-- An EVQ entry of KIND 2: a slot's or a rod's state change (R334, R420). -/
def State.postSlot (s : State) (slice slot old new tick : Nat) : State :=
  s.post slice 2 [(4, 2, slot), (6, 1, old), (7, 1, new), (8, 8, tick)]

end Sys2Proof.Machine
end

