-- ==== Sys2Proof/Machine/Calendar.lean ====
section
/-! DEFINITION. The calendar of the backup domain: civil dates as seconds since 2000-01-01, and the crossing queue
(R213–R217, R223). -/

namespace Sys2Proof.Machine

/-- Leap years (R215). -/
def isLeap (y : Nat) : Bool := y % 4 == 0 && (y % 100 != 0 || y % 400 == 0)

/-- Days of a month. -/
def monthDays (y m : Nat) : Nat :=
  if m = 2 then (if isLeap y then 29 else 28) else if m = 4 || m = 6 || m = 9 || m = 11 then 30 else 31

/-- Days of a year before month m. -/
def daysBeforeMonth (y m : Nat) : Nat := ((List.range (m - 1)).map fun k => monthDays y (k + 1)).sum

/-- Days from 2000-01-01 to 1 January of a year. -/
def daysBeforeYear (y : Nat) : Nat := ((List.range (y - 2000)).map fun k => if isLeap (2000 + k) then 366 else 365).sum

/-- Days and seconds of the range of R215. -/
def calDays : Nat := 73049
def calEnd : Nat := 6311433600

/-- The year that holds day d counted from 1 January of year y, with the day within it. -/
def yearOf : Nat → Nat → Nat → Nat × Nat
  | 0, y, d => (y, d)
  | k + 1, y, d => let n := if isLeap y then 366 else 365; if d < n then (y, d) else yearOf k (y + 1) (d - n)

/-- The month that holds day d of a year, counted from month m on, with the day within it. -/
def monthOf (y : Nat) : Nat → Nat → Nat → Nat × Nat
  | 0, m, d => (m, d)
  | k + 1, m, d => if d < monthDays y m then (m, d) else monthOf y k (m + 1) (d - monthDays y m)

/-- Year, month and day of a day counted from 2000-01-01. -/
def civilOf (d : Nat) : Nat × Nat × Nat :=
  let (y, r) := yearOf 199 2000 d
  let (m, k) := monthOf y 11 1 r
  (y, m, k + 1)

/-- The weekday of a day counted from 2000-01-01, a Saturday: 1 Monday to 7 Sunday (R217). -/
def weekdayOf (d : Nat) : Nat := (d + 5) % 7 + 1

/-- What a register in the layout of CAL_DATE shows of the calendar's date: YEAR has 11 bits, the calendar itself runs to 2199
(R215, R231, assumption 40). -/
def shownDate (w : Word) : Word := w &&& 0x07FFFFFF

/-- The day count of a date of the calendar: the layout of CAL_DATE with a year of 12 bits. -/
def dayOfDate (w : Nat) : Nat :=
  let y := w / 2 ^ 16 % 2 ^ 12
  daysBeforeYear y + daysBeforeMonth y (w / 2 ^ 8 % 16) + (w % 32 - 1)

/-- The second of the day of a time in the layout of CAL_TIME. -/
def secOfTime (w : Nat) : Nat := w / 2 ^ 16 % 32 * 3600 + w / 2 ^ 8 % 64 * 60 + w % 64

/-- A date of the calendar, from a day count and a weekday. -/
def dateWord (d wday : Nat) : Nat := let (y, m, k) := civilOf d; y * 2 ^ 16 + wday * 2 ^ 12 + m * 2 ^ 8 + k

/-- A time in the layout of CAL_TIME, from a second of the day. -/
def timeWord (x : Nat) : Nat := x / 3600 * 2 ^ 16 + x / 60 % 60 * 2 ^ 8 + x % 60

/-- Whether a staged date and time are a date and a time of R215 (R216). -/
def stagedOk (date time : Nat) : Bool :=
  let y := date / 2 ^ 16 % 2 ^ 12
  let m := date / 2 ^ 8 % 16
  let k := date % 32
  let wd := date / 2 ^ 12 % 8
  decide (2000 ≤ y) && decide (y ≤ 2199) && decide (1 ≤ m) && decide (m ≤ 12) && decide (1 ≤ k) && decide (k ≤ monthDays y m) &&
    decide (1 ≤ wd) && decide (time / 2 ^ 16 % 32 ≤ 23) && decide (time / 2 ^ 8 % 64 ≤ 59) && decide (time % 64 ≤ 59)

/-- The calendar in seconds since 2000-01-01 00:00:00. -/
def State.calSecs (s : State) : Nat := dayOfDate (s.rd 0x50018).toNat * 86400 + secOfTime (s.rd 0x5001C).toNat

/-- The calendar takes a second and a weekday. -/
def State.putCal (s : State) (secs wday : Nat) : State :=
  (s.wr 0x50018 (BitVec.ofNat 32 (dateWord (secs / 86400) wday))).wr 0x5001C (BitVec.ofNat 32 (timeWord (secs % 86400)))

/-- Seconds from the calendar's range start, 2000-01-01, to the PTP epoch's count: 1970-01-01 is 10,957 days earlier. -/
def epochSecs : Nat := 10957 * 86400

/-- The TAI second of the calendar (R223). -/
def State.calTai (s : State) : Nat :=
  ((epochSecs + s.calSecs : Nat) - s.getS Reg.RTC_UTC_OFFSET_ZONE * 900 - s.get Reg.RTC_STATUS_DST * 3600 +
    s.get Reg.RTC_UTC_OFFSET_OFFSET : Int).toNat

/-- A write enters the crossing queue of 4 entries, or is lost (R213). -/
def State.rtcQueue (s : State) (w : RtcWrite) : State :=
  if 4 ≤ s.rtc.queue.length then (s.put Reg.RTC_STATUS_QFULL 1).event 31
  else { s with rtc := { s.rtc with queue := s.rtc.queue ++ [w] } }.put Reg.RTC_STATUS_SYNC_BUSY 1

/-- The keeper keeps UTC_OFFSET.OFFSET from PTP's currentUtcOffset (R196): a value that differs from the one that will stand there
crosses like every write to the backup domain (R213), with ZONE and LEAP as they will stand. -/
def State.keepUtcOffset (s : State) (v : Nat) : State :=
  let w := (s.rtc.queue.reverse.find? fun x => x.off == 0x30).elim (s.rd 0x50030).toNat RtcWrite.data
  let d := w / 256 * 256 + v % 256
  if d = w then s else s.rtcQueue { off := 0x30, data := d }

/-- The keeper writes the calendar from module time when the class becomes LOCKED while OSF is 1 (R223). -/
def State.calFromTime (s : State) : State :=
  if !s.flag Reg.RTC_STATUS_OSF then s
  else
    let civil : Int := (s.ns / 1000000000 : Nat) - (s.get Reg.RTC_UTC_OFFSET_OFFSET : Int) +
      s.getS Reg.RTC_UTC_OFFSET_ZONE * 900 + s.get Reg.RTC_STATUS_DST * 3600 - (epochSecs : Int)
    if civil < 0 || (calEnd : Int) ≤ civil then s
    else
      let x := civil.toNat
      s.rtcQueue { off := 0x24, data := (s.ns % 1000000000) * 32768 / 1000000000 * 2 ^ 16 + 1,
                   date := dateWord (x / 86400) (weekdayOf (x / 86400)), time := timeWord (x % 86400) }

end Sys2Proof.Machine
end

