-- ==== Sys2Proof/Machine/TimeBase.lean ====
section
/-! DEFINITION. The time base: increment, phase step, classes and holdover, PTP, reference, gate control lists, PPS and
edge capture (R187–R211). -/

namespace Sys2Proof.Machine

/-- Codes of the time class (R193). -/
def clsNone : Nat := 0
def clsSeeded : Nat := 1
def clsFreeRun : Nat := 2
def clsHoldover : Nat := 3
def clsLocked : Nat := 4

/-- The time class changes; source 16 (R193, R210). -/
def State.setClass (s : State) (c : Nat) : State :=
  if s.get Reg.TIM_STATUS_CLASS = c then s else (s.put Reg.TIM_STATUS_CLASS c).event 16

/-- Some function slot is in SHADOW_RUN (3) or RUNNING (4) (R32, R188). -/
def State.computing (s : State) : Bool := s.slots.any fun x => x.state == 3 || x.state == 4

/-- The permitted ends of the increment as UQ8.32: 1.5984–1.6016 ns, or 1.59984–1.60016 ns while slots compute, rounded
into the range (R188). -/
def incrRange (computing : Bool) : Nat × Nat :=
  if computing then ((159984 * 2 ^ 32 + 99999) / 100000, 160016 * 2 ^ 32 / 100000)
  else ((15984 * 2 ^ 32 + 9999) / 10000, 16016 * 2 ^ 32 / 10000)

/-- The increments (newest first, each with the instant since which it held) that held at or after an instant: those that began
after it, and the one in force at it (R193). -/
def keepFrom (low : Nat) : List (Nat × Nat) → List (Nat × Nat)
  | [] => []
  | (t, v) :: l => if t ≤ low then [(t, v)] else (t, v) :: keepFrom low l

/-- The span over which R193 takes the mean of the increment, in units. -/
def meanSpan : Nat := 64000000000 * nsUnit

/-- An increment is applied, clamped to the permitted range (R188). -/
def State.applyIncr (s : State) (v : Nat) : State :=
  let (lo, hi) := incrRange s.computing
  let c := if v < lo then lo else if hi < v then hi else v
  let s1 := { s with tim := { s.tim with incr := c, history := (s.time, c) :: keepFrom (s.time - meanSpan) s.tim.history } }
  if c = v then s1 else s1.put Reg.TIM_STATUS_INCR_CLAMP 1

/-- The increment in force is clamped where it lies outside the permitted range, as when a slot enters SHADOW_RUN (R188). -/
def State.clampIncr (s : State) : State :=
  let (lo, hi) := incrRange s.computing
  if s.tim.incr < lo || hi < s.tim.incr then s.applyIncr s.tim.incr else s

/-- INCR_HI_WRITE (R110, R188): the integer part with the staged fraction. -/
def incrHiWrite (data : Word) (s : State) : State :=
  if s.st = stBoot then s.reject 4 0x1C 3 else
  let s1 := s.put Reg.TIM_INCR_HI_INT (data.field 0 8)
  s1.applyIncr (data.field 0 8 * 2 ^ 32 + s1.get Reg.TIM_INCR_LO_FRAC)

def execIncrHiWrite (data : Word) (s : State) : Host.Outcome State Fault Refusal := .next (incrHiWrite data s)

/-- STEP_HI_WRITE (R110, R190): 0 is accepted at once; beyond 1,000 ns while slots compute the step is refused; otherwise it is
armed, in place of an earlier one. -/
def stepHiWrite (data : Word) (s : State) : State :=
  if s.st = stBoot then s.reject 4 0x30 3 else
  let s1 := s.put Reg.TIM_STEP_HI_NS data.toNat
  let v := signed 64 (data.toNat * 2 ^ 32 + s1.get Reg.TIM_STEP_LO_NS)
  if v = 0 then
    ({ s1 with tim := { s1.tim with armed := none } }.put Reg.TIM_STATUS_STEP_PEND 0).event 17
  else if s1.computing && decide (1000 < v.natAbs) then
    let s2 := { s1 with tim := { s1.tim with armed := none } }.put Reg.TIM_STATUS_STEP_PEND 0
    ((s2.put Reg.TIM_STATUS_STEP_REFUSED 1).event 18).raise1 0x0405 0 (s1.get Reg.TIM_STEP_LO_NS)
  else { s1 with tim := { s1.tim with armed := some v, armedAt := s.time } }.put Reg.TIM_STATUS_STEP_PEND 1

def execStepHiWrite (data : Word) (s : State) : Host.Outcome State Fault Refusal := .next (stepHiWrite data s)

/-- TIME_COUNTER_MISMATCH (R195): fault 0x0404. -/
def execTimeCounterMismatch (s : State) : Host.Outcome State Fault Refusal := .next (s.raise1 0x0404 3 0)

/-- The sum of the increments in force from `low` to `now`, each times how long it held, and the time they cover (R193). -/
def sumIncr (low now : Nat) : List (Nat × Nat) → Nat × Nat
  | [] => (0, 0)
  | (t, v) :: l =>
    if t ≤ low then (v * (now - low), now - low)
    else let (a, d) := sumIncr low t l; (a + v * (now - t), d + (now - t))

/-- The mean of the increment over the last 64 s, rounded half away from zero (R8, R193). -/
def State.meanIncr (s : State) : Nat :=
  let (a, d) := sumIncr (s.time - meanSpan) s.time s.tim.history
  if d = 0 then s.tim.incr else (roundDiv a d).toNat

/-- Whether the servo disciplines phase to PPS_IN: PORTS = 0 and PPS_DISC = 1 (R196). LOCKSRC shows it. -/
def State.ppsMode (s : State) : Bool := s.get Reg.TIM_PTP_CFG_PORTS == 0 && s.flag Reg.TIM_PTP_CFG_PPS_DISC

/-- HOLDOVER is entered: INCR held at its mean over 64 s, fault 0x0401 (R193, R211). -/
def State.enterHoldover (s : State) : State :=
  let s1 := { s with tim := { s.tim with incr := s.meanIncr, holdStart := s.time, lockRun := 0, unlockRun := 0 } }
  (s1.setClass clsHoldover).raise1 0x0401 1 (if s.ppsMode then 1 else 0)

/-- The lock criterion is met (R193): LOCKED, with the faults and UNTRUSTED of the former class cleared. -/
def State.enterLocked (s : State) : State :=
  let c := s.get Reg.TIM_STATUS_CLASS
  let s1 := (s.setClass clsLocked).calFromTime
  if c = clsHoldover then s1.clearFault 0x0401 0
  else ((s1.put Reg.TIM_STATUS_UNTRUSTED 0).clearFault 0x0402 0).clearFault 0x0406 0

/-- The parent port of PTP, or none (R209). -/
def State.ptpParent (s : State) : Nat := s.get Reg.TIM_PTP_STATE_PARENT

/-- Whether the servo takes a measurement (R193, R196): PPS_IN with PORTS = 0 and PPS_DISC = 1, else a Sync of the
domain on the parent port. -/
def State.servoTakes (s : State) (m : ServoSample) : Bool :=
  if m.pps then s.ppsMode else s.get Reg.TIM_PTP_CFG_DOMAIN == m.domain && s.ptpParent == m.port

/-- The mean link delay of a port in 2^-16 ns; 0 before its first peer-delay exchange. -/
def State.linkDelay (s : State) (p : Nat) : Int := (findKey Prod.fst p s.tim.delays).elim 0 Prod.snd

/-- The offset of a measurement in 2^-16 ns: of a Sync the reported ingress stamp, less the corrected origin time, the mean link
delay and the asymmetry (R197); of PPS_IN the distance of the edge's stamp from the nearest second, since the servo keeps the
seconds count it holds (R196). -/
def State.servoOffset (s : State) (m : ServoSample) : Int :=
  let sec : Nat := 1000000000 * 65536
  if m.pps then (m.t2 + sec / 2) % (sec : Int) - sec / 2
  else m.t2 - s.get (Reg.TIM_PORT_LAT_RX_LAT m.port) - m.t1 - s.linkDelay m.port - s.getS (Reg.TIM_PORT_ASYM_ASYM m.port)

/-- A value in 2^-16 ns as one in 1/256 ns (R8, R209). -/
def per256 (x : Int) : Int := roundDiv x 256

/-- PTP_SYNC_RX (R193, R31): the offset is shown, the increment trimmed, the runs of 8 counted; lock or its loss follows.
A HOLDOVER is left by lock only. -/
def ptpSyncRx (m : ServoSample) (s : State) : State :=
  if !s.timeRun || !s.servoTakes m then
    { s with tim := { s.tim with ignored := s.tim.ignored + 1 } }
  else
    let c := s.get Reg.TIM_STATUS_CLASS
    let ofs := s.servoOffset m
    let s1 := (s.put Reg.TIM_SERVO_OFS_OFS (unsigned 32 (saturate 32 (per256 ofs)))).put Reg.TIM_SERVO_MPD_MPD
      (if m.pps then 0 else min (per256 (s.linkDelay m.port)).toNat (2 ^ 32 - 1))
    let inLock := decide (ofs.natAbs ≤ 250 * 65536)
    let out := decide (1000 * 65536 < ofs.natAbs)
    let s2 := { s1 with tim := { s1.tim with
      lockRun := if inLock then s1.tim.lockRun + 1 else 0,
      unlockRun := if out then s1.tim.unlockRun + 1 else 0, lastSync := s1.time } }
    let s3 := s2.applyIncr m.incr
    if c ≠ clsLocked && 8 ≤ s3.tim.lockRun then s3.enterLocked
    else if c = clsLocked && 8 ≤ s3.tim.unlockRun then s3.enterHoldover
    else s3

def execPtpSyncRx (m : ServoSample) (s : State) : Host.Outcome State Fault Refusal := .next (ptpSyncRx m s)

/-- The instant, in units, at which the source counts as lost: 1.1 s after the last PPS_IN edge, or ANN_TIMEOUT Sync intervals after
the last Sync (R193). -/
def State.sourceDue (s : State) : Nat :=
  if s.ppsMode then s.tim.lastPps + 1100000000 * nsUnit
  else s.tim.lastSync + s.get Reg.TIM_PTP_CFG_ANN_TIMEOUT * 1000000000 * nsUnit / 2 ^ (-(s.getS Reg.TIM_PTP_CFG_LOG_SYNC)).toNat

/-- PTP_SOURCE_LOSS (R193): LOCKED becomes HOLDOVER at the instant the source counts as lost; another class stays. -/
def ptpSourceLoss (s : State) : State :=
  if !s.timeRun then s
  else
    let s1 := s.advance s.sourceDue
    if s1.get Reg.TIM_STATUS_CLASS = clsLocked then s1.enterHoldover else s1

def execPtpSourceLoss (s : State) : Host.Outcome State Fault Refusal := .next (ptpSourceLoss s)

/-- The instant, in units, at which the time since entry to HOLDOVER reaches HOLD_MAX as it stands (R193). -/
def State.holdDue (s : State) : Nat := s.tim.holdStart + s.get Reg.TIM_HOLD_MAX_SECS * 1000000000 * nsUnit

/-- HOLDOVER_MAX_EXPIRY (R193): HOLDOVER becomes FREE_RUN when the time since its entry reaches HOLD_MAX. -/
def holdoverMaxExpiry (s : State) : State :=
  if s.get Reg.TIM_STATUS_CLASS = clsHoldover then
    (((s.advance s.holdDue).clearFault 0x0401 0).setClass clsFreeRun).raise1 0x0402 2 0
  else s

/-- A write that sets HOLD_MAX at or below the time already spent makes it reached at once (R193). -/
def State.holdMaxWritten (s : State) : State := if s.holdDue ≤ s.time then holdoverMaxExpiry s else s

def execHoldoverMaxExpiry (s : State) : Host.Outcome State Fault Refusal := .next (holdoverMaxExpiry s)

/-- The first announce with the smallest rank, then the fewest steps: the best master of R196. -/
def bestAnnounce : List Announce → Option Announce
  | [] => none
  | a :: l => match bestAnnounce l with
    | none => some a
    | some b => if decide (a.rank < b.rank) || (a.rank == b.rank && decide (a.steps ≤ b.steps)) then some a else some b

/-- The 2-bit state of port p in PORT_ST (R209). -/
def portState (s : State) (parent p : Nat) : Nat :=
  if (s.get Reg.TIM_PTP_CFG_PORTS >>> p) % 2 = 0 then 0
  else if p = parent then 2
  else if s.flag Reg.TIM_PTP_CFG_BC && parent ≠ 0xFF && p / 2 ≠ parent / 2 then 3
  else 1

/-- PARENT and PORT_ST follow the best announce (R196, R209). -/
def State.runBmca (s : State) : State :=
  let parent := match bestAnnounce s.tim.announces with
    | some a => a.port
    | none => 0xFF
  let st := (List.range 8).foldl (fun acc p => acc + portState s parent p * 4 ^ p) 0
  (s.put Reg.TIM_PTP_STATE_PARENT parent).put Reg.TIM_PTP_STATE_PORT_ST st

/-- PTP_ANNOUNCE_RX (R196): other domains are ignored; PTP_TIMESCALE false is excluded from the best-master clock
algorithm; currentUtcOffset goes to the keeper, which keeps RTC.UTC_OFFSET. -/
def ptpAnnounceRx (m : Announce) (s : State) : State :=
  if s.get Reg.TIM_PTP_CFG_DOMAIN ≠ m.domain || (s.get Reg.TIM_PTP_CFG_PORTS >>> m.port) % 2 = 0 then
    { s with tim := { s.tim with ignored := s.tim.ignored + 1 } }
  else if !m.ptpTimescale then
    { s with tim := { s.tim with announces := dropKey Announce.port m.port s.tim.announces } }.runBmca
  else
    let s1 := { s with tim := { s.tim with announces := setKey Announce.port m s.tim.announces } }.runBmca
    if s1.ptpParent = m.port then s1.keepUtcOffset m.utcOffset else s1

def execPtpAnnounceRx (m : Announce) (s : State) : Host.Outcome State Fault Refusal := .next (ptpAnnounceRx m s)

/-- The mean link delay of an exchange in 2^-16 ns (R197): the stamps of the request's egress and the response's ingress moved to
the connector, less the peer's time between, halved. -/
def State.pdelay (s : State) (p : Nat) (x : PdelayTimes) : Int :=
  roundDiv ((x.t4 - s.get (Reg.TIM_PORT_LAT_RX_LAT p)) - (x.t1 + s.get (Reg.TIM_PORT_LAT_TX_LAT p)) - (x.t3 - x.t2)) 2

/-- PTP_PDELAY (R196, R197): the mean link delay of a port; the parent's shows in SERVO_MPD. -/
def ptpPdelay (port : Nat) (x : PdelayTimes) (s : State) : State :=
  if 7 < port || (s.get Reg.TIM_PTP_CFG_PORTS >>> port) % 2 = 0 then s
  else
    let d := s.pdelay port x
    let s1 := { s with tim := { s.tim with delays := setKey Prod.fst (port, d) s.tim.delays } }
    if s1.ptpParent = port then s1.put Reg.TIM_SERVO_MPD_MPD (min (per256 d).toNat (2 ^ 32 - 1)) else s1

def execPtpPdelay (port : Nat) (x : PdelayTimes) (s : State) : Host.Outcome State Fault Refusal := .next (ptpPdelay port x s)

/-- A class of a port is paused by its peer at an instant (R253). -/
def State.peerPaused (s : State) (p tc now : Nat) : Bool :=
  (findKey Prod.fst (16 * p + tc) s.macs.paused).any fun x => decide (now < x.2)

/-- PTP_SYNC_TX (R196, R197): a master port of a boundary clock sends Sync with the grandmaster's data in LOCKED and with
clockClass 187 in HOLDOVER; none in other classes. `pcs` is the stamp at the PCS boundary in 2^-16 ns: the origin time is that stamp
moved to the connector, in the Sync itself with ONESTEP. -/
def ptpSyncTx (port pcs : Nat) (s : State) : State :=
  let c := s.get Reg.TIM_STATUS_CLASS
  let send := fun (cls : Nat) => s.emit (.ptpSync port cls (s.flag Reg.TIM_PTP_CFG_ONESTEP) (pcs + s.get (Reg.TIM_PORT_LAT_TX_LAT port)))
  if portState s s.ptpParent port ≠ 3 || !s.portUp port || s.peerPaused port 7 s.ns then s
  else if c = clsLocked then
    match bestAnnounce s.tim.announces with
    | some a => send (a.rank.getD 1 0)
    | none => s
  else if c = clsHoldover then send 187
  else s

def execPtpSyncTx (x : SyncTx) (s : State) : Host.Outcome State Fault Refusal := .next (ptpSyncTx x.port x.pcs s)

/-- The PLL leaves REF_IN for the TCXO; source 21 (R192). -/
def State.toTcxo (s : State) : State :=
  if s.get Reg.TIM_STATUS_SRC = 1 then (s.put Reg.TIM_STATUS_SRC 0).event 21 else s

/-- REF_MEASURE (R192, R211): the deviation in 0.01 ppm. 10 measurements within ±4 ppm switch to REF_IN, one outside
±5 ppm switches back and raises 0x0403; with REF_EN = 0 nothing is measured and the PLL keeps the TCXO. -/
def refMeasure (deviation : Int) (s : State) : State :=
  if s.mainAbsent then s
  else if !s.flag Reg.TIM_CTRL_REF_EN then { s with tim := { s.tim with refRun := 0 } }.toTcxo
  else
    let run := if decide (deviation.natAbs ≤ 400) then s.tim.refRun + 1 else 0
    let s1 := { s with tim := { s.tim with refRun := run } }
    if decide (500 < deviation.natAbs) then
      ((s1.put Reg.TIM_STATUS_REF_OK 0).toTcxo).raise1 0x0403 1 (unsigned 32 deviation)
    else
      let s2 := s1.put Reg.TIM_STATUS_REF_OK 1
      if 10 ≤ run && s2.get Reg.TIM_STATUS_SRC = 0 then
        ((s2.put Reg.TIM_STATUS_SRC 1).event 21).clearFault 0x0403 0
      else s2

def execRefMeasure (deviation : Int) (s : State) : Host.Outcome State Fault Refusal := .next (refMeasure deviation s)

/-- REF_LOSS (R192, R211): the signal is lost for 2 µs; the record holds the last deviation. -/
def refLoss (deviation : Int) (s : State) : State :=
  if s.mainAbsent then s else
  let s1 := ({ s with tim := { s.tim with refRun := 0 } }.put Reg.TIM_STATUS_REF_OK 0).toTcxo
  if s.flag Reg.TIM_CTRL_REF_EN then s1.raise1 0x0403 1 (unsigned 32 deviation) else s1

def execRefLoss (deviation : Int) (s : State) : Host.Outcome State Fault Refusal := .next (refLoss deviation s)

/-! ### Gate control lists (R204, R205) -/

/-- The switch instant: ADMIN_BASE + k × ADMIN_CYCLE for the smallest k that makes it at least 10 µs after now (ns). -/
def switchInstant (base cycle now : Nat) : Nat :=
  let t := now + 10000
  if t ≤ base || cycle = 0 then base else base + (t - base + cycle - 1) / cycle * cycle

/-- A change is scheduled, unless one is pending (R205). -/
def State.gclSchedule (s : State) (p : Nat) : State :=
  if s.flag (Reg.TIM_PORT_GCL_CTRL_PEND p) then s
  else
    let base := s.get (Reg.TIM_PORT_GCL_BASE_LO_NS p) + s.get (Reg.TIM_PORT_GCL_BASE_HI_NS p) * 2 ^ 32
    let t := switchInstant base (s.get (Reg.TIM_PORT_GCL_CYCLE_NS p)) s.ns
    { s with tim := { s.tim with gclPend := setKey Prod.fst (p, t) s.tim.gclPend } }.put (Reg.TIM_PORT_GCL_CTRL_PEND p) 1

/-- A write of 0 to EN: a pending change is cancelled and all gates open (R205). -/
def gclDisable (p : Nat) (s : State) : State :=
  if 11 < p then s else
  if s.st = stBoot then s.reject 4 (0x1014 + 0x80 * p) 3 else
  ({ s with tim := { s.tim with gclPend := dropKey Prod.fst p s.tim.gclPend } }.put (Reg.TIM_PORT_GCL_CTRL_PEND p) 0).put
    (Reg.TIM_PORT_GCL_CTRL_EN p) 0

def execGclDisable (port : Nat) (s : State) : Host.Outcome State Fault Refusal := .next (gclDisable port s)

/-- GCL_CHANGE_WRITE (R205, R55): ADMIN_LEN is checked and set while no change is pending (RO otherwise, R49); CHANGE or a
rise of EN schedules the admin list; EN = 0 cancels. -/
def gclChangeWrite (p : Nat) (data : Word) (s : State) : State :=
  if 11 < p then s
  else if s.st = stBoot then s.reject 4 (0x1014 + 0x80 * p) 3
  else
    let len := data.field 16 9
    let pend := s.flag (Reg.TIM_PORT_GCL_CTRL_PEND p)
    let off := 0x1014 + 0x80 * p
    if !pend && (len = 0 || 256 < len) then s.reject 4 off 1
    else
      let s0 := if pend && len ≠ s.get (Reg.TIM_PORT_GCL_CTRL_ADMIN_LEN p) then s.badAccess 1 (0x40000 + off) else s
      let s1 := if pend then s0 else s0.put (Reg.TIM_PORT_GCL_CTRL_ADMIN_LEN p) len
      let was := s1.flag (Reg.TIM_PORT_GCL_CTRL_EN p)
      if data.field 0 1 = 0 then gclDisable p s1
      else
        let s2 := s1.put (Reg.TIM_PORT_GCL_CTRL_EN p) 1
        if data.field 1 1 = 1 || !was then s2.gclSchedule p else s2

def execGclChangeWrite (port : Nat) (data : Word) (s : State) : Host.Outcome State Fault Refusal :=
  .next (gclChangeWrite port data s)

/-- GCL_SWITCH (R205): at the switch instant the admin bank, its cycle and its switch instant as base go into
operation; source 23. -/
def gclSwitch (p : Nat) (s : State) : State :=
  match findKey Prod.fst p s.tim.gclPend with
  | none => s
  | some (_, t) =>
    let s1 := s.advance (t * nsUnit)
    let lens := setKey Prod.fst (p, s1.get (Reg.TIM_PORT_GCL_CTRL_ADMIN_LEN p)) s1.tim.gclLen
    let s2 := { s1 with tim := { s1.tim with gclPend := dropKey Prod.fst p s1.tim.gclPend, gclLen := lens } }
    let s3 := (s2.put (Reg.TIM_PORT_GCL_CTRL_PEND p) 0).put (Reg.TIM_PORT_GCL_CTRL_OPER p)
      (1 - s.get (Reg.TIM_PORT_GCL_CTRL_OPER p))
    let s4 := s3.put (Reg.TIM_PORT_GCL_OPER_CYCLE_NS p) (s.get (Reg.TIM_PORT_GCL_CYCLE_NS p))
    ((s4.put (Reg.TIM_PORT_GCL_OPER_BASE_LO_NS p) (t % 2 ^ 32)).put (Reg.TIM_PORT_GCL_OPER_BASE_HI_NS p)
      (t / 2 ^ 32)).event 23

def execGclSwitch (port : Nat) (s : State) : Host.Outcome State Fault Refusal := .next (gclSwitch port s)

/-- The list in operation as (length in ns, GATES), cut at the cycle end; the last entry holds to it (R204). -/
def gateSegs (s : State) (p bank : Nat) : Nat → Nat → Nat → List (Nat × Nat)
  | 0, _, _ => []
  | k + 1, e, left =>
    let iv := s.get (Reg.TIM_GCL_INTERVAL p bank e)
    let g := s.get (Reg.TIM_GCL_GATES p bank e)
    if k = 0 || left ≤ iv then [(left, g)] else (iv, g) :: gateSegs s p bank k (e + 1) (left - iv)

/-- The segments from a position of the cycle on, going round once. -/
def segsFrom : List (Nat × Nat) → List (Nat × Nat) → Nat → List (Nat × Nat)
  | [], acc, _ => acc
  | (d, g) :: l, acc, pos => if pos < d then (d - pos, g) :: l ++ acc ++ [(pos, g)] else segsFrom l (acc ++ [(d, g)]) (pos - d)

/-- How long the gate of class c stays open at the head of the segments; none when it never closes. -/
def openRun (c : Nat) : List (Nat × Nat) → Option Nat
  | [] => none
  | (d, g) :: l => if (g >>> c) % 2 = 1 then (openRun c l).map fun x => d + x else some 0

/-- The segments of the list in operation on a port. -/
def State.portSegs (s : State) (p : Nat) : List (Nat × Nat) :=
  gateSegs s p (s.get (Reg.TIM_PORT_GCL_CTRL_OPER p)) ((findKey Prod.fst p s.tim.gclLen).elim 0 Prod.snd) 0
    (s.get (Reg.TIM_PORT_GCL_OPER_CYCLE_NS p))

/-- The segments of the admin list of a port (R205). -/
def State.adminSegs (s : State) (p : Nat) : List (Nat × Nat) :=
  gateSegs s p (1 - s.get (Reg.TIM_PORT_GCL_CTRL_OPER p)) (s.get (Reg.TIM_PORT_GCL_CTRL_ADMIN_LEN p)) 0
    (s.get (Reg.TIM_PORT_GCL_CYCLE_NS p))

/-- Whether a list holds the gate of class c open from a position of its cycle for `len` ns. -/
def openFor (c : Nat) (segs : List (Nat × Nat)) (pos len : Nat) : Bool :=
  match openRun c (segsFrom segs [] pos) with
  | none => true
  | some x => x ≠ 0 && decide (len ≤ x)

/-- The position of an instant in the cycle in operation; after a backward step it may lie before the base (R191). -/
def State.cyclePos (s : State) (p tNs : Nat) : Nat :=
  let base := s.get (Reg.TIM_PORT_GCL_OPER_BASE_LO_NS p) + s.get (Reg.TIM_PORT_GCL_OPER_BASE_HI_NS p) * 2 ^ 32
  (((tNs : Int) - (base : Nat)) % (s.get (Reg.TIM_PORT_GCL_OPER_CYCLE_NS p) : Nat)).toNat

/-- Whether the gate of class c is open on a port at an instant (ns) and for `len` ns from it (R204); past a switch instant that is
pending the admin list decides, which starts its cycle there (R205). -/
def State.gateOpen (s : State) (p c tNs len : Nat) : Bool :=
  if !s.flag (Reg.TIM_PORT_GCL_CTRL_EN p) then true
  else
    let oper := fun (l : Nat) => s.get (Reg.TIM_PORT_GCL_OPER_CYCLE_NS p) = 0 || openFor c (s.portSegs p) (s.cyclePos p tNs) l
    match findKey Prod.fst p s.tim.gclPend with
    | some (_, t) =>
      if tNs < t && t < tNs + len then oper (t - tNs) && openFor c (s.adminSegs p) 0 (tNs + len - t) else oper len
    | none => oper len

/-- Whether a frame of `len` ns is longer than every open window of its class on a port (R204). -/
def State.gclTooLong (s : State) (p c len : Nat) : Bool :=
  let segs := s.portSegs p
  s.flag (Reg.TIM_PORT_GCL_CTRL_EN p) && !segs.isEmpty &&
    (List.range segs.length).all fun i =>
      match openRun c (segs.drop i ++ segs.take i) with
      | none => false
      | some x => decide (x < len)

/-! ### PPS and edge capture (R206–R208) -/

/-- PPS_OUT_PULSE (R206): at the next whole second PPS_OUT rises for WIDTH_MS, in LOCKED and HOLDOVER only with QUAL = 1. -/
def ppsOutPulse (s : State) : State :=
  if !s.timeRun then s
  else
    let k := (s.time + 1000000000 * nsUnit - 1) / (1000000000 * nsUnit)
    let sec := if s.tim.ppsLast = some k then k + 1 else k
    let s0 := s.advance (sec * 1000000000 * nsUnit)
    let s1 := { s0 with tim := { s0.tim with ppsLast := some sec } }
    let c := s1.get Reg.TIM_STATUS_CLASS
    if s1.flag Reg.TIM_PPS_QUAL && c ≠ clsLocked && c ≠ clsHoldover then s1
    else
      let w := s1.get Reg.TIM_PPS_WIDTH_MS
      { s1 with tim := { s1.tim with ppsUntil := s1.time + w * 1000000 * nsUnit } }.emit (.ppsOut w)

def execPpsOutPulse (s : State) : Host.Outcome State Fault Refusal := .next (ppsOutPulse s)

/-- Three words NS, SEC_LO, SEC_HI from an address on take a stamp in ns. -/
def State.putStamp (s : State) (a ns : Nat) : State :=
  ((s.put ⟨a, 0, 30⟩ (ns % 1000000000)).put ⟨a + 4, 0, 32⟩ (ns / 1000000000 % 2 ^ 32)).put ⟨a + 8, 0, 16⟩
    (ns / 1000000000 / 2 ^ 32)

/-- PPS_IN_EDGE (R207): the counter time at the edge, in units, minus 3.2 ns; within 900 ms of the last accepted edge it
is a glitch. The registers take the whole nanoseconds of the stamp: the fraction is dropped (assumption 71). -/
def ppsInEdge (stamp : Nat) (s : State) : State :=
  if !s.timeRun then s else
  let s0 := s.advance stamp
  let t := stamp - 32 * nsUnit / 10
  if s0.tim.ppsSeen && decide (t < s0.tim.lastPps + 900000000 * nsUnit) then s0.count Reg.TIM_PPS_IN_CNT_GLITCH
  else
    let s1 := { s0 with tim := { s0.tim with lastPps := t, ppsSeen := true } }
    ((s1.putStamp 0x40040 (t / nsUnit)).countMod Reg.TIM_PPS_IN_CNT_EDGES 1).put Reg.TIM_STATUS_PPS_IN_OK 1 |>.event 19

def execPpsInEdge (stamp : Nat) (s : State) : Host.Outcome State Fault Refusal := .next (ppsInEdge stamp s)

/-- An edge put in order of time; edges of one counter cycle, which share a stamp, in ascending input, rising first (R208). -/
def insertEdge (x : Nat × Nat × Bool) : List (Nat × Nat × Bool) → List (Nat × Nat × Bool)
  | [] => [x]
  | y :: l =>
    let code := fun (e : Nat × Nat × Bool) => 2 * e.2.1 + if e.2.2 then 1 else 0
    if x.1 < y.1 || (x.1 = y.1 && code x < code y) then x :: y :: l else y :: insertEdge x l

/-- DI_EDGE (R208): an edge selected in DIEDGE_EN enters the FIFO of 64 with its stamp in whole nanoseconds (assumption 71), or is
lost. -/
def diEdge (input : Nat) (falling : Bool) (stamp : Nat) (s : State) : State :=
  if !s.timeRun then s else
  let s0 := s.advance stamp
  let sel := if falling then s0.get Reg.TIM_DIEDGE_EN_FALL else s0.get Reg.TIM_DIEDGE_EN_RISE
  if 7 < input || (sel >>> input) % 2 = 0 then s0
  else if 64 ≤ s0.tim.edges.length then s0.count Reg.TIM_DIEDGE_STAT_LOST
  else
    let e := insertEdge ((stamp - 32 * nsUnit / 10) / nsUnit, input, falling) s0.tim.edges
    ({ s0 with tim := { s0.tim with edges := e } }.put Reg.TIM_DIEDGE_STAT_LEVEL e.length).event 20

def execDiEdge (input : Nat) (falling : Bool) (stamp : Nat) (s : State) : Host.Outcome State Fault Refusal :=
  .next (diEdge input falling stamp s)

/-- What a read of DIEDGE_POP does and shows (R208): the oldest entry goes and its stamp is latched. -/
def State.popEdge (s : State) : State × Word :=
  match s.tim.edges with
  | [] => (s, 0)
  | (t, i, f) :: l =>
    ((({ s with tim := { s.tim with edges := l } }.put Reg.TIM_DIEDGE_STAT_LEVEL l.length).putStamp 0x40058 t),
      BitVec.ofNat 32 (2 ^ 31 + i * 256 + if f then 1 else 0))

/-- DIEDGE_POP (R208): the value read goes out. -/
def diedgePop (s : State) : State := s.popEdge.1.emit (.regRead 0x40054 s.popEdge.2.toNat)

def execDiedgePop (s : State) : Host.Outcome State Fault Refusal := .next (diedgePop s)

/-- The high words of a three-word stamp latched by a read of its NS word (R189). -/
def State.latchSeconds (s : State) (a sec : Nat) : State :=
  { s with hiLatch := (setKey Prod.fst (a + 4, BitVec.ofNat 32 sec)
      (setKey Prod.fst (a + 8, BitVec.ofNat 32 (sec / 2 ^ 32 % 2 ^ 16)) s.hiLatch)) }

/-- The NS words whose read latches the seconds of the same instant (R189, R230). -/
def isTimeLatch (a : Nat) : Bool := a == 0x40020 || a == 0x40040 || a == 0x40058 || a == 0x50070

/-- What a read of TIME_NS, PPS_IN_NS, DIEDGE_TS_NS or RTC.EDGE_NS does and shows (R189, R230). -/
def State.timeLatch (s : State) (a : Nat) : State × Word :=
  if a = 0x40020 then (s.latchSeconds a (s.ns / 1000000000), BitVec.ofNat 32 (s.ns % 1000000000))
  else (s.latchSeconds a (s.get ⟨a + 4, 0, 32⟩ + s.get ⟨a + 8, 0, 16⟩ * 2 ^ 32), BitVec.ofNat 32 (s.get ⟨a, 0, 30⟩))

/-- TIME_LATCH_READ (R189, R230): the nanoseconds go out, and the seconds are latched for the next reads. Another address latches
nothing. -/
def timeLatchRead (addr : Nat) (s : State) : State :=
  if isTimeLatch addr then (s.timeLatch addr).1.emit (.regRead addr (s.timeLatch addr).2.toNat) else s

def execTimeLatchRead (addr : Nat) (s : State) : Host.Outcome State Fault Refusal := .next (timeLatchRead addr s)

end Sys2Proof.Machine
end

