-- ==== Sys2Proof/Machine/Rods.lean ====
section
/-! DEFINITION. Function slots: images, loading, admission, states, setting groups and the slot commands, and what a rod
computes and delivers for an image (R324–R352, R359–R401, R462, R463). -/

namespace Sys2Proof.Machine

/-- Codes of the slot states (R333). -/
def slEmpty : Nat := 0
def slLoaded : Nat := 1
def slAdmitted : Nat := 2
def slShadow : Nat := 3
def slRunning : Nat := 4
def slQuarantined : Nat := 5

/-! ### Checks of an image (R327–R330, R359, R400, R401, R462) -/

/-- Strictly rising first components. -/
def rising : List (Int × Nat) → Bool
  | (a, _) :: (b, y) :: l => decide (a < b) && rising ((b, y) :: l)
  | _ => true

/-- Whether a list holds a value twice. -/
def hasDup : List Nat → Bool
  | [] => false
  | x :: l => l.contains x || hasDup l

/-- The settings of an element within the ranges of the catalogue, for an image with `ng` groups and OUT_LEN `ol`. -/
def settingsOk (ng ol : Nat) : Cfg → Bool
  | .tap _ gm gs => decide (2 ^ 31 ≤ gm) && decide (gm < 2 ^ 32) && decide (24 ≤ gs) && decide (gs ≤ 63)
  | .gin _ m => decide (m ≤ 3)
  | .din .. => true
  | .clein .. => true
  | .dft h fn _ => decide (1 ≤ h) && decide (h ≤ 15) && (fn == 50 || fn == 60)
  | .seq _ => true
  | .pwr n => decide (1 ≤ n) && decide (n ≤ 3)
  | .freq fn _ na m vm => (fn == 50 || fn == 60) && decide (1 ≤ na) && decide (na ≤ 64) && decide (1 ≤ m) &&
      decide (m ≤ 1024) && decide (0 ≤ vm)
  | .rms fn fs nf => (fn == 50 || fn == 60) && (nf == 0 || (decide (2 ≤ nf) && decide (nf ≤ 512) && fs.isNone))
  | .hrat im => decide (0 ≤ im)
  | .mag am => decide (0 ≤ am)
  | .zloop l _ => decide (l ≤ 5)
  | .mho q _ im vm mt => decide (q ≤ 2) && decide (0 ≤ im) && decide (0 ≤ vm) && decide (mt ≤ 65535)
  | .quad q x xb rr rl _ _ im => decide (q ≤ 2) && decide (0 ≤ x) && decide (0 ≤ xb) && decide (0 ≤ rr) &&
      decide (0 ≤ rl) && decide (0 ≤ im)
  | .dir q _ lim im vm => decide (q ≤ 2) && decide (0 ≤ lim) && decide (lim ≤ 2 ^ 30) && decide (0 ≤ im) && decide (0 ≤ vm)
  | .diff q ks bm a b c s1 s2 => decide (q ≤ 2) && decide (1 ≤ ks.length) && decide (ks.length ≤ 6) && decide (bm ≤ 1) &&
      decide (0 ≤ a) && decide (0 ≤ b) && decide (0 ≤ c) && decide (0 ≤ s1) && decide (0 ≤ s2)
  | .therm a b bh bc c d e bhor _ => decide (0 ≤ a) && decide (0 ≤ b) && decide (bh < 2 ^ 40) && decide (bc < 2 ^ 40) &&
      decide (0 ≤ c) && decide (0 ≤ d) && decide (0 ≤ e) && decide (e < 2 ^ 24) && decide (bhor < 2 ^ 32)
  | .idmt q a g op rm _ rs => decide (q ≤ 2) && decide (0 ≤ a) && decide (2 ^ 24 ≤ g) && decide (2 ≤ op.length) &&
      decide (op.length ≤ 64) && (op.headD (0, 0)).1 == g && rising op && decide (rm ≤ 2) &&
      (rm != 2 || (decide (2 ≤ rs.length) && decide (rs.length ≤ 16) && rising rs && decide ((rs.getLastD (0, 0)).1 < 2 ^ 24)))
  | .cmp q k _ _ hy => decide (q ≤ 2) && decide (0 ≤ hy) && (k == .s || k == .m || k == .f || k == .i)
  | .add k cs _ => decide (1 ≤ cs.length) && decide (cs.length ≤ 4) && k != .a && k != .b
  | .mul kx ky kz => [kx, ky, kz].all fun k => k == .s || k == .m || k == .f || k == .i
  | .sel n => decide (2 ≤ n) && decide (n ≤ 8)
  | .lim lo hi => decide (lo ≤ hi)
  | .logic n inv op k _ => decide (1 ≤ n) && decide (n ≤ 16) && decide (inv < 65536) && decide (op ≤ 3) && decide (1 ≤ k) &&
      decide (k ≤ 16)
  | .timer m td td2 => decide (m ≤ 4) && decide (td < 2 ^ 32) && decide (td2 < 2 ^ 32) && ((m != 2 && m != 3) || decide (1 ≤ td))
  | .latch p q => decide (p ≤ 1) && decide (q ≤ 1)
  | .edge p => decide (p ≤ 1)
  | .ctr l p => decide (l < 2 ^ 31) && decide (p < 2 ^ 31)
  | .obit i q => decide (i ≤ 31) && (decide (q ≤ 31) || q == 0xFF)
  | .oval w q k => decide (4 * (w + if k = .p then 2 else 1) ≤ ol) && (decide (q ≤ 31) || q == 0xFF) && k != .b
  | .gsel => true
  | .topo b ps d fb _ _ => decide (1 ≤ b.length) && decide (b.length ≤ 16) && decide (ps.length ≤ 32) && ps.all (fun p => decide (p.2.2 < ng)) &&
      decide (d < ng) && (fb == 0xFF || decide (fb < ng))
  | .mirror ts => decide (1 ≤ ts.length) && decide (ts.length ≤ 8) && ts.all fun t => decide (t.1 ≤ 4095)

/-- The settings that are fixed, the others at zero (R359). -/
def fixedPart : Cfg → Cfg
  | .gin _ m => .gin 0 m
  | .din .. => .din 0 false
  | .clein .. => .clein 0 false
  | .seq _ => .seq false
  | .freq fn t na m _ => .freq fn t na m 0
  | .hrat _ => .hrat 0
  | .mag _ => .mag 0
  | .zloop .. => .zloop 0 (0, 0)
  | .mho .. => .mho 0 (0, 0) 0 0 0
  | .quad .. => .quad 0 0 0 0 0 (0, 0) (0, 0) 0
  | .dir .. => .dir 0 0 0 0 0
  | .diff _ ks .. => .diff 0 (ks.map fun _ => (0, 0)) 0 0 0 0 0 0
  | .therm .. => .therm 0 0 0 0 0 0 0 0 0
  | .idmt .. => .idmt 0 0 0 [] 0 0 []
  | .cmp _ k _ _ _ => .cmp 0 k false 0 0
  | .add k cs _ => .add k (cs.map fun _ => (0, 0)) (0, 0)
  | .mul kx ky _ => .mul kx ky .s
  | .lim .. => .lim 0 0
  | .logic n .. => .logic n 0 0 0 false
  | .timer .. => .timer 0 0 0
  | .latch .. => .latch 0 0
  | .edge _ => .edge 0
  | .ctr .. => .ctr 0 0
  | .obit .. => .obit 0 0
  | .oval .. => .oval 0 0 .s
  | c => c

/-- An element's settings hold in every group, and the fixed ones are equal (R359). -/
def elementOk (ng ol : Nat) (e : Element) : Bool :=
  e.cfgs.length == ng && e.cfgs.all (settingsOk ng ol) &&
    e.cfgs.all fun c => fixedPart c == fixedPart (e.cfgs.headD .gsel)

/-- Whether an element is a FREQ whose source is a DFT with H = 1, as FSRC asks (R373). -/
def isRefFreq (es : List Element) (k : Nat) : Bool := match es[k]? with
  | none => false
  | some e => match settings e 0, (e.ins.headD none).bind fun i => es[i.1]? with
    | .freq .., some d => (match settings d 0 with
      | .dft h _ _ => h == 1
      | _ => false)
    | _, _ => false

/-- FSRC of a DFT or RMS names such a FREQ or none; a FREQ takes a DFT with H = 1 of its own FNOM, and TRK is 1 when that DFT's FSRC
names it (R373, R376, R377). -/
def referenceOk (es : List Element) (j : Nat) (e : Element) : Bool := match settings e 0 with
  | .dft _ _ (some k) => isRefFreq es k
  | .rms _ (some k) _ => isRefFreq es k
  | .freq fn trk _ _ _ => isRefFreq es j && (match (e.ins.headD none).bind fun i => es[i.1]? with
    | some d => (match settings d 0 with
      | .dft _ fd fs => fd == fn && trk == (fs == some j)
      | _ => false)
    | none => false)
  | _ => true

/-- Whether an element is a TOPO; the mirror targets of an element. -/
def isTopo (e : Element) : Bool := match settings e 0 with
  | .topo .. => true
  | _ => false
def mirrorTargets (e : Element) : List Nat := match settings e 0 with
  | .mirror ts => ts.map Prod.fst
  | _ => []

/-- All mirror targets of an image. -/
def imageTargets (img : FnImage) : List Nat := (img.elems.map mirrorTargets).flatten

/-- An entry of the output map (R462). -/
def outEntryOk (o : OutEntry) : Bool :=
  decide (o.dest ≤ 2) && !(o.dest == 0 && (o.src == 1 || decide (7 < o.target))) && decide (o.type ≤ 4) &&
    !(o.src == 1 && (o.kind == 1 || o.kind == 6))

/-- A payload padded to 8 bytes with its section header. -/
def sectionBytes (n : Nat) : Nat := 16 + (n + 7) / 8 * 8

/-- The section types that a header calls for, in order (R328). -/
def sectionTypes (img : FnImage) : List Nat :=
  ((List.range 12).filter fun e => (img.engines >>> e) % 2 == 1).map (0x10 + ·) ++ [0x20] ++
    (List.range img.ngroups).map (0x30 + ·) ++ [0x40, 0x50]

/-- The size of a section, where the spec fixes it (R328, R329, R462). -/
def sectionSizeOk (img : FnImage) (x : Nat × Nat) : Bool :=
  if x.1 = 0x20 then x.2 == img.stateBytes
  else if x.1 = 0x40 then x.2 == 8 * img.bindings.length
  else if x.1 = 0x50 then x.2 == 8 * img.outMap.length
  else true

/-- The conditions of R330 on an image that complete with PARAM. -/
def imageOk (img : FnImage) (len : Nat) : Bool :=
  img.hdrLen == 320 && img.length == len && img.length == 320 + (img.sections.map fun x => sectionBytes x.2).sum &&
  img.sections.map Prod.fst == sectionTypes img && img.sections.all (sectionSizeOk img) && decide (img.engines < 4096) &&
  decide (1 ≤ img.ngroups) && decide (img.ngroups ≤ 8) && decide (8 ≤ img.stateBytes) && decide (img.stateBytes ≤ 262144) &&
  decide (img.outLen ≤ 56) && img.outLen % 4 == 0 && img.bindings.all (fun b => decide (b.1 ≤ 3)) &&
  img.elems.all (elementOk img.ngroups img.outLen) &&
  ((List.range img.elems.length).zip img.elems).all (fun x => referenceOk img.elems x.1 x.2) && !hasDup (imageTargets img) &&
  decide ((img.elems.filter isTopo).length ≤ 1) && (img.flags % 2 == 1) == img.elems.any isTopo &&
  img.outMap.all outEntryOk

/-! ### The slot table -/

/-- Engine cycles in the compute window at 85 % by RATE (R331). -/
def admissionLimit (rate : Nat) : Nat :=
  if rate = 0 then 246840 else if rate = 1 then 204340 else if rate = 2 then 71527 else 62673

def State.findSlot (s : State) (i : Nat) : Option Slot := findKey Slot.slot i s.slots

/-- The state of a slot, EMPTY where it is not listed (R333). -/
def State.slotState (s : State) (i : Nat) : Nat := match s.findSlot i with
  | some x => x.state
  | none => slEmpty

/-- Slots whose load is admitted: ADMITTED, SHADOW_RUN, RUNNING (R331). -/
def admitted (l : List Slot) : List Slot := l.filter fun x => x.state == slAdmitted || x.state == slShadow || x.state == slRunning

/-- Slots that compute (R333). -/
def computed (l : List Slot) : List Slot := l.filter fun x => x.state == slShadow || x.state == slRunning

/-- The admitted load of engine e (R331), the copy delay of a running handover included (R178). -/
def engLoad (l : List Slot) (ho : List (Nat × Nat)) (e : Nat) : Nat :=
  2000 + ((admitted l).map fun x => x.img.wcet.getD e 0).sum +
    (match findKey Prod.fst e ho with
      | some (_, d) => d
      | none => 0)

/-- The registers that follow from the slot table (R350, R498): counts, free memory, engine loads, CLE dependence. -/
def State.syncSlots (s : State) : State :=
  let l := s.slots
  let s1 := (s.put Reg.ROD_STATUS_RUN (l.filter fun x => x.state == slRunning).length).put Reg.ROD_STATUS_ADM
    (admitted l).length
  let s2 := (s1.put Reg.ROD_SHARED_FREE_BYTES (3604480 - (l.map fun x => x.img.sharedBytes).sum)).put
    Reg.SLC_POOL_SLOTS_FREE (1024 - l.length)
  let s3 := (List.range 12).foldl (fun s e => s.put (Reg.ROD_ENG_LOAD_CYCLES e) (engLoad l s.core.hoLoad e)) s2
  let s4 := (List.range 12).foldl (fun s e =>
    s.put (Reg.ROD_PRIV_FREE_BYTES e) (245760 - (l.map fun x => x.img.priv.getD e 0).sum)) s3
  let dep := ((computed l).any fun x => x.img.bindings.any fun b => b.1 == 3) ||
    (List.range 8).any fun i => s4.getA (Reg.PUB_DO_CFG_SRC i) == 1
  s4.putFlag Reg.CLE_STATUS_DEPEND dep

/-- The window registers of a slot (R350). -/
def State.showSlot (s : State) (x : Slot) : State :=
  let i := x.slot
  ((((s.put (Reg.ROD_SLOT_STATE_STATE i) x.state).put (Reg.ROD_SLOT_STATE_SLICE i) x.slice).put
    (Reg.ROD_SLOT_STATE_GROUP i) (if x.state ≤ slAdmitted then x.selected else x.group)).putFlag
    (Reg.ROD_SLOT_STATE_AUTO i) x.auto).put (Reg.ROD_SLOT_IMGID_ID i) (x.img.digest % 2 ^ 32)

/-- A slot record is put into the table with its registers. -/
def State.putSlot (s : State) (x : Slot) : State :=
  ({ s with slots := setKey Slot.slot x s.slots }.showSlot x).syncSlots

/-- A slot becomes EMPTY: memory and quota released, its registers at reset (R334). -/
def State.freeSlot (s : State) (x : Slot) : State :=
  let i := x.slot
  let s1 := { s with slots := dropKey Slot.slot i s.slots }
  let s2 := (((s1.wr (0x90000 + 0x1000 + 0x10 * i) 0).wr (0x90000 + 0x1004 + 0x10 * i) 0).wr (0x90000 + 0x1008 + 0x10 * i) 0).wr
    (0x90000 + 0x100C + 0x10 * i) 0
  (s2.give (Reg.SLC_SLICE_QA_SLOTS x.slice) 1).syncSlots

/-- A transition of a slot: the record in its new state, source 72, the EVQ entry of KIND 2, source 78 for QUARANTINED; at an entry
to SHADOW_RUN AGREE starts from 0 (R334) and the increment is clamped (R188). -/
def State.moveSlot (s : State) (x : Slot) (new tick : Nat) : State :=
  let s1 := (s.putSlot { x with state := new }).event 72
  let s2 := (s1.eventIf (new == slQuarantined) 78).postSlot x.slice x.slot x.state new tick
  if new = slShadow then (s2.put (Reg.ROD_SLOT_AGREE_TICKS x.slot) 0).clampIncr else s2

/-- A slot back in LOADED or ADMITTED: no state, AGREE at 0, no change pending. -/
def idleSlot (x : Slot) : Slot :=
  { x with install := none, fresh := false, clear := false, chg := false, quarantine := none }

/-! ### SLOT_LOAD (R330) -/

/-- The NORES conditions that come from memory. -/
def State.memoryShort (s : State) (img : FnImage) : Bool :=
  decide (s.get Reg.ROD_SHARED_FREE_BYTES < img.sharedBytes) ||
    (List.range 12).any fun e => decide (s.get (Reg.ROD_PRIV_FREE_BYTES e) < img.priv.getD e 0)

/-- An image enters a slot (R334): LOADED, group 0, MODE FIXED; 0x0108 of the slot clears (R128). -/
def State.loadSlot (s : State) (slice slot : Nat) (img : FnImage) : State :=
  let x : Slot := { slot := slot, state := slEmpty, slice := slice, img := img }
  ((s.take (Reg.SLC_SLICE_QA_SLOTS slice) 1).moveSlot x slLoaded s.tickNow).clearFault 0x0108 slot

/-- SLOT_LOAD (R330, R120). -/
def slotLoad (q : Req) (slot len key : Nat) (img : FnImage) (s : State) : State :=
  let overs := s.overQuota (Reg.SLC_SLICE_QA_SLOTS q.slice) 1
  s.command 0x40 q [(.version, img.version ≠ 1), (.param, decide (1023 < slot) || !imageOk img len),
      (.priv, !s.isProt q.slice || !s.keyOwn key q.slice || !s.keyHasUse key 3),
      (.state, s.notIn stLoad || s.slotState slot ≠ slEmpty), (.nores, overs || s.memoryShort img),
      (.integrity, !img.digestOk || !img.sigOk || !s.keyUsable key q.slice 3)] overs fun s =>
    (s.loadSlot q.slice slot img).complete q .ok (img.digest % 2 ^ 32) 0

def execSlotLoad (q : Req) (slot len key : Nat) (img : FnImage) (s : State) : Host.Outcome State Fault Refusal :=
  .next (slotLoad q slot len key img s)

/-! ### SLOT_ADMIT (R331, R332, R401, R463) -/

/-- Whether a subscription of a slice delivers a channel (R332). -/
def State.channelDelivered (s : State) (slice c : Nat) : Bool :=
  (List.range 512).any fun k => s.getA (Reg.SVI_SUB_DST_HI_EN k) == 1 && s.getA (Reg.SVI_SUB_LAYOUT_SLICE k) == slice &&
    decide (s.getA (Reg.SVI_SUB_LAYOUT_BASE k) ≤ c) &&
    decide (c < s.getA (Reg.SVI_SUB_LAYOUT_BASE k) + s.getA (Reg.SVI_SUB_LAYOUT_NCH k))

/-- The members that a GOOSE entry maps: (position in the entry, image member). -/
def gsubTargets (words : List Nat) : List (Nat × Nat) :=
  ((List.range 16).filter fun i => words.getD (6 + i) 0 / 2 ^ 31 % 2 == 1).map fun i => (i, words.getD (6 + i) 0 % 4096)

/-- Whether a GOOSE subscription of a slice delivers a member. -/
def State.memberDelivered (s : State) (slice m : Nat) : Bool :=
  s.svi.gsubs.any fun g => g.words.getD 1 0 / 2 ^ 31 % 2 == 1 && g.words.getD 2 0 / 256 % 256 == slice &&
    (gsubTargets g.words).any fun t => t.2 == m

/-- Whether a slot routes its output map (R463). -/
def routes (x : Slot) : Bool := decide (slAdmitted ≤ x.state)

/-- The entries of the output map that route to DO or GOOSE. -/
def routed (img : FnImage) : List (Nat × Nat) := (img.outMap.filter fun o => o.dest < 2).map fun o => (o.dest, o.target)

/-- Whether an entry of the map is refused by R463. -/
def State.badRoute (s : State) (x : Slot) (o : OutEntry) : Bool :=
  if o.dest = 0 then s.getA (Reg.PUB_DO_CFG_SLICE o.target) ≠ x.slice || s.getA (Reg.PUB_DO_CFG_SRC o.target) == 1
  else if o.dest = 1 then
    (match findKey Gcb.idx (o.target / 64) s.pub.gcbs with
      | none => true
      | some g => g.words.getD 1 0 / 2 ^ 31 % 2 == 0 || g.words.getD 2 0 / 256 % 256 ≠ x.slice ||
          decide (g.words.getD 2 0 % 128 ≤ o.target % 64)) ||
    (if o.type = 0 || o.type = 4 then o.src ≠ 0 else o.src ≠ 1)
  else false

/-- Whether a list of targets holds one twice. -/
def dupPairs : List (Nat × Nat) → Bool
  | [] => false
  | x :: l => l.contains x || dupPairs l

/-- The PARAM conditions of SLOT_ADMIT (R332, R401, R463). -/
def State.admitBad (s : State) (x : Slot) : Bool :=
  x.img.rate ≠ s.get Reg.SVI_CFG_RATE || decide (x.img.ngroups ≤ x.selected) ||
  x.img.bindings.any (fun b => (b.1 == 0 && !s.channelDelivered x.slice b.2) || (b.1 == 1 && !s.memberDelivered x.slice b.2)) ||
  (admitted s.slots).any (fun y => (imageTargets y.img).any fun t => (imageTargets x.img).contains t) ||
  x.img.outMap.any (s.badRoute x) || dupPairs (routed x.img) ||
  (s.slots.filter fun y => routes y && y.slot ≠ x.slot).any fun y => (routed y.img).any fun t => (routed x.img).contains t

/-- The lowest engine that would exceed the limit, with the excess (R332). -/
def excess (l : List Slot) (ho : List (Nat × Nat)) (limit : Nat) (x : Slot) : Option (Nat × Nat) :=
  ((List.range 12).filter fun e => decide (limit < engLoad l ho e + x.img.wcet.getD e 0)).head?.map fun e =>
    (e, engLoad l ho e + x.img.wcet.getD e 0 - limit)

/-- The highest admitted load among the slot's engines. -/
def highestLoad (l : List Slot) (ho : List (Nat × Nat)) (x : Slot) : Nat :=
  ((List.range 12).filter fun e => (x.img.engines >>> e) % 2 == 1).foldl (fun m e => max m (engLoad l ho e)) 0

/-- SLOT_ADMIT (R332): a slot that is not in LOADED answers STATE before the admission conditions. -/
def slotAdmit (q : Req) (slot : Nat) (s : State) : State :=
  let x := s.findSlot slot
  s.command 0x41 q [(.param, decide (1023 < slot)), (.priv, x.any fun x => x.slice ≠ q.slice),
      (.state, s.notIn stLoad || s.slotState slot ≠ slLoaded), (.param, x.any s.admitBad)] false fun s =>
    match x with
    | none => s
    | some x =>
      match excess s.slots s.core.hoLoad (admissionLimit (s.get Reg.SVI_CFG_RATE)) x with
      | some (e, n) => s.complete q .nores (e * 2 ^ 24 + n % 2 ^ 20) 0
      | none =>
        let s1 := s.moveSlot x slAdmitted s.tickNow
        s1.complete q .ok (highestLoad s1.slots s1.core.hoLoad x) 0

def execSlotAdmit (q : Req) (slot : Nat) (s : State) : Host.Outcome State Fault Refusal := .next (slotAdmit q slot s)

/-- SLOT_UNLOAD (R334): memory and quota released at once; the faults and the safe form of a quarantine end (R352,
R473). -/
def slotUnload (q : Req) (slot : Nat) (s : State) : State :=
  let st := s.slotState slot
  s.command 0x42 q [(.param, decide (1023 < slot)), (.priv, (s.findSlot slot).any fun x => x.slice ≠ q.slice && q.slice ≠ 0),
      (.state, s.notIn stLoad || !(st == slLoaded || st == slAdmitted || st == slQuarantined))] false fun s =>
    match s.findSlot slot with
    | none => s
    | some x =>
      let s1 := ((s.freeSlot x).event 72).postSlot x.slice slot x.state slEmpty s.tickNow
      let s2 := (s1.clearFault 0x0905 slot).clearFault 0x0C04 slot
      let s3 := if s2.pub.safeSlots.contains slot then
          { s2 with pub := { s2.pub with safeSlots := s2.pub.safeSlots.filter fun k => k ≠ slot } }.event 99
        else s2
      s3.complete q .ok 0 0

def execSlotUnload (q : Req) (slot : Nat) (s : State) : Host.Outcome State Fault Refusal := .next (slotUnload q slot s)

/-! ### Boundary commands (R334, R335, R340) -/

/-- A command that waits for its boundary. -/
def State.atBoundary (s : State) (c : BoundCmd) : State := { s with core := { s.core with bound := s.core.bound ++ [c] } }

/-- Whether SLOT_RUN is held back by MIN_SHADOW, or by a freeze of the slice (MIG 4 or 5). -/
def State.agreeShort (s : State) (slot : Nat) : Bool :=
  decide (s.get (Reg.ROD_SLOT_AGREE_TICKS slot) < s.get Reg.ROD_CFG2_MIN_SHADOW)
def State.frozen (s : State) (slice : Nat) : Bool :=
  s.get (Reg.SLC_SLICE_STATE_MIG slice) == 4 || s.get (Reg.SLC_SLICE_STATE_MIG slice) == 5

/-- A slot command of R335 that applies at a boundary: `from'` lists the states it is for, `any` lets the manager issue it. -/
def slotBound (q : Req) (opcode slot : Nat) (from' : List Nat) (mgr busy state : Bool) (s : State) : State :=
  s.command opcode q [(.param, decide (1023 < slot)),
      (.priv, (s.findSlot slot).any fun x => x.slice ≠ q.slice && !(mgr && q.slice == 0)),
      (.state, s.notIn stRun || !from'.contains (s.slotState slot) || state), (.busy, busy)] false fun s =>
    s.atBoundary ⟨q, opcode, slot, 0, 0⟩

/-- SLOT_SHADOW (R334). -/
def slotShadow (q : Req) (slot : Nat) (s : State) : State := slotBound q 0x43 slot [slAdmitted, slRunning] false false false s

def execSlotShadow (q : Req) (slot : Nat) (s : State) : Host.Outcome State Fault Refusal := .next (slotShadow q slot s)

/-- SLOT_RUN (R334): BUSY below MIN_SHADOW, STATE while the slice is frozen. -/
def slotRun (q : Req) (slot : Nat) (s : State) : State :=
  slotBound q 0x44 slot [slShadow] false (s.agreeShort slot) ((s.findSlot slot).any fun x => s.frozen x.slice) s

def execSlotRun (q : Req) (slot : Nat) (s : State) : Host.Outcome State Fault Refusal := .next (slotRun q slot s)

/-- SLOT_STOP (R334); the manager may stop any slot. -/
def slotStop (q : Req) (slot : Nat) (s : State) : State := slotBound q 0x45 slot [slShadow, slRunning] true false false s

def execSlotStop (q : Req) (slot : Nat) (s : State) : Host.Outcome State Fault Refusal := .next (slotStop q slot s)

/-- The sticky flags as voted last (R344). -/
def State.votedFlags (s : State) (slot : Nat) : Nat :=
  s.get (Reg.ROD_SLOT_FLAGS_SAT slot) + 2 * s.get (Reg.ROD_SLOT_FLAGS_OVF slot) + 4 * s.get (Reg.ROD_SLOT_FLAGS_DIV0 slot)

/-- The flags of a slot as voted. -/
def State.showFlags (s : State) (slot fl : Nat) : State :=
  ((s.put (Reg.ROD_SLOT_FLAGS_SAT slot) (fl % 2)).put (Reg.ROD_SLOT_FLAGS_OVF slot) (fl / 2 % 2)).put
    (Reg.ROD_SLOT_FLAGS_DIV0 slot) (fl / 4 % 2)

/-- SLOT_GROUP acts on a slot (R340, R344): group 0xFF and mode 0xFF leave theirs; the selected group changes in LOADED and ADMITTED
only; the completion names flags and group. -/
def State.applyGroup (s : State) (q : Req) (x : Slot) (group mode : Nat) (clear : Bool) : State :=
  let auto := if mode = 0 then false else if mode = 1 then true else x.auto
  let run := x.state == slShadow || x.state == slRunning
  let g := if group = 0xFF then (if run then x.group else x.selected) else group
  let y := if run then { x with auto := auto, group := g, clear := x.clear || clear }
    else { x with auto := auto, selected := g }
  let fl := s.votedFlags x.slot
  let s1 := s.putSlot y
  let s2 := if clear then s1.showFlags x.slot 0 else s1
  s2.complete q .ok (fl + g * 256) 0

/-- SLOT_GROUP (R335, R340): at once in LOADED and ADMITTED, at a boundary while the slot computes. -/
def slotGroup (q : Req) (slot group mode : Nat) (clear : Bool) (s : State) : State :=
  let x := s.findSlot slot
  s.command 0x46 q [(.param, decide (1023 < slot) || !(mode == 0 || mode == 1 || mode == 0xFF) ||
        x.any fun x => (group ≠ 0xFF && decide (x.img.ngroups ≤ group)) || (mode == 1 && !x.img.elems.any isTopo)),
      (.priv, x.any fun x => x.slice ≠ q.slice),
      (.state, s.notIn stRun || !decide (slLoaded ≤ s.slotState slot ∧ s.slotState slot ≤ slRunning) ||
        x.any fun x => x.auto && group ≠ 0xFF && mode ≠ 0)] false fun s =>
    match x with
    | none => s
    | some x =>
      if x.state ≤ slAdmitted then s.applyGroup q x group mode clear
      else s.atBoundary ⟨q, 0x46, slot, group + 256 * mode, if clear then 1 else 0⟩

def execSlotGroup (q : Req) (slot group mode : Nat) (clear : Bool) (s : State) : Host.Outcome State Fault Refusal :=
  .next (slotGroup q slot group mode clear s)

/-- The group of a computed slot changes at boundary n: source 77 and the journal entry of R341. -/
def State.groupChanged (s : State) (x : Slot) (old new n : Nat) : State :=
  if old = new then s
  else
    let s1 := match s.findSlot x.slot with
      | some y => s.putSlot { y with group := new, chg := true }
      | none => s
    (s1.event 77).journalAdd (.other 0x09 1 (x.slot + old * 2 ^ 16 + new * 2 ^ 20) s1.ns ((n + 1) % 2 ^ 32))

/-- A slot enters SHADOW_RUN from ADMITTED: initial state, selected group active, AGREE at 0 (R334, R340, R360). -/
def enterShadow (x : Slot) (f : Nat) : Slot :=
  { x with group := x.selected, install := some (fitTo (slotWords f x.img.elems) x.img.init), fresh := true, chg := false }

/-- One waiting command at boundary n (R335): it applies where R334 lists it for the slot's state now, for SLOT_RUN with R334's
conditions on AGREE and MIG (assumption 77), else ABORTED. -/
def State.applyBound (s : State) (n : Nat) (c : BoundCmd) : State :=
  let done := fun (s : State) => s.complete c.req .ok (n % 2 ^ 32) 0
  let abort := s.complete c.req .aborted 0 0
  match s.findSlot c.slot with
  | none => abort
  | some x =>
    if c.opcode = 0x43 then
      if x.state = slAdmitted then
        done (s.moveSlot (enterShadow x s.tg.f) slShadow n)
      else if x.state = slRunning then done (s.moveSlot x slShadow n)
      else abort
    else if c.opcode = 0x44 then
      if x.state = slShadow && !s.agreeShort c.slot && !s.frozen x.slice then done (s.moveSlot x slRunning n) else abort
    else if c.opcode = 0x45 then
      if x.state = slShadow || x.state = slRunning then done (s.moveSlot (idleSlot x) slAdmitted n) else abort
    else if x.state = slShadow || x.state = slRunning then
      let s1 := s.applyGroup c.req x (c.arg % 256) (c.arg / 256) (c.arg2 == 1)
      (match s1.findSlot c.slot with
        | some y => s1.groupChanged y x.group y.group n
        | none => s1)
    else if x.state = slLoaded || x.state = slAdmitted then s.applyGroup c.req x (c.arg % 256) (c.arg / 256) (c.arg2 == 1)
    else abort

/-- A quarantine that is due applies at boundary n: fault 0x0905 with its cause, and the safe form of R473. -/
def State.applyQuarantine (s : State) (n : Nat) (x : Slot) : State :=
  match x.quarantine with
  | none => s
  | some cause =>
    if x.state = slShadow || x.state = slRunning then
      let s1 := s.moveSlot (idleSlot x) slQuarantined n
      let s2 := s1.raise 0x0905 2 x.slot 0xFFFF (x.slot + cause * 2 ^ 16)
      { (s2.raise 0x0C04 1 x.slot 0xFFFF x.slot).event 99 with
          pub := { s2.pub with safeSlots := s2.pub.safeSlots ++ [x.slot] } }
    else s

/-- The rod with the lowest letter that votes and has on-time results for tick n (R411, R440). -/
def State.leadRod (s : State) (n : Nat) : Option RodState :=
  ((List.range 3).filterMap fun r =>
    match s.core.rods[r]? with
    | some d => if s.get (Reg.BEAM_ROD_STATE_STATE r) = 1 && d.result.any (fun x => x.tick == n) then some d else none
    | none => none).head?

/-- TOPO's request of tick n becomes the active group of a slot in MODE AUTO (R340). -/
def State.applyRequest (s : State) (n : Nat) (x : Slot) : State :=
  if !x.auto || !(x.state == slShadow || x.state == slRunning) then s
  else
    match s.leadRod n with
    | none => s
    | some d =>
      match findKey Prod.fst x.slot d.slots with
      | none => s
      | some (_, w) =>
        match topoRequest s.tg.f x.img w with
        | some g => s.groupChanged x x.group g n
        | none => s

/-- The slot transitions of boundary n: quarantines, then the commands in the order they were taken, then TOPO's
requests (R334, R335, R341). -/
def State.slotBoundary (s : State) (n : Nat) : State :=
  let s1 := s.slots.foldl (fun s x => s.applyQuarantine n x) s
  let s2 := s1.core.bound.foldl (fun s c => s.applyBound n c) { s1 with core := { s1.core with bound := [] } }
  s2.slots.foldl (fun s x => s.applyRequest n x) s2

/-! ### A rod computes an image (R336–R338, R402, R404) -/

/-- The work of the slots with their results, ascending; the state a slot has, or what the boundary installed. -/
def computeSlots (f : Nat) (work : Work) (q : List Nat) (bad : Bool) (old : List (Nat × List Nat)) :
    List WorkSlot → List (WorkSlot × SlotResult)
  | [] => []
  | w :: ws =>
    let words := match w.install with
      | some x => x
      | none => (findKey Prod.fst w.slot old).elim [] Prod.snd
    let c : Ctx := { img := work.image, f := f, delta := 1, group := w.group, cleQ := q, cleBad := bad,
                     bindings := w.img.bindings, shadow := w.shadow, slot := w.slot }
    (w, evalSlot w.img c words w.fresh w.clear w.auto w.chg) :: computeSlots f work q bad old ws

/-- The state digest of a rod (R404). -/
def stateDigest (slots : List (Nat × List Nat)) (prog : Option CleImage) (c : Cle) : Nat :=
  let a := slots.foldl (fun d x => d ^^^ mixAll (x.1 * 65536) x.2) 0
  match prog with
  | some _ => a ^^^ mixAll 0x04000000 (cleWords c)
  | none => a

/-- A rod computes an image: its new state, and the results it delivers with hardware upsets of stream words applied. A rod with a
parity error in its program memory dissents in its state digest at its next chunk (R500, assumption 77). -/
def computeRod (f : Nat) (prog : Option CleImage) (work : Work) (overs : List Nat) (upset : List (Nat × Nat))
    (d : RodState) : RodState × Delivery :=
  let edge := match prog with
    | some p => cleEdge p work.cle d.cle
    | none => d.cle
  let rs := computeSlots f work edge.q (edge.st == 2) d.slots work.slots
  let slots := rs.map fun (w, r) => (w.slot, r.words)
  let recs := rs.map fun (w, r) => (w.slot, r.record.getD 1 0)
  let (cle, fin) := match prog with
    | some p => cleTick p f work.cle work.image d.recs edge
    | none => (edge, .running)
  let dig0 := stateDigest slots prog cle
  let dig := match d.cleBad with
    | some r => if prog.isSome && chunkDue edge then dig0 ^^^ (r + 1) else dig0
    | none => dig0
  let n := work.image.tick
  let words := [n % 2 ^ 32, n / 2 ^ 32, dig % 2 ^ 32, dig / 2 ^ 32] ++ cle.q ++
    rs.foldl (fun a (_, r) => a ++ r.record ++ r.mirror) []
  let stream := upset.foldl (fun l u => l.set u.1 (u.2 % 2 ^ 32)) words
  ({ d with slots := slots, cle := cle, recs := recs, todo := d.todo.drop 1 },
   { tick := n, stream := stream, overs := overs,
     cleFault := (match fin with
       | .faulted c pc => some (c, pc)
       | _ => none),
     cleDone := (match fin with
       | .committed c o => some (c, o)
       | _ => none),
     sdig := dig })

/-- Rod r of the core. -/
def State.rod (s : State) (r : Nat) : RodState := s.core.rods.getD r {}

/-- The core with rod r replaced. -/
def State.setRod (s : State) (r : Nat) (d : RodState) : State := { s with core := { s.core with rods := s.core.rods.set r d } }

/-- Slots over their WCET: the flag, and a quarantine where two rods exceeded it in one tick (R337). -/
def State.noteOver (s : State) (tick r : Nat) (overs : List Nat) : State :=
  overs.foldl (fun s i =>
    let s1 := s.put (Reg.ROD_SLOT_FLAGS_WCET i) 1
    let before := s1.core.overs.any fun o => o.1 == tick && o.2.1 == i && o.2.2 ≠ r
    let s2 := { s1 with core := { s1.core with overs := ((tick, i, r) :: s1.core.overs).take 4096 } }
    if before then
      match s2.findSlot i with
      | some x => { s2 with slots := setKey Slot.slot { x with quarantine := some 0 } s2.slots }
      | none => s2
    else s2) s

/-- Whether tick n has been settled (R408). -/
def State.isSettled (s : State) (n : Nat) : Bool := s.core.settled.any fun x => decide (n ≤ x.tick)

end Sys2Proof.Machine
end

