-- ==== Sys2Proof/Machine/Beam.lean ====
section
/-! DEFINITION. The beam: the vote, missed decisions, carry, benching, re-integration, cold restart and self-test
(R325, R345–R349, R402–R423). -/

namespace Sys2Proof.Machine

/-- Codes of the rod states (R411). -/
def rodOff : Nat := 0
def rodVoting : Nat := 1
def rodResetting : Nat := 2
def rodWaiting : Nat := 3
def rodCopying : Nat := 4
def rodVerifying : Nat := 5
def rodLockedOut : Nat := 6

/-- The state of rod r (R411), and the number of rods in a state. -/
def State.rodSt (s : State) (r : Nat) : Nat := s.get (Reg.BEAM_ROD_STATE_STATE r)
def State.rodsIn (s : State) (st : Nat) : List Nat := (List.range 3).filter fun r => s.rodSt r == st

/-- The STATUS bits of BEAM that follow the rod states (R419). -/
def State.syncBeam (s : State) : State :=
  let v := s.rodsIn rodVoting
  (s.put Reg.BEAM_STATUS_VOTING ((v.map fun r => 2 ^ r).sum)).putFlag Reg.BEAM_STATUS_DEGRADED (decide (v.length < 3))

/-- The donor's copy for the partner ends: the stream sends nothing more (R438). -/
def State.donorStop (s : State) : State :=
  { s with pair := { s.pair with donorOn := false, stream := [] } }.put Reg.PAIR_STATUS_RESYNC 0

/-- A rod that leaves VOTING while the stream reads it ends the copy with RESYNC_NAK reason 4 (R438). -/
def State.donorLeft (s : State) (r : Nat) : State :=
  if s.get Reg.PAIR_STATUS_RESYNC = 4 && s.pair.donorOn && s.pair.donorRod = r && s.rodSt r = rodVoting then
    s.donorStop.pairSend s.tickNow (.resyncNak 4)
  else s

/-- A rod changes state; the EVQ entry of R420. LOCKED_OUT is held until a REARM (R412). -/
def State.moveRod (s0 : State) (r new : Nat) : State :=
  let old := s0.rodSt r
  if old = new then s0
  else
    let s := s0.donorLeft r
    ((s.put (Reg.BEAM_ROD_STATE_STATE r) new).post 0 2 [(4, 1, 0xFF), (5, 1, r), (6, 1, old), (7, 1, new),
      (8, 8, s.tickNow)]).setRod r { s.rod r with locked := (s.rod r).locked || new == rodLockedOut } |>.syncBeam

/-- A rod stops computing: no image waits, no result stands. -/
def idleRod (d : RodState) : RodState :=
  { d with todo := [], result := none, carryFrom := none, lateBad := false, crcBad := none, finalDue := false, cleBad := none }

/-- Fault 0x0A05 where fewer than two rods can reach WAITING (R414). -/
def State.checkRestart (s : State) : State :=
  let locked := s.rodsIn rodLockedOut
  if s.flag Reg.BEAM_STATUS_RESTART && decide (2 ≤ locked.length) then
    (s.event 87).raise1 0x0A05 3 ((locked.map fun r => 2 ^ r).sum)
  else s

/-- A rod enters RESETTING, or LOCKED_OUT where it did so three times within 86,400 s (R412). -/
def State.resetRod (s : State) (r cause : Nat) : State :=
  let d := s.rod r
  let hist := d.history.filter fun t => decide (s.ns < t + 86400000000000)
  let s1 := (s.setRod r { idleRod d with history := hist }).put (Reg.BEAM_ROD_STATE_CAUSE r) cause
  if 3 ≤ hist.length then
    (((s1.moveRod r rodLockedOut).event 85).raiseAt 0x0A04 2 r r).checkRestart
  else
    ((s1.setRod r { idleRod d with history := s.ns :: hist }).put (Reg.BEAM_ROD_STATE_REINT r) (hist.length + 1)).count
      (Reg.BEAM_ROD_BENCHES_COUNT r) |>.moveRod r rodResetting

/-- A cold restart becomes due (R413, R414): VOTING rods reset, copies and verifications are abandoned. -/
def State.coldRestart (s : State) : State :=
  if s.flag Reg.BEAM_STATUS_RESTART then s
  else
    let s1 := s.put Reg.BEAM_STATUS_RESTART 1
    let s2 := (List.range 3).foldl (fun s r =>
      if s.rodSt r = rodVoting then s.resetRod r 5
      else if s.rodSt r = rodCopying || s.rodSt r = rodVerifying then
        (s.setRod r (idleRod (s.rod r))).moveRod r rodWaiting
      else s) s1
    s2.checkRestart

/-- A restart is due when fewer than two rods vote while ROD is enabled (R414). -/
def State.restartIfShort (s : State) : State :=
  if s.flag Reg.ROD_CTRL_EN && decide ((s.rodsIn rodVoting).length < 2) && (s.rodsIn rodOff).isEmpty then s.coldRestart
  else s

/-- A re-integration fails (R413): fault 0x0A02 with its phase, and the count of R412. -/
def State.reintFail (s : State) (r phase cause : Nat) : State :=
  ((s.event 84).raiseAt 0x0A02 1 r (r + phase * 16)).resetRod r cause

/-- A bench: of a VOTING rod, or of a VERIFYING rod, whose verification fails (R413, assumption 77). -/
def State.bench (s : State) (r cause : Nat) : State :=
  if s.rodSt r = rodVoting then s.resetRod r cause
  else if s.rodSt r = rodVerifying then s.reintFail r 2 7
  else s

/-- A rod rejoins (R413, R422): VOTING, the faults that concern it clear, source 83. -/
def State.rejoin (s : State) (r : Nat) : State :=
  let s1 := (s.moveRod r rodVoting).event 83
  [0x0A01, 0x0902, 0x0906, 0x0907, 0x0A02, 0x0D03].foldl (fun s c => s.clearFault c r) s1

/-! ### Delivery (R345–R347) -/

/-- The state words of a rod by the index x of R404. -/
def rodWords (prog : Option CleImage) (d : RodState) : List (Nat × Nat) :=
  (d.slots.map fun x => (List.range x.2.length).zip x.2 |>.map fun w => (x.1 * 65536 + w.1, w.2)).flatten ++
  (match prog with
    | some _ => let w := cleWords d.cle; (List.range w.length).zip w |>.map fun x => (0x04000000 + x.1, x.2)
    | none => [])

/-- The donor's stream after its rod r has completed tick n (R438): the words written, then END(n) with the digest. -/
def State.donorStream (s : State) (r n sdig : Nat) (d d1 : RodState) : State :=
  if s.get Reg.PAIR_STATUS_RESYNC = 4 && s.pair.donorOn && s.pair.donorRod = r then
    let old := rodWords s.cle.prog d
    let new := (rodWords s.cle.prog d1).filter fun w => !old.contains w
    (s.streamNow.streamAdd n (copyBodies new [] ++ [.endMark sdig])).streamNow
  else s

/-- ROD_RESULTS_DELIVERED (R336–R338, R346): the rod computes the oldest image it holds. Results before the vote wait for
it; late results are compared with the retained voted results, and a difference benches the rod at once. -/
def rodResultsDelivered (r : Nat) (overs : List Nat) (corr : Nat) (upset : List (Nat × Nat)) (s : State) : State :=
  let d := s.rod r
  let st := s.rodSt r
  if 2 < r || !(st == rodVoting || st == rodVerifying) then s
  else
    match d.todo with
    | [] => s
    | w :: _ =>
      let (d1, res) := computeRod s.tg.f s.cle.prog w overs upset d
      let s1 := ((s.countBy (Reg.ROD_RODSTAT_ECC_CORR r) corr).noteOver w.image.tick r overs).donorStream r w.image.tick res.sdig d d1
      if s1.isSettled w.image.tick then
        match findKey Prod.fst w.image.tick s1.core.retained with
        | none => s1.setRod r { d1 with result := none }
        | some (_, voted) =>
          if voted == res.stream then s1.setRod r { d1 with result := none }
          else
            let s2 := ((s1.setRod r d1).event 75).count (Reg.ROD_RODSTAT_OUTCOME_BENCH r)
            ((s2.bench r 2).raiseAt 0x0902 2 r (r + 16)).restartIfShort
      else s1.setRod r { d1 with result := some res }

def execRodResultsDelivered (rod : Nat) (overs : List Nat) (corr : Nat) (upset : List (Nat × Nat)) (s : State) :
    Host.Outcome State Fault Refusal := .next (rodResultsDelivered rod overs corr upset s)

/-- SRAM_SCRUB (R325): the correctable errors of a pass are corrected and counted. -/
def sramScrub (rod corr : Nat) (s : State) : State :=
  if 2 < rod || s.mainAbsent then s else s.countBy (Reg.ROD_RODSTAT_ECC_CORR rod) corr

def execSramScrub (rod corr : Nat) (s : State) : Host.Outcome State Fault Refusal := .next (sramScrub rod corr s)

/-- SRAM_UNCORRECTABLE (R325, R351): counted, source 79, fault 0x0906; the bench follows at the next vote. A rod whose state
is being copied from or to fails the copy (R415). -/
def sramUncorrectable (rod word : Nat) (s : State) : State :=
  if 2 < rod || s.mainAbsent then s
  else
    let s1 := (s.count (Reg.ROD_RODSTAT_ECC_UNCORR rod)).event 79
    let s2 := { s1 with core := { s1.core with pendBench := s1.core.pendBench ++ [(rod, 4)] } }
    s2.raiseAt 0x0906 2 rod (rod + word % 2 ^ 24 * 256)

def execSramUncorrectable (rod word : Nat) (s : State) : Host.Outcome State Fault Refusal :=
  .next (sramUncorrectable rod word s)

/-! ### Word by word (R407, R408) -/

/-- The majority of three words, or none. -/
def majority (a b c : Nat) : Option Nat := if a = b || a = c then some a else if b = c then some b else none

/-- The vote over three streams from word j on: voted words, and per rod the first dissenting word. -/
def vote3 : Nat → List Nat → List Nat → List Nat → List Nat × Option Nat × Option Nat × Option Nat
  | j, a :: as, b :: bs, c :: cs =>
    let (w, da, db, dc) := vote3 (j + 1) as bs cs
    match majority a b c with
    | none => (0 :: w, some j, some j, some j)
    | some m => (m :: w, if a = m then da else some j, if b = m then db else some j, if c = m then dc else some j)
  | _, _, _, _ => ([], none, none, none)

/-- The rods that dissent with their first dissenting word, and the voted stream; none where the tick has no decision. -/
def compareStreams : List (Nat × List Nat) → Option (List Nat) × List (Nat × Nat)
  | [(ra, a), (rb, b), (rc, c)] =>
    let (w, da, db, dc) := vote3 0 a b c
    let ds := [(ra, da), (rb, db), (rc, dc)].filterMap fun x => x.2.map fun j => (x.1, j)
    (if ds.length ≤ 1 then some w else none, ds)
  | [(_, a), (_, b)] => (if a = b then some a else none, [])
  | _ => (none, [])

/-- Where a word index of the stream lies: part (0 head, 1 slot, 2 CLE), slot, word index for DETAIL (R423). -/
def locate (wq : Nat) (layout : List (Nat × Nat)) (j : Nat) : Nat × Nat × Nat :=
  if j < 4 then (0, 0, j)
  else if j < 4 + wq then (2, 0, j)
  else go (j - 4 - wq) layout
where
  /-- The slot part that holds word k after the CLE words. -/
  go (k : Nat) : List (Nat × Nat) → Nat × Nat × Nat
    | [] => (0, 0, k)
    | (slot, n) :: l => if k < 16 + 4 * n then (1, slot, k) else go (k - 16 - 4 * n) l

/-- The DETAIL of R423. -/
def dissentDetail (rod : Nat) (loc : Nat × Nat × Nat) : Nat :=
  rod + loc.1 * 4 + (if loc.1 = 1 then loc.2.1 * 16 else 0) + loc.2.2 % 65536 * 65536

/-- The parts of a stream by slot: (slot, record and mirror words). -/
def splitSlots : List (Nat × Nat) → List Nat → List (Nat × List Nat)
  | [], _ => []
  | (slot, n) :: l, ws => (slot, ws.take (16 + 4 * n)) :: splitSlots l (ws.drop (16 + 4 * n))

/-- The slot parts of a voted stream. -/
def slotParts (wq : Nat) (layout : List (Nat × Nat)) (stream : List Nat) : List (Nat × List Nat) :=
  splitSlots layout (stream.drop (4 + wq))

/-- The entries of four words after a record. -/
def entriesOf : List Nat → List (List Nat)
  | a :: b :: c :: d :: l => [a, b, c, d] :: entriesOf l
  | _ => []

/-- A record or mirror entry without the bits that differ between source and destination (R405): SHADOW, and the slot
number replaced by an ordinal where one is given. -/
def normRecord (ord : Option Nat) (w : List Nat) : List Nat :=
  let h := w.headD 0
  let h1 := if h / 2 ^ 28 % 2 = 1 then h - 2 ^ 28 else h
  let h2 := match ord with
    | some o => h1 - h1 % 65536 + o
    | none => h1
  h2 :: (w.drop 1).take 15 ++ (entriesOf (w.drop 16)).foldl (fun a e =>
    let x := e.headD 0
    let x1 := if x / 2 ^ 26 % 2 = 1 then x - 2 ^ 26 else x
    a ++ [x1] ++ (e.drop 1).take 2 ++ [match ord with
      | some o => o
      | none => e.getD 3 0]) []

/-- RDIG (R405). -/
def recordDigest (parts : List (Nat × List Nat)) : Nat :=
  crc64 (wordBytes (parts.foldl (fun a p => a ++ normRecord none p.2) []))

/-- RDIG_s: over the parts of a slice's slots, numbered from 0 (R405). -/
def sliceDigest (parts : List (Nat × List Nat)) : Nat :=
  crc64 (wordBytes (go 0 parts))
where
  /-- The normalised words from ordinal k on. -/
  go (k : Nat) : List (Nat × List Nat) → List Nat
    | [] => []
    | p :: l => normRecord (some k) p.2 ++ go (k + 1) l

/-! ### The settlement of a tick (R348, R405, R408) -/

/-- A missed decision (R348): counted, source 76, fault 0x0904, and 0x0903 beyond MISS_TOL. -/
def State.missed (s : State) (voters : Nat) : State :=
  let run := s.get Reg.ROD_MISSED_RUN + 1
  let s1 := ((s.count Reg.ROD_MISSED_COUNT).put Reg.ROD_MISSED_RUN (min run 65535)).event 76
  let s2 := { s1 with core := { s1.core with decidedRun := 0 } }.raiseRecord 0x0904 0 0 0xFFFF voters
  if s2.get Reg.PAIR_CFG_MISS_TOL < run then s2.raise1 0x0903 3 run else s2

/-- A decided tick: counters, and the clears of 0x0903 and 0x0A03 after 480 of them (R352, R414). -/
def State.decided (s : State) : State :=
  let k := s.core.decidedRun + 1
  let s1 := ({ s with core := { s.core with decidedRun := k } }.put Reg.ROD_MISSED_RUN 0).countMod Reg.BEAM_DECIDED_COUNT 1
  if k = 480 then
    let s2 := s1.clearFault 0x0903 0
    if 2 ≤ (s2.rodsIn rodVoting).length then s2.clearFault 0x0A03 0 else s2
  else s1

/-- Quarantine by the beam (R410): two different rods benched within 3,600 s with their first dissent in one slot. -/
def State.noteDissent (s : State) (r slot : Nat) : State :=
  let now := s.ns
  let near := s.core.benchHist.any fun b => decide (now < b.1 + 3600000000000) && b.2.1 == slot && b.2.2 ≠ r
  let hist := ((now, slot, r) :: s.core.benchHist).filter fun b => decide (now < b.1 + 3600000000000)
  let s1 := { s with core := { s.core with benchHist := hist } }
  if near && s1.flag Reg.BEAM_CFG_QUAR_EN then
    match s1.findSlot slot with
    | some x => { s1 with slots := setKey Slot.slot { x with quarantine := some 1 } s1.slots }
    | none => s1
  else s1

/-- The bench of a dissenting rod (R408, R410, R423). -/
def State.benchVote (s : State) (wq : Nat) (layout : List (Nat × Nat)) (x : Nat × Nat) : State :=
  let loc := locate wq layout x.2
  let det := dissentDetail x.1 loc
  let s1 := ((s.put (Reg.BEAM_ROD_LAST_WORD x.1) det).event 80).bench x.1 1
  let s2 := s1.raiseAt 0x0A01 2 x.1 det
  if loc.1 = 1 then s2.noteDissent x.1 loc.2.1 else s2

/-- AGREE and the voted flags of a slot after a vote; `bad` lists slots with a disagreement (R334, R344). -/
def State.noteSlot (s : State) (bad : List Nat) (decided : Bool) (p : Nat × List Nat) : State :=
  let s1 := if decided then s.showFlags p.1 (p.2.headD 0 / 2 ^ 24 % 8) else s
  if s1.slotState p.1 ≠ slShadow then s1
  else if bad.contains p.1 then s1.put (Reg.ROD_SLOT_AGREE_TICKS p.1) 0
  else if decided then s1.put (Reg.ROD_SLOT_AGREE_TICKS p.1) (min (s1.get (Reg.ROD_SLOT_AGREE_TICKS p.1) + 1) (2 ^ 32 - 1))
  else s1

/-- A fault of the CLE that two rods reached at the same tick (R489). -/
def State.cleFault (s : State) (cause pc : Nat) : State :=
  let dep := s.flag Reg.CLE_STATUS_DEPEND
  let s1 := ((s.put Reg.CLE_STATUS_STATE 2).put Reg.CLE_STATUS_FCAUSE cause).put Reg.CLE_FAULT_PC_PC pc
  ((s1.event 104).event 106).raise1 0x0D01 (if dep then 3 else 1) (cause + pc % 65536 * 65536)

/-- The commit of a CLE cycle as the beam sees it (R486, R488, R498). -/
def State.cleCommitted (s : State) (c : Nat) (overs : Bool) (window : Nat) : State :=
  let s1 := (s.put Reg.CLE_CYCLE_LAST_C c).put Reg.CLE_CYCLE_MAX_C (max c (s.get Reg.CLE_CYCLE_MAX_C))
  let s2 := (s1.countMod Reg.CLE_CYCLES_COUNT 1).put Reg.CLE_OVERRUNS_WINDOW window
  let s3 := s2.eventIf (s2.flag Reg.CLE_CTRL_CYC_EVT) 110
  if overs then ((s3.count Reg.CLE_OVERRUNS_TOTAL).event 105).raiseRecord 0x0D02 0 0 0xFFFF c else s3

/-- What the CLE instances of the agreeing rods did in the tick. -/
def State.noteCle (s : State) (rods : List (RodState × Delivery)) (stream : List Nat) (wq : Nat) : State :=
  let s1 := (List.range wq).foldl (fun s w => s.put (Reg.CLE_Q_BITS w) (stream.getD (4 + w) 0)) s
  let faults := rods.filterMap fun x => x.2.cleFault
  match faults with
  | a :: l => if l.contains a then s1.cleFault a.1 a.2 else s1
  | [] =>
    match rods with
    | (d, x) :: _ => (match x.cleDone with
      | some (c, o) => s1.cleCommitted c o (overruns d.cle.overs)
      | none => s1)
    | [] => s1

/-- The dissent that active injections of KIND 5 make in the stream of rod r (R699), with the words they change. -/
def injectStream (inj : List Injection) (r : Nat) (stream : List Nat) : List Nat × List (Nat × Nat) :=
  (inj.filter fun i => i.active && i.kind == 5 && (i.target >>> r) % 2 == 1).foldl
    (fun a i =>
      let w := i.param % 65536
      (a.1.set w ((a.1.getD w 0) ^^^ i.mask), a.2 ++ [(i.id, w)])) (stream, [])

/-- The journal entries and counts of injected dissents: a KIND 4 entry per rod and tick, source 178 at the first. -/
def State.noteInjected (s : State) (r : Nat) (l : List (Nat × Nat)) : State :=
  l.foldl (fun s x =>
    let first := s.inj.any fun i => i.id == x.1 && i.affected == 0
    let inj := s.inj.map fun i => if i.id = x.1 then { i with affected := i.affected + 1 } else i
    let s1 := { s with inj := inj }
    (((s1.countMod (Reg.FIJ_INJ_AFFECTED_COUNT x.1) 1).eventIf first 178).note 0x18 4 (r + x.2 * 65536))) s

/-- Whether the module is a requester whose rods compute nothing (R439). -/
def State.resyncTick (s : State) : Bool := s.get Reg.PAIR_STATUS_RESYNC == 2 || s.get Reg.PAIR_STATUS_RESYNC == 3

/-- The layout of tick n's stream, none where no image n was released. -/
def State.layoutOf (s : State) (n : Nat) : Option (List (Nat × Nat)) := (findKey Prod.fst n s.core.layout).map Prod.snd

/-- A tick that is settled without a vote (R303, R30, R419, R439): `noImage` sets FLAGS bit 2. -/
def State.settleIdle (s : State) (n : Nat) (noImage : Bool) : State :=
  let x : Settled := { tick := n, decided := false, voters := 0, idle := true, noImage := noImage, stream := [],
                       layout := [], shadow := [], sdig := 0, rdig := 0 }
  { s with core := { s.core with settled := some x } }

/-- A rod without results at v_n: a carry tick, and the bench at the end of its episode (R345, R347). -/
def State.carryTick (s : State) (n c : Nat) (r : Nat) : State :=
  let d := s.rod r
  let (n0, s1) := match d.carryFrom with
    | some k => (k, s)
    | none => (n, (s.setRod r { d with carryFrom := some n }).event 73)
  let s2 := s1.count (Reg.ROD_RODSTAT_CARRY_COUNT r)
  if n0 + c ≤ n then
    let s3 := ((s2.event 75).count (Reg.ROD_RODSTAT_OUTCOME_BENCH r)).bench r 2
    s3.raiseAt 0x0902 2 r r
  else s2

/-- A rod with results on time ends its episode: forgiven (R347). -/
def State.forgive (s : State) (n r : Nat) : State :=
  let d := s.rod r
  match d.carryFrom with
  | none => s
  | some k =>
    let s1 := (s.setRod r { d with carryFrom := none }).event 74
    (s1.count (Reg.ROD_RODSTAT_OUTCOME_FORGIVEN r)).raiseRecord 0x0901 0 0 0xFFFF (r + min (n - k) 7 * 256)

/-- The results a rod has for tick n. -/
def resultFor (d : RodState) (n : Nat) : Option Delivery :=
  match d.result with
  | some x => if x.tick = n then some x else none
  | none => none

/-- A VERIFYING rod's stream against the voted one (R416): 4,800 matches in a row make it rejoin at the boundary. -/
def State.verify (s : State) (n c : Nat) (voted : Option (List Nat)) (r : Nat) : State :=
  if s.rodSt r ≠ rodVerifying then s
  else
    match resultFor (s.rod r) n with
    | none => s.carryTick n c r
    | some x =>
      let s0 := s.forgive n r
      match voted with
      | none => s0
      | some w =>
        if x.stream = w then
          let m := s0.get (Reg.BEAM_ROD_VERIFY_MATCHED r) + 1
          let s1 := s0.put (Reg.BEAM_ROD_VERIFY_MATCHED r) (min m 65535)
          if m = 4800 then { s1 with core := { s1.core with rejoinAt := s1.core.rejoinAt ++ [r] } } else s1
        else s0.bench r 7

/-- Benches that fall due at v_n: image CRC with fault 0x0907 (R349), and uncorrectable SRAM (R325). -/
def State.dueBenches (s : State) (n : Nat) : State :=
  let s1 := (List.range 3).foldl (fun s r =>
    if (s.rod r).crcBad = some n then (s.bench r 3).raiseAt 0x0907 2 r r else s) s
  let s2 := s1.core.pendBench.foldl (fun s x => s.bench x.1 x.2) s1
  { s2 with core := { s2.core with pendBench := [] } }

/-- The slots in whose part the streams differ (R334). -/
def disagreeing (wq : Nat) (layout : List (Nat × Nat)) : List (List Nat) → List Nat
  | [] => []
  | w :: l => ((slotParts wq layout w).filter fun p => l.any fun v => !(slotParts wq layout v).contains p).map Prod.fst

/-- The vote of tick n over the streams on time (R407–R410), after the benches that fall due at v_n. `differ` is a word in which the
voter channels differ. -/
def State.decide' (s0 : State) (n : Nat) (layout : List (Nat × Nat)) (differ : Option Nat) : State :=
  let c := s0.get Reg.ROD_CFG_CARRY_MAX
  let voting := s0.rodsIn rodVoting
  let have' := voting.filterMap fun r => (resultFor (s0.rod r) n).map fun x => (r, x)
  let late := voting.filter fun r => (resultFor (s0.rod r) n).isNone
  let injected := have'.map fun x => let (w, l) := injectStream s0.inj x.1 x.2.stream; (x.1, w, l)
  let s1 := injected.foldl (fun s x => s.noteInjected x.1 x.2.2) s0
  let s2 := have'.foldl (fun s x => s.forgive n x.1) s1
  let s3 := (late.foldl (fun s r => s.carryTick n c r) s2).put Reg.BEAM_STATUS_CARRYING ((late.map fun r => 2 ^ r).sum)
  let voters := (have'.map fun x => 2 ^ x.1).sum
  let wq := s0.cle.prog.elim 0 CleImage.wq
  let (voted0, dissent) := compareStreams (injected.map fun x => (x.1, x.2.1))
  let voted := if differ.isSome then none else voted0
  let parts := match voted with
    | some w => slotParts wq layout w
    | none => []
  let bad := disagreeing wq layout (injected.map fun x => x.2.1)
  let sdig := match voted with
    | some w => w.getD 2 0 + w.getD 3 0 * 2 ^ 32
    | none => 0
  let x : Settled := { tick := n, decided := voted.isSome, voters := voters, idle := false, noImage := false,
                       stream := voted.getD [], layout := layout,
                       shadow := (s3.slots.filter fun x => x.state == slShadow).map Slot.slot,
                       sdig := sdig, rdig := if voted.isSome then recordDigest parts else 0 }
  let s4 := { s3 with core := { s3.core with settled := some x } }
  match voted with
  | some w =>
    let s5 := { s4 with core := { s4.core with retained := ((n, w) :: s4.core.retained).take c } }.decided
    let s6 := dissent.foldl (fun s x => s.benchVote wq layout x) s5
    let s7 := parts.foldl (fun s p => s.noteSlot bad true p) s6
    let agree := have'.filterMap fun x => if dissent.any (fun y => y.1 == x.1) then none else some (s0.rod x.1, x.2)
    let s8 := s7.noteCle agree w wq
    ((List.range 3).foldl (fun s r => s.verify n c (some w) r) s8).restartIfShort
  | none =>
    let s5 := (layout.map fun x => (x.1, ([] : List Nat))).foldl (fun s p => s.noteSlot bad false p) s4
    let s6 := s5.missed voters
    let s7 := match differ with
      | some j => { ((s6.count Reg.BEAM_CHMIS_COUNT).event 86).raise1 0x0A07 2 j with
          core := { s6.core with stDue := true } }
      | none =>
        if 2 ≤ have'.length then
          (((s6.count Reg.BEAM_NOMAJ_COUNT).event 81).raise1 0x0A03 3 voters).coldRestart
        else s6
    ((List.range 3).foldl (fun s r => s.verify n c none r) s7).restartIfShort

/-- The benches that fall due at v_n, while ROD is enabled. -/
def State.benchesAt (s : State) (n : Nat) : State := if s.flag Reg.ROD_CTRL_EN then s.dueBenches n else s

/-- A tick for which no image was formed is settled without a decision (R303, R409). -/
def State.settleNone (s : State) (n : Nat) : State :=
  let x : Settled := { tick := n, decided := false, voters := 0, idle := false, noImage := true, stream := [],
                       layout := [], shadow := [], sdig := 0, rdig := 0 }
  { s with core := { s.core with settled := some x } }

/-- Tick n is settled at v_n: without a comparison where there is no image (R303, R349) or no rod computes (R419, R439), else by the vote. -/
def State.settleVote (s : State) (n : Nat) (differ : Option Nat) : State :=
  if !s.svi.enabled then (s.settleIdle n true).restartIfShort
  else if s.core.noImage = some n then
    (if s.flag Reg.ROD_CTRL_EN && !s.resyncTick then (s.settleNone n).missed 0 else s.settleNone n).restartIfShort
  else match s.layoutOf n with
    | none => (s.settleIdle n true).restartIfShort
    | some l =>
      if !s.flag Reg.ROD_CTRL_EN || s.resyncTick then (s.settleIdle n false).restartIfShort
      else s.decide' n l differ

/-- VOTE (R408) of the tick whose boundary is next, once; the instant is v_n. The benches that fall due at v_n come first. -/
def vote (differ : Option Nat) (s : State) : State :=
  let n := s.tg.next
  if !s.tg.running || s.isSettled n then s
  else ((s.advance (s.voteInstant n)).benchesAt n).settleVote n differ

def execVote (differ : Option Nat) (s : State) : Host.Outcome State Fault Refusal := .next (vote differ s)

/-! ### Re-integration (R413–R415) -/

/-- ROD_SELFTEST_DONE (R413): WAITING, or LOCKED_OUT with faults 0x0A02 and 0x0A04. -/
def rodSelftestDone (r : Nat) (pass : Bool) (s : State) : State :=
  if 2 < r || s.rodSt r ≠ rodResetting then s
  else if pass then s.moveRod r rodWaiting
  else
    ((((s.event 84).raiseAt 0x0A02 1 r r).moveRod r rodLockedOut).event 85 |>.raiseAt 0x0A04 2 r r).checkRestart

def execRodSelftestDone (rod : Nat) (pass : Bool) (s : State) : Host.Outcome State Fault Refusal :=
  .next (rodSelftestDone rod pass s)

/-- The donor (R415): the VOTING rod with the lowest letter. -/
def State.donor (s : State) : Option Nat := (s.rodsIn rodVoting).head?

/-- ROD_COPY_ROUND_END (R415): `written` bytes were written by the donor since the round began. At most 256 KiB bring the
final round; 64 rounds without it, a bad word, or the donor's loss fail the copy. -/
def rodCopyRoundEnd (r written : Nat) (uncorr : Bool) (s : State) : State :=
  if 2 < r || s.rodSt r ≠ rodCopying || (s.rod r).finalDue then s
  else
    let k := s.get (Reg.BEAM_ROD_COPY_ROUNDS r)
    let s1 := s.put (Reg.BEAM_ROD_COPY_REMAIN r) (min written (2 ^ 24 - 1))
    if uncorr || s.donor.isNone then s1.reintFail r 1 6
    else if written ≤ 262144 then s1.setRod r { s1.rod r with finalDue := true }
    else if 64 ≤ k then s1.reintFail r 1 6
    else s1.put (Reg.BEAM_ROD_COPY_ROUNDS r) (k + 1)

def execRodCopyRoundEnd (rod written : Nat) (uncorr : Bool) (s : State) : Host.Outcome State Fault Refusal :=
  .next (rodCopyRoundEnd rod written uncorr s)

/-- ROD_COPY_FINAL_ROUND (R415): within [v_n, d_n) of a tick that is settled and at which the donor was on time. The joining rod then holds the
donor's state after tick n and enters VERIFYING; more than 256 KiB start ordinary rounds again. -/
def rodCopyFinalRound (r written : Nat) (uncorr : Bool) (s : State) : State :=
  if 2 < r || s.rodSt r ≠ rodCopying || !(s.rod r).finalDue || !s.isSettled s.tg.next then s
  else
    match s.donor with
    | none => s.reintFail r 1 6
    | some dn =>
      let d := s.rod dn
      if uncorr then s.reintFail r 1 6
      else if (resultFor d s.tg.next).isNone then s
      else if 262144 < written then
        let k := s.get (Reg.BEAM_ROD_COPY_ROUNDS r)
        if 64 ≤ k then s.reintFail r 1 6
        else (s.setRod r { s.rod r with finalDue := false }).put (Reg.BEAM_ROD_COPY_ROUNDS r) (k + 1)
      else
        let me := s.rod r
        let s1 := s.setRod r { idleRod me with slots := d.slots, cle := d.cle, recs := d.recs }
        ((s1.put (Reg.BEAM_ROD_COPY_REMAIN r) 0).put (Reg.BEAM_ROD_VERIFY_MATCHED r) 0).moveRod r rodVerifying

def execRodCopyFinalRound (rod written : Nat) (uncorr : Bool) (s : State) : Host.Outcome State Fault Refusal :=
  .next (rodCopyFinalRound rod written uncorr s)

/-- The initial state of the computed slots, and the initial data of the CLE program (R360, R414). -/
def State.startState (s : State) : RodState :=
  { slots := (computed s.slots).map fun x => (x.slot, fitTo (slotWords s.tg.f x.img.elems) x.img.init),
    cle := (match s.cle.prog with
      | some p => cleInit p (s.get Reg.CLE_STATUS_STATE) true
      | none => {}) }

/-- Rods start together from one state and vote; `fresh` tells that it is the slots' initial state (R361). -/
def State.startRods (s : State) (rods : List Nat) (start : RodState) (fresh : Bool) : State :=
  let s1 := rods.foldl (fun (s : State) r =>
    (s.setRod r { idleRod (s.rod r) with slots := start.slots, cle := start.cle, recs := [] }).moveRod r rodVoting) s
  { s1 with slots := s1.slots.map fun (x : Slot) =>
      if fresh && (x.state == slShadow || x.state == slRunning) then { x with fresh := true } else x }

/-- The waiting rods restart together with a common state (R414): the initial state of each slot, groups kept, and the
initial data of the CLE program; or the partner's state where a join falls on the boundary. -/
def State.restartRods (s : State) (fromPartner : Option RodState) : State :=
  let waiting := s.rodsIn rodWaiting
  if !s.flag Reg.BEAM_STATUS_RESTART || decide (waiting.length < 2) ||
      (List.range 3).any (fun r => s.rodSt r ≠ rodWaiting && s.rodSt r ≠ rodLockedOut) then s
  else
    (((s.startRods waiting (fromPartner.getD s.startState) fromPartner.isNone).put Reg.BEAM_STATUS_RESTART 0).event 87).clearFault
      0x0A05 0

/-- The rods that are OFF start at the boundary after `ROD.CTRL.EN` became 1 (R413), from the slots' initial states and the program's
initial data; one held LOCKED_OUT stays there, with source 85 and fault 0x0A04 (R421, R422). -/
def State.enableRodsAt (s : State) : State :=
  let off := s.rodsIn rodOff
  let s1 := { s with core := { s.core with enableRods := false } }
  let s2 := (off.filter fun r => (s.rod r).locked).foldl (fun (s : State) r =>
    ((s.moveRod r rodLockedOut).event 85).raiseAt 0x0A04 2 r r) s1
  s2.startRods (off.filter fun r => !(s.rod r).locked) s.startState true

/-- The bytes that round 1 of a copy moves from the donor (R415). -/
def State.copyBytes (s : State) : Nat := match s.donor with
  | some d => min (4 * (rodWords s.cle.prog (s.rod d)).length) (2 ^ 24 - 1)
  | none => 0

/-- The rods at a tick boundary: enable, rejoin, restart, copies that start (R413–R415). -/
def State.rodBoundary (s : State) (fromPartner : Option RodState) : State :=
  let s1 := if s.core.enableRods then s.enableRodsAt else s
  let s2 := s1.core.rejoinAt.foldl (fun s r => if s.rodSt r = rodVerifying then s.rejoin r else s)
    { s1 with core := { s1.core with rejoinAt := [] } }
  let s3 := s2.restartRods fromPartner
  if 2 ≤ (s3.rodsIn rodVoting).length && !s3.resyncTick then
    (s3.rodsIn rodWaiting).foldl (fun s r =>
      ((((s.moveRod r rodCopying).event 82).put (Reg.BEAM_ROD_COPY_ROUNDS r) 1).put (Reg.BEAM_ROD_COPY_REMAIN r) s.copyBytes).setRod r
        { s.rod r with finalDue := false }) s3
  else s3

/-- ROD_ENABLE_CHANGE (R413, R419): on 0 to 1 the rods start at the next boundary, a LOCKED_OUT rod stays; on 1 to 0 every
rod turns OFF. A write in BOOT is rejected with reason 3 (R110). -/
def rodEnableChange (en : Bool) (s : State) : State :=
  let was := s.flag Reg.ROD_CTRL_EN
  if s.st = stBoot then s.reject 9 0x10 3
  else
    let s1 := s.putFlag Reg.ROD_CTRL_EN en
    if en && !was then { s1 with core := { s1.core with enableRods := true } }
    else if !en && was then
      let s2 := (List.range 3).foldl (fun s r => (s.setRod r (idleRod (s.rod r))).moveRod r rodOff) s1
      { s2.put Reg.BEAM_STATUS_RESTART 0 with core := { s2.core with enableRods := false, rejoinAt := [], pendBench := [] } }
    else s1

def execRodEnableChange (en : Bool) (s : State) : Host.Outcome State Fault Refusal := .next (rodEnableChange en s)

/-- ROD_REARM (R413, R419): rejected with reason 3 outside SERVICE; a LOCKED_OUT rod enters RESETTING with no history. -/
def rodRearm (r : Nat) (s : State) : State :=
  if 2 < r then s
  else if s.st ≠ stService then s.reject 10 (0x44 + 0x20 * r) 3
  else if s.rodSt r ≠ rodLockedOut then s
  else
    ((s.setRod r { s.rod r with history := [], locked := false }).put (Reg.BEAM_ROD_STATE_REINT r) 0).clearFault 0x0A04 r |>.count
      (Reg.BEAM_ROD_BENCHES_COUNT r) |>.moveRod r rodResetting

def execRodRearm (rod : Nat) (s : State) : Host.Outcome State Fault Refusal := .next (rodRearm rod s)

/-- BEAM_SELFTEST (R127, R418): outside [v_n, d_n), a run passes or fails; the second failure in a row raises 0x0A06. -/
def beamSelftest (failed : Option Nat) (s : State) : State :=
  if s.mainAbsent || (s.tg.running && s.isSettled s.tg.next) then s
  else
    let s1 := (s.countMod Reg.BEAM_SELFTEST_RUNS 1).putFlag Reg.BEAM_STATUS_ST_FAIL failed.isSome
    match failed with
    | none => { s1 with core := { s1.core with stFails := 0, stDue := false } }.clearFault 0x0106 5
    | some v =>
      let k := s1.core.stFails + 1
      let s2 := { (s1.count Reg.BEAM_SELFTEST_FAIL).event 86 with core := { s1.core with stFails := k, stDue := true } }
      let s3 := (s2.event 8).raiseAt 0x0106 2 5 5
      if k = 2 then s3.raise1 0x0A06 4 v else s3

def execBeamSelftest (failed : Option Nat) (s : State) : Host.Outcome State Fault Refusal := .next (beamSelftest failed s)

end Sys2Proof.Machine
end

