-- ==== Sys2Proof/Machine/Svi.lean ====
section
/-! DEFINITION. The SV intake and the aligner: tick assignment, sample outcomes, checks, GOOSE subscriptions, the release
of an image (R294–R316, R322, R323). -/

namespace Sys2Proof.Machine

/-! ### Subscriptions (R296, R298) -/

/-- The valid subscriptions as they expect channels, from the active registers. -/
def State.subViews (s : State) : List SubView :=
  ((List.range 512).filter fun k => s.getA (Reg.SVI_SUB_DST_HI_EN k) == 1).map fun k =>
    ⟨k, s.getA (Reg.SVI_SUB_LAYOUT_BASE k), s.getA (Reg.SVI_SUB_LAYOUT_NCH k), s.getA (Reg.SVI_SUB_POLICY_MISS k)⟩

/-- The views in force for tick k: those with the latest first tick not after k. Views are listed latest first. -/
def viewsFor (k : Nat) : List (Nat × List SubView) → List SubView
  | [] => []
  | (t, v) :: l => if t ≤ k then v else viewsFor k l

/-- How a subscription expects tick k, if it does (R298). -/
def State.viewAt (s : State) (sub k : Nat) : Option SubView := findKey SubView.sub sub (viewsFor k s.svi.views)

/-- The first tick k with t_k at or after an instant (units). -/
def firstTickFrom (t f : Nat) : Nat := (t * f + 1000000000 * nsUnit - 1) / (1000000000 * nsUnit)

/-- A view under the missing-sample policy that the subscriptions now have (R28). -/
def withPolicy (now : List SubView) (x : SubView) : SubView := (findKey SubView.sub x.sub now).elim x fun y => { x with miss := y.miss }

/-- The record of a subscription for R323. -/
def State.watchOf (s : State) (k : Nat) : SubWatch := (findKey SubWatch.sub k s.svi.watch).getD { sub := k }
def State.setWatch (s : State) (w : SubWatch) : State := { s with svi := { s.svi with watch := setKey SubWatch.sub w s.svi.watch } }

/-- A subscription that was not expected before is so from now on: its records start (R323). -/
def State.watchNew (s : State) (old new : List SubView) : State :=
  (new.filter fun v => !old.any fun o => o.sub == v.sub).foldl (fun (s : State) v => s.setWatch { sub := v.sub, lastUsed := s.time }) s

/-- The subscriptions in the registers go into force at boundary n: channels are expected from the first tick with t_k ≥ d_n on
(R298), a missing-sample policy acts from image n + 1 on (R28). STATUS and the use of the quota follow. -/
def State.applySubs (s : State) : State :=
  let v := s.subViews
  let k := firstTickFrom s.time s.tg.f
  let old := (s.svi.views.take 64).map fun (x : Nat × List SubView) => (x.1, x.2.map (withPolicy v))
  let s1 := { s with svi := { s.svi with views := (k, v) :: old } }.watchNew ((s.svi.views.head?).elim [] Prod.snd) v
  let s2 := (s1.put Reg.SVI_STATUS_SUBS v.length).put Reg.SVI_STATUS_CHANNELS ((v.map SubView.nch).sum)
  (List.range 256).foldl (fun s sl =>
    let n := (v.filter fun x => s.getA (Reg.SVI_SUB_LAYOUT_SLICE x.sub) == sl).length
    if s.get (useOf (Reg.SLC_SLICE_QA_SVSUB sl)) = n then s else s.put (useOf (Reg.SLC_SLICE_QA_SVSUB sl)) n) s2

/-- Whether a frame matches subscription k (R296). -/
def State.svMatches (s : State) (fr : SvFrame) (id : List Nat) (k : Nat) : Bool :=
  s.getA (Reg.SVI_SUB_DST_HI_EN k) == 1 &&
  s.getA (Reg.SVI_SUB_DST_LO_ADDR k) + s.getA (Reg.SVI_SUB_DST_HI_ADDR k) * 2 ^ 32 == fr.dst &&
  s.getA (Reg.SVI_SUB_DST_HI_VID k) == fr.vid && s.getA (Reg.SVI_SUB_ID_APPID k) == fr.appid &&
  s.getA (Reg.SVI_SUB_ID_SVID_LEN k) == id.length && s.getA (Reg.SVI_SUB_SVID_CRC_CRC k) == crc32c id

/-- The subscription that a frame matches. -/
def State.svSub (s : State) (fr : SvFrame) : Option Nat :=
  match fr.asdus with
  | [] => none
  | a :: _ => (List.range 512).find? (s.svMatches fr a.svid)

/-- The latest tick with a smpCnt whose instant lies before a stamp (R295); the stamp lies after tick smpCnt. -/
def tickOf (smp stamp f : Nat) : Nat :=
  let cur := (stamp * f + 1000000000 * nsUnit - 1) / (1000000000 * nsUnit) - 1
  cur - (cur + f - smp % f) % f

/-- a of R295 in units. -/
def arrival (k stamp f : Nat) : Nat := stamp - instantOf k f 0

/-! ### Checks (R300) -/

/-- The reason of the first frame check that fails, 0 for none. -/
def State.frameReason (s : State) (fr : SvFrame) (k : Nat) : Nat :=
  let nch := s.getA (Reg.SVI_SUB_LAYOUT_NCH k)
  let slice := s.getA (Reg.SVI_SUB_LAYOUT_SLICE k)
  if !fr.decodes || fr.noAsdu ≠ s.getA (Reg.SVI_SUB_LAYOUT_NOASDU k) || fr.asdus.any (fun a => a.seqLen ≠ 8 * nch) then 1
  else if s.getA (Reg.SVI_SUB_POLICY_AUTH k) == 1 && !(fr.tagOk && s.keyUsable (s.getA (Reg.SVI_SUB_POLICY_KEYSLOT k)) slice 1)
  then 2
  else if fr.asdus.any fun a => a.confRev ≠ s.getA (Reg.SVI_SUB_CONFREV_REV k) then 3
  else if fr.sim && s.getA (Reg.SVI_SUB_POLICY_TEST_OK k) == 0 then 4
  else 0

/-- The reason of the first ASDU check that fails: RANGE, ARRIVAL, SYNC. -/
def State.asduReason (s : State) (fr : SvFrame) (a : Asdu) (k : Nat) : Nat :=
  match a.smpCnt with
  | none => 1
  | some c =>
    let sync := s.getA (Reg.SVI_SUB_POLICY_SYNC k)
    if s.tg.f ≤ c then 5
    else if 3000000 * nsUnit < arrival (tickOf c fr.stamp s.tg.f) fr.stamp s.tg.f then 6
    else if (sync = 1 && a.smpSynch < 1) || (sync = 2 && a.smpSynch < 2) then 7
    else 0

/-! ### Outcomes (R299, R301) -/

/-- n samples are unexpected; source 67. -/
def State.svUnexpected (s : State) (n : Nat) : State := (s.countMod Reg.SVI_UNEXPECTED_COUNT n).eventIf (decide (0 < n)) 67

/-- n samples are duplicates. -/
def State.svDuplicate (s : State) (n : Nat) : State := s.countMod Reg.SVI_DUPLICATE_COUNT n

/-- n samples of a subscription are invalid with a reason; source 64 where SUB_INV rises (R322), fault 0x0802 after 1 s of nothing
else. -/
def State.svInvalid (s : State) (k reason n : Nat) : State :=
  if n = 0 then s
  else
    let s1 := ((s.countMod Reg.SVI_INVALID_COUNT n).countBy (Reg.SVI_SUB_INV_COUNT k) n).put (Reg.SVI_SUB_INV_LAST k) reason
    let w := s1.watchOf k
    let same := w.badReason == reason
    let s2 := (s1.eventIf (decide (s.get (Reg.SVI_SUB_INV_COUNT k) < s1.get (Reg.SVI_SUB_INV_COUNT k))) 64).setWatch { w with badReason := reason, badSince := if same then w.badSince else s1.time }
    if same && decide (w.badSince + 1000000000 * nsUnit ≤ s2.time) then s2.raiseAt 0x0802 1 k (k + reason * 65536) else s2

/-- n samples of a subscription are late; source 65, fault 0x0803 at 10 within 1 s. -/
def State.svLate (s : State) (k n : Nat) : State :=
  if n = 0 then s
  else
    let s1 := (s.countMod Reg.SVI_LATE_COUNT n).event 65
    let w := s1.watchOf k
    let l := (List.replicate n s1.time ++ w.lates).filter fun t => decide (s1.time < t + 1000000000 * nsUnit)
    let s2 := s1.setWatch { w with badReason := 0, lates := l.take 10 }
    if 10 ≤ l.length then s2.raiseAt 0x0803 1 k k else s2

/-- The open image of a tick. -/
def State.openImage (s : State) (k : Nat) : OpenImage := (findKey OpenImage.tick k s.svi.open').getD ⟨k, []⟩

/-- Samples of an ASDU are offered to image k (R299, rows 3 TEST, 5 and 6), with SYNCQ where SYNC = 3 (R306). -/
def State.svHold (s : State) (sub k base : Nat) (syncq testOk : Bool) : List (Int × Nat) → State
  | [] => s
  | (v, q) :: l =>
    let next := fun (s : State) => State.svHold s sub k (base + 1) syncq testOk l
    if q / 2 ^ 11 % 2 = 1 && !testOk then next (s.svInvalid sub 8 1)
    else
      let img := s.openImage k
      if img.samples.any fun x => x.chan == base then next (s.svDuplicate 1)
      else
        let q0 := q % 2 ^ 14
        let q1 := if syncq then (if q0 % 4 = 0 then q0 + 3 else q0) + 2 ^ 19 else q0
        let img1 : OpenImage := { img with samples := ⟨base, v, q1, sub⟩ :: img.samples }
        let s1 := { s with svi := { s.svi with open' := setKey OpenImage.tick img1 s.svi.open' } }
        next ((s1.countMod Reg.SVI_HELD_COUNT 1).setWatch { s1.watchOf sub with badReason := 0 })

/-- The samples of one ASDU late: those that fail TEST are invalid first (R299). -/
def State.svLateAsdu (s : State) (sub : Nat) (testOk : Bool) (data : List (Int × Nat)) : State :=
  let bad := (data.filter fun x => x.2 / 2 ^ 11 % 2 == 1 && !testOk).length
  (s.svInvalid sub 8 bad).svLate sub (data.length - bad)

/-- ARRIVE of a subscription: a in 0.1 µs, rounded up, saturating (R305). -/
def State.svArrive (s : State) (k a : Nat) : State :=
  let x := min ((a + 100 * nsUnit - 1) / (100 * nsUnit)) 65535
  (s.put (Reg.SVI_SUB_ARRIVE_LAST k) x).put (Reg.SVI_SUB_ARRIVE_MAX k) (max x (s.get (Reg.SVI_SUB_ARRIVE_MAX k)))

/-- One ASDU of a frame that matches subscription `k` (R299): `fr` reason of the frame, nch samples. Its samples belong to the channels
that the subscription expects at the tick (R298); a sample beyond them is unexpected. -/
def State.svAsdu (s : State) (fr : SvFrame) (k reason nch : Nat) (a : Option Asdu) : State :=
  let smp := a.bind Asdu.smpCnt
  match smp with
  | none => if fr.dup then s.svDuplicate nch else s.svInvalid k 1 nch
  | some c =>
    let r := if reason ≠ 0 then reason else (a.map fun a => s.asduReason fr a k).getD 1
    if s.tg.f ≤ c then (if fr.dup then s.svDuplicate nch else s.svInvalid k r nch)
    else
      let t := tickOf c fr.stamp s.tg.f
      let s1 := if r = 0 then s.svArrive k (arrival t fr.stamp s.tg.f) else s
      let view := (s1.viewAt k t).filter fun _ => decide (s1.svi.firstTick ≤ t)
      let here := view.elim 0 fun v => min v.nch nch
      let s1 := if here < nch then s1.svUnexpected (nch - here) else s1
      if here = 0 then s1
      else if fr.dup then s1.svDuplicate here
      else if r ≠ 0 then s1.svInvalid k r here
      else
        let data := ((a.map Asdu.data).getD []).take here
        let testOk := s1.getA (Reg.SVI_SUB_POLICY_TEST_OK k) == 1
        let released := s1.svi.last.any (fun n => decide (t ≤ n)) || decide (instantOf t s1.tg.f s1.tg.rho ≤ fr.stamp)
        if released then s1.svLateAsdu k testOk data
        else
          let syncq := s1.getA (Reg.SVI_SUB_POLICY_SYNC k) == 3 && decide ((a.map Asdu.smpSynch).getD 0 < 2)
          s1.svHold k t (view.elim 0 SubView.base) syncq testOk data

/-- n samples reach the intake (R301). -/
def State.svReceived (s : State) (n : Nat) : State := { s with svi := { s.svi with received := (s.svi.received + n) % 2 ^ 64 } }

/-- A duplicate report of a MAC (R245) is taken when it is accounted. -/
def State.dupTaken (s : State) (dup : Bool) : State :=
  if dup then { s with svi := { s.svi with dups := s.svi.dups.drop 1 } } else s

/-- A frame or duplicate report at the intake (R295–R301, R305): each of its samples takes exactly one outcome. -/
def State.svTake (s0 : State) (fr : SvFrame) : State :=
  match s0.svSub fr with
  | none =>
    let n := match fr.asdus with
      | a :: _ => fr.noAsdu * (a.seqLen / 8)
      | [] => 1
    (s0.svReceived n).svUnexpected n
  | some k =>
    let nch := s0.getA (Reg.SVI_SUB_LAYOUT_NCH k)
    let no := s0.getA (Reg.SVI_SUB_LAYOUT_NOASDU k)
    let s0 := s0.svReceived (no * nch)
    if !s0.svi.enabled then s0.svUnexpected (no * nch)
    else
      let reason := s0.frameReason fr k
      let s1 := s0.keyRefused (!(s0.getA (Reg.SVI_SUB_POLICY_AUTH k) == 1) ||
        s0.keyUsable (s0.getA (Reg.SVI_SUB_POLICY_KEYSLOT k)) (s0.getA (Reg.SVI_SUB_LAYOUT_SLICE k)) 1)
      (List.range no).foldl (fun s j => s.svAsdu fr k reason nch fr.asdus[j]?) s1

/-- SV_INTAKE (R245, R295–R301, R305): a frame of the network or a duplicate report at its timestamp. -/
def svIntake (fr : SvFrame) (s : State) : State := ((s.advance fr.stamp).dupTaken fr.dup).svTake fr

def execSvIntake (frame : SvFrame) (s : State) : Host.Outcome State Fault Refusal := .next (svIntake frame s)

/-! ### GOOSE (R308–R311) -/

/-- Fields of an installed GOOSE entry (R308). -/
def gEn (w : List Nat) : Bool := w.getD 1 0 / 2 ^ 31 % 2 == 1
def gVid (w : List Nat) : Nat := w.getD 1 0 / 65536 % 4096
def gDst (w : List Nat) : Nat := w.getD 0 0 + w.getD 1 0 % 65536 * 2 ^ 32
def gAppid (w : List Nat) : Nat := w.getD 2 0 / 65536
def gSlice (w : List Nat) : Nat := w.getD 2 0 / 256 % 256
def gLen (w : List Nat) : Nat := w.getD 2 0 % 256
def gKey (w : List Nat) : Nat := w.getD 5 0 % 1024
def gTestOk (w : List Nat) : Bool := w.getD 5 0 / 1024 % 2 == 1
def gAuth (w : List Nat) : Bool := w.getD 5 0 / 2048 % 2 == 1

/-- The match key of an entry. -/
def gMatch (w : List Nat) : List Nat := [gDst w, gVid w, gAppid w, gLen w, w.getD 3 0]

/-- The enabled members of an entry: (QEN, POS, QPOS, TYPE, TARGET). -/
def gMembers (w : List Nat) : List (Bool × Nat × Nat × Nat × Nat) :=
  ((w.drop 6).take 16).filterMap fun m =>
    if m / 2 ^ 31 % 2 = 1 then some (m / 2 ^ 30 % 2 == 1, m / 2 ^ 24 % 64, m / 2 ^ 18 % 64, m / 2 ^ 15 % 8, m % 4096) else none

/-- A FLOAT32 as Q15.16, rounded half away from zero and saturated; NaN gives none (R310). -/
def float32ToQ (b : Nat) : Option Int :=
  let e := b / 2 ^ 23 % 256
  let m : Nat := b % 2 ^ 23
  let neg : Bool := b / 2 ^ 31 % 2 == 1
  if e = 255 then (if m ≠ 0 then none else some (if neg then -2147483648 else i32max))
  else
    let mant : Int := if e = 0 then (m : Int) else ((m + 2 ^ 23 : Nat) : Int)
    let ex := if e = 0 then 1 else e
    let x := if 134 ≤ ex then mant * 2 ^ (ex - 134) else roundDiv mant (2 ^ (134 - ex))
    some (store32 (if neg then -x else x)).1

/-- The INT32 value and the validity a NaN forces (R310). -/
def gooseValue (type : Nat) (x : Int) : Int × Option Nat :=
  if type = 0 then ((if x ≠ 0 then 1 else 0 : Int), none)
  else if type = 1 then ((x % (4 : Int) : Int), none)
  else if type = 2 then ((store32 x).1, none)
  else match float32ToQ (unsigned 32 x) with
    | some y => (y, none)
    | none => (0, some 1)

/-- Whether a member's position lies in the dataset with its type (R309). -/
def memberFits (d : List (Nat × Int)) (m : Bool × Nat × Nat × Nat × Nat) : Bool :=
  ((d[m.2.1]?).map Prod.fst == some m.2.2.2.1) && (!m.1 || (d[m.2.2.1]?).map Prod.fst == some 4)

/-- The values of the members in a frame: (image member, value, quality bits). -/
def memberValues (w : List Nat) (d : List (Nat × Int)) : List (Nat × Int × Nat) :=
  (gMembers w).map fun m =>
    let (v, inv) := gooseValue m.2.2.2.1 ((d.getD m.2.1 (0, 0)).2)
    let q := if m.1 then unsigned 14 (d.getD m.2.2.1 (0, 0)).2 else 0
    (m.2.2.2.2, v, match inv with
      | some x => q - q % 4 + x
      | none => q)

/-- Whether (stNum, sqNum) are newer than the last accepted ones (R309). -/
def newer (st sq lastSt lastSq : Nat) : Bool :=
  let d := (st + 2 ^ 32 - lastSt) % 2 ^ 32
  let e := (sq + 2 ^ 32 - lastSq) % 2 ^ 32
  (decide (1 ≤ d) && decide (d ≤ 2 ^ 31 - 1)) || (d == 0 && decide (1 ≤ e) && decide (e ≤ 2 ^ 31 - 1))

/-- GOOSE_INTAKE (R309): matched, checked, accepted, old or bad. -/
def gooseIntake (fr : GooseFrame) (s : State) : State :=
  let s0 := s.advance fr.stamp
  match s0.svi.gsubs.find? fun g => gEn g.words && gMatch g.words == [fr.dst, fr.vid, fr.appid, fr.ref.length, crc32c fr.ref] with
  | none => s0.count Reg.SVI_GOOSE_UNEXP_COUNT
  | some g =>
    let w := g.words
    let keyOk := s0.keyUsable (gKey w) (gSlice w) 2
    let s1 := s0.keyRefused (!gAuth w || keyOk)
    if fr.confRev ≠ w.getD 4 0 || (gAuth w && !(fr.tagOk && keyOk)) || fr.nds || ((fr.test || fr.sim) && !gTestOk w) ||
        !(gMembers w).all (memberFits fr.data) then s1.count Reg.SVI_GOOSE_BAD_COUNT
    else if !(g.never || decide (g.expiry ≤ fr.stamp) || newer fr.st fr.sq g.st g.sq) then s1.count Reg.SVI_GOOSE_OLD_COUNT
    else
      let g1 := { g with never := false, st := fr.st, sq := fr.sq, expiry := fr.stamp + fr.tal * 1000000 * nsUnit,
                         test := fr.test, vals := memberValues w fr.data, age := 0, stale := false }
      (({ s1 with svi := { s1.svi with gsubs := setKey Gsub.idx g1 s1.svi.gsubs } }.count Reg.SVI_GOOSE_RX_COUNT).clearFault
        0x0805 g.idx)

def execGooseIntake (frame : GooseFrame) (s : State) : Host.Outcome State Fault Refusal := .next (gooseIntake frame s)

/-- The staged words of GSUB_W. -/
def State.gsubStaged (s : State) : List Nat := (List.range 22).map fun w => s.get (Reg.SVI_GSUB_W_WORD w)

/-- The entries as they will stand after the installs that wait, without entry `index`. -/
def State.gsubOthers (s : State) (index : Nat) : List (List Nat) :=
  let kept := s.svi.gsubs.filter fun g => g.idx ≠ index && !s.svi.gsubPend.any fun (p : Nat × List Nat) => p.1 == g.idx
  ((kept.map Gsub.words) ++ (s.svi.gsubPend.filter fun (p : Nat × List Nat) => p.1 ≠ index).map Prod.snd).filter gEn

/-- The refusals of a GOOSE subscription other than its quota (R308). -/
def State.gsubBad (s : State) (index : Nat) (w : List Nat) : Bool :=
  let others := s.gsubOthers index
  let ts := (gMembers w).map fun m => m.2.2.2.2
  decide (1023 < index) || decide (gLen w < 1) || decide (129 < gLen w) || (gMembers w).any (fun m => decide (3 < m.2.2.2.1)) ||
  (gEn w && (others.any (fun o => gMatch o == gMatch w) || hasDup ts ||
    others.any fun o => (gMembers o).any fun m => ts.contains m.2.2.2.2))

/-- GSUB_INSTALL (R308): checked at the write, in force from the next boundary; refused with reason 1. -/
def gsubInstall (index : Nat) (s : State) : State :=
  let w := s.gsubStaged
  let used := ((s.gsubOthers index).filter fun o => gSlice o == gSlice w).length
  let overs := gEn w && decide (s.get (Reg.SLC_SLICE_QB_GOSUB (gSlice w)) < used + 1)
  if s.st = stBoot then s.reject 8 0x34 3
  else if s.gsubBad index w then s.reject 8 0x34 1
  else if overs then (s.event 184).reject 8 0x34 1
  else
    { s with svi := { s.svi with gsubPend := (s.svi.gsubPend.filter fun (p : Nat × List Nat) => p.1 ≠ index) ++ [(index, w)] } }.clearFault 0x0806
      (0x8000 + index)

def execGsubInstall (index : Nat) (s : State) : Host.Outcome State Fault Refusal := .next (gsubInstall index s)

/-- GSUB_READ (R308): entry g is copied into the staging words. -/
def gsubRead (index : Nat) (s : State) : State :=
  let w := (findKey Gsub.idx index s.svi.gsubs).elim [] Gsub.words
  if s.st = stBoot then s.reject 8 0x34 3
  else (List.range 22).foldl (fun s k => s.put (Reg.SVI_GSUB_W_WORD k) (w.getD k 0)) s

def execGsubRead (index : Nat) (s : State) : Host.Outcome State Fault Refusal := .next (gsubRead index s)

/-- The installs that wait take effect at a boundary (R308); the use of QB.GOSUB follows. -/
def State.applyGsubs (s : State) : State :=
  let ins := s.svi.gsubPend.foldl (fun (l : List Gsub) p =>
    if gEn p.2 then setKey Gsub.idx { idx := p.1, words := p.2 } l else dropKey Gsub.idx p.1 l) s.svi.gsubs
  let touched := (s.svi.gsubPend.map fun p => gSlice p.2) ++
    (s.svi.gsubs.filter fun g => s.svi.gsubPend.any fun p => p.1 == g.idx).map fun g => gSlice g.words
  let s1 := { s with svi := { s.svi with gsubs := ins, gsubPend := [] } }
  touched.foldl (fun s sl =>
    s.put (useOf (Reg.SLC_SLICE_QB_GOSUB sl)) ((ins.filter fun g => gSlice g.words == sl).length)) s1

/-! ### The release of an image (R304, R306, R307, R311, R312) -/

/-- A quality with validity raised to questionable, and one with validity invalid. -/
def raiseQ (q : Nat) : Nat := if q % 4 = 0 then q + 3 else q
def invalidQ (q : Nat) : Nat := q - q % 4 + 1

/-- A channel without a used sample (R307): its value, quality word and record in image n. -/
def substitute (n miss chan : Nat) (h : Option ChanHist) : ImgChan × Option ChanHist :=
  match h with
  | none => (⟨chan, 0, 1 + 2 ^ 16 + 2 ^ 17 + 255 * 2 ^ 24⟩, none)
  | some h =>
    let age := min (n - h.usedTick) 255
    let q' := h.q % 2 ^ 14
    let base := 2 ^ 16 + 2 ^ 17 + age * 2 ^ 24
    let m := n - h.usedTick
    let (v, q) : Int × Nat :=
      if miss = 0 then (h.val, raiseQ q' + base)
      else if miss = 1 then
        match h.prevVal with
        | some p =>
          if m ≤ 2 then ((store32 (h.usedVal + m * (h.usedVal - p))).1, raiseQ q' + base + 2 ^ 18) else (h.val, invalidQ q' + base)
        | none => (h.val, invalidQ q' + base)
      else (h.val, invalidQ q' + base)
    (⟨chan, v, q⟩, some { h with val := v, q := q })

/-- A channel of image n: a used sample, or what the policy makes of it. The flag tells whether a sample was used. -/
def fillChannel (n miss : Nat) (img : OpenImage) (hs : List ChanHist) (chan : Nat) : ImgChan × Option ChanHist × Bool :=
  let h := findKey ChanHist.chan chan hs
  match img.samples.find? fun x => x.chan == chan with
  | some x =>
    let prev := match h with
      | some h => if h.usedTick + 1 = n then some h.usedVal else none
      | none => none
    (⟨chan, x.val, x.q⟩, some ⟨chan, x.val, x.q, n, x.val, prev⟩, true)
  | none => let (c, h1) := substitute n miss chan h; (c, h1, false)

/-- The channels of a subscription in image n. -/
def fillSub (n : Nat) (img : OpenImage) (hs : List ChanHist) (v : SubView) : List (ImgChan × Option ChanHist × Bool) :=
  (List.range v.nch).map fun i => fillChannel n v.miss img hs (v.base + i)

/-- The members and the status of a GOOSE entry at release instant t (R311, R312). -/
def gooseImage (t : Nat) (g : Gsub) : List ImgChan × ImgGoose :=
  let stale := g.never || decide (g.expiry ≤ t)
  let ms := if g.never then (gMembers g.words).map fun m => (m.2.2.2.2, (0 : Int), 0) else g.vals
  (ms.map fun (i, v, q) => ⟨i, v, (if stale then invalidQ q + 2 ^ 20 else q) + min g.age 255 * 2 ^ 24⟩,
   ⟨g.idx, g.st, bit stale + 2 * bit g.never + 4 * bit g.test⟩)

/-- A GOOSE entry after a release: its age, and whether it became stale. -/
def gooseAfter (t : Nat) (g : Gsub) : Gsub × Bool :=
  let stale := g.never || decide (g.expiry ≤ t)
  ({ g with age := min (g.age + 1) 255, stale := stale }, stale && !g.stale)

/-- The count of open images as the register shows it. -/
def State.showOpen (s : State) : State :=
  let lo := match s.svi.last with
    | some n => max (n + 1) s.svi.firstTick
    | none => s.svi.firstTick
  s.put Reg.SVI_STATUS_OPEN (if s.svi.enabled then min (s.tg.sample - lo) 45 else 0)

/-- The release of a subscription's channels: the counts of R301, MISSING, and the faults that a used sample clears. -/
def State.countSub (s : State) (v : SubView) (l : List (ImgChan × Option ChanHist × Bool)) : State :=
  let used := (l.filter fun x => x.2.2).length
  let miss := l.length - used
  let s1 := ((s.countMod Reg.SVI_EXPECTED_COUNT l.length).countMod Reg.SVI_USED_COUNT used).countMod Reg.SVI_MISSING_COUNT miss
  let s2 := s1.put Reg.SVI_HELD_COUNT (s1.get Reg.SVI_HELD_COUNT - used)
  let s3 := if miss = 0 then s2
    else (s2.countBy (Reg.SVI_SUB_MISS_COUNT v.sub) miss).eventIf (decide (s2.get (Reg.SVI_SUB_MISS_COUNT v.sub) < 2 ^ 32 - 1)) 66
  if used = 0 then s3
  else
    let s4 := s3.setWatch { s3.watchOf v.sub with lastUsed := s3.time }
    (s4.clearFault 0x0801 v.sub).clearFault 0x0802 v.sub

/-- The release of image n (R304, R311, R312): the image, with the aligner's records and counters after it. -/
def State.release (s : State) (n : Nat) : State × TickImage :=
  let f := s.tg.f
  let t := instantOf n f s.tg.rho
  let views := viewsFor n s.svi.views
  let img := s.openImage n
  let fills := views.map fun v => (v, fillSub n img s.svi.chans v)
  let all := (fills.map Prod.snd).flatten
  let s1 := fills.foldl (fun s x => s.countSub x.1 x.2) s
  let gs := s1.svi.gsubs.map (gooseImage t)
  let image : TickImage :=
    { tick := n, rate := (if f = 4000 then 0 else if f = 4800 then 1 else if f = 12800 then 2 else 3),
      first := s1.svi.first, untrusted := s1.flag Reg.TIM_STATUS_UNTRUSTED, cls := s1.get Reg.TIM_STATUS_CLASS,
      tNs := n * 1000000000 / f, di := (findKey Prod.fst n s1.svi.di).elim 0 Prod.snd,
      missing := (all.filter fun x => !x.2.2).length, expected := all.length, chans := all.map fun x => x.1,
      members := (gs.map Prod.fst).flatten, goose := gs.map Prod.snd }
  let after := s1.svi.gsubs.map (gooseAfter t)
  let newStale := (after.filter fun x => x.2).map fun x => x.1.idx
  let sv := { s1.svi with
    gsubs := after.map Prod.fst, chans := (all.filterMap fun x => x.2.1).foldl (fun l h => setKey ChanHist.chan h l) [],
    open' := s1.svi.open'.filter fun o => decide (n < o.tick), first := false, last := some n,
    di := s1.svi.di.filter fun d => decide (n < d.1), image := some image }
  let s2 := ({ s1 with svi := sv }.put Reg.SVI_LAST_TICK_LO_TICK (n % 2 ^ 32)).put Reg.SVI_LAST_TICK_HI_TICK (n / 2 ^ 32)
  let s3 := (s2.put Reg.PUB_STATUS_DI_LEVEL image.di).showOpen
  (newStale.foldl (fun s g => (s.event 68).raiseAt 0x0805 1 g g) s3, image)

/-- Open images are discarded (R302): held samples count late, their number goes to DISCARDED, source 70; FIRST is due. -/
def State.discardOpen (s : State) : State :=
  let held := s.get Reg.SVI_HELD_COUNT
  let k := s.get Reg.SVI_STATUS_OPEN
  let s1 := ((s.countMod Reg.SVI_LATE_COUNT held).eventIf (decide (0 < held)) 65).put Reg.SVI_HELD_COUNT 0
  let s2 := (s1.countBy Reg.SVI_DISCARDED_COUNT k).eventIf (decide (0 < k)) 70
  { s2 with svi := { s2.svi with open' := [], chans := [], first := true } }

/-! ### Enable and disable (R20, R297, R302, R303) -/

/-- Whether a valid subscription exceeds the channel capacity of a rate (R297). -/
def State.overCapacity (s : State) : Bool :=
  s.subViews.any fun v => decide (capOf (s.get Reg.SVI_CFG_RATE) < v.base + v.nch)

/-- SVI_ENABLE (R20, R297): rejected with reason 1 over the capacity; otherwise in effect at the next boundary. -/
def sviEnable (s : State) : State :=
  if s.st = stBoot then s.reject 8 0x10 3
  else if s.flag Reg.SVI_CTRL_EN then s
  else if s.overCapacity then s.reject 8 0x10 1
  else { s with svi := { s.svi with enablePending := true } }.put Reg.SVI_CTRL_EN 1

def execSviEnable (s : State) : Host.Outcome State Fault Refusal := .next (sviEnable s)

/-- SVI_DISABLE (R302, R303): rejected with reason 1 while a slot computes; otherwise open images are discarded. -/
def sviDisable (s : State) : State :=
  if s.st = stBoot then s.reject 8 0x10 3
  else if !s.flag Reg.SVI_CTRL_EN then s
  else if s.computing then s.reject 8 0x10 1
  else
    let s1 := if s.svi.enabled then s.discardOpen else s
    ({ s1 with svi := { s1.svi with enabled := false, enablePending := false } }.put Reg.SVI_CTRL_EN 0).showOpen

def execSviDisable (s : State) : Host.Outcome State Fault Refusal := .next (sviDisable s)

/-- The enable takes effect at boundary e (R20): new rate and ρ, the first tick released under them, slots of the old rate
back to LOADED. With unchanged settings no tick before the first image of R30 is released; no tick is released twice at a rate
(R33). The answer tells whether the settings changed. -/
def State.applyEnable (s : State) (e : Nat) : State × Bool :=
  let f := rateHz (s.get Reg.SVI_CFG_RATE)
  let rho := s.get Reg.SVI_CFG_REL_OFFSET
  let same := f == s.tg.f && rho == s.tg.rho
  let last := if f = s.tg.f then s.svi.last else none
  let m := if same then max (e + 1) s.tg.firstImage else firstTickFrom (s.time - rho * 1000 * nsUnit) f
  let n := last.elim m fun k => max m (k + 1)
  let s0 := s.watchNew [] s.subViews
  let s1 := if f = s.tg.f then s0
    else (admitted s.slots).foldl (fun s x => s.moveSlot { idleSlot x with chg := false } slLoaded e) s0
  let sv := { s1.svi with enabled := true, enablePending := false, firstTick := n, first := true, open' := [], chans := [],
                          last := last, di := if same then s1.svi.di else [], views := [(n, s1.subViews)] }
  ({ s1 with svi := sv, tg := { s1.tg with f := f, rho := rho, next := if same then s1.tg.next else m - 1,
                                           sample := if same then s1.tg.sample else m, firstImage := if same then s1.tg.firstImage else 0 } },
    !same)

end Sys2Proof.Machine
end

