-- ==== Sys2Proof/Machine/Modulators.lean ====
section
/-! DEFINITION. The modulator fine path and the plant converters (R501–R523), and the sample instant of a tick (R23). -/

namespace Sys2Proof.Machine

/-! ### The fine path (R504, R505) -/

/-- N2, M and the group delay G of a rate in samples/s (R504). -/
def finePar (f : Nat) : Nat × Nat × Nat := if f < 10000 then (32, 9007199255, 42425) else (12, 24019198013, 17425)

/-- FILL and L_F of a RATE code in µs (R505). -/
def fillUs (rate : Nat) : Nat := if rate < 2 then 90 else 40
def latUs (rate : Nat) : Nat := if rate < 2 then 49 else 24

/-- Y_j from the N2 first-stage outputs that end at τ_j (R504). -/
def scaleY (m : Nat) (s : List Int) : Int := saturate 24 (roundDiv (s.sum * m) (2 ^ 32))

/-- u_n in ns: floor(n × 10^9 / f) + δ (R505). -/
def targetNs (n f : Nat) (delta : Int) : Int := (n * 1000000000 / f : Nat) + delta

/-- The corrected sample of a channel on a tick: interpolation and gain (R505). -/
def fineValue (n f : Nat) (delta : Int) (g : Nat) (s : List Int) : Int :=
  let (n2, m, gd) := finePar f
  let y0 := scaleY m (s.take n2)
  let y1 := scaleY m ((s.drop 1).take n2)
  let x := (targetNs n f delta + gd) % 2500
  let phi := roundDiv (1024 * x) 2500
  let v := y0 + roundDiv (phi * (y1 - y0)) 1024
  saturate 24 (roundDiv (v * g) (2 ^ 30))

/-- Every history is emptied (R501): source 114 is due again. -/
def State.emptyHistories (s : State) : State :=
  { s with mod := { s.mod with emptied := List.replicate 16 s.ns, fillDue := true } }

/-- MOD is enabled (R501, R510): the histories are empty, and MOD_CLK0 and MOD_CLK1 pass from the vigil oscillator to the locked clock. -/
def State.modEnabled (s : State) : State :=
  { s.emptyHistories with nrg := { s.nrg with vig := { s.nrg.vig with clocks := 0 } } }

/-- Enabled channels. -/
def State.modOn (s : State) (c : Nat) : Bool := (s.get Reg.MOD_CFG_CH_EN >>> c) % 2 == 1

/-- The sample of channel c on tick n: value, FAULTY, FILL (R505, R508). -/
def State.fineSample (s : State) (n : Nat) (ins : List FineIn) (c : Nat) : Int × Bool × Bool :=
  if !s.modOn c then (0, true, true)
  else
    let x := (findKey FineIn.chan c ins).getD ⟨c, [], true⟩
    let d := s.getS (Reg.MOD_CORR_D_D c)
    let fill := decide (targetNs n s.tg.f d < (s.mod.emptied.getD c 0 + 1000 * fillUs (s.get Reg.SVI_CFG_RATE) : Nat))
    let overs := x.s.any fun v => decide (117188 ≤ v.natAbs)
    (fineValue n s.tg.f d (s.get (Reg.MOD_CORR_G_G c)) x.s, x.stuck || overs || fill, fill)

/-- Gains and delays that are due come into use (R506). -/
def State.applyCorr (s : State) (l : List (Nat × Int)) : State :=
  ((List.range 16).zip l).foldl (fun s x => (s.put (Reg.MOD_CORR_G_G x.1) x.2.1).put (Reg.MOD_CORR_D_D x.1) (unsigned 32 x.2.2)) s

/-- The fine path places its samples on tick n. -/
def State.placeFine (s : State) (n : Nat) (ins : List FineIn) : State :=
  let s1 := match s.mod.corr with
    | some (k, l) => if k ≤ n then { s.applyCorr l with mod := { s.mod with corr := none } } else s
    | none => s
  let xs := (List.range 16).map (s1.fineSample n ins)
  let s2 := ((List.range 16).zip xs).foldl (fun s x =>
    ((s.put (Reg.MOD_FINE_VALUE x.1) (unsigned 24 x.2.1)).putFlag (Reg.MOD_FINE_FAULTY x.1) x.2.2.1).putFlag
      (Reg.MOD_FINE_FILL x.1) x.2.2.2) s1
  let filling := (List.range 16).any fun c => s.modOn c && ((xs.getD c (0, true, true)).2.2)
  let done := s2.mod.fillDue && !filling
  let keep := ((n, xs.map fun x => (x.1, x.2.1)) :: s2.mod.fine).take 16
  { s2 with mod := { s2.mod with fine := keep, fillDue := s2.mod.fillDue && !done } }.eventIf done 114

/-- SAMPLE_INSTANT (R23, R95, R505): at t_n the levels of DI0–DI7 are sampled for tick n, and the fine path places its
samples on it. -/
def sampleInstant (di : Nat) (fine : List FineIn) (s : State) : State :=
  if !s.tg.running then s
  else
    let n := s.tg.sample
    let s1 := s.advance (instantOf n s.tg.f 0)
    let s2 := { s1 with tg := { s1.tg with sample := n + 1 } }
    let s3 := { s2 with svi := { s2.svi with di := (n, di % 256) :: s2.svi.di.take 127 } }.showOpen
    if s3.flag Reg.MOD_CTRL_EN then s3.placeFine n fine else s3

def execSampleInstant (di : Nat) (fine : List FineIn) (s : State) : Host.Outcome State Fault Refusal :=
  .next (sampleInstant di fine s)

/-! ### Temperature correction (R506, R507) -/

/-- The points of a channel's table: (T, G, D). -/
def State.calPoints (s : State) (c : Nat) : List (Int × Nat × Int) :=
  (List.range (s.getA (Reg.MOD_CAL_N_NPTS c))).map fun k =>
    (s.getS (Reg.MOD_CAL_T_T c k).active, s.getA (Reg.MOD_CAL_G_G c k), s.getS (Reg.MOD_CAL_D_D c k).active)

/-- g and δ at θ: the first point below the table, the last from it upward, linear between (R506). -/
def correctionAt (theta : Int) : List (Int × Nat × Int) → Nat × Int
  | [] => (2 ^ 30, 0)
  | [(_, g, d)] => (g, d)
  | (t0, g0, d0) :: (t1, g1, d1) :: l =>
    if theta < t0 then (g0, d0)
    else if theta < t1 then
      (((g0 : Int) + roundDiv (((g1 : Int) - g0) * (theta - t0)) (t1 - t0).toNat).toNat,
       d0 + roundDiv ((d1 - d0) * (theta - t0)) (t1 - t0).toNat)
    else correctionAt theta ((t1, g1, d1) :: l)

/-- Whether the temperature source is unusable (R507). -/
def State.tempUnusable (s : State) : Bool :=
  let src := s.get Reg.MOD_TEMP_CFG_SRC
  if src = 0 then false
  else
    let at' := (findKey Prod.fst (src - 1) s.adc.last).map Prod.snd
    !s.flag Reg.ADC_CTRL_EN || s.flag (Reg.ADC_RES_OVR (src - 1)) || at'.isNone || at'.any fun t => decide (t + 2000000000 ≤ s.ns)

/-- θ by TEMP_CFG.SRC (R506). -/
def State.theta (s : State) : Int :=
  let src := s.get Reg.MOD_TEMP_CFG_SRC
  if src = 0 then s.getS Reg.GLB_TEMP_PLATE
  else roundDiv (s.getS (Reg.ADC_RES_CODE (src - 1)) * s.getS Reg.MOD_TEMP_CFG_TGAIN) (2 ^ 16) + s.getS Reg.MOD_TEMP_OFS_OFS

/-- MOD_TEMP_EVAL (R506, R507): once per second. A source that is unusable holds every g and δ; source 115 and fault
0x0E03 come with its change to unusable. New values apply from the first tick at or after the next boundary, or at once. -/
def modTempEval (s : State) : State :=
  if s.mainAbsent then s
  else if s.tempUnusable then
    let s1 := if s.mod.held then s else s.event 115
    { s1 with mod := { s1.mod with held := true } }.put Reg.MOD_TEMP_NOW_HELD 1 |>.raise1 0x0E03 1 (s.get Reg.MOD_TEMP_CFG_SRC)
  else
    let th := s.theta
    let l := (List.range 16).map fun c => correctionAt th (s.calPoints c)
    let s1 := { s with mod := { s.mod with held := false } }
    let s2 := ((s1.put Reg.MOD_TEMP_NOW_HELD 0).put Reg.MOD_TEMP_NOW_TEMP (unsigned 16 th)).clearCode 0x0E03
    if s2.tg.running then
      { s2 with mod := { s2.mod with corr := some (firstTickFrom (s2.decisionInstant s2.tg.next) s2.tg.f, l) } }
    else s2.applyCorr l

def execModTempEval (s : State) : Host.Outcome State Fault Refusal := .next (modTempEval s)

/-! ### Channel and supply faults (R503, R508, R520) -/

/-- Bit c of a 16-bit mask set to a value. -/
def maskBit (m c : Nat) (b : Bool) : Nat := m - (m >>> c) % 2 * 2 ^ c + (if b then 2 ^ c else 0)

/-- MOD_CHANNEL_FAULT (R508, R520): entries are counted and set their source; the durations raise 0x0E01, 0x0E02, 0x0E05. -/
def modChannelFault (c : Nat) (ev : ModEvent) (s : State) : State :=
  let stuck := s.get Reg.MOD_STATUS_STUCK
  let overs := s.get Reg.MOD_STATUS_OVR
  let on := s.flag Reg.MOD_CTRL_EN && decide (c < 16) && s.modOn c && !s.mainAbsent
  match ev with
  | .stuck => if on && (stuck >>> c) % 2 = 0 then
      ((s.put Reg.MOD_STATUS_STUCK (maskBit stuck c true)).count (Reg.MOD_ERRCNT_STUCK c)).event 112 else s
  | .unstuck => if c < 16 then s.put Reg.MOD_STATUS_STUCK (maskBit stuck c false) else s
  | .overs => if on && (overs >>> c) % 2 = 0 then
      ((s.put Reg.MOD_STATUS_OVR (maskBit overs c true)).count (Reg.MOD_ERRCNT_OVR c)).event 113 else s
  | .inRange => if c < 16 then s.put Reg.MOD_STATUS_OVR (maskBit overs c false) else s
  | .stuckLong => if on && (stuck >>> c) % 2 = 1 then s.raiseAt 0x0E01 1 c c else s
  | .overLong => if on && (overs >>> c) % 2 = 1 then s.raiseAt 0x0E02 1 c c else s
  | .clockOff => if s.flag Reg.MOD_CTRL_EN && decide (c < 4) && !s.mainAbsent then s.raiseAt 0x0E05 2 c c else s

def execModChannelFault (chan : Nat) (ev : ModEvent) (s : State) : Host.Outcome State Fault Refusal :=
  .next (modChannelFault chan ev s)

/-- MOD_VDD_LIMIT (R503): 10 ms at the limit raise 0x0E04; the supply stays on. -/
def execModVddLimit (s : State) : Host.Outcome State Fault Refusal := .next (if s.mainAbsent then s else s.raise1 0x0E04 2 0)

/-! ### Conversions (R512–R515) -/

/-- Length of an average in ns: 2^K sequences of NSTEP µs. -/
def State.adcSpan (s : State) : Nat := 2 ^ s.get Reg.ADC_CFG_AVG_K * (s.get Reg.ADC_CFG_NSTEP + 1) * 1000

/-- The inputs that the steps of a sequence name (R512). -/
def State.adcInputs (s : State) : List Nat :=
  ((List.range 4).map fun k => (List.range (s.get Reg.ADC_CFG_NSTEP + 1)).map fun j =>
    4 * k + (s.get Reg.ADC_SEQMAP_MAP >>> (8 * k + 2 * j)) % 4).flatten.eraseDups

/-- A trigger of the selected source (R513, R514): ignored and counted while an average or a chain runs, applied at the end
of a monitor pair that it meets, else the start of an average at τ. -/
def State.adcStart (s : State) (tau : Nat) (delayed : Bool) : State :=
  if s.flag Reg.ADC_STATUS_BUSY || s.flag Reg.ADC_STATUS_RUN then (s.count Reg.ADC_TRIG_IGNORED_COUNT).event 117
  else
    let s1 := if delayed then s.count Reg.ADC_MON_DELAY_COUNT else s
    ({ s1 with adc := { s1.adc with tau := tau, ext := 0, stop := false } }.put Reg.ADC_STATUS_BUSY 1).put
      Reg.ADC_STATUS_RUN (s.get Reg.ADC_CFG_MODE)

/-- Whether a trigger is one of CFG.TRIG_SRC (R513). -/
def State.adcTakes (s : State) : AdcTrig → Bool
  | .tick n => s.get Reg.ADC_CFG_TRIG_SRC == 1 && s.tg.running && n % s.get Reg.ADC_CFG_TICKDIV == 0
  | .period ns => s.get Reg.ADC_CFG_TRIG_SRC == 2 && ns % (1000 * s.get Reg.ADC_PERIOD_US) == 0
  | .edge i falling _ => s.get Reg.ADC_CFG_TRIG_SRC == 3 && i == s.get Reg.ADC_CFG_DI_SEL && falling == s.flag Reg.ADC_CFG_DI_FALL

/-- ADC_TRIGGER (R513): `start` is the start instant of the sequence in ns; only an edge can meet a monitor pair (R516). -/
def adcTrigger (trig : AdcTrig) (start : Nat) (delayed : Bool) (s : State) : State :=
  if s.flag Reg.ADC_CTRL_EN && s.adcTakes trig then
    s.adcStart start (delayed && (match trig with
      | .edge .. => true
      | _ => false))
  else s

def execAdcTrigger (trig : AdcTrig) (start : Nat) (delayed : Bool) (s : State) : Host.Outcome State Fault Refusal :=
  .next (adcTrigger trig start delayed s)

/-- ADC_CMD_TRIG (R513): a write of CMD.TRIG. -/
def adcCmdTrig (start : Nat) (delayed : Bool) (s : State) : State :=
  if s.st = stBoot then s.reject 15 0x24 3
  else if s.flag Reg.ADC_CTRL_EN && s.get Reg.ADC_CFG_TRIG_SRC = 0 then s.adcStart start delayed else s

def execAdcCmdTrig (start : Nat) (delayed : Bool) (s : State) : Host.Outcome State Fault Refusal :=
  .next (adcCmdTrig start delayed s)

/-- ADC_CMD_STOP (R513): the average in progress completes, and the chain then ends. -/
def adcCmdStop (s : State) : State :=
  if s.st = stBoot then s.reject 15 0x24 3
  else if s.flag Reg.ADC_STATUS_RUN then { s with adc := { s.adc with stop := true } } else s

def execAdcCmdStop (s : State) : Host.Outcome State Fault Refusal := .next (adcCmdStop s)

/-- The result of input i (R515): code, OVR, SEQ; fault 0x0F01 after 1 s of OVR, cleared by a result without it. -/
def State.adcInput (s : State) (seq : Nat) (codes : List (Nat × List Int)) (i : Nat) : State :=
  let l := (findKey Prod.fst i codes).elim [] Prod.snd
  let ovr := l.any fun c => c == 32767 || c == -32768
  let r := roundDiv l.sum (2 ^ s.get Reg.ADC_CFG_AVG_K)
  let s1 := ((s.put (Reg.ADC_RES_CODE i) (unsigned 16 r)).putFlag (Reg.ADC_RES_OVR i) ovr).put (Reg.ADC_RES_SEQ i) seq
  let since := (findKey Prod.fst i s1.adc.ovr).elim s1.ns Prod.snd
  let s2 := { s1 with adc := { s1.adc with
    last := setKey Prod.fst (i, s1.ns) s1.adc.last,
    ovr := if ovr then setKey Prod.fst (i, since) s1.adc.ovr else dropKey Prod.fst i s1.adc.ovr } }
  if ovr then (if since + 1000000000 ≤ s2.ns then s2.raiseAt 0x0F01 1 i i else s2).event 118 else s2.clearFault 0x0F01 i

/-- ADC_RESULT (R513, R515): the average in progress completes; a chain goes on with the next one unless STOP was taken. -/
def adcResult (codes : List (Nat × List Int)) (s : State) : State :=
  if !s.flag Reg.ADC_STATUS_BUSY then s
  else
    let until' := s.adc.tau + s.adcSpan + s.adc.ext
    let s1 := (s.advance (until' * nsUnit)).countMod Reg.ADC_STATUS_RESCNT 1
    let seq := s1.get Reg.ADC_STATUS_RESCNT % 256
    let s2 := (s1.adcInputs.foldl (fun s i => s.adcInput seq codes i) s1).put Reg.ADC_RES_TS_NS (s.adc.tau + 40)
    let s3 := s2.event 116
    if s3.flag Reg.ADC_STATUS_RUN && !s3.adc.stop then { s3 with adc := { s3.adc with tau := until', ext := 0 } }
    else ({ s3 with adc := { s3.adc with stop := false } }.put Reg.ADC_STATUS_BUSY 0).put Reg.ADC_STATUS_RUN 0

def execAdcResult (codes : List (Nat × List Int)) (s : State) : Host.Outcome State Fault Refusal := .next (adcResult codes s)

/-! ### Monitors (R516) -/

/-- Whether a reading of monitor m, in mV, lies outside its window; M7 has none. -/
def monOut (m : Nat) (v : Int) : Bool :=
  if m = 0 then decide (v < 10000) || decide (15000 < v)
  else if m = 1 then decide (v * 20 < 3300 * 19) || decide (3300 * 21 < v * 20)
  else if m = 2 then decide (v * 20 < 1800 * 19) || decide (1800 * 21 < v * 20)
  else if m = 3 then decide (v * 20 < 850 * 19) || decide (850 * 21 < v * 20)
  else if m = 4 then decide (v < 3200) || decide (3400 < v)
  else if m = 5 then decide (v < 4090) || decide (4102 < v)
  else if m = 6 then decide (v < 1600) || decide (3600 < v)
  else false

/-- A reading of monitor m: shown, counted, and the fault raised or cleared at ten in a row. -/
def State.monitor (s : State) (m : Nat) (v : Int) : State :=
  let out := monOut m v
  let s1 := (s.put (Reg.ADC_MON_VALUE m) (unsigned 16 v)).putFlag (Reg.ADC_MON_OUT m) out
  let s2 := if m = 7 then s1.put Reg.GLB_TEMP_PLATE (unsigned 16 v) else s1
  let run := fun (l : List (Nat × Nat)) => (findKey Prod.fst m l).elim 0 Prod.snd
  let bad := if out then run s2.adc.bad + 1 else 0
  let good := if out then 0 else run s2.adc.good + 1
  let s3 := { s2 with adc := { s2.adc with
    bad := setKey Prod.fst (m, min bad 10) s2.adc.bad, good := setKey Prod.fst (m, min good 10) s2.adc.good } }
  if 10 ≤ bad then
    (s3.eventIf (!s3.isActive 0x0F02 m) 119).raiseAt 0x0F02 2 m (m + unsigned 16 v * 65536)
  else if 10 ≤ good then s3.clearFault 0x0F02 m else s3

/-- ADC_MONITOR_PAIR (R516): from step 6 of the start-up on, each converter reads its two monitors; a chain resumes 2 µs
later. -/
def adcMonitorPair (readings : List (Nat × Int)) (s : State) : State :=
  if s.st < stBoot || (s.st = stBoot && decide (s.get Reg.KPR_BOOT_STAGE < 5)) then s
  else
    let s1 := readings.foldl (fun s x => if x.1 < 8 then s.monitor x.1 x.2 else s) s
    if s1.flag Reg.ADC_STATUS_RUN then { s1 with adc := { s1.adc with ext := s1.adc.ext + 2000 } } else s1

def execAdcMonitorPair (readings : List (Nat × Int)) (s : State) : Host.Outcome State Fault Refusal :=
  .next (adcMonitorPair readings s)

end Sys2Proof.Machine
end

