-- ==== Sys2Proof/Machine/Hif.lean ====
section
/-! DEFINITION. The host interface: doorbells, ring enable, command fetch, event queues, DMA errors, PCIe events and MSI-X
(R61–R63, R129–R157). TX and RX placement stand in Host.lean, after the switch core. -/

namespace Sys2Proof.Machine

/-! ### Rings (R134, R140) -/

/-- A difference of two indices (R134). -/
def idx16 (a b : Nat) : Nat := (a + 65536 - b % 65536) % 65536

/-- Entries outstanding on a ring: producer less consumer. -/
def State.outstanding (s : State) (x : RingRec) : Nat :=
  let m := s.get (Reg.HIF_RING_PTR_MOD x.ring)
  let h := s.get (Reg.HIF_RING_PTR_HOST x.ring)
  if x.type = 3 then idx16 m h else idx16 h m

/-- Whether the ring engine of a ring runs. -/
def State.ringRuns (s : State) (r : Nat) : Bool := s.flag (Reg.HIF_RING_RSTAT_ACTIVE r)

/-- The enabled ring with local index k of a slice (R138). -/
def State.localRing (s : State) (slice k : Nat) : Option RingRec :=
  s.rings.find? fun x => x.slice == slice && x.local' == k && s.flag (Reg.HIF_RING_CFG_EN x.ring)

/-- A doorbell write that no ring takes is counted (R139). -/
def State.stray (s : State) (slice : Nat) : State := (s.put Reg.HIF_DB_STRAY_SLICE slice).count Reg.HIF_DB_STRAY_COUNT

/-- An ignored doorbell (R135, R138); source 182 is set where the count increases (R156). -/
def State.dbBad (s : State) (r : Nat) : State :=
  ((s.put Reg.HIF_DB_BAD_RING r).count Reg.HIF_DB_BAD_COUNT).eventIf (decide (s.get Reg.HIF_DB_BAD_COUNT ≠ 65535)) 182

/-- Back-pressure of an RX ring follows its posted entries (R152). -/
def State.backPressure (s : State) (x : RingRec) : State :=
  let n := s.outstanding x
  let size := 2 ^ x.log2size
  if x.type ≠ 1 || x.mark = 0 || 3 < x.tc then s
  else if n < x.mark * 8 then s.put (Reg.HIF_RING_RSTAT_BP x.ring) 1
  else if min (x.mark * 8 + 32) size ≤ n then s.put (Reg.HIF_RING_RSTAT_BP x.ring) 0
  else s

/-! ### Event queues (R147) -/

/-- One entry is written to an EVQ ring with its SEQ and TAG. -/
def State.evqPut (s : State) (r : Nat) (i : EvqItem) : State :=
  match s.ringOf r with
  | none => s
  | some x =>
    let m := s.get (Reg.HIF_RING_PTR_MOD r)
    let s1 := (s.setRing { x with seq := (x.seq + 1) % 65536 }).put (Reg.HIF_RING_PTR_MOD r) ((m + 1) % 65536)
    let (l, s2) := s1.wroteBack r 1
    s2.dmaOut x.slice (.evq r ((l.map Prod.snd).headD 0) x.seq i)

/-- The held entries of an EVQ ring, then the KIND 7 entry with the number lost, as far as there is room. -/
def State.evqFlush (s : State) (r : Nat) : Nat → State
  | 0 => s
  | k + 1 =>
    match s.ringOf r with
    | none => s
    | some x =>
      if 2 ^ x.log2size ≤ s.outstanding x then s
      else
        match x.held with
        | i :: l => State.evqFlush ((s.setRing { x with held := l }).evqPut r i) r k
        | [] =>
          if x.lost = 0 then s
          else (s.setRing { x with lost := 0, made := x.made + 1 }).evqPut r ⟨x.slice, 7, [(4, 4, x.lost)]⟩

/-- An entry for an EVQ ring: written, held (16 at most), or dropped and counted. -/
def State.evqOffer (s : State) (r : Nat) (i : EvqItem) : State :=
  match s.ringOf r with
  | none => s
  | some x0 =>
    let x := { x0 with made := x0.made + 1 }
    let s := s.setRing x
    if x.held.isEmpty && x.lost = 0 && decide (s.outstanding x < 2 ^ x.log2size) then s.evqPut r i
    else if x.held.length < 16 then s.setRing { x with held := x.held ++ [i] }
    else (s.setRing { x with lost := x.lost + 1, dropped := x.dropped + 1 }).countFor x.slice (Reg.HIF_RING_CNT_DROP r) 1

/-- EVQ_WRITE (R147): the oldest posted entry reaches every running EVQ ring of its slice whose KINDMASK, as read at its enable
(R140), selects its KIND. -/
def evqWrite (s : State) : State :=
  match s.evqPosted with
  | [] => s
  | i :: l =>
    let s0 := { s with evqPosted := l }
    let rs := s0.rings.filter fun x => x.type == 3 && x.slice == i.slice && !x.stopping && !x.frozen && s0.ringRuns x.ring &&
      (x.mark >>> i.kind) % 2 == 1
    rs.foldl (fun s x => s.evqOffer x.ring i) s0

def execEvqWrite (s : State) : Host.Outcome State Fault Refusal := .next (evqWrite s)

/-! ### Doorbells (R135, R138, R139) -/

/-- DOORBELL: a write to DB[k] of page s. -/
def doorbell (slice k data : Nat) (s : State) : State :=
  match s.localRing slice k with
  | none => s.stray slice
  | some x =>
    let r := x.ring
    let new := data % 65536
    let m := s.get (Reg.HIF_RING_PTR_MOD r)
    let h := s.get (Reg.HIF_RING_PTR_HOST r)
    if !s.ready then s.stray slice
    else if data / 65536 % 65536 ≠ 0 then s.dbBad r
    else if new = h then s
    else if x.type = 3 then
      if idx16 new h ≤ idx16 m h then (s.put (Reg.HIF_RING_PTR_HOST r) new).evqFlush r 18 else s.dbBad r
    else if idx16 new m ≤ 2 ^ x.log2size && idx16 new h ≤ idx16 new m then
      (s.put (Reg.HIF_RING_PTR_HOST r) new).backPressure x
    else s.dbBad r

def execDoorbell (slice k data : Nat) (s : State) : Host.Outcome State Fault Refusal := .next (doorbell slice k data s)

/-- EVCLR: bit 0 clears the event flag of ring k (R138, R154). -/
def evclr (slice k data : Nat) (s : State) : State :=
  match s.localRing slice k with
  | none => s.stray slice
  | some x => if !s.ready then s.stray slice else if data % 2 = 1 then s.put (srcField (192 + x.ring)) 0 else s

def execEvclr (slice k data : Nat) (s : State) : Host.Outcome State Fault Refusal := .next (evclr slice k data s)

/-! ### Vector sets and routing (R62, R63, R158) -/

/-- Whether a vector lies in the VEC range of a slice. -/
def State.inVec (s : State) (k v : Nat) : Bool :=
  decide (s.get (Reg.SLC_SLICE_VEC_VBASE k) ≤ v) && decide (v < s.get (Reg.SLC_SLICE_VEC_VBASE k) + s.get (Reg.SLC_SLICE_VEC_VCOUNT k))

/-- The valid slices 1–255. -/
def State.validSlices (s : State) : List Nat := (List.range 256).filter fun k => k ≠ 0 && s.sliceValid k

/-- Whether a vector is in a slice's vector set. -/
def State.vectorOk (s : State) (k v : Nat) : Bool :=
  if k = 0 then !(s.validSlices.any fun j => s.inVec j v) else s.inVec k v

/-- The slice that owns a source, for sources 192 and up (R63). -/
def State.srcOwner (s : State) (i : Nat) : Nat := if i < 1216 then s.get (Reg.HIF_RING_CFG_SLICE (i - 192)) else i - 1216

/-- EVT_SRC_WRITE (R62, R63, R65). -/
def evtSrcWrite (i : Nat) (data : Word) (s : State) : State :=
  if 1472 ≤ i then s
  else if s.st = stBoot then s.reject 25 (0x1000 + 4 * i) 3
  else if 192 ≤ i && data.field 11 1 = 1 && !s.vectorOk (s.srcOwner i) (data.field 0 11) then s.reject 25 (0x1000 + 4 * i) 2
  else
    let was := s.flag (Reg.EVT_SRC_MSIX_EN i)
    let s1 := ((s.put (Reg.EVT_SRC_ALERT_EN i) (data.field 12 1)).put (Reg.EVT_SRC_MSIX_EN i) (data.field 11 1)).put
      (Reg.EVT_SRC_VECTOR i) (data.field 0 11)
    if !was && data.field 11 1 = 1 && s1.srcFlag i then s1.signal (data.field 0 11) else s1

def execEvtSrcWrite (source : Nat) (data : Word) (s : State) : Host.Outcome State Fault Refusal :=
  .next (evtSrcWrite source data s)

/-- MSIX_SIGNAL (R62): a source occurs; on 0 to 1 its vector is signalled. -/
def execMsixSignal (source : Nat) (s : State) : Host.Outcome State Fault Refusal :=
  .next (if source < 1472 then s.event source else s)

/-- A pending vector whose message can go out is signalled. -/
def State.flushMsix (s : State) (v : Nat) : State :=
  if s.flag (msixPend v) && s.msixOpen v then (s.put (msixPend v) 0).emit (.msix v) else s

/-- Every vector that waits is signalled where the PCI Express rules allow it now. -/
def State.flushAll (s : State) : State := (List.range 2048).foldl State.flushMsix s

/-- MSIX_VECTOR_UNMASK (R62): a pending vector is signalled when its mask is cleared. -/
def msixVectorUnmask (v : Nat) (s : State) : State := if 2048 ≤ v then s else (s.put (msixMask v) 0).flushMsix v

def execMsixVectorUnmask (vector : Nat) (s : State) : Host.Outcome State Fault Refusal := .next (msixVectorUnmask vector s)

/-! ### Ring set-up (R140) -/

/-- What REASON a refused enable has, 0xFF for none; the data is the CFG word written. -/
def State.enableReason (s : State) (r data : Nat) : Nat :=
  let type := data / 2 ^ 28 % 8
  let l2 := data / 2 ^ 24 % 16
  let k := data / 2 ^ 16 % 256
  let tc := data / 2 ^ 13 % 8
  let low := data % 4096
  let loc := s.get (Reg.HIF_RING_BASE_LO_LOCAL r)
  let quota := s.get (Reg.SLC_SLICE_QA_RINGS k)
  let used := s.get (useOf (Reg.SLC_SLICE_QA_RINGS k))
  if s.st = stReset || s.st = stBoot then 3
  else if 5 ≤ type || l2 < 6 || (type = 1 && 2 ^ l2 < low * 8) || (type ≠ 1 && tc ≠ 0) ||
      (type ≠ 1 && type ≠ 3 && low ≠ 0) || (type = 3 && 256 ≤ low) then 1
  else if quota ≤ used || 64 ≤ used || (s.sliceOp.any fun o => o.alloc.contains r) || (s.rings.any fun x => x.ring ≠ r && x.slice == k && x.local' == loc && s.flag (Reg.HIF_RING_CFG_EN x.ring)) ||
      (k ≠ 0 && !s.flag Reg.HIF_LINK_PASID_EN) ||
      (s.flag (Reg.EVT_SRC_MSIX_EN (192 + r)) && !s.vectorOk k (s.get (Reg.EVT_SRC_VECTOR (192 + r)))) then 2
  else 0xFF

/-- Rings held in all (R184). -/
def State.poolRings (s : State) (d : Int) : State :=
  s.put Reg.SLC_POOL_RINGS_FREE ((s.get Reg.SLC_POOL_RINGS_FREE : Int) - d).toNat

/-- Values of CFG outside the ranges of its fields (R55, R155). -/
def cfgBad (data : Nat) : Bool := decide (5 ≤ data / 2 ^ 28 % 8) || decide (data / 2 ^ 24 % 16 < 6)

/-- A ring starts with a record: indices 0 (R134, R140). No back-pressure is raised before a first doorbell has posted entries
(R152; assumption 73). -/
def State.startRing (s : State) (x : RingRec) : State :=
  let r := x.ring
  let s1 := ((s.wr (0x25000 + 8 * r) 0).wr (0x25004 + 8 * r) 1).setRing x
  let s2 := ((s1.take (Reg.SLC_SLICE_QA_RINGS x.slice) 1).poolRings 1).put Reg.HIF_RINGS_ENABLED
    (s1.get Reg.HIF_RINGS_ENABLED + 1)
  (s2.clearFault 0x0201 r).clearFault 0x0203 r

/-- A ring's engine stops without a write-back (R149): the entries taken are discarded. -/
def State.haltRing (s : State) (x : RingRec) : State :=
  let frames := s.swc.frames.map fun (f : CoreFrame) => if f.tx = some x.ring then { f with tx := none } else f
  let s1 := { s with swc := { s.swc with frames := frames } }.setRing
    { x with taken := [], held := [], lost := 0, cur := none, coal := 0, stopping := true }
  (s1.orphan x.ring).wr (0x25004 + 8 * x.ring) 8

/-- A ring stops on a DMA error of a kind at an address (R149). The record of 0x0201 names the ring's owner as its SLICE (R68;
assumption 73). -/
def State.dmaStop (s : State) (x : RingRec) (kind addr : Nat) : State :=
  let s1 := s.haltRing x
  let s2 := ((((s1.put Reg.HIF_DMAERR_LO_ADDR addr).put Reg.HIF_DMAERR_HI_ADDR (addr / 2 ^ 32)).put Reg.HIF_DMAERR_INFO_RING
    x.ring).put Reg.HIF_DMAERR_INFO_KIND kind).event 181
  (s2.raise 0x0201 1 x.ring x.slice (x.ring + kind % 16 * 2 ^ 16)).post x.slice 3
    [(4, 2, x.ring), (8, 4, x.ring * 2 ^ 16 + kind % 16)]

/-- The running enabled rings. -/
def State.runningRings (s : State) : List RingRec := s.rings.filter fun x => s.ringRuns x.ring && !x.stopping

/-- Rings stop as on a DMA error for a reason of which the spec states no address, or no kind (assumption 5). -/
def State.dmaStopAll (s : State) (p : RingRec → Bool) (kind : Option Nat) : State :=
  (s.runningRings.filter p).foldl (fun s x => (s.dmaStop x (kind.getD s.free) s.free).drawn) s

/-- RING_ENABLE (R140): a write of CFG with EN = 1. A ring that is enabled already takes the fields for its next enable; with
Bus Master Enable at 0 a ring stops at once (R132). A ring whose own stop is not complete (R141) drops what it still holds
(assumption 73). -/
def ringEnable (r data : Nat) (s : State) : State :=
  if 1024 ≤ r then s
  else
    let w := BitVec.ofNat 32 ((data % 2 ^ 31 - data % 2 ^ 13 + data % 2 ^ 12) + 2 ^ 31)
    if s.flag (Reg.HIF_RING_CFG_EN r) then
      if s.st = stBoot then s.reject 2 (0x1008 + 0x10 * r) 3
      else if cfgBad data then s.reject 2 (0x1008 + 0x10 * r) 1 else s.wr (0x21008 + 0x10 * r) w
    else
      let k := data / 2 ^ 16 % 256
      let why := s.enableReason r data
      if why ≠ 0xFF then
        (s.reject 2 (0x1008 + 0x10 * r) why).eventIf
          (why = 2 && decide (s.get (Reg.SLC_SLICE_QA_RINGS k) ≤ s.get (useOf (Reg.SLC_SLICE_QA_RINGS k)))) 184
      else
        let x : RingRec := { ring := r, slice := k, type := data / 2 ^ 28 % 8, log2size := data / 2 ^ 24 % 16,
                             local' := s.get (Reg.HIF_RING_BASE_LO_LOCAL r), tc := data / 2 ^ 13 % 8, mark := data % 4096 }
        let s0 := (s.ringOf r).elim s s.haltRing
        let s1 := (s0.wr (0x21008 + 0x10 * r) w).startRing x
        if s1.flag Reg.HIF_LINK_BME then s1 else (s1.dmaStop x s1.free s1.free).drawn

def execRingEnable (ring data : Nat) (s : State) : Host.Outcome State Fault Refusal := .next (ringEnable ring data s)

/-- RING_STOP_DONE (R141, R153): once everything taken is written back, ACTIVE reads 0 and the flag is set once more. -/
def ringStopDone (r : Nat) (s : State) : State :=
  match s.ringOf r with
  | none => s
  | some x =>
    if !x.stopping || s.flag (Reg.HIF_RING_CFG_EN r) || !x.taken.isEmpty || x.cur.isSome then s
    else
      let s1 := { s with rings := dropKey RingRec.ring r s.rings }
      (s1.wr (0x25004 + 8 * r) (s1.rd (0x25004 + 8 * r) &&& 8)).event (192 + r)

def execRingStopDone (ring : Nat) (s : State) : Host.Outcome State Fault Refusal := .next (ringStopDone ring s)

/-- COAL_TIMER_EXPIRY (R153). -/
def coalTimerExpiry (r : Nat) (s : State) : State :=
  match s.ringOf r with
  | none => s
  | some x =>
    if 0 < x.coal && s.get (Reg.HIF_RING_COAL_USEC r) ≠ 0 && !s.srcFlag (192 + r) then
      (s.setRing { x with coal := 0 }).event (192 + r)
    else s

def execCoalTimerExpiry (ring : Nat) (s : State) : Host.Outcome State Fault Refusal := .next (coalTimerExpiry ring s)

/-! ### Commands (R146, R148) -/

/-- The opcodes of R148. -/
def opcodes : List Nat :=
  [1, 2, 3, 0x10, 0x11, 0x12, 0x13, 0x20, 0x21, 0x22, 0x23, 0x30, 0x31, 0x38, 0x39, 0x40, 0x41, 0x42, 0x43, 0x44, 0x45, 0x46,
   0x50, 0x51, 0x52, 0x53, 0x60, 0x61, 0x62, 0x63, 0x70, 0x71, 0x72, 0x73, 0x80, 0x81, 0x82, 0x90]

/-- CMD_FETCH (R120, R137, R146): the next entry of a CMD or REC ring is taken while no command of the ring is in progress. An
unsupported VERSION or an OPCODE that is not for the ring completes it; a listed command then executes in its own row. -/
def cmdFetch (r opcode version : Nat) (s : State) : State :=
  match s.ringOf r with
  | none => s
  | some x =>
    if !(x.type == 2 || x.type == 4) || !s.ringRuns r || x.stopping || x.frozen || x.cur.isSome || s.outstanding x = 0 || !s.ready
    then s
    else
      let m := s.get (Reg.HIF_RING_PTR_MOD r)
      let s1 := ((s.setRing { x with cur := some opcode }).put (Reg.HIF_RING_PTR_MOD r) ((m + 1) % 65536)).put
        (Reg.HIF_RING_RSTAT_INFLIGHT r) (s.get (Reg.HIF_RING_RSTAT_INFLIGHT r) + 1)
      let q : Req := ⟨x.slice, some r, version⟩
      if version ≠ 1 then s1.complete q .version 0 0
      else if !opcodes.contains opcode || ((opcode == 0x90) != (x.type == 4)) then s1.complete q .param 0 0
      else s1

def execCmdFetch (ring opcode version : Nat) (s : State) : Host.Outcome State Fault Refusal :=
  .next (cmdFetch ring opcode version s)

/-! ### DMA errors and PCIe (R117, R131, R132, R149, R156, R157) -/

/-- RING_DMA_ERROR (R149). -/
def ringDmaError (r kind addr : Nat) (s : State) : State :=
  match s.ringOf r with
  | none => s
  | some x => if s.ringRuns r then s.dmaStop x kind addr else s

def execRingDmaError (ring kind addr : Nat) (s : State) : Host.Outcome State Fault Refusal :=
  .next (ringDmaError ring kind addr s)

/-- The registers of the MSI-X structures return to their reset state (R117). -/
def State.msixReset (s : State) : State := { s with regs := s.regs.filter fun (p : Nat × Word) => p.1 < 0x400000 }

/-- PTR, RSTAT and CNT of every ring return to their reset values. -/
def State.ringsCleared (s : State) : State :=
  { s with rings := [], regs := s.regs.filter fun (p : Nat × Word) => !(decide (0x25000 ≤ p.1) && decide (p.1 < 0x28000)) }

/-- The host interface is reset (R115, R117): every ring stops and discards what it has taken, EN, PTR, RSTAT and CNT at their reset
values; the bits of configuration space return to 0 (R132); the cause is recorded. Without the main domain there is no host
interface. -/
def State.hostReset (s : State) : State :=
  if s.st = stOff || s.st = stVigil then s
  else
    let s1 := s.rings.foldl (fun s x =>
      let s1 := if s.flag (Reg.HIF_RING_CFG_EN x.ring) then (s.give (Reg.SLC_SLICE_QA_RINGS x.slice) 1).poolRings (-1) else s
      (s1.haltRing x).put (Reg.HIF_RING_CFG_EN x.ring) 0) s
    let s2 := s1.ringsCleared.msixReset
    (((s2.put Reg.HIF_RINGS_ENABLED 0).put Reg.HIF_LINK_BME 0).put Reg.HIF_LINK_PASID_EN 0 |>.event 183).put Reg.GLB_RESET_CAUSE_HOST 1

/-- PERST (R117). -/
def execPerst (s : State) : Host.Outcome State Fault Refusal := .next s.hostReset

/-- FLR_D3HOT (R131). -/
def execFlrD3hot (s : State) : Host.Outcome State Fault Refusal := .next s.hostReset

/-- BUS_MASTER_DISABLE (R132): every enabled ring stops as on a DMA error; a ring that R141 stops already can write nothing back and
drops what it holds (assumption 73). -/
def busMasterDisable (s : State) : State :=
  let s1 := (s.put Reg.HIF_LINK_BME 0).dmaStopAll (fun _ => true) none
  (s1.rings.filter fun x => x.stopping && !s1.flag (Reg.HIF_RING_CFG_EN x.ring)).foldl State.haltRing s1

def execBusMasterDisable (s : State) : Host.Outcome State Fault Refusal := .next (busMasterDisable s)

/-- BUS_MASTER_ENABLE (R132, R170): Bus Master Enable is written 1, with PASID Enable as the host writes it. -/
def busMasterEnable (pasid : Bool) (s : State) : State :=
  let s1 := s.put Reg.HIF_LINK_BME 1
  (if pasid then s1.put Reg.HIF_LINK_PASID_EN 1 else s1).flushAll

def execBusMasterEnable (pasid : Bool) (s : State) : Host.Outcome State Fault Refusal := .next (busMasterEnable pasid s)

/-- MB_CTRL of a slice (R165): EN, ACTIVE, DMAERR. -/
def mbEn (k : Nat) : Field := ⟨0x200210 + 0x1000 * k, 0, 1⟩
def mbActive (k : Nat) : Field := ⟨0x200210 + 0x1000 * k, 1, 1⟩
def mbErr (k : Nat) : Field := ⟨0x200210 + 0x1000 * k, 2, 1⟩

/-- The index words of a mailbox: OUT (module consumer, accepted producer) and IN (module producer, accepted consumer). -/
def mbOutMod (k : Nat) : Field := ⟨0x200214 + 0x1000 * k, 16, 16⟩
def mbOutHost (k : Nat) : Field := ⟨0x200214 + 0x1000 * k, 0, 16⟩
def mbInMod (k : Nat) : Field := ⟨0x200218 + 0x1000 * k, 16, 16⟩
def mbInHost (k : Nat) : Field := ⟨0x200218 + 0x1000 * k, 0, 16⟩

/-- The record of a mailbox, and its replacement. -/
def State.mbOf (s : State) (k : Nat) : MbRec := (findKey MbRec.slice k s.mbs).getD { slice := k }
def State.setMb (s : State) (m : MbRec) : State := { s with mbs := setKey MbRec.slice m s.mbs }

/-- The oldest message taken from a slice's OUT ring is written back with a status (R167, R168): its entry stands as many places before
the consumer index as messages wait. -/
def State.mbBack (s : State) (k : Nat) (st : Status) : State :=
  let b := s.mbOf k
  let c := idx16 (s.get (mbOutMod k)) b.waiting.length
  let ok := st == .ok
  let s1 := s.setMb { b with
    waiting := b.waiting.drop 1, outPass := if c % 64 = 63 then b.outPass + 1 else b.outPass,
    given := if ok then b.given + 1 else b.given, refused := if ok then b.refused else b.refused + 1 }
  ((s1.dmaOut k (.mbOut k (c % 64) (1 + b.outPass % 255) st)).eventIf (!ok) (1216 + k)).eventIf (!ok) 185

/-- Every message taken and not delivered is written back with ABORTED (R170). -/
def State.mbAbort (s : State) (k : Nat) : State := (s.mbOf k).waiting.foldl (fun (s : State) _ => s.mbBack k .aborted) s

/-- A mailbox stops on a DMA error (R170). -/
def State.mbStop (s : State) (k : Nat) : State :=
  if s.flag (mbEn k) then ((s.put (mbActive k) 0).put (mbErr k) 1).mbAbort k else s

/-- PASID_DISABLE (R132): the rings and mailboxes of slices 1–255 stop. -/
def pasidDisable (s : State) : State :=
  if !s.flag Reg.HIF_LINK_PASID_EN then s
  else
    let s1 := (s.put Reg.HIF_LINK_PASID_EN 0).dmaStopAll (fun x => x.slice ≠ 0) (some 5)
    s1.mbs.foldl (fun s m => if m.slice = 0 then s else s.mbStop m.slice) s1

def execPasidDisable (s : State) : Host.Outcome State Fault Refusal := .next (pasidDisable s)

/-- A write to configuration space: the command register (memory space and Bus Master Enable), Device Control, the MSI-X control bits
and PASID Enable; every other bit is read-only (R129, R132; assumption 31). -/
def State.pciWrite (s : State) (off : Nat) (w : Word) : State :=
  let a := 0x500000 + off
  if off = 0x04 then
    let s1 := s.wr a ((s.rd a).setField 1 1 (w.field 1 1))
    let bme := w.field 2 1 == 1
    if bme == s1.flag Reg.HIF_LINK_BME then s1 else if bme then busMasterEnable false s1 else busMasterDisable s1
  else if off = 0x44 then s.wr a ((s.rd a).setField 0 2 (if w.field 0 2 = 3 then 3 else 0))
  else if off = 0x50 then (s.wr a ((s.rd a).setField 30 2 (w.field 30 2))).flushAll
  else if off = 0x78 then s.wr a ((s.rd a).setField 0 15 (w.field 0 15))
  else if off = 0x15C then
    let en := w.field 16 1 == 1
    if en == s.flag Reg.HIF_LINK_PASID_EN then s else if en then s.put Reg.HIF_LINK_PASID_EN 1 else pasidDisable s
  else s

/-- PCIE_LINK_CHANGE (R155–R157): source 180; a link that trains clears 0x0202. -/
def pcieLinkChange (width speed : Nat) (s : State) : State :=
  let same := s.get Reg.HIF_LINK_WIDTH = width % 16 && s.get Reg.HIF_LINK_SPEED = speed % 16
  let s1 := ((s.put Reg.HIF_LINK_WIDTH width).put Reg.HIF_LINK_SPEED speed).eventIf (!same) 180
  if width % 16 ≠ 0 then s1.clearFault 0x0202 0 else s1

def execPcieLinkChange (width speed : Nat) (s : State) : Host.Outcome State Fault Refusal :=
  .next (pcieLinkChange width speed s)

/-- PCIE_LINK_DOWN (R157). -/
def pcieLinkDown (s : State) : State :=
  if s.get Reg.HIF_LINK_WIDTH = 0 && s.st ≠ stOff && s.st ≠ stVigil then s.raise1 0x0202 1 0 else s

def execPcieLinkDown (s : State) : Host.Outcome State Fault Refusal := .next (pcieLinkDown s)

end Sys2Proof.Machine
end

