-- ==== Sys2Proof/Machine/Swc.lean ====
section
/-! DEFINITION. The switch core: beads, classes, metering, forwarding, planes and resequencers, egress admission, expiry,
scheduling, flow control and the bead audit (R251–R254, R266–R293). -/

namespace Sys2Proof.Machine

/-! ### Records of the core -/

def State.coreFrame (s : State) (id : Nat) : Option CoreFrame := findKey CoreFrame.id id s.swc.frames
def State.setFrame (s : State) (f : CoreFrame) : State := { s with swc := { s.swc with frames := setKey CoreFrame.id f s.swc.frames } }
def State.dropFrame (s : State) (id : Nat) : State := { s with swc := { s.swc with frames := dropKey CoreFrame.id id s.swc.frames } }

/-- The copies of the core replaced, by a map over them. -/
def State.setCopies (s : State) (l : List CoreCopy) : State := { s with swc := { s.swc with copies := l } }

/-- The copy of a frame for a port. -/
def State.copyOf (s : State) (frame port : Nat) : Option CoreCopy := s.swc.copies.find? fun c => c.frame == frame && c.port == port

/-- A copy replaced, or removed. -/
def State.putCopy (s : State) (c : CoreCopy) : State :=
  s.setCopies (s.swc.copies.map fun (d : CoreCopy) => if d.frame = c.frame && d.port = c.port then c else d)
def State.removeCopy (s : State) (c : CoreCopy) : State :=
  s.setCopies (s.swc.copies.filter fun (d : CoreCopy) => !(d.frame == c.frame && d.port == c.port))

/-- The flow of a copy (R279). -/
def flowKey (src port tc : Nat) : Nat := 4096 * src + 16 * port + tc
def State.flowOf (s : State) (k : Nat) : Flow := (findKey Flow.key k s.swc.flows).getD { key := k }
def State.setFlow (s : State) (f : Flow) : State := { s with swc := { s.swc with flows := setKey Flow.key f s.swc.flows } }

/-! ### Pairs, addresses, MACsec bypass -/

/-- The pair of a port runs PRP or HSR (R242). -/
def State.pairMode (s : State) (p : Nat) : Nat := if p < 8 then s.get (Reg.MAC_PAIR_CFG_MODE (p / 2)) else 0
def State.redundant (s : State) (p : Nat) : Bool := s.pairMode p == 1 || s.pairMode p == 2

/-- Own address of a port, that of the even port in a pair (R235). -/
def State.ownAddr (s : State) (p : Nat) : Nat :=
  s.get Reg.MAC_ADDR_LO_ADDR + (if s.redundant p then p / 2 * 2 else p) * 2 ^ 24 + s.get Reg.MAC_ADDR_HI_ADDR * 2 ^ 32

/-- The ports of a path (R177): the Vexza link, or a port pair. -/
def pathPorts (path : Nat) : List Nat := if path = 0 then [8, 9] else [2 * path - 2, 2 * path - 1]

/-- Frames that pass a MACsec port unprotected, by EtherType (R257): EAPOL, and PTP and LLDP where they bypass. -/
def State.bypasses (s : State) (p eth : Nat) : Bool :=
  eth == 0x888E || (eth == 0x88F7 && s.flag (Reg.MACP_MACSEC_BYPASS_PTP p)) ||
    (eth == 0x88CC && s.flag (Reg.MACP_MACSEC_BYPASS_LLDP p))

/-! ### Beads (R268–R272) -/

/-- Beads of a frame of L bytes. -/
def beadsOf (len : Nat) : Nat := (len + 255) / 256

/-- The reserve of a class. -/
def State.reserve (s : State) (tc : Nat) : Nat :=
  if tc = 7 then s.get Reg.SWC_RESV_A_TC7 else if tc = 6 then s.get Reg.SWC_RESV_A_TC6
  else if tc = 5 then s.get Reg.SWC_RESV_B_TC5 else if tc = 4 then s.get Reg.SWC_RESV_B_TC4 else 0

/-- Beads of the shared pool that are free. -/
def State.sharedFree (s : State) : Nat :=
  65536 - (s.reserve 7 + s.reserve 6 + s.reserve 5 + s.reserve 4) - (s.swc.frames.map CoreFrame.shared).sum - s.swc.leaked.length

/-- Ingress occupancy of a port, and of a class of it (R252, R272). -/
def State.occupancy (s : State) (p : Nat) (c : Option Nat) : Nat :=
  ((s.swc.frames.filter fun f => f.src == p && (match c with
    | some k => f.tc == k
    | none => decide (f.tc < 4))).map fun (f : CoreFrame) => f.res + f.shared).sum

/-! ### Flow control (R251, R252) -/

/-- The class mask that a port holds paused at its peer, bit 8 for PAUSE. -/
def State.pausing (s : State) (p : Nat) : Nat := (findKey Prod.fst p s.macs.pausing).elim 0 Prod.snd
def State.setPausing (s : State) (p m : Nat) : State := { s with macs := { s.macs with pausing := setKey Prod.fst (p, m) s.macs.pausing } }

/-- A frame that the MAC makes leaves at the next frame boundary of its port: now, or after the frame in progress (R252). -/
def State.macSend (s : State) (p : Nat) (m : MacTx) : State :=
  if s.swc.copies.any fun c => c.port == p && c.stage == 3 then { s with macs := { s.macs with ctl := s.macs.ctl ++ [(p, m)] } }
  else s.emit (.mac (s.ownAddr p) m)

/-- The frame in progress on a port has ended: the MAC's own frames that wait leave. -/
def State.macFlush (s : State) (p : Nat) : State :=
  (s.macs.ctl.filter fun x => x.1 == p).foldl (fun s x => s.emit (.mac (s.ownAddr p) x.2))
    { s with macs := { s.macs with ctl := s.macs.ctl.filter fun x => x.1 != p } }

/-- A PAUSE frame leaves a port, or a PFC frame with the classes paused now, and those `freed` now with 0 quanta (R252). -/
def State.sendPause (s : State) (p quanta : Nat) : State :=
  (s.count (Reg.MACP_CTL_TX_PAUSE p)).macSend p (.pause p quanta)
def State.sendPfc (s : State) (p classes freed : Nat) : State :=
  (s.count (Reg.MACP_CTL_TX_PFC p)).macSend p (.pfc p ([0, 1, 2, 3].filterMap fun c =>
    if (classes >>> c) % 2 = 1 then some (c, s.get (Reg.MACP_FC_QUANTA_QUANTA p))
    else if (freed >>> c) % 2 = 1 then some (c, 0) else none))

/-- Whether PAUSE is sent and obeyed on a port: with clause 37 only when symmetric pause is resolved (R251). -/
def State.pauseMode (s : State) (p : Nat) : Bool :=
  s.get (Reg.MACP_FC_MODE p) == 1 &&
    (!(s.get (Reg.MACP_CFG_SPEED p) == 0 && s.flag (Reg.MACP_CFG_AN p)) || s.flag (Reg.MACP_STAT_PAUSE_RES p))

/-- Bit c of a mask set to a truth value. -/
def withBit (m c : Nat) (b : Bool) : Nat := m - (m >>> c) % 2 * 2 ^ c + (if b then 2 ^ c else 0)

/-- The rule of R252 applied to a port after its occupancy or a PFC request has changed; a port that is not UP sends nothing (R241). -/
def State.flowControl (s : State) (p : Nat) : State :=
  if 7 < p || !s.portUp p then s
  else
    let m := s.pausing p
    let hi := s.getA (Reg.MACP_FC_MARK_HI p)
    let lo := s.getA (Reg.MACP_FC_MARK_LO p)
    let mode := s.get (Reg.MACP_FC_MODE p)
    if s.pauseMode p then
      let o := s.occupancy p none
      if (m >>> 8) % 2 = 0 && hi ≤ o then (s.setPausing p (withBit m 8 true)).sendPause p (s.get (Reg.MACP_FC_QUANTA_QUANTA p))
      else if (m >>> 8) % 2 = 1 && o ≤ lo then (s.setPausing p (withBit m 8 false)).sendPause p 0
      else s
    else if mode = 2 then
      let gen := s.get (Reg.MACP_FC_PFC_GEN p)
      let m1 := [0, 1, 2, 3].foldl (fun a c =>
        let o := s.occupancy p (some c)
        let req := (s.swc.pfc >>> c) % 2 == 1
        let on := (gen >>> c) % 2 == 1 && (req || decide (hi ≤ o) || ((a >>> c) % 2 == 1 && decide (lo < o)))
        withBit a c on) m
      if m1 = m then s else (s.setPausing p m1).sendPfc p (m1 % 16) (m % 16)
    else s

/-- The occupancy of a port as its register shows it, with flow control. -/
def State.occChanged (s : State) (p : Nat) : State :=
  (s.put (Reg.SWC_PORT_ING_OCC p) (min (s.occupancy p none) 65535)).flowControl p

/-! ### The end of a frame (R143, R269, R282) -/

/-- The finished TX frames at the front of a ring are written back in index order (R137, R143). -/
def State.txFlush (s : State) (r : Nat) : Nat → State
  | 0 => s
  | k + 1 =>
    match s.ringOf r with
    | none => s
    | some x =>
      match x.taken with
      | [] => s
      | t :: l =>
        match t.done with
        | none => s
        | some (st, ts) =>
          let (tags, s1) := (s.setRing { x with taken := l }).wroteBack r t.entries
          let s2 := s1.put (Reg.HIF_RING_RSTAT_INFLIGHT r) (s1.get (Reg.HIF_RING_RSTAT_INFLIGHT r) - t.entries)
          State.txFlush (s2.dmaOut x.slice (.txBack ⟨r, tags, st, ts.map stamp80⟩)) r k

/-- The entries of a TX frame complete with a status. -/
def State.txComplete (s : State) (r id : Nat) (st : Status) (ts : Option Nat) : State :=
  match s.ringOf r with
  | none => s
  | some x =>
    let l := x.taken.map fun (t : TxTaken) => if t.frame = id then { t with done := some (st, ts) } else t
    (s.setRing { x with taken := l }).txFlush r l.length

/-- A status that the spec does not state for a TX frame that left no port: NORES, TIMEOUT or ABORTED, free (assumption 5). -/
def State.freeStatus (s : State) : Status := if s.free % 3 = 0 then .nores else if s.free % 3 = 1 then .timeout else .aborted

/-- A frame whose reference count is 0 once every destination has decided returns its beads; a TX frame completes. -/
def State.settleFrame (s : State) (id : Nat) : State :=
  match s.coreFrame id with
  | none => s
  | some f =>
    if f.refs ≠ 0 || f.undecided ≠ 0 then s
    else
      let s1 := (s.dropFrame id).occChanged f.src
      match f.tx with
      | none => s1
      | some r =>
        if f.left then s1.txComplete r id .ok (if f.tsReq then f.txts else none)
        else
          match f.fail with
          | some st => s1.txComplete r id st none
          | none => s1.drawn.txComplete r id s1.freeStatus none

/-- A destination has decided without a copy, for a reason that a TX frame completes with, if any. -/
def State.refuseCopy (s : State) (c : CoreCopy) (why : Option Status) : State :=
  let s1 := s.removeCopy c
  match s1.coreFrame c.frame with
  | none => s1
  | some f =>
    let g := { f with undecided := f.undecided - 1, fail := (match why with
      | some w => some w
      | none => f.fail) }
    (s1.setFrame g).settleFrame c.frame

/-- An admitted copy is finished: its reference is released, with a reason when it did not leave. -/
def State.releaseCopy (s : State) (c : CoreCopy) (why : Option Status) : State :=
  let s1 := s.removeCopy c
  match s1.coreFrame c.frame with
  | none => s1
  | some f =>
    let g := { f with refs := f.refs - 1, fail := (match why with
      | some w => some w
      | none => f.fail) }
    (s1.setFrame g).settleFrame c.frame

/-- A copy is discarded wherever it waits. -/
def State.discardCopy (s : State) (c : CoreCopy) (why : Option Status) : State :=
  if 2 ≤ c.stage then s.releaseCopy c why else s.refuseCopy c why

/-! ### Expiry (R202, R284) -/

/-- The expiry instant of a copy in ns: the earlier of L + LATE_MAX and the age, and whether it is the launch's. The core's own ports
have no LATE_MAX, so a launch time sets no expiry there (assumption 74). -/
def State.expiryOf (s : State) (f : CoreFrame) (p : Nat) : Option (Nat × Bool) :=
  let l := if 11 < p then none else f.launch.map fun x => x + 1000 * s.get (Reg.TIM_PORT_LATE_MAX_US p)
  match l, f.age with
  | some a, some b => if a ≤ b then some (a, true) else some (b, false)
  | some a, none => some (a, true)
  | none, some b => some (b, false)
  | none, none => none

/-- A publisher frame expires (R202, R322, R474–R476): counted, source 97, source 71 too for an own stream, and 0x0C01 at the tenth
within 1 s. -/
def State.pubExpired (s : State) (src : Nat) : State :=
  let l := (s.time :: s.pub.expiries.filter fun x => decide (s.time < x + 1000000000 * nsUnit)).take 10
  let s1 := { s with pub := { s.pub with expiries := l } }
  let s2 := ((s1.count Reg.PUB_GOOSE_LATE_COUNT).event 97).eventIf (decide (0x1000 ≤ src)) 71
  if 10 ≤ l.length then s2.raiseAt 0x0C01 1 src src else s2

/-- What an expiry counts beside the core's own counter (R202, R475): LATE_CNT and source 22 where the launch window has passed, and
a publisher frame. -/
def State.lateCounted (s : State) (f : CoreFrame) (port : Nat) (late : Bool) : State :=
  let s1 := if late && decide (port < 12) then (s.count (Reg.TIM_PORT_LATE_CNT_COUNT port)).event 22 else s
  match f.pub with
  | some k => s1.pubExpired k
  | none => s1

/-- FRAME_EXPIRY (R284). -/
def frameExpiry (frame port : Nat) (s : State) : State :=
  match s.copyOf frame port, s.coreFrame frame with
  | some c, some f =>
    if c.stage = 3 then s
    else
      match s.expiryOf f port with
      | none => s
      | some (t, late) =>
        let s2 := (s.advance (t * nsUnit)).lateCounted f port late
        let s3 := if f.pub.isNone && decide (f.src < 12) then s2.count (Reg.SWC_PORT_EXPIRED_COUNT port) else s2
        s3.discardCopy c (some .timeout)
  | _, _ => s

def execFrameExpiry (frame port : Nat) (s : State) : Host.Outcome State Fault Refusal := .next (frameExpiry frame port s)

/-! ### Ingress: beads, metering, lookup, planes (R271–R279) -/

/-- A frame finds no bead: counted; TC4–TC7 set source 60 and raise 0x0704 (R271). -/
def State.ingressDrop (s : State) (f : CoreFrame) : State :=
  let s1 := s.count (Reg.SWC_PORT_ING_DROP_COUNT f.src)
  if 4 ≤ f.tc then (s1.event 60).raiseAt 0x0704 2 f.src (f.tc + f.src * 256) else s1

/-- The beads a frame can have: from the class reserve, and from the shared pool (R271). -/
def State.beadsFor (s : State) (f : CoreFrame) : Option (Nat × Nat) :=
  let n := beadsOf f.len
  if 4 ≤ f.tc then
    let used := ((s.swc.frames.filter fun g => g.tc == f.tc).map CoreFrame.res).sum
    let r := min n (s.reserve f.tc - used)
    if n - r ≤ s.sharedFree then some (r, n - r) else none
  else if n ≤ s.sharedFree && s.occupancy f.src none + n ≤ s.get (Reg.SWC_PORT_ING_LIMIT f.src) then some (0, n)
  else none

/-- The plane that has fewer bytes waiting, among those in service (R279, R281). -/
def State.pickPlane (s : State) : Nat :=
  let up := s.get Reg.SWC_PLANES_UP
  let bytes := fun k => ((s.swc.copies.filter fun c => c.stage == 0 && c.plane == k).map fun c =>
    (s.coreFrame c.frame).elim 0 CoreFrame.len).sum
  if up % 2 = 0 then 1 else if up / 2 = 0 then 0 else if bytes 1 < bytes 0 then 1 else 0

/-- A frame enters the core for a list of egress ports; the state tells whether it found its beads. -/
def State.coreIn (s : State) (f : CoreFrame) (ports : List Nat) : State × Option Nat :=
  match s.beadsFor f with
  | none => (s.ingressDrop f, none)
  | some (r, sh) =>
    let id := s.swc.nextId
    let plane := s.pickPlane
    let g := { f with id := id, res := r, shared := sh, undecided := ports.length }
    let s1 := { s with swc := { s.swc with nextId := id + 1, frames := setKey CoreFrame.id g s.swc.frames } }
    let s2 := ports.foldl (fun s p =>
      let fl := s.flowOf (flowKey f.src p f.tc)
      let s1 := s.setFlow { fl with next := (fl.next + 1) % 65536 }
      s1.setCopies (s1.swc.copies ++
        [{ frame := id, port := p, src := f.src, tc := f.tc, seq := fl.next, plane := plane }])) s1
    (s2.occChanged f.src, some id)

/-- A frame with its destinations decided to be none returns its beads; a TX frame then completes. -/
def State.coreEnter (s : State) (f : CoreFrame) (ports : List Nat) : State × Option Nat :=
  let (s1, id) := s.coreIn f ports
  match id with
  | some k => (if ports.isEmpty then s1.settleFrame k else s1, id)
  | none => (s1, none)

/-- The colour of a received frame by its marker (R274, R275, RFC 2698), and the state with the marker's buckets. -/
def State.meter (s : State) (p tc len now : Nat) : State × Nat × Option Nat :=
  let m := s.getA (Reg.SWC_PORT_METER_SEL3 p) >>> (8 * tc) % 256
  if 3 < tc || 11 < p || 63 < m then (s, 0, none)
  else
    let cbs := 8000 * s.getA (Reg.SWC_METER_CBS_BYTES m)
    let pbs := 8000 * s.getA (Reg.SWC_METER_PBS_BYTES m)
    let b := (findKey Bucket.meter m s.swc.buckets).getD ⟨m, cbs, pbs, now⟩
    let dt := now - b.last
    let c := min cbs (b.c + dt * s.getA (Reg.SWC_METER_CIR_RATE m))
    let pk := min pbs (b.p + dt * s.getA (Reg.SWC_METER_PIR_RATE m))
    let n := 8000 * (len + 4)
    let (col, c1, p1) := if pk < n then (2, c, pk) else if c < n then (1, c, pk - n) else (0, c - n, pk - n)
    ({ s with swc := { s.swc with buckets := setKey Bucket.meter ⟨m, c1, p1, max now b.last⟩ s.swc.buckets } }, col, some m)

/-- The forwarding entry of a destination and VID, or the unmatched path: port mask and host slice (R276). -/
def State.fdbLookup (s : State) (dst vid : Nat) : Nat × Option Nat :=
  match s.swc.fdb.find? fun e => e.2.2.1 / 2 ^ 31 % 2 == 1 && e.2.1 + e.2.2.1 % 2 ^ 16 * 2 ^ 32 == dst &&
      e.2.2.1 / 2 ^ 16 % 2 ^ 12 == vid with
  | some e => (e.2.2.2 % 2 ^ 17, if e.2.2.2 / 2 ^ 17 % 2 = 1 then some (e.2.2.2 / 2 ^ 18 % 256) else none)
  | none => (s.get Reg.SWC_FLOOD_PORTS, if s.flag Reg.SWC_FLOOD_HOST then some 0 else none)

/-- The egress ports of a mask after the rules of R277; `vexza` says whether P8 and P9 are open to the frame, `eth` its
EtherType, `host` the slice the lookup names. -/
def State.egress (s : State) (src eth mask : Nat) (host : Option Nat) (vexza : Bool) : List Nat :=
  let inPair := fun p => src < 8 && s.redundant src && p / 2 == src / 2 && decide (p < 8)
  let named := (List.range 17).filter fun p => (mask >>> p) % 2 == 1 && (decide (p < 12) || p == 16)
  let l1 := named.filter fun p => p ≠ src && !inPair p && (vexza || !(p == 8 || p == 9))
  let l2 := (List.range 17).filter fun p => l1.contains p ||
    (decide (p < 8) && s.redundant p && (l1.contains (p / 2 * 2) || l1.contains (p / 2 * 2 + 1)))
  let l3 := if src < 8 && (eth = 0x88BA || eth = 0x88B8) then l2 ++ [13] else l2
  match host with
  | some _ => l3 ++ [12]
  | none => l3

/-- Redundancy numbers of a frame for the pairs among its ports; each pair's counter advances by one (R243). -/
def State.numberPairs (s : State) (ports : List Nat) : State × List (Nat × Nat) :=
  ([0, 1, 2, 3].filter fun k => s.redundant (2 * k) && ports.any fun p => decide (p < 8) && p / 2 == k).foldl
    (fun (a : State × List (Nat × Nat)) k =>
      let q := (findKey Prod.fst k a.1.macs.pairSeq).elim 0 Prod.snd
      ({ a.1 with macs := { a.1.macs with pairSeq := setKey Prod.fst (k, (q + 1) % 65536) a.1.macs.pairSeq } }, a.2 ++ [(k, q)]))
    (s, [])

/-! ### Resequencing and egress admission (R280, R282, R283) -/

/-- Beads of the class queue of a port. -/
def State.queueDepth (s : State) (p tc : Nat) : Nat :=
  ((s.swc.copies.filter fun c => c.port == p && c.tc == tc && decide (2 ≤ c.stage)).map fun c =>
    (s.coreFrame c.frame).elim 0 fun f => f.res + f.shared).sum

/-- The average depth avg + (depth − avg) × 2^−W as an exact binary fraction (R283). -/
def avgStep (num e depth w : Nat) : Nat × Nat := (num * (2 ^ w - 1) + depth * 2 ^ e, e + w)

/-- Whether WRED drops at an average num / 2^e for a draw in units of 2^−32 (R283). -/
def wredDrops (num e lo hi maxp draw : Nat) : Bool :=
  decide (hi * 2 ^ e ≤ num) ||
    (decide (lo * 2 ^ e ≤ num) && decide (draw % 2 ^ 32 * 256 * ((hi - lo) * 2 ^ e) < 2 ^ 32 * maxp * (num - lo * 2 ^ e)))

/-- Whether an egress port takes copies: P0–P11 in UP without a hold (R240, R282). -/
def State.egressUp (s : State) (p : Nat) : Bool := decide (11 < p) || (s.portUp p && !s.flag (Reg.SWC_PORT_EGR_HOLD p))

/-- Whether a port takes a copy of an EtherType: while it waits for its SAK, the frames that bypass MACsec (R241, R259). -/
def State.egressTakes (s : State) (p eth : Nat) : Bool :=
  s.egressUp p || (decide (p < 10) && s.flag (Reg.MACP_MACSEC_EN p) && s.get (Reg.MACP_STAT_STATE p) == 3 &&
    !s.flag (Reg.SWC_PORT_EGR_HOLD p) && s.bypasses p eth)

/-- A copy that leaves its resequencer is admitted or refused (R282). -/
def State.admitCopy (s : State) (c : CoreCopy) (draw : Nat) : State :=
  match s.coreFrame c.frame with
  | none => s.removeCopy c
  | some f =>
    let p := c.port
    let expired := match s.expiryOf f p with
      | some (t, late) => if t < s.ns then some late else none
      | none => none
    if !s.egressTakes p f.eth then (s.count (Reg.SWC_PORT_EG_DOWN_COUNT p)).refuseCopy c none
    else if expired.isSome then
      ((s.count (Reg.SWC_PORT_EXPIRED_COUNT p)).lateCounted f p (expired.getD false)).refuseCopy c (some .timeout)
    else
      let depth := s.queueDepth p c.tc
      let i := 3 * c.tc + f.colour
      let key := 16 * p + c.tc
      let (num, e) := match findKey Prod.fst key s.swc.avgs with
        | some (_, a, b) => avgStep a b depth (s.getA (Reg.SWC_WRED_P_W i))
        | none => avgStep 0 0 depth (s.getA (Reg.SWC_WRED_P_W i))
      let low := decide (c.tc < 4)
      let s1 := if low then { s with swc := { s.swc with avgs := setKey Prod.fst (key, num, e) s.swc.avgs } } else s
      if low && s.get (Reg.SWC_PORT_EGR_QLIM p) ≤ depth then (s1.count (Reg.SWC_PORT_QFULL_DROP_COUNT p)).refuseCopy c none
      else if low && wredDrops num e (s.getA (Reg.SWC_WRED_TH_MIN i)) (s.getA (Reg.SWC_WRED_TH_MAX i))
          (s.getA (Reg.SWC_WRED_P_MAXP i)) draw then (s1.count (Reg.SWC_PORT_WRED_DROP_COUNT p)).refuseCopy c none
      else
        let n := s1.swc.order
        let s2 := { s1 with swc := { s1.swc with order := n + 1 } }.putCopy { c with stage := 2, order := n }
        s2.setFrame { f with refs := f.refs + 1, undecided := f.undecided - 1 }

/-- Held copies of a flow that are next in sequence are released, in order. -/
def State.releaseHeld (s : State) (key : Nat) : Nat → List Nat → State
  | 0, _ => s
  | k + 1, draws =>
    let fl := s.flowOf key
    match s.swc.copies.find? fun c => c.stage == 1 && flowKey c.src c.port c.tc == key && c.seq == fl.expect with
    | none => s
    | some c =>
      let s1 := s.setFlow { fl with expect := (fl.expect + 1) % 65536 }
      State.releaseHeld (s1.admitCopy c (draws.headD 0)) key k draws.tail

/-- EGRESS_ADMIT (R280, R282): the copy of a frame for a port comes off its plane. -/
def egressAdmit (frame port : Nat) (draws : List Nat) (s : State) : State :=
  match s.copyOf frame port with
  | none => s
  | some c =>
    if c.stage ≠ 0 then s
    else
      let key := flowKey c.src c.port c.tc
      let fl := s.flowOf key
      let d := idx16 c.seq fl.expect
      if d = 0 then
        let s1 := s.setFlow { fl with expect := (fl.expect + 1) % 65536 }
        (s1.admitCopy c (draws.headD 0)).releaseHeld key s.swc.copies.length draws.tail
      else if d < 32768 then s.putCopy { c with stage := 1 }
      else (s.count (Reg.SWC_PORT_RESEQ_LATE port)).refuseCopy c none

def execEgressAdmit (frame port : Nat) (draws : List Nat) (s : State) : Host.Outcome State Fault Refusal :=
  .next (egressAdmit frame port draws s)

/-- RESEQ_TIMEOUT (R280): the numbers below the lowest held one are lost. -/
def reseqTimeout (port src tc : Nat) (draws : List Nat) (s : State) : State :=
  let key := flowKey src port tc
  let fl := s.flowOf key
  let held := s.swc.copies.filter fun c => c.stage == 1 && flowKey c.src c.port c.tc == key
  match (held.map fun c => idx16 c.seq fl.expect).min? with
  | none => s
  | some d =>
    let s1 := (s.countBy (Reg.SWC_PORT_RESEQ_LOST port) d).eventIf (decide (0 < d)) 59
    (s1.setFlow { fl with expect := (fl.expect + d) % 65536 }).releaseHeld key held.length draws

def execReseqTimeout (port src tc : Nat) (draws : List Nat) (s : State) : Host.Outcome State Fault Refusal :=
  .next (reseqTimeout port src tc draws s)

/-- PLANE_ERROR (R281): a plane discards a frame; the second error within 1 s closes it, while the other is in service. -/
def planeError (plane frame : Nat) (s : State) : State :=
  if 1 < plane then s
  else
    let again := match findKey Prod.fst plane s.swc.planeErr with
      | some (_, t) => decide (s.time < t + 1000000000 * nsUnit)
      | none => false
    let up := s.get Reg.SWC_PLANES_UP
    let close := again && up == 3
    let s1 := { s with swc := { s.swc with planeErr := setKey Prod.fst (plane, s.time) s.swc.planeErr } }
    let s2 := if close then s1.put Reg.SWC_PLANES_UP (up - 2 ^ plane) else s1
    let gone := s2.swc.copies.filter fun c => c.stage == 0 && c.plane == plane && c.frame == frame
    let s3 := gone.foldl (fun s c => s.refuseCopy c none) s2
    (s3.event 62).raiseAt 0x0703 2 plane (plane + if close then 2 else 0)

def execPlaneError (plane frame : Nat) (s : State) : Host.Outcome State Fault Refusal := .next (planeError plane frame s)

/-! ### Link-down hold and flushes (R285, R286) -/

/-- Every queued copy of a port is flushed; source 58. -/
def State.flushPort (s : State) (p : Nat) : State :=
  let gone := s.swc.copies.filter fun c => c.port == p && c.stage == 2
  let s1 := (s.put (Reg.SWC_PORT_EGR_HOLD p) 0).countBy (Reg.SWC_PORT_PORT_FLUSH_COUNT p) gone.length
  (gone.foldl (fun s c => s.releaseCopy c (some .aborted)) s1).event 58

/-- The frame in transmission on a port whose link goes down (R286); what the MAC would have sent after it does not leave. -/
def State.cutTransmission (s : State) (p : Nat) : State :=
  (s.swc.copies.filter fun c => c.port == p && c.stage == 3).foldl (fun s c =>
    (s.count (Reg.SWC_PORT_PORT_FLUSH_COUNT p)).releaseCopy c (some .aborted))
    { s with macs := { s.macs with ctl := s.macs.ctl.filter fun x => x.1 != p } }

/-- Link down of a port that was UP (R241, R285): the hold starts, or with LINK_HOLD = 0 its queues flush. -/
def State.linkHold (s : State) (p : Nat) : State :=
  let s1 := s.cutTransmission p
  if s1.get Reg.SWC_HOLD_LINK_HOLD = 0 then s1.flushPort p
  else (s1.put (Reg.SWC_PORT_EGR_HOLD p) 1).event 63

/-- A port stops operating (R286): its queues flush without a hold. -/
def State.stopQueues (s : State) (p : Nat) : State := (s.cutTransmission p).flushPort p

/-- LINK_HOLD_END (R285). -/
def linkHoldEnd (port : Nat) (s : State) : State :=
  if port < 12 && s.flag (Reg.SWC_PORT_EGR_HOLD port) then s.flushPort port else s

def execLinkHoldEnd (port : Nat) (s : State) : Host.Outcome State Fault Refusal := .next (linkHoldEnd port s)

/-! ### Injections on frames (R698, R699) -/

/-- The active frame injections that select a frame, in ascending ID; under EVERY by the count of matching frames, otherwise
where `luck` names them. The second state has the counts. -/
def State.injSelect (s : State) (tx : Bool) (port tc slice ring : Nat) (luck : List Nat) : State × List Injection :=
  let match' := fun (i : Injection) => i.active && !i.stop && decide (1 ≤ i.kind) && decide (i.kind ≤ 4) && i.target == port &&
    (i.flags % 2 == 1) == tx && (i.tcmask >>> tc) % 2 == 1 &&
    (port ≠ 12 || (i.slice == slice && (i.ring == 0xFFFF || i.ring == ring)))
  let inj := s.inj.map fun (i : Injection) => if match' i then { i with seen := i.seen + 1 } else i
  let hit := (inj.filter match').filter fun (i : Injection) =>
    if i.flags / 4 % 2 = 1 then i.n ≠ 0 && i.seen % i.n == 0 else luck.contains i.id
  ({ s with inj := inj }, (List.range 8).filterMap fun k => hit.find? fun i => i.id == k)

/-- An injection has affected a frame: counted, source 178 at its first, its end due at LIMIT. -/
def State.injHit (s : State) (id : Nat) : State :=
  let first := s.inj.any fun i => i.id == id && i.affected == 0
  let inj := s.inj.map fun (i : Injection) =>
    if i.id = id then { i with affected := i.affected + 1, stop := i.stop || (i.limit ≠ 0 && decide (i.limit ≤ i.affected + 1)) } else i
  ({ s with inj := inj }.countMod (Reg.FIJ_INJ_AFFECTED_COUNT id) 1).eventIf first 178

/-! ### Transmission (R199–R204, R243, R287) -/

/-- Bits per µs of a port. -/
def State.portMbps (s : State) (p : Nat) : Nat :=
  let c := s.get (Reg.MACP_CFG_SPEED p)
  if c = 0 then 1000 else if c = 1 then 10000 else if c = 4 then 10 else 25000

/-- The redundancy number of a frame on a port, where its pair numbered it (R243). -/
def redSeq (f : CoreFrame) (p : Nat) : Option Nat := if p < 8 then (findKey Prod.fst (p / 2) f.seqs).map Prod.snd else none

/-- Bytes of a copy on its port from the destination address to the FCS (R236, R255). -/
def State.macBytes (s : State) (f : CoreFrame) (p : Nat) : Nat :=
  max (f.len + (if (redSeq f p).isSome then 6 else 0) +
    (if p < 10 && s.flag (Reg.MACP_MACSEC_EN p) && !s.bypasses p f.eth then 32 else 0) + 4) 64

/-- Trailer or tag of a copy (R243): LanId A on the even port and B on the odd one, the LSDU with the six bytes that are added. -/
def State.redTag (s : State) (f : CoreFrame) (p : Nat) : Option RedTag :=
  (redSeq f p).map fun q => ⟨if s.pairMode p = 2 then 0x892F else 0x88FB, 10 + p % 2, f.len + 6 - (if f.tagged then 18 else 14), q⟩

/-- The transmit correction of a port's speed in tenths of a nanosecond (R198). -/
def State.txCorr (s : State) (p : Nat) : Nat :=
  let c := s.get (Reg.MACP_CFG_SPEED p)
  if c = 0 then 960 else if c = 1 then 352 else if c = 4 then 8000 else if s.flag (Reg.MACP_CFG_FEC p) then 1856 else 288

/-- Time of a copy on the wire in ns, preamble and gap included; none in the core's own ports. -/
def State.wireNs (s : State) (f : CoreFrame) (p : Nat) : Nat :=
  if 11 < p then 0 else ((s.macBytes f p + 20) * 8000 + s.portMbps p - 1) / s.portMbps p

/-- A 10BASE-T1S port waits after a collision (R249). -/
def State.backedOff (s : State) (p now : Nat) : Bool :=
  (findKey Prod.fst p s.macs.backoff).any fun x => decide (now < x.2)

/-- Whether a copy's class has its gate open and no PAUSE on an external port, for a frame that starts at an instant. -/
def State.mediumOpen (s : State) (c : CoreCopy) (f : CoreFrame) (now : Nat) : Bool :=
  s.egressTakes c.port f.eth && !s.peerPaused c.port c.tc now && !s.backedOff c.port now &&
    s.gateOpen c.port c.tc now (s.wireNs f c.port)

/-- Whether a frame's launch time and expiry let it start at an instant (R199, R201, R202): its SFD crosses the PCS boundary at L or
later, so it starts the transmit correction before L at the earliest; at the end of its launch window it may still start. -/
def State.launchDue (s : State) (f : CoreFrame) (p now : Nat) : Bool :=
  decide (10 * f.launch.getD 0 ≤ 10 * now + (if p < 12 then s.txCorr p else 0)) && (match s.expiryOf f p with
    | some (t, late) => if late then decide (now ≤ t) else decide (now < t)
    | none => true)

/-- Whether a transmission from an instant on would reach into the launch instant of another frame that waits on the port with its gate
open there; a frame whose own L is earlier is exempt (R200). -/
def State.blocksLaunch (s : State) (c : CoreCopy) (f : CoreFrame) (now : Nat) : Bool :=
  let p := c.port
  let x := 10 * now + s.txCorr p
  s.swc.copies.any fun o => o.port == p && o.stage == 2 && !(o.frame == c.frame) &&
    (match (s.coreFrame o.frame).bind CoreFrame.launch with
      | none => false
      | some lo => decide (x < 10 * lo) && decide (10 * lo < x + 10 * s.wireNs f p) && s.gateOpen p o.tc lo 0 &&
          !(f.launch.any fun l => decide (l < lo)))

/-- Whether a frame of a higher class with the same L may start on the port: it leaves first (R200). -/
def State.yieldsTo (s : State) (c : CoreCopy) (f : CoreFrame) (now : Nat) : Bool :=
  s.swc.copies.any fun o => o.port == c.port && o.stage == 2 && decide (c.tc < o.tc) &&
    (match s.coreFrame o.frame with
      | none => false
      | some g => g.launch.isSome && g.launch == f.launch && s.mediumOpen o g now)

/-- Whether a queued copy may start at an instant (R199–R204, R241, R253). -/
def State.mayStart (s : State) (c : CoreCopy) (now : Nat) : Bool :=
  match s.coreFrame c.frame with
  | none => false
  | some f =>
    let p := c.port
    let due := s.launchDue f p now
    if p = 12 then due && !(decide (c.tc < 4) && (s.swc.pfc >>> c.tc) % 2 == 1)
    else if 11 < p then due
    else due && s.mediumOpen c f now && !s.yieldsTo c f now && (decide (9 < p) || !s.blocksLaunch c f now)

/-- The first copy of a class that may start, in order of admission. -/
def State.firstOf (s : State) (p tc now : Nat) : Option CoreCopy :=
  (s.swc.copies.filter fun c => c.port == p && c.stage == 2 && c.tc == tc && s.mayStart c now).foldl
    (fun a c => match a with
      | none => some c
      | some b => if c.order < b.order then some c else a) none

/-- Deficit round robin over TC0–TC3 (R287): an empty class loses its deficit, a held class keeps it and gives up its turn. -/
def drrPick (quantum size : Nat → Nat) (ready queued : Nat → Bool) : Nat → Dwrr → Option (Nat × Dwrr)
  | 0, _ => none
  | k + 1, d =>
    let c := d.turn
    let nxt := { d with turn := (c + 1) % 4, credited := false }
    if !queued c then drrPick quantum size ready queued k { nxt with deficit := d.deficit.set c 0 }
    else if !ready c then drrPick quantum size ready queued k nxt
    else
      let have' := d.deficit.getD c 0 + if d.credited then 0 else quantum c
      if size c ≤ have' then some (c, { d with credited := true, deficit := d.deficit.set c (have' - size c) })
      else drrPick quantum size ready queued k { nxt with deficit := d.deficit.set c have' }

/-- The copy that a port sends next at an instant, with the scheduler's state. -/
def State.nextCopy (s : State) (p now : Nat) : Option (CoreCopy × State) :=
  match ([7, 6, 5, 4].filterMap fun tc => s.firstOf p tc now).head? with
  | some c => some (c, s)
  | none =>
    let first := fun c => s.firstOf p c now
    let size := fun c => (first c).elim 0 fun x => (s.coreFrame x.frame).elim 0 CoreFrame.len
    let d := (findKey Dwrr.port p s.swc.dwrr).getD { port := p }
    match drrPick (fun c => s.get (Reg.SWC_PORT_DWRR_W3 p) >>> (8 * c) % 256 * 1024) size (fun c => (first c).isSome)
        (fun c => s.swc.copies.any fun x => x.port == p && x.stage == 2 && x.tc == c) 64 d with
    | none => none
    | some (c, d1) => (first c).map fun x => (x, { s with swc := { s.swc with dwrr := setKey Dwrr.port d1 s.swc.dwrr } })

/-- Frames longer than every open window of their class are discarded at the head of their queue (R204). -/
def State.dropOversize (s : State) (p : Nat) : State :=
  if 11 < p then s
  else
    (List.range 8).foldl (fun s tc =>
      let q := (s.swc.copies.filter fun c => c.port == p && c.stage == 2 && c.tc == tc).foldl
        (fun (a : Option CoreCopy) c => match a with
          | none => some c
          | some b => if c.order < b.order then some c else a) none
      match q with
      | none => s
      | some c =>
        match s.coreFrame c.frame with
        | none => s
        | some f => if s.gclTooLong p tc (s.wireNs f p) then (s.count (Reg.TIM_PORT_GCL_OVERSIZE_COUNT p)).releaseCopy c none else s) s

/-- The frames that an injection holds back and that are due leave: delays that have passed by an instant, and reordered frames
of a port and class once another has passed (R699). Received frames that are due are given back. -/
def State.fijDue (s : State) (now : Nat) (passed : Option (Bool × Nat × Nat)) : State × List FijHeld :=
  let ready := fun (h : FijHeld) => (h.tx || h.core.isNone) && match h.due with
    | some t => decide (t ≤ now)
    | none => passed == some (h.tx, h.port, h.tc)
  let out := s.swc.fij.filter ready
  ({ s with swc := { s.swc with fij := s.swc.fij.filter fun h => !ready h } }, out)

/-- A TX ring frame enters the core for its PORT (R142, R243, R276, R277); the ring's record follows the core's number, or
completes with NORES where it finds no bead. -/
def State.txEnter (s : State) (f : CoreFrame) (port : Nat) : State :=
  let (mask, host) := if port = 0xFF then s.fdbLookup f.dst f.vid else (2 ^ port, none)
  let ports := s.egress 12 f.eth mask host (f.slice == 0)
  let (s1, seqs) := s.numberPairs ports
  let id := s1.swc.nextId
  let s2 := match f.tx.bind s1.ringOf with
    | some x => s1.setRing { x with taken := x.taken.map fun (t : TxTaken) => if t.frame = f.id then { t with frame := id } else t }
    | none => s1
  let (s3, got) := s2.coreEnter { f with seqs := seqs } ports
  match got, f.tx with
  | none, some r => { s3 with swc := { s3.swc with nextId := id + 1 } }.txComplete r id .nores none
  | _, _ => s3

/-- Held transmissions leave: onto the wire, or into the core. -/
def State.fijSend (s : State) (l : List FijHeld) : State :=
  l.foldl (fun s h => match h.out, h.core with
    | some w, _ => s.emit (.wire w)
    | none, some (f, p) => s.txEnter f p
    | none, none => s) s

/-- Bytes held in the memory of DELAY (R699). -/
def State.fijBytes (s : State) : Nat :=
  (s.swc.fij.map fun h => if h.due.isSome then (h.rx.elim 0 fun w => w.bytes.length) + (h.out.elim 0 WireTx.len) + (h.core.elim 0 fun c => c.1.len) else 0).sum

/-- What the injections do to a frame on its way out: none when it is removed, with whether it is held. -/
def State.injTx (s : State) (w : WireTx) (tc : Nat) (now : Nat) : List Injection → State × Option WireTx
  | [] => (s, some w)
  | i :: l =>
    if i.kind = 1 then (s.injHit i.id, none)
    else if i.kind = 2 then
      let s1 := s.injHit i.id
      let off := i.param % 65536
      State.injTx s1 (if off < w.len + 4 then { w with corrupt := some (off, i.param / 65536 % 256), refcs := i.flags / 2 % 2 == 1 } else w) tc now l
    else if i.kind = 4 && decide (1048576 < s.fijBytes + w.len) then State.injTx s w tc now l
    else
      let h : FijHeld := { id := i.id, port := w.port, tx := true, tc := tc, rx := none, out := some w,
                           due := if i.kind = 4 then some (now + 1000 * i.param) else none }
      let s1 := s.injHit i.id
      ({ s1 with swc := { s1.swc with fij := s1.swc.fij ++ [h] } }, none)

/-- A copy starts on its port (R197–R199, R699): the frame as it goes onto the wire, with the injections of the port. The stamp of a
PTP event message is moved to the connector by LAT_TX. -/
def State.txStart (s1 : State) (c : CoreCopy) (f : CoreFrame) (p now : Nat) (luck : List Nat) : State :=
  if 11 < p then s1.putCopy { c with stage := 3, start := s1.time }
  else
    let lat := if f.event then s1.get (Reg.TIM_PORT_LAT_TX_LAT p) * 65536 else 0
    let sfd := s1.time + s1.txCorr p * nsUnit / 10 + lat
    let w : WireTx := { port := p, frame := f.id, len := s1.macBytes f p - 4, eth := f.eth, dst := f.dst,
                        src := if 13 < f.src then some (s1.ownAddr p) else none, red := s1.redTag f p, sfd := sfd / nsUnit,
                        ptp := f.ring.map fun x => (sfd / 65536 : Nat) - x }
    let (s2, due) := s1.fijDue now none
    let (s3, sel) := (s2.fijSend due).injSelect true p c.tc f.slice 0xFFFF luck
    let (s4, out) := s3.injTx w c.tc now sel
    let dropped := sel.any fun i => i.kind == 1
    let s5 := match out with
      | some x => let (s', held) := (s4.emit (.wire x)).fijDue now (some (true, p, c.tc)); s'.fijSend held
      | none => s4
    if dropped then s5.releaseCopy c (some .aborted)
    else s5.putCopy { c with stage := 3, start := sfd }

/-- FRAME_TRANSMIT (R199, R287): at an instant (ns) an idle port starts the frame that the schedule names. -/
def frameTransmit (p now : Nat) (luck : List Nat) (s : State) : State :=
  if 16 < p || p = 12 || s.swc.copies.any (fun c => c.port == p && c.stage == 3) then s
  else
    let s0 := (s.advance (now * nsUnit)).dropOversize p
    match s0.nextCopy p now with
    | none => s0
    | some (c, s1) =>
      match s1.coreFrame c.frame with
      | none => s1
      | some f => s1.txStart c f p now luck

def execFrameTransmit (port now : Nat) (luck : List Nat) (s : State) : Host.Outcome State Fault Refusal :=
  .next (frameTransmit port now luck s)

/-- The window of MAC counters of a core port (R261): the internal ports share one. -/
def macWindow (p : Nat) : Nat := if p < 13 then p else 13

/-- FRAME_TX_DONE (R143, R252, R262): the last bit of the frame in transmission leaves the port. -/
def frameTxDone (p now : Nat) (s : State) : State :=
  match s.swc.copies.find? fun c => c.port == p && c.stage == 3 with
  | none => s
  | some c =>
    let s0 := s.advance (now * nsUnit)
    match s0.coreFrame c.frame with
    | none => s0.removeCopy c
    | some f =>
      let k := macWindow p
      let s1 := (s0.countMod (Reg.MACP_TX_FRAMES_COUNT k) 1).countMod (Reg.MACP_TX_OCTETS_COUNT k)
        (if p < 12 then s0.macBytes f p else f.len + 4)
      let s2 := { s1 with macs := { s1.macs with attempts := dropKey Prod.fst p s1.macs.attempts } }
      ((s2.setFrame { f with left := true, txts := some (c.start / nsUnit) }).releaseCopy c none).macFlush p

def execFrameTxDone (port now : Nat) (s : State) : Host.Outcome State Fault Refusal := .next (frameTxDone port now s)

/-! ### PFC requests (R288) -/

/-- PFC_REQUEST_CHANGE (R288): the request of a class follows the back-pressure of its RX rings; source 61. -/
def pfcRequestChange (tc : Nat) (s : State) : State :=
  if 3 < tc then s
  else
    let on := s.rings.any fun x => x.type == 1 && x.tc == tc && s.flag (Reg.HIF_RING_RSTAT_BP x.ring)
    let m := withBit s.swc.pfc tc on
    if m = s.swc.pfc then s
    else
      let s1 := { s with swc := { s.swc with pfc := m } }.event 61
      (List.range 8).foldl (fun s p =>
        let req := s.get (Reg.MACP_FC_MODE p) == 2 && (s.get (Reg.MACP_FC_PFC_GEN p) &&& m) ≠ 0
        (s.putFlag (Reg.SWC_PORT_EGR_PFC_REQ p) req).flowControl p) s1

def execPfcRequestChange (tc : Nat) (s : State) : Host.Outcome State Fault Refusal := .next (pfcRequestChange tc s)

/-! ### Bead audit (R289, R290) -/

/-- The counts of the audit: queued, in-flight; the rest is free (R269). -/
def State.beadCounts (s : State) : Nat × Nat :=
  let queued := s.swc.frames.filter fun f => s.swc.copies.any fun c => c.frame == f.id && decide (2 ≤ c.stage)
  let beads := fun (l : List CoreFrame) => (l.map fun f => f.res + f.shared).sum
  (beads queued, beads s.swc.frames - beads queued + s.swc.leaked.length)

/-- BEAD_AUDIT (R289, R290): `lost` are beads that an error has left without a reference since the last audit, `doubled` beads
found free and referenced at once. -/
def beadAudit (lost doubled : List Nat) (s : State) : State :=
  let s0 := { s with swc := { s.swc with leaked := s.swc.leaked ++ lost.map fun b => (b % 65536, 0) } }
  let (q, i) := s0.beadCounts
  let s1 := ((s0.put Reg.SWC_BEADS_FREE_COUNT (65536 - q - i)).put Reg.SWC_BEADS_QUEUED_COUNT q).put Reg.SWC_BEADS_INFLIGHT_COUNT i
  let again := s1.swc.leaked.filter fun x => x.2 ≠ 0
  let left := (s1.swc.leaked.filter fun x => x.2 = 0).map fun (x : Nat × Nat) => (x.1, 1)
  let run := if again.isEmpty then s1.swc.cleanRun + 1 else 0
  let s2 := { s1 with swc := { s1.swc with leaked := left, cleanRun := run } }
  let s3 := again.foldl (fun s x =>
    ((((s.count Reg.SWC_AUDIT_LEAK_CNT).put Reg.SWC_LAST_LEAK_BEAD x.1).event 56).raise1 0x0701 1 x.1).count Reg.TLY_REPAIRS_BEAD
      |>.event 174) s2
  let s4 := doubled.foldl (fun s b => (((s.count Reg.SWC_AUDIT_DOUBLE).event 57).raise1 0x0702 2 (b % 65536))) s3
  if 1000 ≤ run then s4.clearFault 0x0701 0 else s4

def execBeadAudit (lost doubled : List Nat) (s : State) : Host.Outcome State Fault Refusal := .next (beadAudit lost doubled s)

/-! ### Forwarding table (R278) -/

/-- The entry that the staging registers hold. -/
def State.fdbStaged (s : State) : Nat × Nat × Nat :=
  ((s.rd 0x70104).toNat, (s.rd 0x70108).toNat, (s.rd 0x7010C).toNat)

/-- FDB_INSTALL (R278): a key valid at another index is rejected with reason 1. -/
def fdbInstall (index : Nat) (s : State) : State :=
  let i := index % 4096
  let (lo, hi, dest) := s.fdbStaged
  let valid := hi / 2 ^ 31 % 2 == 1
  if s.st = stBoot then s.reject 7 0x100 3
  else if valid && s.swc.fdb.any fun e => e.1 ≠ i && e.2.1 == lo && e.2.2.1 == hi then s.reject 7 0x100 1
  else { s with swc := { s.swc with fdb := setKey Prod.fst (i, lo, hi, dest) s.swc.fdb } }.clearFault 0x0705 i

def execFdbInstall (index : Nat) (s : State) : Host.Outcome State Fault Refusal := .next (fdbInstall index s)

/-- FDB_READ (R278). -/
def fdbRead (index : Nat) (s : State) : State :=
  if s.st = stBoot then s.reject 7 0x100 3
  else
    let (lo, hi, dest) := match findKey Prod.fst (index % 4096) s.swc.fdb with
      | some (_, a, b, c) => (a, b, c)
      | none => (0, 0, 0)
    ((s.put Reg.SWC_FDB_KEY_LO_ADDR lo).wr 0x70108 (BitVec.ofNat 32 hi)).wr 0x7010C (BitVec.ofNat 32 dest)

def execFdbRead (index : Nat) (s : State) : Host.Outcome State Fault Refusal := .next (fdbRead index s)

end Sys2Proof.Machine
end

