-- ==== Sys2Proof/Machine/Publish.lean ====
section
/-! DEFINITION. The publisher: encoding of members, GOOSE control blocks and their sequences, direct outputs, the safe
forms, own SV frames, and the release of frames (R317–R320, R460–R476). -/

namespace Sys2Proof.Machine

/-! ### Encoding of members (R464) -/

/-- The FLOAT32 of num / den rounded to nearest, ties to even; den is positive (R464). -/
def float32Of (num : Int) (den : Nat) : Nat :=
  let a := num.natAbs
  if a = 0 then 0
  else
    let e0 : Int := (Nat.log2 a : Int) - (Nat.log2 den : Int)
    let scale := fun (e : Int) => (a * 2 ^ e.toNat, den * 2 ^ (-e).toNat)
    let (x, y) := scale (-e0)
    let e : Int := if x < y then e0 - 1 else e0
    let (p, q) := scale (23 - e)
    let m := p / q
    let r := p % q
    let m1 := if q < 2 * r || (2 * r = q && m % 2 = 1) then m + 1 else m
    let (m2, e2) := if m1 = 2 ^ 24 then (2 ^ 23, e + 1) else (m1, e)
    (if num < 0 then 2 ^ 31 else 0) + (e2 + 127).toNat * 2 ^ 23 + (m2 - 2 ^ 23)

/-- The FLOAT32 of a value word of a kind (R464): n fraction bits, or degrees for kind A. -/
def floatMember (kind : Nat) (v : Int) : Nat :=
  if kind = 3 then float32Of (v * 180) (2 ^ 31)
  else if kind = 0 || kind = 2 then float32Of v (2 ^ 24)
  else if kind = 4 then float32Of v (2 ^ 16)
  else float32Of v 1

/-- Content bytes of a BER INTEGER in the fewest bytes (IEC 61850-8-1, PRESUMED, assumption 13). -/
def berInt (v : Int) : List Nat :=
  let n := if -128 ≤ v && v < 128 then 1 else if -32768 ≤ v && v < 32768 then 2 else if -8388608 ≤ v && v < 8388608 then 3 else 4
  (le n (unsigned (8 * n) v)).reverse

/-- The Data element of a member (R464). `test` is the control block's TEST. -/
def encodeMember (test : Bool) (m : Member) : List Nat :=
  let v := signed 32 m.value
  if m.type = 0 then [0x83, 1, m.value % 2 * 0xFF]
  else if m.type = 1 then [0x84, 2, 6, (if 0 ≤ v && v ≤ 3 then m.value % 4 else 3) * 64]
  else if m.type = 2 then let b := berInt v; 0x85 :: b.length :: b
  else if m.type = 3 then [0x87, 5, 8] ++ (le 4 (floatMember m.kind v)).reverse
  else [0x84, 3, 3, (if m.value % 2 = 1 || !m.live then 0x40 else 0), (if m.subst then 0x20 else 0) + (if test then 0x10 else 0)]

/-- A BER length in the fewest bytes (IEC 61850-8-1, PRESUMED, assumption 13). -/
def berLen (n : Nat) : List Nat := if n < 128 then [n] else if n < 256 then [0x81, n] else [0x82, n / 256 % 256, n % 256]

/-- The encoded allData of a control block: context tag 11, its length and its members (assumption 13). -/
def encodeAll (test : Bool) (ms : List Member) : List Nat :=
  let l := ms.foldr (fun m a => encodeMember test m ++ a) []
  0xAB :: berLen l.length ++ l

/-! ### Control-block words (R465) -/

def gcbEn (w : List Nat) : Bool := w.getD 1 0 / 2 ^ 31 % 2 == 1
def gcbSlice (w : List Nat) : Nat := w.getD 2 0 / 256 % 256
def gcbMembers (w : List Nat) : Nat := w.getD 2 0 % 128
def gcbTmax (w : List Nat) : Nat := w.getD 4 0 / 65536
def gcbTmin (w : List Nat) : Nat := w.getD 4 0 % 65536
def gcbAuth (w : List Nat) : Bool := w.getD 5 0 / 2 ^ 11 % 2 == 1
def gcbTest (w : List Nat) : Bool := w.getD 5 0 / 2 ^ 10 % 2 == 1
def gcbKey (w : List Nat) : Nat := w.getD 5 0 % 1024
def gcbTplLen (w : List Nat) : Nat := w.getD 6 0 % 512

/-! ### Sources of a target (R461, R463) -/

/-- The entry of a slot that routes a target, with the slot. -/
def routeOf (slots : List Slot) (dest target : Nat) : Option (Slot × OutEntry) :=
  (slots.filterMap fun x =>
    if routes x then (x.img.outMap.find? fun o => o.dest == dest && o.target == target).map fun o => (x, o) else none).head?

/-- The raw value an entry takes from a voted record: a bit, or a value word. -/
def entryValue (o : OutEntry) (rec : List Nat) : Nat :=
  if o.src = 0 then rec.getD 1 0 >>> o.idx % 2 else rec.getD (2 + o.idx) 0

/-- Whether a slot is bound to a forced CLE output bit (R469). -/
def boundForced (forces : List (Nat × Bool)) (x : Slot) : Bool :=
  x.img.bindings.any fun b => b.1 == 3 && forces.any fun f => f.1 == 2 ^ 20 + b.2

/-- A member at a decision (R461, R463, R469): `parts` holds the voted records by slot. -/
def stepMember (slots : List Slot) (parts : List (Nat × List Nat)) (forces : List (Nat × Bool)) (block : Nat) (m : Member) :
    Member :=
  match routeOf slots 1 (block * 64 + m.idx) with
  | none => { m with value := 0, live := false, subst := false }
  | some (x, o) =>
    let sub := boundForced forces x
    match findKey Prod.fst x.slot parts with
    | some (_, rec) =>
      if x.state = slRunning then
        { m with type := o.type, kind := o.kind, value := entryValue o rec, live := true, subst := sub }
      else { m with type := o.type, kind := o.kind, live := false, subst := sub }
    | none => { m with type := o.type, kind := o.kind, live := false, subst := sub }

/-! ### Frames (R460, R466) -/

/-- Whether a slice's custody token lets the module publish at tick n (R181, R183, R454): its entry is HELD or RECLAIMED
with its gate not shut, or a handover keeps its gate open up to a tick. -/
def State.tokenOpen (s : State) (slice n : Nat) : Bool :=
  (s.ho.openTo.any fun x => x.1 == slice && decide (n < x.2)) ||
  (match findKey TokenEntry.dsid (s.get (Reg.SLC_SLICE_DSID_DSID slice)) s.per.ledger with
    | none => false
    | some e => (e.status == 1 || e.status == 4) && !s.ho.shut.contains slice)

/-- TimeQuality (R466): LeapSecondsKnown, ClockFailure in FREE_RUN and RTC_SEEDED, ClockNotSynchronized outside LOCKED,
accuracy 20. -/
def State.timeQuality (s : State) : Nat :=
  let c := s.get Reg.TIM_STATUS_CLASS
  0x80 + (if c = clsFreeRun || c = clsSeeded then 0x40 else 0) + (if c = clsLocked then 0 else 0x20) + 20

/-- The header of a control block's frames (R466). -/
def gooseHead (g : Gcb) : PubHead :=
  let w := fun i => g.words.getD i 0
  { dst := w 0 + w 1 % 2 ^ 16 * 2 ^ 32, vid := w 1 / 2 ^ 16 % 2 ^ 12, pcp := w 1 / 2 ^ 28 % 8, appid := w 2 / 2 ^ 16, confRev := w 3,
    name := ((g.tpl.map (le 4)).flatten).take (gcbTplLen g.words), entries := gcbMembers g.words, test := gcbTest g.words,
    tag := if gcbAuth g.words then some (w 5 / 2 ^ 12 % 2) else none }

/-- A frame waits for its release, earliest first. -/
def insertFrame (f : PubFrame) : List PubFrame → List PubFrame
  | [] => [f]
  | g :: l => if f.release < g.release then f :: g :: l else g :: insertFrame f l

def State.enqueue (s : State) (f : PubFrame) : State := { s with pub := { s.pub with frames := insertFrame f s.pub.frames } }

/-- The seconds by which TAI is ahead of UTC (RTC.UTC_OFFSET.OFFSET). -/
def State.toUtc (s : State) (ns : Nat) : Int := (ns : Int) - s.getS Reg.RTC_UTC_OFFSET_OFFSET * 1000000000

/-- The frame of a control block is built and handed over (R466); with an unusable tag key it is dropped (0x0C02). -/
def State.buildGoose (s : State) (g : Gcb) (launch dn : Nat) (data : List Nat) : State :=
  let ok := !gcbAuth g.words || s.keyUsable (gcbKey g.words) (gcbSlice g.words) 2
  if ok then
    let s1 := if gcbAuth g.words then s.clearFault 0x0C02 g.idx else s
    s1.enqueue { src := g.idx, st := g.st, sq := g.sq, launch := launch, release := max dn (launch - 2000),
                 tal := 2 * g.interval / 1000, t := g.tChange, timeq := s.timeQuality, data := data, slice := gcbSlice g.words,
                 head := gooseHead g }
  else ((((s.keyRefused false).count Reg.PUB_TAG_FAIL_COUNT).event 100).raise 0x0C02 2 g.idx 0xFFFF g.idx)

def State.setGcb (s : State) (g : Gcb) : State := { s with pub := { s.pub with gcbs := setKey Gcb.idx g s.pub.gcbs } }

/-- A change of a control block at d_n (ns) (R467): new stNum, schedule from TMIN; a retransmission whose N lies at or after
d_n is replaced. -/
def State.gooseChange (s : State) (g : Gcb) (dn crc : Nat) (data : List Nat) : State :=
  let wrap := g.st == 2 ^ 32 - 1
  let launch := dn + 1000 * s.get Reg.PUB_CFG_LAUNCH_OFFSET
  let iv := gcbTmin g.words * 1000
  let g1 := { g with st := if wrap then 1 else g.st + 1, sq := 0, interval := iv, next := launch + iv * 1000, crc := crc,
                     tChange := s.toUtc dn, fresh := false }
  let s1 := { s with pub := { s.pub with
    frames := s.pub.frames.filter fun (f : PubFrame) => !(f.src == g.idx && decide (dn ≤ f.launch)) } }
  ((s1.setGcb g1).eventIf wrap 101 |>.event 96).buildGoose g1 launch dn data

/-- GOOSE_RETRANSMIT (R467): N is reached without a change; the frame with the next sqNum is built 2 µs before its launch
(assumption 14), and the interval doubles up to TMAX. -/
def gooseRetransmit (block : Nat) (s : State) : State :=
  match findKey Gcb.idx block s.pub.gcbs with
  | none => s
  | some g =>
    if s.mainAbsent || !s.flag Reg.PUB_CTRL_EN || !gcbEn g.words || g.fresh || g.st = 0 then s
    else
      let s1 := s.advance ((g.next - 2000) * nsUnit)
      let iv := min (2 * g.interval) (gcbTmax g.words * 1000)
      let g1 := { g with sq := if g.sq = 2 ^ 32 - 1 then 1 else g.sq + 1, interval := iv, next := g.next + iv * 1000 }
      (s1.setGcb g1).buildGoose g1 g.next 0 (encodeAll (gcbTest g.words) g.members)

def execGooseRetransmit (block : Nat) (s : State) : Host.Outcome State Fault Refusal := .next (gooseRetransmit block s)

/-! ### Decisions (R461, R467, R470) -/

/-- Whether forcing marks qualities substituted (R469). -/
def State.substForces (s : State) : List (Nat × Bool) := if s.st = stService then s.cle.forces else []

/-- A control block at decision n. -/
def State.decideGcb (s : State) (parts : List (Nat × List Nat)) (dn : Nat) (g : Gcb) : State :=
  if !gcbEn g.words then s
  else
    let ms := g.members.map (stepMember s.slots parts s.substForces g.idx)
    let sub := (g.members.zip ms).any fun x => (x.1.subst && x.1.type == 4) != (x.2.subst && x.2.type == 4)
    let g1 := { g with members := ms }
    let data := encodeAll (gcbTest g.words) ms
    let crc := crc32c data
    let s1 := (s.setGcb g1).eventIf sub 102
    if g.fresh || crc ≠ g.crc then s1.gooseChange g1 dn crc data else s1

/-- The level of DO i at a decision: the slot that routes it, or its CLE bit; a source that does not run keeps the level, and
a quarantined slot gives the safe form of DO_CFG (R470, R472, R473). -/
def State.doLevel (s : State) (parts : List (Nat × List Nat)) (stream : List Nat) (old i : Nat) : Nat :=
  let keep := old >>> i % 2
  if s.getA (Reg.PUB_DO_CFG_SRC i) = 1 then
    let b := s.getA (Reg.PUB_DO_CFG_CLEBIT i)
    if s.cle.prog.isNone || s.get Reg.CLE_STATUS_STATE = 2 then keep else stream.getD (4 + b / 32) 0 >>> (b % 32) % 2
  else
    match routeOf s.slots 0 i with
    | none => keep
    | some (x, o) =>
      if s.pub.safeSlots.contains x.slot then
        let f := s.getA (Reg.PUB_DO_CFG_SAFE i)
        if f = 1 then 0 else if f = 2 then 1 else keep
      else if x.state = slRunning then (match findKey Prod.fst x.slot parts with
        | some (_, rec) => entryValue o rec
        | none => keep)
      else keep

/-- The levels go out with a strobe (R94, R470). -/
def State.strobe (s : State) (levels : Nat) : State :=
  ({ s with pub := { s.pub with driven := levels } }.emit (.strobe levels)).count Reg.PUB_STROBES_COUNT

/-- Decision n of a decided tick (R461, R467, R470). -/
def State.issue (s : State) (n : Nat) (x : Settled) : State :=
  let dn := s.decisionInstant n / nsUnit
  let parts := slotParts (s.cle.prog.elim 0 CleImage.wq) x.layout x.stream
  let old := s.get Reg.PUB_STATUS_DO_LEVEL
  let levels := ((List.range 8).map fun i => s.doLevel parts x.stream old i * 2 ^ i).sum
  let s1 := s.put Reg.PUB_STATUS_DO_LEVEL levels
  let s2 := s1.pub.gcbs.foldl (fun s g => s.decideGcb parts dn g) s1
  if s2.pair.gateOpen then s2.strobe levels else s2

/-- The safe form at a boundary (R472): every DO at its safe level with a strobe; the first safe frame of every control block
is a change with every Quality invalid, and the schedule goes on after it. -/
def State.issueSafe (s : State) (n : Nat) : State :=
  let dn := s.decisionInstant n / nsUnit
  let old := s.get Reg.PUB_STATUS_DO_LEVEL
  let levels := ((List.range 8).map fun i =>
    let f := s.getA (Reg.PUB_DO_CFG_SAFE i)
    (if f = 1 then 0 else if f = 2 then 1 else old >>> i % 2) * 2 ^ i).sum
  let s1 := if s.pub.safeSent then s
    else s.pub.gcbs.foldl (fun s g =>
      if !gcbEn g.words then s
      else
        let g1 := { g with members := g.members.map fun m => { m with live := false } }
        let data := encodeAll (gcbTest g.words) g1.members
        s.gooseChange g1 dn (crc32c data) data) { s with pub := { s.pub with safeSent := true } }
  s1.strobe levels

/-- What the publisher does with decision n at R27 step 2: nothing while it is disabled; the safe form, nothing else in SAFE
(R114); a decided tick's outputs; a missed decision gives no strobe and no change. -/
def State.publish (s : State) (n : Nat) : State :=
  if !s.flag Reg.PUB_CTRL_EN then s
  else if s.pub.safeForm && s.pair.gateOpen then s.issueSafe n
  else if s.st = stSafe then s
  else
    match s.core.settled with
    | some x => if x.tick = n && x.decided then s.issue n x else s
    | none => s

/-- PUBCRC (R468). -/
def State.pubCrc (s : State) : Nat :=
  crc32c ((s.pub.gcbs.filter fun g => gcbEn g.words).foldr (fun g a =>
    le 2 g.idx ++ le 2 0 ++ le 4 g.st ++ le 4 g.sq ++ le 4 g.interval ++ le 8 g.next ++ le 4 g.crc ++ le 4 0 ++ a)
    [s.get Reg.PUB_STATUS_DO_LEVEL])

/-! ### Read-back of the contacts (R692) -/

/-- Lines that differ at d_n: two decision instants in a row raise 0x0006, 480 without a difference clear it. -/
def State.doReadback (s : State) (lines : Nat) : State :=
  let l := lines % 512
  if l = 0 then
    let k := min (s.pub.goodRun + 1) 480
    let s1 := { s with pub := { s.pub with badLines := 0, goodRun := k } }
    if k = 480 then s1.clearFault 0x0006 0 else s1
  else
    let twice := s.pub.badLines ≠ 0
    let s1 := { s with pub := { s.pub with badLines := l, goodRun := 0 } }
    if twice then s1.raise1 0x0006 3 l else s1

/-! ### Own SV streams (R317–R320) -/

/-- smpSynch of an own stream (R318). -/
def State.smpSynch (s : State) : Nat :=
  let c := s.get Reg.TIM_STATUS_CLASS
  if c = clsLocked || c = clsHoldover then 2 else 0

/-- The ASDU of tick t: smpCnt, smpSynch, then value and quality per channel (R317, R318). -/
def State.ownAsdu (s : State) (k nch t : Nat) (xs : List (Int × Bool)) : List Nat :=
  let test := if s.getA (Reg.SVI_OWN_CTRL_TEST k) = 1 then 2 ^ 11 else 0
  let map := s.getA (Reg.SVI_OWN_MAP_MAP k)
  [t % s.tg.f, s.smpSynch] ++ ((List.range nch).map fun c =>
    let (v, bad) := xs.getD (map >>> (4 * c) % 16) (0, true)
    [unsigned 32 v, (if bad then 1 + 2 ^ 6 else 0) + test]).flatten

/-- The header of an own stream's frames (R318): svID up to the first zero byte. -/
def State.ownHead (s : State) (k : Nat) : PubHead :=
  { dst := s.getA (Reg.SVI_OWN_DST_LO_ADDR k) + s.getA (Reg.SVI_OWN_DST_HI_ADDR k) * 2 ^ 32, vid := s.getA (Reg.SVI_OWN_DST_HI_VID k),
    pcp := s.getA (Reg.SVI_OWN_DST_HI_PCP k), appid := s.getA (Reg.SVI_OWN_CTRL_APPID k), confRev := s.getA (Reg.SVI_OWN_CONFREV_REV k),
    name := (((List.range 8).map fun i => le 4 (s.getA (Reg.SVI_OWN_SVID_BYTES k i))).flatten).takeWhile (fun b => decide (b ≠ 0)),
    entries := s.getA (Reg.SVI_OWN_CTRL_NOASDU k), test := s.getA (Reg.SVI_OWN_CTRL_TEST k) == 1,
    tag := if s.getA (Reg.SVI_OWN_CTRL_AUTH k) = 1 then some (s.getA (Reg.SVI_OWN_CTRL_ALG k)) else none }

/-- The first tick of the latest group of NOASDU ticks that has all its samples. -/
def ownGroup (f no last : Nat) : Nat := let e := last + 1; e - e % f % no - no

/-- The frame of an own stream for the latest complete group up to tick `last` (R318, R319). -/
def State.ownFrame (s : State) (k last : Nat) : PubFrame :=
  let no := s.getA (Reg.SVI_OWN_CTRL_NOASDU k)
  let nch := s.getA (Reg.SVI_OWN_CTRL_NCH k)
  let a := ownGroup s.tg.f no last
  let data := ((List.range no).map fun j =>
    s.ownAsdu k nch (a + j) ((findKey Prod.fst (a + j) s.mod.fine).elim [] Prod.snd)).flatten
  let launch := (a + no - 1) * 1000000000 / s.tg.f + 1000 * s.getA (Reg.SVI_OWN_LAUNCH_US k)
  { src := 0x1000 + k, st := a, sq := 0, launch := launch, release := max s.ns (launch - 2000), tal := 0, t := 0,
    timeq := 0, data := data, slice := 0, nch := nch, head := s.ownHead k }

/-- OWN_SV_BUILD (R318, R319): the frame of the latest complete group waits for its release 2 µs before its launch. A tag key
that is not usable drops the frame (R638). -/
def ownSvBuild (k : Nat) (s : State) : State :=
  if s.mainAbsent || decide (3 < k) || s.getA (Reg.SVI_OWN_CTRL_EN k) ≠ 1 || !s.tg.running then s
  else
    let no := s.getA (Reg.SVI_OWN_CTRL_NOASDU k)
    match s.mod.fine with
    | [] => s
    | (last, _) :: _ =>
      if last + 1 < no || no = 0 then s
      else
        let auth := s.getA (Reg.SVI_OWN_CTRL_AUTH k) = 1
        if !auth || s.keyUsable (s.getA (Reg.SVI_OWN_KEY_KEYSLOT k)) 0 1 then s.enqueue (s.ownFrame k last) else s.keyRefused false

def execOwnSvBuild (stream : Nat) (s : State) : Host.Outcome State Fault Refusal := .next (ownSvBuild stream s)

/-- The inconsistent bit (R320) in the channels of the first ASDU. -/
def markFirst (nch : Nat) (data : List Nat) : List Nat :=
  (List.range nch).foldl (fun l c => let i := 3 + 2 * c; l.set i (l.getD i 0 ||| 2 ^ 8)) data

/-! ### The release instant (R460) -/

/-- A released frame enters the switch core from port 14 with its length L (R273, R276, R284). -/
def State.pubCore (s : State) (f : PubFrame) (len : Nat) : State :=
  let own := decide (0x1000 ≤ f.src)
  let dst := f.head.dst
  let vid := f.head.vid
  let eth := if own then 0x88BA else 0x88B8
  let (mask, host) := s.fdbLookup dst vid
  let ports := s.egress 14 eth mask host true
  if !s.flag Reg.SWC_CTRL_EN then s
  else
    let (s1, seqs) := s.numberPairs ports
    (s1.coreEnter { id := 0, src := 14, tc := if own then 6 else 5, len := len, eth := eth, dst := dst, vid := vid, stamp := s.ns,
                    tagged := vid ≠ 0, launch := some f.launch, pub := some f.src, slice := host.getD 0, seqs := seqs } ports).1

/-- The samples of an ASDU as the intake decodes them: n pairs of value and quality. -/
def pairSamples : Nat → List Nat → List (Int × Nat)
  | 0, _ => []
  | n + 1, v :: q :: l => (signed 32 v, q) :: pairSamples n l
  | _ + 1, _ => []

/-- An own frame as the module's intake receives it back, stamped with its launch time (R319); its tag is the module's own. -/
def loopFrame (f : PubFrame) : SvFrame :=
  let size := 2 + 2 * f.nch
  { stamp := f.launch * nsUnit, dup := false, dst := f.head.dst, vid := f.head.vid, appid := f.head.appid, sim := false, decodes := true,
    noAsdu := f.head.entries,
    asdus := (List.range f.head.entries).map fun j =>
      let l := f.data.drop (j * size)
      { svid := f.head.name, smpCnt := l.head?, confRev := f.head.confRev, smpSynch := l.getD 1 0, seqLen := 8 * f.nch,
        data := pairSamples f.nch (l.drop 2) },
    tagOk := f.head.tag.isSome }

/-- PUBLISH_RELEASE (R460, R319, R320, R472): the permit is checked once; an open gate, and for a control block the token,
pass the frame to core port 14 (an own SV frame to the module's own intake too), else it is counted as gated; `len` is the frame's length L. The decision whose frames leave is the one
before the next boundary (R181). -/
def publishRelease (len : Nat) (s : State) : State :=
  match s.pub.frames with
  | [] => s
  | f :: l =>
    if s.mainAbsent then s
    else
    let s1 := { s.advance (f.release * nsUnit) with pub := { s.pub with frames := l } }
    if 0x1000 ≤ f.src then
      let k := f.src - 0x1000
      if s1.pair.gateOpen && !s1.pair.safeMode then
        let mark := s1.svi.ownMark.contains k
        let g := if mark then { f with data := markFirst f.nch f.data } else f
        let s2 := { s1 with svi := { s1.svi with ownMark := s1.svi.ownMark.filter fun x => x ≠ k } }
        ((((s2.eventIf mark 71).count (Reg.SVI_OWN_SENT_COUNT k)).emit (.frame g)).pubCore g len).svTake (loopFrame g)
      else s1.count (Reg.SVI_OWN_GATED_COUNT k)
    else if s1.pair.gateOpen && s1.tokenOpen f.slice (s1.tg.next - 1) then
      ((s1.count Reg.PUB_GOOSE_SENT_COUNT).emit (.frame f)).pubCore f len
    else s1.count Reg.PUB_GOOSE_GATED_COUNT

def execPublishRelease (len : Nat) (s : State) : Host.Outcome State Fault Refusal := .next (publishRelease len s)

/-! ### Installs (R465) -/

/-- The staged words and template. -/
def State.gcbStaged (s : State) : List Nat × List Nat :=
  ((List.range 8).map fun w => s.get (Reg.PUB_GCB_W_WORD w), (List.range 96).map fun w => s.get (Reg.PUB_GCB_TPL_BYTES w))

/-- The words of a control block as they stand after the installs that wait. -/
def State.gcbWords (s : State) (b : Nat) : List Nat :=
  match (s.pub.gcbPend.filter fun (p : Nat × List Nat × List Nat) => p.1 == b).getLast? with
  | some p => p.2.1
  | none => (findKey Gcb.idx b s.pub.gcbs).elim [] Gcb.words

/-- Whether a slot routes to a member of block b at or above m (R463). -/
def State.routedFrom (s : State) (b m : Nat) : Bool :=
  s.slots.any fun x => routes x && x.img.outMap.any fun o => o.dest == 1 && o.target / 64 == b && decide (m ≤ o.target % 64)

/-- The refusals of an install other than the quota (R465). -/
def State.gcbBad (s : State) (b : Nat) (w : List Nat) : Bool :=
  let sl := gcbSlice w
  let en := gcbEn w
  decide (511 < b) || decide (gcbMembers w < 1) || decide (64 < gcbMembers w) || decide (gcbTmax w < 1) ||
  decide (60000 < gcbTmax w) || decide (gcbTmin w < 1) || decide (1000 < gcbTmin w) || decide (gcbTmax w < gcbTmin w) ||
  decide (gcbTplLen w < 3) || decide (384 < gcbTplLen w) || w.getD 7 0 ≠ 0 ||
  !(s.sliceValid sl && s.isProt sl) || (gcbAuth w && !s.keyOwn (gcbKey w) sl) ||
  (!en && s.routedFrom b 0) || s.routedFrom b (gcbMembers w)

/-- GCB_INSTALL (R465): checked at the write, in force from the next boundary; refused with reason 1, with source 184 where
only the quota fails. -/
def gcbInstall (b : Nat) (s : State) : State :=
  let (w, tpl) := s.gcbStaged
  let sl := gcbSlice w
  let others := ((List.range 512).filter fun k => k ≠ b && gcbEn (s.gcbWords k) && gcbSlice (s.gcbWords k) == sl).length
  if s.st = stBoot then s.reject 12 0x34 3
  else if s.gcbBad b w then s.reject 12 0x34 1
  else if gcbEn w && decide (s.get (Reg.SLC_SLICE_QB_GOCB sl) < others + 1) then (s.event 184).reject 12 0x34 1
  else { s with pub := { s.pub with gcbPend := s.pub.gcbPend ++ [(b, w, tpl)] } }

def execGcbInstall (index : Nat) (s : State) : Host.Outcome State Fault Refusal := .next (gcbInstall index s)

/-- GCB_READ (R465): block b with its stNum and sqNum goes to the staging registers. -/
def gcbRead (b : Nat) (s : State) : State :=
  if s.st = stBoot then s.reject 12 0x34 3
  else if 511 < b then s.reject 12 0x34 1
  else
    let g := (findKey Gcb.idx b s.pub.gcbs).getD { idx := b, words := [], tpl := [] }
    let s1 := (List.range 8).foldl (fun s w => s.put (Reg.PUB_GCB_W_WORD w) (g.words.getD w 0)) s
    let s2 := (List.range 96).foldl (fun s w => s.put (Reg.PUB_GCB_TPL_BYTES w) (g.tpl.getD w 0)) s1
    (s2.put Reg.PUB_GCB_ST_STNUM g.st).put Reg.PUB_GCB_SQ_SQNUM g.sq

def execGcbRead (index : Nat) (s : State) : Host.Outcome State Fault Refusal := .next (gcbRead index s)

/-- An install takes effect (R465, R467): an install over an enabled block keeps stNum; source 103. -/
def applyGcb (l : List Gcb) (p : Nat × List Nat × List Nat) : List Gcb :=
  let old := findKey Gcb.idx p.1 l
  let keep := match old with
    | some g => if gcbEn g.words then g.st else 0
    | none => 0
  setKey Gcb.idx { idx := p.1, words := p.2.1, tpl := p.2.2, st := keep,
                   members := (List.range (gcbMembers p.2.1)).map fun i => ({ idx := i } : Member) } l

/-- The installs that wait take effect at a boundary; the use of QB.GOCB follows. -/
def State.applyGcbs (s : State) : State :=
  if s.pub.gcbPend.isEmpty then s
  else
    let l := s.pub.gcbPend.foldl applyGcb s.pub.gcbs
    let touched := (s.pub.gcbPend.map fun p => gcbSlice p.2.1) ++ (s.pub.gcbs.map fun g => gcbSlice g.words)
    let s1 := { s with pub := { s.pub with gcbs := l, gcbPend := [] } }.event 103
    touched.foldl (fun s sl =>
      s.put (useOf (Reg.SLC_SLICE_QB_GOCB sl)) (l.filter fun g => gcbEn g.words && gcbSlice g.words == sl).length) s1

end Sys2Proof.Machine
end

