-- ==== Sys2Proof/Machine/Pair.lean ====
section
/-! DEFINITION. Pair control: HELLO and handshake, tick digests, resynchronisation, faults and tokens between the modules of
a pair (R424–R442, R454, R458, R459). -/

namespace Sys2Proof.Machine

/-- Codes of PAIR.STATUS.RESYNC (R457). -/
def rsIdle : Nat := 0
def rsRequested : Nat := 1
def rsCopying : Nat := 2
def rsJoin : Nat := 3
def rsDonor : Nat := 4
def rsWait : Nat := 5

/-- The code now, and whether a resynchronisation runs. -/
def State.rs (s : State) : Nat := s.get Reg.PAIR_STATUS_RESYNC
def State.resyncRuns (s : State) : Bool := decide (rsRequested ≤ s.rs) && decide (s.rs ≤ rsDonor)

/-- Health of the module, and whether it is F1 or better (R67). -/
def State.healthCode (s : State) : Nat := healthOf s.faults
def State.healthy (s : State) : Bool := decide (s.healthCode ≤ 1)

/-! ### The slot table (R430) -/

/-- The slot table as a list: computed slots with IMGID and active group, the CLE program digest, the tokens held, released
or reclaimed with DSID, STATUS and SERIAL. -/
def State.slotTable (s : State) : List Nat :=
  ((s.slots.filter fun x => x.state == slShadow || x.state == slRunning).map fun x =>
    [x.slot, s.get (Reg.ROD_SLOT_IMGID_ID x.slot), x.group]).flatten ++
  [s.cle.prog.elim 0 CleImage.digest] ++
  ((s.per.ledger.filter fun e => e.status == 1 || e.status == 2 || e.status == 4).map fun e => [e.dsid, e.status, e.serial]).flatten

/-- SLOTTAB: bytes 0–7 of the SHA-384 digest of the table (R429). -/
def State.slotTab (s : State) : Nat := Config.sha384 s.slotTable % 2 ^ 64

/-! ### READY (R436) -/

/-- The conditions of READY (R436). -/
def State.readyNow (s : State) : Bool :=
  s.flag Reg.PAIR_STATUS_PARTNER && decide (480 ≤ s.get Reg.PAIR_MATCH_MATCHED) && !s.resyncRuns &&
    s.pair.peerHello.any fun h => h.slotTab == s.slotTab

/-- READY follows its conditions; source 89 at a change; READY clears 0x0B04 and 0x0B05 (R459). -/
def State.refreshReady (s : State) : State :=
  let r := s.readyNow
  if r = s.flag Reg.PAIR_STATUS_READY then s
  else
    let s1 := (s.putFlag Reg.PAIR_STATUS_READY r).event 89
    if r then (s1.clearFault 0x0B04 0).clearFault 0x0B05 0 else s1

/-! ### Acceptance of messages (R425) -/

/-- The lanes on which a message was accepted within 2 ms (R457), as LANES shows them. -/
def State.liveLanes (s : State) : Nat :=
  let live := s.pair.lanesAt.filter fun x => decide (s.time ≤ x.2 + 2000000 * nsUnit)
  (((List.range 2).filter fun j => live.any fun x => x.1 == j).map fun j => 2 ^ j).sum
def State.refreshLanes (s : State) : State := s.put Reg.PAIR_STATUS_LANES s.liveLanes

/-- A message with a SEQ is accepted only above the last one accepted; the other lane's copy and older ones are discarded. -/
def State.pairAccept (s : State) (lane seq : Nat) : Option State :=
  if !s.ready || seq ≤ s.pair.seqIn then none
  else some ({ s with pair := { s.pair with
    seqIn := seq, lanesAt := setKey Prod.fst (lane, s.time) s.pair.lanesAt } }.refreshLanes)

/-- What an accepted message does; a discarded one does nothing. -/
def State.onAccept (s : State) (lane seq : Nat) (f : State → State) : State :=
  match s.pairAccept lane seq with
  | some s1 => f s1
  | none => s

/-! ### Resynchronisation: failure and request (R437, R441) -/

/-- A copy fails: 0x0B08, counted, source 92; the rods go on from the state they hold, and the wait of 1 s begins. -/
def State.resyncFail (s : State) (reason : Nat) : State :=
  let s1 := (s.put Reg.PAIR_STATUS_RESYNC rsWait).count Reg.PAIR_RESYNC_CNT_FAIL
  let s2 := { s1 with pair := { s1.pair with resyncAt := s1.time, copyLast := none, copyWords := [], copySeqs := [] } }
  ((s2.event 92).raise1 0x0B08 1 reason).refreshReady

/-- A request is sent; nothing new starts while a copy runs or during the wait (R437). -/
def State.resyncStart (s : State) : State :=
  if s.rs = rsIdle then ((s.put Reg.PAIR_STATUS_RESYNC rsRequested).pairSend s.tickNow .resyncReq).refreshReady else s

/-- The module acts in role A (R432). -/
def State.roleA (s : State) : Bool := if s.pair.role = 0 then s.get Reg.GLB_STRAPS_PAIR_POS == 0 else s.pair.role == 1

/-- ROLE_A as the register shows it. -/
def State.refreshRole (s : State) : State := s.putFlag Reg.PAIR_STATUS_ROLE_A s.roleA

/-! ### Tokens between the modules (R454, R707) -/

/-- The DSIDs of valid slices. -/
def State.dsids (s : State) : List Nat :=
  ((List.range 256).filter fun k => s.sliceValid k && s.isProt k).map fun k => s.get (Reg.SLC_SLICE_DSID_DSID k)

/-- The entry that a full ledger gives up (R707): the oldest of those PASSED or NOT_HELD of no valid slice. -/
def victim (keep : List Nat) : List TokenEntry → Option TokenEntry
  | [] => none
  | e :: l =>
    let r := victim keep l
    if (e.status = 3 || e.status = 5) && !keep.contains e.dsid then
      match r with
      | some x => if x.time < e.time then some x else some e
      | none => some e
    else r

/-- The ledger with an entry written (R707); none where it has no room. -/
def putLedger (keep : List Nat) (l : List TokenEntry) (e : TokenEntry) : Option (List TokenEntry) :=
  if l.any fun x => x.dsid == e.dsid then some (setKey TokenEntry.dsid e l)
  else if l.length < 256 then some (setKey TokenEntry.dsid e l)
  else match victim keep l with
    | some v => some (setKey TokenEntry.dsid e (dropKey TokenEntry.dsid v.dsid l))
    | none => none

/-- Whether a new entry finds room. -/
def State.ledgerRoom (s : State) (dsid : Nat) : Bool :=
  (putLedger s.dsids s.per.ledger ⟨dsid, 5, 0, 0, 0, 0⟩).isSome

/-- A TOKEN message for an entry, kept until it is acknowledged. -/
def State.sendToken (s : State) (e : TokenEntry) : State :=
  if s.flag Reg.PAIR_STATUS_PARTNER then
    let s1 := s.pairSend s.tickNow (.token e)
    { s1 with pair := { s1.pair with unacked := s1.pair.unacked ++ [(s1.pair.seqOut, e)] } }
  else s

/-- The module that holds custody, or role A where none does, sends every entry; the other notes what it receives. -/
def State.syncTokens (s : State) : State :=
  let mine := s.flag Reg.GLB_STATUS_HOLD
  let theirs := s.flag Reg.GLB_STATUS_PEER
  if mine || (!theirs && s.roleA) then s.per.ledger.foldl State.sendToken s
  else { s with ho := { s.ho with tokSync := some [] } }

/-! ### Handshake (R429–R433) -/

/-- FLAGS of HELLO and DIGEST (R429). -/
def State.pairFlags (s : State) : Nat :=
  (if s.flag Reg.GLB_STATUS_HOLD then 1 else 0) + (if s.pair.safeMode then 2 else 0) + 4 * s.get Reg.PAIR_STATUS_READY +
    (if s.resyncRuns then 8 else 0)

/-- The HELLO the module sends. -/
def State.hello (s : State) : Hello :=
  { serial := Config.serialNumber, pos := s.get Reg.GLB_STRAPS_PAIR_POS, slot := s.get Reg.GLB_STRAPS_SLOT_ID,
    fwMajor := s.get Reg.KPR_FW_VERSION_MAJOR, fwMinor := s.get Reg.KPR_FW_VERSION_MINOR, rate := s.get Reg.SVI_CFG_RATE,
    rho := s.get Reg.SVI_CFG_REL_OFFSET, state := s.st, health := s.healthCode, flags := s.pairFlags,
    peer := s.pair.acceptedPeer, slotTab := s.slotTab }

/-- A trial boot succeeds when SHADOW or SOLO is reached (R123); TO_READY is shown once (R124). -/
def State.reachedRun (s0 : State) : State :=
  let s := s0.adoptImage
  let s1 := if s.get Reg.GLB_BOOT_TIME_TO_READY = 0 then
      s.put Reg.GLB_BOOT_TIME_TO_READY (min ((s.get Reg.GLB_BOOT_TIME_TO_SYNC * 1000000 + (s.time - s.boot.syncAt) / nsUnit) /
        10000000) 65535)
    else s
  if s1.flag Reg.GLB_STATUS_REVTRIAL then
    let prev := s1.get Reg.GLB_CFG_ACTIVE_REV
    let act := s1.get Reg.GLB_CFG_PENDING_REV
    let s2 := ((s1.put Reg.GLB_CFG_PREVIOUS_REV prev).put Reg.GLB_CFG_ACTIVE_REV act).put Reg.GLB_CFG_PENDING_REV 0
    ((s2.put Reg.GLB_STATUS_REVTRIAL 0).event 7).queueWrite (.config [act, 0, prev] none)
  else s1

/-- The handshake is lost: PARTNER falls with source 88 and fault 0x0B01, unacknowledged tokens are dropped. -/
def State.partnerGone (s : State) : State :=
  let s1 := ((s.put Reg.PAIR_STATUS_PARTNER 0).put Reg.GLB_STATUS_PARTNER 0).event 88
  { s1 with pair := { s1.pair with
    heardOwn := false, sentPeer := false, partnerLostAt := s1.time, unacked := [], donorOn := false, stream := [] } }.raise1 0x0B01 1 1

/-- The handshake is lost (R433): a copy fails with it, a donor ends. -/
def State.handshakeLost (s : State) : State :=
  if !s.flag Reg.PAIR_STATUS_PARTNER then s
  else
    let s1 := s.partnerGone
    let s2 := if rsRequested ≤ s1.rs && s1.rs ≤ rsJoin then s1.resyncFail 5
      else if s1.rs = rsDonor then s1.put Reg.PAIR_STATUS_RESYNC rsIdle else s1
    s2.refreshReady

/-- The pulse outputs go off (R96): a pulse that is on is cut. -/
def State.cutPulses (s : State) : State :=
  let on := s.nrg.pos.filter fun x => decide (s.ns < x.onUntil)
  let s1 := { s with nrg := { s.nrg with pos := s.nrg.pos.map fun (x : PulseOut) => { x with onUntil := 0 } } }
  on.foldl (fun (s : State) x => s.emit (.pulseEnd x.out)) s1

/-- Entry to SYNC (R96, R425, R432, R433): pulses are cut, SEQ starts again, the handshake is lost, PEER is 0 until a HELLO is accepted, and the
role comes from the strap. -/
def State.enterSync (s : State) (reason : Nat) : State :=
  let s1 := s.cutPulses.handshakeLost
  let s2 := { s1 with pair := { s1.pair with
    seqOut := 0, acceptedPeer := 0, heardOwn := false, sentPeer := false, role := 0, partnerLostAt := s1.time,
    heldSinceHandshake := false, soloDue := false, orphanDue := false, waitBoundaries := 0 } }
  ({ s2 with boot := { s2.boot with syncAt := s2.time } }.refreshRole).setState stSync reason

/-- What refuses a handshake: 1 rate, 2 ρ, 3 firmware major (R431, R459). -/
def State.helloMismatch (s : State) (h : Hello) : Nat :=
  if h.rate ≠ s.get Reg.SVI_CFG_RATE then 1
  else if h.rho ≠ s.get Reg.SVI_CFG_REL_OFFSET then 2
  else if h.fwMajor ≠ s.get Reg.KPR_FW_VERSION_MAJOR then 3
  else 0

/-- The handshake completes (R431, R432): roles, tokens, the request for a copy, and the state changes of R113. -/
def State.handshakeDone (s : State) (h : Hello) : State :=
  let equal := h.pos == s.get Reg.GLB_STRAPS_PAIR_POS
  let a := if equal then decide (Config.serialNumber < h.serial) else s.get Reg.GLB_STRAPS_PAIR_POS == 0
  let held := s.flag Reg.GLB_STATUS_HOLD || s.flag Reg.GLB_STATUS_PEER
  let s1 := ((s.put Reg.PAIR_STATUS_PARTNER 1).put Reg.GLB_STATUS_PARTNER 1).event 88
  let s2 := { s1 with pair := { s1.pair with
    role := if a then 1 else 2, heldSinceHandshake := held, handshakeAt := s1.time, soloDue := false, orphanDue := false } }
  let s3 := ((s2.refreshRole.clearFault 0x0B01 0).clearFault 0x0B02 0)
  let s4 := if equal then s3.raise1 0x0B03 1 (Config.serialNumber % 2 ^ 32) else s3
  let s5 := if s4.st = stSync then (s4.setState stShadow 0).reachedRun
    else if s4.st = stSolo then s4.setState stActive 0 else s4
  let s6 := s5.syncTokens
  if !s6.flag Reg.GLB_STATUS_HOLD && (s6.pair.peerFlags % 2 == 1 || s6.flag Reg.GLB_STATUS_PEER) then s6.resyncStart.refreshReady
  else s6.refreshReady

/-- The handshake completes when a HELLO with the own serial was accepted and one with the partner's was sent. -/
def State.tryHandshake (s : State) : State :=
  match s.pair.peerHello with
  | none => s
  | some h =>
    if s.flag Reg.PAIR_STATUS_PARTNER || !s.pair.heardOwn || !s.pair.sentPeer then s
    else
      let d := s.helloMismatch h
      if d ≠ 0 then s.raise1 0x0B02 2 d else s.handshakeDone h

/-- HELLO goes out; the module without custody then sends back the entries that the partner's set lacks (R454). -/
def State.helloSent (s : State) : State :=
  let s1 := (s.pairSend (s.svi.last.getD 0) (.hello s.hello)).refreshLanes
  let s2 := { s1 with pair := { s1.pair with sentPeer := s1.pair.sentPeer || (s1.pair.acceptedPeer ≠ 0 && s1.linkUp) } }
  match s2.ho.tokSync with
  | some l => { (s2.per.ledger.filter fun (e : TokenEntry) => !l.contains e.dsid).foldl State.sendToken s2 with
      ho := { s2.ho with tokSync := none } }
  | none => s2

/-- HELLO_TX (R426): from entry to SYNC on; it yields to the COPY frames that have started before (R427). -/
def helloTx (s : State) : State := if !s.ready then s else s.streamNow.helloSent.tryHandshake.refreshReady

def execHelloTx (s : State) : Host.Outcome State Fault Refusal := .next (helloTx s)

/-- HEALTH, STATE and FLAGS that the partner reports (R429, R434). A takeover that was asked for is off where the partner holds custody
other than in safe mode (R453). -/
def State.peerReport (s : State) (state health flags : Nat) : State :=
  let s1 := { s with pair := { s.pair with
    peerFlags := flags, takeoverAsked := s.pair.takeoverAsked && (flags / 2 % 2 == 1 || !s.flag Reg.GLB_STATUS_PEER) } }
  (((s1.put Reg.PAIR_STATUS_PEER_STATE state).put Reg.PAIR_STATUS_PEER_HEALTH health).put Reg.PAIR_STATUS_PEER_READY
    (flags / 4 % 2)).put Reg.PAIR_STATUS_PEER_SAFECUST (flags / 2 % 2)

/-- The SEQ record that a HELLO meets (R425): a new serial, an incomplete handshake or STATE = SYNC reset it. -/
def State.helloMeets (s : State) (h : Hello) : State :=
  if h.serial ≠ s.pair.peerSerial || !s.flag Reg.PAIR_STATUS_PARTNER || h.state = stSync then
    { s with pair := { s.pair with seqIn := 0 } } else s

/-- What an accepted HELLO leaves (R429, R431): the partner's serial, image of state, and registers; STATE = SYNC ends the
handshake. -/
def State.helloTaken (s : State) (h : Hello) : State :=
  let s1 := if h.state = stSync then s.handshakeLost else s
  let fresh := h.serial ≠ s1.pair.peerSerial
  let s2 := { s1 with pair := { s1.pair with
    peerSerial := h.serial, peerHello := some h, acceptedPeer := h.serial,
    sentPeer := s1.pair.sentPeer && !fresh, heardOwn := (s1.pair.heardOwn && !fresh) || h.peer == Config.serialNumber } }
  let s3 := (s2.peerReport h.state h.health h.flags).putFlag Reg.PAIR_STATUS_EQPOS (h.pos == s2.get Reg.GLB_STRAPS_PAIR_POS)
  let s4 := (s3.put Reg.PAIR_PEER_SN_LO_SERIAL (h.serial % 2 ^ 32)).put Reg.PAIR_PEER_SN_HI_SERIAL (h.serial / 2 ^ 32)
  (((s4.put Reg.PAIR_PEER_INFO_MAJOR h.fwMajor).put Reg.PAIR_PEER_INFO_MINOR h.fwMinor).put
    Reg.PAIR_PEER_INFO_POS h.pos).put Reg.PAIR_PEER_INFO_SLOT_ID h.slot

/-- HELLO_RX (R425, R429, R431): once accepted, the handshake may complete. -/
def helloRx (lane seq : Nat) (h : Hello) (s : State) : State :=
  (s.helloMeets h).onAccept lane seq fun s => (s.helloTaken h).tryHandshake.refreshReady

def execHelloRx (lane seq : Nat) (h : Hello) (s : State) : Host.Outcome State Fault Refusal := .next (helloRx lane seq h s)

/-- HANDSHAKE_LOSS (R433). -/
def execHandshakeLoss (s : State) : Host.Outcome State Fault Refusal := .next s.handshakeLost

/-! ### Tick digests (R406, R434, R435) -/

/-- The tick digest of n with the state of the module (R406, R434). -/
def State.digest (s : State) (n : Nat) : Digest :=
  let x := s.core.settled
  let dec := x.any fun x => x.tick == n && x.decided
  let noImg := !x.any (fun x => x.tick == n && !x.noImage)
  let v := match x with
    | some x => x.voters
    | none => 0
  let sd := match x with
    | some x => (x.sdig, x.rdig)
    | none => (0, 0)
  let full := dec && !noImg
  { tick := n, sdig := if full then sd.1 else 0, rdig := if full then sd.2 else 0, imgcrc := if noImg then 0 else s.core.imgCrc,
    voters := v, dflags := (if dec then 0 else 1) + (if v ≠ 7 then 2 else 0) +
      (if noImg then 4 else 0),
    state := s.st, health := s.healthCode, flags := s.pairFlags, pubcrc := s.pubCrc }

/-- SKIP (R435). -/
def State.settleSkip (s : State) : State :=
  let k := min (s.get Reg.PAIR_MATCH_SKIPRUN + 1) 15
  let s1 := (s.put Reg.PAIR_MATCH_SKIPRUN k).count Reg.PAIR_SKIPPED_COUNT
  if 8 < k then s1.put Reg.PAIR_MATCH_MATCHED 0 else s1

/-- MISMATCH (R435, R437). -/
def State.settleMismatch (s : State) (n : Nat) : State :=
  let s1 := ((s.put Reg.PAIR_MATCH_MATCHED 0).put Reg.PAIR_MATCH_SKIPRUN 0).count Reg.PAIR_MISMATCH_COUNT
  let s2 := ((s1.put Reg.PAIR_LAST_MM_LO_TICK (n % 2 ^ 32)).put Reg.PAIR_LAST_MM_HI_TICK (n / 2 ^ 32)).event 91
  let holder := s2.flag Reg.GLB_STATUS_HOLD
  let none' := !holder && !s2.flag Reg.GLB_STATUS_PEER
  if !holder && (!none' || !s2.roleA) then s2.resyncStart else s2

/-- Tick n settles with the own and the partner's record (R435). -/
def State.settlePair (s : State) (n : Nat) : State :=
  match findKey Digest.tick n s.pair.myDigests with
  | none => s
  | some a =>
    if n < s.pair.settled then s
    else
      let s0 := { s with pair := { s.pair with settled := n + 1 } }
      let s1 := match findKey Digest.tick n s.pair.peerDigests with
        | none => s0.settleSkip
        | some b =>
          if a.dflags % 2 = 1 || a.dflags / 4 % 2 = 1 || b.dflags % 2 = 1 || b.dflags / 4 % 2 = 1 || s.resyncRuns ||
              b.flags / 8 % 2 = 1 then s0.settleSkip
          else if a.sdig = b.sdig && a.rdig = b.rdig && a.pubcrc = b.pubcrc then
            let s2 := (s0.put Reg.PAIR_MATCH_MATCHED (min (s0.get Reg.PAIR_MATCH_MATCHED + 1) 65535)).put Reg.PAIR_MATCH_SKIPRUN 0
            if a.imgcrc = b.imgcrc then s2 else s2.count Reg.PAIR_IMG_DIFF_COUNT
          else s0.settleMismatch n
      s1.refreshReady

/-- The digest of boundary n is sent (R27 step 2, R434); a partner's record that is here already settles it. -/
def State.sendDigest (s : State) (n : Nat) : State :=
  let d := s.digest n
  let s1 := s.pairSend n (.digest d)
  let s2 := { s1 with pair := { s1.pair with myDigests := (d :: s1.pair.myDigests).take 16 } }
  if (findKey Digest.tick n s2.pair.peerDigests).isSome then s2.settlePair n else s2

/-- The donor's copy ends with the requester's report that it has joined (R440): tokens follow (R454). -/
def State.donorEnds (s : State) (flags : Nat) : State :=
  if s.rs = rsDonor && s.pair.donorOn && flags / 8 % 2 = 0 then s.donorStop.syncTokens else s

/-- What an accepted DIGEST leaves (R434): the time of its arrival, the partner's report, its latency and its record. -/
def State.digestTaken (s : State) (d : Digest) (delay : Nat) : State :=
  let s0 := s.advance (s.decisionInstant d.tick + delay * nsUnit)
  let l := min delay 65535
  let s1 := ((s0.peerReport d.state d.health d.flags).put Reg.PAIR_LATENCY_LAST l).put Reg.PAIR_LATENCY_MAX
    (max l (s0.get Reg.PAIR_LATENCY_MAX))
  { s1 with pair := { s1.pair with peerDigests := (d :: s1.pair.peerDigests).take 16 } }

/-- DIGEST_RX (R434, R435): `delay` is the arrival after d_n in ns. A partner that counts as absent (R431) settles nothing. -/
def digestRx (lane seq : Nat) (d : Digest) (delay : Nat) (s : State) : State :=
  s.onAccept lane seq fun s =>
    if !s.flag Reg.PAIR_STATUS_PARTNER then s.peerReport d.state d.health d.flags
    else (((s.digestTaken d delay).donorEnds d.flags).settlePair d.tick).refreshReady

def execDigestRx (lane seq : Nat) (d : Digest) (delay : Nat) (s : State) : Host.Outcome State Fault Refusal :=
  .next (digestRx lane seq d delay s)

/-- DIGEST_SETTLE_TIMEOUT (R435): at d_n + 50 µs without the partner's record. -/
def digestSettleTimeout (n : Nat) (s : State) : State := (s.advance (s.decisionInstant n + 50000 * nsUnit)).settlePair n

def execDigestSettleTimeout (tick : Nat) (s : State) : Host.Outcome State Fault Refusal := .next (digestSettleTimeout tick s)

/-! ### Resynchronisation (R437–R441) -/

/-- A rod's state with entries of the copy written into it. -/
def applyWords (prog : Option CleImage) (entries : List (Nat × Nat)) (d : RodState) : RodState :=
  let slots := d.slots.map fun x => (x.1, entries.foldl (fun w e =>
    if e.1 / 65536 = x.1 && decide (e.1 < 0x04000000) then w.set (e.1 % 65536) e.2 else w) x.2)
  match prog with
  | none => { d with slots := slots }
  | some p =>
    let w := entries.foldl (fun w e => if 0x04000000 ≤ e.1 then w.set (e.1 - 0x04000000) e.2 else w) (cleWords d.cle)
    { d with slots := slots, cle := cleOfWords p d.cle w }

/-- The sequence state of a control block as the stream carries it (R438). -/
def seqEntry (g : Gcb) : List Nat :=
  [g.idx, g.st, g.sq, g.interval, g.next, g.crc, unsigned 64 g.tChange] ++ (g.members.map fun m => [m.type, m.value, m.kind]).flatten

/-- The members that a sequence entry carries. -/
def memberWords (i : Nat) : List Nat → List Member
  | t :: v :: k :: l => { idx := i, type := t, value := v, kind := k } :: memberWords (i + 1) l
  | _ => []

/-- A control block with a copied sequence state (R440). -/
def applySeq (l : List Gcb) (w : List Nat) : List Gcb :=
  l.map fun g => if g.idx = w.headD 512 then
      { g with st := w.getD 1 0, sq := w.getD 2 0, interval := w.getD 3 0, next := w.getD 4 0, crc := w.getD 5 0,
               tChange := signed 64 (w.getD 6 0), fresh := false, members := memberWords 0 (w.drop 7) }
    else g

/-- RESYNC_REQ_RX (R437, R438): a donor ignores repeats; refused with a reason, or the copy starts at the next boundary. A partner that
counts as absent (R431) gets no answer. -/
def resyncReqRx (lane seq : Nat) (s : State) : State :=
  s.onAccept lane seq fun s =>
    let same := s.pair.peerHello.any fun h => h.slotTab == s.slotTab
    if s.rs = rsDonor || !s.flag Reg.PAIR_STATUS_PARTNER then s
    else if (s.rodsIn rodVoting).length < 2 then s.pairSend s.tickNow (.resyncNak 1)
    else if rsRequested ≤ s.rs && s.rs ≤ rsJoin then s.pairSend s.tickNow (.resyncNak 2)
    else if !same then s.pairSend s.tickNow (.resyncNak 3)
    else ({ s with pair := { s.pair with donorOn := false } }.put Reg.PAIR_STATUS_RESYNC rsDonor).refreshReady

def execResyncReqRx (lane seq : Nat) (s : State) : Host.Outcome State Fault Refusal := .next (resyncReqRx lane seq s)

/-- The donor at boundary n (R427, R438): at k0 the stream gets every word of its donor rod and the sequence state, later the changes
of the sequence state. -/
def State.donorBoundary (s : State) (n : Nat) : State :=
  if s.rs ≠ rsDonor then s
  else
    let seqs := (s.pub.gcbs.filter fun g => gcbEn g.words).map seqEntry
    if !s.pair.donorOn then
      match s.donor with
      | none => (s.put Reg.PAIR_STATUS_RESYNC rsIdle).pairSend n (.resyncNak 4)
      | some r =>
        let s1 := { s with pair := { s.pair with donorOn := true, donorRod := r, copyK0 := n, copySeqs := seqs, stream := [] } }
        (s1.streamAdd n (copyBodies (rodWords s1.cle.prog (s1.rod r)) seqs)).streamNow
    else
      let s1 := { s with pair := { s.pair with copySeqs := seqs } }
      (s1.streamAdd n (copyBodies [] (seqs.filter fun w => !s.pair.copySeqs.contains w))).streamNow

/-- RESYNC_REQ_REPEAT (R437). -/
def resyncReqRepeat (s : State) : State := if s.rs = rsRequested then s.pairSend s.tickNow .resyncReq else s

def execResyncReqRepeat (s : State) : Host.Outcome State Fault Refusal := .next (resyncReqRepeat s)

/-- RESYNC_NAK_RX (R441). -/
def resyncNakRx (lane seq : Nat) (_reason : Nat) (s : State) : State :=
  s.onAccept lane seq fun s => if rsRequested ≤ s.rs && s.rs ≤ rsJoin then s.resyncFail 2 else s

def execResyncNakRx (lane seq reason : Nat) (s : State) : Host.Outcome State Fault Refusal := .next (resyncNakRx lane seq reason s)

/-- RESYNC_COPY_RX (R439): the requester's VOTING rods compute nothing and take the entries; `all` says that the stream has
now delivered every word once. -/
def resyncCopyRx (lane seq : Nat) (entries : List (Nat × Nat)) (seqs : List (List Nat)) (all : Bool) (s : State) : State :=
  s.onAccept lane seq fun s =>
    if !(decide (rsRequested ≤ s.rs) && decide (s.rs ≤ rsJoin)) then s
    else
      let first := s.rs == rsRequested
      let s1 := (s.rodsIn rodVoting).foldl (fun s r =>
        let d := if first then { s.rod r with todo := [], result := none, carryFrom := none } else s.rod r
        s.setRod r (applyWords s.cle.prog entries d)) s
      let words := entries.foldl (fun l e => setKey Prod.fst e l) s1.pair.copyWords
      let sq := seqs.foldl (fun l w => setKey (fun (x : List Nat) => x.headD 0) w l) (if first then [] else s1.pair.copySeqs)
      ({ s1 with pair := { s1.pair with copyWords := words, copySeqs := sq } }.put Reg.PAIR_STATUS_RESYNC
        (if all || s.rs = rsJoin then rsJoin else rsCopying)).refreshReady

def execResyncCopyRx (lane seq : Nat) (entries : List (Nat × Nat)) (seqs : List (List Nat)) (all : Bool) (s : State) :
    Host.Outcome State Fault Refusal := .next (resyncCopyRx lane seq entries seqs all s)

/-- RESYNC_END_RX (R440): END(n) written by d_n − 1 µs counts for the join at d_n. -/
def resyncEndRx (lane seq n sdig stamp : Nat) (s : State) : State :=
  s.onAccept lane seq fun s =>
    let s1 := s.advance (stamp * nsUnit)
    if rsCopying ≤ s1.rs && s1.rs ≤ rsJoin && stamp * nsUnit + 1000 * nsUnit ≤ s1.decisionInstant n then
      { s1 with pair := { s1.pair with copyLast := some (n, sdig) } }
    else s1

def execResyncEndRx (lane seq tick sdig stamp : Nat) (s : State) : Host.Outcome State Fault Refusal :=
  .next (resyncEndRx lane seq tick sdig stamp s)

/-- The join at boundary n (R440, R442): what the boundary does with END(n). The answer holds the partner's state for a
restart that falls on the boundary. -/
def State.joinBoundary (s : State) (n : Nat) : State × Option RodState :=
  match s.pair.copyLast with
  | some (k, sdig) =>
    if s.rs ≠ rsJoin || k ≠ n then (s, none)
    else if (s.rodsIn rodVoting).any fun r => stateDigest (s.rod r).slots s.cle.prog (s.rod r).cle ≠ sdig then
      (s.resyncFail 4, none)
    else
      let base : RodState :=
        { slots := (computed s.slots).map fun x => (x.slot, fitTo (slotWords s.tg.f x.img.elems) x.img.init),
          cle := (match s.cle.prog with
            | some p => cleInit p 0 false
            | none => {}) }
      let copied := applyWords s.cle.prog s.pair.copyWords base
      let s1 := { s with pub := { s.pub with gcbs := s.pair.copySeqs.foldl applySeq s.pub.gcbs } }
      let s2 := { s1 with pair := { s1.pair with copyLast := none, copyWords := [], copySeqs := [] } }
      let s3 := ((s2.put Reg.PAIR_STATUS_RESYNC rsIdle).count Reg.PAIR_RESYNC_CNT_DONE).event 92
      let s4 := (s3.clearFault 0x0B08 0).clearCode 0x0C03
      ({ s4 with ho := { s4.ho with tokSync := some [] } }.refreshReady, some copied)
  | none => (s, none)

/-- RESYNC_RETRY (R437): 1 s after a failed copy. -/
def resyncRetry (s : State) : State :=
  if s.rs ≠ rsWait then s
  else
    let s1 := s.advance (s.pair.resyncAt + 1000000000 * nsUnit)
    let s2 := s1.put Reg.PAIR_STATUS_RESYNC rsIdle
    if s2.flag Reg.PAIR_STATUS_PARTNER then s2.resyncStart else s2

def execResyncRetry (s : State) : Host.Outcome State Fault Refusal := .next (resyncRetry s)

/-- RESYNC_FAIL_LIMIT (R441): the backlog exceeds 1 MiB (1), or no join came within 4,800 ticks (3). -/
def resyncFailLimit (backlog : Bool) (s : State) : State :=
  if backlog && (s.rs = rsCopying || s.rs = rsJoin) then s.resyncFail 1
  else if !backlog && s.rs = rsJoin then s.resyncFail 3
  else s

def execResyncFailLimit (backlog : Bool) (s : State) : Host.Outcome State Fault Refusal := .next (resyncFailLimit backlog s)

/-! ### Other messages -/

/-- PAIR_FAULT_RX (R428, R458): journaled with the partner bit; a raise of class F3 or F4 sets source 95. -/
def pairFaultRx (lane seq : Nat) (r : FaultRec) (s : State) : State :=
  s.onAccept lane seq fun s =>
    (s.journalAdd (.fault { r with partner := true })).eventIf (r.raised && decide (3 ≤ r.cls)) 95

def execPairFaultRx (lane seq : Nat) (r : FaultRec) (s : State) : Host.Outcome State Fault Refusal :=
  .next (pairFaultRx lane seq r s)

/-- RELEASE_NOTE_RX (R426): the partner no longer asserts CUST_HOLD. -/
def releaseNoteRx (lane seq : Nat) (s : State) : State :=
  s.onAccept lane seq fun s =>
    let f := s.pair.peerFlags
    { s with pair := { s.pair with peerFlags := f - f % 4 } }.put Reg.PAIR_STATUS_PEER_SAFECUST 0

def execReleaseNoteRx (lane seq : Nat) (s : State) : Host.Outcome State Fault Refusal := .next (releaseNoteRx lane seq s)

/-- TAKEOVER_REQ_TX (R453): a SHADOW with health F1 or better, while the partner holds custody in safe mode. -/
def takeoverReqTx (s : State) : State :=
  if s.st = stShadow && s.healthy && s.flag Reg.PAIR_STATUS_PEER_SAFECUST then
    { s with pair := { s.pair with takeoverAsked := true } }.pairSend s.tickNow .takeoverReq
  else s

def execTakeoverReqTx (s : State) : Host.Outcome State Fault Refusal := .next (takeoverReqTx s)

/-- TAKEOVER_REQ_RX (R113, R453): CUST_HOLD held in safe mode falls after the next boundary. -/
def takeoverReqRx (lane seq : Nat) (s : State) : State :=
  s.onAccept lane seq fun s =>
    if s.st = stSafe && s.pair.safeMode && s.flag Reg.GLB_STATUS_HOLD then
      { s with pair := { s.pair with safeRelease := true } } else s

def execTakeoverReqRx (lane seq : Nat) (s : State) : Host.Outcome State Fault Refusal := .next (takeoverReqRx lane seq s)

end Sys2Proof.Machine
end

