-- ==== Sys2Proof/Machine/Handover.lean ====
section
/-! DEFINITION. The handover of protection slices: copy, compare, the passing of the token, doubt (R176–R183), and TOKEN
messages between the modules of a pair (R454). -/

namespace Sys2Proof.Machine

/-- HO_STATUS.PHASE (R184). -/
def State.hoPhase (s : State) : Nat := s.get Reg.SLC_HO_STATUS_PHASE
def State.hoGo (s : State) (p : Nat) : State := s.put Reg.SLC_HO_STATUS_PHASE p

/-- A handover message goes out on both ports of a path that are UP, from the port's address (R179, R235). -/
def State.hoEmit (s : State) (path : Nat) (m : HoMsg) : State :=
  ((pathPorts path).filter s.portUp).foldl (fun (s : State) p => s.emit (.ho p (s.ownAddr p) m)) s

/-- A message goes out on every path (R183). -/
def State.hoEveryPath (s : State) (m : HoMsg) : State := (List.range 5).foldl (fun (s : State) p => s.hoEmit p m) s

/-- A message of the handover goes out on its path. -/
def State.hoSend (s : State) (tick : Nat) (b : HoBody) : State := s.hoEmit s.ho.path { dsid := s.ho.dsid, serial := s.ho.serial, tick := tick, body := b }

/-- The slots and the enabled control blocks of a slice, ascending. -/
def State.sliceSlots (s : State) (k : Nat) : List Slot := s.slots.filter fun x => x.slice == k
def State.sliceGcbs (s : State) (k : Nat) : List Gcb := s.pub.gcbs.filter fun g => gcbEn g.words && gcbSlice g.words == k

/-- The TOKEN entry of a DSID. -/
def State.tokenOf (s : State) (dsid : Nat) : Option TokenEntry := findKey TokenEntry.dsid dsid s.per.ledger

/-- A TOKEN entry is queued for the ledger; `step` names what waits for it: 1 released at m, 2 held by the destination, 3
passed, 4 reclaimed, 5 kept after a CANCEL. -/
def State.commitToken (s : State) (status serial m step : Nat) : State :=
  s.queueWrite (.token ⟨s.ho.dsid, status, s.ho.peer, serial, m, s.ns⟩ none step)

/-- The end of a handover, whatever its outcome. -/
def State.hoIdle (s : State) : State :=
  let s1 := (s.hoGo 0).put (Reg.SLC_SLICE_STATE_MIG s.ho.slice) 0
  { s1 with core := { s1.core with hoLoad := [] }, ho := { s1.ho with copyDue := false, installed := false, readySent := false } }

/-- A destination that has sent ACCEPT(m) and does not take the token journals NOT_TAKEN(m), with which it answers QUERY(m) (R183). -/
def State.hoNotTaken (s : State) : State :=
  if s.ho.role = 1 && s.hoPhase = 3 then
    { s with ho := { s.ho with notTaken := (s.ho.dsid, s.ho.serial, s.ho.m) :: s.ho.notTaken } }.noteOpen 3
  else s

/-- A handover fails with the token at the source (R182): source 190, fault 0x0301. -/
def State.hoFail (s : State) (reason : Nat) : State :=
  ((s.hoNotTaken.put Reg.SLC_HO_STATUS_REASON reason).hoIdle.event 190).raise1 0x0301 1 reason

/-- A CANCEL is sent and the handover fails. -/
def State.hoCancel (s : State) (reason : Nat) : State := (s.hoSend s.ho.m .cancel).hoFail reason

/-- A message that belongs to an earlier movement is discarded and journaled (R176); one whose protection fails is no message (R179). -/
def State.hoDiscard (s : State) (m : HoMsg) : State := if m.tagOk then s.noteOpen 3 else s

/-- Whether the module accepts a handover message (R176). -/
def State.hoAccepts (s : State) (m : HoMsg) : Bool :=
  let e := s.tokenOf m.dsid
  if m.tagOk && s.hoPhase ≠ 0 && s.ho.dsid = m.dsid && (s.ho.role = 0 || s.ho.k0.isNone || m.serial = s.ho.serial) then
    if s.ho.role = 0 then e.any fun x => x.serial == m.serial
    else
      match e with
      | none => true
      | some x => (x.status ≠ 1 && decide (x.serial ≤ m.serial)) || (x.status == 1 && x.serial == m.serial + 1)
  else false

/-! ### Begin and abort (R177, R178, R182) -/

/-- Bytes per µs of a path (R178). -/
def pathRate (path : Nat) : Nat := if path = 0 then 6000 else 2900

/-- The state size of a slice in bytes. -/
def State.sliceBytes (s : State) (k : Nat) : Nat := ((s.sliceSlots k).map fun x => x.img.stateBytes).sum

/-- Copy delay D in cycles of 1,200 per µs, rounded up (R178). -/
def State.copyCycles (s : State) (slice path : Nat) : Nat := 9600 + (s.sliceBytes slice * 1200 + pathRate path - 1) / pathRate path

/-- Engines that host a slot of the slice. -/
def State.sliceEngines (s : State) (k : Nat) : List Nat :=
  (List.range 12).filter fun e => (s.sliceSlots k).any fun x => (x.img.engines >>> e) % 2 == 1

/-- HANDOVER_BEGIN (R177, R178, R707). -/
def handoverBegin (q : Req) (slice peer role path peerSlice : Nat) (s : State) : State :=
  let dsid := s.get (Reg.SLC_SLICE_DSID_DSID slice)
  let e := s.tokenOf dsid
  let holds := e.any fun x => x.status == 1 || x.status == 4
  let d := s.copyCycles slice path
  let limit := admissionLimit (s.get Reg.SVI_CFG_RATE)
  s.command 0x62 q [(.param, decide (255 < slice) || decide (4095 < peer) || decide (1 < role) || decide (4 < path) || decide (255 < peerSlice)),
      (.priv, q.slice ≠ 0),
      (.state, s.notIn [6, 7] || !(s.sliceValid slice && s.isProt slice) || (role == 0 && !holds) ||
        (role == 1 && (holds || !(s.sliceSlots slice).all (fun x => decide (slAdmitted ≤ x.state ∧ x.state ≤ slRunning))))),
      (.nores, role == 1 && (!s.ledgerRoom dsid ||
        (s.sliceEngines slice).any (fun g => decide (limit < engLoad s.slots [] g + d)))),
      (.busy, s.hoPhase ≠ 0)] false fun s =>
    let h : HoState := { slice := slice, peer := peer, role := role, path := path, peerSlice := peerSlice, dsid := dsid,
                         serial := e.elim 0 TokenEntry.serial, copyDue := role == 0, shut := s.ho.shut, openTo := s.ho.openTo,
                         notTaken := s.ho.notTaken, resolving := s.ho.resolving, moves := s.ho.moves, tokSync := s.ho.tokSync }
    let s1 := { s with ho := h, core := { s.core with hoLoad :=
      if role = 1 then ((s.sliceEngines slice).map fun g => (g, d)) else [] } }
    let s2 := (((s1.put Reg.SLC_HO_STATUS_SLICE slice).put Reg.SLC_HO_STATUS_MATCHED 0).hoGo 1).put
      (Reg.SLC_SLICE_STATE_MIG slice) (if role = 0 then 4 else 5)
    (s2.clearFault 0x0301 0).complete q .ok 0 0

def execHandoverBegin (q : Req) (slice peer role path peerSlice : Nat) (s : State) : Host.Outcome State Fault Refusal :=
  .next (handoverBegin q slice peer role path peerSlice s)

/-- The source keeps the token: the gate stays open, the entry is HELD again once durable. -/
def State.hoKeep (s : State) : State :=
  if s.ho.accepted then
    { s with ho := { s.ho with accepted := false, durable := false, openTo := setKey Prod.fst (s.ho.slice, 2 ^ 64) s.ho.openTo } }.commitToken
      1 s.ho.serial 0 5
  else s

/-- RELEASE has been sent as far as the module knows: the source sent it, or the destination received it (R182). -/
def State.hoReleased (s : State) : Bool := decide (4 ≤ s.hoPhase) || (s.ho.role == 1 && s.ho.releaseRx)

/-- HANDOVER_ABORT (R182): OK before RELEASE, STATE after it. -/
def handoverAbort (q : Req) (slice : Nat) (s : State) : State :=
  s.command 0x63 q [(.param, decide (255 < slice)), (.priv, q.slice ≠ 0),
      (.state, s.notIn [6, 7] || s.hoPhase == 0 || s.ho.slice ≠ slice || s.hoReleased)] false fun s =>
    (s.hoCancel 7).hoKeep.complete q .ok 0 0

def execHandoverAbort (q : Req) (slice : Nat) (s : State) : Host.Outcome State Fault Refusal := .next (handoverAbort q slice s)

/-! ### Copy and compare (R180) -/

/-- The words of a slice's slots by ordinal × 65,536 + index. -/
def ordinalWords (slots : List Slot) (d : RodState) : List (Nat × Nat) :=
  (((List.range slots.length).zip slots).map fun x =>
    let w := (findKey Prod.fst x.2.slot d.slots).elim [] Prod.snd
    ((List.range w.length).zip w).map fun y => (x.1 * 65536 + y.1, y.2)).flatten

/-- The words of the slot with ordinal i. -/
def wordsOf (i : Nat) (l : List (Nat × Nat)) : List Nat := (l.filter fun x => x.1 / 65536 == i).map Prod.snd

/-- The source captures S(k0) at its boundary and sends COPY. -/
def State.hoCapture (s : State) (n : Nat) : State :=
  match s.donor with
  | none => s
  | some r =>
    let slots := s.sliceSlots s.ho.slice
    let gs := s.sliceGcbs s.ho.slice
    let seqs := ((List.range gs.length).zip gs).map fun x => x.1 :: (seqEntry x.2).drop 1
    let first := if s.ho.k0.isNone then n else s.ho.firstK0
    let s1 := { s with ho := { s.ho with k0 := some n, firstK0 := first, copyDue := false, mine := [], theirs := [] } }
    ((s1.put Reg.SLC_HO_STATUS_MATCHED 0).hoSend n (.copy (s.get Reg.SVI_CFG_RATE) (s.get Reg.SVI_CFG_REL_OFFSET)
      (slots.map fun x => x.img.digest) (ordinalWords slots (s.rod r)) seqs)).hoGo 2

/-- A copy failed at the destination (R180): the handover fails after RECOPY + 1 of them. -/
def State.hoCopyFailed (s : State) (reason : Nat) : State :=
  let k := s.ho.failed + 1
  let s1 := { s with ho := { s.ho with failed := k, installed := false, mine := [], theirs := [] } }
  let s2 := (s1.put Reg.SLC_HO_STATUS_MATCHED 0).hoGo 1
  if s2.get Reg.SLC_HO_CFG_RECOPY + 1 ≤ k then s2.hoCancel reason else s2

/-- The work of image k0 + 1 that waits in a rod, with the slice's slots added. -/
def addWork (tick : Nat) (ws : List WorkSlot) (w : Work) : Work :=
  if w.image.tick = tick then { w with slots := ws.foldl (fun l x => setKey WorkSlot.slot x l) w.slots } else w

/-- The copied sequence state goes to the slice's control blocks by ordinal. -/
def State.hoSeqs (s : State) (seqs : List (List Nat)) : State :=
  let gs := s.sliceGcbs s.ho.slice
  let l := seqs.foldl (fun l w => match gs[w.headD 0]? with
    | some g => applySeq l (g.idx :: w.drop 1)
    | none => l) s.pub.gcbs
  { s with pub := { s.pub with gcbs := l } }

/-- S(k0) is installed: the slots compute image k0 + 1 in SHADOW_RUN. -/
def State.hoInstall (s : State) (k0 : Nat) (state : List (Nat × Nat)) (seqs : List (List Nat)) : State :=
  let slots := s.sliceSlots s.ho.slice
  let ws := ((List.range slots.length).zip slots).map fun x =>
    ({ slot := x.2.slot, group := x.2.selected, auto := x.2.auto, chg := false, shadow := true,
       install := some (fitTo (slotWords s.tg.f x.2.img.elems) (wordsOf x.1 state)), fresh := false, clear := false,
       img := x.2.img } : WorkSlot)
  let s1 := slots.foldl (fun s x => s.moveSlot { x with group := x.selected } slShadow k0) s
  let rods := s1.core.rods.map fun d => { d with todo := d.todo.map (addWork (k0 + 1) ws) }
  let lay := s1.core.layout.map fun x => if x.1 = k0 + 1 then
      (x.1, slots.foldl (fun l y => setKey Prod.fst (y.slot, (imageTargets y.img).length) l) x.2) else x
  ({ s1 with core := { s1.core with rods := rods, layout := lay },
             ho := { s1.ho with k0 := some k0, installed := true, mine := [], theirs := [] } }.hoSeqs seqs).hoGo 2

/-- The destination after a complete copy with tick k0 at `stamp` (ns). -/
def State.copyHere (s : State) (m : HoMsg) (stamp : Nat) : State :=
  let s1 := { s.advance (stamp * nsUnit) with ho := { s.ho with serial := m.serial } }
  { s1 with ho := { s1.ho with firstK0 := if s1.ho.k0.isNone then m.tick else s1.ho.firstK0, k0 := some m.tick } }

/-- Whether a copy is for this module: rate, ρ and the image digests of the slice's slots agree (R179, R180). -/
def State.copyFits (s : State) (rate rho : Nat) (digests : List Nat) : Bool :=
  rate == s.get Reg.SVI_CFG_RATE && rho == s.get Reg.SVI_CFG_REL_OFFSET &&
    digests == (s.sliceSlots s.ho.slice).map fun x => x.img.digest

/-- Whether `stamp` (ns) lies after d_{k0} + D (R180). -/
def State.copyLate (s : State) (k0 stamp : Nat) : Bool :=
  decide (s.decisionInstant k0 * 1200 + s.copyCycles s.ho.slice s.ho.path * 1000 * nsUnit < stamp * nsUnit * 1200)

/-- HO_COPY_RX (R180): the copy is complete at `stamp` (ns); it fails after d_{k0} + D, or where rate, ρ or the image digests
differ. -/
def hoCopyRx (m : HoMsg) (stamp : Nat) (s : State) : State :=
  match m.body with
  | .copy rate rho digests state seqs =>
    if !(s.hoAccepts m && s.ho.role == 1 && s.hoPhase == 1) then s.hoDiscard m
    else
      let s1 := s.copyHere m stamp
      if !s1.copyFits rate rho digests then s1.hoCopyFailed 6
      else if s1.copyLate m.tick stamp then s1.hoCopyFailed 1
      else s1.hoInstall m.tick state seqs
  | _ => s

def execHoCopyRx (m : HoMsg) (stamp : Nat) (s : State) : Host.Outcome State Fault Refusal := .next (hoCopyRx m stamp s)

/-- HO_COPY_DEADLINE (R180): the copy is not complete by d_{k0} + D. -/
def hoCopyDeadline (s : State) : State := if s.hoPhase = 1 && s.ho.role = 1 then s.hoCopyFailed 1 else s

def execHoCopyDeadline (s : State) : Host.Outcome State Fault Refusal := .next (hoCopyDeadline s)

/-- The comparison of tick n once both digests are here: a match counts at the destination, and READY follows; a mismatch
starts a new copy, or cancels between READY and d_m (R180, R181). -/
def State.hoCompare (s : State) (n : Nat) : State :=
  match findKey Prod.fst n s.ho.mine, findKey Prod.fst n s.ho.theirs with
  | some (_, a), some (_, b) =>
    if a = b then
      let k := min (s.get Reg.SLC_HO_STATUS_MATCHED + 1) 65535
      let s1 := s.put Reg.SLC_HO_STATUS_MATCHED k
      if s1.ho.role = 1 && !s1.ho.readySent && decide (s1.get Reg.PAIR_CFG2_HANDOVER_TICKS ≤ k) then
        ({ s1 with ho := { s1.ho with readySent := true } }.hoSend n .ready).event 188
      else s1
    else if s.ho.role = 1 then (if 4 ≤ s.hoPhase then s else if s.ho.readySent then s.hoCancel 7 else s.hoCopyFailed 2)
    else if s.hoPhase = 2 then { s with ho := { s.ho with copyDue := true } } else s
  | _, _ => s

/-- At d_n each end sends DIGEST(n) of the slice (R180). -/
def State.hoDigest (s : State) (n : Nat) : State :=
  if s.hoPhase < 2 || 4 < s.hoPhase || !s.ho.k0.any (fun k => decide (k < n)) then s
  else
    match s.core.settled with
    | some x =>
      if x.tick = n && x.decided then
        let mine := (s.sliceSlots s.ho.slice).map Slot.slot
        let parts := (slotParts (s.cle.prog.elim 0 CleImage.wq) x.layout x.stream).filter fun p => mine.contains p.1
        let d := sliceDigest parts
        ({ s with ho := { s.ho with mine := ((n, d) :: s.ho.mine).take 64 } }.hoSend n (.digest d)).hoCompare n
      else s
    | none => s

/-- HO_DIGEST_RX (R180). -/
def hoDigestRx (m : HoMsg) (s : State) : State :=
  match m.body with
  | .digest d =>
    if !s.hoAccepts m then s.hoDiscard m
    else { s with ho := { s.ho with theirs := ((m.tick, d) :: s.ho.theirs).take 64 } }.hoCompare m.tick
  | _ => s

def execHoDigestRx (m : HoMsg) (s : State) : Host.Outcome State Fault Refusal := .next (hoDigestRx m s)

/-- HO_DIGEST_MISSING (R180): DIGEST(n) has not arrived by d_{n+2}; the count starts again. A source that has heard no digest
of its copy starts a new one. -/
def hoDigestMissing (s : State) : State :=
  if s.hoPhase < 2 then s
  else
    let s1 := s.put Reg.SLC_HO_STATUS_MATCHED 0
    if s1.ho.role = 0 && s1.hoPhase = 2 && s1.ho.theirs.isEmpty then { s1 with ho := { s1.ho with copyDue := true } } else s1

def execHoDigestMissing (s : State) : Host.Outcome State Fault Refusal := .next (hoDigestMissing s)

/-- HO_COMPARE_TIMEOUT (R180): the count was not reached within 10 × HANDOVER_TICKS of k0. -/
def hoCompareTimeout (s : State) : State :=
  if (s.hoPhase = 1 || s.hoPhase = 2) && !s.ho.readySent then s.hoCancel 3 else s

def execHoCompareTimeout (s : State) : Host.Outcome State Fault Refusal := .next (hoCompareTimeout s)

/-! ### The passing of the token (R181) -/

/-- The tick m that the source grants: LEAD ticks after the latest boundary, d_{m−1} at least 2 ms away. -/
def State.grantTick (s : State) : Nat :=
  max (s.tg.next - 1 + s.get Reg.SLC_HO_CFG_LEAD)
    (firstTickFrom (s.time + 2000000 * nsUnit - s.tg.rho * 1000 * nsUnit) s.tg.f)

/-- HO_READY_RX: the source grants. -/
def hoReadyRx (m : HoMsg) (s : State) : State :=
  if !(s.hoAccepts m && s.ho.role == 0 && s.hoPhase == 2) then s.hoDiscard m
  else
    let k := s.grantTick
    ({ s with ho := { s.ho with m := k } }.hoSend k .grant).hoGo 3

def execHoReadyRx (m : HoMsg) (s : State) : Host.Outcome State Fault Refusal := .next (hoReadyRx m s)

/-- HO_GRANT_RX: the destination accepts. -/
def hoGrantRx (m : HoMsg) (s : State) : State :=
  if !(s.hoAccepts m && s.ho.role == 1 && s.ho.readySent) then s.hoDiscard m
  else ({ s with ho := { s.ho with m := m.tick, releaseRx := false } }.hoSend m.tick .accept).hoGo 3

def execHoGrantRx (m : HoMsg) (s : State) : Host.Outcome State Fault Refusal := .next (hoGrantRx m s)

/-- HO_ACCEPT_RX: at least 1 ms before d_{m−1} the source commits "released at m"; its gate stays open up to m. -/
def hoAcceptRx (m : HoMsg) (s : State) : State :=
  if !(s.hoAccepts m && s.ho.role == 0 && s.hoPhase == 3 && m.tick == s.ho.m) then s.hoDiscard m
  else if s.time + 1000000 * nsUnit ≤ s.decisionInstant (s.ho.m - 1) then
    let s1 := { s with ho := { s.ho with accepted := true, openTo := setKey Prod.fst (s.ho.slice, s.ho.m) s.ho.openTo } }
    s1.commitToken 2 s1.ho.serial s1.ho.m 1
  else s.hoCancel 4

def execHoAcceptRx (m : HoMsg) (s : State) : Host.Outcome State Fault Refusal := .next (hoAcceptRx m s)

/-- HO_RELEASE_TX (R181 step 4): at d_{m−1}, with ACCEPT(m), the durable entry and a matching DIGEST(m − 2), RELEASE(m) is
sent; otherwise CANCEL, and the source keeps publishing. -/
def hoReleaseTx (s : State) : State :=
  if !(s.hoPhase == 3 && s.ho.role == 0) then s
  else
    let k := s.ho.m - 2
    let same := match findKey Prod.fst k s.ho.mine, findKey Prod.fst k s.ho.theirs with
      | some a, some b => a.2 == b.2
      | _, _ => false
    if !(s.ho.accepted && s.ho.durable) then (s.hoCancel 4).hoKeep
    else if !same then (s.hoCancel 5).hoKeep
    else
      let s1 := s.hoSend s.ho.m .release
      { s1 with ho := { s1.ho with released := true, moves := s1.ho.moves ++ [(s1.ho.dsid, 2, s1.ho.m)] } }.hoGo 4

def execHoReleaseTx (s : State) : Host.Outcome State Fault Refusal := .next (hoReleaseTx s)

/-- HO_RELEASE_RX: RELEASE(m) counts when it arrives before v_m; `stamp` in ns. -/
def hoReleaseRx (m : HoMsg) (stamp : Nat) (s : State) : State :=
  if !(s.hoAccepts m && s.ho.role == 1 && s.hoPhase == 3 && m.tick == s.ho.m) then s.hoDiscard m
  else
    let s1 := s.advance (stamp * nsUnit)
    if stamp * nsUnit < s1.voteInstant s1.ho.m then { s1 with ho := { s1.ho with releaseRx := true } } else s1

def execHoReleaseRx (m : HoMsg) (stamp : Nat) (s : State) : Host.Outcome State Fault Refusal := .next (hoReleaseRx m stamp s)

/-- A slice's slots move between RUNNING and SHADOW_RUN at a boundary. -/
def State.moveSlice (s : State) (slice from' new n : Nat) : State :=
  ((s.sliceSlots slice).filter fun x => x.state == from').foldl (fun s x => s.moveSlot x new n) s

/-- The slice of a DSID. -/
def State.sliceOf (s : State) (dsid : Nat) : Option Nat :=
  (List.range 256).find? fun k => s.sliceValid k && s.isProt k && s.get (Reg.SLC_SLICE_DSID_DSID k) == dsid

/-- The token part of step 1 of R27: slots that follow their entry (R454), and at d_m the destination's gate (R181 step 5,
R183). -/
def State.tokenBoundary (s : State) (n : Nat) : State :=
  let due := s.ho.moves.filter fun x => decide (x.2.2 ≤ n)
  let s1 := due.foldl (fun s x => match s.sliceOf x.1 with
    | none => s
    | some k => if x.2.1 = 2 then
        { s.moveSlice k slRunning slShadow n with ho := { s.ho with openTo := dropKey Prod.fst k s.ho.openTo } }
      else { s.moveSlice k slShadow slRunning n with ho := { s.ho with shut := s.ho.shut.filter fun y => y ≠ k } })
    { s with ho := { s.ho with moves := s.ho.moves.filter fun x => !decide (x.2.2 ≤ n) } }
  if s1.ho.role = 1 && s1.hoPhase = 3 && s1.ho.m = n then
    if s1.ho.releaseRx then
      let s2 := s1.moveSlice s1.ho.slice slShadow slRunning n
      ({ s2 with ho := { s2.ho with openTo := setKey Prod.fst (s2.ho.slice, 2 ^ 64) s2.ho.openTo } }.commitToken 1
        (s2.ho.serial + 1) n 2).hoGo 4
    else (s1.hoSend n .notTaken).hoFail 8
  else s1

/-- The handover at boundary n after the decision: the source's capture, and DIGEST(n). -/
def State.hoBoundary (s : State) (n : Nat) : State :=
  let s1 := s.hoDigest n
  if s1.ho.role = 0 && s1.ho.copyDue && (s1.hoPhase = 1 || s1.hoPhase = 2) then s1.hoCapture n else s1

/-- What waits for a durable TOKEN entry goes on (R176, R181, R183). -/
def State.tokenStep (s : State) (step : Nat) : State :=
  let k := s.ho.slice
  if step = 1 then { s with ho := { s.ho with durable := true } }
  else if step = 2 then
    ({ s with ho := { s.ho with openTo := dropKey Prod.fst k s.ho.openTo } }.hoSend s.ho.m .taken).hoIdle.event 189
  else if step = 3 then { s with ho := { s.ho with openTo := dropKey Prod.fst k s.ho.openTo } }.hoIdle.event 189
  else if step = 4 then
    { s with ho := { s.ho with shut := k :: s.ho.shut, moves := s.ho.moves ++ [(s.ho.dsid, 1, 0)] } }.hoFail 8
  else if step = 5 then { s with ho := { s.ho with openTo := dropKey Prod.fst k s.ho.openTo } }
  else s

/-- A step that waits goes on with the partner's acknowledgement, or at the next repeat. -/
def State.stepAcked (s : State) (ack : Option Nat) : State :=
  match s.ho.waitStep with
  | none => s
  | some (step, seq) =>
    if ack.isNone || ack == some seq then { s with ho := { s.ho with waitStep := none } }.tokenStep step else s

/-- A token that a restart or a takeover found RELEASED_AT is resolved (R183, R454). -/
def State.resolveToken (s : State) (m : HoMsg) (taken : Bool) : State :=
  match s.tokenOf m.dsid with
  | none => s
  | some e =>
    let s1 := { s with ho := { s.ho with resolving := s.ho.resolving.filter fun x => x.1 ≠ m.dsid } }
    let n : TokenEntry := if taken then { e with status := 3, serial := e.serial + 1, time := s.ns } else { e with status := 4, time := s.ns }
    ((s1.queueWrite (.token n none 0)).clearFault 0x0302 m.dsid)

/-- Whether a token is being resolved. -/
def State.resolves (s : State) (m : HoMsg) : Bool := m.tagOk && s.ho.resolving.any fun x => x.1 == m.dsid && x.2.1 == m.serial

/-- HO_TAKEN_RX (R181 step 6): the source commits "passed" with the next serial; a doubt ends. -/
def hoTakenRx (m : HoMsg) (s : State) : State :=
  if s.resolves m then s.resolveToken m true
  else if !(s.hoAccepts m && s.ho.role == 0 && decide (4 ≤ s.hoPhase)) then s.hoDiscard m
  else (s.commitToken 3 (s.ho.serial + 1) s.ho.m 3).clearFault 0x0302 s.ho.dsid

def execHoTakenRx (m : HoMsg) (s : State) : Host.Outcome State Fault Refusal := .next (hoTakenRx m s)

/-- HO_NOT_TAKEN_RX (R183): the source commits "reclaimed" and fails the handover. -/
def hoNotTakenRx (m : HoMsg) (s : State) : State :=
  if s.resolves m then s.resolveToken m false
  else if !(s.hoAccepts m && s.ho.role == 0 && decide (4 ≤ s.hoPhase)) then s.hoDiscard m
  else (s.commitToken 4 s.ho.serial s.ho.m 4).clearFault 0x0302 s.ho.dsid

def execHoNotTakenRx (m : HoMsg) (s : State) : Host.Outcome State Fault Refusal := .next (hoNotTakenRx m s)

/-- HO_CANCEL_RX (R182): before RELEASE the token stays with the source. -/
def hoCancelRx (m : HoMsg) (s : State) : State :=
  if !s.hoAccepts m then s.hoDiscard m
  else if s.hoReleased then s
  else (s.hoFail 7).hoKeep

def execHoCancelRx (m : HoMsg) (s : State) : Host.Outcome State Fault Refusal := .next (hoCancelRx m s)

/-- HO_DOUBT (R183): no answer within 1 ms after d_m; QUERY goes out on every path, and again at each repeat of this step. -/
def hoDoubt (s : State) : State :=
  let s1 := if s.ho.role = 0 && (s.hoPhase = 4 || s.hoPhase = 5) then
      let f := s.hoPhase == 4
      (((s.hoGo 5).raise 0x0302 2 s.ho.dsid 0xFFFF s.ho.dsid).eventIf f 191).hoEveryPath
        { dsid := s.ho.dsid, serial := s.ho.serial, tick := s.ho.m, body := .query }
    else s
  s.ho.resolving.foldl (fun s x => (s.raise 0x0302 2 x.1 0xFFFF x.1).hoEveryPath
    { dsid := x.1, serial := x.2.1, tick := x.2.2, body := .query }) s1

def execHoDoubt (s : State) : Host.Outcome State Fault Refusal := .next (hoDoubt s)

/-- HO_QUERY_RX (R183): the destination answers from its ledger and journal on the path that brought the QUERY. -/
def hoQueryRx (m : HoMsg) (path : Nat) (s : State) : State :=
  let taken := (s.tokenOf m.dsid).any fun e => e.status == 1 && e.serial == m.serial + 1
  let no := s.ho.notTaken.any fun x => x.1 == m.dsid && x.2.1 == m.serial
  if !m.tagOk then s
  else if taken then s.hoEmit path { m with body := .taken }
  else if no then s.hoEmit path { m with body := .notTaken }
  else if s.hoAccepts m && s.ho.role = 1 && decide (3 ≤ s.hoPhase) then s
  else s.hoDiscard m

def execHoQueryRx (m : HoMsg) (path : Nat) (s : State) : Host.Outcome State Fault Refusal := .next (hoQueryRx m path s)

/-! ### TOKEN messages (R454, R707) -/

/-- TOKEN_MSG_RX (R454, R707): an acknowledgement ends the repeats of its entry; an entry is queued for the ledger, and
acknowledged once durable. -/
def tokenMsgRx (lane seq : Nat) (e : Option TokenEntry) (ack : Nat) (s : State) : State :=
  s.onAccept lane seq fun s =>
    match e with
    | none => { s with pair := { s.pair with unacked := s.pair.unacked.filter fun x => x.1 ≠ ack } }.stepAcked (some ack)
    | some x =>
      let s1 := { s with ho := { s.ho with tokSync := s.ho.tokSync.map fun l => x.dsid :: l } }
      if s1.ledgerRoom x.dsid then s1.queueWrite (.token x (some seq) 0)
      else s1.raiseAt 0x1607 2 x.dsid x.dsid

def execTokenMsgRx (lane seq : Nat) (e : Option TokenEntry) (ack : Nat) (s : State) : Host.Outcome State Fault Refusal :=
  .next (tokenMsgRx lane seq e ack s)

/-- TOKEN_RESEND (R454): every entry that is not acknowledged is sent again; an acknowledgement names the last SEQ. -/
def tokenResend (s : State) : State :=
  if !s.flag Reg.PAIR_STATUS_PARTNER then { s with pair := { s.pair with unacked := [] } }.stepAcked none
  else (s.pair.unacked.foldl (fun (s : State) (x : Nat × TokenEntry) => s.sendToken x.2) { s with pair := { s.pair with unacked := [] } }).stepAcked none

def execTokenResend (s : State) : Host.Outcome State Fault Refusal := .next (tokenResend s)

end Sys2Proof.Machine
end

