-- ==== Sys2Proof/Machine/Custody.lean ====
section
/-! DEFINITION. Custody: the lines CUST_HOLD and CUST_PEER, the taking and giving up of custody, orphan and solo waits, safe
mode, SERVICE left (R93, R112, R113, R443–R453, R472, R693). -/

namespace Sys2Proof.Machine

/-! ### The lines (R93, R445, R446) -/

/-- CUST_PEER_RISE (R93): the gate and the permit close; the partner holds custody from now on. A SOLO_WAIT that has elapsed in SYNC
stays elapsed (R112, R452). -/
def custPeerRise (stamp : Nat) (s : State) : State :=
  let s1 := (s.advance (stamp * nsUnit)).put Reg.GLB_STATUS_PEER 1
  let s2 := { s1 with pair := { s1.pair with heldSinceHandshake := true, selfReleased := false, orphanDue := false } }
  if s2.pair.gateOpen then s2.setGate false else s2

def execCustPeerRise (stamp : Nat) (s : State) : Host.Outcome State Fault Refusal := .next (custPeerRise stamp s)

/-- CUST_PEER_FALL (R451): the time without a holder starts, and both lines are no longer asserted together. -/
def custPeerFall (stamp : Nat) (s : State) : State :=
  let s1 := (s.advance (stamp * nsUnit)).put Reg.GLB_STATUS_PEER 0
  { s1 with pair := { s1.pair with peerFellAt := s1.time, holderLostAt := s1.time } }.put Reg.PAIR_STATUS_COLLIDE 0

def execCustPeerFall (stamp : Nat) (s : State) : Host.Outcome State Fault Refusal := .next (custPeerFall stamp s)

/-- A module in the role of its strap waits 1–16 boundaries after a collision (R432). -/
def State.collided (s : State) : State :=
  let s1 := s.count Reg.PAIR_COLLISIONS_COUNT
  if s1.pair.role = 0 then { s1 with pair := { s1.pair with waitBoundaries := 1 + s1.free % 16 } }.drawn else s1

/-- CUSTODY_COLLISION (R445): both gates are closed; CUST_HOLD falls, and ACTIVE becomes SHADOW. -/
def custodyCollision (s : State) : State :=
  if s.flag Reg.GLB_STATUS_HOLD && s.flag Reg.GLB_STATUS_PEER then
    let s1 := ((s.collided.put Reg.PAIR_STATUS_COLLIDE 1).event 93).raise1 0x0B06 2 s.st
    let s2 := (s1.dropCustody.put Reg.PAIR_STATUS_COLLIDE 0).put Reg.GLB_STATUS_KEEPCUST 0
    if s2.st = stActive then s2.setState stShadow 0x0B06 else s2
  else s

def execCustodyCollision (s : State) : Host.Outcome State Fault Refusal := .next (custodyCollision s)

/-- PEER_LINE_DISAGREE (R446): the line against what the partner's messages report. -/
def peerLineDisagree (s : State) : State :=
  if !s.flag Reg.GLB_STATUS_HOLD && s.flag Reg.GLB_STATUS_PEER && s.pair.peerHello.isSome && s.pair.peerFlags % 2 = 0 then
    s.raise1 0x0B09 2 0
  else s

def execPeerLineDisagree (s : State) : Host.Outcome State Fault Refusal := .next (peerLineDisagree s)

/-! ### Giving up custody (R447–R449, R693) -/

/-- HEARTBEAT_EXPIRY (R448): hardware de-asserts CUST_HOLD and latches the event, also over a reset; the keeper sends nothing. -/
def heartbeatExpiry (s : State) : State :=
  if s.mainAbsent then s else
  let held := s.flag Reg.GLB_STATUS_HOLD
  let s1 := (s.put Reg.GLB_STATUS_HOLD 0).setGate false
  { s1 with pair := { s1.pair with
    trying := none, releasedAt := none, heartbeatLatch := true, holderLostAt := if held then s.time else s1.pair.holderLostAt } }

def execHeartbeatExpiry (s : State) : Host.Outcome State Fault Refusal := .next (heartbeatExpiry s)

/-- HEARTBEAT_LATCH_FOUND (R448): at the keeper's next run, and at step 10 of the next boot: fault 0x0B07 of class F3, source 94. -/
def heartbeatLatchFound (s : State) : State :=
  if s.pair.heartbeatLatch then
    ({ s with pair := { s.pair with heartbeatLatch := false } }.event 94).raise1 0x0B07 3 0
  else s

def execHeartbeatLatchFound (s : State) : Host.Outcome State Fault Refusal := .next (heartbeatLatchFound s)

/-- GATE_CHANNEL_DISAGREE (R693): the gate closes, fault 0x0007 of class F3; DETAIL 1 open disagreement, 2 test 4. -/
def execGateChannelDisagree (detail : Nat) (s : State) : Host.Outcome State Fault Refusal :=
  .next ((s.setGate false).raise1 0x0007 3 detail)

/-- FAULT_F3_RAISE (R66, R447): a fault of class F3 or F4 is raised with the response of its class. -/
def faultF3Raise (code cls inst detail : Nat) (s : State) : State :=
  if cls = 3 || cls = 4 then s.raiseAt code cls inst detail else s

def execFaultF3Raise (code cls inst detail : Nat) (s : State) : Host.Outcome State Fault Refusal :=
  .next (faultF3Raise code cls inst detail s)

/-- CUSTODY_RELEASE (R449): BUSY unless the partner is ready and F1 or better in its last DIGEST, or FORCE is 1; the rest follows
decision n. -/
def custodyRelease (q : Req) (force : Bool) (s : State) : State :=
  let partnerOk := s.flag Reg.PAIR_STATUS_PARTNER && s.flag Reg.PAIR_STATUS_PEER_READY &&
    s.pair.peerDigests.head?.any fun d => decide (d.health ≤ 1)
  s.command 0x21 q [(.priv, q.slice ≠ 0), (.state, s.st ≠ stActive), (.busy, !force && !partnerOk)] false fun s =>
    { s with multi := s.multi ++ [⟨q, 0x21, 0, 0⟩], pair := { s.pair with releasedAt := some s.tg.next } }

def execCustodyRelease (q : Req) (force : Bool) (s : State) : Host.Outcome State Fault Refusal := .next (custodyRelease q force s)

/-- After decision n (R449, R453): a release that is due; one that custody's loss has overtaken completes with ABORTED. A change of
state has completed the command before (R120), and custody stays then. -/
def State.releaseBoundary (s : State) (n : Nat) : State :=
  let mine := s.multi.filter fun m => m.opcode == 0x21
  let rest := s.multi.filter fun m => m.opcode ≠ 0x21
  if s.pair.releasedAt.isSome && s.flag Reg.GLB_STATUS_HOLD && !mine.isEmpty then
    let s1 := { s.dropCustody with multi := rest }
    let s2 := { s1 with pair := { s1.pair with selfReleased := true } }
    let s3 := if s2.st = stActive then s2.setState stShadow 0 else s2
    mine.foldl (fun s m => s.complete m.req .ok (n % 2 ^ 32) 0) s3
  else
    let s0 := mine.foldl (fun s m => s.complete m.req .aborted 0 0) { s with multi := rest }
    let s1 := { s0 with pair := { s0.pair with releasedAt := none } }
    if s1.pair.safeRelease && s1.flag Reg.GLB_STATUS_HOLD then s1.dropCustody else s1

/-! ### Taking custody (R444, R450–R453) -/

/-- Why the module would take custody at the next boundary: 1 takeover by a ready shadow, 2 first custody of a pair, 3 a pair
without a holder, 4 SOLO, 5 safe mode, 6 takeover from safe mode, 7 SOLO again after a collision. -/
def State.wantCustody (s : State) : Option Nat :=
  if s.flag Reg.GLB_STATUS_HOLD || s.pair.waitBoundaries ≠ 0 then none
  else if s.st = stShadow && s.healthy then
    if s.pair.soloDue && !s.flag Reg.PAIR_STATUS_PARTNER then some 4
    else if s.pair.takeoverAsked then some 6
    else if s.readyNow && !s.pair.selfReleased then some 1
    else if !s.pair.heldSinceHandshake && s.flag Reg.PAIR_STATUS_PARTNER && (s.roleA || s.pair.orphanDue) then some 2
    else if s.pair.orphanDue then some 3
    else none
  else if s.st = stSync && s.pair.soloDue && !s.flag Reg.PAIR_STATUS_PARTNER && s.healthCode ≤ 2 then some 4
  else if s.st = stSolo then some 7
  else if s.st = stSafe && (s.pair.safeDue || s.get Reg.PUB_CFG_SAFE_HOLD_MS = 0) then some 5
  else none

/-- Steps 1 and 2 of R444 for boundary n: the module that wants custody asserts CUST_HOLD where CUST_PEER has been de-asserted for
2 µs; one boundary of a wait passes where it does not. -/
def State.tryCustody (s : State) (n : Nat) : State :=
  match s.wantCustody with
  | none => { s with pair := { s.pair with waitBoundaries := s.pair.waitBoundaries - 1 } }
  | some k =>
    if s.flag Reg.GLB_STATUS_PEER || decide (s.time < s.pair.peerFellAt + 2000 * nsUnit) then s
    else { s with pair := { s.pair with trying := some (n, k) } }.put Reg.GLB_STATUS_HOLD 1

/-- CUSTODY_SAMPLE (R444 step 1): at d_n − 6 µs in role A and d_n − 3 µs in role B; CUST_HOLD is asserted only where CUST_PEER
has been de-asserted for 2 µs. -/
def custodySample (s : State) : State :=
  if !s.tg.running then s
  else (s.advance (s.decisionInstant s.tg.next - (if s.roleA then 6000 else 3000) * nsUnit)).tryCustody s.tg.next

def execCustodySample (s : State) : Host.Outcome State Fault Refusal := .next (custodySample s)

/-- The tokens RELEASED_AT of the valid protection slices are resolved by QUERY before anything is published for them
(R183, R454). -/
def State.queryTokens (s : State) : State :=
  let l := s.per.ledger.filter fun e => e.status == 2 && s.dsids.contains e.dsid &&
    !(s.ho.openTo.any fun x => s.sliceOf e.dsid == some x.1)
  let s1 := { s with ho := { s.ho with resolving := l.map fun e => (e.dsid, e.serial, e.m) } }
  l.foldl (fun s e => s.hoEveryPath { dsid := e.dsid, serial := e.serial, tick := e.m, body := .query }) s1

/-- Custody is taken at boundary n for a reason (R113, R443, R450, R451, R453). -/
def State.takeCustody (s : State) (kind : Nat) : State :=
  let unready := kind == 3 && !s.readyNow
  let s1 := (s.setGate true).count Reg.PAIR_TAKEOVERS_COUNT
  let s2 := { s1 with
    svi := { s1.svi with ownMark := [0, 1, 2, 3] },
    pair := { s1.pair with heldSinceHandshake := true, soloDue := false, orphanDue := false, safeDue := false,
                           takeoverAsked := false } }
  let s3 := if unready then (s2.count Reg.PAIR_TAKEOVERS_UNREADY).raise1 0x0B05 1 (s.get Reg.PAIR_MATCH_MATCHED) else s2
  let s4 := s3.queryTokens
  if kind = 5 then
    let s5 := { s4 with pair := { s4.pair with safeMode := true }, pub := { s4.pub with safeForm := true, safeSent := false } }
    (((s5.put Reg.GLB_STATE_SAFECUST 1).put Reg.PUB_STATUS_SAFEMODE 1).put Reg.PUB_STATUS_SAFEFORM 1).event 99
  else if kind = 4 then (s4.setState stSolo 0).reachedRun
  else if kind = 7 then s4
  else s4.setState stActive 0

/-- Step 1 of R27 and of R444 step 2: custody that is tried for this boundary applies where its conditions still hold, or counts a
collision. -/
def State.custodyBoundary (s : State) (n : Nat) : State :=
  match s.pair.trying with
  | none => s
  | some (k, kind) =>
    if k ≠ n then s
    else
      let s1 := { s with pair := { s.pair with trying := none } }
      if s1.flag Reg.GLB_STATUS_PEER then s1.collided.dropCustody
      else if (s1.put Reg.GLB_STATUS_HOLD 0).wantCustody.isSome then s1.takeCustody kind
      else s1.dropCustody

/-! ### Waits (R112, R113, R451, R472) -/

/-- SOLO_WAIT_EXPIRY (R112, R113): SYNC and SHADOW try for SOLO, ACTIVE becomes SOLO. -/
def soloWaitExpiry (s : State) : State :=
  if s.flag Reg.PAIR_STATUS_PARTNER then s
  else if s.st = stSync then
    { s.raise1 0x0B01 1 0 with pair := { s.pair with soloDue := true } }
  else if s.st = stShadow then { s with pair := { s.pair with soloDue := true } }
  else if s.st = stActive then (s.setState stSolo 0).reachedRun
  else s

def execSoloWaitExpiry (s : State) : Host.Outcome State Fault Refusal := .next (soloWaitExpiry s)

/-- ORPHAN_TIMEOUT (R451): ORPHAN_MS without a holder, or twice that for role B in the second case. -/
def orphanTimeout (s : State) : State :=
  if s.st ≠ stShadow || s.flag Reg.GLB_STATUS_HOLD || s.flag Reg.GLB_STATUS_PEER then s
  else
    let first := !s.pair.heldSinceHandshake && s.flag Reg.PAIR_STATUS_PARTNER
    let k := if !first && !s.roleA then 2 else 1
    let s1 := s.advance (max s.pair.holderLostAt s.pair.handshakeAt + k * s.get Reg.PAIR_CFG2_ORPHAN_MS * 1000000 * nsUnit)
    { s1 with pair := { s1.pair with orphanDue := true } }

def execOrphanTimeout (s : State) : Host.Outcome State Fault Refusal := .next (orphanTimeout s)

/-- SAFE_HOLD_EXPIRY (R472): safe-mode custody is taken through R444. -/
def safeHoldExpiry (s : State) : State :=
  if s.st = stSafe && !s.flag Reg.GLB_STATUS_PEER then { s with pair := { s.pair with safeDue := true } } else s

def execSafeHoldExpiry (s : State) : Host.Outcome State Fault Refusal := .next (safeHoldExpiry s)

/-! ### SERVICE left (R113) -/

/-- GLB.STATUS.FORCED and CLE.STATUS.FORCED follow the force table; source 5 at a change (R497). -/
def State.showForced (s : State) : State :=
  let f := !s.cle.forces.isEmpty
  let s1 := s.putFlag Reg.CLE_STATUS_FORCED f
  if f = s1.flag Reg.GLB_STATUS_FORCED then s1 else (s1.putFlag Reg.GLB_STATUS_FORCED f).event 5

/-- FORCE entries as the registers show them. -/
def State.showForceRegs (s : State) : State :=
  let l := s.cle.forces
  let s1 := s.put Reg.CLE_STATUS_FORCES l.length
  (List.range 256).foldl (fun s e =>
    match l[e]? with
    | some (a, v) => ((s.put (Reg.CLE_FORCE_VALID e) 1).putFlag (Reg.CLE_FORCE_VALUE e) v).put (Reg.CLE_FORCE_ADDR e) a
    | none => if s.flag (Reg.CLE_FORCE_VALID e) then
        ((s.put (Reg.CLE_FORCE_VALID e) 0).put (Reg.CLE_FORCE_VALUE e) 0).put (Reg.CLE_FORCE_ADDR e) 0 else s) s1

/-- SERVICE ends: forces and injections are removed, CUST_HOLD falls, SYNC is entered. -/
def State.leaveService (s : State) : State :=
  let s1 := s.cle.forceOps.foldl (fun s f => s.complete f.1 .aborted 0 0) s
  let s2 := { s1 with cle := { s1.cle with forces := [], forceOps := [] } }.showForceRegs.showForced.eventIf (!s.cle.forces.isEmpty) 108
  let s3 := (s2.endInjections 4 s2.inj).dropCustody
  let s4 := { s3 with keys := { s3.keys with console := false } }
  (s4.put Reg.GLB_STATUS_KEEPCUST 0).serviceEvent.put Reg.TMP_MASK_SRC 0 |>.put Reg.TMP_STATUS_MASKED 0 |>.enterSync 0

/-- SERVICE_LIMIT_REACHED (R113). -/
def serviceLimitReached (s : State) : State := if s.st = stService then s.leaveService else s

def execServiceLimitReached (s : State) : Host.Outcome State Fault Refusal := .next (serviceLimitReached s)

/-- SERVICE_LEAVE (R113, R120). -/
def serviceLeave (q : Req) (s : State) : State :=
  s.command 0x23 q [(.priv, q.slice ≠ 0), (.state, s.st ≠ stService)] false fun s => s.leaveService.complete q .ok 0 0

def execServiceLeave (q : Req) (s : State) : Host.Outcome State Fault Refusal := .next (serviceLeave q s)

end Sys2Proof.Machine
end

