-- ==== Sys2Proof/Machine/Cle.lean ====
section
/-! DEFINITION. The CLE commands and what a tick boundary brings to the engine (R487–R498). -/

namespace Sys2Proof.Machine

/-- Codes of the engine state (R490). -/
def cleStop : Nat := 0
def cleRunning : Nat := 1
def cleFaulted : Nat := 2

/-- The engine state, and its change with source 104. -/
def State.cleSt (s : State) : Nat := s.get Reg.CLE_STATUS_STATE
def State.cleGo (s : State) (st : Nat) : State := if s.cleSt = st then s else (s.put Reg.CLE_STATUS_STATE st).event 104

/-- CLE commands are for slice 0 and the slice in OWNER (R491). -/
def State.clePriv (s : State) (slice : Nat) : Bool := slice ≠ 0 && slice ≠ s.get Reg.CLE_OWNER_SLICE

/-- A program is stored in STOP on all three rods with its initial data as state (R490). -/
def State.loadProgram (s : State) (img : CleImage) : State :=
  let rods := s.core.rods.map fun (d : RodState) => { d with cle := cleInit img 0 false }
  let s1 := { s with cle := { s.cle with prog := some img, fresh := true }, core := { s.core with rods := rods } }
  ((((s1.put Reg.CLE_PROG_WQ img.wq).put Reg.CLE_PROG_NINSTR img.code.length).put Reg.CLE_PROG_ID_ID (img.digest % 2 ^ 32)).put
    Reg.CLE_STATUS_LOADED 1)

/-- CLE_LOAD (R491). -/
def cleLoad (q : Req) (len key : Nat) (img : CleImage) (s : State) : State :=
  s.command 0x50 q [(.version, img.version ≠ 1),
      (.param, !(cleSizesOk img && img.length == len && img.code.all (cleInstrOk img))),
      (.priv, s.clePriv q.slice || !s.keyOwn key q.slice || !s.keyHasUse key 3),
      (.state, s.notIn stRun || s.cleSt ≠ cleStop),
      (.integrity, !img.digestOk || !img.sigOk || !s.keyUsable key q.slice 3)] false fun s =>
    ((s.loadProgram img).event 109).complete q .ok (img.digest % 2 ^ 32) 0

def execCleLoad (q : Req) (len key : Nat) (img : CleImage) (s : State) : Host.Outcome State Fault Refusal :=
  .next (cleLoad q len key img s)

/-- CLE_START (R490): at the next boundary; STATE without a program, with EN = 0, or outside STOP. -/
def cleStart (q : Req) (cold : Bool) (s : State) : State :=
  s.command 0x51 q [(.priv, s.clePriv q.slice),
      (.state, s.notIn stRun || s.cleSt ≠ cleStop || s.cle.prog.isNone || !s.flag Reg.CLE_CTRL_EN)] false fun s =>
    { s with cle := { s.cle with bound := s.cle.bound ++ [(q, true, cold)] } }

def execCleStart (q : Req) (cold : Bool) (s : State) : Host.Outcome State Fault Refusal := .next (cleStart q cold s)

/-- CLE_STOP (R490): OK at once in STOP, otherwise at the next boundary. -/
def cleStopCmd (q : Req) (s : State) : State :=
  s.command 0x52 q [(.priv, s.clePriv q.slice), (.state, s.notIn stRun)] false fun s =>
    if s.cleSt = cleStop && s.cle.bound.isEmpty then s.complete q .ok (s.tickNow % 2 ^ 32) 0
    else { s with cle := { s.cle with bound := s.cle.bound ++ [(q, false, false)] } }

def execCleStop (q : Req) (s : State) : Host.Outcome State Fault Refusal := .next (cleStopCmd q s)

/-- Whether CLE_WRITE may name a target (R493). -/
def State.writeTarget (s : State) (t : Nat) : Bool :=
  match s.cle.prog with
  | none => false
  | some p =>
    let a := t % 2 ^ 20
    (t / 2 ^ 20 == 2 && decide (a < p.nm)) || (t / 2 ^ 20 == 5 && decide (a < p.nk)) ||
      (t / 2 ^ 20 == 7 && decide (a < p.nkw) && decide (a < 256))

/-- CLE_WRITE (R493). -/
def cleWrite (q : Req) (target value at' : Nat) (s : State) : State :=
  s.command 0x53 q [(.param, !s.writeTarget target), (.priv, s.clePriv q.slice), (.state, s.notIn stRun || s.cleSt == cleFaulted),
      (.busy, s.cle.write.isSome)] false fun s =>
    { s with cle := { s.cle with write := some (q, target, value % 2 ^ 32, at') } }

def execCleWrite (q : Req) (target value at' : Nat) (s : State) : Host.Outcome State Fault Refusal :=
  .next (cleWrite q target value at' s)

/-! ### Forcing (R496, R497) -/

/-- The force entries as they will stand once those that wait have applied. -/
def forcesAfter (l : List (Nat × Bool)) (ops : List (Req × Bool × Nat × Bool)) : List (Nat × Bool) :=
  ops.foldl (fun l o =>
    if o.2.1 then (if l.any fun x => x.1 == o.2.2.1 then l.map fun x => if x.1 = o.2.2.1 then (x.1, o.2.2.2) else x
      else l ++ [(o.2.2.1, o.2.2.2)])
    else if o.2.2.1 = 0xFFFFFFFF then [] else l.filter fun x => x.1 ≠ o.2.2.1) l

/-- FORCE_SET (R496): a bit of space I or Q; a 257th entry completes with NORES. An address that does not exist in its space
is no bit of it. -/
def forceSet (q : Req) (addr : Nat) (value : Bool) (s : State) : State :=
  let l := forcesAfter s.cle.forces s.cle.forceOps
  let space := addr / 2 ^ 20
  let a := addr % 2 ^ 20
  let exist := (space == 0 && (decide (a < 8) || (decide (0x100 ≤ a) && decide (a < 0x2100)) ||
    (decide (0x4000 ≤ a) && decide (a < 0xC000)))) || (space == 1 && decide (a < 8192))
  s.command 0x30 q [(.param, !exist), (.priv, q.slice ≠ 0), (.state, s.st ≠ stService),
      (.nores, decide (256 ≤ l.length) && !l.any fun x => x.1 == addr)] false fun s =>
    { s with cle := { s.cle with forceOps := s.cle.forceOps ++ [(q, true, addr, value)] } }

def execForceSet (q : Req) (addr : Nat) (value : Bool) (s : State) : Host.Outcome State Fault Refusal :=
  .next (forceSet q addr value s)

/-- FORCE_CLEAR (R496): one entry, or all with 0xFFFF_FFFF; an address without an entry completes with OK. -/
def forceClear (q : Req) (addr : Nat) (s : State) : State :=
  s.command 0x31 q [(.priv, q.slice ≠ 0), (.state, s.st ≠ stService)] false fun s =>
    { s with cle := { s.cle with forceOps := s.cle.forceOps ++ [(q, false, addr, false)] } }

def execForceClear (q : Req) (addr : Nat) (s : State) : Host.Outcome State Fault Refusal := .next (forceClear q addr s)

/-- The force commands that wait apply at boundary n: source 108 at a set or a clear. -/
def State.applyForces (s : State) (n : Nat) : State :=
  if s.cle.forceOps.isEmpty then s
  else
    let ops := s.cle.forceOps
    let l := forcesAfter s.cle.forces ops
    let s1 := { s with cle := { s.cle with forces := l, forceOps := [] } }
    let s2 := ((s1.showForceRegs.showForced).event 108)
    ops.foldl (fun s o => s.complete o.1 .ok (n % 2 ^ 32) 0) s2

/-! ### The boundary (R487, R490, R493) -/

/-- DEPEND (R489): a computed slot is bound to a CLE output, or a DO is sourced from the CLE. -/
def State.showDepend (s : State) : State :=
  s.putFlag Reg.CLE_STATUS_DEPEND
    ((s.slots.any fun x => (x.state == slShadow || x.state == slRunning) && x.img.bindings.any fun b => b.1 == 3) ||
      (List.range 8).any fun i => s.getA (Reg.PUB_DO_CFG_SRC i) == 1)

/-- The engine enters STOP: a cycle in progress is discarded, 0x0D01 clears. -/
def State.cleToStop (s : State) : State :=
  ({ (s.cleGo cleStop) with cle := { s.cle with work := { s.cle.work with stop := true, start := none } } }).clearFault 0x0D01 0

/-- The engine starts at boundary n, from the initial data where none has run or on a cold start (R490, R492). -/
def State.cleRun (s : State) (n : Nat) (cold : Bool) : State :=
  let w := { s.cle.work with start := some (s.cle.fresh || cold, cold), m0 := n }
  { s with cle := { s.cle with work := w, m0 := n, fresh := false } }.cleGo cleRunning

/-- A start or stop that waits, at boundary n. -/
def State.cleBound (s : State) (n : Nat) (c : Req × Bool × Bool) : State :=
  let (q, start, cold) := c
  if start then
    if s.cleSt = cleStop && s.cle.prog.isSome && s.flag Reg.CLE_CTRL_EN then
      (s.cleRun n cold).complete q .ok (n % 2 ^ 32) 0
    else s.complete q .aborted 0 0
  else
    (if s.cleSt = cleStop then s else s.cleToStop).complete q .ok (n % 2 ^ 32) 0

/-- The instance as the lead rod has it, after what this boundary changes. -/
def State.leadCle (s : State) (n : Nat) (p : CleImage) : Cle :=
  let d := match s.leadRod n with
    | some d => d
    | none => s.rod (s.donor.getD 0)
  cleChange p s.cle.work d.cle

/-- A pending write applies at the start of a cycle at or after AT, or in STOP at the boundary (R493). -/
def State.cleWriteDue (s : State) (n : Nat) : State :=
  match s.cle.write, s.cle.prog with
  | some (q, t, v, at'), some p =>
    let starts := cleStarts (s.leadCle n p) s.cle.work
    if s.cleSt = cleFaulted then { s with cle := { s.cle with write := none } }.complete q .aborted 0 0
    else if s.cleSt = cleStop || (starts && decide (at' ≤ n)) then
      (({ s with cle := { s.cle with write := none, work := { s.cle.work with write := some (t, v) } } }.event 107).complete q .ok
        (n % 2 ^ 32) 0)
    else s
  | some (q, _), none => { s with cle := { s.cle with write := none } }.complete q .aborted 0 0
  | none, _ => s

/-- The CLE at step 3 of boundary n: stops, starts, forces, writes; the start tick of a cycle shows. -/
def State.cleBoundary (s : State) (n : Nat) : State :=
  let w : CleWork := { boundary := n, period := s.get Reg.CLE_CFG_PERIOD, tolPct := s.get Reg.CLE_CFG_TOL_PCT,
                       tolCount := s.get Reg.CLE_CFG_TOL_COUNT, m0 := s.cle.m0, budget := s.get Reg.CLE_BUDGET_B }
  let ops := s.cle.bound
  let s0 := { s with cle := { s.cle with work := w, bound := [] } }
  let s1 := if s0.cle.stopDue then
      (if s0.cleSt = cleStop then s0 else s0.cleToStop) else s0
  let s1a := { s1 with cle := { s1.cle with stopDue := false, autostart := false } }
  let s1b := if s1.cle.autostart && s1a.cleSt = cleStop && s1a.cle.prog.isSome && s1a.flag Reg.CLE_CTRL_EN then s1a.cleRun n true else s1a
  let s2 := ops.foldl (fun s c => s.cleBound n c) s1b
  let s3 := s2.applyForces n
  let s4 := { s3 with cle := { s3.cle with work := { s3.cle.work with forces := s3.cle.forces } } }
  let s5 := s4.cleWriteDue n
  let s6 := s5.showDepend
  match s6.cle.prog with
  | some p =>
    if cleStarts (s6.leadCle n p) s6.cle.work then
      (s6.put Reg.CLE_START_LO_TICK (n % 2 ^ 32)).put Reg.CLE_START_HI_TICK (n / 2 ^ 32)
    else s6
  | none => s6

/-- Where no image is released, what the boundary brought reaches the rods without a chunk; a chunk not run for lack of an
image sets source 111 (R485). -/
def State.cleNoImage (s : State) : State :=
  match s.cle.prog with
  | some p =>
    let rods := s.core.rods.map fun (d : RodState) => { d with cle := cleEdge p s.cle.work d.cle }
    let s1 := { s with core := { s.core with rods := rods } }
    s1.eventIf (rods.any fun d => chunkDue d.cle) 111
  | none => s

end Sys2Proof.Machine
end

