-- ==== Sys2Proof/Machine/Comtrade.lean ====
section
/-! DEFINITION. The four parts of a record as bytes (R550): .cfg, .dat, .hdr and .inf. The line formats are those of IEEE C37.111-2013,
which R550 names; what R550 and that standard leave open is in assumption 20. -/

namespace Sys2Proof.Machine

/-! ### Text -/

/-- ASCII bytes of a text, of a number in decimal, of a number in decimal with at least n digits, and of a signed number. -/
def txt (s : String) : List Nat := s.toList.map Char.toNat
def decText (n : Nat) : List Nat := (Nat.toDigits 10 n).map Char.toNat
def padText (n x : Nat) : List Nat := let d := decText x; List.replicate (n - d.length) 48 ++ d
def intText (v : Int) : List Nat := if v < 0 then 45 :: decText v.natAbs else decText v.natAbs

/-- Texts joined by a separator. -/
def sepBy (sep : List Nat) : List (List Nat) → List Nat
  | [] => []
  | [x] => x
  | x :: l => x ++ sep ++ sepBy sep l

/-- Fields joined by commas, and a line that ends with CR LF. -/
def commas (l : List (List Nat)) : List Nat := sepBy [44] l
def lineOf (l : List Nat) : List Nat := l ++ [13, 10]

/-- A date and time of the 2013 edition for an instant in ns since 1970: dd/mm/yyyy,hh:mm:ss.nnnnnnnnn. -/
def dateText (ns : Nat) : List Nat :=
  let secs := ns / 1000000000
  let d := secs / 86400
  let (y, r) := yearOf (d / 365 + 1) 1970 d
  let (m, k) := monthOf y 11 1 r
  let t := secs % 86400
  padText 2 (k + 1) ++ [47] ++ padText 2 m ++ [47] ++ padText 4 y ++ [44] ++ padText 2 (t / 3600) ++ [58] ++ padText 2 (t / 60 % 60) ++
    [58] ++ padText 2 (t % 60) ++ [46] ++ padText 9 (ns % 1000000000)

/-- A time code for quarter hours: sign, hours, h, minutes. -/
def zoneText (q : Int) : List Nat :=
  [if q < 0 then 45 else 43] ++ decText (q.natAbs / 4) ++ [104] ++ padText 2 (q.natAbs % 4 * 15)

/-! ### The channels and rows of a part -/

/-- Installed analogue and binary channels of a list. -/
def anaChans (l : List RecChan) : List RecChan := l.filter fun c => !c.bin
def binChans (l : List RecChan) : List RecChan := l.filter fun c => c.bin

/-- Slice that owns a channel. -/
def chSlice (w0 : Nat) : Nat := w0 / 2 ^ 20 % 256

/-- Positions of the channels of one table that a slice may read (R551). -/
def ownPos (l : List RecChan) (slice : Nat) : List Nat :=
  (List.range l.length).filter fun k => slice == 0 || (l[k]?).any fun c => chSlice c.w0 == slice

/-- t_n of a row in ns, and of the first row of a record. -/
def rowNs (f n : Nat) : Nat := n * 1000000000 / f
def firstNs (r : StoredRec) : Nat := if r.type = 1 then (r.first + 399) / 400 * 400 else rowNs r.f r.first

/-- Rows of a wave capture (R545, R548). -/
def waveRows (r : StoredRec) : Nat := r.e / 400 + 1 - (r.first + 399) / 400

/-- Rows of a part. -/
def partRows (r : StoredRec) : Nat := if r.type = 1 then waveRows r else r.rows.length

/-- An instant of the record in UTC ns: never before 1970. -/
def utcOf (r : StoredRec) (ns : Nat) : Nat := ((ns : Int) - r.env.offset * 1000000000).toNat

/-! ### .cfg -/

/-- An analogue line of the .cfg: n, then its description, or the names of R550. -/
def anaLine (desc : Option RecDesc) (n i : Nat) : List Nat :=
  let d := desc.bind fun x => findKey Prod.fst i x.ana
  let w : List (List Nat) := match d with
    | some (_, c) => [c.id, c.phase, c.circuit, c.unit, c.a, c.b]
    | none => [65 :: padText 4 i, [], [], [], [49], [48]]
  let v : List (List Nat) := match d with
    | some (_, c) => [c.primary, c.secondary, c.ps]
    | none => [[49], [49], [80]]
  lineOf (commas ([decText n] ++ w ++ [[48], txt "-2147483647", txt "2147483647"] ++ v))

/-- A binary line of the .cfg, with normal state 0. -/
def binLine (desc : Option RecDesc) (n i : Nat) : List Nat :=
  let d := desc.bind fun x => findKey Prod.fst i x.bin
  let w : List (List Nat) := match d with
    | some (_, c) => [c.id, c.phase, c.circuit]
    | none => [68 :: padText 4 i, [], []]
  lineOf (commas ([decText n] ++ w ++ [[48]]))

/-- tmq_code at T0 (R550). -/
def tmqText (e : RecEnv) : List Nat :=
  if e.cls = clsLocked then [48] else if e.cls = clsHoldover then (if e.onRef then [52] else [53]) else [70]

/-- leapsec at T0 (R550). -/
def leapText (e : RecEnv) : List Nat :=
  if e.leap = 1 || e.leap = 2 then decText e.leap else if e.untrusted then [51] else [48]

/-- The .cfg for the channels with the indices `ai` and `bi`. -/
def cfgBytes (r : StoredRec) (ai bi : List Nat) : List Nat :=
  let e := r.env
  let desc := if r.type = 1 then none else e.desc
  let number := fun (l : List Nat) => (List.range l.length).zip l
  lineOf (commas [e.desc.elim [] RecDesc.station, decText e.serial, txt "2013"]) ++
  lineOf (commas [decText (ai.length + bi.length), decText ai.length ++ [65], decText bi.length ++ [68]]) ++
  ((number ai).map fun x => anaLine desc (x.1 + 1) x.2).flatten ++ ((number bi).map fun x => binLine desc (x.1 + 1) x.2).flatten ++
  lineOf (decText (e.desc.elim 50 RecDesc.lineFreq)) ++ lineOf (txt "1") ++
  lineOf (commas [decText r.f, decText (partRows r)]) ++ lineOf (dateText (utcOf r (firstNs r))) ++ lineOf (dateText (utcOf r r.t0)) ++
  lineOf (txt "BINARY32") ++ lineOf (txt "1") ++ lineOf (commas [txt "+0h00", zoneText e.zone]) ++
  lineOf (commas [tmqText e, leapText e])

/-! ### .dat -/

/-- A value of a row as R550 writes it. -/
def datValue (x : Int × Nat) : Nat :=
  if x.2 % 4 = 2 then 0x80000000 else if x.1 = -2147483648 then 0x80000001 else unsigned 32 x.1

/-- One row of the .dat for the channels at the positions a slice may read. -/
def datBytes (r : StoredRec) (pa pb : List Nat) (k : Nat) (row : RecRow) : List Nat :=
  let t := (roundDiv (((row.tick - r.first) * 1000000 : Nat) : Int) r.f).toNat
  let bits := (pb.zip (List.range pb.length)).foldl (fun (a : Nat) (p : Nat × Nat) => a + (row.bin >>> p.1) % 2 * 2 ^ p.2) 0
  le 4 (k + 1) ++ le 4 t ++ (pa.map fun p => le 4 (datValue (row.ana.getD p (0, 2)))).flatten ++ le (2 * ((pb.length + 15) / 16)) bits

/-- One row of the .dat of a wave capture. -/
def waveBytes (k : Nat) (w : WaveRow) : List Nat :=
  let bits := (List.range 16).foldl (fun a c => a + (w.bad >>> c) % 2 * 4 ^ c + (w.fill >>> c) % 2 * 2 * 4 ^ c) 0
  le 4 (k + 1) ++ le 4 (roundDiv ((400 * k : Nat) : Int) 1000).toNat ++
    ((List.range 16).map fun c => le 4 (unsigned 32 (w.vals.getD c 0))).flatten ++ le 4 bits

/-- The .dat of a record. -/
def datPart (r : StoredRec) (pa pb : List Nat) : List Nat :=
  if r.type = 1 then ((List.range (waveRows r)).map fun k => waveBytes k (r.wave.getD k {})).flatten
  else ((r.rows.zip (List.range r.rows.length)).map fun (p : RecRow × Nat) => datBytes r pa pb p.2 p.1).flatten

/-! ### .hdr and .inf -/

/-- A flag of KIND 5 byte 9 (R552). -/
def hasFlag (r : StoredRec) (b : Nat) : Bool := (r.flags >>> b) % 2 == 1

/-- A trigger: source code, unit or channel, instant in TAI ns, role. -/
def trigText (t : RecTrig) : List Nat :=
  sepBy [32] [decText t.src, decText t.unit, decText t.inst, txt (if t.role = 0 then "first" else if t.role = 1 then "extend" else "marked")]

/-- Actual pre-trigger length in ms. -/
def preMs (r : StoredRec) : Nat := (roundDiv ((r.t0 - firstNs r : Nat) : Int) 1000000).toNat

/-- The .hdr. -/
def hdrBytes (r : StoredRec) : List Nat :=
  let e := r.env
  let word := fun (b : Nat) (s : String) => if hasFlag r b then lineOf (txt s) else []
  lineOf (txt "serial number: " ++ decText e.serial) ++
  lineOf (txt "firmware: " ++ sepBy [46] [decText (e.fw / 2 ^ 24 % 256), decText (e.fw / 2 ^ 16 % 256), decText (e.fw % 2 ^ 16)]) ++
  lineOf (txt "configuration revision: " ++ decText e.rev) ++ lineOf (txt "record id: " ++ decText r.id) ++
  lineOf (txt "T0: " ++ dateText (utcOf r r.t0)) ++ lineOf (txt "pre-trigger ms: " ++ decText (preMs r)) ++
  (r.trigs.map fun t => lineOf (txt "trigger: " ++ trigText t)).flatten ++
  word 0 "TRUNCATED" ++ word 1 "STOPPED" ++ word 2 "PRE_SHORT"

/-- Runs of consecutive numbers of an ascending list, newest run first, as (first, last). -/
def addRun (l : List (Nat × Nat)) (n : Nat) : List (Nat × Nat) := match l with
  | (a, b) :: m => if b + 1 = n then (a, n) :: m else (n, n) :: l
  | [] => [(n, n)]
def runsOf (l : List Nat) : List (Nat × Nat) := (l.foldl addRun []).reverse

/-- Runs as text. -/
def runsText (l : List (Nat × Nat)) : List Nat := sepBy [59] (l.map fun x => decText x.1 ++ [45] ++ decText x.2)

/-- A key of the .inf. -/
def keyLine (k : String) (v : List Nat) : List Nat := lineOf (txt k ++ [61] ++ v)

/-- The rows of a record that have GAP or MISSED, and the ticks without a row (R541, R550), ascending. -/
def gapTicks (r : StoredRec) : List Nat :=
  (List.range (r.rows.length + r.gaps.length)).map (· + r.first) |>.filter fun n =>
    r.gaps.contains n || r.rows.any fun x => x.tick == n && x.flags % 8 != 0

/-- Rows of an analogue channel with questionable or substituted values. -/
def qualTicks (r : StoredRec) (p : Nat) : List Nat :=
  (r.rows.filter fun x => let q := (x.ana.getD p (0, 0)).2; q % 4 == 1 || q / 4 % 2 == 1).map RecRow.tick

/-- The .inf. -/
def infBytes (r : StoredRec) (pa : List Nat) : List Nat :=
  let b := fun (n : Nat) => decText (if hasFlag r n then 1 else 0)
  let ana := anaChans r.chans
  let qual := (pa.filter fun p => !(qualTicks r p).isEmpty).map fun p =>
    decText ((ana[p]?).elim 0 RecChan.idx) ++ [58] ++ runsText (runsOf (qualTicks r p))
  lineOf (txt "[Private Grialmide NRL-4812]") ++ keyLine "record_id" (decText r.id) ++
  keyLine "tick_first" (decText r.first) ++ keyLine "t0_tai_ns" (decText r.t0) ++
  keyLine "pre_ticks" (decText ((r.t0 * r.f / 1000000000) - r.first)) ++ keyLine "extended" (b 3) ++ keyLine "truncated" (b 0) ++
  keyLine "stopped" (b 1) ++ keyLine "triggers" (sepBy [59] (r.trigs.map trigText)) ++ keyLine "triggers_lost" (decText r.lost) ++
  keyLine "gaps" (runsText (runsOf (gapTicks r))) ++ keyLine "quality" (sepBy [124] qual) ++
  keyLine "mask" (sepBy [59] (r.viol.map fun v => sepBy [32] [decText v.1, decText v.2.1, decText v.2.2])) ++
  keyLine "wave" (sepBy [59] (r.waves.map decText)) ++
  keyLine "decision_offset_us" (decText (r.env.rho + (roundDiv 1000000 r.env.rate).toNat)) ++
  (if r.type = 1 then
    keyLine "arrival" (decText r.arrival) ++ keyLine "arrival_channel" (decText r.arrChan) ++
    keyLine "far_dt" (r.far.elim [] fun x => intText x.1) ++ keyLine "distance_dm" (r.far.elim [] fun x => decText x.2)
  else [])

/-- A part of a record for a slice (R550, R551): 0 .cfg, 1 .dat, 2 .hdr, 3 .inf. A wave capture has 16 analogue and 32 binary channels. -/
def partBytes (r : StoredRec) (slice part : Nat) : List Nat :=
  let ana := anaChans r.chans
  let bin := binChans r.chans
  let pa := ownPos ana slice
  let pb := ownPos bin slice
  let idx := fun (l : List RecChan) (p : Nat) => (l[p]?).elim 0 RecChan.idx
  if part = 0 then
    (if r.type = 1 then cfgBytes r (List.range 16) (List.range 32) else cfgBytes r (pa.map (idx ana)) (pb.map (idx bin)))
  else if part = 1 then datPart r pa pb
  else if part = 2 then hdrBytes r
  else infBytes r pa

end Sys2Proof.Machine
end

