-- ==== Sys2Proof/Machine/Recorder.lean ====
section
/-! DEFINITION. The disturbance and travelling-wave recorder (R524–R555). -/

namespace Sys2Proof.Machine

/-! ### Channels, rows and the ring (R524–R528) -/

/-- Recorder states (R532): DISARMED 0, ARMED 1, POST 2, REARM 3. -/
def State.recState (s : State) : Nat := s.get Reg.AQE_STATUS_STATE
def State.setRecState (s : State) (v : Nat) : State := s.put Reg.AQE_STATUS_STATE v

/-- The key of a channel in the list of installed channels: analogue before binary. -/
def recKey (c : RecChan) : Nat := (if c.bin then 2 ^ 20 else 0) + c.idx

/-- Row length R_B (R524). -/
def rowBytes (l : List RecChan) : Nat :=
  64 * ((64 + 5 * (anaChans l).length + 4 * (((binChans l).length + 31) / 32) + 63) / 64)

/-- Whether PRE_MS + MAX_MS fit seven eighths of the ring (R526). -/
def State.recFits (s : State) (l : List RecChan) : Bool :=
  decide ((s.get Reg.AQE_CAPT_PRE_MS + s.get Reg.AQE_OPT_MAX_MS) * s.tg.f * rowBytes l ≤ 7516192768 * 1000)

/-- Milliseconds of rows held. -/
def State.refreshAvail (s : State) : State :=
  s.put Reg.AQE_STATUS_PRE_AVAIL (min (s.aqe.rows.length * 1000 / s.tg.f) 65535)

/-- The ring is emptied (R525): the trigger units start re-armed. -/
def State.emptyRing (s : State) : State := { s with aqe := { s.aqe with rows := [], off := [] } }.refreshAvail

/-- The source and index of a channel, and whether it is valid. -/
def chSrc (w0 : Nat) : Nat := w0 / 2 ^ 28 % 8
def chIndex (w0 : Nat) : Nat := w0 % 2 ^ 20
def chEn (w0 : Nat) : Bool := w0 / 2 ^ 31 % 2 == 1

/-- Whether SRC and INDEX are in range (R527), with C channels in an image (R312) and a Q space of up to 256 words (R477). -/
def chRangeOk (cap : Nat) (bin : Bool) (w0 : Nat) : Bool :=
  let i := chIndex w0
  if bin then
    match chSrc w0 with
    | 0 => decide (i < 8)
    | 1 => decide (i < 32768)
    | 2 => decide (i < 8192)
    | 3 => decide (i < 4096)
    | 4 => i == 0
    | _ => false
  else
    match chSrc w0 with
    | 0 => decide (i < cap)
    | 1 | 3 | 4 => decide (i < 4096)
    | 2 => decide (i < 16384) && decide (i % 16 < 14)
    | 5 => decide (i < 16)
    | _ => false

/-- The channel as it stands after the installs that wait. -/
def State.chanNow (s : State) (bin : Bool) (i : Nat) : Option RecChan :=
  match (s.aqe.chPend.filter fun c => c.bin == bin && c.idx == i).getLast? with
  | some c => some c
  | none => s.aqe.chans.find? fun c => c.bin == bin && c.idx == i

/-- The channels after the installs that wait. -/
def State.chansNow (s : State) : List RecChan :=
  s.aqe.chPend.foldl (fun l c => if chEn c.w0 then setKey recKey c l else dropKey recKey (recKey c) l) s.aqe.chans

/-- CH_INSTALL (R526–R528, R161). -/
def chInstall (bin : Bool) (i : Nat) (s : State) : State :=
  let w0 := s.get Reg.AQE_CH_W0_WORD
  let w1 := s.get Reg.AQE_CH_W1_WORD
  let k := chSlice w0
  let c : RecChan := { bin := bin, idx := i, w0 := w0, w1 := w1 }
  let quota := if bin then Reg.SLC_SLICE_QC_RECB else Reg.SLC_SLICE_QC_RECA
  let old := (s.chanNow bin i).filter fun x => chEn x.w0
  let gain := chEn w0 && !(old.any fun x => chSlice x.w0 == k)
  let overs := gain && s.overQuota (quota k) 1
  let l := if chEn w0 then setKey recKey c s.chansNow else dropKey recKey (recKey c) s.chansNow
  if s.st = stBoot then s.reject 16 0x50 3
  else if s.recState ≠ 0 then s.reject 16 0x50 0
  else if (decide (4096 ≤ i) && !bin) || decide (8192 ≤ i) || !chRangeOk (capOf (s.get Reg.SVI_CFG_RATE)) bin w0 || (bin && decide (4 ≤ w1)) || (!bin && w1 ≠ 0) ||
      !s.sliceValid k || overs || !s.recFits l then (s.reject 16 0x50 1).eventIf overs 184
  else
    let s1 := match old with
      | some x => s.give (quota (chSlice x.w0)) 1
      | none => s
    let s2 := if chEn w0 then s1.take (quota k) 1 else s1
    { s2 with aqe := { s2.aqe with chPend := s2.aqe.chPend ++ [c] } }

def execChInstall (bin : Bool) (index : Nat) (s : State) : Host.Outcome State Fault Refusal := .next (chInstall bin index s)

/-- CH_READ (R527). -/
def chRead (bin : Bool) (i : Nat) (s : State) : State :=
  if s.st = stBoot then s.reject 16 0x50 3
  else
    let c := (s.aqe.chans.find? fun c => c.bin == bin && c.idx == i).getD ⟨bin, i, 0, 0⟩
    (s.put Reg.AQE_CH_W0_WORD c.w0).put Reg.AQE_CH_W1_WORD c.w1

def execChRead (bin : Bool) (index : Nat) (s : State) : Host.Outcome State Fault Refusal := .next (chRead bin index s)

/-- Channel installs take effect at a tick boundary and empty the ring (R525, R528). -/
def State.chanBoundary (s : State) : State :=
  if s.aqe.chPend.isEmpty then s
  else { s with aqe := { s.aqe with chans := s.chansNow, chPend := [] } }.emptyRing

/-! ### Mask points (R544) -/

/-- The points of an enabled mask ascend. -/
def pointsAscend (l : List (Nat × Int × Int × Int)) (first n : Nat) : Bool :=
  let o := (List.range n).map fun k => (findKey Prod.fst (first + k) l).elim (0 : Int) fun x => x.2.1
  (o.zip o.tail).all fun p => decide (p.1 < p.2)

/-- Whether every enabled mask has ascending points. -/
def State.masksOk (s : State) (l : List (Nat × Int × Int × Int)) : Bool :=
  (List.range 64).all fun m => !s.flag (Reg.AQE_MASK_CTRL_EN m) ||
    pointsAscend l (s.get (Reg.AQE_MASK_PTS_FIRST m)) (s.get (Reg.AQE_MASK_PTS_NPTS m))

/-- MPT_INSTALL (R528, R544). -/
def mptInstall (i : Nat) (s : State) : State :=
  let p := (i % 1024, s.getS Reg.AQE_MPT_OFS_O, s.getS Reg.AQE_MPT_UP_U, s.getS Reg.AQE_MPT_LO_L)
  let l := setKey Prod.fst p s.aqe.mpts
  if s.st = stBoot then s.reject 16 0x5C 3
  else if s.recState ≠ 0 then s.reject 16 0x5C 0
  else if !s.masksOk l then s.reject 16 0x5C 1
  else { s with aqe := { s.aqe with mpts := l } }

def execMptInstall (index : Nat) (s : State) : Host.Outcome State Fault Refusal := .next (mptInstall index s)

/-- MPT_READ (R544). -/
def mptRead (i : Nat) (s : State) : State :=
  if s.st = stBoot then s.reject 16 0x5C 3
  else
    let (_, o, u, l) := (findKey Prod.fst (i % 1024) s.aqe.mpts).getD (0, 0, 0, 0)
    ((s.put Reg.AQE_MPT_OFS_O (unsigned 32 o)).put Reg.AQE_MPT_UP_U (unsigned 32 u)).put Reg.AQE_MPT_LO_L (unsigned 32 l)

def execMptRead (index : Nat) (s : State) : Host.Outcome State Fault Refusal := .next (mptRead index s)

/-! ### Records -/

/-- A record by id, and its replacement. -/
def State.recOf (s : State) (id : Nat) : Option StoredRec := s.aqe.recs.find? fun r => r.id == id
def State.setRec (s : State) (r : StoredRec) : State :=
  let l := s.aqe.recs.map fun (x : StoredRec) => if x.id = r.id then r else x
  { s with aqe := { s.aqe with recs := l } }

/-- A new record id (R534); the sequence goes to the persistent store. -/
def State.newRecId (s : State) : Nat × State :=
  let n := if 2 ^ 20 - 1 ≤ s.aqe.seq then 1 else s.aqe.seq + 1
  (s.get Reg.AQE_NODE_NODE * 2 ^ 20 + n, { s with aqe := { s.aqe with seq := n } }.queueWrite (.misc 1 none))

/-- The group member sends a message on both ports of its path that are UP, from the port's address (R235, R535). -/
def State.grpSend (s : State) (type id inst frac chan dest : Nat) : State :=
  let m : GrpMsg := ⟨type, s.get Reg.AQE_GRP_GROUP, s.get Reg.AQE_NODE_NODE, id, inst, frac, chan, dest, true⟩
  ((pathPorts (s.get Reg.AQE_GRP_PATH)).filter s.portUp).foldl (fun (s : State) p => s.emit (.group p (s.ownAddr p) m)) s

/-- The recorder arms with a new id, or with one that an ARM message carries; the master sends ARM (R532, R536). -/
def State.recArm (s : State) (given : Option Nat) : State :=
  let (id, s1) : Nat × State := match given with
    | some id => (id, s)
    | none => s.newRecId
  let s2 := (s1.put Reg.AQE_REC_ID_ID id).setRecState 1
  if given.isNone && s2.flag Reg.AQE_GRP_EN && s2.flag Reg.AQE_GRP_MASTER then (s2.grpSend 0x30 id 0 0 0 0).event 127 else s2

/-- Bytes of a record's .dat for a set of channels (R550). -/
def datRow (chans : List RecChan) : Nat := 8 + 4 * (anaChans chans).length + 2 * (((binChans chans).length + 15) / 16)

/-- Length of the whole .dat of a record. -/
def datLen (r : StoredRec) : Nat := if r.type = 1 then 76 * waveRows r else r.rows.length * datRow r.chans

/-- The slices that own a channel of a record, slice 0 first (R552). -/
def recSlices (r : StoredRec) : List Nat :=
  0 :: (List.range 256).filter fun k => k ≠ 0 && r.chans.any fun c => chSlice c.w0 == k

/-- A record closes in the index: counted, source 120, EVQ entries of KIND 5 (R541, R552). -/
def State.recIndexed (s : State) (r : StoredRec) : State :=
  let s1 := ((s.setRec r).count Reg.AQE_RECORDS_COUNT).event 120
  (recSlices r).foldl (fun s k => s.post k 5 [(4, 4, r.id), (8, 1, r.type), (9, 1, r.flags), (12, 8, r.t0), (20, 8, datLen r)]) s1

/-- KIND 5 flag bits (R552). -/
def recFlag (r : StoredRec) (b : Nat) : StoredRec := if hasFlag r b then r else { r with flags := r.flags + 2 ^ b }

/-- A record in POST is truncated at its last committed segment (R532, R542). -/
def State.recTruncate (s : State) : State :=
  let s1 := match s.aqe.cur.bind s.recOf with
    | some r => s.recIndexed (recFlag { r with state := 2 } 0)
    | none => s
  let s2 := match s1.aqe.wave.bind s1.recOf with
    | some r => s1.recIndexed (recFlag { r with state := 2 } 0)
    | none => s1
  let s3 := { s2 with aqe := { s2.aqe with cur := none, settled := false, heldArm := none, disarm := false, wave := none,
                                           farPend := none } }
  ((s3.put Reg.AQE_STATUS_SETTLING 0).put Reg.AQE_STATUS_EXTENDED 0).put Reg.AQE_STATUS_WCAPT 0

/-- The recorder stops: disable, rate change or reset (R525, R532). -/
def State.recStop (s : State) : State := ((s.recTruncate).setRecState 0).emptyRing

/-! ### Triggers (R530–R539) -/

/-- A trigger is listed in a record (R538). -/
def listTrig (r : StoredRec) (t : RecTrig) : StoredRec :=
  if r.trigs.length < 1024 then { r with trigs := r.trigs ++ [t] } else { r with lost := r.lost + 1 }

/-- A local trigger is sent to the group (R532, R537). -/
def State.sendFire (s : State) (t : RecTrig) : State :=
  if s.flag Reg.AQE_GRP_EN && t.src ≠ 3 then
    (s.grpSend 0x31 (s.get Reg.AQE_REC_ID_ID) t.inst 0 0 0).count Reg.AQE_FIRE_TX_COUNT
  else s

/-- What a record keeps of the module (R550). -/
def State.recEnv (s : State) : RecEnv :=
  { serial := Config.serialNumber, fw := (s.rd Reg.KPR_FW_VERSION_MAJOR.addr).toNat, rev := s.get Reg.GLB_CFG_ACTIVE_REV,
    desc := s.boot.rev.bind Revision.desc, cls := s.get Reg.TIM_STATUS_CLASS, onRef := s.flag Reg.TIM_STATUS_SRC,
    leap := s.get Reg.RTC_UTC_OFFSET_LEAP, untrusted := s.flag Reg.TIM_STATUS_UNTRUSTED, offset := s.getS Reg.RTC_UTC_OFFSET_OFFSET,
    zone := s.getS Reg.RTC_UTC_OFFSET_ZONE, rho := s.get Reg.SVI_CFG_REL_OFFSET, rate := s.tg.f }

/-- A trigger reaches the recorder (R532, R537–R539). The journal entry of a blind one has the source as its code, the id of the record
just closed as its DETAIL and the trigger's instant as its TIME (R539, R669, assumption 78). -/
def State.recTrigger (s : State) (t : RecTrig) : State :=
  match s.recState with
  | 0 => s.count Reg.AQE_IGNORED_COUNT
  | 1 =>
    let id := s.get Reg.AQE_REC_ID_ID
    let r : StoredRec := { id := id, type := 0, f := s.tg.f, chans := s.aqe.chans, t0 := t.inst, e := 0, first := 0, trigs := [t], env := s.recEnv }
    let s1 := { s with aqe := { s.aqe with recs := r :: s.aqe.recs, cur := some id, postAt := s.ns, settled := false } }
    ((((s1.setRecState 2).put Reg.AQE_STATUS_SETTLING 1).put Reg.AQE_STATUS_EXTENDED 0).event 121).sendFire t
  | 2 =>
    match s.aqe.cur.bind s.recOf with
    | none => s
    | some r =>
      if !s.aqe.settled then
        ((s.setRec (listTrig { r with t0 := min r.t0 t.inst } { t with role := 2 }))).sendFire t
      else if r.t0 + 10000000 ≤ t.inst && !hasFlag r 3 then
        let e := min (r.e + 1000000 * s.get Reg.AQE_CAPT_POST_MS) (r.t0 + 1000000 * s.get Reg.AQE_OPT_MAX_MS)
        (s.setRec (listTrig (recFlag { r with e := e } 3) { t with role := 1 })).put Reg.AQE_STATUS_EXTENDED 1
      else s.setRec (listTrig r { t with role := 2 })
  | _ => ((s.journalAdd (.other 16 t.src (s.get Reg.AQE_REC_ID_ID) t.inst s.tickNow)).count Reg.AQE_BLIND_COUNT).event 122

/-- REC_FIRE (R530, R533). -/
def recFire (s : State) : State :=
  if s.st = stBoot || !s.flag Reg.AQE_CTRL_EN then s.reject 16 0x40 3 else s.recTrigger ⟨2, 0, s.ns, 0⟩

def execRecFire (s : State) : Host.Outcome State Fault Refusal := .next (recFire s)

/-- REC_ARM (R532, R533). -/
def recArmCmd (s : State) : State :=
  if s.st = stBoot || (s.flag Reg.AQE_GRP_EN && !s.flag Reg.AQE_GRP_MASTER) then s.reject 16 0x40 3
  else if !s.flag Reg.AQE_CTRL_EN then s
  else if s.recState = 0 || s.recState = 3 then s.recArm none
  else if s.recState = 2 then { s with aqe := { s.aqe with heldArm := some none } }
  else s

def execRecArm (s : State) : Host.Outcome State Fault Refusal := .next (recArmCmd s)

/-- REC_DISARM (R532). -/
def recDisarm (s : State) : State :=
  if s.st = stBoot then s.reject 16 0x40 3
  else if s.recState = 1 || s.recState = 3 then s.setRecState 0
  else if s.recState = 2 then { s with aqe := { s.aqe with disarm := true } }
  else s

def execRecDisarm (s : State) : Host.Outcome State Fault Refusal := .next (recDisarm s)

/-- REARM_TIMEOUT (R532). -/
def rearmTimeout (s : State) : State :=
  let s0 := if s.recState = 3 then s.advance ((s.aqe.rearmAt + 1000000 * s.get Reg.AQE_REARM_REARM_MS) * nsUnit) else s
  if s0.recState = 3 && s0.flag Reg.AQE_CTRL_AUTO_REARM && (!s0.flag Reg.AQE_GRP_EN || s0.flag Reg.AQE_GRP_MASTER) then s0.recArm none
  else s0

def execRearmTimeout (s : State) : Host.Outcome State Fault Refusal := .next (rearmTimeout s)

/-! ### Group messages (R535, R536) -/

/-- A message that counts in FIRE_BAD. -/
def State.fireBad (s : State) : State := (s.count Reg.AQE_FIRE_BAD_BAD).event 127

/-- Whether a message is good; a copy of one accepted already is discarded without a count: none. -/
def State.grpCheck (s : State) (m : GrpMsg) : Option Bool :=
  if m.group ≠ s.get Reg.AQE_GRP_GROUP || !m.tagOk || m.node = s.get Reg.AQE_NODE_NODE then some false
  else if s.aqe.seen.contains (m.type, m.node, m.id, m.inst) then none
  else some true

/-- An accepted message is remembered. -/
def State.grpSeen (s : State) (m : GrpMsg) : State :=
  { s with aqe := { s.aqe with seen := (m.type, m.node, m.id, m.inst) :: s.aqe.seen } }

/-- GROUP_ARM_RX (R532, R536, R555). -/
def groupArmRx (m : GrpMsg) (s : State) : State :=
  if !s.flag Reg.AQE_GRP_EN || !s.flag Reg.AQE_CTRL_EN then s
  else
    match s.grpCheck m with
    | none => s
    | some false => s.fireBad
    | some true =>
      let s1 := ((s.grpSeen m).event 127).clearCode 0x1004
      if s.flag Reg.AQE_GRP_MASTER then s1
      else if s1.recState = 0 || s1.recState = 3 then s1.recArm (some m.id)
      else if s1.recState = 2 then { s1 with aqe := { s1.aqe with heldArm := some (some m.id) } }
      else s1

def execGroupArmRx (m : GrpMsg) (s : State) : Host.Outcome State Fault Refusal := .next (groupArmRx m s)

/-- GROUP_FIRE_RX (R535, R536): `now` is the instant of arrival in ns. -/
def groupFireRx (m : GrpMsg) (now : Nat) (s : State) : State :=
  if !s.flag Reg.AQE_GRP_EN || !s.flag Reg.AQE_CTRL_EN then s
  else
    let s0 := s.advance (now * nsUnit)
    match s0.grpCheck m with
    | none => s0
    | some false => s0.fireBad
    | some true =>
      if m.id ≠ s0.get Reg.AQE_REC_ID_ID then s0.fireBad
      else
        let s1 := (s0.grpSeen m).count Reg.AQE_FIRE_RX_COUNT
        let s2 := if m.inst + 10000000 < now then s1.count Reg.AQE_FIRE_BAD_LATE else s1
        s2.recTrigger ⟨3, m.node, m.inst, 0⟩

def execGroupFireRx (m : GrpMsg) (now : Nat) (s : State) : Host.Outcome State Fault Refusal := .next (groupFireRx m now s)

/-! ### A row (R524, R527) -/

/-- The validity code of a quality word (R357). -/
def validityOf (q : Nat) : Nat := if q % 4 = 0 then 0 else if q % 4 = 3 then 1 else 2

/-- The value and quality byte of an image entry; one that is not listed is 0 and invalid (R306, R524). -/
def imgValue (l : List ImgChan) (i : Nat) : Int × Nat :=
  match findKey ImgChan.idx i l with
  | some c => (c.val, validityOf c.q + c.q / 2 ^ 16 % 4 * 4)
  | none => (0, 2)

/-- Quality byte of a channel whose generation was lost. -/
def gapByte : Nat := 18

/-- An analogue channel in a row. -/
def State.anaValue (s : State) (n : Nat) (img : Option TickImage) (res : Option ResultGen) (c : RecChan) : Int × Nat :=
  let i := chIndex c.w0
  match chSrc c.w0 with
  | 0 => (img.elim (0, gapByte) fun g => imgValue g.chans i)
  | 1 => (img.elim (0, gapByte) fun g => imgValue g.members i)
  | 2 => res.elim (0, gapByte) fun g => match findKey Prod.fst (i / 16) g.records with
    | some (_, w) => (signed 32 (w.getD (2 + i % 16) 0), if w.getD 0 0 / 2 ^ 29 % 2 = 1 then 1 else 0)
    | none => (0, 2)
  | 5 => match findKey Prod.fst n s.mod.fine with
    | some (_, l) => let (v, bad) := l.getD i (0, true); (v, if bad then 2 else 0)
    | none => (0, 2)
  | k => res.elim (0, gapByte) fun g => match g.entries.find? fun e => e.getD 0 0 % 65536 == i with
    | some e => (signed 32 (e.getD (if k = 3 then 1 else 2) 0), e.getD 0 0 / 2 ^ 24 % 4)
    | none => (0, 2)

/-- A binary channel in a row. -/
def binValue (img : Option TickImage) (res : Option ResultGen) (c : RecChan) : Bool :=
  let i := chIndex c.w0
  match chSrc c.w0 with
  | 0 => img.any fun g => (g.di >>> i) % 2 == 1
  | 1 => res.any fun g => (findKey Prod.fst (i / 32) g.records).any fun r => (r.2.getD 1 0 >>> (i % 32)) % 2 == 1
  | 2 => res.any fun g => (g.cle.getD (i / 32) 0 >>> (i % 32)) % 2 == 1
  | 3 => img.any fun g => (findKey ImgChan.idx i g.members).any fun m => m.val ≠ 0
  | _ => res.any fun g => g.missed

/-- The row of a tick, from the generations that the mirrors still hold. -/
def State.recRow (s : State) (n : Nat) : RecRow :=
  let img := s.core.imageMirror.find? fun g => g.tick == n
  let res := s.core.resultMirror.find? fun g => g.tick == n
  let bins := binChans s.aqe.chans
  { tick := n,
    flags := (if img.isNone then 1 else 0) + (if res.isNone then 2 else 0) + (if res.any fun g => g.missed then 4 else 0),
    ana := (anaChans s.aqe.chans).map (s.anaValue n img res),
    bin := ((bins.zip (List.range bins.length)).map fun (p : RecChan × Nat) => if binValue img res p.1 then 2 ^ p.2 else 0).sum }

/-- A valid sample of a channel in the row of a tick. -/
def State.sampleAt (s : State) (pos n : Nat) : Option Int :=
  match s.aqe.rows.find? fun r => r.tick == n with
  | none => none
  | some r => match r.ana[pos]? with
    | some (v, q) => if q % 4 = 2 then none else some v
    | none => none

/-- What a trigger unit makes of a sample: whether it triggers, whether it re-arms, its instant in ns (R531). -/
def State.unitTest (s : State) (t pos n : Nat) (x : Int) : Bool × Bool × Nat :=
  let th := signed 32 (s.getA (Reg.AQE_TRG_TH_TH t))
  let hy : Int := (s.getA (Reg.AQE_TRG_HY_HY t) : Nat)
  let f := s.tg.f
  let at' := n * 1000000000 / f
  let prev := if n = 0 then none else s.sampleAt pos (n - 1)
  let interp := match prev with
    | none => at'
    | some y =>
      if x = y then at'
      else
        let num := 1024 * (th - y)
        let phi := if 0 < x - y then roundDiv num (x - y).toNat else roundDiv (-num) (y - x).toNat
        let p := (max 0 (min 1024 phi)).toNat
        ((n - 1) * 1024 + p) * 1000000000 / (1024 * f)
  let diff := fun (d : Option Int) => match d with
    | none => (false, false, at')
    | some d => (decide (th ≤ d), decide (d < th - hy), at')
  match s.getA (Reg.AQE_TRG_CTRL_KIND t) with
  | 0 => (decide (th ≤ x), decide (x < th - hy), interp)
  | 1 => (decide (x ≤ th), decide (th + hy < x), interp)
  | 2 => diff (prev.map fun y => x - y)
  | 3 => diff (prev.map fun y => y - x)
  | _ =>
    let p := s.getA (Reg.AQE_TRG_CTRL_P t)
    diff ((if n < p then none else s.sampleAt pos (n - p)).map fun y => ((x - y).natAbs : Int))

/-- A trigger unit on the newest row. -/
def State.runUnit (s : State) (n t : Nat) : State :=
  if s.getA (Reg.AQE_TRG_CTRL_EN t) = 0 then s
  else
    match (anaChans s.aqe.chans).findIdx? fun c => c.idx == s.getA (Reg.AQE_TRG_CTRL_CH t) with
    | none => s
    | some pos =>
      match s.sampleAt pos n with
      | none => s
      | some x =>
        let (hit, rearm, inst) := s.unitTest t pos n x
        if s.aqe.off.contains t then
          if rearm then { s with aqe := { s.aqe with off := s.aqe.off.filter (· ≠ t) } } else s
        else if hit then { s with aqe := { s.aqe with off := t :: s.aqe.off } }.recTrigger ⟨0, t, inst, 0⟩
        else s

/-- Binary edges between the previous row and the newest (R530). -/
def State.runEdges (s : State) (new : RecRow) (old : Option RecRow) : State :=
  match old with
  | none => s
  | some o =>
    if o.flags % 4 ≠ 0 || new.flags % 4 ≠ 0 then s
    else
      let bins := binChans s.aqe.chans
      (bins.zip (List.range bins.length)).foldl (fun (s : State) (p : RecChan × Nat) =>
        let a := (o.bin >>> p.2) % 2
        let b := (new.bin >>> p.2) % 2
        let fire := (a = 0 && b = 1 && p.1.w1 / 2 % 2 = 1) || (a = 1 && b = 0 && p.1.w1 % 2 = 1)
        if fire then s.recTrigger ⟨1, p.1.idx, new.tick * 1000000000 / s.tg.f, 0⟩ else s) s

/-! ### Mask tests (R544) -/

/-- The bounds of a mask at an offset from the tick of T0; none outside its points. -/
def maskBounds (pts : List (Int × Int × Int)) (o : Int) : Option (Int × Int) :=
  match (pts.zip pts.tail).find? fun p => decide (p.1.1 ≤ o) && decide (o ≤ p.2.1) with
  | none => match pts with
    | [(oa, u, l)] => if o = oa then some (u, l) else none
    | _ => none
  | some ((oa, ua, la), (ob, ub, lb)) =>
    let d := (ob - oa).toNat
    some (ua + roundDiv ((ub - ua) * (o - oa)) d, la + roundDiv ((lb - la) * (o - oa)) d)

/-- A row of a record against one mask. -/
def State.maskTest (s : State) (row : RecRow) (r : StoredRec) (m : Nat) : Bool :=
  let first := s.get (Reg.AQE_MASK_PTS_FIRST m)
  let pts := (List.range (s.get (Reg.AQE_MASK_PTS_NPTS m))).filterMap fun k =>
    (findKey Prod.fst (first + k) s.aqe.mpts).map fun x => (x.2.1, x.2.2.1, x.2.2.2)
  match (anaChans r.chans).findIdx? fun c => c.idx == s.get (Reg.AQE_MASK_CTRL_CH m) with
  | none => false
  | some pos =>
    let (x, q) := row.ana.getD pos (0, 2)
    let t0 := r.t0 * r.f / 1000000000
    match maskBounds pts ((row.tick : Int) - (t0 : Int)) with
    | none => false
    | some (u, l) => q % 4 ≠ 2 && (decide (u < x) || decide (x < l))

/-- A row is tested against every enabled mask (R544). -/
def State.maskRow (s : State) (id : Nat) (row : RecRow) : State :=
  if !s.flag Reg.AQE_OPT_MASK_EN then s
  else
    (List.range 64).foldl (fun s m =>
      match s.recOf id with
      | none => s
      | some r =>
        if s.flag (Reg.AQE_MASK_CTRL_EN m) && r.first ≤ row.tick && rowNs r.f row.tick ≤ r.e && s.maskTest row r m then
          let firstOfRec := r.viol.isEmpty
          let v := match findKey Prod.fst m r.viol with
            | some (_, t, k) => (m, t, k + 1)
            | none => (m, row.tick, 1)
          let r1 := { r with viol := setKey Prod.fst v r.viol }
          if !firstOfRec then s.setRec r1
          else
            let ch := s.get (Reg.AQE_MASK_CTRL_CH m)
            let x := ((anaChans r.chans).findIdx? fun c => c.idx == ch).elim (0 : Int) fun p => (row.ana.getD p (0, 0)).1
            let r2 := if s.flag Reg.AQE_OPT_STOP_VIOL then recFlag { r1 with e := rowNs r.f row.tick } 1 else r1
            ((((s.setRec r2).put Reg.AQE_VIOL_VALID 1).put Reg.AQE_VIOL_CH ch).put Reg.AQE_VIOL_VAL_X (unsigned 32 x)).put
              Reg.AQE_VIOL_TICK_TICK row.tick |>.event 124
        else s) s

/-! ### RECORDER_ROW -/

/-- The first tick whose row is pinned by the record in POST (R541). -/
def State.pinFrom (s : State) : Option Nat :=
  match s.aqe.cur.bind s.recOf with
  | none => none
  | some r =>
    if hasFlag r 4 then none
    else if s.aqe.settled then some (((r.first * 1000000000 + r.segs * 1000000000 * r.f) + 999999999) / 1000000000)
    else some (((r.t0 - 1000000 * s.get Reg.AQE_CAPT_PRE_MS) * r.f + 999999999) / 1000000000)

/-- Lost generations are counted for 0x1003 (R555). -/
def State.recLoss (s : State) (k : Nat) : State :=
  if k = 0 then s
  else
    let l := List.replicate k s.time ++ s.aqe.lossAt.filter fun t => decide (s.time < t + 1000000000 * nsUnit)
    let s1 := { s with aqe := { s.aqe with lossAt := l.take 16, lostGens := s.aqe.lostGens + k } }
    if 10 ≤ l.length then s1.raise1 0x1003 1 s1.aqe.lostGens else s1

/-- A row enters the ring, without the oldest one where the ring is full, and its triggers run (R524, R530). -/
def State.recEnter (s : State) (n : Nat) (full : Bool) : State :=
  let row := s.recRow n
  let prev := s.aqe.rows.head?.filter fun r => r.tick + 1 == n
  let keep := if full then s.aqe.rows.dropLast else s.aqe.rows
  let s1 := { s with aqe := { s.aqe with rows := row :: keep } }.refreshAvail
  let gap := row.flags % 4 ≠ 0
  let s2 := (if gap then s1.count Reg.AQE_GAPS_COUNT else s1).eventIf gap 123
  let s3 := s2.recLoss (row.flags % 2 + row.flags / 2 % 2)
  let s4 := ((List.range 64).foldl (fun s t => s.runUnit n t) s3).runEdges row prev
  match s4.aqe.cur with
  | some id => if s4.aqe.settled then s4.maskRow id row else s4
  | none => s4

/-- A row that finds the ring full of rows that a record pins (R541): a gap of the record, source 123, fault 0x1006. -/
def State.recNoRoom (s : State) (n : Nat) : State :=
  let s1 := { s with aqe := { s.aqe with noRows := s.aqe.noRows + 1 } }
  let s2 := match s1.aqe.cur.bind s1.recOf with
    | some r => s1.setRec { r with gaps := r.gaps ++ [n] }
    | none => s1
  (s2.event 123).raise1 0x1006 1 s2.aqe.noRows

/-- The row of tick n enters the ring and its triggers run (R524, R530, R541). -/
def recorderRow (n : Nat) (s : State) : State :=
  if !s.flag Reg.AQE_CTRL_EN || !s.tg.running || (s.aqe.rows.head?.any fun r => decide (n ≤ r.tick)) then s
  else
    let full := decide (2 ^ 33 / rowBytes s.aqe.chans ≤ s.aqe.rows.length)
    let pinned := full && (match s.pinFrom, s.aqe.rows.getLast? with
      | some p, some r => decide (p ≤ r.tick)
      | _, _ => false)
    if pinned then s.recNoRoom n else s.recEnter n full

def execRecorderRow (tick : Nat) (s : State) : Host.Outcome State Fault Refusal := .next (recorderRow tick s)

/-! ### Wave captures (R546–R549) -/

/-- A wave capture opens around an instant in 2^-16 ns (R548). -/
def State.openWave (s : State) (arrival chan : Nat) : State :=
  let (id, s1) := s.newRecId
  let ns := arrival / 65536
  let r : StoredRec := { id := id, type := 1, f := 2500000, chans := [], t0 := ns, first := ns - 1000 * s.get Reg.AQE_WAVE_WPRE_US,
                         e := ns + 1000 * s.get Reg.AQE_WAVE_WPOST_US, arrival := arrival, arrChan := chan, env := s.recEnv }
  let s2 := { s1 with aqe := { s1.aqe with recs := r :: s1.aqe.recs, wave := some id } }.put Reg.AQE_STATUS_WCAPT 1
  match s2.aqe.cur.bind s2.recOf with
  | some d => s2.setRec { d with waves := d.waves ++ [id] }
  | none => s2

/-- The wave path runs (R545). -/
def State.waveOn (s : State) : Bool := s.flag Reg.AQE_CTRL_EN && s.flag Reg.AQE_CTRL_WAVE_EN && s.flag Reg.MOD_CTRL_WAVE_EN

/-- The arrival of a detection in 2^-16 ns, if it is one (R546). A blocked detector detects nothing until it has rested. -/
def State.arrivalOf (s : State) (d : WaveDet) : Option Nat :=
  let wth := s.get Reg.AQE_WDET_WTH
  if 15 < d.chan || (s.aqe.blocked.contains d.chan && !d.rested) || (s.get Reg.AQE_WDET_MASK >>> d.chan) % 2 = 0 || !d.clear || !(decide (d.prev < wth) && decide (wth ≤ d.cur)) then none
  else
    let phi := (roundDiv (1024 * ((wth : Int) - (d.prev : Int))) (d.cur - d.prev)).toNat
    let a : Int := (d.tau * 65536 + phi * 400 * 64 : Nat) - roundDiv (s.getS (Reg.AQE_WDELAY_D d.chan) * 65536) 10
    some a.toNat

/-- Δ between the own and the far arrival gives the distance (R549). -/
def State.locate (s : State) (own far : Nat) : State :=
  let d : Int := (own : Int) - (far : Int)
  let len := s.get Reg.AQE_TWL_LEN_LEN
  let vel := s.get Reg.AQE_TWL_VEL_VEL
  let ok := decide (d.natAbs * (10 * vel) ≤ (len * 1000000000 + 200 * 10 * vel) * 65536)
  let s1 := { s with aqe := { s.aqe with farPend := none, farRx := none } }.put Reg.AQE_TWL_RESULT_VALID 1
  if ok then
    let l := roundDiv ((len : Int) * 1000000000 * 65536 + (vel : Int) * d * 10) (2 * 1000000000 * 65536)
    let dist := (max 0 (min (len : Int) l)).toNat
    let s2 := match s1.aqe.wave.bind s1.recOf with
      | some r => s1.setRec { r with far := some (d, dist) }
      | none => s1
    (((s2.put Reg.AQE_TWL_RESULT_STATUS 0).put Reg.AQE_TWL_RESULT_DIST dist).put Reg.AQE_TWL_DT_DT
      (unsigned 32 (saturate 32 (roundDiv d 4096)))).event 125
  else (((s1.put Reg.AQE_TWL_RESULT_STATUS 1).put Reg.AQE_TWL_RESULT_DIST s1.free).drawn).event 125

/-- The detections of an event (R546): those that are arrivals within 20 µs of the first. -/
def State.eventDets (s : State) (dets : List WaveDet) : List WaveDet :=
  let l := dets.filter fun d => (s.arrivalOf d).isSome
  l.filter fun d => l.all fun x => decide (d.tau ≤ x.tau + 20000)

/-- The earliest arrival of an event (R546), with its channel. -/
def State.firstArrival (s : State) (dets : List WaveDet) : Option (Nat × Nat) :=
  ((s.eventDets dets).filterMap fun d => (s.arrivalOf d).map fun a => (a, d.chan)).foldl (fun (m : Option (Nat × Nat)) x => match m with
    | none => some x
    | some y => if x.1 < y.1 then some x else m) none

/-- A wave capture opens for an arrival, or the one that runs lists it (R548). -/
def State.waveOpened (s : State) (a chan : Nat) : State :=
  match s.aqe.wave with
  | none => s.openWave a chan
  | some id => match s.recOf id with
    | some r => s.setRec (listTrig r ⟨4, chan, a / 65536, 2⟩)
    | none => s

/-- The arrival goes to the far end, or meets the far arrival that has come already (R549). -/
def State.waveFar (s : State) (a chan : Nat) : State :=
  let node := s.get Reg.AQE_NODE_FAR_NODE
  if node = 0xFFF then s
  else
    let s1 := s.grpSend 0x32 (s.get Reg.AQE_REC_ID_ID) (a / 65536) (a % 65536) chan node
    match s1.aqe.farRx with
    | some (t, b) => if s1.ns ≤ t + 20000000 then s1.locate a b else { s1 with aqe := { s1.aqe with farPend := some a, farRx := none } }
    | none => { s1 with aqe := { s1.aqe with farPend := some a } }

/-- An arrival may trigger the recorder, whose record then lists the wave capture of the same event; it opens a wave capture or joins the
one that is open, and goes to the far end (R546, R548, R549). -/
def State.waveSeen (s : State) (a chan : Nat) : State :=
  let s0 := (s.advance (a / 65536 * nsUnit)).event 125
  let s1 := if s0.flag Reg.AQE_OPT_WFIRE then s0.recTrigger ⟨4, chan, a / 65536, 0⟩ else s0
  (s1.waveOpened a chan).waveFar a chan

/-- WAVEFRONT_DETECT (R546, R548, R549): the detections within 20 µs of the first; their detectors are blocked. -/
def wavefrontDetect (dets : List WaveDet) (s : State) : State :=
  if !s.waveOn then s
  else match s.firstArrival dets with
    | none => s
    | some (a, chan) =>
      let l := (s.eventDets dets).map WaveDet.chan
      { s with aqe := { s.aqe with blocked := s.aqe.blocked.filter (fun c => !l.contains c) ++ l } }.waveSeen a chan

def execWavefrontDetect (dets : List WaveDet) (s : State) : Host.Outcome State Fault Refusal := .next (wavefrontDetect dets s)

/-- WAVE_TS_RX (R549). -/
def waveTsRx (m : GrpMsg) (now : Nat) (s : State) : State :=
  let s0 := s.advance (now * nsUnit)
  if !s0.flag Reg.AQE_CTRL_EN then s0
  else
    match s0.grpCheck m with
    | none => s0
    | some false => s0.fireBad
    | some true =>
      if m.node ≠ s0.get Reg.AQE_NODE_FAR_NODE || m.dest ≠ s0.get Reg.AQE_NODE_NODE then s0.grpSeen m
      else
        let b := m.inst * 65536 + m.frac % 65536
        match s0.aqe.farPend with
        | some a => if now ≤ a / 65536 + 20000000 then (s0.grpSeen m).locate a b else s0.grpSeen m
        | none => { s0.grpSeen m with aqe := { (s0.grpSeen m).aqe with farRx := some (now, b) } }

def execWaveTsRx (m : GrpMsg) (now : Nat) (s : State) : Host.Outcome State Fault Refusal := .next (waveTsRx m now s)

/-- FAR_ARRIVAL_TIMEOUT (R549): DIST is not stated and is free (assumption 5). -/
def farArrivalTimeout (s : State) : State :=
  match s.aqe.farPend with
  | none => s
  | some a =>
    let s1 := { s.advance ((a / 65536 + 20000000) * nsUnit) with aqe := { s.aqe with farPend := none } }
    (((s1.put Reg.AQE_TWL_RESULT_VALID 1).put Reg.AQE_TWL_RESULT_STATUS 2).put Reg.AQE_TWL_RESULT_DIST s1.free).drawn.event 125

def execFarArrivalTimeout (s : State) : Host.Outcome State Fault Refusal := .next (farArrivalTimeout s)

/-! ### Settlement, flash and close (R537, R541–R543) -/

/-- A record settles (R529, R537, R544, R548): its first row, its end, SHORT where the ring does not reach back, the rows held
against the masks, and a wave capture where one belongs to a trigger. -/
def State.settle (s0 : State) (r : StoredRec) : State :=
  let want := r.t0 - 1000000 * s0.get Reg.AQE_CAPT_PRE_MS
  let n0 := (want * r.f + 999999999) / 1000000000
  let oldest := (s0.aqe.rows.getLast?).elim n0 RecRow.tick
  let short := decide (n0 < oldest)
  let r1 := { r with first := max n0 oldest, e := r.t0 + 1000000 * s0.get Reg.AQE_CAPT_POST_MS }
  let s1 := ({ s0 with aqe := { s0.aqe with settled := true } }.setRec (if short then recFlag r1 2 else r1)).put
    Reg.AQE_STATUS_SETTLING 0
  let s2 := s1.aqe.rows.reverse.foldl (fun s row => s.maskRow r.id row) s1
  if s2.flag Reg.AQE_OPT_WAVE_ON_TRIG && s2.waveOn && s2.aqe.wave.isNone then s2.openWave (r.t0 * 65536) 0 else s2

/-- SETTLEMENT_END (R529): 10 ms after the trigger. -/
def settlementEnd (s : State) : State :=
  match s.aqe.cur.bind s.recOf with
  | none => s
  | some r => if s.aqe.settled then s else (s.advance ((s.aqe.postAt + 10000000) * nsUnit)).settle r

def execSettlementEnd (s : State) : Host.Outcome State Fault Refusal := .next (settlementEnd s)

/-- Space in flash for MiB, from deletable records, oldest first (R543); none when it cannot be had. -/
def State.flashRoom (s : State) (mib : Nat) : List StoredRec → Option State
  | [] => if mib ≤ s.get Reg.AQE_FLASH_FREE then some s else none
  | r :: l =>
    if mib ≤ s.get Reg.AQE_FLASH_FREE then some s
    else if r.state ≠ 0 && !r.keep && r.mib ≠ 0 then
      let recs := s.aqe.recs.filter fun (x : StoredRec) => x.id ≠ r.id
      State.flashRoom ({ s with aqe := { s.aqe with recs := recs } }.put Reg.AQE_FLASH_FREE (s.get Reg.AQE_FLASH_FREE + r.mib)) mib l
    else State.flashRoom s mib l

/-- A record is not stored (R543, R552): its rows are no longer pinned. -/
def State.notStored (s : State) (r : StoredRec) (code cls detail : Nat) : State :=
  ((s.setRec (recFlag r 4)).event 126).raise1 code cls detail

/-- The rows of a record's next second (R541). -/
def State.segRows (s : State) (r : StoredRec) : List RecRow :=
  let lo := r.first * 1000000000 + r.segs * 1000000000 * r.f
  (s.aqe.rows.filter fun x => r.type == 0 && decide (lo ≤ x.tick * 1000000000) &&
    decide (x.tick * 1000000000 < lo + 1000000000 * r.f) && decide (rowNs r.f x.tick ≤ r.e)).reverse

/-- MiB of a record's next segment. -/
def State.segMib (s : State) (r : StoredRec) : Nat :=
  ((if r.type = 1 then 34 * waveRows r else (s.segRows r).length * rowBytes r.chans) + 1048575) / 1048576

/-- A segment of a record is durable in the room made for it. -/
def State.segStored (s2 : State) (r : StoredRec) (rows : List RecRow) (mib : Nat) (wave : List WaveRow) : State :=
  (s2.put Reg.AQE_FLASH_FREE (s2.get Reg.AQE_FLASH_FREE - mib)).setRec
    { r with rows := r.rows ++ rows, segs := r.segs + 1, mib := r.mib + mib, wave := if r.type = 1 then wave else r.wave }

/-- A record has closed: stored, it clears 0x1001 and 0x1005 (R555); not stored, it leaves the list. -/
def State.recKept (s : State) (r : StoredRec) : State :=
  if hasFlag r 4 then { s with aqe := { s.aqe with recs := s.aqe.recs.filter fun (x : StoredRec) => x.id ≠ r.id } }
  else (s.clearFault 0x1001 0).clearFault 0x1005 0

/-- FLASH_SEGMENT_COMMIT (R541, R543, R555): the next second of a record, or the whole of a wave capture, becomes durable;
`wear` is the share of cycles used, `failed` the block of a write failure, `wave` what the wave ring holds of a capture. -/
def flashSegmentCommit (id wear : Nat) (failed : Option Nat) (wave : List WaveRow) (s : State) : State :=
  match s.recOf id with
  | none => s
  | some r =>
    if r.state ≠ 0 || hasFlag r 4 || (r.type = 0 && !s.aqe.settled) then s
    else
      let s0 := s.put Reg.AQE_FLASH_WEAR wear
      let s1 := if 800 ≤ wear && !s0.isActive 0x1002 0 then (s0.raise1 0x1002 1 wear).event 126 else s0
      match failed with
      | some b => s1.notStored r 0x1005 2 b
      | none =>
        if 1000 ≤ wear then s1.notStored r 0x1005 2 0xFFFF
        else
          match s1.flashRoom (s1.segMib r) s1.aqe.recs.reverse with
          | none => s1.notStored r 0x1001 1 id
          | some s2 => s2.segStored r (s1.segRows r) (s1.segMib r) wave

def execFlashSegmentCommit (id wear : Nat) (x : SegWrite) (s : State) : Host.Outcome State Fault Refusal :=
  .next (flashSegmentCommit id wear x.failed x.wave s)

/-- Whether every segment of a record is committed, or it is not stored. -/
def recComplete (r : StoredRec) : Bool :=
  hasFlag r 4 || (if r.type = 1 then decide (0 < r.segs)
    else decide (r.e * r.f < r.first * 1000000000 + r.segs * 1000000000 * r.f))

/-- RECORD_CLOSE (R532, R541): E + 1 ms has passed, or a violation stops the record. -/
def recordClose (s : State) : State :=
  match s.aqe.cur.bind s.recOf with
  | none => s
  | some r =>
    if !s.aqe.settled || !recComplete r then s
    else
      let s0 := if hasFlag r 1 then s else s.advance ((r.e + 1000000) * nsUnit)
      let s1 := (s0.recIndexed { r with state := 1 }).recKept r
      let held := s1.aqe.heldArm
      let gone := s1.aqe.disarm
      let s2 := { s1 with aqe := { s1.aqe with cur := none, settled := false, heldArm := none, disarm := false,
                                               rearmAt := s1.ns } }
      let s3 := (s2.put Reg.AQE_STATUS_EXTENDED 0)
      if gone then s3.setRecState 0
      else match held with
        | some a => s3.recArm a
        | none => s3.setRecState 3

def execRecordClose (s : State) : Host.Outcome State Fault Refusal := .next (recordClose s)

/-- WAVE_CAPTURE_CLOSE (R548). -/
def waveCaptureClose (s : State) : State :=
  match s.aqe.wave.bind s.recOf with
  | none => s
  | some r =>
    if !recComplete r then s
    else
      let s0 := s.advance (r.e * nsUnit)
      let s1 := (s0.recIndexed { r with state := 1 }).recKept r
      { s1 with aqe := { s1.aqe with wave := none } }.put Reg.AQE_STATUS_WCAPT 0

def execWaveCaptureClose (s : State) : Host.Outcome State Fault Refusal := .next (waveCaptureClose s)

/-! ### Keep, delete, fetch (R543, R550, R551) -/

/-- The record that KEEP_ID names, when it is stored and not being captured. -/
def State.keepRec (s : State) : Option StoredRec := (s.recOf (s.get Reg.AQE_KEEP_ID_ID)).filter fun r => r.state ≠ 0

/-- KEEP_RECORD (R543). -/
def execKeepRecord (s : State) : Host.Outcome State Fault Refusal :=
  .next (if s.st = stBoot then s.reject 16 0xDC 3 else match s.keepRec with
    | some r => s.setRec { r with keep := true }
    | none => s)

/-- RELEASE_RECORD (R543). -/
def execReleaseRecord (s : State) : Host.Outcome State Fault Refusal :=
  .next (if s.st = stBoot then s.reject 16 0xDC 3 else match s.keepRec with
    | some r => s.setRec { r with keep := false }
    | none => s)

/-- DELETE_RECORD (R543). -/
def deleteRecord (s : State) : State :=
  if s.st = stBoot then s.reject 16 0xDC 3
  else
    match s.keepRec with
    | none => s
    | some r =>
      let recs := s.aqe.recs.filter fun (x : StoredRec) => x.id ≠ r.id
      { s with aqe := { s.aqe with recs := recs } }.put Reg.AQE_FLASH_FREE (s.get Reg.AQE_FLASH_FREE + r.mib)

def execDeleteRecord (s : State) : Host.Outcome State Fault Refusal := .next (deleteRecord s)

/-- REC_FETCH (R146, R550, R551): a chunk of a part, which is built anew for every fetch. A slice that owns a channel of the record gets
the part of its own channels. -/
def recFetch (q : Req) (id part len off buf : Nat) (s : State) : State :=
  match s.recOf id with
  | none => s.command 0x90 q [(.param, true)] false fun s => s
  | some r =>
    let own := r.chans.any fun c => chSlice c.w0 == q.slice
    s.command 0x90 q
      [(.param, 3 < part || len = 0 || 16777216 < len), (.priv, q.slice ≠ 0 && !own), (.busy, r.state = 0)] false
      fun s =>
        let all := partBytes r q.slice part
        let chunk := (all.drop (4096 * off)).take len
        (s.answer q (.recData q id part (4096 * off) buf chunk)).complete q .ok chunk.length
          (if all.length ≤ 4096 * off + chunk.length then 1 else 0)

def execRecFetch (q : Req) (id part len off buf : Nat) (s : State) : Host.Outcome State Fault Refusal :=
  .next (recFetch q id part len off buf s)

end Sys2Proof.Machine
end

