-- ==== Sys2Proof/Machine/Rtc.lean ====
section
/-! DEFINITION. The backup domain: crossing writes, calendar, alarms, wake and power-on request (R212–R233). A row stands for
its count edge; the sub-second count stands still between rows (assumption 8). -/

namespace Sys2Proof.Machine

/-- OSF is set; TIME_SET clears (R220). -/
def State.setOsf (s : State) : State := ((s.put Reg.RTC_STATUS_OSF 1).put Reg.RTC_STATUS_TIME_SET 0).event 27

/-- An event that PWRON_CFG may select happens (R228): bit b of SRC. -/
def State.pwrEvent (s : State) (b : Nat) : State :=
  if s.mainAbsent && (s.get Reg.RTC_PWRON_CFG_SRC >>> b) % 2 == 1 then
    { s with rtc := { s.rtc with pwrDue := s.rtc.pwrDue ||| 2 ^ b } }
  else s

/-! ### Alarms (R224, R225) -/

/-- Addresses of an alarm's DATE and TIME words. -/
def almDate (i : Nat) : Nat := 0x50040 + 0x10 * i
def almTime (i : Nat) : Nat := 0x50044 + 0x10 * i

/-- Whether the fields of a mask agree in two dates, and in two times. -/
def dateMatches (mask a b : Nat) : Bool :=
  ((mask >>> 3) % 2 == 0 || a % 32 == b % 32) && ((mask >>> 4) % 2 == 0 || a / 2 ^ 8 % 16 == b / 2 ^ 8 % 16) &&
    ((mask >>> 5) % 2 == 0 || a / 2 ^ 16 % 2 ^ 11 == b / 2 ^ 16 % 2 ^ 11) &&
    ((mask >>> 6) % 2 == 0 || a / 2 ^ 12 % 8 == b / 2 ^ 12 % 8)
def timeMatches (mask a b : Nat) : Bool :=
  (mask % 2 == 0 || a % 64 == b % 64) && ((mask >>> 1) % 2 == 0 || a / 2 ^ 8 % 64 == b / 2 ^ 8 % 64) &&
    ((mask >>> 2) % 2 == 0 || a / 2 ^ 16 % 32 == b / 2 ^ 16 % 32)

/-- The latest matching second of a day in [lo, hi). -/
def latestInDay (mask time lo : Nat) : Nat → Option Nat
  | 0 => none
  | hi + 1 => if hi < lo then none else if timeMatches mask time (timeWord hi) then some hi else latestInDay mask time lo hi

/-- The latest matching instant before `hi` and at or after `lo`, looking back over `k` days from day d. -/
def latestMatch (wday : Nat → Nat) (mask date time lo hi : Nat) : Nat → Nat → Option Nat
  | 0, _ => none
  | k + 1, d =>
    let found := if dateMatches mask date (dateWord d (wday d)) then
        latestInDay mask time (lo - d * 86400) (min (hi - d * 86400) 86400)
      else none
    match found with
    | some x => some (d * 86400 + x)
    | none => if d = 0 then none else latestMatch wday mask date time lo hi k (d - 1)

/-- An alarm fires with an instant as its last-fired instant. -/
def State.almFire (s : State) (i inst : Nat) (late : Bool) : State :=
  let s1 := { s with rtc := { s.rtc with lastFired := s.rtc.lastFired.set i (some inst) } }
  let s2 := s1.put Reg.RTC_STATUS_ALM_FIRED (s1.get Reg.RTC_STATUS_ALM_FIRED ||| 2 ^ i)
  let s3 := if late then s2.put Reg.RTC_STATUS_ALM_LATE (s2.get Reg.RTC_STATUS_ALM_LATE ||| 2 ^ i) else s2
  (s3.event (24 + i)).pwrEvent i

/-- Whether alarm i may fire at an instant: armed, later than its last-fired instant, and not held by a repeated hour. -/
def State.almMay (s : State) (i inst : Nat) : Bool :=
  s.flag (Reg.RTC_ALM_CTRL_ARM i) && (match s.rtc.lastFired.getD i none with
    | some t => decide (t < inst)
    | none => true) && (!s.flag Reg.RTC_STATUS_REPEAT || s.rtc.rewritten.getD i true)

/-- The alarms at the second edge the calendar now shows (R224). -/
def State.almEval (s : State) : State :=
  [0, 1].foldl (fun s i =>
    let m := s.get (Reg.RTC_ALM_CTRL_MASK i)
    if s.almMay i s.calSecs && dateMatches m (s.rd (almDate i)).toNat (s.rd 0x50018).toNat &&
        timeMatches m (s.rd (almTime i)).toNat (s.rd 0x5001C).toNat then s.almFire i s.calSecs false
    else s) s

/-- A forward jump over the second edges in [lo, hi): each armed alarm fires once for the latest that matches (R225). -/
def State.almJump (s : State) (lo hi : Nat) : State :=
  if hi ≤ lo then s
  else
    let free := s.flag Reg.RTC_CAL_MODE_WDAY_FREE
    let today := s.calSecs / 86400
    let shown := s.get Reg.RTC_CAL_DATE_WDAY
    let wday := fun d => if free then (shown + 6 + 7 * calDays + d - today) % 7 + 1 else weekdayOf d
    [0, 1].foldl (fun s i =>
      match latestMatch wday (s.get (Reg.RTC_ALM_CTRL_MASK i)) (s.rd (almDate i)).toNat (s.rd (almTime i)).toNat lo hi
          ((hi - 1) / 86400 - lo / 86400 + 1) ((hi - 1) / 86400) with
      | some t => if s.almMay i t then s.almFire i t true else s
      | none => s) s

/-! ### The calendar moves (R215–R222) -/

/-- The weekday after the calendar has moved forward from one second to another (R217). -/
def State.wdayAfter (s : State) (old new : Nat) : Nat :=
  if s.flag Reg.RTC_CAL_MODE_WDAY_FREE then (s.get Reg.RTC_CAL_DATE_WDAY + 6 + (new / 86400 - old / 86400)) % 7 + 1
  else weekdayOf (new / 86400)

/-- The calendar takes a second; past the end of its range it continues at 2000-01-01 and sets OSF (R215). -/
def State.moveCal (s : State) (new : Nat) : State :=
  let old := s.calSecs
  if new < calEnd then s.putCal new (s.wdayAfter old new)
  else
    let wd := if s.flag Reg.RTC_CAL_MODE_WDAY_FREE then s.wdayAfter old new else weekdayOf (new - calEnd)
    (s.putCal (new - calEnd) wd).setOsf

/-- Count edges pass: the sub-second count rises within the second, the wake comes closer, a weekday that is due is
recomputed (R215, R217, R227). -/
def State.passCounts (s : State) (k : Nat) : State :=
  let sub := s.get Reg.RTC_CAL_SUB_SUBSEC
  let j := min k (32767 - sub)
  let s1 := { s with rtc := { s.rtc with wakeLeft := s.rtc.wakeLeft - (j : Int) } }.put Reg.RTC_CAL_SUB_SUBSEC (sub + j)
  if s1.rtc.wdayDue && decide (0 < k) then
    { s1 with rtc := { s1.rtc with wdayDue := false } }.put Reg.RTC_CAL_DATE_WDAY (weekdayOf (s1.calSecs / 86400))
  else s1

/-- Whether a calendar second, less ZONE and less the DST hour, is the first of a month (R222). -/
def State.utcMonthStart (s : State) (secs : Nat) : Bool :=
  let u : Int := (secs : Int) - s.getS Reg.RTC_UTC_OFFSET_ZONE * 900 - s.get Reg.RTC_STATUS_DST * 3600
  decide (0 ≤ u) && u.toNat % 86400 == 0 && (civilOf (u.toNat / 86400)).2.2 == 1

/-- The repeated hour runs down by a second (R221). -/
def State.repeatDown (s : State) : State :=
  let k := s.rtc.repeatLeft - 1
  let s1 := { s with rtc := { s.rtc with repeatLeft := k } }
  if k = 0 then s1.put Reg.RTC_STATUS_REPEAT 0 else s1

/-- A DST command at its second edge (R221): an hour added, or subtracted with REPEAT for 3,600 s. -/
def State.applyDst (s : State) : State :=
  let d := s.rtc.dst
  let s0 := { s with rtc := { s.rtc with dst := 0 } }
  if d = 1 then
    let c := s0.calSecs
    let s1 := s0.almJump c (c + 3600)
    ((s1.moveCal (c + 3600)).put Reg.RTC_STATUS_DST 1).event 30
  else if d = 2 then
    let c := s0.calSecs
    let new := c - 3600
    let wd := if s0.flag Reg.RTC_CAL_MODE_WDAY_FREE then s0.get Reg.RTC_CAL_DATE_WDAY else weekdayOf (new / 86400)
    let s1 := { s0 with rtc := { s0.rtc with repeatLeft := 3600, rewritten := [false, false] } }.putCal new wd
    (((s1.put Reg.RTC_STATUS_DST 0).put Reg.RTC_STATUS_REPEAT 1)).event 30
  else s0

/-- While the main domain runs, module time at a second edge is stamped into EDGE_* (R230). -/
def State.stampEdge (s : State) : State := if s.timeRun then s.putStamp 0x50070 s.ns else s

/-- A second edge (R226, R230): the stamp, then leap second, calendar advance, DST, alarms. -/
def State.secondEdge (s : State) : State :=
  let s0 := (s.stampEdge.put Reg.RTC_CAL_SUB_SUBSEC 0).repeatDown
  let c := s0.calSecs
  let leap := s0.get Reg.RTC_UTC_OFFSET_LEAP
  let off := s0.get Reg.RTC_UTC_OFFSET_OFFSET
  let s1 :=
    if leap = 1 && !s0.rtc.leapAgain && s0.utcMonthStart (c + 1) then
      { s0 with rtc := { s0.rtc with leapAgain := true } }.event 30
    else if s0.rtc.leapAgain then
      (({ s0 with rtc := { s0.rtc with leapAgain := false } }.put Reg.RTC_UTC_OFFSET_OFFSET ((off + 1) % 256)).put
        Reg.RTC_UTC_OFFSET_LEAP 0).moveCal (c + 1)
    else if leap = 2 && s0.utcMonthStart (c + 2) then
      (((((s0.almJump (c + 1) (c + 2)).moveCal (c + 2)).put Reg.RTC_UTC_OFFSET_OFFSET ((off + 255) % 256)).put
        Reg.RTC_UTC_OFFSET_LEAP 0).event 30)
    else s0.moveCal (c + 1)
  s1.applyDst.almEval

/-- CAL_SECOND_EDGE (R215, R226, R230): the sub-second count carries; while the main domain runs the edge is stamped. -/
def calSecondEdge (stamp : Nat) (s : State) : State :=
  let sub := s.get Reg.RTC_CAL_SUB_SUBSEC
  let s1 := (if s.timeRun then s.advance (stamp * nsUnit) else s).passCounts (32767 - sub)
  { s1 with rtc := { s1.rtc with wakeLeft := s1.rtc.wakeLeft - 1 } }.secondEdge

def execCalSecondEdge (stamp : Nat) (s : State) : Host.Outcome State Fault Refusal := .next (calSecondEdge stamp s)

/-! ### Writes that cross (R213) -/

/-- Counts of a wake period (R227). -/
def State.wakePeriod (s : State) : Nat :=
  let b := s.get Reg.RTC_WAKE_BASE
  s.get Reg.RTC_WAKE_N * (if b = 0 then 128 else if b = 1 then 2048 else if b = 2 then 32768 else 1966080)

/-- Whether the fire point of the wake has been reached (R227). -/
def State.wakePast (s : State) : Bool := decide (s.rtc.wakeLeft ≤ 0)

/-- The wake fires once: source 26; the next fire keeps the phase, whole periods after this one (R227). -/
def State.wakeFires (s : State) : State :=
  let p : Int := s.wakePeriod
  ({ s with rtc := { s.rtc with wakeLeft := p - (-s.rtc.wakeLeft) % p } }.event 26).pwrEvent 2

/-- A SET at its count edge (R216, R225). -/
def State.crossSet (s : State) (w : RtcWrite) : State :=
  let old := s.calSecs
  let new := dayOfDate w.date * 86400 + secOfTime w.time
  let s1 := s.almJump (old + 1) (new + 1)
  let wd := if s1.flag Reg.RTC_CAL_MODE_WDAY_FREE then w.date / 2 ^ 12 % 8 else weekdayOf (new / 86400)
  let s2 := { (s1.putCal new wd) with rtc := { s1.rtc with leapAgain := false } }
  ((s2.put Reg.RTC_CAL_SUB_SUBSEC (w.data / 2 ^ 16 % 2 ^ 15)).put Reg.RTC_STATUS_TIME_SET 1).event 30

/-- A shift at its count edge (R219, R225, R227). -/
def State.crossShift (s : State) (back : Bool) (k : Nat) : State :=
  let sub := s.get Reg.RTC_CAL_SUB_SUBSEC
  if back then
    let c := s.calSecs
    if c = 0 && decide (sub < k) then s
    else
      let s1 := { s with rtc := { s.rtc with wakeLeft := s.rtc.wakeLeft + (k : Int) } }
      let new := if k ≤ sub then c else c - 1
      let wd := if s1.flag Reg.RTC_CAL_MODE_WDAY_FREE then s1.get Reg.RTC_CAL_DATE_WDAY else weekdayOf (new / 86400)
      ((s1.putCal new wd).put Reg.RTC_CAL_SUB_SUBSEC (if k ≤ sub then sub - k else sub + 32768 - k)).event 30
  else
    let s1 := { s with rtc := { s.rtc with wakeLeft := s.rtc.wakeLeft - (k : Int) } }
    let s2 := if sub + k < 32768 then s1.put Reg.RTC_CAL_SUB_SUBSEC (sub + k)
      else s1.secondEdge.put Reg.RTC_CAL_SUB_SUBSEC (sub + k - 32768)
    let s3 := s2.event 30
    if s3.flag Reg.RTC_WAKE_EN && s3.wakePast then s3.wakeFires else s3

/-- The W1C bits of STATUS at their count edge (R220, R231). -/
def State.crossStatus (s : State) (d : Nat) : State :=
  let clr := fun (s : State) (f : Field) (b : Nat) => if (d >>> b) % 2 = 1 then s.put f 0 else s
  let s1 := clr (clr s Reg.RTC_STATUS_PWRON_TO 10) Reg.RTC_STATUS_QFULL 5
  let s2 := s1.put Reg.RTC_STATUS_ALM_FIRED (s1.get Reg.RTC_STATUS_ALM_FIRED &&& (3 - d / 2 ^ 8 % 4))
  let s3 := s2.put Reg.RTC_STATUS_ALM_LATE (s2.get Reg.RTC_STATUS_ALM_LATE &&& (3 - d / 2 ^ 6 % 4))
  if d % 2 = 1 && s3.flag Reg.RTC_STATUS_TIME_SET then (s3.put Reg.RTC_STATUS_OSF 0).clearFault 0x0501 0 else s3

/-- A queued write takes effect (R213). -/
def State.crossWrite (s : State) (w : RtcWrite) : State :=
  let plain := s.wr (0x50000 + w.off) (BitVec.ofNat 32 w.data)
  if w.off = 0x10 then
    let free := s.flag Reg.RTC_CAL_MODE_WDAY_FREE
    let s1 := (s.put Reg.RTC_CAL_MODE_WDAY_FREE (w.data / 2 % 2)).put Reg.RTC_CAL_MODE_DST_EN (w.data % 2)
    if free && w.data / 2 % 2 = 0 then { s1 with rtc := { s1.rtc with wdayDue := true } } else s1
  else if w.off = 0x14 then s.crossStatus w.data
  else if w.off = 0x24 then s.crossSet w
  else if w.off = 0x28 then { s with rtc := { s.rtc with dst := w.data % 4 } }
  else if w.off = 0x2C then s.crossShift (w.data / 2 ^ 16 % 2 == 1) (w.data % 2 ^ 15)
  else if 0x40 ≤ w.off && w.off < 0x60 then
    let i := (w.off - 0x40) / 0x10
    { plain with rtc := { s.rtc with lastFired := s.rtc.lastFired.set i none, rewritten := s.rtc.rewritten.set i true } }
  else if w.off = 0x60 then
    if plain.flag Reg.RTC_WAKE_EN then { plain with rtc := { s.rtc with wakeLeft := plain.wakePeriod } } else plain
  else plain

/-- RTC_WRITE_CROSS (R213): `counts` count edges after the last one handled, the oldest write takes effect. -/
def rtcWriteCross (counts : Nat) (s : State) : State :=
  match s.rtc.queue with
  | [] => s
  | w :: l =>
    let s1 := s.passCounts counts
    let s2 := { s1 with rtc := { s1.rtc with queue := l } }.crossWrite w
    (s2.putFlag Reg.RTC_STATUS_SYNC_BUSY (decide (0 < l.length))).clearFault 0x0503 0

def execRtcWriteCross (counts : Nat) (s : State) : Host.Outcome State Fault Refusal := .next (rtcWriteCross counts s)

/-- RTC_QUEUE_FULL (R213): a write that finds the queue full. -/
def rtcQueueFull (s : State) : State :=
  if 4 ≤ s.rtc.queue.length then (s.put Reg.RTC_STATUS_QFULL 1).event 31 else s

def execRtcQueueFull (s : State) : Host.Outcome State Fault Refusal := .next (rtcQueueFull s)

/-! ### Register writes with a row of their own -/

/-- What a write to the backup domain does first (R110, R212): rejected with reason 3 in BOOT. -/
def State.rtcWrite (s : State) (off : Nat) (bad : Bool) (w : RtcWrite) : State :=
  if s.st = stBoot then s.reject 5 off 3 else if bad then s.reject 5 off 1 else s.rtcQueue w

/-- CAL_SET (R216): the staged values are checked and cross as one entry. -/
def calSet (sub : Nat) (s : State) : State :=
  s.rtcWrite 0x24 (!stagedOk s.rtc.date s.rtc.time)
    { off := 0x24, data := sub % 2 ^ 15 * 2 ^ 16 + 1, date := s.rtc.date, time := s.rtc.time }

def execCalSet (sub : Nat) (s : State) : Host.Outcome State Fault Refusal := .next (calSet sub s)

/-- DST_ADD (R221). -/
def dstAdd (s : State) : State :=
  s.rtcWrite 0x28 (s.flag Reg.RTC_STATUS_DST || !s.flag Reg.RTC_CAL_MODE_DST_EN || decide (calEnd ≤ s.calSecs + 3601))
    { off := 0x28, data := 1 }

def execDstAdd (s : State) : Host.Outcome State Fault Refusal := .next (dstAdd s)

/-- DST_SUBTRACT (R221). -/
def dstSubtract (s : State) : State :=
  s.rtcWrite 0x28 (!s.flag Reg.RTC_STATUS_DST || !s.flag Reg.RTC_CAL_MODE_DST_EN || decide (s.calSecs + 1 < 3600))
    { off := 0x28, data := 2 }

def execDstSubtract (s : State) : Host.Outcome State Fault Refusal := .next (dstSubtract s)

/-- CAL_SHIFT (R219): COUNT = 0 has no effect. -/
def calShift (back : Bool) (count : Nat) (s : State) : State :=
  let k := count % 2 ^ 15
  let pos := s.calSecs * 32768 + s.get Reg.RTC_CAL_SUB_SUBSEC
  if k = 0 then (if s.st = stBoot then s.reject 5 0x2C 3 else s)
  else s.rtcWrite 0x2C (if back then decide (pos < k) else decide (calEnd * 32768 ≤ pos + k))
    { off := 0x2C, data := k + if back then 2 ^ 16 else 0 }

def execCalShift (back : Bool) (count : Nat) (s : State) : Host.Outcome State Fault Refusal := .next (calShift back count s)

/-- OSF_CLEAR (R220): rejected with reason 1 while TIME_SET is 0. -/
def osfClear (s : State) : State := s.rtcWrite 0x14 (!s.flag Reg.RTC_STATUS_TIME_SET) { off := 0x14, data := 1 }

def execOsfClear (s : State) : Host.Outcome State Fault Refusal := .next (osfClear s)

/-! ### Oscillator, wake, power-on request -/

/-- OSC_STOP (R220). -/
def execOscStop (s : State) : Host.Outcome State Fault Refusal := .next s.setOsf

/-- BACKUP_DOMAIN_POWER_UP (R220, R231): the backup domain takes its reset values, with OSF set. -/
def backupDomainPowerUp (s : State) : State :=
  { s with regs := s.regs.filter (fun (p : Nat × Word) => p.1 / 0x10000 ≠ 5), rtc := {} }.setOsf

def execBackupDomainPowerUp (s : State) : Host.Outcome State Fault Refusal := .next (backupDomainPowerUp s)

/-- WAKE_FIRE (R227): at the count edge that ends the period. -/
def wakeFire (s : State) : State :=
  if !s.flag Reg.RTC_WAKE_EN then s
  else
    let s1 := s.passCounts s.rtc.wakeLeft.toNat
    { s1 with rtc := { s1.rtc with wakeLeft := min s1.rtc.wakeLeft 0 } }.wakeFires

def execWakeFire (s : State) : Host.Outcome State Fault Refusal := .next (wakeFire s)

/-- PWRON_REQ_ASSERT (R228): a selected event in OFF or VIGIL asserts the request. -/
def pwronReqAssert (s : State) : State :=
  if s.mainAbsent && s.rtc.pwrDue ≠ 0 then
    (({ s with rtc := { s.rtc with pwrDue := 0, pwrSrc := s.rtc.pwrSrc ||| s.rtc.pwrDue } }.put Reg.RTC_STATUS_PWRON 1).event 29)
  else s

def execPwronReqAssert (s : State) : Host.Outcome State Fault Refusal := .next (pwronReqAssert s)

/-- PWRON_TIMEOUT (R228): SECS have passed without an acknowledge; SECS = 0 sets no timeout. -/
def pwronTimeout (s : State) : State :=
  if s.flag Reg.RTC_STATUS_PWRON && s.get Reg.RTC_PWRON_TIMEOUT_SECS ≠ 0 then
    let s1 := { s with rtc := { s.rtc with pwrLost := s.rtc.pwrLost ||| s.rtc.pwrSrc, pwrSrc := 0 } }
    ((s1.put Reg.RTC_STATUS_PWRON 0).put Reg.RTC_STATUS_PWRON_TO 1).event 29
  else s

def execPwronTimeout (s : State) : Host.Outcome State Fault Refusal := .next (pwronTimeout s)

end Sys2Proof.Machine
end

