-- ==== Sys2Proof/Machine/Energy.lean ====
section
/-! DEFINITION. The quantity unit: metering points, pulse outputs, heat meters, vigil metering (R556–R577). -/

namespace Sys2Proof.Machine

/-! ### Metering points (R556–R562) -/

/-- The configuration words of a point as its active registers hold them: CFG, PH[1]–PH[3], K_LO, K_HI. -/
def State.ptCfg (s : State) (p : Nat) : List Nat :=
  [0x00, 0x04, 0x08, 0x0C, 0x10, 0x14].map fun o => (s.rd (0x11A000 + 0x40 * p + o)).toNat

/-- EN, NPH, FNOM and K of configuration words. -/
def ptEn (c : List Nat) : Bool := c.getD 0 0 / 2 ^ 31 % 2 == 1
def ptNph (c : List Nat) : Nat := c.getD 0 0 / 2 ^ 29 % 4
def ptFnom (c : List Nat) : Nat := if c.getD 0 0 / 2 ^ 28 % 2 = 1 then 60 else 50
def ptK (c : List Nat) : Nat := c.getD 4 0 + c.getD 5 0 * 2 ^ 32

/-- W, the ticks of a window (R560). -/
def winLen (f fnom : Nat) : Nat := (roundDiv f fnom).toNat

/-- D for a frequency in mHz (R558). -/
def delayD (f fm : Nat) : Nat := (roundDiv (256000 * f : Nat) fm).toNat

/-- The record of a point. -/
def State.point (s : State) (p : Nat) : NrgPoint := (findKey NrgPoint.point p s.nrg.pts).getD { point := p }
def State.setPoint (s : State) (x : NrgPoint) : State := { s with nrg := { s.nrg with pts := setKey NrgPoint.point x s.nrg.pts } }

/-- A point whose delay and crossing histories are empty (R562). -/
def emptyPoint (x : NrgPoint) : NrgPoint :=
  { x with cross := [], phases := x.phases.map fun (h : NrgPhase) => { h with volt := [] } }

/-- Every point's histories are emptied: a rate change or a step under R33 (R562). -/
def State.nrgEmpty (s : State) : State :=
  { s with nrg := { s.nrg with pts := s.nrg.pts.map fun (x : NrgPoint) => { emptyPoint x with last := none } } }

/-- Voltage and current of a phase on a tick as (value, good); none where image-mirror generation n is not there (R559). -/
def State.ptSample (s : State) (p n : Nat) (ph : Nat) : Option ((Int × Bool) × (Int × Bool)) :=
  let v := ph % 2 ^ 12
  let i := ph / 2 ^ 16 % 2 ^ 12
  if p < 128 then
    (s.core.imageMirror.find? fun g => g.tick == n).map fun g =>
      let a := imgValue g.chans v
      let b := imgValue g.chans i
      ((a.1, a.2 % 4 != 2), (b.1, b.2 % 4 != 2))
  else
    let l := (findKey Prod.fst n s.mod.fine).elim [] Prod.snd
    let a := l.getD v (0, true)
    let b := l.getD i (0, true)
    some ((a.1, !a.2), (b.1, !b.2))

/-- v′ of a phase, where the history holds a + 2 good samples that it needs (R557, R562). -/
def delayed (d : Nat) (l : List (Int × Bool)) : Option Int :=
  let a := d / 1024
  match l[a]?, l[a + 1]? with
  | some (x, true), some (y, true) => some (x - roundDiv ((d % 1024 : Nat) * (x - y)) 1024)
  | _, _ => none

/-- A phase on a tick: its products, or its last good pair (R557, R559); whether the tick was invalid for it. -/
def phaseTick (d : Nat) (x : Option ((Int × Bool) × (Int × Bool))) (h : NrgPhase) : NrgPhase × Bool :=
  match x with
  | none => ({ h with volt := ((0, false) :: h.volt).take 128, sumP := h.sumP + h.lastP, sumQ := h.sumQ + h.lastQ }, false)
  | some (v, i) =>
    let l := (v :: h.volt).take 128
    match delayed d l, v.2 && i.2 with
    | some w, true =>
      let p := v.1 * i.1
      let q := w * i.1
      ({ h with volt := l, lastP := p, lastQ := q, sumP := h.sumP + p, sumQ := h.sumQ + q }, false)
    | _, _ => ({ h with volt := l, sumP := h.sumP + h.lastP, sumQ := h.sumQ + h.lastQ }, true)

/-- A rising zero crossing between the two newest voltages of phase 1 (R558). -/
def crossing (k : Nat) : List (Int × Bool) → Option (Nat × Bool)
  | (v, g) :: (w, h) :: _ =>
    if w < 0 && 0 ≤ v then some (1024 * (k - 1) + (roundDiv (1024 * (-w)) (v - w).toNat).toNat, g && h) else none
  | _ => none

/-! ### Pulse outputs (R566–R568) -/

/-- The record of an output. -/
def State.po (s : State) (k : Nat) : PulseOut := (findKey PulseOut.out k s.nrg.pos).getD { out := k }
def State.setPo (s : State) (x : PulseOut) : State := { s with nrg := { s.nrg with pos := setKey PulseOut.out x s.nrg.pos } }

/-- Whole units reach an output's residue, and pulses move into its backlog (R566, R568). -/
def State.poFeed (s : State) (k units : Nat) : State :=
  let x := s.po k
  let c := max 1 (s.getA (Reg.NRG_PO_CONST_UNITS k))
  let r := (x.resid + units) % 2 ^ 64
  let b := s.get (Reg.NRG_PO_BACKLOG_COUNT k)
  let m := min (r / c) (0xFFFFFFFF - b)
  let keep := x.moved.filter fun (e : Nat × Nat) => decide (s.ns < e.1 + 1000000000)
  let s1 := s.setPo { x with resid := r - m * c, taken := x.taken + m, units := x.units + units, moved := if m = 0 then keep else (s.ns, m) :: keep }
  let s2 := (s1.put (Reg.NRG_PO_BACKLOG_COUNT k) (b + m)).put (Reg.NRG_PO_RESID_UNITS k) ((r - m * c) % 2 ^ 32)
  if b + m = 0xFFFFFFFF then s2.raiseAt 0x1102 1 k k else s2

/-- The index of an output starts again for the tally (R677). -/
def State.poRestart (s : State) (k : Nat) : State :=
  let x := s.po k
  s.setPo { x with taken := 0, units := 0, base := s.get (Reg.NRG_PO_EMITTED_COUNT k) + s.get (Reg.NRG_PO_BACKLOG_COUNT k), resid0 := x.resid }

/-- A commit that changes CFG and CONST: the new CONST applies to the residues at once (R566). -/
def State.poBoundary (s : State) : State := (List.range 4).foldl (fun s k => (s.poRestart k).poFeed k 0) s

/-- Units added to a register reach the outputs that count it (R566). -/
def State.poUnits (s : State) (p φ r units : Nat) : State :=
  (List.range 4).foldl (fun s k =>
    if s.getA (Reg.NRG_PO_CFG_EN k) = 1 && s.getA (Reg.NRG_PO_CFG_POINT k) = p && s.getA (Reg.NRG_PO_CFG_REG k) = r &&
        (s.getA (Reg.NRG_PO_CFG_PHASE k) = 0 || s.getA (Reg.NRG_PO_CFG_PHASE k) = φ) then s.poFeed k units else s) s

/-- States in which the outputs may conduct (R96). -/
def State.poMay (s : State) : Bool := decide (stShadow ≤ s.st) && decide (s.st ≤ stService)

/-- PULSE_START (R567, R568): width from A, B and W; sources 130 and 131. -/
def pulseStart (k now : Nat) (s : State) : State :=
  let s0 := s.advance (now * nsUnit)
  let x := s0.po k
  let b := s0.get (Reg.NRG_PO_BACKLOG_COUNT k)
  if decide (4 ≤ k) || !s0.flag Reg.NRG_CTRL_EN || !s0.poMay || s0.getA (Reg.NRG_PO_CFG_EN k) ≠ 1 || b = 0 ||
      decide (now < x.busyUntil) then s0
  else
    let a := ((x.moved.filter fun (e : Nat × Nat) => decide (now < e.1 + 1000000000)).map Prod.snd).sum
    let r := a + b
    let w := s0.get Reg.NRG_PULSE_WIDTH_MS
    let width := if r * w ≤ 500 then w else max 2 (500 / r)
    let s1 := s0.setPo { x with onUntil := now + width * 1000000, busyUntil := now + 2 * width * 1000000 }
    let s2 := ((s1.put (Reg.NRG_PO_BACKLOG_COUNT k) (b - 1)).countMod (Reg.NRG_PO_EMITTED_COUNT k) 1).put (Reg.NRG_PO_WIDTH_MS k) width
    let s3 := ((s2.emit (.pulse k width)).eventIf (decide (width < w)) 130).eventIf (width == 2 && decide (1 < b)) 131
    if b - 1 < 2 ^ 31 then s3.clearFault 0x1102 k else s3

def execPulseStart (out now : Nat) (s : State) : Host.Outcome State Fault Refusal := .next (pulseStart out now s)

/-! ### Window ends (R558, R560, R561) -/

/-- isqrt of R365 over a sum of any width. -/
def isqrtWide (u : Nat) : Nat :=
  let r := sqrtBits u 80 0
  if u - r * r > r then r + 1 else r

/-- The addends of a window as (r, x) (R560). -/
def addends (p q : Int) : List (Nat × Nat) :=
  [(if 0 ≤ p then 0 else 1, p.natAbs),
   (if 0 ≤ q then (if 0 ≤ p then 2 else 3) else (if 0 ≤ p then 5 else 4), q.natAbs),
   (6, isqrtWide (p * p + q * q).toNat)]

/-- One addend of a phase: the exact residue, the phase register, the total, the outputs (R561). -/
def State.addUnits (s : State) (p φ r x : Nat) : State :=
  let pt := s.point p
  let h := pt.phases.getD (φ - 1) {}
  let acc := x * ptK pt.cfg + h.resid.getD r 0
  let whole := acc / 2 ^ 64
  let h1 := { h with resid := h.resid.set r (acc % 2 ^ 64) }
  let bump := fun (l : List Nat) (i : Nat) => l.set i ((l.getD i 0 + whole) % 2 ^ 64)
  (s.setPoint { pt with phases := pt.phases.set (φ - 1) h1, regs := bump (bump pt.regs (7 * φ + r)) r }).poUnits p φ r whole

/-- The frequency at a window end in mHz, and whether the measurement is valid (R558). -/
def measured (f fnom : Nat) (l : List (Nat × Bool)) : Nat × Bool :=
  match l, l.getLast? with
  | (a, _) :: _, some (b, _) =>
    if l.length = 11 && l.all (fun (x : Nat × Bool) => x.2) && decide (b < a) then
      let fm := (roundDiv (10240000 * f : Nat) (a - b)).toNat
      if fnom * 1000 ≤ fm + 5000 && fm ≤ fnom * 1000 + 5000 then (fm, true) else (fnom * 1000, false)
    else (fnom * 1000, false)
  | _, _ => (fnom * 1000, false)

/-- A window of a point ends: its sums are classified and added, FREQ and D follow (R558, R560, R561). -/
def State.windowEnd (s : State) (p : Nat) : State :=
  let pt := s.point p
  let s1 := (List.range (ptNph pt.cfg)).foldl (fun s j =>
    let h := (s.point p).phases.getD j {}
    (addends h.sumP h.sumQ).foldl (fun s (a : Nat × Nat) => s.addUnits p (j + 1) a.1 a.2) s) s
  let x := s1.point p
  let (fm, ok) := measured s.tg.f (ptFnom x.cfg) x.cross
  let s2 := s1.setPoint { x with due := false, d := delayD s.tg.f fm,
                                 phases := x.phases.map fun (h : NrgPhase) => { h with sumP := 0, sumQ := 0 } }
  let was := s2.flag (Reg.NRG_PT_FREQ_VALID p)
  ((s2.put (Reg.NRG_PT_FREQ_MHZ p) fm).putFlag (Reg.NRG_PT_FREQ_VALID p) ok).eventIf (was != ok) 135

/-- NRG_WINDOW_END (R560). -/
def nrgWindowEnd (p : Nat) (s : State) : State :=
  if s.flag Reg.NRG_CTRL_EN && (s.point p).due then s.windowEnd p else s

def execNrgWindowEnd (point : Nat) (s : State) : Host.Outcome State Fault Refusal := .next (nrgWindowEnd point s)

/-- Committed values come into force where a window begins (R562): the open window ends, and a point that is enabled or whose
channels change starts with empty histories. -/
def State.ptLoad (s : State) (p n : Nat) : State :=
  let new := s.ptCfg p
  let pt := s.point p
  if new = pt.cfg || n % winLen s.tg.f (ptFnom new) ≠ 0 then s
  else
    let s1 := if ptEn pt.cfg then s.windowEnd p else s
    let x := s1.point p
    let y := { x with cfg := new, d := if ptEn pt.cfg then x.d else delayD s.tg.f (ptFnom new * 1000) }
    let moved := !ptEn pt.cfg || ptNph pt.cfg ≠ ptNph new || (pt.cfg.drop 1).take 3 ≠ (new.drop 1).take 3
    s1.setPoint (if moved then emptyPoint y else y)

/-- A tick of an enabled point (R557–R560). -/
def State.ptTick (s : State) (p n : Nat) : State :=
  let pt := s.point p
  let nph := ptNph pt.cfg
  let xs := (List.range 3).map fun j => s.ptSample p n (pt.cfg.getD (j + 1) 0)
  let l := (pt.phases.zip xs).map fun (a : NrgPhase × Option ((Int × Bool) × (Int × Bool))) => phaseTick pt.d a.2 a.1
  let gap := decide (p < 128) && !(s.core.imageMirror.any fun g => g.tick == n)
  let inv := !gap && (l.take nph).any Prod.snd
  let hs := (l.take nph).map Prod.fst ++ pt.phases.drop nph
  let c := crossing n (hs.getD 0 {}).volt
  let w := winLen s.tg.f (ptFnom pt.cfg)
  let due := (n + 1) % w == 0
  let s1 := s.setPoint { pt with last := some n, phases := hs, due := due, winEnd := if due then n else pt.winEnd,
                                 cross := c.elim pt.cross fun x => (x :: pt.cross).take 11 }
  let s2 := if gap then (s1.count (Reg.NRG_PT_GAP_TICKS_COUNT p)).event 132 else s1
  if inv then (s2.count (Reg.NRG_PT_INV_TICKS_COUNT p)).event 133 else s2

/-- NRG_TICK (R557, R559, R562). -/
def nrgTick (p n : Nat) (s : State) : State :=
  if !s.flag Reg.NRG_CTRL_EN || !s.tg.running || decide (130 ≤ p) || (s.point p).last.any (fun k => decide (n ≤ k)) then s
  else
    let s1 := (if (s.point p).due then s.windowEnd p else s).ptLoad p n
    if ptEn (s1.point p).cfg then s1.ptTick p n else s1

def execNrgTick (point tick : Nat) (s : State) : Host.Outcome State Fault Refusal := .next (nrgTick point tick s)

/-! ### Heat meters (R569–R571) -/

/-- The record of a meter. -/
def State.heatMeter (s : State) (h : Nat) : HeatMeter := (findKey HeatMeter.meter h s.nrg.hms).getD { meter := h }
def State.setMeter (s : State) (x : HeatMeter) : State := { s with nrg := { s.nrg with hms := setKey HeatMeter.meter x s.nrg.hms } }

/-- A report is stale (R569). -/
def State.heatStale (s : State) (h : Nat) : Bool :=
  match (s.heatMeter h).report with
  | none => true
  | some (_, _, _, t) => decide (t + s.getA (Reg.NRG_HM_LIMITS_TTL_S h) * 1000000000 ≤ s.ns)

/-- An ADC input is invalid (R569). -/
def State.adcInvalid (s : State) (i : Nat) : Bool :=
  let at' := (findKey Prod.fst i s.adc.last).map Prod.snd
  !s.flag Reg.ADC_CTRL_EN || s.flag (Reg.ADC_RES_OVR i) || at'.isNone || at'.any fun t => decide (t + 2000000000 ≤ s.ns)

/-- The inputs θs, θr (Q8.7) and V̇ (L/h) of a meter, each with its validity (R569). -/
def State.heatIn (s : State) (h : Nat) : List (Int × Bool) :=
  let rep := (s.heatMeter h).report
  let fresh := !s.heatStale h
  let code := fun i => s.getS (Reg.ADC_RES_CODE i)
  let tg := signed 16 (s.getA (Reg.NRG_HM_TCAL_TGAIN h))
  let ofs := signed 16 (s.getA (Reg.NRG_HM_TCAL_TOFS h))
  let temp := fun i => (roundDiv (code i * tg) (2 ^ 16) + ofs, !s.adcInvalid i)
  let vg := signed 32 (s.getA (Reg.NRG_HM_VGAIN_GAIN h))
  let vo := signed 32 (s.getA (Reg.NRG_HM_VOFS_OFS h))
  let iv := s.getA (Reg.NRG_HM_CFG_AIN_V h)
  let t := if s.getA (Reg.NRG_HM_CFG_SRC_T h) = 1 then [(rep.elim 0 fun r => r.1, fresh), (rep.elim 0 fun r => r.2.1, fresh)]
    else [temp (s.getA (Reg.NRG_HM_CFG_AIN_S h)), temp (s.getA (Reg.NRG_HM_CFG_AIN_R h))]
  t ++ [if s.getA (Reg.NRG_HM_CFG_SRC_V h) = 1 then (((rep.elim 0 fun r => r.2.2.1 : Nat) : Int), fresh)
    else (roundDiv (code iv * vg) (2 ^ 16) + vo, !s.adcInvalid iv)]

/-- The cell and position within it of a temperature in Q8.7, clamped to 0–150 °C (R570). -/
def heatCell (t : Int) : Nat × Nat :=
  let c := (max 0 (min t 19200)).toNat
  let i := min 14 (c / 1280)
  (i, c - 1280 * i)

/-- Linear interpolation in UQ2.30, the interpolated value rounded half away from zero (R570). -/
def heatLerp (a b : Nat) (x : Nat) : Nat := (roundDiv ((a : Int) * 1280 + ((b : Int) - a) * x) 1280).toNat

/-- k of R570 from the active table. -/
def State.heatCoeff (s : State) (loc : Nat) (ts tr : Int) : Nat :=
  let (i, x) := heatCell ts
  let (j, y) := heatCell tr
  let k := fun i j => s.getA (Reg.NRG_KTAB_K loc i j)
  heatLerp (heatLerp (k i j) (k (i + 1) j) x) (heatLerp (k i (j + 1)) (k (i + 1) (j + 1)) x) y

/-- A step integrated (R571): denominators are 3,600,000 for litres and 2^37 × 3,600,000 for Wh. -/
def State.heatAdd (s : State) (h : Nat) (ts tr v : Int) : State :=
  let x := s.heatMeter h
  let dt := s.get Reg.NRG_HEAT_PERIOD_MS
  let vol := v * dt + (x.volRes : Int)
  let k := s.heatCoeff (s.getA (Reg.NRG_HM_CFG_LOC h)) ts tr
  let dθ := ts - tr
  let on := decide (s.getA (Reg.NRG_HM_LIMITS_DTMIN h) ≤ dθ.natAbs)
  let rate : Int := if on then (k : Int) * v * dθ.natAbs else 0
  let den : Nat := 2 ^ 37 * 3600000
  let e := rate * dt
  let hot := e + (x.heatRes : Int)
  let cld := e + (x.coldRes : Int)
  let add := fun (a : Nat) (w : Int) => (((a : Int) + w) % (2 ^ 64 : Nat)).toNat
  let x1 := { x with vol := add x.vol (vol / 3600000), volRes := (vol % 3600000).toNat, bad := [], step := s.ns }
  let x2 := if 0 < dθ then { x1 with heat := add x1.heat (hot / den), heatRes := (hot % (den : Int)).toNat }
    else if dθ < 0 then { x1 with cold := add x1.cold (cld / den), coldRes := (cld % (den : Int)).toNat } else x1
  let kw := roundDiv (if dθ < 0 then -rate else rate) (2 ^ 37 * 1000)
  ((s.setMeter x2).put (Reg.NRG_HM_STAT_POWER h) (unsigned 16 (saturate 16 kw))).put (Reg.NRG_HM_STAT_INVALID h) 0

/-- A step with an input invalid or stale (R571): error time, source 134, fault 0x1103 after 60 s. -/
def State.heatError (s : State) (h : Nat) (oks : List Bool) : State :=
  let x := s.heatMeter h
  let e := x.errRes + s.get Reg.NRG_HEAT_PERIOD_MS
  let bad := ((List.range 3).zip oks).filterMap fun (a : Nat × Bool) =>
    if a.2 then none else some (a.1, (findKey Prod.fst a.1 x.bad).elim s.ns Prod.snd)
  let s1 := s.setMeter { x with errS := (x.errS + e / 1000) % 2 ^ 64, errRes := e % 1000, bad := bad, step := s.ns }
  let s2 := ((s1.put (Reg.NRG_HM_STAT_POWER h) 0).put (Reg.NRG_HM_STAT_INVALID h) 1).event 134
  if bad.any fun (a : Nat × Nat) => decide (a.2 + 60000000000 ≤ s.ns) then s2.raiseAt 0x1103 1 h h else s2

/-- HEAT_STEP (R571): `now` is a module-time instant that is a multiple of HEAT_PERIOD. -/
def heatStep (h now : Nat) (s : State) : State :=
  if !s.flag Reg.NRG_CTRL_EN || decide (64 ≤ h) || s.getA (Reg.NRG_HM_CFG_EN h) ≠ 1 ||
      now % (s.get Reg.NRG_HEAT_PERIOD_MS * 1000000) ≠ 0 || decide (now < s.ns) then s
  else
    let s0 := s.advance (now * nsUnit)
    let s1 := s0.putFlag (Reg.NRG_HM_STAT_STALE h) (s0.heatStale h)
    match s1.heatIn h with
    | [a, b, c] => if a.2 && b.2 && c.2 then (s1.heatAdd h a.1 b.1 c.1).clearFault 0x1103 h else s1.heatError h [a.2, b.2, c.2]
    | _ => s1

def execHeatStep (meter now : Nat) (s : State) : Host.Outcome State Fault Refusal := .next (heatStep meter now s)

/-- HEAT_REPORT_WRITE (R569): REP_V takes the staged REP_T and itself, stamped with module time. -/
def heatReportWrite (h lph : Nat) (s : State) : State :=
  if decide (64 ≤ h) then s
  else if s.st = stBoot then s.reject 17 (0x418 + 0x20 * h) 3
  else
    let v := lph % 2 ^ 32
    let s1 := s.setMeter { s.heatMeter h with report := some (s.getS (Reg.NRG_HM_REP_T_TS h), s.getS (Reg.NRG_HM_REP_T_TR h), v, s.ns) }
    (s1.put (Reg.NRG_HM_REP_V_LPH h) v).put (Reg.NRG_HM_STAT_STALE h) 0

def execHeatReportWrite (meter lph : Nat) (s : State) : Host.Outcome State Fault Refusal := .next (heatReportWrite meter lph s)

/-! ### Snapshots (R565) -/

/-- The 64-bit words of a snapshot stand in ACC. -/
def State.putAcc (s : State) (l : List Nat) : State :=
  ((List.range 28).zip (l ++ List.replicate 28 0)).foldl (fun s (a : Nat × Nat) => s.put (Reg.NRG_ACC_UNITS (a.1 / 7) (a.1 % 7)) a.2) s

/-- ACC_SNAPSHOT (R565): the row stands for the completed snapshot. -/
def accSnapshot (heat : Bool) (i : Nat) (s : State) : State :=
  if s.st = stBoot then s.reject 17 0x40 3
  else if (heat && decide (64 ≤ i)) || decide (130 ≤ i) then s.reject 17 0x40 1
  else
    let s1 := (s.putFlag Reg.NRG_ACC_SEL_HEAT heat).put Reg.NRG_ACC_SEL_INDEX i
    let s2 := if heat then let x := s.heatMeter i; (s1.putAcc [x.heat, x.cold, x.vol, x.errS]).put Reg.NRG_ACC_WIN_TICK x.step
      else let x := s.point i; (s1.putAcc x.regs).put Reg.NRG_ACC_WIN_TICK x.winEnd
    s2.put Reg.NRG_ACC_STAT_READY 1

def execAccSnapshot (heat : Bool) (index : Nat) (s : State) : Host.Outcome State Fault Refusal := .next (accSnapshot heat index s)

/-! ### Vigil metering (R572, R573) -/

/-- A fraction added to an accumulator with an exact residue: whole units and the residue left. -/
def addFrac (acc : Nat) (r : Nat × Nat) (num den : Nat) : Nat × (Nat × Nat) :=
  let n := r.1 * den + num * r.2
  let d := r.2 * den
  let q := n % d
  let g := max 1 (Nat.gcd q d)
  ((acc + n / d) % 2 ^ 64, (q / g, d / g))

/-- A second of a vigil channel: `pos`, `neg` and `sq` are Σ max(x, 0), Σ max(−x, 0) and Σ x² of its N samples (R572). -/
def vigAdd (k n : Nat) (x : VigChan) (pos neg : Nat) : VigChan :=
  let den := 36 * n * 2 ^ 16
  let (p, rp) := addFrac x.ahp x.resP (10 * pos * k) den
  let (m, rm) := addFrac x.ahn x.resN (10 * neg * k) den
  { x with secs := min (x.secs + 1) 0xFFFFFFFF, ahp := p, ahn := m, resP := rp, resN := rm }

/-- VIGIL_SECOND (R572, R573): `second` is the calendar second, since 2000, at which it began; N samples; per channel its sums.
The record stored is the vigil state itself. -/
def vigilSecond (second n : Nat) (sums : List (Nat × Nat × Nat × Nat)) (s : State) : State :=
  if s.st ≠ stVigil || n = 0 then s
  else
    let v := s.nrg.vig
    let on := sums.filter fun (a : Nat × Nat × Nat × Nat) => decide (a.1 < 8) && (v.mask >>> a.1) % 2 == 1
    let chans := on.foldl (fun (l : List VigChan) (a : Nat × Nat × Nat × Nat) =>
      let x := (findKey VigChan.chan a.1 l).getD { chan := a.1 }
      setKey VigChan.chan (vigAdd (v.ks.getD a.1 0) n x a.2.1 a.2.2.1) l) v.chans
    let th := v.thresh
    let sq := fun (a : Nat × Nat × Nat × Nat) => a.2.2.2 * v.ks.getD a.1 0 ^ 2
    let overs := on.any fun a => decide (th * th * 2 ^ 32 * n < sq a)
    let rms := on.map fun a => (isqrtWide (sq a / (2 ^ 32 * n)), a.1)
    let top := rms.foldl (fun (b : Nat × Nat) a => if b.1 < a.1 then a else b) (0, 0)
    let calm := if overs then 0 else v.calm + 1
    let flow := match v.flow with
      | none => if overs then some (second, none, top.1, top.2) else none
      | some (a, e, pk, c) =>
        let e1 := if e.isNone && calm = 10 then some (second + 1) else e
        if pk < top.1 then some (a, e1, top.1, top.2) else some (a, e1, pk, c)
    let s1 := { s with nrg := { s.nrg with vig := { v with chans := chans, flow := flow, calm := calm } } }
    if overs && v.flow.isNone then s1.pwrEvent 3 else s1

def execVigilSecond (second n : Nat) (sums : List (Nat × Nat × Nat × Nat)) (s : State) : Host.Outcome State Fault Refusal :=
  .next (vigilSecond second n sums s)

end Sys2Proof.Machine
end

