-- ==== Sys2Proof/Machine/Mac.lean ====
section
/-! DEFINITION. Ports and MACs: reception, PRP and HSR, flow control, optics, link state, 10BASE-T1S and MKA (R234–R265). -/

namespace Sys2Proof.Machine

/-! ### Frames as bytes -/

/-- A big-endian pair of bytes. -/
def be16 (b : List Nat) (i : Nat) : Nat := b.getD i 0 % 256 * 256 + b.getD (i + 1) 0 % 256

/-- A MAC address from byte i on, as the forwarding table holds it: bytes 2–5, then bytes 0–1 above them (R706). -/
def addrAt (b : List Nat) (i : Nat) : Nat :=
  ((List.range 4).map fun k => b.getD (i + 2 + k) 0 % 256 * 256 ^ k).sum +
    ((List.range 2).map fun k => b.getD (i + k) 0 % 256 * 256 ^ (4 + k)).sum

/-- Offset of the EtherType after any VLAN tag. -/
def ethOff (b : List Nat) : Nat := if be16 b 12 = 0x8100 then 16 else 12

/-- Whether a frame carries an HSR tag, the offset of the EtherType behind one, and that EtherType. -/
def hsrTagged (b : List Nat) : Bool := be16 b (ethOff b) == 0x892F
def ethPos (b : List Nat) : Nat := if hsrTagged b then ethOff b + 6 + (if be16 b (ethOff b + 6) = 0x8100 then 4 else 0) else ethOff b
def ethOf (b : List Nat) : Nat := be16 b (ethPos b)

/-- The messageType of a PTP frame (R196, IEEE 1588); types 0 to 3 are the event messages. -/
def ptpType (b : List Nat) : Nat := b.getD (ethPos b + 2) 0 % 16
def ptpEvent (b : List Nat) : Bool := ethOf b == 0x88F7 && decide (ptpType b < 4)

/-- A core frame with what its bytes say: EtherType, destination, tag, and whether it is a PTP event message. -/
def withHead (f : CoreFrame) (b : List Nat) : CoreFrame :=
  { f with eth := ethOf b, dst := addrAt b 0, tagged := be16 b 12 == 0x8100, vid := if be16 b 12 = 0x8100 then be16 b 14 % 4096 else 0,
           event := ptpEvent b }

/-- The redundancy trailer of a frame (R243, IEC 62439-3): sequence number and LanId, when it is valid. -/
def prpTrailer (b : List Nat) : Option (Nat × Nat) :=
  let n := b.length
  if n < 20 || be16 b (n - 2) ≠ 0x88FB || be16 b (n - 4) % 4096 ≠ n - ethOff b - 2 then none
  else some (be16 b (n - 6), be16 b (n - 4) / 4096)

/-- The sequence number of an HSR tag. -/
def hsrSeq (b : List Nat) : Nat := be16 b (ethOff b + 4)

/-- Frame length L of the core: without trailer or tag (R268). -/
def coreLen (b : List Nat) : Nat := if hsrTagged b then b.length - 6 else b.length

/-! ### Ports -/

/-- Whether a port operates (R237). -/
def State.operates (s : State) (p : Nat) : Bool := decide (p < 12) && s.flag Reg.MAC_CTRL_EN && s.flag (Reg.MACP_ENABLE_EN p)

/-- A cause bit of a port is set, with its event source (R263). -/
def State.macCause (s : State) (p b : Nat) : State :=
  (s.put (Reg.MACP_CAUSE_causes p) (withBit (s.get (Reg.MACP_CAUSE_causes p)) b true)).event (32 + 2 * p + if b < 4 then 0 else 1)

/-- Receive correction of a port's speed in tenths of a nanosecond (R198). -/
def State.rxCorr (s : State) (p : Nat) : Nat :=
  let c := s.get (Reg.MACP_CFG_SPEED p)
  if c = 0 then 1520 else if c = 1 then 480 else if c = 4 then 14000 else if s.flag (Reg.MACP_CFG_FEC p) then 2496 else 384

/-- The lines of a port that does not operate (R240, R251): no sync, and nothing negotiated. -/
def State.portIdle (s : State) (p : Nat) : State :=
  ((s.put (Reg.MACP_STAT_SYNC p) 0).put (Reg.MACP_STAT_AN_DONE p) 0).put (Reg.MACP_STAT_PAUSE_RES p) 0

/-- A port takes a state and a reason (R240, R264): leaving UP starts the link-down hold and ends what the MAC paused, leaving FAULT
clears 0x0603. -/
def State.portState (s : State) (p st reason : Nat) : State :=
  let old := s.get (Reg.MACP_STAT_STATE p)
  let s0 := if st = 0 then s.portIdle p else s
  let s1 := (s0.put (Reg.MACP_STAT_STATE p) st).put (Reg.MACP_STAT_REASON p) reason
  let s2 := if old = 4 && st ≠ 4 then
      ((if st = 0 then s1.stopQueues p else s1.linkHold p).macCause p 1).setPausing p 0
    else if st = 0 && old ≠ 0 then s1.stopQueues p else s1
  if old = 2 && st ≠ 2 then s2.clearFault 0x0603 p else s2

/-- A port enters FAULT (R240, R263, R265). -/
def State.portFault (s : State) (p reason : Nat) : State :=
  ((s.portState p 2 reason).macCause p 4).raiseAt 0x0603 1 p (p + reason * 256)

/-- A transceiver is identified (R239, R88): accepted, or FAULT with the reason. -/
def State.portIdent (s : State) (p : Nat) (i : OptIdent) : State :=
  let s1 := (s.put (Reg.MACP_OPTICS_PWR_DECL p) i.power).putFlag (Reg.MACP_OPTICS_DDM p) i.ddm
  if !i.speedOk && !s.flag (Reg.MACP_CFG_OPT_ANY p) then s1.portFault p 3
  else if 15 < i.power then s1.portFault p 4
  else (s1.macCause p 2).portState p 3 7

/-- A port stops operating (R237, R240). -/
def State.portStop (s : State) (p : Nat) : State :=
  if s.get (Reg.MACP_STAT_STATE p) = 0 then s else s.portState p 0 1

/-- A port starts operating (R88, R240, R243, R265): 0x0608 clears; the first port of a pair, the other one not operating
yet, starts its sequence counter at 0; a cage that is switched off cannot be identified and leaves the port in FAULT. -/
def State.portStart (s : State) (p : Nat) (i : OptIdent) : State :=
  let other := if p % 2 = 0 then p + 1 else p - 1
  let s0 := s.clearFault 0x0608 p
  let s1 := if p < 8 && s.get (Reg.MACP_STAT_STATE other) = 0 then
      { s0 with macs := { s0.macs with pairSeq := dropKey Prod.fst (p / 2) s0.macs.pairSeq } } else s0
  if 7 < p then s1.portState p 3 7
  else if s1.flag (Reg.MACP_STAT_MOD_ABS p) then s1.portState p 1 2
  else if s1.macs.cageOff.contains p then s1.portFault p 6
  else s1.portIdent p i

/-- PORT_ENABLE_CHANGE (R237, R240, R286): the port follows its enables; `ident` is what a transceiver present declares. -/
def portEnableChange (p : Nat) (i : OptIdent) (s : State) : State :=
  if 11 < p then s
  else if !s.operates p then s.portStop p
  else if s.get (Reg.MACP_STAT_STATE p) = 0 then s.portStart p i
  else s

def execPortEnableChange (port : Nat) (ident : OptIdent) (s : State) : Host.Outcome State Fault Refusal :=
  .next (portEnableChange port ident s)

/-- MOD_ABS_LOW (R239, R240). -/
def modAbsLow (p : Nat) (i : OptIdent) (s : State) : State :=
  if 7 < p || s.mainAbsent then s
  else
    let s1 := s.put (Reg.MACP_STAT_MOD_ABS p) 0
    if s1.get (Reg.MACP_STAT_STATE p) = 1 then s1.portIdent p i else s1

def execModAbsLow (port : Nat) (ident : OptIdent) (s : State) : Host.Outcome State Fault Refusal := .next (modAbsLow port ident s)

/-- MOD_ABS_HIGH (R240, R263). -/
def modAbsHigh (p : Nat) (s : State) : State :=
  if 7 < p || s.mainAbsent then s
  else
    let s1 := (s.put (Reg.MACP_STAT_MOD_ABS p) 1).macCause p 3
    if 2 ≤ s1.get (Reg.MACP_STAT_STATE p) then s1.portState p 1 2 else s1

def execModAbsHigh (port : Nat) (s : State) : Host.Outcome State Fault Refusal := .next (modAbsHigh port s)

/-- TX_FAULT_ASSERT (R240). -/
def txFaultAssert (p : Nat) (s : State) : State :=
  if 7 < p || s.mainAbsent then s
  else
    let s1 := s.put (Reg.MACP_STAT_TX_FAULT p) 1
    if 3 ≤ s1.get (Reg.MACP_STAT_STATE p) then s1.portFault p 5 else s1

def execTxFaultAssert (port : Nat) (s : State) : Host.Outcome State Fault Refusal := .next (txFaultAssert port s)

/-- Whether a port is in FAULT because its transceiver failed a check: TX_DISABLE stays asserted (R239). -/
def State.optRefused (s : State) (p : Nat) : Bool :=
  s.get (Reg.MACP_STAT_STATE p) == 2 && (s.get (Reg.MACP_STAT_REASON p) == 3 || s.get (Reg.MACP_STAT_REASON p) == 4)

/-- TX_FAULT_CLEAR (R240): a transceiver that failed a check of R239 does not leave FAULT by it (assumption 74). -/
def txFaultClear (p : Nat) (s : State) : State :=
  if 7 < p || s.mainAbsent then s
  else
    let s1 := s.put (Reg.MACP_STAT_TX_FAULT p) 0
    if s1.get (Reg.MACP_STAT_STATE p) = 2 && !s1.macs.cageOff.contains p && !s1.optRefused p then s1.portState p 3 7 else s1

def execTxFaultClear (port : Nat) (s : State) : Host.Outcome State Fault Refusal := .next (txFaultClear port s)

/-- TX_DISABLE_PULSE (R239): in FAULT, but for a transceiver that failed a check, whose TX_DISABLE stays asserted. -/
def txDisablePulse (p : Nat) (s : State) : State :=
  if p < 8 && s.get (Reg.MACP_STAT_STATE p) = 2 && !s.optRefused p then s.emit (.mac (s.ownAddr p) (.txDisable p)) else s

def execTxDisablePulse (port : Nat) (s : State) : Host.Outcome State Fault Refusal := .next (txDisablePulse port s)

/-- CAGE_OVERCURRENT (R88, R240). -/
def cageOvercurrent (p : Nat) (s : State) : State :=
  if 7 < p || s.mainAbsent then s
  else
    let s1 := { s with macs := { s.macs with cageOff := p :: s.macs.cageOff.filter (· ≠ p) } }
    if 3 ≤ s1.get (Reg.MACP_STAT_STATE p) then s1.portFault p 6 else s1

def execCageOvercurrent (port : Nat) (s : State) : Host.Outcome State Fault Refusal := .next (cageOvercurrent port s)

/-- CAGE_RETRY (R88): the cage is powered again. -/
def cageRetry (p : Nat) (s : State) : State := { s with macs := { s.macs with cageOff := s.macs.cageOff.filter (· ≠ p) } }

def execCageRetry (port : Nat) (s : State) : Host.Outcome State Fault Refusal := .next (cageRetry port s)

/-- DDM_READ (R239): temperature, powers and alarm flags of a transceiver that declares diagnostics. -/
def ddmRead (p temp tx rx : Nat) (alarm : Bool) (s : State) : State :=
  if 7 < p || !s.flag (Reg.MACP_OPTICS_DDM p) || s.flag (Reg.MACP_STAT_MOD_ABS p) then s
  else
    let s1 := ((s.put (Reg.MACP_OPTICS_TEMP p) temp).put (Reg.MACP_OPT_PWR_TX p) tx).put (Reg.MACP_OPT_PWR_RX p) rx
    if alarm then s1.macCause p 5 else s1

def execDdmRead (port temp tx rx : Nat) (alarm : Bool) (s : State) : Host.Outcome State Fault Refusal :=
  .next (ddmRead port temp tx rx alarm s)

/-! ### Link state (R240, R241, R265) -/

/-- A port enters UP (R240, R265, R285): a hold that runs ends with its frames kept, the faults of its pair or lane follow, and flow
control begins. -/
def State.enterUp (s : State) (p : Nat) : State :=
  let s1 := ((s.portState p 4 0).macCause p 0).put (Reg.SWC_PORT_EGR_HOLD p) 0
  let other := if p % 2 = 0 then p + 1 else p - 1
  let s2 := if p < 8 && s1.redundant p then
      let s3 := s1.clearFault 0x0602 (p / 2)
      if s3.portUp other then (s3.clearFault 0x0601 p).clearFault 0x0601 other else s3
    else if p = 8 || p = 9 then
      let s3 := s1.clearFault 0x0605 0
      if s3.portUp other then (s3.clearFault 0x0604 p).clearFault 0x0604 other else s3
    else s1
  s2.flowControl p

/-- Whether what a DOWN port with sync waits for is met: clause 37 where it runs, and a SAK on a MACsec port (R240, R259). -/
def State.mayComeUp (s : State) (p : Nat) : Bool :=
  (!s.flag (Reg.MACP_CFG_AN p) || s.flag (Reg.MACP_STAT_AN_DONE p)) && (!s.flag (Reg.MACP_MACSEC_EN p) || s.flag (Reg.MACP_STAT_MKA p))

/-- LINK_UP (R240, R259): the sync condition has held for UP_MS; from DOWN, for a MACsec port with a SAK only, the port enters UP. -/
def linkUp (p : Nat) (an res : Bool) (s : State) : State :=
  if 11 < p || !s.operates p then s
  else
    let done := an && s.flag (Reg.MACP_CFG_AN p)
    let s1 := ((s.put (Reg.MACP_STAT_SYNC p) 1).put (Reg.MACP_STAT_LOS p) 0).putFlag (Reg.MACP_STAT_AN_DONE p) done
    let s2 := s1.putFlag (Reg.MACP_STAT_PAUSE_RES p) (res && done && s.get (Reg.MACP_FC_MODE p) == 1)
    if s2.get (Reg.MACP_STAT_STATE p) ≠ 3 then s2
    else if s2.mayComeUp p then s2.enterUp p
    else s2.put (Reg.MACP_STAT_REASON p) (if s2.flag (Reg.MACP_CFG_AN p) && !done then 7 else 10)

def execLinkUp (port : Nat) (anDone pauseRes : Bool) (s : State) : Host.Outcome State Fault Refusal :=
  .next (linkUp port anDone pauseRes s)

/-- LINK_DOWN (R240). -/
def linkDown (p : Nat) (los : Bool) (s : State) : State :=
  if 11 < p || s.mainAbsent then s
  else
    let s1 := (if los then s.put (Reg.MACP_STAT_LOS p) 1 else s).portIdle p
    let why := if 9 < p then 9 else if los then 8 else 7
    if s1.portUp p then (s1.count (Reg.MACP_LINK_DOWNS_COUNT p)).portState p 3 why
    else if s1.get (Reg.MACP_STAT_STATE p) = 3 then s1.put (Reg.MACP_STAT_REASON p) why
    else s1

def execLinkDown (port : Nat) (los : Bool) (s : State) : Host.Outcome State Fault Refusal := .next (linkDown port los s)

/-- PORT_NOT_UP_TIMER (R265): a port has not been UP for 1 s. -/
def portNotUpTimer (p : Nat) (s : State) : State :=
  let other := if p % 2 = 0 then p + 1 else p - 1
  if 9 < p || s.portUp p then s
  else if p < 8 then
    if !s.redundant p then s
    else if s.portUp other then s.raiseAt 0x0601 1 p p else s.raiseAt 0x0602 2 (p / 2) (p / 2)
  else if s.portUp other then s.raiseAt 0x0604 1 p p else s.raise1 0x0605 2 0

def execPortNotUpTimer (port : Nat) (s : State) : Host.Outcome State Fault Refusal := .next (portNotUpTimer port s)

/-! ### Flow control received (R252, R253) -/

/-- Time of q quanta on a port in ns. -/
def State.quantaNs (s : State) (p q : Nat) : Nat := q * 512 * 1000 / s.portMbps p

/-- Classes of a port are paused until an instant, or freed by 0 quanta; PAUSED follows. -/
def State.pauseClass (s : State) (p tc q now : Nat) : State :=
  let key := 16 * p + tc
  let l := if q = 0 then dropKey Prod.fst key s.macs.paused
    else setKey Prod.fst (key, now + s.quantaNs p q) s.macs.paused
  let s1 := { s with macs := { s.macs with paused := l } }
  s1.putFlag (Reg.MACP_STAT_PAUSED p) (l.any fun x => x.1 / 16 == p && decide (now < x.2))

/-- A PAUSE frame arrives, its end at `now` (R253). -/
def State.pauseFrame (s : State) (p q now : Nat) : State :=
  let s1 := s.count (Reg.MACP_CTL_RX_PAUSE p)
  if s.flag (Reg.MACP_FC_OBEY p) && s.pauseMode p then
    (List.range 8).foldl (fun s tc => s.pauseClass p tc (q % 65536) now) s1
  else s1

/-- A PFC frame arrives (R253). -/
def State.pfcFrame (s : State) (p classes : Nat) (q : List Nat) (now : Nat) : State :=
  let s1 := s.count (Reg.MACP_CTL_RX_PFC p)
  if s.get (Reg.MACP_FC_MODE p) = 2 then
    (List.range 8).foldl (fun s tc =>
      if (classes >>> tc) % 2 = 1 && (s.get (Reg.MACP_FC_PFC_OBEY p) >>> tc) % 2 = 1 then s.pauseClass p tc (q.getD tc 0 % 65536) now
      else s) s1
  else s1

/-- PAUSE_RX (R253). -/
def execPauseRx (port quanta now : Nat) (s : State) : Host.Outcome State Fault Refusal :=
  .next (if s.operates port then (s.advance (now * nsUnit)).pauseFrame port quanta now else s)

/-- PFC_RX (R253). -/
def execPfcRx (port classes : Nat) (quanta : List Nat) (now : Nat) (s : State) : Host.Outcome State Fault Refusal :=
  .next (if s.operates port then (s.advance (now * nsUnit)).pfcFrame port classes quanta now else s)

/-- PAUSE_REFRESH (R252). -/
def pauseRefresh (p : Nat) (s : State) : State :=
  let m := s.pausing p
  if 7 < p || !s.portUp p then s
  else if s.pauseMode p && m / 256 % 2 = 1 then s.sendPause p (s.get (Reg.MACP_FC_QUANTA_QUANTA p))
  else if s.get (Reg.MACP_FC_MODE p) = 2 && m % 16 ≠ 0 then s.sendPfc p (m % 16) 0
  else s

def execPauseRefresh (port : Nat) (s : State) : Host.Outcome State Fault Refusal := .next (pauseRefresh port s)

/-! ### Duplicate tables (R244, R247) -/

/-- The duplicate table of a pair. -/
def State.dupTable (s : State) (k : Nat) : List DupEntry := (findKey Prod.fst k s.macs.dup).elim [] Prod.snd

/-- The table replaced, with ENTRIES and FULL. -/
def State.setDupTable (s : State) (k : Nat) (l : List DupEntry) : State :=
  ({ s with macs := { s.macs with dup := setKey Prod.fst (k, l) s.macs.dup } }.put (Reg.MAC_PAIR_STAT_ENTRIES k) l.length).putFlag
    (Reg.MAC_PAIR_STAT_FULL k) (decide (1024 ≤ l.length))

/-- A window of an entry: 0 dlv, 1 fw0, 2 fw1. -/
def dupWindow (e : DupEntry) (w : Nat) : Nat := if w = 0 then e.dlv else if w = 1 then e.fw0 else e.fw1
def setDupWindow (e : DupEntry) (w v : Nat) : DupEntry :=
  if w = 0 then { e with dlv := v } else if w = 1 then { e with fw0 := v } else { e with fw1 := v }

/-- The test of R244 on a window: the entry after it, whether the frame is a first copy, whether it is older than the window. -/
def dupTest (e : DupEntry) (w q : Nat) : DupEntry × Bool × Bool :=
  let d := (q + 65536 - e.high) % 65536
  if d = 0 || 65409 ≤ d then
    let j := (65536 - d) % 65536
    if (dupWindow e w >>> j) % 2 = 1 then (e, false, false) else (setDupWindow e w (dupWindow e w + 2 ^ j), true, false)
  else if d ≤ 32767 then
    let sh := fun x => x * 2 ^ d % 2 ^ 128
    let e1 := { e with dlv := sh e.dlv, fw0 := sh e.fw0, fw1 := sh e.fw1, high := q }
    (setDupWindow e1 w (dupWindow e1 w + 1), true, false)
  else (e, true, true)

/-- A source is tested on windows in order; an entry is made for a new one, unless the table is full: then the answer is none
(R244, R247). -/
def State.dupCheck (s : State) (k src q now : Nat) (ws : List Nat) : State × Option (List Bool) :=
  let t := s.dupTable k
  match findKey DupEntry.src src t with
  | none =>
    if 1024 ≤ t.length then ((s.count (Reg.MAC_PAIR_FULL_CNT_COUNT k)).raiseAt 0x0607 1 k k, none)
    else
      let e := ws.foldl (fun (e : DupEntry) w => (dupTest e w q).1) { src := src, high := q, last := now }
      (s.setDupTable k (setKey DupEntry.src e t), some (ws.map fun _ => true))
  | some e0 =>
    let (e, r, n) := ws.foldl (fun (a : DupEntry × List Bool × Nat) w =>
      let (e1, ok, old) := dupTest a.1 w q
      (e1, a.2.1 ++ [ok], a.2.2 + if old then 1 else 0)) ({ e0 with last := now }, [], 0)
    ((s.countBy (Reg.MAC_PAIR_OOW_CNT_COUNT k) n).setDupTable k (setKey DupEntry.src e t), some r)

/-- DUP_ENTRY_FORGET (R244). -/
def dupEntryForget (k src : Nat) (s : State) : State :=
  if 3 < k then s else
  match findKey DupEntry.src src (s.dupTable k) with
  | none => s
  | some e =>
    (s.advance ((e.last + 1000000 * s.get (Reg.MAC_PAIR_CFG_FORGET k)) * nsUnit)).setDupTable k
      (dropKey DupEntry.src src (s.dupTable k))

def execDupEntryForget (pair src : Nat) (s : State) : Host.Outcome State Fault Refusal := .next (dupEntryForget pair src s)

/-! ### Supervision (R248) -/

/-- The node table of a pair, and its count in NODES. -/
def State.nodeTable (s : State) (k : Nat) : List (Nat × Nat) := (findKey Prod.fst k s.macs.nodes).elim [] Prod.snd
def State.setNodeTable (s : State) (k : Nat) (l : List (Nat × Nat)) : State :=
  { s with macs := { s.macs with nodes := setKey Prod.fst (k, l) s.macs.nodes } }.put (Reg.MAC_PAIR_STAT_NODES k) l.length

/-- A supervision frame of a node; a node that finds the table full is not entered. -/
def State.supervised (s : State) (k node now : Nat) : State :=
  let t := s.nodeTable k
  if (findKey Prod.fst node t).isNone && 256 ≤ t.length then s else s.setNodeTable k (setKey Prod.fst (node, now) t)

/-- SUPERVISION_RX (R248). -/
def execSupervisionRx (pair node now : Nat) (s : State) : Host.Outcome State Fault Refusal :=
  .next (if pair < 4 && s.redundant (2 * pair) then (s.advance (now * nsUnit)).supervised pair node now else s)

/-- An untagged frame that an internal unit makes goes to ports through the switch core, from the unit's core port (R266, R273). -/
def State.unitSend (s : State) (src tc eth dst len : Nat) (seqs : List (Nat × Nat)) (ports : List Nat) : State :=
  if s.flag Reg.SWC_CTRL_EN then
    (s.coreEnter { id := 0, src := src, tc := tc, len := len, eth := eth, dst := dst, stamp := s.ns, seqs := seqs } ports).1
  else s

/-- A frame of the keeper, from core port 15. -/
def State.keeperSend (s : State) (tc eth dst len : Nat) (seqs : List (Nat × Nat)) (ports : List Nat) : State :=
  s.unitSend 15 tc eth dst len seqs ports

/-- SUPERVISION_TX (R243, R248): to 01-15-4E-00-01-00 in TC3 on both ports of a pair, with one sequence number; its length is that of a
minimum frame (assumption 74). -/
def supervisionTx (k : Nat) (s : State) : State :=
  if 3 < k || !s.redundant (2 * k) || !(s.operates (2 * k) || s.operates (2 * k + 1)) then s
  else
    let (s1, seqs) := s.numberPairs [2 * k]
    s1.keeperSend 3 0x88FB 0x15010001004E 60 seqs [2 * k, 2 * k + 1]

def execSupervisionTx (pair : Nat) (s : State) : Host.Outcome State Fault Refusal := .next (supervisionTx pair s)

/-- NODE_ENTRY_AGE (R248). -/
def nodeEntryAge (k node : Nat) (s : State) : State :=
  if 3 < k then s else
  match findKey Prod.fst node (s.nodeTable k) with
  | none => s
  | some (_, t) => (s.advance ((t + 60000000000) * nsUnit)).setNodeTable k (dropKey Prod.fst node (s.nodeTable k))

def execNodeEntryAge (pair node : Nat) (s : State) : Host.Outcome State Fault Refusal := .next (nodeEntryAge pair node s)

/-! ### Reception (R236, R245, R246, R257, R273) -/

/-- The traffic class of a received frame (R273). -/
def State.rxClass (s : State) (p : Nat) (b : List Nat) : Nat :=
  let e := ethOf b
  if e = 0x88F7 then 7 else if e = 0x88BA then 6 else if e = 0x88B8 then 5 else if e = 0x88B5 then 4
  else if p = 8 || p = 9 then 4
  else if be16 b 12 = 0x8100 then s.get Reg.SWC_PCP_MAP_MAP >>> (2 * (be16 b 14 / 8192)) % 4
  else s.get (Reg.SWC_PORT_CLASS_DEF_TC p)

/-- An accepted frame enters the switch core: `flags` are RX flags of R144, `extra` the port of HSR forwarding with the number
that the frame keeps. -/
def State.rxCore (s : State) (p : Nat) (b : List Nat) (stamp flags : Nat) (deliver : Bool) (extra : Option (Nat × Nat)) : State :=
  if !s.flag Reg.SWC_CTRL_EN then s
  else
    let tc := s.rxClass p b
    let len := coreLen b
    let (s1, col, m) := s.meter p tc len s.ns
    if col = 2 && m.any fun k => s1.getA (Reg.SWC_METER_CIR_RED_DROP k) == 1 then s1.count (Reg.SWC_PORT_RED_DROP_COUNT p)
    else
      let tagged := be16 b 12 = 0x8100
      let vid := if tagged then be16 b 14 % 4096 else 0
      let dst := addrAt b 0
      let (mask, host) := s1.fdbLookup dst vid
      let ports := if deliver then s1.egress p (ethOf b) mask host false else []
      let (s2, seqs) := s1.numberPairs ports
      let (ports', seqs') := match extra with
        | some (o, q) => (ports ++ [o], seqs ++ [(o / 2, q)])
        | none => (ports, seqs)
      let onRing := ptpEvent b && extra.isSome && (s2.get Reg.TIM_PTP_CFG_PORTS >>> p) % 2 = 1
      let f : CoreFrame := { withHead { id := 0, src := p, tc := tc, len := len } b with
                             colour := col, stamp := stamp, slice := host.getD 0, seqs := seqs',
                             flags := flags + 4 + (if tagged then 8 else 0) + (if col = 2 then 16 else 0),
                             ring := if onRing then some ((stamp * 65536 : Nat) - s2.linkDelay p - s2.getS (Reg.TIM_PORT_ASYM_ASYM p)) else none,
                             age := if tc = 5 || tc = 6 then some (stamp + 1000 * s2.get Reg.SWC_TRIP_AGE_US) else none }
      (s2.coreEnter f ports').1

/-- A frame that passed the checks is counted (R262). -/
def State.rxCounted (s : State) (p n : Nat) : State :=
  (s.countMod (Reg.MACP_RX_FRAMES_COUNT p) 1).countMod (Reg.MACP_RX_OCTETS_COUNT p) n

/-- A frame of a PRP pair (R245, R247); a discarded copy of an SV frame is reported to the aligner. -/
def State.rxPrp (s : State) (p : Nat) (b : List Nat) (stamp flags n : Nat) : State :=
  match prpTrailer b with
  | none => (s.rxCounted p n).rxCore p b stamp flags true none
  | some (q, lan) =>
    let s1 := if lan ≠ 10 + p % 2 then s.count (Reg.MACP_LAN_ERR_COUNT p) else s
    let body := b.take (b.length - 6)
    let (s2, r) := s1.dupCheck (p / 2) (addrAt b 6) q s1.ns [0]
    match r with
    | none => (s2.rxCounted p n).rxCore p body stamp flags true none
    | some l =>
      if l.headD true then (s2.rxCounted p n).rxCore p body stamp (flags + 64) true none
      else
        let s3 := s2.count (Reg.MACP_DUP_DISCARD_COUNT p)
        if ethOf body = 0x88BA then { s3 with svi := { s3.svi with dups := s3.svi.dups ++ [stamp] } } else s3

/-- A frame of an HSR pair (R246, R247). -/
def State.rxHsr (s : State) (p : Nat) (b : List Nat) (stamp flags n : Nat) : State :=
  let o := if p % 2 = 0 then p + 1 else p - 1
  if !hsrTagged b then s.count (Reg.MACP_LAN_ERR_COUNT p)
  else if addrAt b 6 = s.ownAddr p then s.count (Reg.MACP_DUP_DISCARD_COUNT p)
  else
    let q := hsrSeq b
    let multi := b.headD 0 % 2 = 1
    let mine := addrAt b 0 = s.ownAddr p
    let fw := 1 + o % 2
    let ws := if mine then [0] else if multi then [0, fw] else [fw]
    let (s1, r) := s.dupCheck (p / 2) (addrAt b 6) q s.ns ws
    let l := r.getD (ws.map fun _ => true)
    let dl := (mine || multi) && l.headD true
    let fwd := !mine && l.getLastD true
    if !dl && !fwd then s1.count (Reg.MACP_DUP_DISCARD_COUNT p)
    else (s1.rxCounted p n).rxCore p b stamp (flags + if r.isSome then 64 else 0) dl (if fwd then some (o, q) else none)

/-- FCS errors within a second reach the limit (R261). -/
def State.fcsError (s : State) (p : Nat) : State :=
  let sec := s.ns / 1000000000
  let n := match findKey Prod.fst p s.macs.fcs with
    | some (_, t, k) => if t = sec then k + 1 else 1
    | none => 1
  let s1 := { s with macs := { s.macs with fcs := setKey Prod.fst (p, sec, n) s.macs.fcs } }.count (Reg.MACP_FCS_ERR_COUNT p)
  if s1.get (Reg.MACP_ERR_LIMIT_FCS p) = n then s1.macCause p 6 else s1

/-- A drop by MACsec (R257): CAUSE.MACSEC_BAD is set unless it is set already. -/
def State.macsecDrop (s : State) (p : Nat) (f : Field) : State :=
  let s1 := s.count f
  if s1.get (Reg.MACP_CAUSE_causes p) >>> 8 % 2 = 1 then s1 else s1.macCause p 8

/-- A PTP frame on a port that runs PTP goes to the keeper (R196, R236): Delay_Req, Delay_Resp and Management are ignored and counted;
on an HSR pair it is also forwarded around the ring under R246, but for the peer-delay messages, which stay on their link. -/
def State.rxPtp (s : State) (p : Nat) (b : List Nat) (stamp flags n : Nat) : State :=
  let t := ptpType b
  let s1 := if t = 1 || t = 9 || t = 13 then { s with tim := { s.tim with ignored := s.tim.ignored + 1 } } else s
  if s.pairMode p = 2 && hsrTagged b && t ≠ 2 && t ≠ 3 && t ≠ 10 then
    if addrAt b 6 = s.ownAddr p then s1.count (Reg.MACP_DUP_DISCARD_COUNT p)
    else
      let o := if p % 2 = 0 then p + 1 else p - 1
      let (s2, r) := s1.dupCheck (p / 2) (addrAt b 6) (hsrSeq b) s.ns [1 + o % 2]
      let s3 := s2.rxCounted p n
      if (r.getD [true]).headD true then s3.rxCore p b stamp flags false (some (o, hsrSeq b)) else s3
  else s1.rxCounted p n

/-- The stamp of a received frame in ns (R197, R198): the fixed correction of the speed moves it to the PCS boundary, LAT_RX that of a
PTP event message on to the connector. -/
def State.rxStamp (s : State) (p : Nat) (w : RxWire) : Nat :=
  let lat := if ptpEvent w.bytes then 10 * s.get (Reg.TIM_PORT_LAT_RX_LAT p) else 0
  (w.stamp * 655360 - s.rxCorr p * 65536 - lat) / 655360

/-- A frame at the MAC after any injection. -/
def State.rxMac (s : State) (p : Nat) (w : RxWire) : State :=
  let n := w.bytes.length + 4
  let sec := s.flag (Reg.MACP_MACSEC_EN p)
  let e0 := be16 w.bytes (ethOff w.bytes)
  let exempt := s.bypasses p e0
  let stamp := s.rxStamp p (if sec && !exempt then { w with bytes := w.plain } else w)
  if !w.fcsOk then s.fcsError p
  else if n < 64 || 9642 < n then s.count (Reg.MACP_LEN_ERR_COUNT p)
  else if sec && !exempt && w.sec = 2 then s.macsecDrop p (Reg.MACP_MACSEC_BAD_COUNT p)
  else if sec && !exempt && (w.sec = 0 || w.sec = 3) then s.macsecDrop p (Reg.MACP_MACSEC_NOSA_COUNT p)
  else if sec && !exempt && w.sec = 4 && s.flag (Reg.MACP_MACSEC_REPLAY p) then s.macsecDrop p (Reg.MACP_MACSEC_LATE_COUNT p)
  else if sec && !exempt && !s.portUp p then s
  else
    let s := if sec && !exempt then { s with macs := { s.macs with unproven := s.macs.unproven.filter (· ≠ p) } } else s
    let b := if sec && !exempt then w.plain else w.bytes
    let flags := if sec && !exempt then 32 else 0
    let e := ethOf b
    if e0 = 0x8808 || e = 0x8808 then
      let op := be16 b 14
      let s1 := s.rxCounted p n
      if op = 1 then s1.pauseFrame p (be16 b 16) s.ns
      else if op = 0x101 then s1.pfcFrame p (be16 b 16) ((List.range 8).map fun c => be16 b (18 + 2 * c)) s.ns
      else s.count (Reg.MACP_CTRL_BAD_COUNT p)
    else if sec && e0 = 0x888E then s.rxCounted p n
    else if p < 8 && s.redundant p && e = 0x88FB && addrAt b 0 % 2 ^ 24 = 0x01004E && addrAt b 0 / 2 ^ 32 = 0x1501 then
      (s.rxCounted p n).supervised (p / 2) (addrAt b 6) s.ns
    else if p < 8 && e = 0x88F7 && (s.get Reg.TIM_PTP_CFG_PORTS >>> p) % 2 = 1 then s.rxPtp p b stamp flags n
    else if s.pairMode p = 1 then s.rxPrp p b stamp flags n
    else if s.pairMode p = 2 then s.rxHsr p b stamp flags n
    else (s.rxCounted p n).rxCore p b stamp flags true none

/-- What the injections do to a received frame, before the checks of the MAC (R699): none when it is removed or held. -/
def State.injRx (s : State) (w : RxWire) (p tc : Nat) : List Injection → State × Option RxWire
  | [] => (s, some w)
  | i :: l =>
    if i.kind = 1 then (s.injHit i.id, none)
    else if i.kind = 2 then
      let off := i.param % 65536
      let m := i.param / 65536 % 256
      let n := w.bytes.length
      let fixed := i.flags / 2 % 2 = 1
      let w1 := if off < n then { w with bytes := w.bytes.set off (Nat.xor (w.bytes.getD off 0) m), fcsOk := fixed || (w.fcsOk && m == 0),
                                         plain := w.plain, sec := if m ≠ 0 && w.sec = 1 then 2 else w.sec }
        else if off < n + 4 then { w with fcsOk := fixed || (w.fcsOk && m == 0) } else w
      State.injRx (s.injHit i.id) w1 p tc l
    else if i.kind = 4 && decide (1048576 < s.fijBytes + w.bytes.length) then State.injRx s w p tc l
    else
      let h : FijHeld := { id := i.id, port := p, tx := false, tc := tc, rx := some w, out := none,
                           due := if i.kind = 4 then some (w.done + 1000 * i.param) else none }
      let s1 := s.injHit i.id
      ({ s1 with swc := { s1.swc with fij := s1.swc.fij ++ [h] } }, none)

/-- Frames that an injection held and gives back go to their MAC, or onto the wire. -/
def State.fijGive (s : State) (l : List FijHeld) : State :=
  l.foldl (fun s h => match h.rx with
    | some w => s.rxMac h.port w
    | none => s.fijSend [h]) s

/-- The end of a received frame: time, and the codewords that the decoder has met since the last one. -/
def State.macArrived (s : State) (p : Nat) (w : RxWire) (fecCorr fecUncorr : Nat) : State :=
  let s0 := (s.advance (w.done * nsUnit)).countBy (Reg.MACP_FEC_CORR_COUNT p) fecCorr
  if fecUncorr = 0 then s0 else (s0.countBy (Reg.MACP_FEC_UNCORR_COUNT p) fecUncorr).macCause p 7

/-- A frame passes the injections of its port (R699) to the MAC, and the frames that it sets free follow. -/
def State.macTake (s1 : State) (p : Nat) (w : RxWire) (luck : List Nat) : State :=
  let tc := s1.rxClass p (if w.sec = 1 then w.plain else w.bytes)
  let (s2, due) := s1.fijDue w.done none
  let (s3, sel) := (s2.fijGive due).injSelect false p tc 0 0xFFFF luck
  let (s4, out) := s3.injRx w p tc sel
  match out with
  | none => s4
  | some x =>
    let (s5, held) := (s4.rxMac p x).fijDue w.done (some (false, p, tc))
    s5.fijGive held

/-- MAC_FRAME_RX (R236): `fecCorr` and `fecUncorr` are the codewords that the port's decoder has met since the last frame. -/
def macFrameRx (p : Nat) (w : RxWire) (fecCorr fecUncorr : Nat) (luck : List Nat) (s : State) : State :=
  if !s.operates p || s.get (Reg.MACP_STAT_STATE p) < 3 then s else (s.macArrived p w fecCorr fecUncorr).macTake p w luck

def execMacFrameRx (port : Nat) (frame : RxWire) (fecCorr fecUncorr : Nat) (luck : List Nat) (s : State) :
    Host.Outcome State Fault Refusal :=
  .next (macFrameRx port frame fecCorr fecUncorr luck s)

/-! ### 10BASE-T1S (R249, R250) -/

/-- T1S_COLLISION (R249): the frame in transmission waits a drawn number of slot times, or is discarded after 16 attempts. -/
def t1sCollision (p now : Nat) (late : Bool) (s : State) : State :=
  if p ≠ 10 && p ≠ 11 then s
  else
    match s.swc.copies.find? fun c => c.port == p && c.stage == 3 with
    | none => s
    | some c =>
      let s0 := (s.advance (now * nsUnit)).count (Reg.MACP_COLL_COLL p)
      let s1 := if late then s0.count (Reg.MACP_COLL_LATE p) else s0
      let n := (findKey Prod.fst p s1.macs.attempts).elim 0 Prod.snd + 1
      if 16 ≤ n then
        let s2 := { s1 with macs := { s1.macs with attempts := dropKey Prod.fst p s1.macs.attempts } }
        ((s2.count (Reg.MACP_COLL_EXCESS p)).macCause p 10).releaseCopy c (some .timeout)
      else
        let r := s1.free % 2 ^ min n 10
        let s2 := { s1 with macs := { s1.macs with attempts := setKey Prod.fst (p, n) s1.macs.attempts,
                                                   backoff := setKey Prod.fst (p, now + 51200 * r) s1.macs.backoff } }
        s2.drawn.putCopy { c with stage := 2 }

def execT1sCollision (port now : Nat) (late : Bool) (s : State) : Host.Outcome State Fault Refusal :=
  .next (t1sCollision port now late s)

/-- PLCA_STATUS_LOST (R250). -/
def plcaStatusLost (p : Nat) (s : State) : State :=
  if (p = 10 || p = 11) && s.flag (Reg.MACP_STAT_PLCA_ST p) then (s.put (Reg.MACP_STAT_PLCA_ST p) 0).macCause p 11 else s

def execPlcaStatusLost (port : Nat) (s : State) : Host.Outcome State Fault Refusal := .next (plcaStatusLost port s)

/-- PLCA_STATUS_UP (R250): node 0 is the coordinator, which sends the BEACON; NODE_CNT counts there only. -/
def plcaStatusUp (p : Nat) (s : State) : State :=
  if (p = 10 || p = 11) && s.operates p && s.flag (Reg.MACP_T1S_PLCA_EN p) then
    let s1 := s.put (Reg.MACP_STAT_PLCA_ST p) 1
    if s.get (Reg.MACP_T1S_NODE_ID p) = 0 then s1.emit (.mac (s.ownAddr p) (.beacon p (s.get (Reg.MACP_T1S_NODE_CNT p)))) else s1
  else s

def execPlcaStatusUp (port : Nat) (s : State) : Host.Outcome State Fault Refusal := .next (plcaStatusUp port s)

/-! ### MKA (R256, R259) -/

/-- A SAK is installed on a port (R256, R259, R265), as yet unproven by a valid frame; a port that only waited for it enters UP. -/
def State.sakInstalled (s : State) (p : Nat) : State :=
  let n := (findKey Prod.fst p s.macs.saks).elim 0 Prod.snd + 1
  let s1 := ({ s with macs := { s.macs with saks := setKey Prod.fst (p, n) s.macs.saks,
                                            unproven := p :: s.macs.unproven.filter (· ≠ p) } }.put (Reg.MACP_STAT_MKA p) 1).clearFault 0x0606 p
  if s1.get (Reg.MACP_STAT_STATE p) = 3 && s1.flag (Reg.MACP_STAT_SYNC p) && s1.mayComeUp p then s1.enterUp p else s1

/-- The module distributes a new SAK on a port and installs it. -/
def State.sakDistribute (s : State) (p : Nat) : State :=
  let s1 := s.sakInstalled p
  s1.emit (.mac (s.ownAddr p) (.sak p ((findKey Prod.fst p s1.macs.saks).elim 0 Prod.snd)))

/-- Key-server priority of the module on a port (R256): on P8 and P9 by position. -/
def State.ksPrio (s : State) (p : Nat) : Nat :=
  if p = 8 || p = 9 then (if s.flag Reg.GLB_STRAPS_PAIR_POS then 0x20 else 0x10) else s.get (Reg.MACP_MACSEC_KS_PRIO p)

/-- MKPDU_RX (R256): a second live peer is ignored and journaled; a peer that becomes live brings a new SAK, distributed by the
key server of the two; a refused key sets source 158 (R638). -/
def mkpduRx (m : MkPdu) (s : State) : State :=
  let p := m.port
  let slot := s.get (Reg.MACP_MACSEC_CAK_SLOT p)
  if !s.operates p || 9 < p || !s.flag (Reg.MACP_MACSEC_EN p) then s
  else if !s.keyUsable slot 0 0 then s.event 158
  else if !m.icvOk then s
  else
    match findKey Prod.fst p s.macs.peers with
    | some (_, q) =>
      if q ≠ m.peer then s.noteOpen 6
      else if m.sak && !(decide (s.ksPrio p < m.prio) || (s.ksPrio p = m.prio && !m.lower)) then s.sakInstalled p else s
    | none =>
      let s1 := { s with macs := { s.macs with peers := setKey Prod.fst (p, m.peer) s.macs.peers } }
      if s.ksPrio p < m.prio || (s.ksPrio p = m.prio && !m.lower) then s1.sakDistribute p
      else if m.sak then s1.sakInstalled p else s1

def execMkpduRx (pdu : MkPdu) (s : State) : Host.Outcome State Fault Refusal := .next (mkpduRx pdu s)

/-- MKA_PEER_LOST (R256, R259): 6 s without an MKPDU; the SAK is withdrawn and the port returns to DOWN. -/
def mkaPeerLost (p : Nat) (s : State) : State :=
  if 9 < p || (findKey Prod.fst p s.macs.peers).isNone then s
  else
    let s1 := { s with macs := { s.macs with peers := dropKey Prod.fst p s.macs.peers } }.put (Reg.MACP_STAT_MKA p) 0
    let s2 := (s1.macCause p 9).raiseAt 0x0606 1 p p
    if s2.portUp p then s2.portState p 3 10 else s2

def execMkaPeerLost (port : Nat) (s : State) : Host.Outcome State Fault Refusal := .next (mkaPeerLost port s)

/-- PN_EXHAUSTED (R256): a packet number reaches 2^62. -/
def pnExhausted (p : Nat) (s : State) : State :=
  if p ≤ 9 && s.flag (Reg.MACP_STAT_MKA p) && (findKey Prod.fst p s.macs.peers).isSome then s.sakDistribute p else s

def execPnExhausted (port : Nat) (s : State) : Host.Outcome State Fault Refusal := .next (pnExhausted port s)

/-- MKA_HELLO_TX (R241, R256, R273): an MKPDU, in TC3, on each MACsec port that operates with a transmitter on; its length is not stated
(assumption 74). -/
def mkaHelloTx (s : State) : State :=
  (List.range 10).foldl (fun s p =>
    if s.operates p && s.flag (Reg.MACP_MACSEC_EN p) && 3 ≤ s.get (Reg.MACP_STAT_STATE p) &&
        s.keyUsable (s.get (Reg.MACP_MACSEC_CAK_SLOT p)) 0 0 then s.keeperSend 3 0x888E 0x8001030000C2 128 [] [p] else s) s

def execMkaHelloTx (s : State) : Host.Outcome State Fault Refusal := .next (mkaHelloTx s)

end Sys2Proof.Machine
end

