-- ==== Sys2Proof/Machine/Keys.lean ====
section
/-! DEFINITION. Key slots, stages, commits, the life cycle, service access and tamper (R631–R661). -/

namespace Sys2Proof.Machine

/-! ### Policies and identifiers (R635–R640) -/

/-- Fields of a policy word and of a uses word (R656). -/
def polOwner (w : Nat) : Nat := w / 2 ^ 24 % 256
def polType (w : Nat) : Nat := w / 2 ^ 20 % 16
def polDerived (w : Nat) : Bool := w / 2 ^ 19 % 2 == 1
def polSigner (w : Nat) : Bool := w / 2 ^ 18 % 2 == 1
def polGroup (w : Nat) : Nat := w / 2 ^ 15 % 8
def polSurvive (w : Nat) : Nat := w / 2 ^ 12 % 8
def polMeas (w : Nat) : Nat := w / 2 ^ 4 % 256
def useMask (u : Nat) : Nat := u % 2 ^ 9
def useMinSvn (u : Nat) : Nat := u / 2 ^ 16 % 2 ^ 16

/-- Every use of a mask fits a TYPE (R638). -/
def typeFitsUses (type mask : Nat) : Bool := (List.range 9).all fun b => (mask >>> b) % 2 == 0 || typeFits type b

/-- k little-endian bytes of a number. -/
def bytesLe (n k : Nat) : List Nat := (List.range k).map fun j => n / 256 ^ j % 256

/-- The ASCII bytes of "NRL4812-DKEY" and of "NRL4812-KID". -/
def dkeyLabel : List Nat := [78, 82, 76, 52, 56, 49, 50, 45, 68, 75, 69, 89]
def kidLabel : List Nat := [78, 82, 76, 52, 56, 49, 50, 45, 75, 73, 68]

/-- The context of a slot (R635). -/
def State.keyContext (s : State) (k gen policy uses : Nat) : List Nat :=
  let bind := if polSigner policy then [255] ++ bytesLe s.boot.image.hash 48 ++ bytesLe (useMinSvn uses) 2
    else [polMeas policy] ++ ((List.range 8).filter fun m => (polMeas policy >>> m) % 2 == 1).flatMap fun m =>
      (List.range 12).flatMap fun w => bytesLe (s.get (Reg.KPR_MEAS_WORD m w)) 4
  bytesLe k 2 ++ bytesLe gen 4 ++ [s.get Reg.KEY_STATUS_DEBUG] ++ bind

/-- The number that a byte string stands for, byte 0 lowest. -/
def numOf (b : List Nat) : Nat := b.foldr (fun x n => x % 256 + 256 * n) 0

/-- A derived key (R636). -/
def State.derivedKey (s : State) (k gen policy uses : Nat) : Nat :=
  let len := if polType policy = 0 then 256 else if polType policy = 3 then 384 else 512
  Config.kdf (numOf dkeyLabel) (s.keyContext k gen policy uses) len

/-- KEYID (R640). -/
def State.keyId (s : State) (k gen policy uses : Nat) (material : List Nat) : Nat :=
  let m := if polDerived policy then s.derivedKey k gen policy uses else numOf material
  if polType policy = 0 || polType policy = 3 then Config.hmac384 m kidLabel % 2 ^ 384
  else if polType policy = 1 then Config.sha384 material % 2 ^ 384
  else Config.sha384 (bytesLe (Config.p384Public m) 97) % 2 ^ 384

/-! ### Slots -/

/-- The state of a slot (R656), its stage, and the words of its committed policy. -/
def State.keySt (s : State) (k : Nat) : Nat := s.get (Reg.KEY_SLOT_STATE_STATE k)
def State.stageOf (s : State) (k : Nat) : Option KeyStaged := findKey KeyStaged.slot k s.keys.stages
def State.keyPolicy (s : State) (k : Nat) : Nat := (s.rd (0x141000 + 0x10 * k)).toNat
def State.keyUses (s : State) (k : Nat) : Nat := (s.rd (0x141004 + 0x10 * k)).toNat

/-- A general slot counts against its owner's quota (R639). -/
def State.keyTake (s : State) (k slice : Nat) : State := if 16 ≤ k then s.take (Reg.SLC_SLICE_QD_KEYS slice) 1 else s
def State.keyGive (s : State) (k slice : Nat) : State := if 16 ≤ k then s.give (Reg.SLC_SLICE_QD_KEYS slice) 1 else s

/-- A stage leaves: its bits, the quota of an EMPTY slot. -/
def State.dropStage (s : State) (k : Nat) : State :=
  match s.stageOf k with
  | none => s
  | some g =>
    let s1 := { s with keys := { s.keys with stages := dropKey KeyStaged.slot k s.keys.stages } }
    let s2 := ((s1.put (Reg.KEY_SLOT_STATE_STAGED k) 0).put (Reg.KEY_SLOT_STATE_VERIFIED k) 0).put Reg.KEY_STATUS_STAGED s1.keys.stages.length
    if s2.keySt k = keyEmpty then s2.keyGive k g.slice else s2

/-- A stage is discarded (R642): source 155, fault 0x1402, journal. -/
def State.discardStage (s : State) (k cause : Nat) : State :=
  match s.stageOf k with
  | none => s
  | some g =>
    let s1 := ((s.dropStage k).event 155).raiseRecord 0x1402 0 k 0xFFFF (k ||| cause * 256)
    s1.keyJournal 4 cause k (s1.get (Reg.KEY_SLOT_STATE_GEN k)) g.slice g.kid

/-- A slot becomes EMPTY (R643): its quota is released. -/
def State.emptySlot (s : State) (k : Nat) : State :=
  if s.keySt k = keyEmpty then s
  else
    let s1 := (s.keyGive k (s.get (Reg.KEY_SLOT_POLICY_OWNER k))).put (Reg.KEY_SLOT_STATE_STATE k) keyEmpty
    let s2 := ((s1.wr (0x141000 + 0x10 * k) 0).wr (0x141004 + 0x10 * k) 0).put (Reg.KEY_SLOT_KID_LO_BYTES k) 0
    let s3 := { s2 with keys := { s2.keys with kids := dropKey Prod.fst k s2.keys.kids } }
    ((s3.put Reg.KEY_STATUS_USED (s3.get Reg.KEY_STATUS_USED - 1)).event 156).clearFault 0x1401 k

/-- The overwrite of a blob enters the write queue; `step` says for whom (R643, R648, R652). -/
def State.destroyBlob (s : State) (k gen step : Nat) : State := s.queueWrite (.keyBlob k gen [] step)

/-! ### KEY_STAGE (R641) -/

/-- The opcode of KEY_VERIFY (R148). -/
def opVerify : Nat := 0x71

/-- A commit or a life-cycle advance runs. -/
def State.keyBusy (s : State) : Bool := s.keys.op.isSome

/-- The policy of a fixed slot (R639). -/
def fixedPolicy (k policy uses : Nat) : Bool :=
  (k == 3 || k == 4) && polOwner policy == 0 && polGroup policy == 7 && polType policy == (if k = 3 then 1 else 3) &&
    !polDerived policy && polSigner policy && polSurvive policy == 3 && useMinSvn uses == 0

/-- The length of a TYPE's material. -/
def materialLen (type : Nat) : Nat := if type = 0 then 32 else if type = 1 then 97 else if type = 3 then 48 else 0

/-- PARAM conditions of a staging record. -/
def stageParam (r : KeyRecord) : Bool :=
  let t := polType r.policy
  decide (1023 < r.slot) || decide (3 < r.mode) || decide (3 < t) || !typeFitsUses t (useMask r.uses) || (r.mode == 0 && t != 1) ||
    (r.mode == 1 && t == 1) || (r.mode != 1 && t == 2) || (r.mode == 0 && r.material.length != materialLen t) ||
    (decide (2 ≤ r.mode) && r.engineOk && r.material.length != materialLen t) ||
    polDerived r.policy != (r.mode == 1) || polMeas r.policy / 128 == 1 || (!polSigner r.policy && polMeas r.policy == 0) ||
    (polGroup r.policy == 7 && decide (16 ≤ r.slot)) || (decide (r.slot < 16) && !fixedPolicy r.slot r.policy r.uses)

/-- KEY_STAGE (R641). -/
def keyStage (q : Req) (r : KeyRecord) (s : State) : State :=
  let k := r.slot
  let held := s.keySt k != keyEmpty
  let staged := s.stageOf k
  let wrapOwn := s.keyOwn r.wrapSlot q.slice
  let wrapOk := r.mode ≠ 2 || s.keyUsable r.wrapSlot q.slice 6
  let group := if held then s.get (Reg.KEY_SLOT_POLICY_GROUP k) else polGroup r.policy
  let fails : List (Status × Bool) :=
    [(.version, r.version ≠ 1), (.param, stageParam r),
     (.priv, q.slice ≠ polOwner r.policy || (held && s.get (Reg.KEY_SLOT_POLICY_OWNER k) ≠ q.slice) ||
       staged.any (fun g => g.slice != q.slice) || (decide (k < 16) && q.slice ≠ 0) || (r.mode = 2 && (!wrapOwn || !wrapOk))),
     (.state, !stRun.contains s.st || (s.get Reg.KEY_STATUS_LOCKGRP >>> group) % 2 = 1),
     (.nores, staged.isNone && ((!held && decide (16 ≤ k) && s.overQuota (Reg.SLC_SLICE_QD_KEYS q.slice) 1) ||
       decide (16 ≤ s.keys.stages.length))),
     (.busy, s.keyBusy), (.integrity, decide (2 ≤ r.mode) && !r.engineOk)]
  let s0 := if s.reaches 0x70 q && r.mode = 2 && firstFail (fails.take 2) = none then s.keyRefused (s.keyUsable r.wrapSlot q.slice 6) else s
  s0.command 0x70 q fails true fun s =>
    let gen := s.get (Reg.KEY_SLOT_STATE_GEN k) + 1
    let kid := s.keyId k gen r.policy r.uses r.material
    let g : KeyStaged := { slot := k, mode := r.mode, policy := r.policy, uses := r.uses, kid := kid, slice := q.slice, at' := s.ns }
    let s1 := if staged.isNone && !held then s.keyTake k q.slice else s
    let s2 := { s1 with keys := { s1.keys with stages := setKey KeyStaged.slot g s1.keys.stages } }
    let s3 := ((s2.put (Reg.KEY_SLOT_STATE_STAGED k) 1).put (Reg.KEY_SLOT_STATE_VERIFIED k) 0).put Reg.KEY_STATUS_STAGED s2.keys.stages.length
    ((s3.keyJournal 1 0 k gen q.slice kid).event 152).complete q .ok (kid % 2 ^ 32) 0

def execKeyStage (q : Req) (r : KeyRecord) (s : State) : Host.Outcome State Fault Refusal := .next (keyStage q r s)

/-! ### KEY_VERIFY (R642) -/

/-- A stage is verified. -/
def State.stageVerified (s : State) (k : Nat) : State :=
  match s.stageOf k with
  | none => s
  | some g =>
    let s1 := { s with keys := { s.keys with stages := setKey KeyStaged.slot { g with verified := true } s.keys.stages } }
    ((s1.put (Reg.KEY_SLOT_STATE_VERIFIED k) 1).keyJournal 2 0 k (s1.get (Reg.KEY_SLOT_STATE_GEN k) + 1) g.slice g.kid).event 153

/-- KEY_VERIFY: `proofOk` tells whether the HMAC or signature of a TEST holds; a SELF stage re-derives to the same KEYID. -/
def keyVerify (q : Req) (k method len : Nat) (proofOk : Bool) (s : State) : State :=
  let g := s.stageOf k
  let t := g.elim 0 fun g => polType g.policy
  let badLen := method = 0 && g.isSome && len ≠ (if t = 1 then 160 else 112)
  let badMethod := decide (2 < method) || (method = 1 && g.any fun g => useMask g.uses % 2 == 0) || (method = 2 && g.any fun g => g.mode != 1)
  let self := g.any fun g => g.kid == s.keyId k (s.get (Reg.KEY_SLOT_STATE_GEN k) + 1) g.policy g.uses []
  let good := if method = 0 then proofOk else self
  s.command 0x71 q [(.param, decide (1023 < k) || badLen || badMethod), (.priv, g.any fun g => g.slice != q.slice),
      (.state, !stRun.contains s.st || g.isNone), (.busy, s.keyBusy || s.multi.any fun m => m.opcode == opVerify)] false fun s =>
    if method = 1 then
      { s with multi := s.multi ++ [(⟨q, opVerify, k, s.ns + 60000000000⟩ : MultiCmd)] }.put Reg.KEY_STATUS_OP 2
    else if good then (s.stageVerified k).complete q .ok 0 0
    else (s.discardStage k 2).complete q .integrity 0 0

def execKeyVerify (q : Req) (slot method len : Nat) (proofOk : Bool) (s : State) : Host.Outcome State Fault Refusal :=
  .next (keyVerify q slot method len proofOk s)

/-- The PEER proof of a slot ends with a status. -/
def State.endPeer (s : State) (k : Nat) (st : Status) : State :=
  match s.multi.find? fun m => m.opcode == opVerify && m.arg == k with
  | none => s
  | some m =>
    ({ s with multi := s.multi.filter fun x => !(x.opcode == opVerify && x.arg == k) }.put Reg.KEY_STATUS_OP 0).complete m.req st 0 0

/-- KEY_PEER_PROOF (R642). -/
def keyPeerProof (k : Nat) (arrived : Bool) (now : Nat) (s : State) : State :=
  match s.multi.find? fun m => m.opcode == opVerify && m.arg == k with
  | none => s
  | some m =>
    let s0 := s.advance (now * nsUnit)
    if arrived then (s0.stageVerified k).endPeer k .ok
    else if m.deadline ≤ now then (s0.discardStage k 2).endPeer k .timeout
    else s0

def execKeyPeerProof (slot : Nat) (arrived : Bool) (now : Nat) (s : State) : Host.Outcome State Fault Refusal :=
  .next (keyPeerProof slot arrived now s)

/-- KEY_STAGE_EXPIRY (R642). -/
def keyStageExpiry (k now : Nat) (s : State) : State :=
  match s.stageOf k with
  | none => s
  | some g =>
    if g.at' + s.get Reg.KEY_CFG_STAGE_TTL_S * 1000000000 ≤ now && !(s.keys.op.any fun o => o.slot == k && o.kind == 1) then
      ((s.advance (now * nsUnit)).discardStage k 1).endPeer k .timeout
    else s

def execKeyStageExpiry (slot now : Nat) (s : State) : Host.Outcome State Fault Refusal := .next (keyStageExpiry slot now s)

/-! ### KEY_COMMIT (R643–R645) -/

/-- KEY_COMMIT: the blob of GEN + 1 enters the queue; the later steps follow the durable writes (PER_WRITE_DONE). -/
def keyCommit (q : Req) (k : Nat) (destroy : Bool) (s : State) : State :=
  let g := s.stageOf k
  let held := s.keySt k != keyEmpty
  let gen := s.get (Reg.KEY_SLOT_STATE_GEN k)
  let alien := g.any (fun g => g.slice != q.slice) || (held && s.get (Reg.KEY_SLOT_POLICY_OWNER k) ≠ q.slice)
  let priv := if destroy then (decide (k < 2) || (q.slice ≠ 0 && alien)) else alien
  let busy := s.keyBusy
  s.command 0x72 q [(.param, decide (1023 < k)), (.priv, priv),
      (.state, !stRun.contains s.st || (if destroy then !held else !(g.any fun g => g.verified))), (.busy, busy)] false fun s =>
    if destroy then
      let s1 := (s.discardStage k 0).destroyBlob k gen 6
      { s1 with keys := { s1.keys with op := some { req := q, kind := 4, slot := k, gen := gen } } }.put Reg.KEY_STATUS_OP 1
    else
      match g with
      | none => s
      | some g =>
        let s1 := s.queueWrite (.keyBlob k (gen + 1) [g.policy, g.uses, g.kid] 1)
        { s1 with keys := { s1.keys with op := some { req := q, kind := 1, slot := k, gen := gen + 1 } } }.put Reg.KEY_STATUS_OP 1

def execKeyCommit (q : Req) (slot : Nat) (destroy : Bool) (s : State) : Host.Outcome State Fault Refusal := .next (keyCommit q slot destroy s)

/-- The key operation ends with a completion. -/
def State.endKeyOp (s : State) (st : Status) (res : Nat) : State :=
  match s.keys.op with
  | none => s
  | some o => ({ s with keys := { s.keys with op := none } }.put Reg.KEY_STATUS_OP 0).complete o.req st res 0

/-- A new SAK on the ports whose CAK is this slot (R644). -/
def State.rekeyPorts (s : State) (k : Nat) : State :=
  (List.range 10).foldl (fun s p =>
    if s.get (Reg.MACP_MACSEC_CAK_SLOT p) = k && s.flag (Reg.MACP_MACSEC_EN p) && s.flag (Reg.MACP_STAT_MKA p) && s.keyUsable k 0 0 then
      s.sakDistribute p else s) s

/-- The swap (R643 step 3, R644): the stage becomes the slot's key. -/
def State.keySwap (s : State) (o : KeyOp) : State :=
  match s.stageOf o.slot with
  | none => s
  | some g =>
    let k := o.slot
    let old := s.get (Reg.KEY_SLOT_STATE_GEN k)
    let was := s.keySt k
    let s1 := { s with keys := { s.keys with stages := dropKey KeyStaged.slot k s.keys.stages, kids := setKey Prod.fst (k, g.kid) s.keys.kids } }
    let s2 := (s1.wr (0x141000 + 0x10 * k) (BitVec.ofNat 32 (g.policy / 16 * 16))).wr (0x141004 + 0x10 * k) (BitVec.ofNat 32 (useMinSvn g.uses * 2 ^ 16 + useMask g.uses))
    let s3 := ((s2.put (Reg.KEY_SLOT_STATE_GEN k) o.gen).put (Reg.KEY_SLOT_STATE_STATE k) keyReady).put (Reg.KEY_SLOT_KID_LO_BYTES k) (g.kid % 2 ^ 32)
    let s4 := ((s3.put (Reg.KEY_SLOT_STATE_STAGED k) 0).put (Reg.KEY_SLOT_STATE_VERIFIED k) 0).put Reg.KEY_STATUS_STAGED s3.keys.stages.length
    let s5 := if was = keyEmpty then s4.put Reg.KEY_STATUS_USED (s4.get Reg.KEY_STATUS_USED + 1) else s4
    let s6 := ((s5.event 154).clearFault 0x1401 k).endKeyOp .ok o.gen
    let s7 := if was = keyEmpty then s6 else s6.destroyBlob k old 5
    if useMask g.uses % 2 = 1 then s7.rekeyPorts k else s7

/-- The blob of a slot and generation leaves the key store. -/
def State.dropBlob (s : State) (k gen : Nat) : State :=
  { s with keys := { s.keys with blobs := s.keys.blobs.filter fun b => !(b.slot == k && b.gen == gen) } }

/-- What follows a verified destruction: by the step it belongs to. -/
def State.destroyed (s : State) (k gen step : Nat) : State :=
  let s1 := (s.dropBlob k gen).keyJournal 5 0 k gen 0xFFFF 0
  if step = 6 then (s1.emptySlot k).endKeyOp .ok 0
  else if step = 8 then
    let left := s1.keys.zero.filter fun (x : Nat × Nat) => !(x.1 == k && x.2 == gen)
    let s2 := { s1 with keys := { s1.keys with zero := left } }
    s2.eventIf (left.isEmpty && !s1.keys.zero.isEmpty) 161
  else s1

/-- An overwrite fails its verify (R645): fault 0x1403, the slot UNUSABLE, a retry every 1 s. -/
def State.destroyFailed (s : State) (k gen : Nat) : State :=
  let s1 := if s.keySt k = keyEmpty then s else s.put (Reg.KEY_SLOT_STATE_STATE k) keyUnusable
  ({ s1 with keys := { s1.keys with retry := s1.keys.retry.filter (fun (x : Nat × Nat) => !(x.1 == k && x.2 == gen)) ++ [(k, gen)] } }).raiseAt 0x1403 2 k k

/-- DESTROY_RETRY (R645). -/
def destroyRetry (k gen : Nat) (ok : Bool) (s : State) : State :=
  if !ok || !s.keys.retry.contains (k, gen) then s
  else
    let s1 := { s with keys := { s.keys with retry := s.keys.retry.filter fun (x : Nat × Nat) => !(x.1 == k && x.2 == gen) } }
    let step := if s1.keys.op.any fun o => o.kind == 4 && o.slot == k && o.gen == gen then 6
      else if s1.keys.zero.contains (k, gen) then 8 else 5
    let s2 := s1.destroyed k gen step
    if s2.keys.retry.any fun x => x.1 == k then s2 else s2.clearFault 0x1403 k

def execDestroyRetry (slot gen : Nat) (ok : Bool) (s : State) : Host.Outcome State Fault Refusal := .next (destroyRetry slot gen ok s)

/-! ### Life cycle (R647, R648) -/

/-- LIFECYCLE_ADVANCE: LC_PENDING enters the journal; the steps follow its durable write. -/
def lifecycleAdvance (q : Req) (target serialByte : Nat) (s : State) : State :=
  let now := s.get Reg.KEY_STATUS_LIFECYCLE
  let busy := s.keyBusy
  s.command 0x73 q [(.param, !(target = now + 1 && decide (target ≤ 4)) && target ≠ 4 || serialByte ≠ Config.serialNumber % 256), (.priv, q.slice ≠ 0),
      (.state, s.st ≠ stService), (.busy, busy)] false fun s =>
    let s1 := { s with keys := { s.keys with op := some { req := q, kind := 3, slot := target, gen := 0 } } }.put Reg.KEY_STATUS_OP 3
    s1.keyJournal 6 target 0xFFFF 0 q.slice 0

def execLifecycleAdvance (q : Req) (target serialByte : Nat) (s : State) : Host.Outcome State Fault Refusal :=
  .next (lifecycleAdvance q target serialByte s)

/-- A derived slot loses its SRAM copy and advances GEN (R648, R652): SEALED until the next unseal; its blob names the KEYID of the new
generation. -/
def State.advanceGen (s : State) (k : Nat) : State :=
  let gen := s.get (Reg.KEY_SLOT_STATE_GEN k) + 1
  ((s.put (Reg.KEY_SLOT_STATE_GEN k) gen).put (Reg.KEY_SLOT_STATE_STATE k) keySealed).queueWrite
    (.keyBlob k gen [s.keyPolicy k, s.keyUses k, s.keyId k gen (s.keyPolicy k) (s.keyUses k) []] 0)

/-- The fuse is blown and LC_DONE journaled (R648 steps 3 and 4). -/
def State.lifecycleDone (s : State) (target : Nat) : State :=
  let s1 := (s.put Reg.KEY_STATUS_LIFECYCLE target).put Reg.KEY_STATUS_DEBUG (if 2 ≤ target then 0 else s.get Reg.KEY_STATUS_DEBUG)
  s1.keyJournal 7 target 0xFFFF 0 0xFFFF 0

/-- The slots that do not survive the move to a state (R648). -/
def State.notSurviving (s : State) (target : Nat) : List Nat :=
  (List.range 1024).filter fun k => s.keySt k != keyEmpty && (target == 4 || (s.get (Reg.KEY_SLOT_POLICY_SURVIVE k) >>> (target - 1)) % 2 == 0)

/-- Step 2 of R648: destructions start; without any the fuse follows at once. -/
def State.lifecycleDestroy (s : State) (o : KeyOp) : State :=
  let ks := s.notSurviving o.slot
  let imported := ks.filter fun k => !polDerived (s.keyPolicy k)
  let s1 := ks.foldl (fun s k =>
    if polDerived (s.keyPolicy k) then s.advanceGen k
    else ((s.dropStage k).destroyBlob k (s.get (Reg.KEY_SLOT_STATE_GEN k)) 7).emptySlot k) s
  let s2 := { s1 with keys := { s1.keys with op := some { o with left := imported.length } } }
  if imported.isEmpty then s2.lifecycleDone o.slot else s2

/-! ### Durable writes of the key store (R643, R645, R648) -/

/-- A write of KEYSTORE is durable (`ok`) or has failed its read-back. -/
def State.keyBlobDone (s : State) (k gen : Nat) (words : List Nat) (step : Nat) (ok : Bool) : State :=
  if words.isEmpty then
    let s1 := if ok then s.destroyed k gen step else s.destroyFailed k gen
    if step = 7 then
      match s1.keys.op with
      | some o =>
        let s2 := { s1 with keys := { s1.keys with op := some { o with left := o.left - 1 } } }
        if o.kind = 3 && o.left = 1 then s2.lifecycleDone o.slot else s2
      | none => s1
    else s1
  else if !ok then
    if step = 1 && s.keys.op.any (fun o => o.kind == 1 && o.slot == k) then s.endKeyOp .integrity 0 else s
  else
    let b : KeyBlob := { slot := k, gen := gen, policy := words.getD 0 0, uses := words.getD 1 0, kid := words.getD 2 0 }
    let s1 := { s with keys := { s.keys with blobs := s.keys.blobs.filter (fun x => !(x.slot == k && x.gen == gen)) ++ [b] } }
    if step = 1 && s1.keys.op.any (fun o => o.kind == 1 && o.slot == k && o.gen == gen) then
      s1.keyJournal 3 0 k gen (s1.keys.op.elim 0 fun o => o.req.slice) b.kid
    else s1

/-- A COMMIT entry is durable whose command a tamper response has ended (R645, R654): the new key stands, unless the slot is EMPTY. -/
def State.blobStands (s : State) (k gen : Nat) : State :=
  match s.keys.blobs.find? fun b => b.slot == k && b.gen == gen with
  | none => s
  | some b =>
    if s.keySt k = keyEmpty || gen ≤ s.get (Reg.KEY_SLOT_STATE_GEN k) then s
    else
      let old := s.get (Reg.KEY_SLOT_STATE_GEN k)
      let s1 := (s.wr (0x141000 + 0x10 * k) (BitVec.ofNat 32 (b.policy / 16 * 16))).wr (0x141004 + 0x10 * k)
        (BitVec.ofNat 32 (useMinSvn b.uses * 2 ^ 16 + useMask b.uses))
      let s2 := { s1 with keys := { s1.keys with kids := setKey Prod.fst (k, b.kid) s1.keys.kids } }
      (((s2.put (Reg.KEY_SLOT_STATE_GEN k) gen).put (Reg.KEY_SLOT_KID_LO_BYTES k) (b.kid % 2 ^ 32)).event 154).destroyBlob k old 5

/-- A key-journal entry is durable. -/
def State.keyLogDone (s : State) (words : List Nat) : State :=
  let type := words.getD 0 0
  match s.keys.op with
  | none => if type = 3 then s.blobStands (words.getD 2 0) (words.getD 3 0) else s
  | some o =>
    if type = 3 && o.kind = 1 && words.getD 2 0 = o.slot && words.getD 3 0 = o.gen then s.keySwap o
    else if type = 6 && o.kind = 3 then s.lifecycleDestroy o
    else if type = 7 && o.kind = 3 then (s.event 157).endKeyOp .ok 0
    else s

/-! ### Service access (R649, R650) -/

/-- A new nonce is drawn; any earlier one is withdrawn (R649). -/
def State.drawNonce (s : State) : State :=
  let s1 := (List.range 8).foldl (fun s w => (s.put (Reg.KEY_NONCE_BYTES w) (s.free % 2 ^ 32)).drawn) s
  { s1 with keys := { s1.keys with nonceAt := some s1.ns } }

/-- NONCE_READ (R649): a new nonce is drawn, and its first word goes out. -/
def nonceRead (now : Nat) (s : State) : State :=
  let s1 := (s.advance (now * nsUnit)).drawNonce
  s1.emit (.regRead 0x140040 (s1.get (Reg.KEY_NONCE_BYTES 0)))

def execNonceRead (now : Nat) (s : State) : Host.Outcome State Fault Refusal := .next (nonceRead now s)

/-- SERVICE_ENTER (R649, R113): `proofOk` tells whether the signature verifies over the live nonce. -/
def serviceEnter (q : Req) (len : Nat) (keep proofOk : Bool) (s : State) : State :=
  let blank := s.get Reg.KEY_STATUS_LIFECYCLE = 0
  let usable := s.keyUsable 3 0 7
  let live := s.keys.nonceAt.any fun t => decide (s.ns < t + 300000000000)
  let fails : List (Status × Bool) := [(.param, len ≠ 96 && !(blank && len = 0)), (.priv, q.slice ≠ 0),
    (.state, (s.st ≠ stShadow && s.st ≠ stSolo) || (!blank && !usable)), (.integrity, !blank && !(live && proofOk))]
  let judged := s.reaches 0x22 q && q.version = 1
  let s0 := if judged && firstFail fails = some .integrity then { s with keys := { s.keys with nonceAt := none } }
    else if judged && firstFail (fails.take 2) = none && (s.st = stShadow || s.st = stSolo) && !blank then s.keyRefused usable else s
  s0.commandAny 0x22 q fails false fun s =>
    let solo := s.st = stSolo
    let s1 := { s with keys := { s.keys with nonceAt := none, console := q.ring.isNone } }
    let s2 := if solo && !keep then s1.dropCustody else s1
    let s3 := (s2.putFlag Reg.GLB_STATUS_KEEPCUST (solo && keep)).serviceEvent
    (s3.setState stService 0x22).complete q .ok 0 0

def execServiceEnter (q : Req) (len : Nat) (keepCustody proofOk : Bool) (s : State) : Host.Outcome State Fault Refusal :=
  .next (serviceEnter q len keepCustody proofOk s)

/-! ### Tamper (R651–R655) -/

/-- The class of a group for a source (R652): every class acts as LOG in BLANK and none in SCRAPPED (R647). -/
def State.tampClass (s : State) (src g : Nat) : Nat :=
  let lc := s.get Reg.KEY_STATUS_LIFECYCLE
  if lc = 0 || lc = 4 then 0 else (s.get (Reg.TMP_RESP_CLASS (src - 1)) >>> (2 * g)) % 4

/-- The groups of a class. -/
def State.tampGroups (s : State) (src cls : Nat) : Nat :=
  ((List.range 8).map fun g => if s.tampClass src g = cls then 2 ^ g else 0).sum

/-- Groups are locked; source 162. -/
def State.lockGroups (s : State) (mask : Nat) : State :=
  if mask = 0 then s
  else
    let m := s.get Reg.KEY_STATUS_LOCKGRP ||| mask
    ((s.put Reg.KEY_STATUS_LOCKGRP m).put Reg.TMP_STATUS_LOCKGRP m).event 162

/-- The writes of a commit that have not begun leave the queue, so the committed key stays; the write in progress ends (R652, R654). -/
def State.dropCommit (s : State) (k gen : Nat) : State :=
  let own : Immediate → Bool := fun w => match w with
    | .keyBlob k' g' words _ => k' == k && g' == gen && !words.isEmpty
    | .keyLog words => words.getD 0 0 == 3 && words.getD 2 0 == k && words.getD 3 0 == gen
    | _ => false
  match s.journal.queue with
  | [] => s
  | w :: l => { s with journal := { s.journal with queue := w :: l.filter fun x => !own x } }

/-- The slot of an operation in progress ends with ABORTED; its stage is discarded (R654). -/
def State.tampAbort (s : State) : State :=
  let s1 := match s.keys.op with
    | none => s
    | some o => (if o.kind = 1 then (s.discardStage o.slot 4).dropCommit o.slot o.gen else s).endKeyOp .aborted 0
  match s1.multi.find? fun m => m.opcode == opVerify with
  | none => s1
  | some m => (s1.discardStage m.arg 4).endPeer m.arg .aborted

/-- The SAKs of a zeroised CAK are withdrawn (R652). -/
def State.withdrawSaks (s : State) (k : Nat) : State :=
  (List.range 10).foldl (fun s p =>
    if s.get (Reg.MACP_MACSEC_CAK_SLOT p) = k && s.flag (Reg.MACP_STAT_MKA p) then mkaPeerLost p s else s) s

/-- A slot of a zeroised group (R652). -/
def State.zeroSlot (s : State) (k : Nat) : State :=
  let gen := s.get (Reg.KEY_SLOT_STATE_GEN k)
  let cak := (s.get (Reg.KEY_SLOT_USES_USES k)) % 2 == 1
  let s0 := if cak then s.withdrawSaks k else s
  if s0.keySt k = keyEmpty then s0
  else if polDerived (s0.keyPolicy k) then s0.advanceGen k
  else
    let gens := gen :: ((s0.keys.blobs.filter fun b => b.slot == k && b.gen != gen).map fun b => b.gen)
    let s1 := (gens.foldl (fun s g => s.destroyBlob k g 8) s0).emptySlot k
    { s1 with keys := { s1.keys with zero := s1.keys.zero ++ gens.map fun g => (k, g) } }

/-- The groups of a mask are zeroised. -/
def State.zeroGroups (s : State) (mask : Nat) : State :=
  let inMask := fun (g : Nat) => (mask >>> g) % 2 == 1
  if mask = 0 then s
  else
    let ks := (List.range 1024).filter fun k => s.keySt k != keyEmpty && inMask (s.get (Reg.KEY_SLOT_POLICY_GROUP k))
    let gs := s.keys.stages.filter fun g => if s.keySt g.slot = keyEmpty then inMask (polGroup g.policy) else ks.contains g.slot
    let s1 := gs.foldl (fun s g => s.discardStage g.slot 4) s
    let s2 := ks.foldl (fun s k => s.zeroSlot k) s1
    s2.eventIf s2.keys.zero.isEmpty 161

/-- The responses of every group to a source (R652, R661). -/
def State.tampRespond (s : State) (src : Nat) : State :=
  let z := s.tampGroups src 2
  let l := s.tampGroups src 1
  let s1 := ((s.tampAbort).zeroGroups z).lockGroups l
  let s2 := (s1.put Reg.TMP_LAST_SOURCE src).put Reg.TMP_LAST_ZGRP z
  s2.raiseAt 0x1501 (if z = 0 && l = 0 then 1 else 2) src (src + z * 256 + l * 65536)

/-- A source is latched in the backup domain (R652). -/
def State.tampLatch (s : State) (src sub : Nat) : State :=
  let s1 := s.put Reg.TMP_LATCHSRC_SRC (s.get Reg.TMP_LATCHSRC_SRC ||| 2 ^ (src - 1))
  let s2 := if s1.flag Reg.RTC_TAMPER_VALID then s1
    else
      let t := ((s1.put Reg.RTC_TAMPER_VALID 1).put Reg.RTC_TAMPER_SOURCE src).put Reg.RTC_TAMPER_SUB_SUBSEC (sub % 32768)
      (((t.wr 0x50080 (shownDate (t.rd 0x50018))).wr 0x50084 (t.rd 0x5001C)).put Reg.TMP_STATUS_LATCHED 1).event 28
  { s2 with boot := { s2.boot with handled := if s2.ready then s2.boot.handled ||| 2 ^ (src - 1) else s2.boot.handled } }.pwrEvent 4

/-- Event sources of an activation (R660). -/
def tampEvent (src : Nat) : Nat := if src ≤ 2 then 164 else if src = 3 then 165 else if src ≤ 5 then 166 else 167

/-! ### Failures of BOOT (R108, R109, R111, R653) -/

/-- BOOT ends in SAFE: the failing step and its fault code are recorded. -/
def State.bootFail (s : State) (reason source code detail : Nat) : State :=
  let step := s.get Reg.KPR_BOOT_STAGE + 1
  let s1 := (s.put Reg.KPR_BOOT_FAIL_STEP step).put Reg.KPR_BOOT_FAIL_CODE code
  (s1.raiseRecord code 4 0 0xFFFF detail).enterSafe reason source code

/-- The blobs and slots of groups are destroyed before any key is unsealed (R652, R653); derived slots advance GEN. -/
def State.bootZero (s : State) (groups : Nat) : State :=
  let ks := (List.range 1024).filter fun k => s.keySt k != keyEmpty && (groups >>> s.get (Reg.KEY_SLOT_POLICY_GROUP k)) % 2 == 1
  ks.foldl (fun (s : State) k =>
    let gen := s.get (Reg.KEY_SLOT_STATE_GEN k)
    if polDerived (s.keyPolicy k) then s.advanceGen k
    else (((s.dropStage k).dropBlob k gen).keyJournal 5 0 k gen 0xFFFF 0).emptySlot k) s

/-- The groups that a mask of sources zeroises, or classes otherwise (R652). -/
def State.groupsOf (s : State) (srcs cls : Nat) : Nat :=
  ((List.range 7).filter fun i => (srcs >>> i) % 2 == 1).foldl (fun m i => m ||| s.tampGroups (i + 1) cls) 0

/-- A tamper during BOOT (R111, R653). -/
def State.tamperBoot (s : State) (src : Nat) : State :=
  let s1 := s.bootZero (s.tampGroups src 2)
  { s1 with boot := { s1.boot with handled := s1.boot.handled ||| (s1.get Reg.TMP_LATCHSRC_SRC &&& 2 ^ (src - 1)) } }.bootFail 3 src 0x0103 src

/-- TAMPER_ACTIVE (R651, R652): `sub` is the sub-second count of the calendar. Sources 6 and 7 are sensed only in the main
domain. In BOOT the boot stops (R111). -/
def tamperActive (src sub : Nat) (s : State) : State :=
  if src = 0 || 7 < src || (5 < src && s.mainAbsent) || (s.get Reg.TMP_STATUS_ACTIVE >>> src) % 2 = 1 then s
  else
    let s1 := (s.put Reg.TMP_STATUS_ACTIVE (s.get Reg.TMP_STATUS_ACTIVE + 2 ^ src)).count Reg.TMP_EVENTS_COUNT
    let s2 := (s1.event 160).event (tampEvent src)
    if (s2.get Reg.TMP_MASK_SRC >>> (src - 1)) % 2 = 1 then s2.noteOpen 21
    else
      let s3 := s2.tampLatch src sub
      if s3.ready then s3.tampRespond src else if s3.st = stBoot then s3.tamperBoot src else s3

def execTamperActive (source sub : Nat) (s : State) : Host.Outcome State Fault Refusal := .next (tamperActive source sub s)

/-- TAMPER_INACTIVE (R651, R660). -/
def tamperInactive (src : Nat) (s : State) : State :=
  if src = 0 || 7 < src || (s.get Reg.TMP_STATUS_ACTIVE >>> src) % 2 = 0 then s
  else (s.put Reg.TMP_STATUS_ACTIVE (s.get Reg.TMP_STATUS_ACTIVE - 2 ^ src)).eventIf (src == 3) 165

def execTamperInactive (source : Nat) (s : State) : Host.Outcome State Fault Refusal := .next (tamperInactive source s)

/-- TAMPER_CLEAR (R655). -/
def tamperClear (s : State) : State :=
  if s.st ≠ stService then s.reject 21 0x10 3
  else if s.get Reg.TMP_STATUS_ACTIVE ≠ 0 then s.reject 21 0x10 1
  else
    let s1 := (((s.put Reg.TMP_LATCHSRC_SRC 0).put Reg.RTC_TAMPER_VALID 0).put Reg.TMP_STATUS_LATCHED 0).put Reg.KEY_STATUS_LOCKGRP 0
    let s2 := { s1 with boot := { s1.boot with handled := 0 } }.put Reg.TMP_STATUS_LOCKGRP 0
    ((s2.event 163).clearCode 0x1501).clearCode 0x1502

def execTamperClear (s : State) : Host.Outcome State Fault Refusal := .next (tamperClear s)

/-- A test or reading of a source (R651): the second one in a row that fails makes the source active. -/
def State.tampTest (s : State) (src : Nat) (bad : Bool) (sub : Nat) : State :=
  let n := if bad then min 2 ((findKey Prod.fst src s.boot.tampRuns).elim 0 Prod.snd + 1) else 0
  let s1 := { s with boot := { s.boot with tampRuns := setKey Prod.fst (src, n) s.boot.tampRuns } }
  if n = 2 then tamperActive src sub s1 else s1

/-- TAMPER_LOOP_TEST (R651, R661): mismatches of the loops, CASE_SW open, the die temperature in Q8.7 °C, the sub-second count of the
calendar, and the self-checks that failed (1 loop 0, 2 loop 1, 3 sensor). -/
def tamperLoopTest (bad0 bad1 caseOpen : Bool) (temp : Int) (sub : Nat) (failed : List Nat) (s : State) : State :=
  let s1 := if bad0 then s.count Reg.TMP_LOOPERR_LOOP0 else s
  let s2 := (if bad1 then s1.count Reg.TMP_LOOPERR_LOOP1 else s1).put Reg.TMP_DIE_TEMP (unsigned 16 temp)
  let s3 := [1, 2, 3].foldl (fun s i => if failed.contains i then s.raiseAt 0x1503 2 i i else s.clearFault 0x1503 i) s2
  [(1, bad0), (2, bad1), (3, caseOpen), (4, decide (temp < -50 * 128)), (5, decide (110 * 128 < temp))].foldl
    (fun (s : State) (x : Nat × Bool) => s.tampTest x.1 x.2 sub) s3

def execTamperLoopTest (bad0 bad1 : Bool) (x : TamperSense) (failed : List Nat) (s : State) : Host.Outcome State Fault Refusal :=
  .next (tamperLoopTest bad0 bad1 x.caseOpen x.temp x.sub failed s)

end Sys2Proof.Machine
end

