-- ==== Sys2Proof/Machine/Persist.lean ====
section
/-! DEFINITION. The persistent store and the tally (R662–R686): ledger commits, immediate writes that become durable, audits. -/

namespace Sys2Proof.Machine

/-! ### Sections (R663, R664, R668) -/

/-- A write of a section fails its read-back twice: no effect, fault 0x1605, source 168 (R664). -/
def State.sectBad (s : State) (id : Nat) : State := ((s.count Reg.PER_BADBANK_CRC).event 168).raiseAt 0x1605 2 id id

/-- A section has been written and verified: what stood against it clears (R683). -/
def State.sectGood (s : State) (id : Nat) : State :=
  let s1 := s.countMod (Reg.PER_SECT_WRITES_COUNT id) 1
  ((s1.clearFault 0x1605 id).clearFault 0x1602 id).clearFault 0x1603 id

/-- The bank that a write of a state section goes to: the one that does not hold the newest valid copy (R664). -/
def State.sectTarget (s : State) (id : Nat) : Nat :=
  if s.flag (Reg.PER_SECT_STATE_VALID0 id) || s.flag (Reg.PER_SECT_STATE_VALID1 id) then 1 - s.get (Reg.PER_SECT_STATE_NEWEST id) else 0

/-- VALID of a bank or half. -/
def State.putValid (s : State) (id bank : Nat) (b : Bool) : State :=
  s.putFlag (if bank = 0 then Reg.PER_SECT_STATE_VALID0 id else Reg.PER_SECT_STATE_VALID1 id) b

/-- A write of a state section ends (R664): the other bank with the next SEQ, or that bank invalid. -/
def State.stateWritten (s : State) (id : Nat) (ok : Bool) : State :=
  let b := s.sectTarget id
  if ok then
    (((s.putValid id b true).put (Reg.PER_SECT_STATE_NEWEST id) b).put (Reg.PER_SECT_SEQ_SEQ id)
      ((s.get (Reg.PER_SECT_SEQ_SEQ id) + 1) % 2 ^ 64)).sectGood id
  else (s.putValid id b false).sectBad id

/-- An append to a log of n slots (R668): LSEQ, and the half that the slot lies in. -/
def State.logWritten (s : State) (id n : Nat) : State :=
  let lseq := (s.get (Reg.PER_SECT_SEQ_SEQ id) + 1) % 2 ^ 64
  let half := ((lseq + n - 1) % n) / (n / 2)
  (((s.put (Reg.PER_SECT_SEQ_SEQ id) lseq).putValid id half true).put (Reg.PER_SECT_STATE_NEWEST id) half).sectGood id

/-- Every state section with a key's MAC and the newest half of each log are rewritten (R666). -/
def State.rewriteSections (s : State) : State :=
  [7, 8].foldl (fun (s : State) i => s.countMod (Reg.PER_SECT_WRITES_COUNT i) 1) ([1, 3, 4, 5].foldl (fun (s : State) i => s.stateWritten i true) s)

/-! ### The tally (R675–R680) -/

/-- An identity that fails: quantity, index, left side, right side. -/
abbrev Violation := Nat × Nat × Nat × Nat

/-- Q1 (R289). -/
def State.auditBeads (s : State) : List Violation :=
  let (q, i) := s.beadCounts
  let sum := (65536 - q - i) + q + i
  if sum = 65536 then [] else [(1, 0, sum, 65536)]

/-- Q2 of a ring: entries taken and not rewound against those written back and in flight, by position; entries of an EVQ; the
outstanding entries (R134). -/
def State.auditRing (s : State) (x : RingRec) : List Violation :=
  let size := 2 ^ x.log2size
  let left := s.get (Reg.HIF_RING_PTR_MOD x.ring) % size
  let right := (x.wb + s.get (Reg.HIF_RING_RSTAT_INFLIGHT x.ring)) % size
  let out := s.outstanding x
  let a := if left = right then [] else [(2, x.ring, left, right)]
  let sum := x.seq + x.held.length + x.dropped
  let b := if x.type = 3 && x.made % 65536 ≠ sum % 65536 then [(2, x.ring, x.made, sum)] else []
  let c := if out ≤ size then [] else [(2, x.ring, out, size)]
  (a ++ b ++ c).take 1

/-- Q3: the identities of R301. -/
def State.auditSamples (s : State) : List Violation :=
  let used := s.get Reg.SVI_USED_COUNT
  let r := used + s.get Reg.SVI_DUPLICATE_COUNT + s.get Reg.SVI_LATE_COUNT + s.get Reg.SVI_INVALID_COUNT +
    s.get Reg.SVI_UNEXPECTED_COUNT + s.get Reg.SVI_HELD_COUNT
  let e := used + s.get Reg.SVI_MISSING_COUNT
  let l := s.svi.received
  let x := s.get Reg.SVI_EXPECTED_COUNT
  (if l = r % 2 ^ 64 then [] else [(3, 0, l, r % 2 ^ 64)]) ++ (if x = e % 2 ^ 64 then [] else [(3, 1, x, e % 2 ^ 64)])

/-- Whether the gate of slice k is open against its entry: it is open beyond what the entry gives or R181 grants. -/
def State.gateWrong (s : State) (k : Nat) : Bool :=
  let e := s.tokenOf (s.get (Reg.SLC_SLICE_DSID_DSID k))
  let fits := e.any fun e => e.status == 1 || e.status == 2 || e.status == 4
  let passing := s.ho.role == 1 && s.ho.slice == k && s.hoPhase == 4
  s.isProt k && s.tokenOpen k s.tickNow && !fits && !passing

/-- Q4: an open gate without its entry, a DSID twice, a SERIAL that has decreased; the index is the slice of the DSID, or 0. -/
def State.auditTokens (s : State) : List Violation :=
  let gates := ((List.range 256).filter fun k => s.sliceValid k && s.gateWrong k).map fun (k : Nat) => ((4, k, 1, 0) : Violation)
  let twice := (s.per.ledger.filter fun (e : TokenEntry) => decide (1 < (s.per.ledger.filter fun x => x.dsid == e.dsid).length)).map
    fun (e : TokenEntry) => ((4, (s.sliceOf e.dsid).getD 0, 2, 1) : Violation)
  let down := (s.per.ledger.filter fun (e : TokenEntry) => (findKey Prod.fst e.dsid s.per.serials).any fun p => decide (e.serial < p.2)).map
    fun (e : TokenEntry) => ((4, (s.sliceOf e.dsid).getD 0, (findKey Prod.fst e.dsid s.per.serials).elim 0 Prod.snd, e.serial) : Violation)
  gates ++ twice ++ down

/-- Q5 of an output (R566). -/
def State.auditPulse (s : State) (k : Nat) : List Violation :=
  let x := s.po k
  let out := s.get (Reg.NRG_PO_EMITTED_COUNT k) + s.get (Reg.NRG_PO_BACKLOG_COUNT k)
  let l := (x.taken + x.base) % 2 ^ 32
  let u := (x.units + x.resid0) % 2 ^ 64
  let r := (x.taken * max 1 (s.getA (Reg.NRG_PO_CONST_UNITS k)) + x.resid) % 2 ^ 64
  if l ≠ out % 2 ^ 32 then [(5, k, l, out % 2 ^ 32)] else if u ≠ r then [(5, k, u, r)] else []

/-- Q6 of a point: each total against the sum of its phases (R561). -/
def auditPoint (x : NrgPoint) : List Violation :=
  (List.range 7).flatMap fun r =>
    let l := x.regs.getD r 0
    let sum := (x.regs.getD (7 + r) 0 + x.regs.getD (14 + r) 0 + x.regs.getD (21 + r) 0) % 2 ^ 64
    if l = sum then [] else [(6, 8 * x.point + r, l, sum)]

/-- Q7 of a mailbox (R169, R172, R675). -/
def auditMb (x : MbRec) : List Violation :=
  let r := x.given + x.refused + x.waiting.length
  if x.took = r then [] else [(7, x.slice, x.took, r)]

/-- Audits of the strobe (Q1–Q4, Q7), and those of a ledger commit (Q5, Q6). -/
def State.strobeAudit (s : State) : List Violation :=
  s.auditBeads ++ (s.rings.filter fun x => s.flag (Reg.HIF_RING_CFG_EN x.ring) && !x.stopping).flatMap s.auditRing ++ s.auditSamples ++
    s.auditTokens ++ s.mbs.flatMap auditMb
def State.ledgerAudit (s : State) : List Violation := (List.range 4).flatMap s.auditPulse ++ s.nrg.pts.flatMap auditPoint

/-- The key of a run. -/
def runKey (v : Violation) : Nat := v.1 * 65536 + v.2.1 % 65536

/-- A failing audit (R678): counted; the first of a run is journaled and raised. -/
def State.violate (s : State) (v : Violation) : State :=
  let (q, i, l, r) := v
  let s1 := s.count (Reg.TLY_VIOL_CNT_COUNT (q - 1))
  let key := runKey v
  if s1.per.runs.any fun x => x.1 == key then { s1 with per := { s1.per with runs := setKey Prod.fst (key, 0) s1.per.runs } }
  else
    let inj := s1.flag Reg.GLB_STATUS_INJECT
    let detail := q + i % 65536 * 65536
    let s2 := { s1 with per := { s1.per with runs := setKey Prod.fst (key, 0) s1.per.runs } }.journalAdd
      (.tally q inj i (l % 2 ^ 64) (r % 2 ^ 64) s1.ns s1.tickNow)
    let s3 := (s2.put Reg.TLY_STATUS_VIOL (s2.get Reg.TLY_STATUS_VIOL ||| 2 ^ (q - 1))).event 172
    let s4 := ((s3.put Reg.TLY_LAST_Q q).putFlag Reg.TLY_LAST_INJECTED inj).put Reg.TLY_LAST_INDEX i
    let s5 := (s4.put Reg.TLY_LAST_EXP_VALUE (l % 2 ^ 64)).put Reg.TLY_LAST_FOUND_VALUE (r % 2 ^ 64)
    if inj then s5.raiseAt 0x1702 0 detail detail else s5.raiseAt 0x1701 2 detail detail

/-- A run whose identity has held at 1,000 audits in a row ends: source 173, the fault clears (R678). -/
def State.endRun (s : State) (key : Nat) : State :=
  let q := key / 65536
  let s1 := { s with per := { s.per with runs := dropKey Prod.fst key s.per.runs } }
  let open' := s1.per.runs.any fun x => x.1 / 65536 == q
  let v := s1.get Reg.TLY_STATUS_VIOL
  ((if open' then s1 else s1.put Reg.TLY_STATUS_VIOL (if v / 2 ^ (q - 1) % 2 = 1 then v - 2 ^ (q - 1) else v)).event 173).clearFault 0x1701 (q + key % 65536 * 65536)

/-- An audit of the quantities `qs` ends with its failing identities. -/
def State.auditDone (s : State) (qs : List Nat) (bad : List Violation) : State :=
  let s1 := bad.foldl State.violate s
  let held := s1.per.runs.filter fun x => qs.contains (x.1 / 65536) && !(bad.any fun v => runKey v == x.1)
  held.foldl (fun s x =>
    if 1000 ≤ x.2 + 1 then s.endRun x.1
    else { s with per := { s.per with runs := setKey Prod.fst (x.1, x.2 + 1) s.per.runs } }) s1

/-- TALLY_AUDIT (R676): the strobe and its audits. `late` lists the quantities whose audit is not complete by the next strobe
(fault 0x1703, source 175); 1,000 complete audits in a row clear it. -/
def tallyAudit (late : List Nat) (s : State) : State :=
  if !s.ready then s
  else
    let qs := [1, 2, 3, 4, 7].filter fun q => !late.contains q
    let bad := s.strobeAudit.filter fun v => qs.contains v.1
    let s0 := (s.countMod Reg.TLY_AUDITS_COUNT 1).putFlag Reg.TLY_STATUS_INJ (s.flag Reg.GLB_STATUS_INJECT)
    let s1 := s0.auditDone qs bad
    let gates := (bad.filter fun v => v.1 == 4 && v.2.2.1 == 1).map fun (v : Violation) => v.2.1
    let s2 := { s1 with per := { s1.per with
      shutDue := s1.per.shutDue ++ gates.filter (fun k => !s1.per.shutDue.contains k),
      serials := s1.per.ledger.map fun (e : TokenEntry) => (e.dsid, e.serial) } }
    let s3 := late.foldl (fun s q => (s.event 175).raiseAt 0x1703 2 q q) s2
    let n : Nat := if late.isEmpty then s3.per.lates + 1 else 0
    let s4 := { s3 with per := { s3.per with lates := n } }
    if 1000 ≤ n then s4.clearCode 0x1703 else s4

def execTallyAudit (late : List Nat) (s : State) : Host.Outcome State Fault Refusal := .next (tallyAudit late s)

/-- The repair of R679 for Q4, at a tick boundary: an open gate without a HELD entry is closed. -/
def State.tallyBoundary (s : State) : State :=
  let due := s.per.shutDue.filter fun k => s.gateWrong k
  let s1 := { s with per := { s.per with shutDue := [] } }
  due.foldl (fun s k =>
    ({ s with ho := { s.ho with openTo := dropKey Prod.fst k s.ho.openTo } }.count Reg.TLY_REPAIRS_TOKEN).event 174) s1

/-! ### Ledger commits (R673, R674) -/

/-- The words of the pulse outputs that a LEDGER bank holds. -/
def State.poWords (s : State) : List (Nat × Word) :=
  (List.range 4).flatMap fun k =>
    [(Reg.NRG_PO_BACKLOG_COUNT k).addr, (Reg.NRG_PO_EMITTED_COUNT k).addr, (Reg.NRG_PO_RESID_UNITS k).addr].map fun a => (a, s.rd a)

/-- The bank that a commit writes (R673). Where the NRG SRAM does not hold its values yet, after a boot from OFF, it is the newest bank
again, with its own values, FINAL and instant (assumption 72). -/
def State.ledgerBank (s : State) (final pfw tally : Bool) : Bank :=
  let seq := (s.get (Reg.PER_SECT_SEQ_SEQ 1) + 1) % 2 ^ 64
  let mine : Bank := { nrg := s.nrg, words := s.poWords, final := final, pfw := pfw, tally := tally, at' := s.ns, seq := seq }
  if s.boot.nrgHeld then mine else s.bank.elim mine fun b => { b with pfw := pfw, seq := seq }

/-- A ledger commit of `dur` µs that starts now (R673): Q5 and Q6 are checked on the image, which is written with its flags. -/
def State.ledgerCommit (s : State) (final pfw : Bool) (dur : Nat) (ok : Bool) : State :=
  let bad := if s.boot.nrgHeld then s.ledgerAudit else []
  let s1 := (s.countMod Reg.TLY_LAUDITS_COUNT 1).auditDone [5, 6] bad
  let b := s.ledgerBank final pfw (!bad.isEmpty)
  let s2 := (if ok then { s1 with bank := some b } else s1).stateWritten 1 ok
  let d := min dur 65535
  let s3 := ((s2.countMod Reg.PER_COMMITS_COUNT 1).put Reg.PER_CTIME_LAST d).put Reg.PER_CTIME_MAX (max d (s2.get Reg.PER_CTIME_MAX))
  let s4 := { s3 with per := { s3.per with busyUntil := s.ns + dur * 1000 } }
  if (if final then 550 else 450) < dur then (s4.event 171).raise1 0x1606 1 dur else s4

/-- LEDGER_COMMIT (R79, R673): the periodic commit, while VMAIN holds. It is skipped while a commit runs, and replaced by one of R79 within 1 ms. -/
def ledgerTick (dur now : Nat) (ok : Bool) (s : State) : State :=
  let s0 := s.advance (now * nsUnit)
  if s0.boot.detected.isSome || s0.st < stBoot || (s0.st = stBoot && decide (s0.get Reg.KPR_BOOT_STAGE < 8)) then s0
  else if s0.per.pfwAt.any fun t => decide (now < t + 1000000) then s0
  else if now < s0.per.busyUntil then ((s0.count Reg.PER_SKIPPED_COUNT).event 171).raise1 0x1606 1 (s0.get Reg.PER_CTIME_LAST)
  else s0.ledgerCommit false false dur ok

def execLedgerCommit (dur now : Nat) (ok : Bool) (s : State) : Host.Outcome State Fault Refusal := .next (ledgerTick dur now ok s)

/-- The NRG state of the newest LEDGER bank (R674). -/
def State.restoreBank (s : State) : State :=
  match s.bank with
  | none => s
  | some b => b.words.foldl (fun s x => s.wr x.1 x.2) { s with nrg := { b.nrg with vig := s.nrg.vig } }

/-! ### Immediate writes (R664, R671, R672) -/

/-- Waiting journal entries enter the queue as far as it has room (R672). -/
def State.admitWaiting (s : State) : Nat → State
  | 0 => s
  | n + 1 =>
    match s.journal.waiting with
    | [] => s
    | e :: l =>
      if queueBytes s.journal.queue + 64 ≤ 16384 then
        State.admitWaiting ({ s with journal := { s.journal with waiting := l, dropped := 0 } }.queueWrite
          (.journal e (min s.journal.dropped 255))) n
      else s

/-- A TOKEN entry is durable (R454, R670, R707): an own entry goes to the partner and lets its handover step go on; the
partner's is acknowledged and moves the slots of its slice. -/
def State.tokenDurable (s : State) (e : TokenEntry) (ack : Option Nat) (step : Nat) : State :=
  match putLedger s.dsids s.per.ledger e with
  | none => if ack.isSome then s.raiseAt 0x1607 2 e.dsid e.dsid else s
  | some l =>
    let s1 := { s with per := { s.per with ledger := l } }.clearFault 0x1607 e.dsid
    match ack with
    | some seq =>
      let s2 := s1.pairSend s1.tickNow (.tokenAck seq)
      if e.status = 1 || e.status = 2 then { s2 with ho := { s2.ho with moves := s2.ho.moves ++ [(e.dsid, e.status, e.m)] } } else s2
    | none =>
      let s2 := s1.sendToken e
      if step = 0 then s2
      else if s2.flag Reg.PAIR_STATUS_PARTNER then { s2 with ho := { s2.ho with waitStep := some (step, s2.pair.seqOut) } }
      else s2.tokenStep step

/-- Room for an append to KEYJRNL: a slot that holds the last COMMIT of a key slot is copied before it is overwritten (R668). -/
def State.keepCommit (s : State) : Nat → State
  | 0 => s
  | n + 1 =>
    match s.per.keyLog with
    | [] => s
    | w :: l =>
      if s.per.keyLog.length < 1024 then s
      else if w.getD 0 0 = 3 && !(l.any fun v => v.getD 0 0 == 3 && v.getD 2 0 == w.getD 2 0) then
        State.keepCommit ({ s with per := { s.per with keyLog := l ++ [w] } }.logWritten 7 1024) n
      else { s with per := { s.per with keyLog := l } }

/-- A write has become durable, or has failed its read-back twice. -/
def State.writeDone (s : State) (w : Immediate) (ok : Bool) : State :=
  match w with
  | .journal e d =>
    if ok then
      let s1 := s.logWritten 8 32768
      let lseq := s1.get (Reg.PER_SECT_SEQ_SEQ 8)
      { s1 with journal := { s1.journal with log := (s1.journal.log ++ [(lseq, d, e)]).drop (s1.journal.log.length + 1 - 32768), lseq := lseq } }
    else s.sectBad 8
  | .token e ack step => if ok then (s.stateWritten 5 true).tokenDurable e ack step else s.stateWritten 5 false
  | .keyBlob k gen words step =>
    (if ok then s.sectGood 6 else s.sectBad 6).keyBlobDone k gen words step ok
  | .keyLog words =>
    if ok then
      let s1 := (s.keepCommit 1024).logWritten 7 1024
      { s1 with per := { s1.per with keyLog := s1.per.keyLog ++ [words] } }.keyLogDone words
    else s.sectBad 7
  | .config revs req =>
    let s1 := s.stateWritten 3 ok
    match req with
    | none => s1
    | some q =>
      if ok then
        (((s1.put Reg.GLB_CFG_ACTIVE_REV (revs.getD 0 0)).put Reg.GLB_CFG_PENDING_REV (revs.getD 1 0)).put Reg.GLB_CFG_PREVIOUS_REV
          (revs.getD 2 0)).complete q .ok 0 0
      else s1.complete q .integrity 0 0
  | .misc what req =>
    let s1 := s.stateWritten 4 ok
    let s2 := if ok && what = 2 then (s1.put Reg.PER_STATUS_MAC2 1).rewriteSections else s1
    match req with
    | none => s2
    | some q => if ok then (s2.event 9).complete q .ok 0 0 else s2.complete q .integrity 0 0

/-- The write at the front of the queue ends (R671). -/
def State.popWrite (s : State) (ok : Bool) : State :=
  match s.journal.queue with
  | [] => s
  | w :: l =>
    let s1 := { s with journal := { s.journal with queue := l } }.put Reg.PER_QUEUE_BYTES (min (queueBytes l) 65535)
    let s2 := s1.writeDone w ok
    s2.admitWaiting s2.journal.waiting.length

/-- PER_WRITE_DONE (R664, R671). -/
def execPerWriteDone (ok : Bool) (now : Nat) (s : State) : Host.Outcome State Fault Refusal :=
  .next ((s.advance (now * nsUnit)).popWrite ok)

/-- The whole queue and every waiting entry become durable (R673). -/
def State.drainQueue (s : State) : Nat → State
  | 0 => s
  | n + 1 => State.drainQueue (s.popWrite true) n

end Sys2Proof.Machine
end

