-- ==== Sys2Proof/Machine/Host.lean ====
section
/-! DEFINITION. TX and RX rings, and the stop of a ring (R141–R145, R150–R153, R162). -/

namespace Sys2Proof.Machine

/-! ### TX rings (R142, R143, R162) -/

/-- What completes a TX frame at its fetch, if anything: PARAM, then PRIV (R143, R162). -/
def State.txRefused (s : State) (x : RingRec) (es : List TxEntry) : Option Status :=
  let e := es.headD ⟨0, 0, 0, 0, 0, 0⟩
  let total := (es.map TxEntry.len).sum
  let k := x.slice
  let tc := e.tc % 8
  if total < 60 || 9600 < total || 16 < es.length || (11 < e.port && e.port ≠ 0xFF) || e.flags % 2 = 0 then some .param
  else if k ≠ 0 && ((s.get (Reg.SLC_SLICE_EGRESS_TCS k) >>> tc) % 2 = 0 ||
      (if e.port = 0xFF then s.get (Reg.SLC_SLICE_EGRESS_FWD k) = 0 else (s.get (Reg.SLC_SLICE_EGRESS_PORTS k) >>> e.port) % 2 = 0))
    then some .priv
  else none

/-- What injections do to a TX ring frame at its ingress (R699): the frame's bytes go on, or the status that completes it, or
it is held. -/
def State.injHostTx (s : State) (f : CoreFrame) (b : List Nat) (port now : Nat) : List Injection → State × Option (List Nat) × Bool
  | [] => (s, some b, false)
  | i :: l =>
    if i.kind = 1 then (s.injHit i.id, none, false)
    else if i.kind = 2 then
      let off := i.param % 65536
      State.injHostTx (s.injHit i.id) f (if off < b.length then b.set off (Nat.xor (b.getD off 0) (i.param / 65536 % 256)) else b) port now l
    else if i.kind = 4 && decide (1048576 < s.fijBytes + b.length) then State.injHostTx s f b port now l
    else
      let s1 := s.injHit i.id
      let h : FijHeld := { id := i.id, port := 12, tx := true, tc := f.tc, rx := none, out := none, core := some (withHead f b, port),
                           due := if i.kind = 4 then some (now + 1000 * i.param) else none }
      ({ s1 with swc := { s1.swc with fij := s1.swc.fij ++ [h] } }, none, true)

/-- The frame that TX entries describe (R142): its id, lengths, class, tag, launch and expiry. -/
def txFrame (x : RingRec) (es : List TxEntry) (b : List Nat) (now id : Nat) : CoreFrame :=
  let e := es.headD ⟨0, 0, 0, 0, 0, 0⟩
  { withHead { id := id, src := 12, tc := e.tc % 8, len := (es.map TxEntry.len).sum } b with
    flags := if be16 b 12 = 0x8100 then 8 else 0, stamp := now, tx := some x.ring, slice := x.slice, tsReq := e.flags / 8 % 2 == 1,
    launch := if e.flags / 4 % 2 = 1 then some e.launch else none,
    age := if e.maxage = 0 then none else some (now + 1000 * e.maxage) }

/-- The entries of a frame are taken: the ring's record, its consumer index and INFLIGHT (R134, R142). -/
def State.txTake (s : State) (x : RingRec) (n : Nat) (why : Option Status) : State :=
  let r := x.ring
  let m := s.get (Reg.HIF_RING_PTR_MOD r)
  let y := { x with taken := x.taken ++ [{ frame := s.swc.nextId, entries := n, done := why.map fun w => (w, none) }] }
  let s1 := ({ s with swc := { s.swc with nextId := s.swc.nextId + 1 } }.setRing y).put (Reg.HIF_RING_PTR_MOD r) ((m + n) % 65536)
  s1.put (Reg.HIF_RING_RSTAT_INFLIGHT r) (s1.get (Reg.HIF_RING_RSTAT_INFLIGHT r) + n)

/-- A taken frame is counted and enters the switch, unless an injection holds or removes it (R699). -/
def State.txGo (s2 : State) (x : RingRec) (f : CoreFrame) (b : List Nat) (port now : Nat) (luck : List Nat) : State :=
  let s3 := (s2.countMod (Reg.MACP_RX_FRAMES_COUNT 12) 1).countMod (Reg.MACP_RX_OCTETS_COUNT 12) (f.len + 4)
  let (s4, due) := s3.fijDue now none
  let (s5, sel) := (s4.fijGive due).injSelect true 12 f.tc x.slice x.local' luck
  let (s6, out, held) := s5.injHostTx f b port now sel
  match out with
  | none => if held then s6 else s6.txComplete x.ring f.id .aborted none
  | some c =>
    let g := { withHead f c with flags := if be16 c 12 = 0x8100 then 8 else 0 }
    let (s7, back) := (s6.txEnter g port).fijDue now (some (true, 12, f.tc))
    s7.fijGive back

/-- Whether a TX ring gives its next n entries: it runs, holds them, and the switch core is enabled. -/
def State.txReady (s : State) (x : RingRec) (n : Nat) : Bool :=
  x.type == 0 && s.ringRuns x.ring && !x.stopping && !x.frozen && n ≠ 0 && decide (n ≤ s.outstanding x) && s.ready &&
    s.flag Reg.SWC_CTRL_EN

/-- The entries of a frame: up to the first one with EOF, none without it (R142). -/
def txEntries : List TxEntry → List TxEntry
  | [] => []
  | e :: l => if e.flags / 2 % 2 = 1 then [e] else match txEntries l with
    | [] => []
    | t => e :: t

/-- TX_FETCH (R142, R143): the next frame of a TX ring is taken at an instant (ns); `ring entries` are those that follow the consumer
index, of which the frame takes those up to its EOF, `bytes` its contents. -/
def txFetch (r : Nat) (given : List TxEntry) (b : List Nat) (now : Nat) (luck : List Nat) (s : State) : State :=
  match s.ringOf r with
  | none => s
  | some x =>
    let es := txEntries given
    let n := es.length
    if !s.txReady x n then s
    else
      let s0 := s.advance (now * nsUnit)
      let why := s0.txRefused x es
      let s2 := s0.txTake x n why
      if why.isSome then s2.txFlush r (x.taken.length + 1)
      else s2.txGo x (txFrame x es b now s0.swc.nextId) b (es.headD ⟨0, 0, 0, 0, 0, 0⟩).port now luck

def execTxFetch (ring : Nat) (entries : List TxEntry) (bytes : List Nat) (now : Nat) (luck : List Nat) (s : State) :
    Host.Outcome State Fault Refusal := .next (txFetch ring entries bytes now luck s)

/-! ### RX rings (R144, R145, R150) -/

/-- The RX ring of a slice and class with the lowest LOCAL (R145); a ring that an error has stopped, whose EN is still 1, is passed over
(assumption 73). -/
def State.rxRing (s : State) (slice tc : Nat) : Option RingRec :=
  (s.rings.filter fun x => x.type == 1 && x.slice == slice && x.tc == tc && s.ringRuns x.ring && !x.stopping && !x.frozen).foldl
    (fun (a : Option RingRec) x => match a with
      | none => some x
      | some y => if x.local' < y.local' then some x else a) none

/-- How many entries a frame takes, as (bytes, real) per entry, from the lengths of the posted buffers; none when they run out,
with whether any entry was filled. An entry below 256 bytes counts as filled with length 0. -/
def rxLayout : List Nat → Nat → Bool → List (Nat × Bool) × Bool × Bool
  | [], _, any => ([], false, any)
  | l :: ls, left, any =>
    if l < 256 then
      let (r, ok, a) := rxLayout ls left any
      ((0, false) :: r, ok, a)
    else if left ≤ l then ([(left, true)], true, true)
    else
      let (r, ok, a) := rxLayout ls (left - l) true
      ((l, true) :: r, ok, a)

/-- Leading entries of a layout that hold no buffer. -/
def rxSkipped : List (Nat × Bool) → Nat
  | (_, false) :: l => rxSkipped l + 1
  | _ => 0

/-- Entries of an RX ring are written back with their contents. -/
def State.rxWriteBack (s : State) (x : RingRec) (f : CoreFrame) (l : List (Nat × Bool)) (whole : Bool) : State :=
  let (tags, s1) := s.wroteBack x.ring l.length
  let s2 := s1.put (Reg.HIF_RING_PTR_MOD x.ring) ((s1.get (Reg.HIF_RING_PTR_MOD x.ring) + l.length) % 65536)
  let first := rxSkipped l
  let s3 := ((tags.zip l).zip (List.range l.length)).foldl (fun s e =>
    let ((pt, b), k) := e
    let sof := whole && b.2 && k == first
    let eof := whole && b.2 && k + 1 == l.length
    s.dmaOut x.slice (.rxBack {
      ring := x.ring, pos := pt.1, tag := pt.2, bytes := b.1,
      flags := (if sof then 1 else 0) + (if eof then 2 else 0) + (if b.2 then f.flags - (if sof then 0 else f.flags / 4 % 2 * 4) else 0),
      ts := if sof && f.flags / 4 % 2 = 1 then stamp80 f.stamp else 0, port := min f.src 13, tc := f.tc,
      frameLen := if eof then f.len else 0 })) s2
  s3.backPressure x

/-- A frame is placed into its ring, or dropped or rewound (R145, R150). -/
def State.rxPut (s : State) (x : RingRec) (f : CoreFrame) (lens : List Nat) : State :=
  let avail := lens.take (s.outstanding x)
  let (l, ok, any) := rxLayout avail f.len false
  let skip := l.take (rxSkipped l)
  if ok then
    (((s.put (Reg.HIF_RING_RSTAT_STARVED x.ring) 0).rxWriteBack x f l true).countMod (Reg.MACP_TX_FRAMES_COUNT 12) 1).countMod
      (Reg.MACP_TX_OCTETS_COUNT 12) (f.len + 4)
  else
    let s1 := s.put (Reg.HIF_RING_RSTAT_STARVED x.ring) 1
    let s2 := if skip.isEmpty then s1 else s1.rxWriteBack x f skip false
    s2.countFor x.slice (if any then Reg.HIF_RING_CNT_NOBUF_TRUNC x.ring else Reg.HIF_RING_CNT_DROP x.ring) 1

/-- A frame whose slice has no ring for it (R145). -/
def State.rxNoRing (s : State) (slice : Nat) : State := (s.put Reg.HIF_RX_NORING_SLICE slice).count Reg.HIF_RX_NORING_COUNT

/-- What injections do to a frame just before its write into an RX ring: it goes on, or is removed or held (R699). -/
def State.injHostRx (s : State) (f : CoreFrame) (now : Nat) : List Injection → State × Bool
  | [] => (s, true)
  | i :: l =>
    if i.kind = 1 then (s.injHit i.id, false)
    else if i.kind = 2 then State.injHostRx (s.injHit i.id) f now l
    else if i.kind = 4 && decide (1048576 < s.fijBytes + f.len) then State.injHostRx s f now l
    else
      let s1 := s.injHit i.id
      let h : FijHeld := { id := i.id, port := 12, tx := false, tc := f.tc, rx := none, out := none, core := some (f, 12),
                           due := if i.kind = 4 then some (now + 1000 * i.param) else none }
      ({ s1 with swc := { s1.swc with fij := s1.swc.fij ++ [h] } }, false)

/-- A frame meets its RX ring (R145, R699): placed, unless an injection removes or holds it; frames held until this one go
next. A TX frame that its RX ring drops or truncates has left the host port (R143; assumption 73). -/
def State.rxGo (s1 : State) (x : RingRec) (f : CoreFrame) (c : CoreCopy) (lens : List Nat) (now : Nat) (luck : List Nat) : State :=
  let (s2, sel) := s1.injSelect false 12 f.tc x.slice x.local' luck
  let (s3, go) := s2.injHostRx f now sel
  let s4 := if go then s3.rxPut x f lens else s3
  let fij := s4.swc.fij.map fun (h : FijHeld) =>
    if go && !h.tx && h.port == 12 && h.core.isSome && h.due.isNone && h.tc == f.tc then { h with due := some now } else h
  let s5 := { s4 with swc := { s4.swc with fij := fij } }
  (if go then s5.setFrame { f with left := true, txts := some now } else s5).releaseCopy c none

/-- A frame that an injection held for the host port until now. -/
def fijHost (now : Nat) (h : FijHeld) : Bool :=
  !h.tx && h.core.isSome && (match h.due with
    | some t => decide (t ≤ now)
    | none => false)

/-- A frame for the host that an injection gave back takes its ring's entries. -/
def State.rxHeld (s : State) (h : FijHeld) (lens : List Nat) : State :=
  let s1 := { s with swc := { s.swc with fij := s.swc.fij.erase h } }
  match h.core with
  | none => s1
  | some (f, _) => match s1.rxRing f.slice f.tc with
    | none => s1.rxNoRing f.slice
    | some x => s1.rxPut x f lens

/-- The copy that leaves the host port takes its ring's entries (R144, R145). -/
def State.rxCopy (s : State) (c : CoreCopy) (lens : List Nat) (now : Nat) (luck : List Nat) : State :=
  match s.coreFrame c.frame with
  | none => s
  | some f => match s.rxRing f.slice f.tc with
    | none => (s.rxNoRing f.slice).releaseCopy c none
    | some x => s.rxGo x f c lens now luck

/-- The next frame for the host: those that an injection gave back go first. -/
def State.rxNext (s : State) (lens : List Nat) (now : Nat) (luck : List Nat) : State :=
  match s.swc.fij.find? (fijHost now) with
  | some h => s.rxHeld h lens
  | none => match s.nextCopy 12 now with
    | none => s
    | some (c, s1) => s1.rxCopy c lens now luck

/-- RX_PLACE (R144, R145, R150): at an instant (ns) the next frame for the host takes its ring's entries, of which `lens` are the
posted buffer sizes in order. -/
def rxPlace (lens : List Nat) (now : Nat) (luck : List Nat) (s : State) : State := (s.advance (now * nsUnit)).rxNext lens now luck

def execRxPlace (lens : List Nat) (now : Nat) (luck : List Nat) (s : State) : Host.Outcome State Fault Refusal :=
  .next (rxPlace lens now luck s)

/-! ### The stop of a ring (R141) -/

/-- TX frames of a ring whose launch lies more than 1 ms after now are discarded with ABORTED. -/
def State.cutTx (s : State) (r : Nat) : State :=
  let late := fun (id : Nat) => match s.coreFrame id with
    | none => false
    | some f => f.tx == some r && f.launch.any fun l => decide (s.ns + 1000000 < l)
  (s.swc.copies.filter fun c => c.stage ≠ 3 && late c.frame).foldl (fun s c => s.discardCopy c (some .aborted)) s

/-- The multi-step commands of a ring complete with ABORTED (R70, R141). -/
def State.abortRing (s : State) (r : Nat) : State :=
  let mine := s.multi.filter fun m => m.req.ring == some r
  let s1 := { s with multi := s.multi.filter fun m => !(m.req.ring == some r) }
  let s2 := if mine.any fun m => m.opcode == 0x60 || m.opcode == 0x61 then s1.cancelSliceOp else s1
  mine.foldl (fun s m => s.complete m.req .aborted 0 0) s2

/-- What the stop of a ring does to the entries it has taken (R141), by its type. -/
def State.stopTaken (s : State) (x : RingRec) : State :=
  if x.type = 0 then s.cutTx x.ring
  else if x.type = 3 then
    (s.setRing { x with held := [], lost := 0 }).countFor x.slice (Reg.HIF_RING_CNT_DROP x.ring) x.held.length
  else s.abortRing x.ring

/-- RING_DISABLE (R141): a write of CFG with EN = 0. -/
def ringDisable (r data : Nat) (s : State) : State :=
  if 1024 ≤ r then s
  else if s.st = stBoot then s.reject 2 (0x1008 + 0x10 * r) 3
  else if cfgBad data then s.reject 2 (0x1008 + 0x10 * r) 1
  else
    let w := BitVec.ofNat 32 (data % 2 ^ 31 - data % 2 ^ 13 + data % 2 ^ 12)
    let was := s.flag (Reg.HIF_RING_CFG_EN r)
    let s1 := s.wr (0x21008 + 0x10 * r) w
    if !was then s1
    else
      match s1.ringOf r with
      | none => s1
      | some x =>
        let s2 := (((s1.give (Reg.SLC_SLICE_QA_RINGS x.slice) 1).poolRings (-1)).put Reg.HIF_RINGS_ENABLED
          (s1.get Reg.HIF_RINGS_ENABLED - 1)).setRing { x with stopping := true }
        match s2.ringOf r with
        | some y => s2.stopTaken y
        | none => s2

def execRingDisable (ring data : Nat) (s : State) : Host.Outcome State Fault Refusal := .next (ringDisable ring data s)

end Sys2Proof.Machine
end

