-- ==== Sys2Proof/Machine/Slices.lean ====
section
/-! DEFINITION. Slices: the slice table, mailboxes, freeze and restore of ordinary slices (R158–R175, R707). -/

namespace Sys2Proof.Machine

/-! ### The slice table (R158–R160, R176) -/

/-- The token of a slice is minted (R176): a HELD entry with serial 1 goes to the ledger unless it holds an entry. -/
def State.mint (s : State) (dsid : Nat) : State :=
  if s.per.ledger.any fun e => e.dsid == dsid then s
  else s.queueWrite (.token ⟨dsid, 1, 0, 1, 0, s.ns % 2 ^ 64⟩ none 0)

/-- Two ranges (first, count) overlap. -/
def rangesMeet (a b : Nat × Nat) : Bool := decide (0 < a.2) && decide (0 < b.2) && decide (a.1 < b.1 + b.2) && decide (b.1 < a.1 + a.2)

/-- The DRAM window and the vector range of a slice. -/
def State.dramOf (s : State) (k : Nat) : Nat × Nat := (s.get (Reg.SLC_SLICE_DRAMW_BASE k), s.get (Reg.SLC_SLICE_DRAMW_SIZE k))
def State.vecOf (s : State) (k : Nat) : Nat × Nat := (s.get (Reg.SLC_SLICE_VEC_VBASE k), s.get (Reg.SLC_SLICE_VEC_VCOUNT k))

/-- The conditions of R159 on a slice that becomes valid with an ID word; the whole slice is checked again against PROT, its traffic
classes (R162) included. -/
def State.validOk (s : State) (k : Nat) (w : Word) : Bool :=
  let others := (0 :: s.validSlices).filter (· ≠ k)
  let prot := w.field 30 1 == 1
  let dsid := s.get (Reg.SLC_SLICE_DSID_DSID k)
  others.all (fun j => s.get (Reg.SLC_SLICE_ID_PASID j) != w.field 0 20 && !rangesMeet (s.dramOf j) (s.dramOf k) &&
    (j == 0 || !rangesMeet (s.vecOf j) (s.vecOf k))) &&
    (!prot || dsid != 0) &&
    (prot || (s.get (Reg.SLC_SLICE_QA_SLOTS k) == 0 && s.get (Reg.SLC_SLICE_QB_GOCB k) == 0 &&
      s.get (Reg.SLC_SLICE_EGRESS_TCS k) / 16 % 8 == 0)) &&
    (!(prot && w.field 28 1 == 1) || (s.per.ledger.any fun e => e.dsid == dsid) || s.ledgerRoom dsid)

/-- Whether a slice holds nothing: every USE field is 0. -/
def State.usesNothing (s : State) (k : Nat) : Bool := (List.range 4).all fun i => s.rd (0x3102C + 0x40 * k + 4 * i) == 0

/-- SLICE_VALID_WRITE (R158–R160, R176): a write of SLICE[s].ID. -/
def sliceValidWrite (k : Nat) (data : Word) (s : State) : State :=
  let off := 0x1000 + 0x40 * k
  let a := 0x31000 + 0x40 * k
  if 255 < k then s
  else if s.st = stBoot then s.reject 3 off 3
  else if k = 0 then
    let pasid := data.field 0 20
    let busy := (s.rings.any fun x => x.slice == 0 && s.flag (Reg.HIF_RING_CFG_EN x.ring)) || s.flag (mbEn 0)
    if pasid ≠ s.get (Reg.SLC_SLICE_ID_PASID 0) && (busy || s.validSlices.any fun j => s.get (Reg.SLC_SLICE_ID_PASID j) == pasid)
    then s.reject 3 off 1
    else (s.put (Reg.SLC_SLICE_ID_INJECT 0) (data.field 29 1)).put (Reg.SLC_SLICE_ID_PASID 0) pasid
  else
    let w := BitVec.ofNat 32 (data.toNat / 2 ^ 28 * 2 ^ 28 + data.field 0 20)
    let old := s.rd a
    let was := s.sliceValid k
    let now := data.field 31 1 == 1
    if was && (data.field 0 20 ≠ old.field 0 20 || data.field 30 1 ≠ old.field 30 1 || data.field 29 1 ≠ old.field 29 1)
    then s.reject 3 off 1
    else if was && !now && (!s.usesNothing k || s.get (Reg.SLC_SLICE_STATE_MIG k) ≠ 0) then s.reject 3 off 1
    else if !was && now && !s.validOk k data then s.reject 3 off 1
    else
      let s1 := s.wr a w
      if !was && now && data.field 30 1 = 1 && data.field 28 1 = 1 then s1.mint (s.get (Reg.SLC_SLICE_DSID_DSID k)) else s1

def execSliceValidWrite (slice : Nat) (data : Word) (s : State) : Host.Outcome State Fault Refusal :=
  .next (sliceValidWrite slice data s)

/-! ### Mailboxes (R165–R170) -/

/-- A page takes writes: a valid slice, at SYNC or later (R139). -/
def State.pageOpen (s : State) (k : Nat) : Bool := decide (k < 256) && s.ready && s.sliceValid k

/-- A frozen slice's mailbox neither fetches nor takes messages (R172). -/
def State.mbFrozen (s : State) (k : Nat) : Bool :=
  let g := s.get (Reg.SLC_SLICE_STATE_MIG k)
  g == 1 || g == 2 || g == 3

/-- Whether a mailbox is enabled and runs. -/
def State.mbRuns (s : State) (k : Nat) : Bool := s.flag (mbEn k) && s.flag (mbActive k)

/-- MB_CTRL_WRITE (R165, R170). A write of EN = 0 writes back what the module has taken and not delivered with ABORTED
(assumption 76). -/
def mbCtrlWrite (k data : Nat) (s : State) : State :=
  if !s.pageOpen k then s.stray (k % 256)
  else
    let was := s.flag (mbEn k)
    if data % 2 = 1 && !was then
      let s1 := (((s.put (mbEn k) 1).put (mbActive k) 1).put (mbErr k) 0).wr (0x200214 + 0x1000 * k) 0
      (s1.wr (0x200218 + 0x1000 * k) 0).setMb { slice := k }
    else if data % 2 = 0 && was then ((s.put (mbEn k) 0).put (mbActive k) 0).mbAbort k
    else s

def execMbCtrlWrite (slice data : Nat) (s : State) : Host.Outcome State Fault Refusal := .next (mbCtrlWrite slice data s)

/-- An ignored mailbox doorbell is counted; it names no ring (R135). -/
def State.mbBad (s : State) : State := (s.count Reg.HIF_DB_BAD_COUNT).eventIf (decide (s.get Reg.HIF_DB_BAD_COUNT ≠ 65535)) 182

/-- MB_OUT_DB (R135, R165). -/
def mbOutDb (k data : Nat) (s : State) : State :=
  if !s.pageOpen k || !s.flag (mbEn k) then s.stray (k % 256)
  else
    let new := data % 65536
    let c := s.get (mbOutMod k)
    if idx16 new c ≤ 64 && idx16 new (s.get (mbOutHost k)) ≤ idx16 new c then s.put (mbOutHost k) new else s.mbBad

def execMbOutDb (slice data : Nat) (s : State) : Host.Outcome State Fault Refusal := .next (mbOutDb slice data s)

/-- MB_IN_DB (R135, R165). -/
def mbInDb (k data : Nat) (s : State) : State :=
  if !s.pageOpen k || !s.flag (mbEn k) then s.stray (k % 256)
  else
    let new := data % 65536
    let h := s.get (mbInHost k)
    if idx16 new h ≤ idx16 (s.get (mbInMod k)) h then s.put (mbInHost k) new else s.mbBad

def execMbInDb (slice data : Nat) (s : State) : Host.Outcome State Fault Refusal := .next (mbInDb slice data s)

/-- MB_EVCLR (R165). -/
def execMbEvclr (slice data : Nat) (s : State) : Host.Outcome State Fault Refusal :=
  .next (if slice < 256 && data % 2 = 1 then s.put (srcField (1216 + slice)) 0 else s)

/-- What completes an OUT entry without a delivery (R167). A mailbox that a DMA error has stopped takes no message: STATE
(assumption 76). -/
def State.mbStatus (s : State) (k : Nat) (m : MbMsg) : Status :=
  let d := m.peer
  if m.version ≠ 1 then .version
  else if (k ≠ 0 && d ≠ 0) || (k = 0 && (d = 0 || 255 < d)) then .param
  else if !s.sliceValid d || !s.mbRuns d || s.mbFrozen d then .state
  else if 64 ≤ idx16 (s.get (mbInMod d)) (s.get (mbInHost d)) then .busy
  else .ok

/-- A slice's mailbox moves messages now: it runs, its slice is not frozen, and Bus Master Enable is 1 (R170, R172). -/
def State.mbMoves (s : State) (k : Nat) : Bool := s.pageOpen k && s.mbRuns k && !s.mbFrozen k && s.flag Reg.HIF_LINK_BME

/-- The next OUT entry of a slice is taken (R167). -/
def State.mbTake (s : State) (k : Nat) (m : MbMsg) : State :=
  let c := s.get (mbOutMod k)
  if c = s.get (mbOutHost k) then s
  else
    let b := s.mbOf k
    (s.put (mbOutMod k) ((c + 1) % 65536)).setMb { b with took := b.took + 1, waiting := b.waiting ++ [m] }

/-- A message goes into the IN ring of its destination (R166, R168): RSEQ of the first message from a peer is 1 (assumption 76). -/
def State.mbDeliver (s : State) (k : Nat) (m : MbMsg) : State :=
  let d := m.peer
  let p := s.get (mbInMod d)
  let e := s.mbOf d
  let n := (findKey Prod.fst k e.rseq).elim 0 Prod.snd + 1
  let s1 := (s.put (mbInMod d) ((p + 1) % 65536)).setMb
    { e with inPass := if p % 64 = 63 then e.inPass + 1 else e.inPass, rseq := setKey Prod.fst (k, n % 2 ^ 32) e.rseq }
  (s1.dmaOut d (.mbIn d k (p % 64) (1 + e.inPass % 255) (n % 2 ^ 32) m)).event (1216 + d)

/-- MAILBOX_RELAY (R167–R169): the next OUT entry of a slice, where the module takes one, then the oldest message taken, where the
module completes one: delivered, and written back once. -/
def mailboxRelay (k : Nat) (next : Option MbMsg) (deliver : Bool) (s : State) : State :=
  if !s.mbMoves k then s
  else
    let s1 := next.elim s (s.mbTake k)
    match (s1.mbOf k).waiting with
    | [] => s1
    | m :: _ =>
      if !deliver then s1
      else
        let st := s1.mbStatus k m
        (if st = .ok then s1.mbDeliver k m else s1).mbBack k st

def execMailboxRelay (slice : Nat) (x : MbWork) (s : State) : Host.Outcome State Fault Refusal :=
  .next (mailboxRelay slice x.next x.deliver s)

/-- MAILBOX_DMA_ERROR (R170). -/
def execMailboxDmaError (slice : Nat) (s : State) : Host.Outcome State Fault Refusal :=
  .next (if slice < 256 then s.mbStop slice else s)

/-! ### The image of a slice (R174, R175) -/

/-- Bytes of a sub-record of block state (assumption 76). -/
def blockBytes : BlockImg → Nat
  | .svSub _ w => 4 + 4 * w.length
  | .goSub _ w _ _ _ _ _ v _ => 4 + 4 * w.length + 24 + 12 * v.length
  | .recChan .. => 12

/-- The payload lengths of the sections 1 to 7; a section of length 0 is omitted. -/
def sectionLens (i : SliceImg) : List Nat :=
  [64, 48 * i.rings.length, i.mailbox.elim 0 (fun m => 24 + 64 * m.2.length), 40 * i.held.length, (i.blocks.map blockBytes).sum,
   50 * i.keys.length, i.dramMiB * 2 ^ 20]

/-- LENGTH and SECTIONS of an image. -/
def imageLength (i : SliceImg) : Nat := 128 + ((sectionLens i).map fun n => if n = 0 then 0 else 16 + (n + 7) / 8 * 8).sum
def sectionCount (i : SliceImg) : Nat := ((sectionLens i).filter fun n => n ≠ 0).length

/-- What a message, a held entry and a sub-record put into an image. -/
def msgWords (m : MbMsg) : List Nat := [m.version, m.peer, m.msgid] ++ m.payload
def heldWords (h : Nat × EvqItem) : List Nat := [h.1, h.2.slice, h.2.kind] ++ h.2.payload.flatMap fun p => [p.1, p.2.1, p.2.2]
def blockWords : BlockImg → List Nat
  | .svSub i w => [8, i] ++ w
  | .goSub i w n st sq e t v a => [8, 512 + i] ++ w ++ [bit n, st, sq, e, bit t, a] ++ v.flatMap fun x => [x.1, unsigned 32 x.2.1, x.2.2]
  | .recChan b i x y => [16, i, bit b, x, y]

/-- DIGEST of an image: SHA-384 over its other header bytes and its sections. -/
def imageDigest (i : SliceImg) : Nat :=
  Config.sha384 ([i.magic, i.version, i.hdrLen, i.length, i.slice, i.sections, i.serial, i.time, i.tick] ++ i.window ++
    i.rings.flatMap (fun r => [r.baseLo, r.baseHi, r.cfg, r.coal, r.prod, r.cons, r.pass, r.vec]) ++
    i.mailbox.elim [] (fun m => m.1 ++ m.2.flatMap msgWords) ++ i.held.flatMap heldWords ++ i.blocks.flatMap blockWords ++
    i.keys.flatMap (fun k => [k.1, k.2]) ++ i.dram.flatMap fun x => [x.1, x.2])

/-- The form of an image agrees with its header (R174, R175). -/
def imageFormed (i : SliceImg) : Bool :=
  i.formOk && i.magic == 0x4E525349 && i.hdrLen == 128 && i.length == imageLength i && i.sections == sectionCount i

/-- The enabled rings of a slice as its image holds them. -/
def State.ringImage (s : State) (k : Nat) (x : RingRec) : RingImg :=
  let base := 0x21000 + 0x10 * x.ring
  let m := s.get (Reg.HIF_RING_PTR_MOD x.ring)
  let h := s.get (Reg.HIF_RING_PTR_HOST x.ring)
  { baseLo := (s.rd base).toNat, baseHi := (s.rd (base + 4)).toNat, cfg := (s.rd (base + 8)).toNat, coal := (s.rd (base + 0xC)).toNat,
    prod := if x.type = 3 then m else h, cons := if x.type = 3 then h else m, pass := x.pass,
    vec := (s.get (Reg.EVT_SRC_VECTOR (192 + x.ring)) + 2048 - s.get (Reg.SLC_SLICE_VEC_VBASE k)) % 2048 }

/-- The mailbox of a slice as its image holds it; an image of a slice whose mailbox is not enabled has none. -/
def State.mbImage (s : State) (k : Nat) : Option (List Nat × List MbMsg) :=
  let a := 0x200200 + 0x1000 * k
  let w := fun i => (s.rd (a + i)).toNat
  if s.flag (mbEn k) then
    some ([w 0 + w 4 * 2 ^ 32, w 8 + w 12 * 2 ^ 32, 1, s.get (mbOutHost k), s.get (mbOutMod k), s.get (mbInMod k), s.get (mbInHost k)],
      (s.mbOf k).waiting)
  else none

/-- The block resources of a slice: SV subscriptions, GOOSE subscriptions, recorder channels. -/
def State.blockImages (s : State) (k : Nat) : List BlockImg :=
  let subs := (List.range 512).filter fun i => s.getA (Reg.SVI_SUB_DST_HI_EN i) == 1 && s.getA (Reg.SVI_SUB_LAYOUT_SLICE i) == k
  subs.map (fun i => .svSub i ((List.range 7).map fun j => (s.rd (0x89000 + 0x20 * i + 4 * j)).toNat)) ++
  (s.svi.gsubs.filter fun g => gSlice g.words == k).map
    (fun g => .goSub g.idx g.words g.never g.st g.sq g.expiry g.test g.vals g.age) ++
  (s.aqe.chans.filter fun c => chSlice c.w0 == k).map fun c => .recChan c.bin c.idx c.w0 c.w1

/-- The key slots of a slice with the identifiers of their keys. -/
def State.keyRefs (s : State) (k : Nat) : List (Nat × Nat) :=
  ((List.range 1024).filter fun i => s.keyOwn i k).map fun i => (i, (findKey Prod.fst i s.keys.kids).elim 0 Prod.snd)

/-- The MiB of a DRAM window that are not all 0. -/
def State.windowRead (s : State) (k : Nat) : List (Nat × Nat) :=
  let (base, size) := s.dramOf k
  (s.dram.filter fun x => decide (base ≤ x.1) && decide (x.1 < base + size)).map fun x => (x.1 - base, x.2)

/-- The image of a slice frozen at a tick and an instant (ns) (R174, R175). -/
def State.sliceImage (s : State) (k tick at' : Nat) : SliceImg :=
  let own := s.rings.filter fun x => x.slice == k && s.flag (Reg.HIF_RING_CFG_EN x.ring)
  let i : SliceImg :=
    { slice := k, serial := Config.serialNumber, time := stamp80 at', tick := tick,
      window := (List.range 16).map fun j => (s.rd (0x31000 + 0x40 * k + 4 * j)).toNat,
      rings := own.map (s.ringImage k), mailbox := s.mbImage k, held := own.flatMap fun x => x.held.map fun e => (x.local', e),
      blocks := s.blockImages k, keys := s.keyRefs k, dramMiB := (s.dramOf k).2, dram := s.windowRead k }
  let i1 := { i with length := imageLength i, sections := sectionCount i }
  { i1 with digest := imageDigest i1 }

/-! ### Freeze (R171, R172) -/

/-- SLICE_FREEZE (R171): the buffer at `buf` must hold the image that the slice has. -/
def sliceFreeze (q : Req) (k buflen buf : Nat) (s : State) : State :=
  let need := (s.sliceImage k s.tg.next s.ns).length
  s.command 0x60 q
    [(.param, k = 0 || 255 < k || s.isProt k), (.priv, q.slice ≠ 0),
     (.state, s.notIn stRun || !s.sliceValid k || s.get (Reg.SLC_SLICE_STATE_MIG k) ≠ 0), (.nores, decide (buflen < need)),
     (.busy, s.sliceOp.isSome)] false
    (fun s => { s with sliceOp := some { slice := k, restore := false, thaw := false, buflen := buflen, buf := buf },
                       multi := s.multi ++ [⟨q, 0x60, k, 0⟩] })
    fun st => if st = .nores then need else 0

def execSliceFreeze (q : Req) (slice buflen buf : Nat) (s : State) : Host.Outcome State Fault Refusal :=
  .next (sliceFreeze q slice buflen buf s)

/-- The multi-step commands with an opcode complete. -/
def State.finish (s : State) (op : Nat) (st : Status) (result : Nat) : State :=
  let mine := s.multi.filter fun m => m.opcode == op
  mine.foldl (fun s m => s.complete m.req st result 0) { s with multi := s.multi.filter fun m => m.opcode ≠ op }

/-- FREEZE_COMPLETE (R172): the taken entries are done, the image is written. An image that has outgrown its buffer since the command
ends the freeze with NORES, and the slice goes on (assumption 76). -/
def freezeComplete (s : State) : State :=
  match s.sliceOp with
  | none => s
  | some o =>
    let busy := s.rings.any fun x => x.slice == o.slice && (!x.taken.isEmpty || x.cur.isSome)
    if o.restore || !o.started || busy then s
    else
      let i := s.sliceImage o.slice o.tick o.at'
      if o.buflen < i.length then s.cancelSliceOp.finish 0x60 .nores i.length
      else
        let s1 := { s with sliceOp := none }.dmaOut 0 (.sliceImage o.slice o.buf i)
        ((s1.put (Reg.SLC_SLICE_STATE_MIG o.slice) 2).finish 0x60 .ok i.length).event 186

def execFreezeComplete (s : State) : Host.Outcome State Fault Refusal := .next (freezeComplete s)

/-! ### Restore (R173–R175) -/

/-- Rings that no slice holds, lowest first. -/
def State.freeRings (s : State) : List Nat :=
  (List.range 1024).filter fun r => !s.flag (Reg.HIF_RING_CFG_EN r) && (s.ringOf r).isNone

/-- A key reference that no slot of the target satisfies. -/
def State.missingKey (s : State) (k : Nat) (img : SliceImg) : Option Nat :=
  (img.keys.find? fun e => !((List.range 1024).any fun i => s.keyOwn i k && s.keys.kids.contains (i, e.2))).map Prod.fst

/-- What an image needs of each quota: rings, SV and GOOSE subscriptions, recorder channels, keys. -/
def quotaNeeds (k : Nat) (img : SliceImg) : List (Field × Nat) :=
  let count := fun (p : BlockImg → Bool) => (img.blocks.filter p).length
  [(Reg.SLC_SLICE_QA_RINGS k, img.rings.length),
   (Reg.SLC_SLICE_QA_SVSUB k, count fun b => match b with | .svSub .. => true | _ => false),
   (Reg.SLC_SLICE_QB_GOSUB k, count fun b => match b with | .goSub .. => true | _ => false),
   (Reg.SLC_SLICE_QC_RECA k, count fun b => match b with | .recChan b .. => !b | _ => false),
   (Reg.SLC_SLICE_QC_RECB k, count fun b => match b with | .recChan b .. => b | _ => false),
   (Reg.SLC_SLICE_QD_KEYS k, img.keys.length)]

/-- A quota of the target is smaller than the image needs. -/
def State.quotaShort (s : State) (k : Nat) (img : SliceImg) : Bool := (quotaNeeds k img).any fun x => decide (s.get x.1 < x.2)

/-- A block resource that an image names is free in this module (assumption 76). -/
def State.blockFree (s : State) : BlockImg → Bool
  | .svSub i _ => decide (i < 512) && s.getA (Reg.SVI_SUB_DST_HI_EN i) ≠ 1
  | .goSub i .. => decide (i < 1024) && (findKey Gsub.idx i s.svi.gsubs).isNone && !s.svi.gsubPend.any fun p => p.1 == i
  | .recChan b i .. => s.recState == 0 && (s.chanNow b i).isNone

/-- The target holds no resources but its key slots, which the image's key references name (assumption 76). -/
def State.holdsNothing (s : State) (k : Nat) : Bool :=
  ((List.range 3).all fun i => s.rd (0x3102C + 0x40 * k + 4 * i) == 0) && !s.flag (mbEn k)

/-- SLICE_RESTORE (R171, R173, R174): MODE 0 restores an image of a given length, MODE 1 thaws; the conditions in the order of R70. -/
def sliceRestore (q : Req) (k mode len : Nat) (img : SliceImg) (s : State) : State :=
  let thaw := mode == 1
  let mig := s.get (Reg.SLC_SLICE_STATE_MIG k)
  let n := img.rings.length
  let bad := k = 0 || 255 < k || 1 < mode || s.isProt k
  let missing := if thaw then none else s.missingKey k img
  let short := !thaw && decide (len < img.length)
  let quota := !thaw && s.quotaShort k img
  s.command 0x61 q
    [(.version, !thaw && img.version ≠ 1), (.param, bad || missing.isSome), (.priv, q.slice ≠ 0),
     (.state, s.notIn stRun || !s.sliceValid k || mig ≠ (if thaw then 2 else 0) || (!thaw && !s.holdsNothing k)),
     (.nores, short || quota || (!thaw && (decide (s.freeRings.length < n) || decide (s.get (Reg.SLC_SLICE_DRAMW_SIZE k) < img.dramMiB) ||
        !img.blocks.all s.blockFree || (decide (0 < n) && !s.flag Reg.HIF_LINK_PASID_EN)))),
     (.busy, s.sliceOp.isSome), (.integrity, !thaw && (img.digest ≠ imageDigest img || !imageFormed img))] (!short && quota)
    (fun s =>
      let s1 := { s with sliceOp := some { slice := k, restore := true, thaw := thaw, img := if thaw then none else some img,
                                           alloc := if thaw then [] else s.freeRings.take n },
                         multi := s.multi ++ [⟨q, 0x61, k, 0⟩] }
      if thaw then s1 else s1.put (Reg.SLC_SLICE_STATE_MIG k) 3)
    fun st => if st = .param then (if bad then 0 else missing.getD 0) else if st = .nores && short then img.length else 0

def execSliceRestore (q : Req) (slice mode : Nat) (b : ImageBuf) (s : State) : Host.Outcome State Fault Refusal :=
  .next (sliceRestore q slice mode b.len b.img s)

/-- A ring of an image is enabled as ring r of a slice, from the image's indices, pass count and held entries. -/
def State.restoreRing (s : State) (k r : Nat) (i : RingImg) (held : List (Nat × EvqItem)) : State :=
  let w := i.cfg % 2 ^ 31 - i.cfg % 2 ^ 24 + k * 2 ^ 16 + i.cfg % 2 ^ 16 + 2 ^ 31
  let base := 0x21000 + 0x10 * r
  let loc := i.baseLo / 64 % 64
  let type := i.cfg / 2 ^ 28 % 8
  let l2 := i.cfg / 2 ^ 24 % 16
  let next := if type = 3 then i.prod else i.cons
  let mine := (held.filter fun h => h.1 == loc).map fun h => { h.2 with slice := k }
  let x : RingRec := { ring := r, slice := k, type := type, log2size := l2, local' := loc, tc := i.cfg / 2 ^ 13 % 8, mark := i.cfg % 4096,
                       pass := i.pass, wb := next % 2 ^ l2, held := mine, made := mine.length }
  let s1 := ((s.wr base (BitVec.ofNat 32 i.baseLo)).wr (base + 4) (BitVec.ofNat 32 i.baseHi)).wr (base + 0xC) (BitVec.ofNat 32 i.coal)
  let s2 := (s1.wr (base + 8) (BitVec.ofNat 32 w)).startRing x
  let s3 := if type = 3 then (s2.put (Reg.HIF_RING_PTR_MOD r) i.prod).put (Reg.HIF_RING_PTR_HOST r) i.cons
    else (s2.put (Reg.HIF_RING_PTR_MOD r) i.cons).put (Reg.HIF_RING_PTR_HOST r) i.prod
  let s4 := (s3.put (Reg.EVT_SRC_VECTOR (192 + r)) ((s3.get (Reg.SLC_SLICE_VEC_VBASE k) + i.vec) % 2048)).put
    (Reg.EVT_SRC_MSIX_EN (192 + r)) 1
  if s4.flag Reg.HIF_LINK_BME then s4 else (s4.dmaStop x s4.free s4.free).drawn

/-- The mailbox of an image is enabled with the messages that wait in it; its pass counts are not part of an image and are free
(assumption 5). -/
def State.restoreMb (s : State) (k : Nat) (l : List Nat) (msgs : List MbMsg) : State :=
  let a := 0x200200 + 0x1000 * k
  let g := fun i => l.getD i 0
  let s1 := (((s.wr a (BitVec.ofNat 32 (g 0))).wr (a + 4) (BitVec.ofNat 32 (g 0 / 2 ^ 32))).wr (a + 8) (BitVec.ofNat 32 (g 1))).wr
    (a + 12) (BitVec.ofNat 32 (g 1 / 2 ^ 32))
  let en := g 2 % 2
  let s2 := (((s1.put (mbEn k) en).put (mbActive k) en).put (mbOutHost k) (g 3)).put (mbOutMod k) (g 4)
  ((s2.put (mbInMod k) (g 5)).put (mbInHost k) (g 6)).drawn.setMb
    { slice := k, outPass := s2.free, inPass := s2.free, took := msgs.length, waiting := msgs }

/-- A word with the byte from bit lo on replaced by a slice. -/
def ownedWord (w lo k : Nat) : Nat := w - w / 2 ^ lo % 256 * 2 ^ lo + k * 2 ^ lo

/-- A block resource of an image is enabled for slice k, from its words and its state (R173). -/
def State.restoreBlock (s : State) (k : Nat) : BlockImg → State
  | .svSub i w =>
    let l := (List.range 7).map fun j => (j, BitVec.ofNat 32 (if j = 5 then ownedWord (w.getD 5 0) 24 k else w.getD j 0))
    l.foldl (fun (s : State) x => (s.wr (0x81000 + 0x20 * i + 4 * x.1) x.2).wr (0x89000 + 0x20 * i + 4 * x.1) x.2) s
  | .goSub i w n st sq e t v a =>
    let g : Gsub := { idx := i, words := w.set 2 (ownedWord (w.getD 2 0) 8 k), never := n, st := st, sq := sq, expiry := e, test := t,
                      vals := v, age := a }
    { s with svi := { s.svi with gsubs := setKey Gsub.idx g s.svi.gsubs } }.take (Reg.SLC_SLICE_QB_GOSUB k) 1
  | .recChan b i x y =>
    let c : RecChan := { bin := b, idx := i, w0 := ownedWord x 20 k, w1 := y }
    ({ s with aqe := { s.aqe with chans := setKey recKey c s.aqe.chans } }.take
      (if b then Reg.SLC_SLICE_QC_RECB k else Reg.SLC_SLICE_QC_RECA k) 1).emptyRing

/-- The block resources of an image; SV subscriptions go into force at the boundary (R298). -/
def State.restoreBlocks (s : State) (k : Nat) (l : List BlockImg) : State :=
  let s1 := l.foldl (fun (s : State) b => s.restoreBlock k b) s
  if l.any (fun b => match b with | .svSub .. => true | _ => false) then s1.applySubs else s1

/-- A MiB of the slice windows is written, in canonical form. -/
def dramPut (m v : Nat) (l : List (Nat × Nat)) : List (Nat × Nat) := if v = 0 then dropKey Prod.fst m l else setKey Prod.fst (m, v) l

/-- The contents of a DRAM window of an image go to the window of slice k. -/
def State.windowWrite (s : State) (k n : Nat) (l : List (Nat × Nat)) : State :=
  let base := (s.dramOf k).1
  { s with dram := (List.range n).foldl (fun d j => dramPut (base + j) ((findKey Prod.fst j l).elim 0 Prod.snd) d) s.dram }

/-- What a restore of an image does at its boundary (R173 steps 3 and 4). -/
def State.restoreImage (s : State) (k : Nat) (alloc : List Nat) (i : SliceImg) : State :=
  let s1 := (i.rings.zip alloc).foldl (fun (s : State) e => s.restoreRing k e.2 e.1 i.held) s
  let s2 := i.mailbox.elim s1 fun m => s1.restoreMb k m.1 m.2
  (s2.restoreBlocks k i.blocks).windowWrite k i.dramMiB i.dram

/-- The slice operation at tick boundary n (R172 step 1, R173). -/
def State.sliceBoundary (s : State) (n : Nat) : State :=
  match s.sliceOp with
  | none => s
  | some o =>
    let own := s.rings.filter fun x => x.slice == o.slice
    let freeze := fun (b : Bool) => s.rings.map fun (x : RingRec) => if x.slice = o.slice then { x with frozen := b } else x
    if !o.restore then
      if o.started then s
      else
        let s1 := { s with rings := freeze true, sliceOp := some { o with started := true, tick := n, at' := s.ns } }.put
          (Reg.SLC_SLICE_STATE_MIG o.slice) 1
        own.foldl (fun s x => match s.ringOf x.ring with
          | some y => if y.type = 3 then s else s.stopTaken y
          | none => s) s1
    else
      let r : State × Nat := match o.img with
        | none => ({ s with rings := freeze false }, (own.filter fun (x : RingRec) => s.ringRuns x.ring && !x.stopping).length)
        | some i => (s.restoreImage o.slice o.alloc i, i.rings.length)
      (({ r.1 with sliceOp := none }.put (Reg.SLC_SLICE_STATE_MIG o.slice) 0).finish 0x61 .ok r.2).event 187

end Sys2Proof.Machine
end

