-- ==== Sys2Proof/Machine/Boot.lean ====
section
/-! DEFINITION. Resets, the boot sequence, signed images and configuration revisions (R106–R128, R632, R645, R653, R666, R674). -/

namespace Sys2Proof.Machine

/-! ### Reset (R115, R116) -/

/-- Addresses whose registers a module reset keeps (R116): the backup domain, `KPR.BOOT` and the cause, what OTP and the persistent
store hold. -/
def keptReg (a : Nat) : Bool :=
  (decide (0x50000 ≤ a) && decide (a < 0x60000)) || a == 0x10018 || a == 0x18 || (decide (0x30 ≤ a) && decide (a ≤ 0x38)) ||
  a == Reg.TMP_STATUS_ACTIVE.addr || a == Reg.TMP_LATCHSRC_SRC.addr ||
  ((List.range 7).any fun i => a == (Reg.TMP_RESP_CLASS i).addr) ||
  a == Reg.KEY_STATUS_LIFECYCLE.addr || a == Reg.KEY_SVN_FLOOR.addr || a == Reg.KEY_SIGNERS_REVOKED.addr ||
  a == Reg.KEY_JRNL_SEQ_SEQ.addr || (decide (0x141000 ≤ a) && decide (a < 0x145000)) ||
  a == Reg.PER_STATUS_MAC2.addr || (decide (0x160100 ≤ a) && decide (a < 0x160200)) ||
  (decide (0x110020 ≤ a) && decide (a < 0x11003C)) || (decide (0x111400 ≤ a) && decide (a < 0x111500) && a % 0x20 != 0) ||
  ((List.range 4).any fun k => a == (Reg.NRG_PO_BACKLOG_COUNT k).addr || a == (Reg.NRG_PO_EMITTED_COUNT k).addr || a == (Reg.NRG_PO_RESID_UNITS k).addr)

/-- Kept words of which a part takes its reset value: key slots are sealed and hold no stage; GAP, events and locks go. -/
def State.sealKept (s : State) : State :=
  let s1 := (List.range 1024).foldl (fun (s : State) k =>
    let s1 := if s.keySt k = keyEmpty then s else s.put (Reg.KEY_SLOT_STATE_STATE k) keySealed
    (s1.put (Reg.KEY_SLOT_STATE_STAGED k) 0).put (Reg.KEY_SLOT_STATE_VERIFIED k) 0) s
  let s2 := (((s1.put Reg.KEY_STATUS_STAGED 0).put Reg.KEY_STATUS_LOCKGRP 0).put Reg.KEY_STATUS_OP 0).put Reg.KEY_STATUS_USED 0
  let s3 := ((s2.put Reg.PER_STATUS_GAP 0).put Reg.PER_STATUS_FINAL 0).put Reg.PER_STATUS_HELD_FULL 0
  let s4 := (((s3.put Reg.TMP_STATUS_LOCKGRP 0).put Reg.TMP_STATUS_MASKED 0).put Reg.NRG_STATUS_SNAP_BUSY 0).put Reg.NRG_STATUS_VIGDATA 0
  ((s4.wr 0x110024 0).put Reg.PER_QUEUE_BYTES (min (queueBytes s4.journal.queue) 65535)).putFlag Reg.TMP_STATUS_LATCHED
    (s4.flag Reg.RTC_TAMPER_VALID)

/-- A write in the queue loses the command that waits for it. -/
def forgetReq : Immediate → Immediate
  | .config r _ => .config r none
  | .misc w _ => .misc w none
  | w => w

/-- The cage lines keep the levels that the transceivers drive (R88, R261). -/
def State.cageLines (s old : State) : State :=
  (List.range 8).foldl (fun (s : State) p =>
    ((s.putFlag (Reg.MACP_STAT_MOD_ABS p) (old.flag (Reg.MACP_STAT_MOD_ABS p))).putFlag (Reg.MACP_STAT_LOS p)
      (old.flag (Reg.MACP_STAT_LOS p))).putFlag (Reg.MACP_STAT_TX_FAULT p) (old.flag (Reg.MACP_STAT_TX_FAULT p))) s

/-- What a module reset keeps and loses (R116): persistent store, flash, the NRG SRAM, the backup domain stay; DRAM, rods, slots,
registers go. `GLB.STATUS.PEER` shows the level of the line (R124), 0x0502 lasts until a BOOT finds VBK at 1.9 V (R233), and the heartbeat latch until the keeper finds it (R448). -/
def State.wiped (s : State) : State :=
  let recs := s.aqe.recs.map fun (x : StoredRec) => if x.state = 0 then recFlag { x with state := 2 } 0 else x
  let rods := s.core.rods.map fun (d : RodState) => ({ history := d.history, locked := d.locked } : RodState)
  let cut := s.boot.trialCut || s.flag Reg.GLB_STATUS_REVTRIAL
  ({ pending := s.pending, outbox := s.outbox, freeCtr := s.freeCtr, time := s.time,
     regs := s.regs.filter (fun (p : Nat × Word) => keptReg p.1),
     journal := { s.journal with queue := s.journal.queue.map forgetReq },
     boot := { s.boot with trialCut := cut, pfw := false, detected := none, syncAt := 0, rev := none },
     pair := { heartbeatLatch := s.pair.heartbeatLatch },
     per := { ledger := s.per.ledger, keyLog := s.per.keyLog },
     ho := { notTaken := s.ho.notTaken },
     keys := { kids := s.keys.kids, stages := s.keys.stages, blobs := s.keys.blobs, retry := s.keys.retry, zero := s.keys.zero },
     aqe := { recs := recs, seq := s.aqe.seq }, core := { rods := rods },
     faults := s.faults.filter fun (f : ActiveFault) => f.record.code == 0x0502,
     nrg := s.nrg, rtc := s.rtc, bank := s.bank : State }.sealKept.put Reg.GLB_STATUS_PEER (s.get Reg.GLB_STATUS_PEER)).cageLines s

/-- The history of re-integrations that the persistent store holds shows again (R412). -/
def State.showReint (s : State) : State :=
  (List.range 3).foldl (fun (s : State) r => s.put (Reg.BEAM_ROD_STATE_REINT r) (min 3 (s.rod r).history.length)) s

/-- Entry to RESET by a source (R113, R115): CUST_HOLD falls, every injection ends (R699), pulses are cut (R96), R116 applies, the cause is recorded; a Power reset
clears the causes and the glitch count. -/
def State.moduleReset (s : State) (cause : Field) (power wdog : Bool) : State :=
  let old := s.st
  let s0 := (if power then s else s.dropCustody.endInjections 4 s.inj).journalAdd (.stateChange old stReset 0 s.ns)
  let s1 := { s0.cutPulses.wiped with boot := { s0.cutPulses.wiped.boot with power := power, wdog := wdog } }
  let s2 := if power then s1.wr Reg.GLB_RESET_CAUSE_GLITCH_CNT.addr 0 else s1
  ((((s2.put cause 1).put Reg.GLB_STATE_PREV old).put Reg.GLB_STATE_HEALTH (healthOf s2.faults)).put Reg.GLB_STATE_STATE stReset).showReint

/-- A reset request acts in every main state except RESET (R113); after detection the module always passes VIGIL or OFF (R82). -/
def State.mayReset (s : State) : Bool := decide (stBoot ≤ s.st) && s.boot.detected.isNone

/-- RST_N_RESET (R85, R115). -/
def rstNReset (s : State) : State := if s.mayReset then s.moduleReset Reg.GLB_RESET_CAUSE_PIN false false else s

def execRstNReset (s : State) : Host.Outcome State Fault Refusal := .next (rstNReset s)

/-- RST_N_GLITCH (R115): ignored and counted while the main domain is powered. -/
def rstNGlitch (s : State) : State := if s.mainAbsent then s else s.count Reg.GLB_RESET_CAUSE_GLITCH_CNT

def execRstNGlitch (s : State) : Host.Outcome State Fault Refusal := .next (rstNGlitch s)

/-- WATCHDOG_EXPIRY (R115). -/
def watchdogExpiry (s : State) : State := if s.mayReset then s.moduleReset Reg.GLB_RESET_CAUSE_WATCHDOG false true else s

def execWatchdogExpiry (s : State) : Host.Outcome State Fault Refusal := .next (watchdogExpiry s)

/-- LOCKSTEP_ERROR (R115). -/
def lockstepError (s : State) : State := if s.mayReset then s.moduleReset Reg.GLB_RESET_CAUSE_LOCKSTEP false true else s

def execLockstepError (s : State) : Host.Outcome State Fault Refusal := .next (lockstepError s)

/-- States in which a commanded reset is refused (R118). -/
def State.resetBarred (s : State) : Bool :=
  s.st == stActive || s.st == stSolo || (s.st == stService && s.flag Reg.GLB_STATUS_KEEPCUST)

/-- MODULE_RESET (R118). After detection the module passes VIGIL or OFF instead (R82). -/
def moduleResetCmd (q : Req) (s : State) : State :=
  s.command 0x20 q [(.priv, q.slice ≠ 0), (.state, s.resetBarred)] false fun s =>
    if s.mayReset then (s.complete q .ok 0 0).moduleReset Reg.GLB_RESET_CAUSE_COMMAND false false else s.complete q .ok 0 0

def execModuleReset (q : Req) (s : State) : Host.Outcome State Fault Refusal := .next (moduleResetCmd q s)

/-- RESET_CTRL_WRITE (R118, R124): without the key a write has no effect. -/
def resetCtrlWrite (data : Word) (s : State) : State :=
  if s.st = stBoot then s.reject 0 0x1C 3
  else if !s.ready || data.field 16 16 ≠ 0xA5C3 || data.field 0 1 = 0 then s
  else if s.resetBarred then s.reject 0 0x1C 3
  else if s.mayReset then s.moduleReset Reg.GLB_RESET_CAUSE_COMMAND false false
  else s

def execResetCtrlWrite (data : Word) (s : State) : Host.Outcome State Fault Refusal := .next (resetCtrlWrite data s)

/-- RESET_EXIT (R92, R109, R113): the straps are sampled; FAIL_STEP and FAIL_CODE of the last boot go to the journal, as CODE and DETAIL
of the entry (assumption 72), before they are overwritten. -/
def resetExit (pos slot : Nat) (s : State) : State :=
  if s.st ≠ stReset || !s.boot.vmain || s.boot.detected.isSome then s
  else
    let s1 := (s.put Reg.GLB_STRAPS_PAIR_POS (pos % 2)).put Reg.GLB_STRAPS_SLOT_ID (slot % 32)
    let s2 := (s1.note 1 (s1.get Reg.KPR_BOOT_FAIL_STEP) (s1.get Reg.KPR_BOOT_FAIL_CODE)).wr 0x10018 0
    (s2.setState stBoot 0).refreshRole

def execResetExit (pos slot : Nat) (s : State) : Host.Outcome State Fault Refusal := .next (resetExit pos slot s)

/-! ### A tamper in BOOT (R111, R653) -/

/-- BOOT_TAMPER (R111). -/
def bootTamper (src : Nat) (s : State) : State :=
  if s.st ≠ stBoot || src = 0 || 7 < src then s else s.tamperBoot src

def execBootTamper (source : Nat) (s : State) : Host.Outcome State Fault Refusal := .next (bootTamper source s)

/-! ### Measured boot and signed images (R107, R632) -/

/-- A measurement register as a number, byte 0 lowest. -/
def State.meas (s : State) (m : Nat) : Nat := (List.range 12).foldr (fun w n => s.get (Reg.KPR_MEAS_WORD m w) + 2 ^ 32 * n) 0

/-- The digest of a stage is extended into its register (R107). -/
def State.extend (s : State) (m digest : Nat) : State :=
  let v := Config.sha384 (bytesLe (s.meas m) 48 ++ bytesLe digest 48)
  (List.range 12).foldl (fun (s : State) w => s.put (Reg.KPR_MEAS_WORD m w) (v / 2 ^ (32 * w) % 2 ^ 32)) s

/-- An image is accepted (R632). -/
def State.imageAccepted (s : State) (i : FwImage) : Bool :=
  i.digestOk && decide (i.signer < 4) && (s.get Reg.KEY_SIGNERS_REVOKED >>> i.signer) % 2 == 0 && i.sigsOk &&
    decide (s.get Reg.KEY_SVN_FLOOR ≤ i.svn)

/-- The bank whose keeper image is accepted, the second one tried once (R108 step 5). -/
def State.goodBank (s : State) : Option (Nat × FwImage) :=
  let try' := fun (b : Nat) => match s.boot.banks[b]? with
    | some i => if i.kind = 1 && s.imageAccepted i then some (b, i) else none
    | none => none
  match try' s.boot.firstBank with
  | some x => some x
  | none => try' (1 - s.boot.firstBank)

/-! ### Boot steps 2 to 6 -/

/-- A step completes. -/
def State.stepDone (s : State) : State := s.put Reg.KPR_BOOT_STAGE (s.get Reg.KPR_BOOT_STAGE + 1)

/-- Boot self-tests pass. -/
def State.selfPass (s : State) (bits : Nat) : State := s.put Reg.KPR_SELFTEST_PASS (s.get Reg.KPR_SELFTEST_PASS ||| bits)

/-- A life-cycle move that a reset cut short is repeated (R648): the last life-cycle entry of the key journal is LC_PENDING. -/
def State.lifecycleResume (s : State) : State :=
  match (s.per.keyLog.filter fun w => w.getD 0 0 == 6 || w.getD 0 0 == 7).getLast? with
  | some w =>
    if w.getD 0 0 = 6 then
      let t := w.getD 1 0
      let s1 := (s.notSurviving t).foldl (fun (s : State) k =>
        let gen := s.get (Reg.KEY_SLOT_STATE_GEN k)
        if polDerived (s.keyPolicy k) then s.advanceGen k
        else (((s.dropStage k).dropBlob k gen).keyJournal 5 0 k gen 0xFFFF 0).emptySlot k) s
      s1.lifecycleDone t
    else s
  | none => s

/-- Step 1 (R90, R108): the LED test: RUN, CUSTODY, TIME, FAULT, FORCE and SERVICE (0 to 5) in each of their colours (0 green, 1 amber,
2 red, 3 blue) in turn. -/
def State.ledTest (s : State) : State :=
  [(0, 0), (1, 0), (2, 0), (2, 1), (2, 2), (3, 1), (3, 2), (4, 1), (5, 3)].foldl
    (fun (s : State) (x : Nat × Nat) => s.emit (.ledTest x.1 x.2 500)) s

/-- Step 2 (R653, R648): latched sources not handled yet; a verify that fails after the destruction ends BOOT, and the sources are
still to be handled. -/
def State.bootLatch (s : State) (r : BootRep) : State :=
  let srcs := s.get Reg.TMP_LATCHSRC_SRC &&& (127 - (s.boot.handled &&& 127))
  if !r.ok then (s.bootZero (s.groupsOf srcs 2)).bootFail 2 0 0x0103 0
  else
    let s1 := if srcs = 0 then s
      else
        let t := s.bootZero (s.groupsOf srcs 2)
        { t with boot := { t.boot with handled := t.boot.handled ||| srcs } }.keyJournal 8 (2 * s.get Reg.TMP_LATCHSRC_SRC) 0xFFFF 0 0xFFFF 0
    s1.lifecycleResume.stepDone

/-- Step 3 (R111): a source that is active stops the boot. -/
def State.bootLive (s : State) : State :=
  match (List.range 7).find? fun i => (s.get Reg.TMP_STATUS_ACTIVE >>> (i + 1)) % 2 == 1 with
  | some i => s.tamperBoot (i + 1)
  | none => s.stepDone

/-- Step 5 (R108, R632): the keeper image is loaded, verified and measured. -/
def State.bootFirmware (s : State) : State :=
  match s.goodBank with
  | none => s.bootFail 2 0 0x0101 5
  | some (b, i) =>
    let s1 := { s with boot := { s.boot with image := i } }
    let s2 := (((s1.put Reg.KPR_BOOT_BANK b).put Reg.KPR_FW_VERSION_PATCH i.patch).put Reg.KPR_SVN_SVN i.svn).put Reg.KEY_SVN_RUNNING i.svn
    ((s2.extend 1 i.digest).extend 2 (Config.sha384 (bytesLe i.hash 48 ++ bytesLe i.svn 2))).stepDone

/-- What an empty section leaves (R665). -/
def State.emptySection (s : State) (id : Nat) : State :=
  if id = 1 then { s with bank := none }
  else if id = 2 then { s with nrg := { s.nrg with vig := {} } }
  else if id = 3 then ((s.put Reg.GLB_CFG_ACTIVE_REV 0).put Reg.GLB_CFG_PENDING_REV 0).put Reg.GLB_CFG_PREVIOUS_REV 0
  else if id = 4 then
    let rods := s.core.rods.map fun (d : RodState) => { d with history := [], locked := false }
    ({ s with core := { s.core with rods := rods }, aqe := { s.aqe with seq := 0 }, boot := { s.boot with macHash := none } }.put
      Reg.PER_STATUS_MAC2 0).showReint
  else if id = 5 then { s with per := { s.per with ledger := [] } }
  else s

/-- A finding of a section read (R665, R667, R683). -/
def State.finding (s : State) (f : Nat × Nat × Nat × Nat) : State :=
  let (id, kind, k, gen) := f
  if kind = 1 then ((s.count Reg.PER_BADBANK_CRC).event 168).raiseAt 0x1601 0 id id
  else if kind = 2 then ((s.count Reg.PER_BADBANK_MAC).event 168).raiseAt 0x1602 2 id id
  else if kind = 3 then
    ((((s.emptySection id).put (Reg.PER_SECT_STATE_VALID0 id) 0).put (Reg.PER_SECT_STATE_VALID1 id) 0).event 168).raiseAt 0x1603 2 id id
  else if kind = 4 then ((((s.dropBlob k gen).count Reg.PER_BADBANK_CRC).event 168).raise1 0x1404 2 0)
  else s

/-- A signer change ends at the first boot of the new signer's image (R666). -/
def State.signerChange (s : State) : State :=
  if s.boot.macHash = some s.boot.image.hash then
    ({ s with boot := { s.boot with macHash := none } }.rewriteSections).put Reg.PER_STATUS_MAC2 0
  else s

/-- The tests of a step: each one that passed shows it (R126); one that failed ends BOOT with what has passed as DETAIL (R128). -/
def State.bootSelf (s : State) (r : BootRep) (tests : Nat) (next : State → State) : State :=
  let s1 := s.selfPass (if r.ok then tests else r.pass &&& tests)
  if r.ok then next s1 else s1.bootFail 2 0 0x0102 (s1.get Reg.KPR_SELFTEST_PASS)

/-- Step 6 (R108, R665, R666). -/
def State.bootTests (s : State) (r : BootRep) : State :=
  s.bootSelf r 0x1F8 fun s => ((r.finds.foldl State.finding s).signerChange).stepDone

/-! ### Configuration revisions (R121–R123) -/

/-- A revision that is stored and verifies. -/
def State.revOk (s : State) (n : Nat) : Option Revision := s.boot.revs.find? fun r => r.num == n && r.digestOk && r.sigOk

/-- The pending pointer is cleared, fault 0x0004 names the revision (R122, R123). -/
def State.rollback (s : State) (n : Nat) : State :=
  (((s.put Reg.GLB_CFG_PENDING_REV 0).queueWrite (.config [s.get Reg.GLB_CFG_ACTIVE_REV, 0, s.get Reg.GLB_CFG_PREVIOUS_REV] none)).event
    6).raise1 0x0004 1 n

/-- CONFIG_SELECT (R122, R123). -/
def State.configSelect (s : State) : State × Option Revision :=
  let p := s.get Reg.GLB_CFG_PENDING_REV
  let cut := s.boot.trialCut
  let s0 := { s with boot := { s.boot with trialCut := false } }
  match (if p ≠ 0 && !cut then s0.revOk p else none) with
  | some r => (s0.put Reg.GLB_STATUS_REVTRIAL 1, some r)
  | none =>
    let s1 := if p ≠ 0 then s0.rollback p else s0
    match s1.revOk (s1.get Reg.GLB_CFG_ACTIVE_REV) with
    | some r => (s1, some r)
    | none =>
      match s1.revOk (s1.get Reg.GLB_CFG_PREVIOUS_REV) with
      | some r => ((s1.event 6).raise1 0x0004 1 (s1.get Reg.GLB_CFG_ACTIVE_REV), some r)
      | none => ((s1.event 6).raise1 0x0005 2 0, none)

/-- The registers whose EN field enables a block (R53). -/
def enableRegs : List Nat :=
  [Reg.MAC_CTRL_EN, Reg.SWC_CTRL_EN, Reg.SVI_CTRL_EN, Reg.ROD_CTRL_EN, Reg.PUB_CTRL_EN, Reg.CLE_CTRL_EN, Reg.MOD_CTRL_EN, Reg.ADC_CTRL_EN,
    Reg.AQE_CTRL_EN, Reg.NRG_CTRL_EN, Reg.LCE_CTRL_EN, Reg.RCK_CTRL_EN].map Field.addr

/-- The bits of a register's word that configuration writes: its fields of a class with access RW. -/
def cfgMask (k : Nat) : List FieldSpec → Nat
  | [] => 0
  | f :: fs => cfgMask k fs ||| (if f.acc == .rw && f.cls != .none && 32 * k ≤ f.lo && f.lo < 32 * k + 32 then
      (2 ^ f.width - 1) * 2 ^ (f.lo - 32 * k) % 2 ^ 32 else if f.acc == .rw && f.cls != .none && k = 1 && f.lo < 32 && 32 < f.lo + f.width then
      2 ^ (f.lo + f.width - 32) - 1 else 0)

/-- The address of the active view of a shadow address (R46). -/
def activeAddr (a : Nat) : Nat := if a / 0x10000 = 6 then a + 0x800 else a + 0x8000

/-- A write of the keeper to the backup domain crosses like every other (R213); it waits for a place in the queue. -/
def State.keeperRtc (s : State) (w : RtcWrite) : State := (if 4 ≤ s.rtc.queue.length then rtcWriteCross 1 s else s).rtcQueue w

/-- A register takes the value of a revision: T-class fields in the shadow and in the active view; one of the backup domain crosses
(R213), and a source whose flag is 1 signals the vector that MSIX_EN gives it (R62, R232). -/
def State.configReg (s : State) (x : Nat × Nat) : State :=
  match findSpec (x.1 % 0x10000) (blockSpecs (x.1 / 0x10000)) with
  | none => s
  | some (r, k) =>
    let m := cfgMask k r.fields
    if x.1 / 0x10000 = 5 then
      (if m = 0 then s else s.keeperRtc { off := x.1 % 0x10000, data := ((s.rd x.1).toNat &&& (2 ^ 32 - 1 - m)) ||| (x.2 &&& m) })
    else
    let i := (x.1 - 0x191000) / 4
    let signals := fun (t : State) =>
      if 0x191000 ≤ x.1 && x.1 < 0x192700 && !s.flag (Reg.EVT_SRC_MSIX_EN i) && t.flag (Reg.EVT_SRC_MSIX_EN i) && t.srcFlag i then
        t.signal (t.get (Reg.EVT_SRC_VECTOR i)) else t
    signals <|
    let new := fun (a : Nat) => BitVec.ofNat 32 (((s.rd a).toNat &&& (2 ^ 32 - 1 - m)) ||| (x.2 &&& m))
    let s1 := s.wr x.1 (new x.1)
    if r.isT then s1.wr (activeAddr x.1) (new (activeAddr x.1)) else s1

/-- CLE cycles per tick by RATE (R485), the bytes of a tick image (R312), and the executions per tick (R579). -/
def cleBudget (rate : Nat) : Nat := if rate = 0 then 123420 else if rate = 1 then 102170 else if rate = 2 then 35763 else 31336
def imgSize (rate : Nat) : Nat := if rate < 2 then 73800 else 53320
def lceCap (rate : Nat) : Nat := if rate = 3 then 118 else 128

/-- Registers that show a value at `SVI.CFG.RATE` (R312, R331, R485, R505, R579). -/
def State.rateFollows (s : State) : State :=
  let r := s.get Reg.SVI_CFG_RATE
  let s1 := ((s.put Reg.ROD_ENG_LIMIT_CYCLES (admissionLimit r)).put Reg.SVI_IMG_SIZE_BYTES (imgSize r)).put Reg.CLE_BUDGET_B (cleBudget r)
  ((s1.put Reg.MOD_LATENCY_FILL_US (fillUs r)).put Reg.MOD_LATENCY_LAT_US (latUs r)).put Reg.LCE_STATUS_CAP (lceCap r)

/-- The first condition of SLOT_LOAD that an image to be restored fails (R108 step 8, R330); a key is not unsealed yet. -/
def State.restoreFails (s : State) (x : RestoreImage) : Option Status :=
  firstFail [(.version, x.img.version ≠ 1), (.param, decide (1023 < x.slot) || !imageOk x.img x.len),
    (.priv, !s.isProt x.slice || !s.keyOwn x.key x.slice || !s.keyHasUse x.key 3), (.state, s.slotState x.slot ≠ slEmpty),
    (.nores, s.overQuota (Reg.SLC_SLICE_QA_SLOTS x.slice) 1 || s.memoryShort x.img), (.integrity, !x.img.digestOk || !x.img.sigOk)]

/-- SLOT_RESTORE (R108 step 8): an image enters LOADED, or fault 0x0108. -/
def State.restoreSlot (s : State) (x : RestoreImage) : State :=
  match s.restoreFails x with
  | some st => s.raiseAt 0x0108 2 x.slot (x.slot % 1024 + st.code * 65536)
  | none =>
    let s1 := s.loadSlot x.slice x.slot x.img
    match s1.findSlot x.slot with
    | some y => s1.putSlot { y with selected := x.group }
    | none => s1

/-- Slices that become valid with PROT and MINT mint their tokens (R176). -/
def State.mintAll (s : State) : State :=
  (s.validSlices.filter fun k => s.isProt k && (s.rd (0x31000 + 0x40 * k)).field 28 1 == 1).foldl
    (fun (s : State) k => s.mint (s.get (Reg.SLC_SLICE_DSID_DSID k))) s

/-- A revision takes effect, but for the enables (R108 step 8, R492). -/
def State.useRevision (s : State) (r : Option Revision) : State :=
  match r with
  | none => { s with boot := { s.boot with rev := none } }
  | some r =>
    let s1 := (r.regs.filter fun x => !enableRegs.contains x.1).foldl State.configReg { s with boot := { s.boot with rev := some r } }
    let s2 := r.images.foldl State.restoreSlot s1.rateFollows
    let s3 := match r.cle with
      | some p => { s2.loadProgram p with cle := { (s2.loadProgram p).cle with autostart := p.flags % 2 == 1 } }
      | none => s2
    s3.mintAll

/-- The header of a function image as bytes (R327). -/
def headerBytes (i : FnImage) : List Nat :=
  bytesLe 0x4E524649 4 ++ bytesLe i.version 2 ++ bytesLe i.hdrLen 2 ++ bytesLe i.length 4 ++ bytesLe i.rate 1 ++ bytesLe i.ngroups 1 ++
  bytesLe i.engines 2 ++ bytesLe i.stateBytes 4 ++ bytesLe i.sharedBytes 4 ++ bytesLe i.outLen 1 ++ bytesLe i.flags 1 ++
  bytesLe i.sections.length 2 ++ bytesLe i.tool 4 ++
  ((List.range 12).flatMap fun e => bytesLe (i.wcet.getD e 0) 4 ++ bytesLe (i.priv.getD e 0) 4) ++
  bytesLe i.digest 48 ++ i.sig.take 96 ++ List.replicate (96 - i.sig.length) 0 ++ List.replicate 48 0

/-- Stages 6 and 7 of R107: the headers of the restored images one after the other; the life-cycle state and the debug-port state, a
byte each (assumption 72). -/
def State.headersDigest (rev : Option Revision) : Nat :=
  Config.sha384 ((rev.elim [] Revision.images).flatMap fun x => headerBytes x.img)
def State.lifeDigest (s : State) : Nat := Config.sha384 [s.get Reg.KEY_STATUS_LIFECYCLE, s.get Reg.KEY_STATUS_DEBUG]

/-- Step 8 (R108, R107): the revision, the restored images and the life-cycle state are measured. Factory revision 0 is no stored
revision: its digest is taken as 0 (assumption 72). -/
def State.bootConfig (s : State) : State :=
  let (s1, rev) := s.configSelect
  let s2 := (s1.useRevision rev).extend 5 (rev.elim 0 Revision.digest)
  ((s2.extend 6 (State.headersDigest rev)).extend 7 s2.lifeDigest).stepDone

/-! ### Step 9: keys and energy (R119, R574, R636, R645, R653, R674) -/

/-- GEN of the last COMMIT entry of a slot (R645). -/
def State.commitGen (s : State) (k : Nat) : Option Nat :=
  ((s.per.keyLog.filter fun w => w.getD 0 0 == 3 && w.getD 2 0 == k).getLast?).map fun w => w.getD 3 0

/-- The generation that stands: that of the last COMMIT, or a later one of a derived slot whose GEN a response advanced. -/
def State.standingGen (s : State) (k : Nat) : Option Nat :=
  (s.commitGen k).map fun g =>
    let now := s.get (Reg.KEY_SLOT_STATE_GEN k)
    if g < now && s.keySt k ≠ keyEmpty && polDerived (s.keyPolicy k) then now else g

/-- A blob opens under the running firmware (R635, R636): MIN_SVN holds, the unwrap passes and KEYID matches. -/
def State.unsealOk (s : State) (bad : List Nat) (b : KeyBlob) : Bool :=
  !bad.contains b.slot && (!polSigner b.policy || decide (useMinSvn b.uses ≤ s.get Reg.KPR_SVN_SVN)) &&
    (!polDerived b.policy || s.keyId b.slot b.gen b.policy b.uses [] == b.kid)

/-- KEY_UNSEAL of a slot (R636, R645): the standing blob is unsealed, every other blob of the slot destroyed. -/
def State.unseal (s : State) (bad : List Nat) (k : Nat) : State :=
  let others := fun (g : Option Nat) => s.keys.blobs.filter fun b => b.slot == k && g != some b.gen
  match s.standingGen k with
  | none => (others none).foldl (fun (s : State) b => s.destroyBlob k b.gen 5) s
  | some g =>
    let wiped := fun (s : State) => (others (some g)).foldl (fun (s : State) b => s.destroyBlob k b.gen 5) s
    match s.keys.blobs.find? fun b => b.slot == k && b.gen == g with
    | none =>
      if s.keySt k = keyEmpty then wiped s
      else wiped (((s.put (Reg.KEY_SLOT_STATE_STATE k) keyUnusable).event 159).raiseAt 0x1401 2 k k)
    | some b =>
      let s1 := (s.wr (0x141000 + 0x10 * k) (BitVec.ofNat 32 (b.policy / 16 * 16))).wr (0x141004 + 0x10 * k)
        (BitVec.ofNat 32 (useMinSvn b.uses * 2 ^ 16 + useMask b.uses))
      let s2 := { s1 with keys := { s1.keys with kids := setKey Prod.fst (k, b.kid) s1.keys.kids } }
      let s3 := (s2.put (Reg.KEY_SLOT_STATE_GEN k) g).put (Reg.KEY_SLOT_KID_LO_BYTES k) (b.kid % 2 ^ 32)
      let ok := s3.unsealOk bad b
      let s4 := s3.put (Reg.KEY_SLOT_STATE_STATE k) (if ok then keyReady else keyUnusable)
      wiped (if ok then s4 else (s4.event 159).raiseAt 0x1401 2 k k)

/-- Quotas and the count of used slots after the unsealing. -/
def State.countKeys (s : State) : State :=
  let ks := (List.range 1024).filter fun k => s.keySt k != keyEmpty
  ks.foldl (fun (s : State) k => s.keyTake k (s.get (Reg.KEY_SLOT_POLICY_OWNER k))) (s.put Reg.KEY_STATUS_USED ks.length)

/-- The keys of step 9: stages are gone (R642), every slot is unsealed, groups classed LOCK for a latched source are locked. -/
def State.bootKeys (s : State) (r : BootRep) : State :=
  let s1 := s.keys.stages.foldl (fun (s : State) g => s.discardStage g.slot 3) s
  let s2 := (List.range 1024).foldl (fun (s : State) k => s.unseal r.bad k) s1
  s2.countKeys.lockGroups (s2.groupsOf (s2.get Reg.TMP_LATCHSRC_SRC) 1)

/-- A calendar second as TAI nanoseconds (R223). -/
def State.calNs (s : State) (secs : Nat) : Nat :=
  ((epochSecs + secs : Nat) - s.getS Reg.RTC_UTC_OFFSET_ZONE * 900 - s.get Reg.RTC_STATUS_DST * 3600 +
    s.get Reg.RTC_UTC_OFFSET_OFFSET : Int).toNat * 1000000000

/-- The unaccounted flow is handed over (R574); while STATUS.UFLOW is set it is journaled only. -/
def State.handFlow (s : State) : State :=
  match s.nrg.vig.flow with
  | none => s
  | some (a, e, pk, c) =>
    let s0 := { s with nrg := { s.nrg with vig := { s.nrg.vig with flow := none, calm := 0 } } }
    if s0.flag Reg.NRG_STATUS_UFLOW then s0.noteOpen 17
    else
      let s1 := (s0.put Reg.NRG_UFLOW_START_NS (s0.calNs a)).put Reg.NRG_UFLOW_END_NS (e.elim 0 s0.calNs)
      let s2 := (s1.put Reg.NRG_UFLOW_PEAK_CH c).put Reg.NRG_UFLOW_PEAK_MA (min pk (2 ^ 20 - 1))
      (((s2.put Reg.NRG_STATUS_UFLOW 1).event 128).raise1 0x1101 1 (c % 8 + min pk (2 ^ 24 - 1) * 256))

/-- VIGIL_HANDOVER (R113, R574). -/
def State.vigilHand (s : State) : State :=
  if !s.boot.vigilRan then s
  else
    let lost := s.boot.vigilLost
    let s1 := s.nrg.vig.chans.foldl (fun (s : State) x =>
      ((s.put (Reg.NRG_VIG_SECS_SECS x.chan) x.secs).put (Reg.NRG_VIG_AHP_UAH x.chan) x.ahp).put (Reg.NRG_VIG_AHN_UAH x.chan) x.ahn) s
    let s2 := (({ s1 with boot := { s1.boot with vigilRan := false, vigilLost := 0 } }.put Reg.NRG_STATUS_VIGDATA 1).event 129).handFlow
    if lost = 0 then s2.clearFault 0x1105 0 else s2.raise1 0x1105 1 lost

/-- Milliseconds between the capture of a bank and the power failure, at most 10 (R674). -/
def State.gapMs (s : State) (b : Bank) : Nat :=
  let last := s.journal.log.foldl (fun (m : Option Nat) x => match x.2.2 with
    | .power _ t _ => if b.at' < t then some t else m
    | _ => m) none
  match last with
  | some t => min 10 ((t - b.at' + 999999) / 1000000)
  | none => 10

/-- The energy state at restart (R119, R674). -/
def State.bootEnergy (s : State) : State :=
  let held := s.boot.nrgHeld
  let s1 := if held then s
    else match s.bank with
      | none => s
      | some b =>
        let t := s.restoreBank
        if b.final then t.put Reg.PER_STATUS_FINAL 1
        else
          let g := t.gapMs b
          (((t.put Reg.PER_STATUS_GAP 1).put Reg.PER_GAP_MS_MS g).event 169).raise1 0x1604 1 g
  let s2 := { s1 with boot := { s1.boot with nrgHeld := true } }.vigilHand
  if s2.boot.power then s2 else s2.ledgerCommit false false (s2.get Reg.PER_CTIME_LAST) true

/-- Step 9. A scrapped module derives no key (R648). -/
def State.bootSecrets (s : State) (r : BootRep) : State :=
  if !r.ok || s.get Reg.KEY_STATUS_LIFECYCLE = 4 then s.bootFail 2 0 0x0102 (s.get Reg.KPR_SELFTEST_PASS)
  else ((s.bootKeys r).bootEnergy).stepDone

/-! ### Step 10: SYNC (R30, R108, R223, R228, R233) -/

/-- Module time starts from one calendar reading (R223). -/
def State.seedTime (s : State) : State :=
  let ns := s.calTai * 1000000000 + s.get Reg.RTC_CAL_SUB_SUBSEC * 1000000000 / 32768
  let t := ns * nsUnit % timeTop
  let s1 := { s with time := t, timeRun := true, tim := { s.tim with history := [(t, s.tim.incr)] } }.setClass clsSeeded
  if s1.flag Reg.RTC_STATUS_OSF then (s1.put Reg.TIM_STATUS_UNTRUSTED 1).raise1 0x0406 1 0 else s1

/-- The tick generator starts (R20, R30): settings of the revision, the first tick sampled after now, of which the first image is formed, the first boundary after now. -/
def State.startTicks (s : State) : State :=
  let f := rateHz (s.get Reg.SVI_CFG_RATE)
  let rho := s.get Reg.SVI_CFG_REL_OFFSET
  { s with tg := { running := true, f := f, rho := rho, next := firstTickFrom (s.time + 1 - rho * 1000 * nsUnit) f - 1,
                   sample := firstTickFrom (s.time + 1) f, firstImage := firstTickFrom (s.time + 1) f } }

/-- What follows an EN field that has become 1. -/
def State.enabled (s : State) (a : Nat) : State :=
  if a = Reg.SVI_CTRL_EN.addr then { s with svi := { s.svi with enablePending := true } }
  else if a = Reg.ROD_CTRL_EN.addr then { s with core := { s.core with enableRods := true } }
  else if a = Reg.MOD_CTRL_EN.addr then s.modEnabled
  else s

/-- The blocks that the revision enables. -/
def State.enableBlocks (s : State) : State :=
  (s.boot.rev.elim [] Revision.regs).foldl (fun (s : State) x =>
    if enableRegs.contains x.1 then
      let t := s.configReg x
      if (t.rd x.1).field 0 1 = 1 then t.enabled x.1 else t
    else s) s

/-- What the backup domain reports at step 10 (R228, R231, R233, R661): VBK_LOW is this measurement, 0x0502 lasts up to 1.9 V. -/
def State.bootBackup (s : State) (vbk : Nat) : State :=
  let s1 := { s with rtc := { s.rtc with pwrSrc := 0, pwrDue := 0 } }.put Reg.RTC_STATUS_PWRON 0
  let s2 := if s1.flag Reg.RTC_STATUS_OSF then s1.raise1 0x0501 1 0 else s1
  let m := s2.putFlag Reg.RTC_STATUS_VBK_LOW (decide (vbk < 1800))
  let s3 := if vbk < 1800 then m.raise1 0x0502 1 vbk else if 1900 ≤ vbk then m.clearFault 0x0502 0 else m
  let lost := s3.rtc.pwrLost
  let s4 := if lost = 0 then s3 else { s3 with rtc := { s3.rtc with pwrLost := 0 } }.raise1 0x0504 0 lost
  let l := s4.get Reg.TMP_LATCHSRC_SRC
  if l = 0 then s4 else s4.raise1 0x1502 1 (2 * l)

/-- Step 10 (R108): time, ticks, blocks, BOOT_DONE, SYNC. -/
def State.bootLast (s : State) (r : BootRep) : State :=
  let s1 := (s.seedTime.startTicks.enableBlocks).bootBackup r.vbk
  let s2 := if s1.boot.wdog then (s1.event 11).raise1 0x0105 0 ((s1.rd 0x18).field 0 6) else s1
  heartbeatLatchFound (((s2.stepDone.event 2).put Reg.GLB_BOOT_TIME_TO_SYNC (min r.ms 65535)).enterSync 0)

/-- The digest of a stage's microcode (R107). -/
def State.microDigest (s : State) (kind : Nat) : Nat := ((s.boot.micro.find? fun i => i.kind == kind).map FwImage.digest).getD 0

/-- BOOT_STEP_COMPLETE (R108): the step after the last one completed. -/
def bootStepComplete (r : BootRep) (s : State) : State :=
  if s.st ≠ stBoot then s
  else
    let step := s.get Reg.KPR_BOOT_STAGE + 1
    if step = 1 then s.ledTest.stepDone
    else if step = 2 then s.bootLatch r
    else if step = 3 then s.bootLive
    else if step = 4 then s.bootSelf r 7 fun s => (s.extend 0 r.digest).stepDone
    else if step = 5 then s.bootFirmware
    else if step = 6 then s.bootTests r
    else if step = 7 then
      if r.ok && s.boot.micro.all s.imageAccepted then ((s.extend 3 (s.microDigest 3)).extend 4 (s.microDigest 4)).stepDone
      else s.bootFail 2 0 0x0101 7
    else if step = 8 then s.bootConfig
    else if step = 9 then s.bootSecrets r
    else s.bootLast r

def execBootStepComplete (r : BootRep) (s : State) : Host.Outcome State Fault Refusal := .next (bootStepComplete r s)

/-! ### CFG_STAGE, CFG_ACTIVATE, CFG_CANCEL, FW_STAGE (R121, R632, R666) -/

/-- The use of a key for configuration signing (R638). -/
def useConfig : Nat := 4

/-- CFG_STAGE (R121): a stored number or a ninth revision completes with NORES. -/
def cfgStage (q : Req) (rev : Revision) (s : State) : State :=
  let own := s.keyOwn rev.keySlot 0 && s.keyHasUse rev.keySlot useConfig
  let nores := (s.boot.revs.any fun r => r.num == rev.num) || decide (8 ≤ s.boot.revs.length)
  s.command 0x10 q [(.param, rev.num == 0), (.priv, q.slice ≠ 0 || !own), (.nores, nores),
      (.integrity, !rev.digestOk || !rev.sigOk || !s.keyUsable rev.keySlot 0 useConfig)] false fun s =>
    { s with boot := { s.boot with revs := s.boot.revs ++ [rev] } }.complete q .ok 0 0

def execCfgStage (q : Req) (rev : Revision) (s : State) : Host.Outcome State Fault Refusal := .next (cfgStage q rev s)

/-- The pointers as they stand once the writes that wait are durable. -/
def State.pointers (s : State) : List Nat :=
  s.journal.queue.foldl (fun (l : List Nat) w => match w with
    | .config r _ => r
    | _ => l) [s.get Reg.GLB_CFG_ACTIVE_REV, s.get Reg.GLB_CFG_PENDING_REV, s.get Reg.GLB_CFG_PREVIOUS_REV]

/-- CFG_ACTIVATE (R121): the pending pointer; 0x0004 clears. -/
def cfgActivate (q : Req) (num : Nat) (s : State) : State :=
  s.command 0x11 q [(.param, !s.boot.revs.any fun r => r.num == num), (.priv, q.slice ≠ 0)] false fun s =>
    let p := s.pointers
    (s.queueWrite (.config [p.getD 0 0, num, p.getD 2 0] (some q))).clearCode 0x0004

def execCfgActivate (q : Req) (num : Nat) (s : State) : Host.Outcome State Fault Refusal := .next (cfgActivate q num s)

/-- CFG_CANCEL (R121): a stored revision is removed; a pointer that still names it is handled at the next boot (R122). -/
def cfgCancel (q : Req) (num : Nat) (s : State) : State :=
  s.command 0x12 q [(.param, !s.boot.revs.any fun r => r.num == num), (.priv, q.slice ≠ 0)] false fun s =>
    { s with boot := { s.boot with revs := s.boot.revs.filter fun r => r.num ≠ num } }.complete q .ok 0 0

def execCfgCancel (q : Req) (num : Nat) (s : State) : Host.Outcome State Fault Refusal := .next (cfgCancel q num s)

/-- An image enters flash: a keeper image the bank that does not run, microcode in place of that stage's. -/
def State.storeImage (s : State) (i : FwImage) : State :=
  if i.kind = 1 then
    let b := 1 - min 1 (s.get Reg.KPR_BOOT_BANK)
    { s with boot := { s.boot with banks := s.boot.banks.set b i, firstBank := b } }
  else { s with boot := { s.boot with micro := setKey FwImage.kind i s.boot.micro } }

/-- FW_STAGE (R632, R666): the checks of R632; a keeper image of another signer first writes a signer-change record. -/
def fwStage (q : Req) (i : FwImage) (s : State) : State :=
  s.command 0x13 q [(.param, !(i.kind == 1 || i.kind == 3 || i.kind == 4)), (.priv, q.slice ≠ 0), (.integrity, !s.imageAccepted i)] false fun s =>
    let s1 := s.storeImage i
    if i.kind = 1 && i.hash ≠ s.boot.image.hash then
      { s1 with boot := { s1.boot with macHash := some i.hash } }.queueWrite (.misc 2 (some q))
    else (s1.event 9).complete q .ok 0 0

def execFwStage (q : Req) (img : FwImage) (s : State) : Host.Outcome State Fault Refusal := .next (fwStage q img s)

end Sys2Proof.Machine
end

