-- ==== Sys2Proof/Machine/View.lean ====
section
/-! DEFINITION. What a read of a register shows (R46, R59, R65, R138): stored words, and the fields that are computed. -/

namespace Sys2Proof.Machine

/-- Whether a block is enabled (R53): by its enable field, or by the condition of its chapter. -/
def State.blockEnabled (s : State) (blk : Nat) : Bool :=
  if blk = 4 then s.timeRun
  else if blk = 5 then true
  else if blk = 6 then s.flag Reg.MAC_CTRL_EN
  else if blk = 7 then s.flag Reg.SWC_CTRL_EN
  else if blk = 8 then s.flag Reg.SVI_CTRL_EN
  else if blk = 9 || blk = 10 then s.flag Reg.ROD_CTRL_EN
  else if blk = 12 then s.flag Reg.PUB_CTRL_EN
  else if blk = 13 then s.flag Reg.CLE_CTRL_EN
  else if blk = 14 then s.flag Reg.MOD_CTRL_EN
  else if blk = 15 then s.flag Reg.ADC_CTRL_EN
  else if blk = 16 then s.flag Reg.AQE_CTRL_EN
  else if blk = 17 then s.flag Reg.NRG_CTRL_EN
  else if blk = 18 then s.flag Reg.LCE_CTRL_EN
  else if blk = 19 then s.flag Reg.RCK_CTRL_EN
  else if blk = 22 then s.ready || (s.st == stBoot && decide (5 ≤ s.get Reg.KPR_BOOT_STAGE))
  else if blk ≤ 25 then s.ready
  else false

/-- The highest class of a block's active faults (R59). -/
def State.blockClass (s : State) (blk : Nat) : Nat :=
  ((s.faults.filter fun f => f.record.code / 256 == blk).map fun f => f.record.cls).foldl max 0

/-- Whether a commit of a block is pending (R56). -/
def State.blockPending (s : State) (blk : Nat) : Bool := s.commits.any fun c => c.block == blk

/-- Whether a block works through a command that takes time (R59). -/
def State.blockBusy (s : State) (blk : Nat) : Bool :=
  if blk = 3 then s.sliceOp.isSome
  else if blk = 15 then s.flag Reg.ADC_STATUS_BUSY
  else if blk = 17 then s.flag Reg.NRG_STATUS_SNAP_BUSY
  else if blk = 19 then s.flag Reg.RCK_STATUS_SOLVING
  else if blk = 20 then decide (s.get Reg.KEY_STATUS_OP ≠ 0)
  else if blk = 22 then decide (s.ns < s.per.busyUntil)
  else false

/-- BLOCK_STATUS (R59). -/
def State.blockStatus (s : State) (blk : Nat) : Nat :=
  let c := s.blockClass blk
  let bit := fun (b : Bool) (k : Nat) => if b then 2 ^ k else 0
  c * 32 + bit (decide (1 ≤ c)) 4 + bit ((s.rd (blk * 0x10000 + 0xC)).field 31 1 == 1) 3 + bit (s.blockPending blk) 2 +
    bit (s.blockBusy blk) 1 + bit (s.blockEnabled blk) 0

/-- The lowest source whose flag is set with ALERT_EN (R64). -/
def State.alertSource (s : State) : Option Nat :=
  (List.range 1472).find? fun i => s.srcFlag i && s.flag (Reg.EVT_SRC_ALERT_EN i)

/-- Whether ALERT_N is asserted (R64). -/
def State.alerted (s : State) : Bool :=
  s.ready && (s.alertSource.isSome || s.faults.any fun f => decide (s.get Reg.EVT_CTRL_ALERT_MIN_CLASS ≤ f.record.cls))

/-- The code of the highest-class active fault, the first raised among equals; 0 if none (R65). -/
def State.alertCode (s : State) : Nat :=
  (s.faults.foldl (fun (b : Nat × Nat) f => if b.1 < f.record.cls then (f.record.cls, f.record.code) else b) (0, 0)).2

/-- ALERT_STATE (R65). -/
def State.alertState (s : State) : Nat :=
  if s.alerted then 2 ^ 31 + (s.alertSource.getD 0x7FF) * 65536 + s.alertCode else s.alertCode

/-- A doorbell page (R138, R165): ring indices, event flags, mailbox registers. -/
def State.pageRead (s : State) (slice off : Nat) : Word :=
  let ring := s.localRing slice (off % 256 / 4)
  if off < 0x100 then ring.elim 0 fun x => s.rd (0x25000 + 8 * x.ring)
  else if off < 0x200 then ring.elim 0 fun x => BitVec.ofNat 32 (s.get (srcField (192 + x.ring)))
  else if off < 0x300 then s.rd (0x200000 + 0x1000 * slice + off)
  else 0

/-- Configuration space as a read shows it: Bus Master Enable and PASID Enable as `HIF.LINK` shows them, the link, the Device Serial
Number (R129, R132). -/
def State.pciRead (s : State) (off : Nat) : Word :=
  let w := s.rd (0x500000 + off)
  if off = 0x04 then w.setField 2 1 (s.get Reg.HIF_LINK_BME)
  else if off = 0x15C then w.setField 16 1 (s.get Reg.HIF_LINK_PASID_EN)
  else if off = 0x80 then (w.setField 16 4 (s.get Reg.HIF_LINK_SPEED)).setField 20 6 (s.get Reg.HIF_LINK_WIDTH)
  else if off = 0x14C then BitVec.ofNat 32 Config.serialNumber
  else if off = 0x150 then BitVec.ofNat 32 (Config.serialNumber / 2 ^ 32)
  else w

/-- TIM.STATUS (R209): LOCKSRC shows the servo's source, PPS_IN_OK an edge accepted in the last 1.1 s, HOLD_SECS the seconds since
entry to HOLDOVER while the class is HOLDOVER or FREE_RUN. -/
def State.timStatus (s : State) : Word :=
  let c := s.get Reg.TIM_STATUS_CLASS
  let held := if c = clsHoldover || c = clsFreeRun then min ((s.time - s.tim.holdStart) / (1000000000 * nsUnit)) 65535 else 0
  let ok := s.tim.ppsSeen && decide (s.time < s.tim.lastPps + 1100000000 * nsUnit)
  (((s.rd Reg.TIM_STATUS_CLASS.addr).setField 16 16 held).setField 7 1 (if ok then 1 else 0)).setField 4 1 (if s.ppsMode then 1 else 0)

/-- IDX_ID, IDX_INFO and IDX_T0 of the stored record that IDX_SEL selects, 0 = newest (R553). -/
def State.indexWord (s : State) (off : Nat) : Nat :=
  match s.aqe.recs[s.get Reg.AQE_IDX_SEL_ORD]? with
  | none => 0
  | some r =>
    if off = 0xC4 then r.id
    else if off = 0xC8 then r.flags * 2 ^ 24 + (if r.keep then 3 else r.state) * 2 ^ 16 + r.type
    else if off = 0xD0 then r.t0
    else if off = 0xD4 then r.t0 / 2 ^ 32
    else 0

/-- Entries of a rod into RESETTING within the window of R412. -/
def State.reintCount (s : State) (r : Nat) : Nat :=
  min 3 ((s.rod r).history.filter fun t => decide (s.ns < t + 86400000000000)).length

/-- The word that a read of an address shows. -/
def State.view (s : State) (a : Nat) : Word :=
  let blk := a / 0x10000
  let off := a % 0x10000
  if 0x200000 ≤ a then
    if a < 0x300000 then s.pageRead ((a - 0x200000) / 0x1000) (a % 0x1000)
    else if 0x500000 ≤ a then s.pciRead (a - 0x500000) else s.rd a
  else if off = 4 then if blk ≤ 25 then BitVec.ofNat 32 (s.blockStatus blk) else 0
  else if off = 8 then if s.blockPending blk then 1 else 0
  else if blk = 25 && 0x1000 ≤ off && off < 0x2700 then
    let i := (off - 0x1000) / 4
    (s.rd a).setField 13 1 (s.get (srcField i))
  else if blk = 25 && 0x3000 ≤ off && off < 0x30B8 then
    let k := (off - 0x3000) / 4
    BitVec.ofNat 32 ((List.range 32).map fun j => s.get (srcField (32 * k + j)) * 2 ^ j).sum
  else if a = Reg.EVT_ALERT_STATE_ASSERTED.addr then BitVec.ofNat 32 s.alertState
  else if a = Reg.TIM_CTRL_RUN.addr then (s.rd a).setField 0 1 (if s.timeRun then 1 else 0)
  else if a = Reg.TIM_STATUS_CLASS.addr then s.timStatus
  else if a = 0x40020 then BitVec.ofNat 32 (s.ns % 1000000000)
  else if a = 0x40024 then BitVec.ofNat 32 (s.ns / 1000000000)
  else if a = 0x40028 then BitVec.ofNat 32 (s.ns / 1000000000 / 2 ^ 32 % 2 ^ 16)
  else if a = Reg.PER_STATUS_BUSY.addr then (s.rd a).setField 0 1 (if s.blockBusy 22 then 1 else 0)
  else if blk = 20 && 0x210 ≤ off && off < 0x240 then
    BitVec.ofNat 32 ((findKey Prod.fst (s.get Reg.KEY_KID_SEL_SLOT) s.keys.kids).elim 0 Prod.snd >>> (8 * (off - 0x210)))
  else if blk = 20 && 0x1000 ≤ off && off < 0x5000 && off % 16 = 8 then
    let k := (off - 0x1000) / 16
    (s.rd a).setField 3 1 (if s.keyLocked k && s.keySt k ≠ keyEmpty then 1 else 0)
  else if blk = 24 && 0x100 ≤ off && off < 0x200 && off % 0x20 = 0x10 then
    match s.inj.find? fun i => i.id == (off - 0x100) / 0x20 && i.active with
    | some i => BitVec.ofNat 32 ((i.endsAt - s.ns + 999999) / 1000000)
    | none => 0
  else if blk = 6 && 0x1000 ≤ off && off < 0xD000 && (⟨a, 0, 1⟩ : Field).addr = (Reg.MACP_STAT_PAUSED (off / 0x1000 - 1)).addr then
    (s.rd a).setField 15 1 (if s.macs.paused.any fun x => x.1 / 16 == off / 0x1000 - 1 && decide (s.ns < x.2) then 1 else 0)
  else if blk = 17 && 0x400 ≤ off && off < 0xC00 && off % 0x20 = 0x1C then
    let h := (off - 0x400) / 0x20
    (s.rd a).setField 1 1 (if s.heatStale h then 1 else 0)
  else if a = Reg.SVI_STATUS_ALIGN_FAULT.addr then
    (s.rd a).setField Reg.SVI_STATUS_ALIGN_FAULT.lo 1 (if s.anyActive 0x0804 then 1 else 0)
  else if a = Reg.PAIR_STATUS_LANES.addr then
    ((s.rd a).setField 8 2 s.liveLanes).setField 1 1 (if s.readyNow then 1 else 0)
  else if a = 0xA0040 || a = 0xA0060 || a = 0xA0080 then (s.rd a).setField 24 2 (s.reintCount ((a - 0xA0040) / 0x20))
  else if blk = 16 && 0xC4 ≤ off && off < 0xD8 then BitVec.ofNat 32 (s.indexWord off)
  else s.rd a

end Sys2Proof.Machine
end

