-- ==== Sys2Proof/Machine/Commit.lean ====
section
/-! DEFINITION. Commits of T-class fields: the shadow captured as a set, the rules that a chapter sets for it, and the set
in force (R28, R29, R46, R56–R58, R254, R275, R283, R297, R317, R474, R506, R531, R562). -/

namespace Sys2Proof.Machine

/-! ### Shadow and active values (R46) -/

/-- Blocks with T-class fields. -/
def tBlocks : List Nat := [6, 7, 8, 12, 14, 16, 17]

/-- Whether an address of the register space is the shadow of a T-class register. -/
def isShadowAddr (a : Nat) : Bool := (findSpec (a % 0x10000) (blockSpecs (a / 0x10000))).any fun x => x.1.isT

/-- The shadow address of an active view, none where the address is no such view. -/
def shadowAddr (a : Nat) : Option Nat :=
  let o := shadowOf (a / 0x10000) (a % 0x10000)
  let b := a / 0x10000 * 0x10000 + o
  if o ≠ a % 0x10000 && isShadowAddr b then some b else none

/-- The words of a block's T-class registers that may differ from their reset words: shadow addresses, each once. -/
def State.shadowsOf (s : State) (blk : Nat) : List Nat :=
  let listed := s.regs.filterMap fun (x : Nat × Word) =>
    if x.1 / 0x10000 ≠ blk then none else if isShadowAddr x.1 then some x.1 else shadowAddr x.1
  let held := (s.commits.filter fun (c : CommitBuf) => c.block == blk).flatMap fun (c : CommitBuf) =>
    c.words.filterMap fun (x : Nat × Word) => shadowAddr x.1
  (listed ++ held).eraseDups

/-- The shadow of a block as the words that its active views take (R56). -/
def State.captureWords (s : State) (blk : Nat) : List (Nat × Word) := (s.shadowsOf blk).map fun a => (activeAddr a, s.rd a)

/-- Words written to addresses. -/
def State.wrAll (s : State) (l : List (Nat × Word)) : State := l.foldl (fun (s : State) x => s.wr x.1 x.2) s

/-! ### The rules of a set (R56) -/

/-- Channel ranges of two subscriptions meet. -/
def viewsMeet (a b : SubView) : Bool := decide (a.base < b.base + b.nch) && decide (b.base < a.base + a.nch)

/-- The match key of a subscription (R296). -/
def State.subKey (s : State) (k : Nat) : List Nat :=
  [s.getA (Reg.SVI_SUB_DST_LO_ADDR k), s.getA (Reg.SVI_SUB_DST_HI_ADDR k), s.getA (Reg.SVI_SUB_DST_HI_VID k),
   s.getA (Reg.SVI_SUB_ID_APPID k), s.getA (Reg.SVI_SUB_ID_SVID_LEN k), s.getA (Reg.SVI_SUB_SVID_CRC_CRC k)]

/-- No two elements of a list are related. -/
def pairwiseNot {α : Type} (r : α → α → Bool) : List α → Bool
  | [] => true
  | x :: l => !l.any (r x) && pairwiseNot r l

/-- A slice would hold more SV subscriptions than its quota (R297). -/
def State.overSubs (s : State) (v : List SubView) : Bool :=
  v.any fun x =>
    let sl := s.getA (Reg.SVI_SUB_LAYOUT_SLICE x.sub)
    decide (s.get (Reg.SLC_SLICE_QA_SVSUB sl) < (v.filter fun y => s.getA (Reg.SVI_SUB_LAYOUT_SLICE y.sub) == sl).length)

/-- The rules for subscriptions beside the quota (R297). -/
def State.subsOk (s : State) (v : List SubView) : Bool :=
  pairwiseNot (fun x y => s.subKey x.sub == s.subKey y.sub || viewsMeet x y) v && !s.overCapacity &&
    v.all fun x => s.getA (Reg.SVI_SUB_POLICY_AUTH x.sub) ≠ 1 ||
      s.keyOwn (s.getA (Reg.SVI_SUB_POLICY_KEYSLOT x.sub)) (s.getA (Reg.SVI_SUB_LAYOUT_SLICE x.sub))

/-- The rules for own SV streams (R317). -/
def State.ownOk (s : State) : Bool :=
  (List.range 4).all fun k =>
    let no := s.getA (Reg.SVI_OWN_CTRL_NOASDU k)
    decide (0 < no) && rateHz (s.get Reg.SVI_CFG_RATE) % no == 0 &&
      decide (latUs (s.get Reg.SVI_CFG_RATE) ≤ s.getA (Reg.SVI_OWN_LAUNCH_US k))

/-- A marker's rule (R275) and a profile's (R283). -/
def State.meterOk (s : State) (m : Nat) : Bool :=
  let pir := s.getA (Reg.SWC_METER_PIR_RATE m)
  let cbs := s.getA (Reg.SWC_METER_CBS_BYTES m)
  pir == 0 || (decide (s.getA (Reg.SWC_METER_CIR_RATE m) ≤ pir) && decide (cbs ≤ s.getA (Reg.SWC_METER_PBS_BYTES m)) &&
    decide (9646 ≤ cbs))
def State.wredOk (s : State) (i : Nat) : Bool := decide (s.getA (Reg.SWC_WRED_TH_MIN i) < s.getA (Reg.SWC_WRED_TH_MAX i))

/-- Bits of the CLE output space: of the loaded program, else of the output words that the module has (R474, R478). -/
def State.cleSpace (s : State) : Nat := 32 * s.cle.prog.elim 256 CleImage.wq

/-- DO i keeps its slice while a slot routes to it, and its CLE bit exists (R474); `old` is the state before the set. -/
def State.doCfgOk (s old : State) (i : Nat) : Bool :=
  (s.getA (Reg.PUB_DO_CFG_SLICE i) == old.getA (Reg.PUB_DO_CFG_SLICE i) || (routeOf s.slots 0 i).isNone) &&
    (s.getA (Reg.PUB_DO_CFG_SRC i) ≠ 1 || decide (s.getA (Reg.PUB_DO_CFG_CLEBIT i) < s.cleSpace))

/-- A list of integers ascends strictly. -/
def ascends (l : List Int) : Bool := (l.zip l.tail).all fun p => decide (p.1 < p.2)

/-- The temperatures of a channel's table ascend (R506). -/
def State.calOk (s : State) (c : Nat) : Bool :=
  ascends ((List.range (s.getA (Reg.MOD_CAL_N_NPTS c))).map fun k => signed 16 (s.getA (Reg.MOD_CAL_T_T c k)))

/-- An enabled trigger unit names an installed channel (R531). -/
def State.trgOk (s : State) (t : Nat) : Bool :=
  s.getA (Reg.AQE_TRG_CTRL_EN t) ≠ 1 ||
    s.chansNow.any fun c => !c.bin && c.idx == s.getA (Reg.AQE_TRG_CTRL_CH t) && chEn c.w0

/-- The channels of a metering point exist (R562). -/
def State.pointOk (s : State) (p : Nat) : Bool :=
  let cap := if p < 128 then capOf (s.get Reg.SVI_CFG_RATE) else 16
  (List.range 3).all fun φ => decide (s.getA (Reg.NRG_PT_PH_VCH p φ) < cap) && decide (s.getA (Reg.NRG_PT_PH_ICH p φ) < cap)

/-- Whether a set keeps the rules of its block; `s` holds it as active values, `old` is the state before. -/
def State.setOk (s old : State) (blk : Nat) : Bool :=
  if blk = 6 then (List.range 12).all fun p => decide (s.getA (Reg.MACP_FC_MARK_LO p) < s.getA (Reg.MACP_FC_MARK_HI p))
  else if blk = 7 then (List.range 64).all s.meterOk && (List.range 12).all s.wredOk
  else if blk = 8 then (let v := s.subViews; s.subsOk v && !s.overSubs v && s.ownOk)
  else if blk = 12 then (List.range 8).all (s.doCfgOk old)
  else if blk = 14 then (List.range 16).all s.calOk
  else if blk = 16 then (List.range 64).all s.trgOk
  else if blk = 17 then (List.range 130).all s.pointOk
  else true

/-! ### A set takes effect (R57, R275, R298, R566) -/

/-- What follows new active values of a block. -/
def State.afterSet (s : State) (blk : Nat) : State :=
  if blk = 7 then { s with swc := { s.swc with buckets := [] } }
  else if blk = 8 then s.applySubs
  else if blk = 12 then s.showDepend
  else if blk = 17 then s.poBoundary
  else s

/-- The commits of a boundary take effect, each as a set (R27 step 3, R57). -/
def State.applyCommits (s : State) (n : Nat) : State :=
  let due := s.commits.filter fun (c : CommitBuf) => decide (c.tick ≤ n)
  due.foldl (fun (s : State) c => (s.wrAll c.words).afterSet c.block)
    { s with commits := s.commits.filter fun (c : CommitBuf) => !decide (c.tick ≤ n) }

/-! ### BLOCK_COMMIT (R28, R29, R56–R58) -/

/-- The boundary for which a commit is captured now: the next one before its v_n, else the one after it (R28). -/
def State.captureTick (s : State) : Nat :=
  if s.isSettled s.tg.next || decide (s.voteInstant s.tg.next ≤ s.time) then s.tg.next + 1 else s.tg.next

/-- A commit of block blk: refused with reason 4 where its set fails, captured while ticks run, in force at once otherwise.
An SV quota that fails sets source 184 (R297). -/
def State.commitBlock (s : State) (blk : Nat) : State :=
  let w := s.captureWords blk
  let t := s.wrAll w
  if !t.setOk s blk then (s.eventIf (blk == 8 && t.overSubs t.subViews) 184).reject blk 8 4
  else if s.tg.running then
    let k := s.captureTick
    let rest := s.commits.filter fun (c : CommitBuf) => !(c.block == blk && c.tick == k)
    { s with commits := rest ++ [⟨blk, k, w⟩] }
  else t.afterSet blk

/-- The shadow of a block takes its active values (R58). -/
def State.discardBlock (s : State) (blk : Nat) : State := (s.shadowsOf blk).foldl (fun (s : State) a => s.wr a (s.rd (activeAddr a))) s

/-- Whether a write to BLOCK_COMMIT acts: in BOOT it is rejected with reason 3 (R110), in a block without T-class fields it
has no effect (R56). -/
def State.commitWrite (s : State) (blk : Nat) (act : State → State) : State :=
  if s.st = stBoot then (if blk ≤ 25 then s.reject blk 8 3 else s)
  else if s.ready && tBlocks.contains blk then act s
  else s

/-- BLOCK_COMMIT_WRITE (R56, R58): a write of COMMIT, with DISCARD first where both bits are 1. -/
def blockCommitWrite (blk : Nat) (discard : Bool) (s : State) : State :=
  s.commitWrite blk fun s => (if discard then s.discardBlock blk else s).commitBlock blk

def execBlockCommitWrite (block : Nat) (discard : Bool) (s : State) : Host.Outcome State Fault Refusal :=
  .next (blockCommitWrite block discard s)

/-- BLOCK_DISCARD_WRITE (R58). -/
def blockDiscardWrite (blk : Nat) (s : State) : State := s.commitWrite blk fun s => s.discardBlock blk

def execBlockDiscardWrite (block : Nat) (s : State) : Host.Outcome State Fault Refusal := .next (blockDiscardWrite block s)

end Sys2Proof.Machine
end

