-- ==== Sys2Proof/Machine/Diag.lean ====
section
/-! DEFINITION. Diagnostics and fault injection (R691–R704): the commands that read the module, injections, periodic tests,
parity errors, faults raised and cleared by durations, temperatures (R128). -/

namespace Sys2Proof.Machine

/-! ### STATUS_READ (R695) -/

/-- The active faults that a slice sees: class highest first, then the time of the raise. -/
def State.faultsFor (s : State) (slice : Nat) : List FaultRec :=
  let mine := (s.faults.map ActiveFault.record).filter fun r => slice == 0 || r.slice == slice
  [4, 3, 2, 1].flatMap fun c => (mine.filter fun r => r.cls == c).foldr
    (fun r l => (l.takeWhile fun x => decide (x.time < r.time)) ++ [r] ++ l.dropWhile fun x => decide (x.time < r.time)) []

/-- The header of the status record as (first byte, width in bytes, value). -/
def State.statusHeader (s : State) (slice n : Nat) : List (Nat × Nat × Nat) :=
  let w := fun (a : Nat) => (s.view a).toNat
  let own := fun (v : Nat) => if slice = 0 then v else 0
  [(0, 4, 0x4E525352), (4, 1, 1), (5, 1, s.st), (6, 1, s.healthCode), (7, 1, w 0x14 % 128), (8, 10, stamp80 s.ns), (18, 2, n),
   (20, 8, s.tickNow), (28, 4, w 0x30), (32, 4, w 0x10010), (36, 4, own (w Reg.BEAM_STATUS_VOTING.addr)),
   (40, 4, own (w Reg.PAIR_STATUS_PARTNER.addr)), (44, 4, own (w Reg.TIM_STATUS_CLASS.addr)),
   (48, 4, own (w Reg.SVI_STATUS_OPEN.addr)), (52, 4, own (w Reg.TLY_STATUS_INJ.addr)), (56, 4, own (w Reg.RCK_STATUS_SOLVING.addr)),
   (60, 4, own (w Reg.TMP_STATUS_LOCKGRP.addr)), (64, 8, Config.serialNumber % 2 ^ 64), (72, 4, w 0x28)]

/-- STATUS_READ (R695): `len` is the buffer's length. -/
def statusRead (q : Req) (len : Nat) (s : State) : State :=
  let l := s.faultsFor q.slice
  let need := 128 + 24 * l.length
  s.commandAny 0x1 q [(.nores, decide (len < need))] false
    (fun s => (s.answer q (.statusRec q (s.statusHeader q.slice l.length) l)).complete q .ok need 0)
    fun st => if st = .nores then need else 0

def execStatusRead (q : Req) (len : Nat) (s : State) : Host.Outcome State Fault Refusal := .next (statusRead q len s)

/-! ### JOURNAL_READ (R696) -/

/-- RESULT of a read of entries with the LSEQ given: entries written, FROM before the oldest, more follow. -/
def journalResult (lseqs : List Nat) (start n : Nat) : Nat :=
  let later := (lseqs.filter fun x => decide (start ≤ x)).length
  n + (if start ≠ 0 && decide (start < lseqs.headD 0) then 2 ^ 30 else 0) + (if n < later then 2 ^ 31 else 0)

/-- The entries of the key journal with their LSEQ (R668). -/
def State.keyEntries (s : State) : List (Nat × List Nat) :=
  let top := s.get (Reg.PER_SECT_SEQ_SEQ 7)
  let n := s.per.keyLog.length
  (List.range n).map fun i => (top + 1 + i - n, s.per.keyLog.getD i [])

/-- JOURNAL_READ (R696): `start` is FROM. -/
def journalRead (q : Req) (sel start len : Nat) (s : State) : State :=
  s.commandAny 0x2 q [(.param, decide (1 < sel)), (.priv, q.slice ≠ 0), (.nores, decide (len < 56))] false fun s =>
    let room := (len - 8) / 48
    if sel = 0 then
      let l := (s.journal.log.filter fun x => decide (start ≤ x.1)).take room
      (s.answer q (.journalRec q l)).complete q .ok (journalResult (s.journal.log.map Prod.fst) start l.length) 0
    else
      let l := (s.keyEntries.filter fun x => decide (start ≤ x.1)).take room
      (s.answer q (.keyRec q l)).complete q .ok (journalResult (s.keyEntries.map Prod.fst) start l.length) 0

def execJournalRead (q : Req) (sel start len : Nat) (s : State) : Host.Outcome State Fault Refusal :=
  .next (journalRead q sel start len s)

/-! ### COUNTER_READ (R697) -/

/-- Whether a register is a counter: an access RC, or a field named COUNT. -/
def isCounter (blk off : Nat) : Bool :=
  (match findSpec off (blockSpecs blk) with
    | some (r, 0) => r.fields.any fun f => f.acc == .rc
    | _ => false) || (countRegs blk).any fun r => decide (r.1 ≤ off) && onGrid r.2 (off - r.1)

/-- The RC fields of the register at an offset clear (R50). -/
def State.clearRc (s : State) (blk off : Nat) : State :=
  match findSpec off (blockSpecs blk) with
  | some (r, _) =>
    (r.fields.filter fun f => f.acc == .rc).foldl (fun s f =>
      s.put (if f.lo < 32 then ⟨blk * 0x10000 + r.off + (off - r.off), f.lo, f.width⟩ else ⟨blk * 0x10000 + off + 4, f.lo - 32, f.width⟩) 0) s
  | none => s

/-- The value of a counter register, zero-extended. -/
def State.counterValue (s : State) (blk off : Nat) : Nat :=
  let a := blk * 0x10000 + off
  match findSpec off (blockSpecs blk) with
  | some (r, _) => (s.view a).toNat + if r.words = 2 then (s.view (a + 4)).toNat * 2 ^ 32 else 0
  | none => 0

/-- The node tables of the redundant pairs as (pair, node, instant of its last supervision frame), which COUNTER_READ returns after the
counters of MAC (R248; assumption 74). -/
def State.nodeTables (s : State) (block : Nat) : List (Nat × Nat × Nat) :=
  if block = 6 then s.macs.nodes.flatMap fun x => x.2.map fun e => (x.1, e.1, e.2) else []

/-- The offsets of the counters of a block, ascending. -/
def counterOffs (block : Nat) : List Nat := ((List.range 16384).map fun i => 4 * i).filter fun off => isCounter block off

/-- The counters of a block and its node tables are written, and cleared where asked (R248, R697). -/
def State.countersOut (s : State) (q : Req) (block : Nat) (offs : List Nat) (clear : Bool) : State :=
  let vals := offs.map fun off => (off, s.counterValue block off)
  let s1 := if clear then offs.foldl (fun s off => s.clearRc block off) s else s
  (s1.answer q (.counters q vals (s.nodeTables block))).complete q .ok offs.length 0

/-- COUNTER_READ (R248, R697): 16 bytes for each counter, and for each node of MAC. -/
def counterRead (q : Req) (block : Nat) (clear : Bool) (len : Nat) (s : State) : State :=
  let need := 16 * ((counterOffs block).length + (s.nodeTables block).length)
  s.commandAny 0x3 q [(.param, decide (0x19 < block)), (.priv, q.slice ≠ 0), (.nores, decide (len < need))] false
    (fun s => s.countersOut q block (counterOffs block) clear)
    fun st => if st = .nores then need else 0

def execCounterRead (q : Req) (block : Nat) (clear : Bool) (len : Nat) (s : State) : Host.Outcome State Fault Refusal :=
  .next (counterRead q block clear len s)

/-! ### Injections (R698–R700) -/

/-- A field of a descriptor out of range, or set where its KIND has none (R698). -/
def descBad (d : InjDesc) : Bool :=
  let frame := decide (1 ≤ d.kind) && decide (d.kind ≤ 4)
  !(decide (1 ≤ d.kind) && decide (d.kind ≤ 6)) || (7 < d.id && d.id ≠ 0xFF) || decide (7 < d.flags) ||
    (d.flags / 2 % 2 == 1 && d.kind ≠ 2) || (!frame && (d.flags ≠ 0 || d.tcmask ≠ 0 || d.limit ≠ 0)) ||
    (if frame then decide (12 < d.target) else if d.kind = 5 then d.target = 0 || decide (7 < d.target) else d.target ≠ 0) ||
    (if frame && d.target = 12 then 63 < d.ring && d.ring ≠ 0xFFFF else d.ring ≠ 0) ||
    (d.kind == 5 && (d.n == 0 || decide (65535 < d.n))) || (d.kind == 6 && (d.n == 0 || decide (16 < d.n))) ||
    (if d.kind = 2 then decide (2 ^ 24 ≤ d.param) else if d.kind = 4 then d.param = 0 || decide (100000 < d.param)
     else if d.kind = 5 then decide (65535 < d.param) else d.param ≠ 0) ||
    (d.kind ≠ 5 && d.mask ≠ 0) || d.duration == 0 || d.rest ≠ 0 || (d.kind == 2 && d.target == 12 && d.flags / 2 % 2 == 0)

/-- The id an injection takes: its own, or the lowest free. -/
def State.injId (s : State) (d : InjDesc) : Nat :=
  if d.id = 0xFF then ((List.range 8).find? fun i => !(s.inj.any fun x => x.id == i)).getD 8 else d.id

/-- A slice without the privilege for a descriptor (R698). -/
def State.injPriv (s : State) (q : Req) (d : InjDesc) : Bool :=
  let manager := q.slice == 0 && s.st == stService
  (!manager && !s.flag (Reg.SLC_SLICE_ID_INJECT q.slice)) ||
    (q.slice ≠ 0 && (4 < d.kind || d.target ≠ 12 || (d.ring ≠ 0xFFFF && (s.localRing q.slice d.ring).isNone)))

/-- INJECT_START (R698). -/
def injectStart (q : Req) (len : Nat) (d : InjDesc) (s : State) : State :=
  let id := s.injId d
  let multi := d.kind == 5 && !(([1, 2, 4] : List Nat).contains d.target) && s.flag Reg.GLB_STATUS_KEEPCUST
  let fails : List (Status × Bool) := [(.version, d.version ≠ 1), (.param, len ≠ 32 || descBad d), (.priv, s.injPriv q d),
    (.state, !stRun.contains s.st || multi), (.nores, decide (8 ≤ s.inj.length) || s.inj.any fun i => i.id == id)]
  let refused := s.reaches 0x38 q && (firstFail ((.version, q.version ≠ 1) :: s.consoleCheck q fails)).isSome
  (if refused then s.count Reg.FIJ_REFUSED_COUNT else s).command 0x38 q fails false fun s =>
    let i : Injection := { id := id, kind := d.kind, slice := q.slice, flags := d.flags, target := d.target, tcmask := d.tcmask,
                           ring := d.ring, n := d.n, param := d.param, mask := d.mask, limit := d.limit, durationMs := d.duration,
                           active := false, startTick := 0, endsAt := 0 }
    ({ s with inj := setKey Injection.id i s.inj }.clearFault 0x1803 0).complete q .ok id 0

def execInjectStart (q : Req) (len : Nat) (d : InjDesc) (s : State) : Host.Outcome State Fault Refusal :=
  .next (injectStart q len d s)

/-- INJECT_STOP (R699): the end follows at the next boundary; a slice other than 0 stops its own. -/
def injectStop (q : Req) (id : Nat) (s : State) : State :=
  let mine := fun (i : Injection) => (id == 0xFF || i.id == id) && (q.slice == 0 || i.slice == q.slice)
  s.command 0x39 q [(.param, 7 < id && id ≠ 0xFF), (.priv, q.slice ≠ 0 && s.inj.any fun i => i.id == id && i.slice ≠ q.slice)] false fun s =>
    let s1 := { s with inj := s.inj.map fun (i : Injection) => if mine i then { i with stop := true, limit := 0 } else i }
    s1.complete q .ok 0 0

def execInjectStop (q : Req) (id : Nat) (s : State) : Host.Outcome State Fault Refusal := .next (injectStop q id s)

/-- Beads leave the free list and belong to no frame (R699): lowest indices not leaked yet. -/
def State.leakBeads (s : State) (n : Nat) : List Nat :=
  ((List.range (n + s.swc.leaked.length)).filter fun b => !(s.swc.leaked.any fun x => x.1 == b)).take n

/-- An injection takes effect at boundary n (R699): registers, source 176, fault 0x1801, and for BEAD the beads. -/
def State.startInj (s : State) (i : Injection) (n : Nat) : State :=
  let x := { i with active := true, startTick := n, endsAt := s.ns + i.durationMs * 1000000 }
  let s1 := { s with inj := setKey Injection.id x s.inj }.put Reg.FIJ_STATUS_ACTIVE (s.get Reg.FIJ_STATUS_ACTIVE ||| 2 ^ i.id)
  let s2 := if i.slice ≠ 0 then s1.put Reg.FIJ_STATUS_SLICEINJ (s1.get Reg.FIJ_STATUS_SLICEINJ ||| 2 ^ i.id) else s1
  let s3 := (((s2.put (Reg.FIJ_INJ_DESC_KIND i.id) i.kind).put (Reg.FIJ_INJ_DESC_SLICE i.id) i.slice).put
    (Reg.FIJ_INJ_DESC_TARGET i.id) i.target).put (Reg.FIJ_INJ_DESC_FLAGS i.id) i.flags
  let s4 := (((s3.put (Reg.FIJ_INJ_N_N i.id) i.n).put (Reg.FIJ_INJ_PARAM_PARAM i.id) i.param).put (Reg.FIJ_INJ_AFFECTED_COUNT i.id) 0).put
    (Reg.FIJ_INJ_START_LO_TICK i.id) (n % 2 ^ 32)
  let s5 := ((s4.put (Reg.FIJ_INJ_START_HI_TICK i.id) (n / 2 ^ 32)).put Reg.GLB_STATUS_INJECT 1).count Reg.FIJ_STARTS_COUNT
  let s6 := (s5.raiseRecord 0x1801 0 0 0xFFFF (i.id + i.kind * 256 + i.slice * 65536)).event 176
  if i.kind = 6 then
    (s6.leakBeads i.n).foldl (fun s b =>
      (({ s with swc := { s.swc with leaked := s.swc.leaked ++ [(b, 0)] } }.note 0x18 3 b).injHit i.id)) s6
  else s6

/-- Why an active injection ends at boundary n, 0 while it does not: stop, duration, LIMIT or N (R699). -/
def State.injEndReason (s : State) (i : Injection) (n : Nat) : Nat :=
  if i.stop && i.limit = 0 then 1
  else if i.endsAt ≤ s.ns then 2
  else if i.stop || (i.kind == 5 && decide (i.startTick + i.n ≤ n)) then 3
  else 0

/-- Injections at a tick boundary: those that are over end, those that wait take effect. -/
def State.injBoundary (s : State) (n : Nat) : State :=
  let s1 := s.inj.foldl (fun (s : State) i =>
    if i.active then (let r := s.injEndReason i n; if r = 0 then s else s.endInj i r) else if i.stop then s.endInj i 1 else s) s
  (s1.inj.filter fun i => !i.active).foldl (fun (s : State) i => s.startInj i n) s1

/-- An injection that is over ends (R699). -/
def State.injOver (s : State) (id : Nat) : State :=
  match s.inj.find? fun i => i.id == id && i.active with
  | none => s
  | some i =>
    let r := s.injEndReason i (s.tg.next - 1)
    if r = 0 then s else s.endInj i r

/-- INJECT_END (R699): an injection that is over at the boundary of this instant ends. -/
def injectEnd (id now : Nat) (s : State) : State := (s.advance (now * nsUnit)).injOver id

def execInjectEnd (id now : Nat) (s : State) : Host.Outcome State Fault Refusal := .next (injectEnd id now s)

/-! ### Periodic tests (R691, R693) -/

/-- DIAG_SELFTEST (R691): test 5 is the beam's own (R418). -/
def diagSelftest (test : Nat) (pass : Bool) (s : State) : State :=
  if 8 < test || test = 5 || s.mainAbsent then s
  else if pass then s.clearFault 0x0106 test
  else
    let s1 := (s.event 8).raiseAt 0x0106 2 test test
    if test = 4 then (s1.setGate false).raise1 0x0007 3 2 else s1

def execDiagSelftest (test : Nat) (pass : Bool) (s : State) : Host.Outcome State Fault Refusal := .next (diagSelftest test pass s)

/-! ### Parity errors (R157, R186, R262, R278, R323, R474, R498, R577, R596, R628, R704) -/

/-- A point or meter goes on from its last committed values (R577, R679); without a commit it goes on as it is. -/
def State.recallMeter (s : State) (unit : Nat) : State :=
  match s.bank with
  | none => s
  | some b =>
    if unit < 0x100 then
      match findKey NrgPoint.point unit b.nrg.pts with
      | some x => s.setPoint { (s.point unit) with regs := x.regs, phases := x.phases }
      | none => s
    else
      match findKey HeatMeter.meter (unit - 0x100) b.nrg.hms with
      | some x => s.setMeter { x with report := (s.heatMeter (unit - 0x100)).report, step := (s.heatMeter (unit - 0x100)).step }
      | none => s

/-- HARDWARE_PARITY_ERROR: the fault of a unit, named by its code, with what its chapter says besides. -/
def hardwareParityError (code unit addr : Nat) (s : State) : State :=
  if s.mainAbsent then s
  else if code = 0x0203 then s.raise 0x0203 2 unit ((s.ringOf unit).elim 0xFFFF RingRec.slice) unit
  else if code = 0x0303 then s.raise 0x0303 2 unit unit unit
  else if code = 0x0608 then s.raiseAt 0x0608 2 unit unit
  else if code = 0x0705 then { s with swc := { s.swc with fdb := dropKey Prod.fst unit s.swc.fdb } }.raiseAt 0x0705 2 unit unit
  else if code = 0x0806 then s.raiseAt 0x0806 2 unit unit
  else if code = 0x0C03 then s.raiseAt 0x0C03 3 unit unit
  else if code = 0x0D03 then
    (s.setRod unit { s.rod unit with cleBad := some unit }).raiseAt 0x0D03 2 unit (unit + addr * 65536)
  else if code = 0x1104 then (s.recallMeter unit).raiseAt 0x1104 2 unit unit
  else if code = 0x1204 then s.raiseAt 0x1204 2 unit unit
  else if code = 0x1308 then s.raiseAt 0x1308 2 unit unit
  else if code = 0x1803 then ((s.endInjections 4 s.inj).event 179).raise1 0x1803 2 0
  else s

def execHardwareParityError (code unit addr : Nat) (s : State) : Host.Outcome State Fault Refusal :=
  .next (hardwareParityError code unit addr s)

/-! ### Faults by duration (R67), temperatures (R128) -/

/-- Faults that clear when a duration has passed without their cause. -/
def timedClears : List Nat :=
  [0x0002, 0x0003, 0x0607, 0x0704, 0x0803, 0x0804, 0x0A07, 0x0B06, 0x0B09, 0x0C01, 0x0E01, 0x0E02, 0x0E04, 0x0E05, 0x1003, 0x1006, 0x1606]

/-- Whether the cause of a fault is seen in the state at this instant, so that its time without the cause has not passed. -/
def State.causeSeen (s : State) (code unit : Nat) : Bool :=
  if code = 0x0002 then decide (83 * 128 ≤ s.getS Reg.GLB_TEMP_PLATE)
  else if code = 0x0003 then decide (100 * 128 ≤ s.getS Reg.GLB_TEMP_DIE)
  else if code = 0x0607 then decide (1000 ≤ s.get (Reg.MAC_PAIR_STAT_ENTRIES unit))
  else if code = 0x0803 then (s.watchOf unit).lates.any fun t => decide (s.time < t + 60000000000 * nsUnit)
  else if code = 0x0B06 then s.flag Reg.GLB_STATUS_HOLD && s.flag Reg.GLB_STATUS_PEER
  else false

/-- The faults that a duration raises: 0x0801 (R323), 0x0B04 (R459), 0x0503 (R213), 0x1004 (R554). -/
def State.timedRaise (s : State) (code unit detail : Nat) : State :=
  if code = 0x0801 then
    let due := s.svi.enabled && s.getA (Reg.SVI_SUB_DST_HI_EN unit) == 1 &&
      decide ((s.watchOf unit).lastUsed + 1000000000 * nsUnit ≤ s.time)
    if due then s.raiseAt 0x0801 1 unit unit else s
  else if code = 0x0B04 then
    if s.st = stShadow && s.flag Reg.GLB_STATUS_PEER && s.get Reg.PAIR_STATUS_READY = 0 then s.raise1 0x0B04 1 detail else s
  else if code = 0x0503 then
    match s.rtc.queue with
    | [] => s
    | w :: _ => s.raise1 0x0503 2 w.off
  else if code = 0x1004 then
    let due := s.flag Reg.AQE_GRP_EN && !s.flag Reg.AQE_GRP_MASTER && s.get Reg.AQE_STATUS_STATE == 3 &&
      decide (s.aqe.rearmAt + 60000000000 ≤ s.ns)
    if due then s.raiseAt 0x1004 1 (s.get Reg.AQE_GRP_GROUP) (s.get Reg.AQE_GRP_GROUP) else s
  else s

/-- FAULT_TIMER_EXPIRY (R67). -/
def faultTimerExpiry (code unit detail : Nat) (raised : Bool) (now : Nat) (s : State) : State :=
  let s0 := s.advance (now * nsUnit)
  if raised then s0.timedRaise code unit detail
  else if timedClears.contains code && s0.isActive code unit && !s0.causeSeen code unit then
    (s0.clearFault code unit).eventIf (code == 0x0002 || code == 0x0003) 4
  else s0

def execFaultTimerExpiry (code unit detail : Nat) (raised : Bool) (now : Nat) (s : State) : Host.Outcome State Fault Refusal :=
  .next (faultTimerExpiry code unit detail raised now s)

/-- TEMP_FAULT (R103, R128): cold plate and die in Q8.7 °C; 0x0002 above 85 °C, 0x0003 (F3) above 105 °C. -/
def tempFault (plate die : Int) (s : State) : State :=
  let s1 := (s.put Reg.GLB_TEMP_PLATE (unsigned 16 (saturate 16 plate))).put Reg.GLB_TEMP_DIE (unsigned 16 (saturate 16 die))
  let hot := decide (85 * 128 < plate)
  let burn := decide (105 * 128 < die)
  if s.mainAbsent then s else
  let s2 := if hot && !s1.isActive 0x0002 0 then (s1.event 4).raise1 0x0002 1 (s1.get Reg.GLB_TEMP_PLATE) else s1
  if burn && !s2.isActive 0x0003 0 then (s2.event 4).raise1 0x0003 3 (s2.get Reg.GLB_TEMP_DIE) else s2

def execTempFault (plate die : Int) (s : State) : Host.Outcome State Fault Refusal := .next (tempFault plate die s)

end Sys2Proof.Machine
end

