-- ==== Sys2Proof/Machine/LoopEng.lean ====
section
/-! DEFINITION. The loop engine: control loops, supervision, field devices (R578–R597). -/

namespace Sys2Proof.Machine

/-! ### Loops and their states (R579, R588) -/

/-- Loop states (R595). -/
def loOff : Nat := 0
def loOpen : Nat := 1
def loClosed : Nat := 2
def loFallback : Nat := 3

/-- The record and the state of a loop. -/
def State.loopRec (s : State) (n : Nat) : LoopRec := (findKey LoopRec.loop n s.lce.loops).getD { loop := n }
def State.setLoop (s : State) (x : LoopRec) : State := { s with lce := { s.lce with loops := setKey LoopRec.loop x s.lce.loops } }
def State.loopSt (s : State) (n : Nat) : Nat := s.get (Reg.LCE_LOOP_STATE_STATE n)

/-- A loop changes state (R588, R597): source 136, ACTIVE; leaving FALLBACK clears 0x1201, OFF clears 0x1204. -/
def State.loopGo (s : State) (n st : Nat) : State :=
  let old := s.loopSt n
  if old = st then s
  else
    let a := s.get Reg.LCE_STATUS_ACTIVE
    let s1 := (s.put (Reg.LCE_LOOP_STATE_STATE n) st).put Reg.LCE_STATUS_ACTIVE (if old = loOff then a + 1 else if st = loOff then a - 1 else a)
    let s2 := s1.event 136
    let s3 := if old = loFallback then s2.clearFault 0x1201 n else s2
    if st = loOff then s3.clearFault 0x1204 n else s3

/-- Entry to FALLBACK with its cause (R588). -/
def State.loopFall (s : State) (n cause : Nat) : State :=
  (((s.loopGo n loFallback).put (Reg.LCE_LOOP_STATE_FBCAUSE n) cause).event 137).raiseAt 0x1201 1 n (n + cause * 256)

/-- Every loop goes to OFF: CTRL.EN cleared, or a rate change (R579, R588). -/
def State.loopsOff (s : State) : State :=
  let s1 := (List.range 128).foldl (fun s n => s.loopGo n loOff) s
  { s1 with lce := { s1.lce with loops := s1.lce.loops.map fun (x : LoopRec) => { x with op := 0, reclose := false } } }

/-- CAP of the rate in force (R579): floor(0.85 T / 0.5 µs), at most 128. -/
def loopCap (f : Nat) : Nat := min 128 (1700000 / f)

/-- Loops out of OFF, and those that a waiting OP takes out of it (R579). -/
def State.loopsOut (s : State) : Nat :=
  s.get Reg.LCE_STATUS_ACTIVE +
    (s.lce.loops.filter fun x => s.loopSt x.loop = loOff && (x.op = 1 || x.op = 2)).length

/-- An OP write (R579, R588). -/
def State.loopOp (s : State) (n op : Nat) : State :=
  let off := 0x1050 + 0x80 * n
  if 128 ≤ n then s
  else if s.st = stBoot then s.reject 18 off 3
  else
    let x := s.loopRec n
    let others := s.loopsOut - (if s.loopSt n = loOff && (x.op = 1 || x.op = 2) then 1 else 0)
    if op ≠ 3 && s.loopSt n = loOff && decide (loopCap s.tg.f ≤ others) then s.reject 18 off 1
    else s.setLoop { x with op := op }

/-- LOOP_OP_CLOSE, LOOP_OP_OPEN, LOOP_OP_OFF (R588). -/
def execLoopOpClose (loop : Nat) (s : State) : Host.Outcome State Fault Refusal := .next (s.loopOp loop 1)
def execLoopOpOpen (loop : Nat) (s : State) : Host.Outcome State Fault Refusal := .next (s.loopOp loop 2)
def execLoopOpOff (loop : Nat) (s : State) : Host.Outcome State Fault Refusal := .next (s.loopOp loop 3)

/-- The module takes custody: every CLOSED loop is closed again at its next execution (R592). -/
def State.loopsReclose (s : State) : State :=
  let l := s.lce.loops.map fun (x : LoopRec) => if s.loopSt x.loop = loClosed then { x with reclose := true } else x
  { s with lce := { s.lce with loops := l } }

/-! ### Inputs (R581–R583) -/

/-- The report of a loop's device channel, and whether it is stale (R591). -/
def State.reportOf (s : State) (d ch : Nat) : Option DevReport := findKey DevReport.key (256 * d + ch) s.lce.reports
def State.reportStale (s : State) (d : Nat) (r : Option DevReport) : Bool :=
  r.all fun (x : DevReport) => x.fault || decide (x.at' + s.get (Reg.LCE_DEV_CFG_TIMEOUT_MS d) * 1000000 ≤ s.ns)
def State.loopReport (s : State) (n : Nat) : Option DevReport := s.reportOf (s.get (Reg.LCE_LOOP_OUT_DEV n)) (s.get (Reg.LCE_LOOP_OUT_CH n))
def State.loopReportOk (s : State) (n : Nat) : Bool := !s.reportStale (s.get (Reg.LCE_LOOP_OUT_DEV n)) (s.loopReport n)

/-- A source of R581 on tick k: its raw value where one stands, and its validity. -/
def State.loopSource (s : State) (n k kind idx : Nat) : Option Int × Bool :=
  match kind with
  | 0 => (some 0, true)
  | 1 => (some (s.getS (Reg.ADC_RES_CODE (idx % 16))), !s.adcInvalid (idx % 16))
  | 2 => match s.core.resultMirror.find? fun g => g.tick == k with
    | none => (none, false)
    | some g => match g.entries.find? fun e => e.getD 0 0 % 65536 == idx with
      | none => (none, false)
      | some e => (some (signed 32 (e.getD 1 0)), !g.missed && e.getD 0 0 / 2 ^ 24 % 4 != 2)
  | 3 => ((s.loopReport n).map fun r => r.value, s.loopReportOk n)
  | _ =>
    let h := idx % 64
    (some (s.getS (Reg.NRG_HM_STAT_POWER h)), !(s.flag (Reg.NRG_HM_STAT_INVALID h) || s.heatStale h))

/-- PV in Q15.16 with its validity (R581); without a raw value PV stands as it was. -/
def State.loopPv (s : State) (n k : Nat) : Int × Bool :=
  let (raw, ok) := s.loopSource n k (s.get (Reg.LCE_LOOP_SRC_PV_KIND n)) (s.get (Reg.LCE_LOOP_SRC_PV_IDX n))
  match raw with
  | none => (s.getS (Reg.LCE_LOOP_PV_PV n), false)
  | some v => (saturate 32 (saturate 32 (roundDiv (v * s.getS (Reg.LCE_LOOP_PV_GAIN_GAIN n)) (2 ^ 16)) + s.getS (Reg.LCE_LOOP_PV_OFS_OFS n)), ok)

/-- x of R582 in Q15.16, clamped to 0–100 %, with its validity. -/
def State.loopPos (s : State) (n : Nat) : Int × Bool :=
  let (v, ok) := match s.get (Reg.LCE_LOOP_CFG_POS_KIND n) with
    | 0 => (s.getS (Reg.LCE_LOOP_Y_Y n), true)
    | 1 =>
      let i := s.get (Reg.LCE_LOOP_CFG_POS_IDX n)
      (roundDiv (s.getS (Reg.ADC_RES_CODE i) * 6553600) 32767, !s.adcInvalid i)
    | _ => ((s.loopReport n).elim 0 fun r => r.position, s.loopReportOk n)
  (max 0 (min 6553600 v), ok)

/-- F(x) in Q15.16 (R586), the interpolated value rounded half away from zero. -/
def State.friction (s : State) (n : Nat) (x : Int) : Int :=
  let p := x.toNat * 63
  let j := p / 6553600
  let f := fun j => (((s.get (Reg.LCE_FRIC_F n (j / 4)) >>> (8 * (j % 4))) % 256 * 4096 : Nat) : Int)
  if 63 ≤ j then f 63 else roundDiv (f j * 6553600 + (f (j + 1) - f j) * (p % 6553600 : Nat)) 6553600

/-- The CLE bit of SP_SRC 2: voted on tick k; kept while the CLE is faulted or the generation is lost (R583). -/
def State.loopBit (s : State) (n k : Nat) (x : LoopRec) : Bool :=
  let i := s.get (Reg.LCE_LOOP_CFG_CBIT n)
  if s.cleSt = cleFaulted then x.cbit
  else match s.core.resultMirror.find? fun g => g.tick == k with
    | none => x.cbit
    | some g => if g.missed then x.cbit else (g.cle.getD (i / 32) 0 >>> (i % 32)) % 2 == 1

/-- S of an execution, and the state and record with what its validity end brings (R583). -/
def State.loopTarget (s : State) (n k : Nat) : Int × State :=
  let x := s.loopRec n
  let sp := s.getS (Reg.LCE_LOOP_SP_SP n)
  match s.get (Reg.LCE_LOOP_CFG_SP_SRC n) with
  | 1 => match x.deliv with
    | none => (sp, s)
    | some (v, e) =>
      if s.ns < e then (max (s.getS (Reg.LCE_LOOP_SP_LO_LO n)) (min (s.getS (Reg.LCE_LOOP_SP_HI_HI n)) v), s)
      else if x.expired then (sp, s)
      else (sp, ((s.setLoop { x with expired := true }).event 139).raiseAt 0x1203 1 n n)
  | 2 =>
    let b := s.loopBit n k x
    (if b then s.getS (Reg.LCE_LOOP_SPB_SP n) else sp, s.setLoop { x with cbit := b })
  | _ => (sp, s)

/-! ### The control law (R584–R587, R593) -/

/-- Saturation to Q15.16 with its flag. -/
def sat32 (v : Int) : Int × Bool := (saturate 32 v, saturate 32 v != v)

/-- A clamp with its flag. -/
def clampF (lo hi v : Int) : Int × Bool := let c := max lo (min hi v); (c, c != v)

/-- LO and HI of a loop (R585). -/
def State.loopLo (s : State) (n : Nat) : Int := ((s.get (Reg.LCE_LOOP_OUTLIM_LO n) * 128 : Nat) : Int)
def State.loopHi (s : State) (n : Nat) : Int := ((s.get (Reg.LCE_LOOP_OUTLIM_HI n) * 128 : Nat) : Int)
def State.loopSafe (s : State) (n : Nat) : Int := ((s.get (Reg.LCE_LOOP_SAFE_SAFE_OUT n) * 128 : Nat) : Int)

/-- Sticky flags set (R587); source 138 with the first after a clear. -/
def State.loopSat (s : State) (n : Nat) (p i o f : Bool) : State :=
  let had := s.flag (Reg.LCE_LOOP_STATE_SAT_P n) || s.flag (Reg.LCE_LOOP_STATE_SAT_I n) || s.flag (Reg.LCE_LOOP_STATE_SAT_OUT n) ||
    s.flag (Reg.LCE_LOOP_STATE_SAT_FF n)
  let set := fun (s : State) (r : Field) (b : Bool) => if b then s.put r 1 else s
  let s1 := set (set (set (set s (Reg.LCE_LOOP_STATE_SAT_P n) p) (Reg.LCE_LOOP_STATE_SAT_I n) i) (Reg.LCE_LOOP_STATE_SAT_OUT n) o)
    (Reg.LCE_LOOP_STATE_SAT_FF n) f
  s1.eventIf (!had && (p || i || o || f)) 138

/-- y from U with the friction term (R586). -/
def State.loopFriction (s : State) (n : Nat) (u : Int) : Int × Bool :=
  let (x, ok) := s.loopPos n
  let db : Int := ((s.get (Reg.LCE_LOOP_SAFE_DEADBAND n) * 128 : Nat) : Int)
  let sg : Int := if !ok then 0 else if db < u - x then 1 else if u - x < -db then -1 else 0
  clampF (s.loopLo n) (s.loopHi n) (u + sg * s.friction n x)

/-- W of an execution with PV valid (R584). -/
def State.loopW (s : State) (n : Nat) (close changed : Bool) (target pv : Int) : Int :=
  let rate : Int := (s.get (Reg.LCE_LOOP_RAMP_RATE_RATE n) : Int)
  let w0 := if close then pv
    else if changed then (if s.flag (Reg.LCE_LOOP_CTRL_RAMP n) then pv else target)
    else s.getS (Reg.LCE_LOOP_W_W n)
  if rate = 0 then target else if w0 < target then min target (w0 + rate) else max target (w0 - rate)

/-- FFv with its saturation (R585); a source without a value gives a free value (assumption 5). -/
def State.loopFf (s : State) (n k : Nat) : (Int × Bool) × State :=
  let (raw, _) := s.loopSource n k (s.get (Reg.LCE_LOOP_SRC_FF_KIND n)) (s.get (Reg.LCE_LOOP_SRC_FF_IDX n))
  let (v, s1) := match raw with
    | some v => (v, s)
    | none => (signed 32 s.free, s.drawn)
  (sat32 (roundDiv (s.getS (Reg.LCE_LOOP_KFF_K n) * v) (2 ^ 16)), s1)

/-- KP, KI, KD and ALPHA of a bank. -/
def State.loopBank (s : State) (n b : Nat) : Int × Int × Int × Nat :=
  if b = 0 then (s.getS (Reg.LCE_LOOP_KP0_K n), s.getS (Reg.LCE_LOOP_KI0_K n), s.getS (Reg.LCE_LOOP_KD0_K n), s.get (Reg.LCE_LOOP_ALPHA_ALPHA0 n))
  else (s.getS (Reg.LCE_LOOP_KP1_K n), s.getS (Reg.LCE_LOOP_KI1_K n), s.getS (Reg.LCE_LOOP_KD1_K n), s.get (Reg.LCE_LOOP_ALPHA_ALPHA1 n))

/-- An execution in CLOSED with PV valid (R584–R586): `close` gives U at a close, `bump` a bank switch with BUMPLESS. -/
def State.loopLaw (s : State) (n k : Nat) (close : Option Int) (bump : Bool) (w pv : Int) : State :=
  let x := s.loopRec n
  let (kp, ki, kd, al) := s.loopBank n (s.get (Reg.LCE_LOOP_STATE_BANK_ACT n))
  let sg : Int := if s.flag (Reg.LCE_LOOP_CFG_REVERSE n) then -1 else 1
  let lo := s.loopLo n
  let hi := s.loopHi n
  let e := saturate 32 (sg * (w - pv))
  let p := sat32 (roundDiv (kp * e) (2 ^ 16))
  let ((ff, satF), s1) := s.loopFf n k
  let dterm := saturate 32 (roundDiv (kd * (sg * (x.pvPrev - pv))) (2 ^ 16))
  let d := saturate 32 (roundDiv ((al : Int) * x.d + ((65536 : Int) - al) * dterm) (2 ^ 16))
  let i0 := match close with
    | some u => max lo (min hi (u - p.1 - ff))
    | none => if bump then saturate 32 (x.u - p.1 - d - ff) else x.i
  let ic := saturate 32 (i0 + roundDiv (ki * e) (2 ^ 16))
  let uc := saturate 32 (p.1 + ic + d + ff)
  let hold := (decide (hi < uc) && decide (0 < ki * e)) || (decide (uc < lo) && decide (ki * e < 0))
  let i := clampF lo hi (if hold then i0 else ic)
  let u := clampF lo hi (p.1 + i.1 + d + ff)
  let y := s1.loopFriction n u.1
  let s2 := s1.setLoop { x with u := u.1, i := i.1, d := d, pvPrev := pv }
  (s2.put (Reg.LCE_LOOP_Y_Y n) (unsigned 32 y.1)).loopSat n p.2 (hold || i.2) (u.2 || y.2) satF

/-- The model of R589 on an execution with PV valid. -/
def State.loopModel (s : State) (n : Nat) (pv : Int) : State :=
  let x := s.loopRec n
  let md := s.get (Reg.LCE_LOOP_MODEL_MD n)
  let ud := if md = 0 then x.u else x.line.getD (md - 1) 0
  let g := saturate 32 (roundDiv (s.getS (Reg.LCE_LOOP_MG_MG n) * (ud - x.u0)) (2 ^ 16))
  let dy := saturate 32 (x.dy + roundDiv ((s.get (Reg.LCE_LOOP_MODEL_MB n) : Int) * (g - x.dy)) (2 ^ 16))
  let r := saturate 32 (pv - x.pv0 - dy)
  (s.setLoop { x with dy := dy, line := (x.u :: x.line).take 64 }).put (Reg.LCE_LOOP_RES_R n) (unsigned 32 r)

/-- Supervision in CLOSED (R589). -/
def State.loopSupervise (s : State) (n : Nat) : State :=
  let x := s.loopRec n
  if !s.flag (Reg.LCE_LOOP_CTRL_SUP_EN n) then s
  else if (s.getS (Reg.LCE_LOOP_RES_R n)).natAbs ≤ s.get (Reg.LCE_LOOP_BAND_BAND n) then s.setLoop { x with overs := 0 }
  else
    let s1 := s.setLoop { x with overs := x.overs + 1 }
    if s.get (Reg.LCE_LOOP_SUP_BTIME n) ≤ x.overs + 1 then s1.loopFall n 1 else s1

/-- A loop is due at tick k (R578). -/
def State.loopDue (s : State) (n k : Nat) : Bool :=
  let period := s.get (Reg.LCE_LOOP_SCHED_PERIOD n)
  period != 0 && k % period == s.get (Reg.LCE_LOOP_SCHED_PHASE n)

/-- A due loop that has still to execute at tick k: it is not OFF, or an OP takes it out of OFF (R578, R588). -/
def State.loopWaits (s : State) (n k : Nat) : Bool :=
  let x := s.loopRec n
  s.loopDue n k && x.last.all (fun m => decide (m < k)) && (s.loopSt n != loOff || x.op == 1 || x.op == 2)

/-- The start of an execution of tick k (R578): d_k + 6 µs, and 0.5 µs for each loop before it. -/
def State.loopStart (s : State) (n k : Nat) : Nat :=
  let before := ((List.range n).filter fun m => (s.loopRec m).last == some k).length
  s.decisionInstant k + (6000 + 500 * before) * nsUnit

/-- Length of a SET frame: 34 bytes, padded to the shortest Ethernet frame. -/
def setFrameLen : Nat := 60

/-- A SET frame for a y, or SAFE_OUT in safe mode, handed to the switch core at the end of the execution: from core port 16 to the
device's port in TC2 (R578, R591, R592). -/
def State.loopSend (s : State) (n k : Nat) (y : Option Int) (safe : Bool) (target : Int) : State :=
  let out := if s.pair.safeMode then some (s.loopSafe n) else y
  let d := s.get (Reg.LCE_LOOP_OUT_DEV n)
  match out with
  | none => s
  | some v =>
    if !s.flag (Reg.LCE_LOOP_OUT_SEND n) then s
    else if !s.pair.gateOpen then s.count Reg.LCE_TX_GATED_COUNT
    else
      let flags := (if safe || s.pair.safeMode then 1 else 0) + (if s.getS (Reg.LCE_LOOP_W_W n) = target then 0 else 2)
      let s1 := ((s.emit (.loopSet d (s.get (Reg.LCE_LOOP_OUT_CH n)) flags v k)).count Reg.LCE_TX_COUNT).advance (s.loopStart n k + 500 * nsUnit)
      let ports := s1.egress 16 0x88B6 (2 ^ (10 + s1.get (Reg.LCE_DEV_CFG_PORT d))) none false
      s1.unitSend 16 2 0x88B6 (s1.get (Reg.LCE_DEV_ADDR_LO_ADDR d) + s1.get (Reg.LCE_DEV_CFG_ADDR d) * 2 ^ 32) setFrameLen [] ports

/-! ### An execution (R578, R588) -/

/-- What a waiting OP does at an execution: the state with the loop's new state, U of a close, and whether the loop executes. -/
def State.loopApplyOp (s : State) (n : Nat) : State × Option Int × Bool :=
  let x := s.loopRec n
  let s0 := s.setLoop { x with op := 0 }
  let man := s.getS (Reg.LCE_LOOP_MAN_U n)
  let y := s.getS (Reg.LCE_LOOP_Y_Y n)
  let st := s.loopSt n
  if x.op = 3 then (s0.loopGo n loOff, none, false)
  else if x.op = 1 && st ≠ loClosed then (s0.loopGo n loClosed, some (if st = loFallback then y else man), true)
  else if x.op = 2 && st = loOff then (s0.loopGo n loOpen, none, true)
  else if x.op = 2 && st ≠ loOpen then ((s0.put (Reg.LCE_LOOP_MAN_U n) (unsigned 32 y)).loopGo n loOpen, none, true)
  else if st = loOff then (s0, none, false)
  else if x.reclose && st = loClosed then
    let u := if s.get (Reg.LCE_LOOP_CFG_POS_KIND n) = 2 then ((s.loopReport n).bind DevReport.good).getD y else y
    (s0, some u, true)
  else (s0, none, true)

/-- The model and the integrator at a close with output U (R588, R589). -/
def loopClose (u pv : Int) (x : LoopRec) : LoopRec :=
  { x with u := u, d := 0, pvPrev := pv, u0 := u, pv0 := pv, dy := 0, line := List.replicate 64 u, overs := 0, bad := 0, reclose := false }

/-- The execution of a loop that is not OFF (R588–R590). -/
def State.loopRun (s : State) (n k : Nat) (close : Option Int) : State :=
  let sw := s.get (Reg.LCE_LOOP_CTRL_BANK n) != s.get (Reg.LCE_LOOP_STATE_BANK_ACT n)
  let s1 := (s.put (Reg.LCE_LOOP_STATE_BANK_ACT n) (s.get (Reg.LCE_LOOP_CTRL_BANK n))).eventIf sw 142
  let bump := sw && close.isNone && s1.flag (Reg.LCE_LOOP_CTRL_BUMPLESS n)
  let (target, s2) := s1.loopTarget n k
  let (pv, ok) := s2.loopPv n k
  let x := s2.loopRec n
  let changed := x.sPrev.any fun v => v != target
  let x1 := { x with sPrev := some target }
  let x2 := match close with
    | some u => loopClose u pv x1
    | none => x1
  let s3 := (s2.setLoop x2).put (Reg.LCE_LOOP_PV_PV n) (unsigned 32 pv)
  let st := s3.loopSt n
  if st = loOpen then
    let u := clampF (s3.loopLo n) (s3.loopHi n) (s3.getS (Reg.LCE_LOOP_MAN_U n))
    let y := s3.loopFriction n u.1
    let s4 := ((s3.setLoop { x2 with u := u.1 }).put (Reg.LCE_LOOP_Y_Y n) (unsigned 32 y.1)).loopSat n false false y.2 false
    (if ok then s4.loopModel n pv else s4).loopSend n k (some y.1) false target
  else if st = loClosed then
    if ok then
      let w := s3.loopW n close.isSome changed target pv
      let s4 := ((s3.setLoop { x2 with bad := 0 }).put (Reg.LCE_LOOP_W_W n) (unsigned 32 w)).loopLaw n k close bump w pv
      let s5 := (s4.loopModel n pv).loopSupervise n
      s5.loopSend n k (some (s5.getS (Reg.LCE_LOOP_Y_Y n))) false target
    else
      let s4 := match close with
        | some u => s3.put (Reg.LCE_LOOP_Y_Y n) (unsigned 32 u)
        | none => s3
      let s5 := (s4.setLoop { x2 with bad := x2.bad + 1 }).event 140
      let s6 := if s5.get (Reg.LCE_LOOP_SUP_PV_TOL n) < x2.bad + 1 then s5.loopFall n 2 else s5
      s6.loopSend n k (some (s6.getS (Reg.LCE_LOOP_Y_Y n))) false target
  else
    let s4 := if ok then s3.loopModel n pv else s3
    match s4.get (Reg.LCE_LOOP_CTRL_FB_MODE n) with
    | 0 => s4.loopSend n k (some (s4.getS (Reg.LCE_LOOP_Y_Y n))) false target
    | 1 => (s4.put (Reg.LCE_LOOP_Y_Y n) (unsigned 32 (s4.loopSafe n))).loopSend n k (some (s4.loopSafe n)) true target
    | _ => s4.loopSend n k none false target

/-- LOOP_EXECUTE (R578): a due loop of tick k, not before d_k + 6 µs and not before the due loops with lower numbers. -/
def loopExecute (n k : Nat) (s : State) : State :=
  if decide (128 ≤ n) || !s.flag Reg.LCE_CTRL_EN || !s.tg.running || !s.loopWaits n k || (List.range n).any (fun m => s.loopWaits m k) then s
  else
    let s1 := (s.advance (s.loopStart n k)).setLoop { s.loopRec n with last := some k }
    let (s2, close, runs) := s1.loopApplyOp n
    if runs then (s2.countMod Reg.LCE_EXEC_COUNT 1).loopRun n k close else s2

def execLoopExecute (loop tick : Nat) (s : State) : Host.Outcome State Fault Refusal := .next (loopExecute loop tick s)

/-! ### Device reports (R591) -/

/-- A loop that is not OFF uses a device channel's report. -/
def State.reportUsed (s : State) (d ch : Nat) : Bool :=
  (List.range 128).any fun n => s.loopSt n ≠ loOff && s.get (Reg.LCE_LOOP_OUT_DEV n) = d && s.get (Reg.LCE_LOOP_OUT_CH n) = ch &&
    (s.get (Reg.LCE_LOOP_SRC_PV_KIND n) = 3 || s.get (Reg.LCE_LOOP_SRC_FF_KIND n) = 3 || s.get (Reg.LCE_LOOP_CFG_POS_KIND n) = 2)

/-- The device and channel that a report matches. -/
def State.reportMatch (s : State) (src ch : Nat) : Option Nat :=
  (List.range 32).find? fun d => s.flag (Reg.LCE_DEV_CFG_EN d) &&
    s.get (Reg.LCE_DEV_ADDR_LO_ADDR d) + s.get (Reg.LCE_DEV_CFG_ADDR d) * 2 ^ 32 = src &&
    (List.range 128).any fun n => s.get (Reg.LCE_LOOP_OUT_DEV n) = d && s.get (Reg.LCE_LOOP_OUT_CH n) = ch

/-- DEVICE_REPORT_RX (R591): `src` as the address registers hold it; a report with STATUS bit 0 counts as stale. -/
def deviceReportRx (src type ch status position value now : Nat) (s : State) : State :=
  if !s.flag Reg.LCE_CTRL_EN then s
  else
    let s0 := s.advance (now * nsUnit)
    match s0.reportMatch src ch, type == 0x41 with
    | some d, true =>
      let bad := status % 2 == 1
      let was := s0.reportStale d (s0.reportOf d ch)
      let good := if bad then (s0.reportOf d ch).bind DevReport.good else some (signed 32 position)
      let r : DevReport := { key := 256 * d + ch, at' := s0.ns, fault := bad, position := signed 32 position, value := signed 32 value,
                             seen := bad, good := good }
      let s1 := ({ s0 with lce := { s0.lce with reports := setKey DevReport.key r s0.lce.reports } }.count Reg.LCE_REPORT_RX_COUNT)
      if bad then (if !was && s1.reportUsed d ch then (s1.event 143).raiseAt 0x1202 1 d d else s1)
      else s1.clearFault 0x1202 d
    | _, _ => s0.count Reg.LCE_REPORT_BAD_COUNT

def execDeviceReportRx (src type ch status position value now : Nat) (s : State) : Host.Outcome State Fault Refusal :=
  .next (deviceReportRx src type ch status position value now s)

/-- DEVICE_REPORT_STALE (R591): TIMEOUT_MS passes after the arrival of a report. -/
def deviceReportStale (d ch now : Nat) (s : State) : State :=
  if !s.flag Reg.LCE_CTRL_EN || decide (32 ≤ d) then s
  else
    let s0 := s.advance (now * nsUnit)
    match s0.reportOf d ch with
    | none => s0
    | some r =>
      if r.seen || !s0.reportStale d (some r) then s0
      else
        let s1 := { s0 with lce := { s0.lce with reports := setKey DevReport.key { r with seen := true } s0.lce.reports } }
        if s1.reportUsed d ch then (s1.event 143).raiseAt 0x1202 1 d d else s1

def execDeviceReportStale (dev ch now : Nat) (s : State) : Host.Outcome State Fault Refusal := .next (deviceReportStale dev ch now s)

end Sys2Proof.Machine
end

