-- ==== Sys2Proof/Machine/Reckoner.lean ====
section
/-! DEFINITION. The Reckoner's district model: number formats, records, loads, rules, adaptation (R598–R603, R622, R625, R626). -/

namespace Sys2Proof.Machine

/-! ### IEEE 754 numbers as rationals -/

/-- 2 to an integer power. -/
def pow2 (e : Int) : Rat := if 0 ≤ e then ((2 ^ e.toNat : Nat) : Rat) else 1 / ((2 ^ (-e).toNat : Nat) : Rat)

/-- The value of a binary32 word; none for an infinity or a NaN. -/
def f32 (w : Nat) : Option Rat :=
  let m : Nat := w % 2 ^ 23
  let e : Nat := w / 2 ^ 23 % 256
  let v : Rat := if e = 0 then (m : Rat) * pow2 (-149) else ((m + 2 ^ 23 : Nat) : Rat) * pow2 ((e : Int) - 150)
  if e = 255 then none else some (if w / 2 ^ 31 % 2 = 1 then -v else v)

/-- The value of a finite binary32 word; 0 where it is not finite. -/
def f32v (w : Nat) : Rat := (f32 w).getD 0

/-- Rounding to the nearest integer, ties to even. -/
def roundEven (x : Rat) : Int :=
  let f := x.floor
  let d := x - (f : Rat)
  if d < 1 / 2 then f else if 1 / 2 < d then f + 1 else if f % 2 = 0 then f else f + 1

/-- Exponent of the unit in the last place of a non-zero number with `bits` significand bits. -/
def ulpExp (bits : Nat) (low : Int) (x : Rat) : Int :=
  let n := x.num.natAbs
  let k : Int := (Nat.log2 n : Int) - Nat.log2 x.den
  let k1 := if (n : Rat) < pow2 k * (x.den : Rat) then k - 1 else k
  max low (k1 - (bits - 1 : Nat))

/-- A number rounded to `bits` significand bits, ties to even. -/
def roundTo (bits : Nat) (low : Int) (x : Rat) : Rat :=
  if x = 0 then 0 else let e := ulpExp bits low x; (roundEven (x / pow2 e) : Rat) * pow2 e

/-- Rounding to binary64. -/
def r64 (x : Rat) : Rat := roundTo 53 (-1074) x

/-- The binary32 word of a number. -/
def toF32 (x : Rat) : Nat :=
  if x = 0 then 0
  else
    let e := ulpExp 24 (-149) x
    let q := (roundEven (x / pow2 e)).natAbs
    let (q1, e1) := if q = 2 ^ 24 then (2 ^ 23, e + 1) else (q, e)
    let s := if x < 0 then 2 ^ 31 else 0
    if q1 < 2 ^ 23 then s + q1
    else if 255 ≤ e1 + 150 then s + 255 * 2 ^ 23
    else s + (e1 + 150).toNat * 2 ^ 23 + (q1 - 2 ^ 23)

/-- Rounding half away from zero to an integer (R8). -/
def roundRat (x : Rat) : Int := roundDiv x.num x.den

/-! ### Records (R599–R601) -/

/-- Little-endian number of k bytes at offset i. -/
def leAt (b : List Nat) (i k : Nat) : Nat := ((List.range k).map fun j => b.getD (i + j) 0 % 256 * 256 ^ j).sum

/-- Fields of a record by their byte offset in the record. -/
def RckRec.u8 (r : RckRec) (o : Nat) : Nat := leAt r.body (o - 16) 1
def RckRec.u16 (r : RckRec) (o : Nat) : Nat := leAt r.body (o - 16) 2
def RckRec.u32 (r : RckRec) (o : Nat) : Nat := leAt r.body (o - 16) 4
def RckRec.u64 (r : RckRec) (o : Nat) : Nat := leAt r.body (o - 16) 8
def RckRec.f (r : RckRec) (o : Nat) : Rat := f32v (r.u32 o)

/-- Record types (R599). -/
def tyPlant : Nat := 1
def tyStore : Nat := 2
def tyPump : Nat := 3
def tySubst : Nat := 4
def tyJunction : Nat := 5
def tyGrid : Nat := 6
def tyPipe : Nat := 7
def tySeries : Nat := 8
def tyReport : Nat := 9

/-- The key under which a record replaces another: TYPE and ID, a SERIES also by QTY (R603). -/
def RckRec.key (r : RckRec) : Nat := r.type * 65536 + (if r.type = tySeries then r.id * 8 + r.u8 16 % 8 else r.id)

/-- Nodes in ascending id, edges in ascending id. -/
def nodesOf (m : List RckRec) : List RckRec :=
  (m.filter fun r => decide (r.type ≤ 6)).foldl (fun l r => setKey RckRec.id r l) []
def edgesOf (m : List RckRec) : List RckRec := m.filter fun r => r.type = tyPipe

/-- The node, the series and the report of an id. -/
def nodeOf (m : List RckRec) (id : Nat) : Option RckRec := m.find? fun r => decide (r.type ≤ 6) && r.id == id
def seriesOf (m : List RckRec) (id qty : Nat) : Option RckRec := m.find? fun r => r.type == tySeries && r.id == id && r.u8 16 == qty
def reportRec (m : List RckRec) (id : Nat) : Option RckRec := m.find? fun r => r.type == tyReport && r.id == id

/-- Segments of a plant: width and MU. -/
def segs (r : RckRec) : List (Rat × Rat) := (List.range (r.u8 17)).map fun j => (r.f (64 + 8 * j), r.f (68 + 8 * j))

/-- Δ in ns, and Δ_h in hours (R599, R602). -/
def State.rckDelta (s : State) : Nat := s.get Reg.RCK_CFG_STEP_MIN * 60000000000
def State.rckHours (s : State) : Rat := (s.get Reg.RCK_CFG_STEP_MIN : Rat) / 60

/-- The value of a series in the step that starts at t, and whether the step was filled in (R602). -/
def seriesAt (delta t : Nat) (r : RckRec) : Rat × Bool :=
  let start := r.u64 20
  let n := r.u16 18
  if t < start then (r.f 32, true)
  else
    let i := (t - start) / delta
    if i < n then (r.f (32 + 4 * i), false) else (r.f (32 + 4 * (n - 1)), true)

/-- LEN of a record (R600, R601). -/
def lenOk (type len : Nat) (b : List Nat) : Bool :=
  match type with
  | 1 => len == 128
  | 2 => len == 64
  | 3 => len == 32
  | 4 => len == 64
  | 5 => len == 16
  | 6 => len == 80
  | 7 => len == 32
  | 8 => len == (32 + 4 * leAt b 18 2 + 7) / 8 * 8
  | 9 => len == 40
  | _ => false

/-- Bytes i to j of a record are 0. -/
def zeros (r : RckRec) (i j : Nat) : Bool := ((r.body.drop (i - 16)).take (j + 1 - i)).all fun b => b % 256 == 0

/-- Offsets of the binary32 fields of a type. -/
def floatsOf (r : RckRec) : List Nat :=
  match r.type with
  | 1 => [24, 28, 32, 36, 40, 44, 48, 56, 60] ++ (List.range 16).map fun j => 64 + 4 * j
  | 2 => [16, 20, 24, 28, 32, 36, 44, 48]
  | 3 => [16, 20]
  | 4 => (List.range 11).map fun j => 16 + 4 * j
  | 6 => [16, 20, 24, 28, 32, 52, 56, 60, 64]
  | 7 => [20, 24]
  | 8 => (List.range (r.u16 18)).map fun j => 32 + 4 * j
  | 9 => [24, 28, 32]
  | _ => []

/-- A list of numbers does not decrease. -/
def nonDecreasing (l : List Rat) : Bool := (l.zip l.tail).all fun p => decide (p.1 ≤ p.2)

/-- The values of a record lie inside their stated ranges (R600, R601, R603). -/
def recordOk (delta : Nat) (r : RckRec) : Bool :=
  let ref := fun (o lim : Nat) => decide (r.u16 o < lim) || r.u16 o == 0xFFFF
  let fin := (floatsOf r).all fun o => (f32 (r.u32 o)).isSome
  fin && match r.type with
  | 1 =>
    let k := r.u8 16
    let n := r.u8 17
    decide (k ≤ 4) && decide (1 ≤ n) && decide (n ≤ 8) && decide (r.net ≤ 1) &&
      (if k = 2 || k = 3 || k = 4 then decide (r.u16 18 < 4096) else r.u16 18 == 0xFFFF) &&
      (if k = 1 then decide (r.u16 20 < 4096) else r.u16 20 == 0xFFFF) && ref 22 64 && decide (0 ≤ r.f 24) &&
      (decide (k ≤ 1) || decide (r.f 36 = 0)) && (k == 1 || decide (r.f 40 = 0)) && decide (0 ≤ r.f 44) && decide (0 ≤ r.f 48) &&
      ref 52 128 && zeros r 54 55 && ((segs r).all fun x => decide (0 < x.1) && decide (0 ≤ x.2)) &&
      nonDecreasing ((segs r).map Prod.snd) && zeros r (64 + 8 * n) 127
  | 2 => decide (r.net ≤ 1) && decide (r.f 16 ≤ r.f 20) && decide (0 ≤ r.f 32) && decide (r.f 32 ≤ 1 / 10) && ref 40 128 && ref 42 64 &&
      zeros r 52 63
  | 3 => decide (r.net ≤ 1) && decide (r.u16 24 < 4096) && zeros r 26 31
  | 4 => decide (r.net ≤ 1) && decide (r.f 40 ≤ r.f 20) && decide (r.f 20 ≤ r.f 44) && decide (1 ≤ r.f 48) &&
      decide (r.f 48 ≤ r.f 24) && decide (r.f 24 ≤ r.f 52) && zeros r 60 63
  | 5 => decide (r.net ≤ 1)
  | 6 => r.net == 2 && decide (60 ≤ r.u32 36) && decide (r.u32 36 ≤ 86400) && decide (r.u8 40 ≤ 4) && decide (r.u8 41 ≤ 1) &&
      zeros r 42 43 && ((List.range (min 4 (r.u8 40))).all fun i => decide (r.u16 (44 + 2 * i) < 4096)) && zeros r 68 79
  | 7 => decide (r.net ≤ 1) && decide (r.u16 16 < 4096) && decide (r.u16 18 < 4096) && decide (0 < r.f 20) && decide (0 ≤ r.f 24) &&
      decide (r.f 24 < 1 / 2) && decide (r.u8 28 ≤ 16) && zeros r 29 31
  | 8 => r.net == 0 && decide (r.u8 16 ≤ 4) && r.u8 17 == 0 && decide (1 ≤ r.u16 18) && decide (r.u16 18 ≤ 192) &&
      r.u64 20 % delta == 0 && zeros r 28 31
  | 9 => r.net == 0 && zeros r 32 39
  | _ => false

/-- The header of a record and its body are acceptable (R599, R603); a DELETE needs only its header (and the QTY of a SERIES). -/
def recAccept (delta mode : Nat) (b : List Nat) : Bool :=
  let r : RckRec := ⟨leAt b 0 1, leAt b 4 2, leAt b 6 1, leAt b 7 1, b.drop 16⟩
  let ids := if r.type = tyPipe then decide (r.id < 8192) else decide (r.id < 4096)
  lenOk r.type b.length b && ids && decide (leAt b 7 1 ≤ 3) && leAt b 8 8 == 0 &&
    (r.flags % 2 == 0 || mode == 1) && (r.flags / 2 == 0 || r.type == tySubst) && (r.flags % 2 == 1 || recordOk delta r)

/-- The record of its bytes. -/
def rckRecOf (b : List Nat) : RckRec := ⟨leAt b 0 1, leAt b 4 2, leAt b 6 1, leAt b 7 1, (b.drop 16).map (· % 256)⟩

/-- A buffer cut into records; `true` where they do not fill it exactly. -/
def cutRecs : Nat → List Nat → List (List Nat) × Bool
  | 0, b => ([], !b.isEmpty)
  | k + 1, b =>
    if b.isEmpty then ([], false)
    else
      let n := leAt b 2 2
      if b.length < 16 || n < 16 || n % 8 ≠ 0 || b.length < n then ([], true)
      else let (l, bad) := cutRecs k (b.drop n); (b.take n :: l, bad)

/-- Whether node id lies in a slice's range (R161, R598). -/
def State.rckOwns (s : State) (slice id : Nat) : Bool :=
  slice == 0 || (decide (s.get (Reg.SLC_SLICE_RCKR_NODE_BASE slice) ≤ id) &&
    decide (id < s.get (Reg.SLC_SLICE_RCKR_NODE_BASE slice) + s.get (Reg.SLC_SLICE_RCKR_NODE_COUNT slice)))

/-- The node that decides whose a record is. -/
def ownerNode (r : RckRec) : Nat := if r.type = tyPipe then r.u16 16 else r.id

/-- A record that a slice may load: an edge by its FROM node, also the one that it replaces or deletes (R598). -/
def State.rckMay (s : State) (slice : Nat) (r : RckRec) : Bool :=
  if r.type = tyPipe then
    let old := s.rck.model.find? fun x => x.key == r.key
    (r.flags % 2 == 1 || s.rckOwns slice (r.u16 16)) && old.all fun x => s.rckOwns slice (x.u16 16)
  else s.rckOwns slice r.id

/-- One record applied: the model, and whether a REPORT was discarded as old (R601). -/
def applyRec (m : List RckRec) (r : RckRec) : List RckRec × Bool :=
  if r.flags % 2 = 1 then (dropKey RckRec.key r.key m, false)
  else if r.type = tyReport && (reportRec m r.id).any (fun x => decide (r.u64 16 ≤ x.u64 16)) then (m, true)
  else (setKey RckRec.key r m, false)

/-- A reference names a node of a type. -/
def refIs (m : List RckRec) (id type : Nat) : Bool := (nodeOf m id).any fun x => x.type == type

/-- The model as a whole holds together (R603). -/
def modelOk (m : List RckRec) : Bool :=
  m.all fun r => match r.type with
    | 7 => match nodeOf m (r.u16 16), nodeOf m (r.u16 18) with
      | some a, some b => a.net == b.net && a.net == r.net && a.type != tyGrid
      | _, _ => false
    | 8 => refIs m r.id (if r.u8 16 ≤ 1 then tySubst else tyGrid)
    | 9 => refIs m r.id tySubst || refIs m r.id tyStore || refIs m r.id tyPlant
    | t => (m.filter fun x => decide (x.type ≤ 6) && x.id == r.id).length == 1 && match t with
      | 1 => (if r.u8 16 = 2 || r.u8 16 = 3 then refIs m (r.u16 18) tyGrid
          else r.u8 16 != 4 || (nodeOf m (r.u16 18)).any fun x => x.net == 0) &&
          (r.u8 16 != 1 || refIs m (r.u16 20) tyGrid)
      | 3 => refIs m (r.u16 24) tyGrid
      | _ => true

/-! ### Adaptation of sub-stations (R625, R626) -/

/-- UA and TAU of a sub-station's estimate, limited and rounded (R625). -/
def estUa (e : RckEst) : Rat := if e.phi.2 = 0 then 0 else r64 (e.phi.1 / e.phi.2)
def estTau (e : RckEst) : Rat := if e.phi.1 = 0 then 0 else r64 (1 / e.phi.1)

/-- The estimator that a SUBST record starts with. -/
def estInit (r : RckRec) : RckEst :=
  let a := r64 (1 / r.f 24)
  let b := r64 (1 / (r.f 24 * r.f 20))
  { node := r.id, phi := (a, b), pm := [r64 (100 * a * a), 0, 0, r64 (100 * b * b)] }

/-- The estimator of a node. -/
def State.estOf (s : State) (r : RckRec) : RckEst := (findKey RckEst.node r.id s.rck.est).getD (estInit r)
def State.setEst (s : State) (e : RckEst) : State := { s with rck := { s.rck with est := setKey RckEst.node e s.rck.est } }

/-- A value limited to ±rate ‰ of its present value, then clamped. -/
def rateLimit (rate : Nat) (now v lo hi : Rat) : Rat :=
  let d := now * (rate : Rat) / 1000
  max lo (min hi (max (now - d) (min (now + d) v)))

/-- The update of φ and Pm (R625), each assignment rounded to binary64. -/
def estStep (lam rate ex : Rat) (r1 r2 : Rat) (r : RckRec) (e : RckEst) : RckEst :=
  let a := e.pm.getD 0 0
  let b := e.pm.getD 1 0
  let c := e.pm.getD 2 0
  let d := e.pm.getD 3 0
  let v1 := r64 (a * r1 + b * r2)
  let v2 := r64 (c * r1 + d * r2)
  let den := r64 (lam + r1 * v1 + r2 * v2)
  let g1 := r64 (v1 / den)
  let g2 := r64 (v2 / den)
  let w1 := r64 (r1 * a + r2 * c)
  let w2 := r64 (r1 * b + r2 * d)
  let pm := [r64 ((a - g1 * w1) / lam), r64 ((b - g1 * w2) / lam), r64 ((c - g2 * w1) / lam), r64 ((d - g2 * w2) / lam)]
  let t0 := let p := (estInit r).pm; p.getD 0 0 + p.getD 3 0
  let t := pm.getD 0 0 + pm.getD 3 0
  let pm1 := if t0 < t then pm.map fun x => r64 (x * t0 / t) else pm
  let f1 := r64 (e.phi.1 + g1 * ex)
  let f2 := r64 (e.phi.2 + g2 * ex)
  let ua := rateLimit rate.num.natAbs (estUa e) (if f2 = 0 then 2 * estUa e else r64 (f1 / f2)) (r.f 40) (r.f 44)
  let tau := rateLimit rate.num.natAbs (estTau e) (if f1 = 0 then 2 * estTau e else r64 (1 / f1)) (r.f 48) (r.f 52)
  { e with phi := (r64 (1 / tau), r64 (1 / (tau * ua))), pm := pm1, updates := (e.updates + 1) % 65536 }

/-- ADAPT_UA, ADAPT_TAU and ADAPT_STAT show the node that ADAPT_SEL selects (R626). -/
def State.showEst (s : State) : State :=
  match (nodeOf s.rck.model (s.get Reg.RCK_ADAPT_SEL_NODE)).filter fun r => r.type == tySubst with
  | none => ((s.put Reg.RCK_ADAPT_UA_V 0).put Reg.RCK_ADAPT_TAU_V 0).put Reg.RCK_ADAPT_STAT_FROZEN 0 |>.put Reg.RCK_ADAPT_STAT_UPDATES 0
  | some r =>
    let e := s.estOf r
    (((s.put Reg.RCK_ADAPT_UA_V (toF32 (estUa e))).put Reg.RCK_ADAPT_TAU_V (toF32 (estTau e))).putFlag
      Reg.RCK_ADAPT_STAT_FROZEN e.frozen).put Reg.RCK_ADAPT_STAT_UPDATES e.updates

/-- A report i of a SUBST after report i − 1 (R625, R626). -/
def State.adapt (s : State) (node old new : RckRec) : State :=
  match seriesOf s.rck.model node.id 1 with
  | none => s
  | some ser =>
    let dt := new.u64 16 - old.u64 16
    if dt * 60 < 3600000000000 || 4 * 3600000000000 < dt then s
    else
      let h := r64 ((dt : Rat) / 3600000000000)
      let mid := old.u64 16 + dt / 2
      let th := (seriesAt s.rckDelta (mid / s.rckDelta * s.rckDelta) ser).1
      let e := s.estOf node
      let yv := r64 ((new.f 24 - old.f 24) / h)
      let r1 := -(r64 (old.f 24 - th))
      let r2 := if node.net = 0 then new.f 28 else -(new.f 28)
      let ex := r64 (yv - (r1 * e.phi.1 + r2 * e.phi.2))
      let n := s.get Reg.RCK_ADAPT_FREEZE_N
      if node.f 56 < max ex (-ex) then
        let e1 := { e with skips := e.skips + 1, goods := 0 }
        if !e.frozen && decide (n ≤ e1.skips) then
          ((s.setEst { e1 with frozen := true }).event 150).raiseRecord 0x1306 0 node.id 0xFFFF node.id
        else s.setEst e1
      else if e.frozen then
        if n ≤ e.goods + 1 then s.setEst { e with skips := 0, goods := 0, frozen := false }
        else s.setEst { e with skips := 0, goods := e.goods + 1 }
      else
        let e1 := { e with skips := 0 }
        let p := e.pm
        let quad := r1 * (p.getD 0 0 * r1 + p.getD 1 0 * r2) + r2 * (p.getD 2 0 * r1 + p.getD 3 0 * r2)
        if 1 / 1000000000000 ≤ quad then
          s.setEst (estStep ((s.get Reg.RCK_ADAPT_FORGET : Rat) / 65536) (s.get Reg.RCK_ADAPT_RATE_MAX : Rat) ex r1 r2 node e1)
        else s.setEst e1

/-! ### RCK_MODEL_LOAD (R603) -/

/-- A record of an accepted load takes effect: a SUBST record resets its estimator, a REPORT may update it. -/
def State.loadRec (s : State) (r : RckRec) : State :=
  let (m, stale) := applyRec s.rck.model r
  if stale then s.count Reg.RCK_REP_OLD_COUNT
  else
    let old := reportRec s.rck.model r.id
    let s1 := { s with rck := { s.rck with model := m } }
    if r.type = tySubst && r.flags / 2 % 2 = 0 then { s1 with rck := { s1.rck with est := dropKey RckEst.node r.id s1.rck.est } }
    else if r.type = tyReport && r.flags % 2 = 0 && s.flag Reg.RCK_CTRL_ADAPT_EN then
      match (nodeOf m r.id).filter fun x => x.type == tySubst, old with
      | some node, some o => s1.adapt node o r
      | _, _ => s1
    else s1

/-- Records of the issuing slice leave (R603, MODE 0). -/
def State.rckClear (s : State) (slice : Nat) : State :=
  { s with rck := { s.rck with model := s.rck.model.filter fun r => !s.rckOwns slice (ownerNode r) } }

/-- The status and RESULT of a load in the order of R70 (R603); `barred` is a service console without a proof (R650). -/
def State.loadCheck (s : State) (barred : Bool) (slice len mode : Nat) (buf : List Nat) : Status × Nat :=
  let (l, bad) := cutRecs (len / 16 + 1) (buf.take len)
  let rs := l.map rckRecOf
  let base := if mode = 0 then (s.rckClear slice).rck.model else s.rck.model
  let m := rs.foldl (fun m r => (applyRec m r).1) base
  match l.findIdx? (fun b => leAt b 1 1 ≠ 1) with
  | some i => (.version, i)
  | none =>
    match l.findIdx? (fun b => !recAccept s.rckDelta mode b) with
    | some i => (.param, i)
    | none =>
      if decide (1 < mode) || bad || decide (buf.length < len) || !modelOk m then (.param, 0xFFFFFFFF)
      else if barred || rs.any fun r => !s.rckMay slice r then (.priv, 0)
      else if !stRun.contains s.st then (.state, 0)
      else if decide (64 * 2 ^ 20 < (m.map fun r => 16 + r.body.length).sum) then (.nores, 0)
      else (.ok, 0)

/-- RCK_MODEL_LOAD (R603, R627): the load applies completely or not at all. -/
def rckModelLoad (q : Req) (len mode : Nat) (buf : List Nat) (s : State) : State :=
  if !s.reaches 0x80 q then s
  else if q.version ≠ 1 then s.complete q .version 0 0
  else
    let (st, res) := s.loadCheck (q.ring.isNone && !s.keys.console) q.slice len mode buf
    if st ≠ .ok then s.complete q st res 0
    else
      let rs := (cutRecs (len / 16 + 1) (buf.take len)).1.map rckRecOf
      let s1 := if mode = 0 then s.rckClear q.slice else s
      let s2 := rs.foldl (fun s r => s.loadRec r) s1
      let olds := (rs.foldl (fun (a : List RckRec × Nat) r =>
        let (m, b) := applyRec a.1 r; (m, if b then a.2 + 1 else a.2)) (s1.rck.model, 0)).2
      (s2.showEst.event 151).complete q .ok (rs.length - olds) 0

def execRckModelLoad (q : Req) (len mode : Nat) (buf : List Nat) (s : State) : Host.Outcome State Fault Refusal :=
  .next (rckModelLoad q len mode buf s)

/-! ### RCK_RULES_LOAD (R622) -/

/-- A rule of its 40 bytes. -/
def ruleOf (b : List Nat) : RckRule :=
  let n := leAt b 6 1
  { node := leAt b 0 2, qty := leAt b 2 1, input := leAt b 3 1, tgt := leAt b 4 2,
    xs := (List.range n).map fun i => f32v (leAt b (8 + 4 * i) 4), vs := (List.range n).map fun i => f32v (leAt b (24 + 4 * i) 4) }

/-- Whether a QTY is one that a node of a type has a rule for (R619, R622). -/
def qtyFits (type qty : Nat) : Bool :=
  (type == tyPlant && qty == 0) || (type == tyStore && qty == 1) || (type == tySubst && qty == 2) || (type == tyGrid && (qty == 4 || qty == 5))

/-- A rule is well formed (R622). -/
def ruleOk (m : List RckRec) (b : List Nat) : Bool :=
  let n := leAt b 6 1
  let r := ruleOf b
  let fin := (List.range n).all fun i => (f32 (leAt b (8 + 4 * i) 4)).isSome && (f32 (leAt b (24 + 4 * i) 4)).isSome
  decide (1 ≤ n) && decide (n ≤ 4) && leAt b 7 1 == 0 && fin && decide (r.input ≤ 2) && decide (r.tgt < 4096) &&
    (r.xs.zip r.xs.tail).all (fun p => decide (p.1 < p.2)) &&
    (nodeOf m r.node).any fun x => qtyFits x.type r.qty && (r.input != 0 || x.type == tySubst)

/-- A buffer cut into rules. -/
def cutRules (len : Nat) (b : List Nat) : List (List Nat) := (List.range (len / 40)).map fun i => (b.drop (40 * i)).take 40

/-- RCK_RULES_LOAD (R622, R627). -/
def rckRulesLoad (q : Req) (len : Nat) (buf : List Nat) (s : State) : State :=
  if !s.reaches 0x82 q then s
  else if q.version ≠ 1 then s.complete q .version 0 0
  else
    let l := cutRules len buf
    let rs := l.map ruleOf
    match l.findIdx? (fun b => !ruleOk s.rck.model b) with
    | some i => s.complete q .param i 0
    | none =>
      if len % 40 ≠ 0 || decide (buf.length < len) then s.complete q .param 0xFFFFFFFF 0
      else if (q.ring.isNone && !s.keys.console) || rs.any fun r => !s.rckOwns q.slice r.node then s.complete q .priv 0 0
      else if !stRun.contains s.st then s.complete q .state 0 0
      else
        let keep := s.rck.rules.filter fun r => !s.rckOwns q.slice r.node
        ({ s with rck := { s.rck with rules := keep ++ rs } }.event 151).complete q .ok rs.length 0

def execRckRulesLoad (q : Req) (len : Nat) (buf : List Nat) (s : State) : Host.Outcome State Fault Refusal :=
  .next (rckRulesLoad q len buf s)

end Sys2Proof.Machine
end

