-- ==== Sys2Proof/Machine/Solver.lean ====
section
/-! DEFINITION. The Reckoner's solver: equilibration, operator splitting, the inner conjugate gradient, checks and outcomes
(R611–R615). Vectors and matrix values are binary32, reductions binary64 in an order that the spec leaves open (assumption 17). -/

namespace Sys2Proof.Machine

/-- INF (R609). -/
def rckInf : Rat := (10 ^ 30 : Nat)

/-! ### Arithmetic (R611) -/

/-- Rounding to binary32, and whether a rounded value is finite there. -/
def r32 (x : Rat) : Rat := roundTo 24 (-149) x
def finite32 (x : Rat) : Bool := decide (-(pow2 128) < x) && decide (x < pow2 128)

/-- Magnitude of a number. -/
def mag (x : Rat) : Rat := max x (-x)

/-- floor(log2 x) of a positive number. -/
def floorLog2 (x : Rat) : Int :=
  let k : Int := (Nat.log2 x.num.natAbs : Int) - Nat.log2 x.den
  if x < pow2 k then k - 1 else k

/-- Square root rounded to binary64: 60 bits and more of the root, and half a unit more where it is not exact. -/
def sqrt64 (x : Rat) : Rat :=
  if x ≤ 0 then 0
  else
    let k := 120 + Nat.log2 x.den
    let n := (x * (4 ^ k : Nat)).floor.toNat
    let s := Nat.sqrt n
    let exact := decide (((s * s : Nat) : Rat) = x * (4 ^ k : Nat))
    r64 (((s : Rat) + (if exact then 0 else 1 / 2)) / (2 ^ k : Nat))

/-- Terms accumulated in binary64: each addition takes two partial sums, in an order that is open (`Config.reduceOrder`). -/
def reduceFrom (n : Nat) : Nat → List Rat → Rat
  | 0, l => l.headD 0
  | _ + 1, [] => 0
  | _ + 1, [x] => x
  | k + 1, l =>
    let (i, j) := Config.reduceOrder n l.length
    let i' := i % l.length
    let rest := l.eraseIdx i'
    let j' := j % rest.length
    reduceFrom n k (r64 (l.getD i' 0 + rest.getD j' 0) :: rest.eraseIdx j')
def reduce (l : List Rat) : Rat := reduceFrom l.length l.length (l.map r64)

/-- Dot product and Euclidean norm. -/
def dot (x y : List Rat) : Rat := reduce (List.zipWith (fun a b => a * b) x y)
def norm2 (x : List Rat) : Rat := sqrt64 (dot x x)

/-! ### Equilibration (R611) -/

/-- The scaled programme: P by (row, column, value), q, A by rows, bounds, Ω (R612), D, E and c. -/
structure Qp where
  n : Nat
  p : List (Nat × Nat × Rat)
  q : List Rat
  a : List (List (Nat × Rat))
  l : List Rat
  u : List Rat
  om : List Rat
  d : List Rat
  e : List Rat
  c : Rat

/-- The power of two nearest to the square root of a positive number; the larger of two that are equally near. -/
def pow2Root (x : Rat) : Rat :=
  let k := floorLog2 x / 2
  if x * 4 < 9 * pow2 (2 * k) then pow2 k else pow2 (k + 1)

/-- The measure of a column or row: √(largest × smallest non-zero magnitude), as the nearest power of two; 1 without an entry. -/
def measure (l : List Rat) : Rat :=
  match (l.filter fun v => v ≠ 0).map mag with
  | [] => 1
  | v :: m => pow2Root (m.foldl max v * m.foldl min v)

/-- A pass: the columns of [P; A], P on both sides (it stays symmetric), then the rows of A. -/
def equilPass (g : Qp) : Qp :=
  let fs := (List.range g.n).map fun j =>
    measure ((g.p.filter fun t => t.2.1 == j).map (fun t => t.2.2) ++ (g.a.flatten.filter fun t => t.1 == j).map Prod.snd)
  let f := fun j => fs.getD j 1
  let a1 := g.a.map fun r => r.map fun t => (t.1, t.2 / f t.1)
  let rs := a1.map fun r => measure (r.map Prod.snd)
  { g with p := g.p.map fun t => (t.1, t.2.1, t.2.2 / (f t.1 * f t.2.1)),
           a := List.zipWith (fun r w => r.map fun t => (t.1, t.2 / w)) a1 rs,
           d := List.zipWith (fun x y => x / y) g.d fs, e := List.zipWith (fun x y => x / y) g.e rs }

/-- Ω (R612): 2^−16 for a row without bounds, 256 for an equality row, else 1. -/
def omegaOf (r : RckRow) : Rat := if r.l = -rckInf && r.u = rckInf then pow2 (-16) else if r.l = r.u then 256 else 1

/-- The programme in binary32, unscaled. -/
def qpLoad (g : RckProg) : Qp :=
  { n := g.ns * g.steps, p := g.p.map fun t => (t.1, t.2.1, r32 t.2.2),
    q := (List.range (g.ns * g.steps)).map fun j => r32 ((findKey Prod.fst j g.q).elim 0 Prod.snd),
    a := g.rows.map fun r => r.coef.map fun t => (t.1, r32 t.2), l := g.rows.map fun r => r32 r.l, u := g.rows.map fun r => r32 r.u,
    om := g.rows.map omegaOf, d := List.replicate (g.ns * g.steps) 1, e := g.rows.map fun _ => 1, c := 1 }

/-- A bound scaled; an absent bound stays absent. -/
def boundScale (w b : Rat) : Rat := if b = r32 rckInf || b = -(r32 rckInf) then b else w * b

/-- The scaled programme (R611): 8 passes, then the cost scale c, which brings the largest magnitude of D P D and D q into [1, 2). -/
def equilibrate (g : RckProg) : Qp :=
  let h := (List.range 8).foldl (fun x _ => equilPass x) (qpLoad g)
  let q1 := List.zipWith (fun x y => x * y) h.d h.q
  let top := (h.p.map fun t => mag t.2.2).foldl max ((q1.map mag).foldl max 0)
  let c := if top = 0 then 1 else pow2 (-(floorLog2 top))
  { h with p := h.p.map fun t => (t.1, t.2.1, c * t.2.2), q := q1.map fun v => c * v, l := List.zipWith boundScale h.e h.l,
           u := List.zipWith boundScale h.e h.u, c := c }

/-! ### Products with the scaled matrices -/

/-- The products of row j of P with x, and of column j of A with w. -/
def rowTerms (g : Qp) (x : List Rat) (j : Nat) : List Rat := (g.p.filter fun t => t.1 == j).map fun t => t.2.2 * x.getD t.2.1 0
def colTerms (g : Qp) (w : List Rat) (j : Nat) : List Rat :=
  (List.zipWith (fun r v => (r.filter fun t => t.1 == j).map fun t => t.2 * v) g.a w).flatten

/-- A x, P x, Aᵀ w, and ρ Ω w. -/
def mulA (g : Qp) (x : List Rat) : List Rat := g.a.map fun r => r32 (reduce (r.map fun t => t.2 * x.getD t.1 0))
def mulP (g : Qp) (x : List Rat) : List Rat := (List.range g.n).map fun j => r32 (reduce (rowTerms g x j))
def mulAt (g : Qp) (w : List Rat) : List Rat := (List.range g.n).map fun j => r32 (reduce (colTerms g w j))
def weigh (g : Qp) (rho : Rat) (w : List Rat) : List Rat := List.zipWith (fun o v => r32 (rho * o * v)) g.om w

/-- The proximal weight μ and the relaxation factor β (R612). -/
def solverMu : Rat := pow2 (-20)
def solverBeta : Rat := 3 / 2

/-- (P + μI + ρ Aᵀ Ω A) x. -/
def kktMul (g : Qp) (rho : Rat) (x : List Rat) : List Rat :=
  let w := weigh g rho (mulA g x)
  (List.range g.n).map fun j => r32 (reduce (rowTerms g x j ++ [solverMu * x.getD j 0] ++ colTerms g w j))

/-- The Jacobi preconditioner: the diagonal of P + μI + ρ Aᵀ Ω A (R613). -/
def jacobi (g : Qp) (rho : Rat) : List Rat :=
  (List.range g.n).map fun j =>
    let sq := (List.zipWith (fun r o => (r.filter fun t => t.1 == j).map fun t => rho * o * t.2 * t.2) g.a g.om).flatten
    r32 (reduce ((g.p.filter fun t => t.1 == j && t.2.1 == j).map (fun t => t.2.2) ++ [solverMu] ++ sq))

/-! ### The inner solve (R613) -/

/-- η = max(2^−24, min(2^−7, g / 8)). -/
def innerEta (g : Rat) : Rat := max (pow2 (-24)) (min (pow2 (-7)) (g / 8))

/-- Conjugate gradient from x with residual r, direction p and rz = r · M⁻¹ r, for at most `k` iterations, until ‖r‖ ≤ stop; none
where a quotient has no value. -/
def cgLoop (g : Qp) (rho : Rat) (m : List Rat) (stop : Rat) : Nat → List Rat → List Rat → List Rat → Rat → Option (List Rat)
  | 0, x, _, _, _ => some x
  | k + 1, x, r, p, rz =>
    if norm2 r ≤ stop then some x
    else
      let kp := kktMul g rho p
      let den := dot p kp
      if den = 0 || rz = 0 then none
      else
        let al := r64 (rz / den)
        let r1 := List.zipWith (fun a b => r32 (a - al * b)) r kp
        let z1 := List.zipWith (fun a b => r32 (a / b)) r1 m
        let rz1 := dot r1 z1
        let be := r64 (rz1 / rz)
        cgLoop g rho m stop k (List.zipWith (fun a b => r32 (a + al * b)) x p) r1 (List.zipWith (fun a b => r32 (a + be * b)) z1 p) rz1

/-- The inner solve for right-hand side b, from the previous xn; at most 64 inner iterations. -/
def innerSolve (g : Qp) (rho eta : Rat) (b x : List Rat) : Option (List Rat) :=
  let m := jacobi g rho
  let r := List.zipWith (fun a c => r32 (a - c)) b (kktMul g rho x)
  let z := List.zipWith (fun a c => r32 (a / c)) r m
  cgLoop g rho m (r64 (eta * norm2 b)) 64 x r z (dot r z)

/-! ### An iteration (R612) -/

/-- The solver's vectors, ρ, the ratio g of the last check, iterations done, and (ρ, r_p, r_d) of the checks, newest first. -/
structure Solver where
  x : List Rat
  z : List Rat
  d : List Rat
  rho : Rat
  ratio : Rat := 1
  iter : Nat := 0
  hist : List (Rat × Rat × Rat) := []

/-- One iteration; none where the inner solve has no value. -/
def solverStep (g : Qp) (s : Solver) : Option Solver :=
  let w := weigh g s.rho (List.zipWith (fun a b => r32 (a - b)) s.z s.d)
  let b := (List.range g.n).map fun j => r32 (reduce ([solverMu * s.x.getD j 0, -(g.q.getD j 0)] ++ colTerms g w j))
  (innerSolve g s.rho (innerEta s.ratio) b s.x).map fun xn =>
    let v := List.zipWith (fun a z => r32 (solverBeta * a + (1 - solverBeta) * z)) (mulA g xn) s.z
    let vd := List.zipWith (fun a d => r32 (a + d)) v s.d
    let zn := List.zipWith (fun t (b : Rat × Rat) => max b.1 (min b.2 t)) vd (g.l.zip g.u)
    let dn := List.zipWith (fun (t : Rat × Rat) z => r32 (t.2 + t.1 - z)) (v.zip s.d) zn
    { s with x := xn, z := zn, d := dn, iter := s.iter + 1 }

/-- A NaN or infinity in x, z or y. -/
def solverFinite (g : Qp) (s : Solver) : Bool := (s.x ++ s.z ++ weigh g s.rho s.d).all finite32

/-! ### Checks and outcomes (R614, R615) -/

/-- r_p, s_p, r_d and s_d of a check, unscaled. -/
def solverCheck (g : Qp) (epsA epsR : Rat) (s : Solver) : Rat × Rat × Rat × Rat :=
  let quot := fun (v w : List Rat) => List.zipWith (fun a b => a / b) v w
  let ax := mulA g s.x
  let px := mulP g s.x
  let aty := mulAt g (weigh g s.rho s.d)
  let cd := g.d.map fun v => g.c * v
  let rm := sqrt64 (g.a.length : Rat)
  let rn := sqrt64 (g.n : Rat)
  let rp := r64 (norm2 (quot (List.zipWith (fun a b => r32 (a - b)) ax s.z) g.e) / rm)
  let sp := r64 (epsA + r64 (epsR * max (norm2 (quot ax g.e)) (norm2 (quot s.z g.e)) / rm))
  let res := (List.range g.n).map fun j => r32 (reduce [px.getD j 0, g.q.getD j 0, aty.getD j 0])
  let rd := r64 (norm2 (quot res cd) / rn)
  let big := max (norm2 (quot px cd)) (max (norm2 (quot aty cd)) (norm2 (quot g.q cd)))
  (rp, sp, rd, r64 (epsA + r64 (epsR * big / rn)))

/-- ρ after check number n (R614): at every fourth check it doubles or halves within 2^−20 to 2^20. -/
def balanceRho (n : Nat) (rho p g : Rat) : Rat :=
  if n % 4 ≠ 0 then rho
  else if 8 * g < p && 2 * rho ≤ pow2 20 then 2 * rho
  else if 8 * p < g && pow2 (-20) ≤ rho / 2 then rho / 2
  else rho

/-- ρ has stood at a limit through the last 16 checks, and a residual is at least 0.95 times that of 16 checks earlier. -/
def stalled (v : Rat) (res : Rat × Rat × Rat → Rat) (hist : List (Rat × Rat × Rat)) : Bool :=
  (hist.take 16).all (fun h => h.1 == v) && match hist.head?, hist[16]? with
    | some a, some b => decide (res b * 95 ≤ res a * 100)
    | _, _ => false

/-- A check: its outcome, and the solver with ρ balanced and d scaled against it, so that y stays (R614, R615). -/
def solverJudge (g : Qp) (epsA epsR : Rat) (s : Solver) : Option Nat × Solver :=
  let (rp, sp, rd, sd) := solverCheck g epsA epsR s
  let hist := (s.rho, rp, rd) :: s.hist
  let s1 := { s with hist := hist, ratio := max (rp / sp) (rd / sd) }
  if rp ≤ sp && rd ≤ sd then (some 0, s1)
  else if stalled (pow2 20) (fun h => h.2.1) hist then (some 2, s1)
  else if stalled (pow2 (-20)) (fun h => h.2.2) hist then (some 3, s1)
  else
    let rho := balanceRho hist.length s.rho (rp / sp) (rd / sd)
    (none, { s1 with rho := rho, d := s.d.map fun v => r32 (v * s.rho / rho) })

/-- At most `k` iterations: the outcome where one is reached, and the solver. -/
def solverRun (g : Qp) (epsA epsR : Rat) : Nat → Solver → Option Nat × Solver
  | 0, s => (none, s)
  | k + 1, s =>
    match solverStep g s with
    | none => (some 5, { s with iter := s.iter + 1 })
    | some t =>
      if !solverFinite g t then (some 5, t)
      else if t.iter % 8 ≠ 0 then solverRun g epsA epsR k t
      else match solverJudge g epsA epsR t with
        | (some o, r) => (some o, r)
        | (none, r) => solverRun g epsA epsR k r

/-- The vectors that a solve starts from, scaled (R616), and unscaled x, z and d of its end. -/
def solverOf (g : Qp) (x z d : List Rat) (rho : Rat) : Solver :=
  { x := List.zipWith (fun v w => v / w) x g.d, z := List.zipWith (fun v w => v * w) z g.e,
    d := List.zipWith (fun v w => g.c * v / w) d g.e, rho := rho }
def solverX (g : Qp) (s : Solver) : List Rat := List.zipWith (fun v w => v * w) s.x g.d
def solverZ (g : Qp) (s : Solver) : List Rat := List.zipWith (fun v w => v / w) s.z g.e
def solverD (g : Qp) (s : Solver) : List Rat := List.zipWith (fun v w => v * w / g.c) s.d g.e

/-- ½ xᵀPx + qᵀx of the programme as loaded (R608). -/
def objective (g : RckProg) (x : List Rat) : Rat :=
  let o := qpLoad g
  reduce ((List.zipWith (fun a b => a * b / 2) x (mulP o x)) ++ List.zipWith (fun a b => a * b) o.q x)

end Sys2Proof.Machine
end

