-- ==== Sys2Proof/Machine/ReckSolve.lean ====
section
/-! DEFINITION. The Reckoner's programme, solves and releases (R604–R624). -/

namespace Sys2Proof.Machine

/-! ### Plans and initial values (R605, R607) -/

/-- Variables that a record contributes to a step (R607). -/
def varCount (r : RckRec) : Nat :=
  match r.type with
  | 1 => r.u8 17
  | 2 => 2
  | 4 => 4
  | 6 => 3
  | 7 => 1
  | _ => 0

/-- The variables of a step with their positions (R607). -/
def rckLayout (m : List RckRec) : Nat × List RckVar :=
  (nodesOf m ++ edgesOf m).foldl (fun (a : Nat × List RckVar) r =>
    (a.1 + varCount r, a.2 ++ [⟨r.type == tyPipe, r.id, r.type, a.1, varCount r⟩])) (0, [])

/-- The variables of a node (edge = false) or an edge. -/
def varOf (l : List RckVar) (edge : Bool) (id : Nat) : Option RckVar := l.find? fun v => v.edge == edge && v.id == id

/-- Variable i of a unit in step k of a plan. -/
def planVal (p : RckPlan) (edge : Bool) (id type k i : Nat) : Option Rat :=
  match varOf p.layout edge id with
  | some v => if v.type = type && i < v.cnt && k < p.steps then some (p.x.getD (k * p.ns + v.off + i) 0) else none
  | none => none

/-- h of a plant in step k of a plan. -/
def planH (p : RckPlan) (r : RckRec) (k : Nat) : Option Rat :=
  match varOf p.layout false r.id with
  | some v => if v.type = tyPlant && k < p.steps then
      some (r.f 24 + ((List.range v.cnt).map fun i => p.x.getD (k * p.ns + v.off + i) 0).sum) else none
  | none => none

/-- The step of a plan that contains an instant. -/
def planStep (p : RckPlan) (t : Nat) : Nat := (t - p.t0) / p.delta

/-- A state that the plan predicts for an instant: the value at the end of the last step ended by then, or the plan's own
initial value. -/
def planPredict (p : RckPlan) (id type i t : Nat) : Option Rat :=
  let k := planStep p t
  if t < p.t0 then none
  else if k = 0 then (findKey Prod.fst id p.init).map Prod.snd
  else planVal p false id type (k - 1) i

/-- The first source that applies, and whether it is not the first of the list (R605). -/
def initFirst (l : List (Option Rat)) (dflt : Rat) : Rat × Bool :=
  match l with
  | some v :: _ => (v, false)
  | _ => match l.find? Option.isSome with
    | some (some v) => (v, true)
    | _ => (dflt, true)

/-- The report of a node that counts at an instant (R605). -/
def State.reportAt (s : State) (id t : Nat) : Option RckRec :=
  (reportRec s.rck.model id).filter fun r => decide (t ≤ r.u64 16 + s.get Reg.RCK_REP_MAX_S * 1000000000)

/-- Θ0, Z0 or H_prev of a node at an instant (R605). -/
def State.initValue (s : State) (r : RckRec) (t : Nat) : Option (Rat × Bool) :=
  let rep := (s.reportAt r.id t).map fun x => x.f 24
  match r.type with
  | 4 => some (initFirst [rep, s.rck.plan.bind fun p => planPredict p r.id tySubst 1 t] ((r.f 28 + r.f 32) / 2))
  | 2 => some (initFirst [rep, s.rck.plan.bind fun p => planPredict p r.id tyStore 1 t] ((r.f 16 + r.f 20) / 2))
  | 1 =>
    let h := r.u16 22
    let hm := if h < 64 && !s.flag (Reg.NRG_HM_STAT_INVALID h) && !s.heatStale h then
      some ((s.getS (Reg.NRG_HM_STAT_POWER h) : Int) : Rat) else none
    some (initFirst [hm, rep, s.rck.plan.bind fun p => if t < p.t0 then none else planH p r (planStep p t)] (r.f 24))
  | _ => none

/-! ### Live headroom (R606) -/

/-- The newest result-mirror generation. -/
def State.newestResult (s : State) : Option ResultGen :=
  s.core.resultMirror.foldl (fun (b : Option ResultGen) g => match b with
    | none => some g
    | some x => if x.tick < g.tick then some g else some x) none

/-- HR of a grid point and whether a target is unusable (R606); none without targets. -/
def State.headroom (s : State) (r : RckRec) : Option (Rat × Bool) :=
  let n := r.u8 40
  if n = 0 then none
  else
    let vals := (List.range n).map fun i =>
      match s.newestResult.bind fun g => g.entries.find? fun e => e.getD 0 0 % 65536 == r.u16 (44 + 2 * i) with
      | none => none
      | some e =>
        let v := e.getD 0 0 / 2 ^ 24 % 4
        if e.getD 0 0 / 2 ^ 16 % 256 ≠ 2 || v = 2 || (v = 1 && r.u8 41 % 2 = 1) then none
        else some ((signed 32 (e.getD 1 0) : Rat) * r.f (52 + 4 * i) / (2 ^ 24 : Nat))
    let bad := vals.any Option.isNone
    let l := vals.filterMap id ++ (if bad then [r.f 32] else [])
    some (l.tail.foldl min (l.headD 0), bad)

/-- What an unusable target brings, or its end (R606, R630). -/
def State.headroomFault (s : State) (r : RckRec) : State :=
  match s.headroom r with
  | none => s
  | some (_, true) => (s.event 149).raiseAt 0x1305 1 r.id r.id
  | some (_, false) => s.clearFault 0x1305 r.id

/-- The grid points with targets. -/
def gridsOf (m : List RckRec) : List RckRec := (nodesOf m).filter fun r => r.type == tyGrid && r.u8 40 != 0

/-! ### The programme (R607–R610) -/

/-- Coefficients of a row: those of one variable are summed, zeros left out. -/
def mergeCoef (l : List (Nat × Rat)) : List (Nat × Rat) :=
  (l.foldl (fun (a : List (Nat × Rat)) c => match findKey Prod.fst c.1 a with
    | some x => setKey Prod.fst (c.1, x.2 + c.2) a
    | none => setKey Prod.fst c a) []).filter fun c => c.2 ≠ 0

/-- What a build reads: model, Δ (ns), Δ_h, τ0, steps, layout, initial values, headrooms, flows released. -/
structure BuildIn where
  m : List RckRec
  nodes : List RckRec
  edges : List RckRec
  delta : Nat
  dh : Rat
  t0 : Nat
  steps : Nat
  ns : Nat
  layout : List RckVar
  init : List (Nat × Rat)
  est : List (Nat × Rat × Rat)
  hr : List (Nat × Rat)
  flows : List (Nat × Nat × Rat)

/-- Column of variable i of a unit in step k. -/
def col (b : BuildIn) (edge : Bool) (id k i : Nat) : Nat := k * b.ns + (varOf b.layout edge id).elim 0 (fun v => v.off) + i

/-- Columns of a plant's segments in step k. -/
def segCols (b : BuildIn) (r : RckRec) (k : Nat) : List Nat := (List.range (r.u8 17)).map fun i => col b false r.id k i

/-- Value of a series in step k; 0 where the node has none. -/
def serVal (b : BuildIn) (id qty k : Nat) : Rat :=
  match seriesOf b.m id qty with
  | some r => (seriesAt b.delta (b.t0 + k * b.delta) r).1
  | none => 0

/-- UA and TAU of a sub-station (R625: the estimates take effect at the next build). -/
def uaTau (b : BuildIn) (r : RckRec) : Rat × Rat := ((findKey Prod.fst r.id b.est).map Prod.snd).getD (r.f 20, r.f 24)

/-- f_hist of an edge for a step before τ0 (R605). -/
def flowAt (b : BuildIn) (e back : Nat) : Option Rat :=
  (b.flows.find? fun x => x.1 + back * b.delta == b.t0 && x.2.1 == e).map fun x => x.2.2

/-- Row kind 1 of step k (R610). -/
def boundRows (b : BuildIn) (k : Nat) : List RckRow :=
  let one := fun (c : Nat) (l u : Rat) => (⟨k, 1, c, [(c, 1)], l, u⟩ : RckRow)
  ((b.nodes ++ b.edges).map fun r =>
    let edge := r.type == tyPipe
    let c := fun i => col b edge r.id k i
    match r.type with
    | 1 => (segs r).zip (List.range (r.u8 17)) |>.map fun x => one (c x.2) 0 x.1.1
    | 2 => [one (c 0) (-(r.f 28)) (r.f 24), one (c 1) (r.f 16) (r.f 20)]
    | 4 => [one (c 0) 0 (r.f 16), one (c 1) (-rckInf) rckInf, one (c 2) 0 rckInf, one (c 3) 0 rckInf]
    | 6 => [one (c 0) 0 (r.f 16), one (c 1) 0 (r.f 20), one (c 2) 0 (serVal b r.id 4 k)]
    | 7 => [one (c 0) 0 (r.f 20)]
    | _ => []).flatten

/-- Row kind 2: balance of a heat or cold node (R609). -/
def balanceRow (b : BuildIn) (k : Nat) (n : RckRec) : RckRow :=
  let ins := b.edges.filter fun e => e.u16 18 == n.id
  let inCoef := ins.filterMap fun e => if e.u8 28 ≤ k then some (col b true e.id (k - e.u8 28) 0, 1 - e.f 24) else none
  let hist := (ins.map fun e => if e.u8 28 ≤ k then 0 else (1 - e.f 24) * (flowAt b e.id (e.u8 28 - k)).getD 0).sum
  let out := (b.edges.filter fun e => e.u16 16 == n.id).map fun e => (col b true e.id k 0, (-1 : Rat))
  let chill := b.nodes.filter fun r => r.type == tyPlant && r.u8 16 == 4 && r.u16 18 == n.id
  let chillCoef := (chill.map fun r => (segCols b r k).zip ((segs r).map fun x => -x.2)).flatten
  let own := match n.type with
    | 1 => (segCols b n k).map fun c => (c, (1 : Rat))
    | 2 => [(col b false n.id k 0, (-1 : Rat))]
    | 4 => [(col b false n.id k 0, (-1 : Rat))]
    | _ => []
  let cb := hist + (if n.type = tyPlant then n.f 24 else 0) - (chill.map fun r => r.f 28).sum -
    (if n.type = tySubst then serVal b n.id 0 k else 0)
  ⟨k, 2, n.id, mergeCoef (inCoef ++ out ++ own ++ chillCoef), -cb, -cb⟩

/-- Row kind 3: electric balance of a grid point (R609). -/
def electricRow (b : BuildIn) (k : Nat) (g : RckRec) : RckRow :=
  let plants := b.nodes.filter fun r => r.type == tyPlant
  let chp := plants.filter fun r => r.u8 16 == 1 && r.u16 20 == g.id
  let el := plants.filter fun r => (r.u8 16 == 2 || r.u8 16 == 3) && r.u16 18 == g.id
  let pumps := b.nodes.filter fun r => r.type == tyPump && r.u16 24 == g.id
  let coef := [(col b false g.id k 0, (1 : Rat)), (col b false g.id k 1, -1), (col b false g.id k 2, 1)] ++
    (chp.map fun r => (segCols b r k).map fun c => (c, r.f 40)).flatten ++
    (el.map fun r => (segCols b r k).zip ((segs r).map fun x => -x.2)).flatten ++
    (pumps.map fun p => (b.edges.filter fun e => e.u16 16 == p.id).map fun e => (col b true e.id k 0, -(p.f 16))).flatten
  let cg := (chp.map fun r => r.f 40 * r.f 24).sum - (el.map fun r => r.f 28).sum
  ⟨k, 3, g.id, mergeCoef coef, -cg, -cg⟩

/-- Row kinds 4 to 9 of a node (R609). -/
def storeRow (b : BuildIn) (k : Nat) (n : RckRec) : RckRow :=
  let keep := 1 - n.f 32 * b.dh
  let z0 := (findKey Prod.fst n.id b.init).elim 0 Prod.snd
  let v := if k = 0 then keep * z0 else 0
  ⟨k, 4, n.id, mergeCoef ((if k = 0 then [] else [(col b false n.id (k - 1) 1, -keep)]) ++
    [(col b false n.id k 1, 1), (col b false n.id k 0, -b.dh)]), v, v⟩

def substRow (b : BuildIn) (k : Nat) (n : RckRec) : RckRow :=
  let (ua, tau) := uaTau b n
  let kap : Rat := if n.net = 0 then 1 else -1
  let th0 := (findKey Prod.fst n.id b.init).elim 0 Prod.snd
  let v := b.dh / tau * serVal b n.id 1 k + (if k = 0 then (1 - b.dh / tau) * th0 else 0)
  ⟨k, 5, n.id, mergeCoef ((if k = 0 then [] else [(col b false n.id (k - 1) 1, -(1 - b.dh / tau))]) ++
    [(col b false n.id k 1, 1), (col b false n.id k 0, -(kap * b.dh / (tau * ua)))]), v, v⟩

def comfortRows (b : BuildIn) (k : Nat) (n : RckRec) : List RckRow :=
  let th := col b false n.id k 1
  [⟨k, 6, n.id, [(th, 1), (col b false n.id k 2, -1)], -rckInf, n.f 32⟩,
   ⟨k, 6, n.id, [(th, 1), (col b false n.id k 3, 1)], n.f 28, rckInf⟩]

def rampRow (b : BuildIn) (k : Nat) (n : RckRec) : RckRow :=
  let lim := n.f 44 * b.dh
  let sh := if k = 0 then (findKey Prod.fst n.id b.init).elim 0 Prod.snd - n.f 24 else 0
  ⟨k, 7, n.id, ((segCols b n k).map fun c => (c, (1 : Rat))) ++
    (if k = 0 then [] else (segCols b n (k - 1)).map fun c => (c, -1)), -lim + sh, lim + sh⟩

def pumpRow (b : BuildIn) (k : Nat) (n : RckRec) : RckRow :=
  ⟨k, 8, n.id, (b.edges.filter fun e => e.u16 16 == n.id).map fun e => (col b true e.id k 0, (1 : Rat)), 0, n.f 20⟩

def headRows (b : BuildIn) (k : Nat) (n : RckRec) : List RckRow :=
  let kh := (n.u32 36 * 1000000000 + b.delta - 1) / b.delta
  match findKey Prod.fst n.id b.hr with
  | some (_, hr) => if k < kh then [⟨k, 9, n.id, [(col b false n.id k 0, 1), (col b false n.id k 2, 1)], -rckInf, hr⟩] else []
  | none => []

/-- The rows of step k in the order of R609. -/
def stepRows (b : BuildIn) (k : Nat) : List RckRow :=
  let of := fun (t : Nat) => b.nodes.filter fun r => r.type == t
  boundRows b k ++ (b.nodes.filter fun r => decide (r.net ≤ 1)).map (balanceRow b k) ++ (of tyGrid).map (electricRow b k) ++
    (of tyStore).map (storeRow b k) ++ (of tySubst).map (substRow b k) ++ ((of tySubst).map (comfortRows b k)).flatten ++
    ((of tyPlant).filter fun r => decide (0 < r.f 44)).map (rampRow b k) ++ (of tyPump).map (pumpRow b k) ++
    ((of tyGrid).map (headRows b k)).flatten

/-- q of step k (R608). -/
def stepCost (b : BuildIn) (k : Nat) : List (Nat × Rat) :=
  (b.nodes.map fun n =>
    let c := fun i => col b false n.id k i
    match n.type with
    | 1 =>
      let h := (findKey Prod.fst n.id b.init).elim 0 Prod.snd
      let ramp := if k = 0 && decide (0 < n.f 48) then -2 * n.f 48 * (h - n.f 24) else 0
      (segCols b n k).zip ((segs n).map fun x => b.dh * (n.f 32 + (if n.u8 16 ≤ 1 then n.f 36 * x.2 else 0)) + ramp)
    | 2 => if k + 1 = b.steps then [(c 1, -(n.f 36))] else []
    | 6 => [(c 0, b.dh * serVal b n.id 2 k), (c 1, -(b.dh * serVal b n.id 3 k)), (c 2, b.dh * (n.f 28 - n.f 24))]
    | _ => []).flatten.filter fun x => x.2 ≠ 0

/-- The entries of P in the rows of step k (R608). -/
def stepQuad (b : BuildIn) (k : Nat) : List (Nat × Nat × Rat) :=
  (b.nodes.map fun n =>
    match n.type with
    | 1 =>
      let w := n.f 48
      let cs := segCols b n k
      let blk := fun (ds : List Nat) (v : Rat) => (cs.map fun i => ds.map fun j => (i, j, v)).flatten
      if w = 0 then []
      else blk cs (if k + 2 ≤ b.steps then 4 * w else 2 * w) ++ (if k = 0 then [] else blk (segCols b n (k - 1)) (-2 * w)) ++
        (if k + 1 < b.steps then blk (segCols b n (k + 1)) (-2 * w) else [])
    | 4 =>
      let v := 2 * n.f 36 * b.dh
      if v = 0 then [] else [(col b false n.id k 2, col b false n.id k 2, v), (col b false n.id k 3, col b false n.id k 3, v)]
    | _ => []).flatten

/-- The programme of a build. -/
def buildProg (b : BuildIn) : RckProg :=
  let ks := List.range b.steps
  { ns := b.ns, steps := b.steps, layout := b.layout, p := (ks.map (stepQuad b)).flatten, q := (ks.map (stepCost b)).flatten,
    rows := (ks.map (stepRows b)).flatten }

/-- A required series is missing, a ramp row of step 0 cannot hold, or Δ_h / TAU ≥ 1 (R610). -/
def buildBad (b : BuildIn) : Bool :=
  b.nodes.any fun n =>
    let need := fun q => (seriesOf b.m n.id q).isNone
    match n.type with
    | 1 => decide (0 < n.f 44) && (let r := rampRow b 0 n; decide (r.u < 0) || decide (((segs n).map Prod.fst).sum < r.l))
    | 4 => need 0 || need 1 || decide ((uaTau b n).2 ≤ b.dh)
    | 6 => need 2 || need 4 || (decide (0 < n.f 20) && need 3)
    | _ => false

/-- Non-zero entries of A. -/
def progNnz (p : RckProg) : Nat := (p.rows.map fun r => r.coef.length).sum

/-- Steps of series filled in by a build (R602). -/
def extCount (b : BuildIn) : Nat :=
  ((b.m.filter fun r => r.type == tySeries).map fun r =>
    ((List.range b.steps).filter fun k => (seriesAt b.delta (b.t0 + k * b.delta) r).2).length).sum

/-- What the keeper reads for a build that starts at an instant, with the fallbacks counted (R604–R606). -/
def State.buildIn (s : State) (start : Nat) : BuildIn × Nat :=
  let m := s.rck.model
  let nodes := nodesOf m
  let edges := edgesOf m
  let delta := s.rckDelta
  let t0 := start / delta * delta
  let ivs := nodes.filterMap fun r => (s.initValue r start).map fun v => (r.id, v)
  let (ns, lay) := rckLayout m
  let b : BuildIn := { m := m, nodes := nodes, edges := edges, delta := delta, dh := s.rckHours, t0 := t0,
                       steps := s.get Reg.RCK_CFG_HSTEPS, ns := ns, layout := lay, init := ivs.map fun x => (x.1, x.2.1),
                       est := s.rck.est.map fun e => (e.node, estUa e, estTau e),
                       hr := (gridsOf m).filterMap fun r => (s.headroom r).map fun h => (r.id, h.1), flows := s.rck.flows }
  let hist := (edges.map fun e => ((List.range (e.u8 28)).filter fun j => (flowAt b e.id (j + 1)).isNone).length).sum
  (b, (ivs.filter fun x => x.2.2).length + hist)

/-! ### Solves (R604, R615, R616) -/

/-- A solve ends with an outcome other than CONVERGED (R615). -/
def State.solveFail (s : State) (outcome : Nat) : State :=
  let s1 := ({ s with rck := { s.rck with cur := none } }.put Reg.RCK_STATUS_SOLVING 0).put Reg.RCK_STATUS_LAST outcome
  (((s1.count Reg.RCK_FAILS_COUNT).count Reg.RCK_SOLVES_COUNT).event 145).raise1 0x1301 1 (outcome + s1.get Reg.RCK_SOLVE_ID_ID % 2 ^ 24 * 256)

/-- What tells a row from the others of its step: its node, edge or variable. -/
def rowWhich (ns : Nat) (r : RckRow) : Nat :=
  if r.kind = 1 then r.id - r.step * ns else if r.kind = 6 then 2 * r.id + (if r.l = -rckInf then 0 else 1) else r.id

/-- Rows as (step, kind, which). -/
def rowKeys (g : RckProg) : List (Nat × Nat × Nat) := g.rows.map fun r => (r.step, r.kind, rowWhich g.ns r)

/-- x, z and d of a warm start `sh` steps after the plan's (R616): step k takes the values of step k + sh of the plan, or of its last
step. What the plan has no value for (a variable or row of a step that its own step lacks) is free (assumption 17). -/
def warmStart (p : RckPlan) (sh : Nat) (g : RckProg) (free : Nat → Rat) : List Rat × List Rat × List Rat :=
  let old := fun k => min (k + sh) (p.steps - 1)
  let x := (List.range (g.ns * g.steps)).map fun i =>
    if i % g.ns < p.ns then p.x.getD (old (i / g.ns) * p.ns + i % g.ns) (free i) else free i
  let at' := fun (key : Nat × Nat × Nat) => p.rows.findIdx? (· == (old key.1, key.2))
  let row := fun (v : List Rat) (base : Nat) => ((rowKeys g).zip (List.range g.rows.length)).map fun t =>
    (at' t.1).elim (free (base + t.2)) fun i => v.getD i (free (base + t.2))
  (x, row p.z (g.ns * g.steps), row p.d (g.ns * g.steps + g.rows.length))

/-- A solve starts: snapshot, build, warm or cold start (R604–R610, R616). -/
def State.solveStart (s : State) (cold : Bool) (now : Nat) : State :=
  let id := (s.get Reg.RCK_SOLVE_ID_ID + 1) % 2 ^ 32
  let s0 := (gridsOf s.rck.model).foldl (fun s r => s.headroomFault r) (s.put Reg.RCK_SOLVE_ID_ID id)
  let (b, falls) := s0.buildIn now
  let prog := buildProg b
  let nnz := progNnz prog
  let s1 := ((((s0.put Reg.RCK_SIZE_N_N (b.ns * b.steps)).put Reg.RCK_SIZE_M_M prog.rows.length).put Reg.RCK_SIZE_NNZ_NNZ nnz).countBy
    Reg.RCK_SERIES_EXT_STEPS (extCount b)).countBy Reg.RCK_SERIES_EXT_INIT_FALLBACK falls
  let s2 := s1.clearCode 0x1308
  if buildBad b then s2.solveFail 6
  else if 4194304 < b.ns * b.steps || 8388608 < prog.rows.length || 33554432 < nnz then s2.solveFail 7
  else
    let warm := s2.rck.plan.filter fun p => !cold && p.ns * p.steps == b.ns * b.steps && p.rowCount == prog.rows.length &&
      decide ((b.t0 - p.t0) / b.delta < b.steps)
    let c : RckSolve := { id := id, start := now, t0 := b.t0, delta := b.delta, cold := warm.isNone, rho := f32v (s2.get Reg.RCK_RHO0_RHO),
                          prog := prog, init := b.init, x := List.replicate (b.ns * b.steps) 0, z := prog.rows.map fun _ => 0,
                          d := prog.rows.map fun _ => 0 }
    let (c1, s3) := match warm with
      | none => (c, s2)
      | some p =>
        let (x, z, d) := warmStart p ((b.t0 - p.t0) / b.delta) prog fun i => f32v (Config.freeValue (s2.freeCtr + i))
        ({ c with x := x, z := z, d := d, rho := p.rho }, { s2 with freeCtr := s2.freeCtr + b.ns * b.steps + 2 * prog.rows.length })
    { s3 with rck := { s3.rck with cur := some c1 } }.put Reg.RCK_STATUS_SOLVING 1

/-- States in which a solve may start (R604, R624). -/
def State.solveStates (s : State) : Bool := s.st == stShadow || s.st == stActive || s.st == stSolo || s.st == stService

/-- SOLVE_START (R604): a multiple of SOLVE_PERIOD seconds since the PTP epoch. -/
def solveStartRow (now : Nat) (s : State) : State :=
  if !s.flag Reg.RCK_CTRL_EN || !s.flag Reg.RCK_CTRL_SOLVE_EN || !s.solveStates ||
      now % (s.get Reg.RCK_CTRL_SOLVE_PERIOD * 1000000000) ≠ 0 || decide (now < s.ns) then s
  else
    let s0 := s.advance (now * nsUnit)
    if s0.flag Reg.RCK_STATUS_SOLVING then s0.count Reg.RCK_SKIPPED_COUNT else s0.solveStart false now

def execSolveStart (now : Nat) (s : State) : Host.Outcome State Fault Refusal := .next (solveStartRow now s)

/-- RCK_SOLVE_NOW (R604, R627): completes when the solve starts. -/
def rckSolveNow (q : Req) (cold : Bool) (now : Nat) (s : State) : State :=
  let s0 := s.advance (now * nsUnit)
  s0.command 0x81 q [(.state, !stRun.contains s0.st || !s0.flag Reg.RCK_CTRL_EN), (.busy, s0.flag Reg.RCK_STATUS_SOLVING)] false fun s =>
    let s1 := s.solveStart cold s.ns
    s1.complete q .ok (s1.get Reg.RCK_SOLVE_ID_ID) 0

def execRckSolveNow (q : Req) (cold : Bool) (now : Nat) (s : State) : Host.Outcome State Fault Refusal := .next (rckSolveNow q cold now s)

/-! ### Release (R618–R623) -/

/-- Mode and step index of a release (R618). -/
def State.releaseMode (s : State) (now : Nat) : Nat × Nat :=
  match s.rck.plan with
  | none => (3, 0)
  | some p =>
    let j := planStep p now
    if now < p.t0 then (3, 0)
    else if j = 0 then (1, 0)
    else if j ≤ s.get Reg.RCK_CFG2_STALE_MAX && j < p.steps then (2, j)
    else (3, 0)

/-- A rule's value on an instant (R622). -/
def State.ruleValue (s : State) (now : Nat) (r : RckRule) : Rat :=
  let t := now / s.rckDelta * s.rckDelta
  let x : Option Rat := match r.input with
    | 0 => (seriesOf s.rck.model r.node 1).map fun q => (seriesAt s.rckDelta t q).1
    | 1 => match s.newestResult.bind fun g => g.entries.find? fun e => e.getD 0 0 % 65536 == r.tgt with
      | some e => if e.getD 0 0 / 2 ^ 24 % 4 = 2 then none else some ((signed 32 (e.getD 1 0) : Rat) / (2 ^ 24 : Nat))
      | none => none
    | _ => none
  let v := fun i => r.vs.getD i 0
  match x with
  | none => v 0
  | some y =>
    let n := r.xs.length
    let seg := (List.range (n - 1)).find? fun i => decide (r.xs.getD i 0 ≤ y) && decide (y < r.xs.getD (i + 1) 0)
    match seg with
    | some i => v i + (v (i + 1) - v i) * (y - r.xs.getD i 0) / (r.xs.getD (i + 1) 0 - r.xs.getD i 0)
    | none => if y < r.xs.getD 0 0 then v 0 else v (n - 1)

/-- The value of a quantity before its clamp: from the plan's step, or from its rule; with the flag of a rule. -/
def State.rawQty (s : State) (mode j now : Nat) (n : RckRec) (qty : Nat) : Option (Rat × Bool) :=
  if mode = 3 then
    ((s.rck.rules.filter fun r => r.node == n.id && r.qty == qty).getLast?).map fun r => (s.ruleValue now r, true)
  else
    (s.rck.plan.bind fun p => match qty with
      | 0 => planH p n j
      | 1 => planVal p false n.id tyStore j 0
      | 2 => planVal p false n.id tySubst j 0
      | 3 => planVal p false n.id tySubst j 1
      | 4 => planVal p false n.id tyGrid j 2
      | _ => planVal p false n.id tyGrid j 0).map fun v => (v, false)

/-- A released quantity: QTY, value after its clamp, whether the clamp changed it, whether it comes from a rule. -/
structure Released where
  node : Nat
  qty : Nat
  value : Rat
  clamped : Bool
  rule : Bool

/-- A value clamped. -/
def clampQ (node qty : Nat) (lo hi : Rat) (x : Rat × Bool) : Released :=
  let v := max lo (min hi x.1)
  ⟨node, qty, v, v != x.1, x.2⟩

/-- The quantities of a node (R619). -/
def State.nodeQty (s : State) (mode j now : Nat) (n : RckRec) : List Released :=
  let raw := s.rawQty mode j now n
  match n.type with
  | 1 => (raw 0).toList.map fun x => clampQ n.id 0 (n.f 24) (n.f 24 + ((segs n).map Prod.fst).sum) x
  | 2 =>
    let z := ((s.initValue n now).map Prod.fst).getD 0
    (raw 1).toList.map fun x => clampQ n.id 1 (max (-(n.f 28)) ((n.f 16 - z) / s.rckHours)) (min (n.f 24) ((n.f 20 - z) / s.rckHours)) x
  | 4 => ((raw 2).toList.map fun x => clampQ n.id 2 0 (n.f 16) x) ++
      (if mode = 3 then [] else (raw 3).toList.map fun x => ⟨n.id, 3, x.1, false, x.2⟩)
  | 6 =>
    let hr := (s.headroom n).map Prod.fst
    let t := now / s.rckDelta * s.rckDelta
    let w := ((seriesOf s.rck.model n.id 4).map fun q => (seriesAt s.rckDelta t q).1).getD 0
    let a := (raw 4).map fun x => clampQ n.id 4 0 (hr.elim w (min w)) x
    let av := a.elim 0 fun x => x.value
    let m := (raw 5).map fun x => clampQ n.id 5 0 (hr.elim (n.f 16) fun h => min (n.f 16) (h - av)) x
    a.toList ++ m.toList ++ (hr.toList.map fun h => ⟨n.id, 6, h, false, false⟩)
  | _ => []

/-- A quantity as a batch entry (R623): W, or mK for QTY 3. -/
def entryOf (r : Released) : Nat × Nat × Nat × Int :=
  (r.node, r.qty, (if r.clamped then 1 else 0) + (if r.rule then 2 else 0), saturate 32 (roundRat (r.value * 1000)))

/-- A batch to a slice (R623): written, dropped as too large, or failed by its DMA (0x1307); and whether it was written. -/
def State.sendBatch (s : State) (slice : Nat) (b : RckBatch) (fail : Bool) : State × Bool :=
  if s.get (Reg.RCK_BATCH_CTRL_KIB slice) * 512 < 48 + 16 * b.entries.length then
    ((s.countFor slice (Reg.RCK_BATCH_STAT_DROPPED slice) 1).raiseAt 0x1307 1 slice slice, false)
  else if fail || !s.flag Reg.HIF_LINK_BME then (s.raiseAt 0x1307 1 slice slice, false)
  else
    let seq := (findKey Prod.fst slice s.rck.seqs).elim 1 fun x => x.2 % (2 ^ 32 - 1) + 1
    let half := if seq = 1 then 0 else 1 - s.get (Reg.RCK_BATCH_STAT_HALF slice)
    let b1 := { b with slice := slice, half := half, seq := seq }
    let s1 := { s with rck := { s.rck with seqs := setKey Prod.fst (slice, seq) s.rck.seqs } }
    let s2 := ((s1.put (Reg.RCK_BATCH_STAT_SEQ slice) (seq % 65536)).put (Reg.RCK_BATCH_STAT_HALF slice) half).clearFault 0x1307 slice
    ((s2.dmaOut slice (.rckBatch b1)).post slice 6
      [(4, 4, seq), (8, 1, half), (9, 1, b1.mode), (10, 2, b1.entries.length), (12, 8, b1.start), (20, 8, b1.valid)], true)

/-- The batches of a release (R623): every slice with EN that holds nodes in its range; whether any was written. -/
def State.sendBatches (s : State) (b : RckBatch) (fail : List Nat) : State × Bool :=
  (List.range 256).foldl (fun (a : State × Bool) k =>
    if a.1.sliceValid k && a.1.flag (Reg.RCK_BATCH_CTRL_EN k) &&
        (nodesOf a.1.rck.model).any (fun n => a.1.rckOwns k n.id) then
      let own := b.entries.filter fun e => a.1.rckOwns k e.1
      if b.mode / 64 % 2 = 1 && own.isEmpty then a
      else let (t, w) := a.1.sendBatch k { b with entries := own } (fail.contains k); (t, a.2 || w)
    else a) (s, false)

/-- The loop set-point of a plant or store (R621). -/
def State.loopDeliver (s : State) (valid : Nat) (n : RckRec) (r : Released) : State × Bool :=
  let (loop, sc, ofs) := if n.type = tyPlant then (n.u16 52, n.f 56, n.f 60) else (n.u16 40, n.f 44, n.f 48)
  if 128 ≤ loop then (s, false)
  else
    let v := saturate 32 (roundRat ((r.value * sc + ofs) * 65536))
    let s1 := s.setLoop { s.loopRec loop with deliv := some (v, valid), expired := false }
    (if s1.ns < valid then s1.clearFault 0x1203 loop else s1, true)

/-- The flows of the released step stand for later builds (R605); released a and m of the grid points (R620). -/
def State.noteRelease (s : State) (j : Nat) (l : List Released) : State :=
  match s.rck.plan with
  | none => s
  | some p =>
    let t := p.t0 + j * p.delta
    let fs := (p.layout.filter fun v => v.edge).map fun v => (t, v.id, p.x.getD (j * p.ns + v.off) 0)
    let old := s.rck.flows.filter fun x => x.1 ≠ t && decide (t ≤ x.1 + 20 * p.delta)
    let val := fun (id q : Nat) => ((l.find? fun r => r.node == id && r.qty == q).map fun r => r.value).getD 0
    let rel := ((nodesOf s.rck.model).filter fun n => n.type == tyGrid).map fun n => (n.id, val n.id 4, val n.id 5)
    { s with rck := { s.rck with flows := fs ++ old, released := rel } }

/-- Clamps counted (R619). -/
def State.countClamps (s : State) (l : List Released) : State :=
  let n := (l.filter fun r => r.clamped).length
  if n = 0 then s else (s.countBy Reg.RCK_CLAMPS_COUNT n).event 149

/-- STATUS and the faults of the modes (R618). -/
def State.rckMode (s : State) (mode j : Nat) : State :=
  let old := s.get Reg.RCK_STATUS_MODE
  let s1 := (s.put Reg.RCK_STATUS_MODE mode).put Reg.RCK_STATUS_STALE_STEPS j
  if mode = 1 then (s1.clearCode 0x1302).clearCode 0x1303
  else if old = mode then s1
  else if mode = 2 then (s1.event 147).raise1 0x1302 1 j
  else (s1.event 148).raise1 0x1303 2 0

/-- A release at an instant (R618–R623). -/
def State.rckRelease (s : State) (now : Nat) (fail : List Nat) : State :=
  let (mode, j) := s.releaseMode now
  let s0 := (gridsOf s.rck.model).foldl (fun s r => s.headroomFault r) (s.rckMode mode j)
  let nodes := nodesOf s0.rck.model
  let l := (nodes.map fun n => s0.nodeQty mode j now n).flatten
  let start := now / s0.rckDelta * s0.rckDelta
  let valid := start + s0.rckDelta
  let id := if mode = 3 then 0 else s0.rck.plan.elim 0 fun p => p.id
  let b : RckBatch := { slice := 0, half := 0, mode := mode + (if s0.pair.gateOpen then 128 else 0), seq := 0, solve := id, start := start,
                        valid := valid, stale := j, entries := l.map entryOf }
  let s1 := (if mode = 3 then s0 else s0.noteRelease j l).countClamps l
  let (s2, loops) := nodes.foldl (fun (a : State × Bool) n =>
    match l.find? fun r => r.node == n.id && ((n.type == tyPlant && r.qty == 0) || (n.type == tyStore && r.qty == 1)) with
    | some r => let (t, d) := a.1.loopDeliver valid n r; (t, a.2 || d)
    | none => a) (s1, false)
  let (s3, sent) := s2.sendBatches b fail
  s3.eventIf (loops || sent) 146

/-- Whether the keeper releases at all (R618, R624). -/
def State.mayRelease (s : State) : Bool := s.flag Reg.RCK_CTRL_EN && s.ready && s.st != stSafe

/-- SETPOINT_RELEASE (R618): a step boundary. -/
def setpointRelease (now : Nat) (fail : List Nat) (s : State) : State :=
  if !s.mayRelease || now % s.rckDelta ≠ 0 || decide (now < s.ns) then s
  else (s.advance (now * nsUnit)).rckRelease now fail

def execSetpointRelease (now : Nat) (dmaFail : List Nat) (s : State) : Host.Outcome State Fault Refusal :=
  .next (setpointRelease now dmaFail s)

/-- A solve that waits its turn starts at the end of the running one (R620). -/
def State.solveAgain (s : State) : State :=
  if s.rck.again && s.flag Reg.RCK_CTRL_EN && s.solveStates then
    { s with rck := { s.rck with again := false } }.solveStart false s.ns
  else s

/-- The run of a solve that has ended at an instant (R611–R615): its outcome and the solver. A solve whose time is over has done
`iters` iterations. -/
def State.solveRun (s : State) (c : RckSolve) (r : SolveResult) : Nat × Qp × Solver :=
  let g := equilibrate c.prog
  let s0 := solverOf g c.x c.z c.d c.rho
  let run := fun k => solverRun g (f32v (s.get Reg.RCK_TOL_ABS_EPS)) (f32v (s.get Reg.RCK_TOL_REL_EPS)) k s0
  let most := s.get Reg.RCK_CFG2_ITER_MAX
  if c.start + s.get Reg.RCK_CTRL_SOLVE_PERIOD * 1000000000 ≤ r.now then (4, g, (run (min r.iters most)).2)
  else let (o, t) := run most; (o.getD 1, g, t)

/-- What a solve that has ended shows (R615): duration, iterations, objective, residuals of the last check, ρ. -/
def State.solveShown (s : State) (c : RckSolve) (now : Nat) (g : Qp) (t : Solver) : State :=
  let (_, rp, rd) := t.hist.headD (0, 0, 0)
  (((((s.put Reg.RCK_LAST_ITER_MS (min 65535 ((now - c.start) / 10000000))).put Reg.RCK_LAST_ITER_ITER t.iter).put
    Reg.RCK_OBJ_V (toF32 (objective c.prog (solverX g t)))).put Reg.RCK_RPRIM_V (toF32 rp)).put Reg.RCK_RDUAL_V (toF32 rd)).put
    Reg.RCK_RHO_V (toF32 t.rho)

/-- The plan of a solve that has converged. -/
def planOf (c : RckSolve) (g : Qp) (t : Solver) : RckPlan :=
  { id := c.id, t0 := c.t0, delta := c.delta, ns := c.prog.ns, steps := c.prog.steps, rowCount := c.prog.rows.length,
    layout := c.prog.layout, x := solverX g t, rho := t.rho, init := c.init, z := solverZ g t, d := solverD g t, rows := rowKeys c.prog }

/-- The plan of a solve that has converged stands (R615, R616). -/
def State.solvePlan (s : State) (c : RckSolve) (g : Qp) (t : Solver) : State :=
  let s1 := { s with rck := { s.rck with cur := none, plan := some (planOf c g t) } }
  ((((s1.put Reg.RCK_STATUS_SOLVING 0).put Reg.RCK_STATUS_LAST 0).put Reg.RCK_PLAN_T0_NS c.t0).count Reg.RCK_SOLVES_COUNT).event 144
    |>.clearCode 0x1301

/-- A solve ends with an outcome (R615, R616, R618): a failure, or the plan and its release. -/
def State.solveDone (s : State) (c : RckSolve) (r : SolveResult) (o : Nat) (g : Qp) (t : Solver) : State :=
  let s1 := s.solveShown c r.now g t
  if o ≠ 0 then (s1.solveFail o).solveAgain
  else
    let s2 := s1.solvePlan c g t
    (if s2.mayRelease then s2.rckRelease r.now r.dmaFail else s2).solveAgain

/-- SOLVE_END (R611–R615): the solve that runs ends with the outcome of its solver; a CONVERGED one is released. -/
def solveEnd (r : SolveResult) (s : State) : State :=
  match s.rck.cur with
  | none => s
  | some c =>
    let s0 := s.advance (r.now * nsUnit)
    let (o, g, t) := s0.solveRun c r
    s0.solveDone c r o g t

def execSolveEnd (r : SolveResult) (s : State) : Host.Outcome State Fault Refusal := .next (solveEnd r s)

/-- The partial release of a grid point whose headroom has fallen (R620). -/
def State.partialRelease (s : State) (now : Nat) (fail : List Nat) (n : RckRec) : State :=
  match s.rck.plan with
  | none => s
  | some p =>
    let (mode, j) := s.releaseMode now
    let l := s.nodeQty mode j now n
    let val := fun (q : Nat) => ((l.find? fun r => r.qty == q).map fun r => r.value).getD 0
    let s1 := s.countClamps l
    let rel := setKey Prod.fst (n.id, val 4, val 5) s1.rck.released
    let start := now / s1.rckDelta * s1.rckDelta
    let b : RckBatch := { slice := 0, half := 0, mode := mode + 64 + (if s1.pair.gateOpen then 128 else 0), seq := 0, solve := p.id,
                          start := start, valid := start + s1.rckDelta, stale := j, entries := l.map entryOf }
    let (s2, sent) := { s1 with rck := { s1.rck with released := rel } }.sendBatches b fail
    s2.eventIf sent 146

/-- HEADROOM_READ (R620): once per second while a plan is in force. -/
def headroomRead (now : Nat) (fail : List Nat) (s : State) : State :=
  if !s.mayRelease || (s.releaseMode now).1 = 3 || decide (now < s.ns) then s
  else
    let s0 := (gridsOf s.rck.model).foldl (fun s r => s.headroomFault r) (s.advance (now * nsUnit))
    let hyst := f32v (s0.get Reg.RCK_HR_HYST_KW)
    let low := (gridsOf s0.rck.model).filter fun n => match s0.headroom n, findKey Prod.fst n.id s0.rck.released with
      | some (hr, _), some (_, a, m) => decide (hr + hyst < a + m)
      | _, _ => false
    if low.isEmpty then s0
    else
      let s1 := low.foldl (fun s n => s.partialRelease now fail n) s0
      if s1.flag Reg.RCK_STATUS_SOLVING then { s1 with rck := { s1.rck with again := true } }
      else if s1.solveStates then s1.solveStart false now else s1

def execHeadroomRead (now : Nat) (dmaFail : List Nat) (s : State) : Host.Outcome State Fault Refusal := .next (headroomRead now dmaFail s)

/-- CTRL.EN cleared (R628): the solve that runs is aborted, plans are discarded. -/
def State.rckDisable (s : State) : State :=
  let s1 := s.abortSolve
  { s1 with rck := { s1.rck with cur := none, plan := none, again := false, flows := [], released := [] } }

end Sys2Proof.Machine
end

