-- ==== Sys2Proof/Machine/Power.lean ====
section
/-! DEFINITION. Supplies: power failure and hold-up, OFF and VIGIL (R72–R83, R113). -/

namespace Sys2Proof.Machine

/-- The main domain loses its supply (R72, R87, R116): its registers, units and outputs are gone, only what R116 keeps stays. -/
def State.mainOff (s : State) (new : Nat) : State :=
  let t := s.cutPulses.wiped
  ({ t with boot := { t.boot with trail := t.boot.trail ++ [(s.st, new)] } }.put Reg.GLB_STATE_PREV s.st).put Reg.GLB_STATE_STATE new

/-- OFF: the vigil domain loses its supply, and with it the NRG SRAM (R674). -/
def State.goOff (s : State) : State :=
  let t := s.mainOff stOff
  { t with nrg := { vig := { t.nrg.vig with clocks := 0 } }, boot := { t.boot with nrgHeld := false } }

/-- What the vigil domain takes from the main domain's registers at entry to VIGIL (R510, R572, R573): the channels selected, their K
and the threshold. MOD_CLK0 and MOD_CLK1 then run where a channel of their group is selected. From OFF it runs on what it had stored
with its record (assumption 75). -/
def State.vigilTake (s : State) : VigilState :=
  let v := if s.st = stOff then s.nrg.vig
    else { s.nrg.vig with mask := s.get Reg.MOD_CFG_VIG_MASK, thresh := s.get Reg.NRG_VIGIL_THRESH_MA,
                          ks := (List.range 8).map fun c => s.get (Reg.NRG_VIG_K_K c) }
  { v with clocks := (if v.mask % 16 = 0 then 0 else 1) + (if v.mask / 16 = 0 then 0 else 2) }

/-- VIGIL: vigil metering starts. -/
def State.goVigil (s : State) : State :=
  let t := s.mainOff stVigil
  { t with boot := { t.boot with vigilRan := true }, nrg := { t.nrg with vig := s.vigilTake } }

/-- SEQ of the newest LEDGER bank that is durable. -/
def State.ledgerSeq (s : State) : Nat := s.bank.elim 0 Bank.seq

/-- PFW_ASSERT (R79, R125, R669): a ledger commit out of turn, the event, the journal entry; nothing else changes. -/
def pfwAssert (dur now : Nat) (ok : Bool) (s : State) : State :=
  if s.mainAbsent || s.boot.pfw || s.boot.detected.isSome then s
  else
    let s0 := s.advance (now * nsUnit)
    let s1 := { s0 with boot := { s0.boot with pfw := true }, per := { s0.per with pfwAt := some s0.ns } }.event 3
    let s2 := s1.ledgerCommit false true dur ok
    s2.journalAdd (.power 1 s2.ns s2.ledgerSeq)

def execPfwAssert (dur now : Nat) (ok : Bool) (s : State) : Host.Outcome State Fault Refusal := .next (pfwAssert dur now ok s)

/-- PFW_HOLD_TIMEOUT (R79, R128): 500 ms with VMAIN in range. -/
def pfwHoldTimeout (s : State) : State := if s.boot.pfw && s.boot.vmain then s.raise1 0x0001 1 0 else s

def execPfwHoldTimeout (s : State) : Host.Outcome State Fault Refusal := .next (pfwHoldTimeout s)

/-- PFW_DEASSERT (R79). -/
def pfwDeassert (s : State) : State := { s with boot := { s.boot with pfw := false } }.clearFault 0x0001 0

def execPfwDeassert (s : State) : Host.Outcome State Fault Refusal := .next (pfwDeassert s)

/-- The rods, the Reckoner, the recorder's streaming and the optics stop; no boundary follows (R80 step 2). -/
def State.powerStop (s : State) : State :=
  let s1 := [0, 1, 2].foldl (fun (s : State) r => (s.setRod r (idleRod (s.rod r))).moveRod r rodOff) s
  let s2 := s1.abortSolve.recTruncate
  { s2 with tg := { s2.tg with running := false }, macs := { s2.macs with cageOff := List.range 8 } }

/-- VMAIN_DETECT (R80, R673): custody, units, the final commit with the whole queue, the journal entry, in this order. -/
def vmainDetect (dur now : Nat) (ok : Bool) (s : State) : State :=
  if s.mainAbsent || s.boot.detected.isSome then s
  else
    let s0 := s.advance (now * nsUnit)
    let s1 := { s0 with boot := { s0.boot with vmain := false, detected := some s0.ns } }.dropCustody
    let s2 := s1.powerStop.ledgerCommit true false dur ok
    let s3 := s2.drainQueue (s2.journal.queue.length + s2.journal.waiting.length)
    let s4 := s3.journalAdd (.power 0 s3.ns s3.ledgerSeq)
    s4.drainQueue s4.journal.queue.length

def execVmainDetect (dur now : Nat) (ok : Bool) (s : State) : Host.Outcome State Fault Refusal := .next (vmainDetect dur now ok s)

/-- HOLDUP_END (R81, R82): VIGIL if VVG is in range, OFF otherwise, even where VMAIN has returned; module time stops. -/
def holdupEnd (s : State) : State :=
  if s.boot.detected.isNone then s
  else
    let s1 := { s with boot := { s.boot with detected := none, pfw := false }, timeRun := false }
    if s1.boot.vvg then s1.goVigil else s1.goOff

def execHoldupEnd (s : State) : Host.Outcome State Fault Refusal := .next (holdupEnd s)

/-- VVG_IN_RANGE (R113): in OFF vigil metering starts. -/
def vvgInRange (s : State) : State :=
  let s1 := { s with boot := { s.boot with vvg := true } }
  if s.st = stOff then s1.goVigil else s1

def execVvgInRange (s : State) : Host.Outcome State Fault Refusal := .next (vvgInRange s)

/-- VVG_LOW (R113, R574): in VIGIL the last record is written and OFF entered; `lost` calendar seconds have no stored record. -/
def vvgLow (lost : Nat) (s : State) : State :=
  let s1 := { s with boot := { s.boot with vvg := false } }
  if s.st = stVigil then
    { s1.goOff with boot := { s1.goOff.boot with vigilLost := s1.boot.vigilLost + lost } }
  else s1

def execVvgLow (lost : Nat) (s : State) : Host.Outcome State Fault Refusal := .next (vvgLow lost s)

/-- VMAIN_VALID (R76, R113, R115): OFF and VIGIL are left for RESET, a Power reset; the changes of state are journaled now. -/
def vmainValid (s : State) : State :=
  if !s.mainAbsent then s
  else
    let s1 := s.boot.trail.foldl (fun (s : State) x => s.journalAdd (.stateChange x.1 x.2 0 s.ns)) s
    { s1 with boot := { s1.boot with vmain := true, trail := [] } }.moduleReset Reg.GLB_RESET_CAUSE_POWER true false

def execVmainValid (s : State) : Host.Outcome State Fault Refusal := .next (vmainValid s)

end Sys2Proof.Machine
end

