-- ==== Sys2Proof/Machine/Tick.lean ====
section
/-! DEFINITION. The tick boundary with its five actions in order, and a phase step that applies (R20, R27, R30, R32, R33, R35,
R190, R302, R315, R316, R336, R349). -/

namespace Sys2Proof.Machine

/-! ### The release to the rods (R27 step 4, R315, R316, R336) -/

/-- The work of a computed slot for an image. -/
def workOf (x : Slot) : WorkSlot :=
  { slot := x.slot, group := x.group, auto := x.auto, chg := x.chg, shadow := x.state == slShadow, install := x.install,
    fresh := x.fresh, clear := x.clear, img := x.img }

/-- A slot whose pending state, flags and group note have gone to the rods. -/
def sentSlot (x : Slot) : Slot :=
  if x.state = slShadow || x.state = slRunning then { x with install := none, fresh := false, clear := false, chg := false } else x

/-- What the boundary brought to the CLE reaches the instances of some rods without a chunk. -/
def State.cleEdgesOf (s : State) (l : List Nat) : State :=
  match s.cle.prog with
  | some p => l.foldl (fun (s : State) r => s.setRod r { s.rod r with cle := cleEdge p s.cle.work (s.rod r).cle }) s
  | none => s

/-- The same for every rod. -/
def State.cleEdges (s : State) : State := s.cleEdgesOf [0, 1, 2]

/-- Image n goes to position n mod 8 of the image mirror (R36) and to the rods that compute, in SYNC for the slots in SHADOW_RUN alone
(R106), the rods in VOTING not while a resynchronisation fills them (R439); a rod in the mask `crcFail` finds the CRC wrong and discards it: counted, source 79 (R316, R349, R351). -/
def State.deliverImage (s : State) (img : TickImage) (crcFail : Nat) : State :=
  let n := img.tick
  let comp := (computed s.slots).filter fun x => s.st ≠ stSync || x.state == slShadow
  let lay := comp.map fun x => (x.slot, (imageTargets x.img).length)
  let s1 := { s with core := { s.core with
    layout := (n, lay) :: s.core.layout.take 7, imgCrc := imageCrc img,
    imageMirror := img :: s.core.imageMirror.filter fun (g : TickImage) => g.tick % 8 ≠ n % 8 } }
  let on := if s1.flag Reg.ROD_CTRL_EN then
      (List.range 3).filter fun r => (s1.rodSt r == rodVoting && !s1.resyncTick) || s1.rodSt r == rodVerifying else []
  if on.isEmpty then s1.cleEdges
  else
    let s1 := if s1.resyncTick then s1.cleEdgesOf (s1.rodsIn rodVoting) else s1
    let w : Work := { image := img, slots := comp.map workOf, cle := s1.cle.work }
    let s2 := on.foldl (fun (s : State) r =>
      let d := s.rod r
      if crcFail >>> r % 2 = 1 then
          (s.setRod r { d with crcBad := some n }).count (Reg.ROD_RODSTAT_CRC_COUNT r) |>.event 79
        else s.setRod r { d with todo := d.todo ++ [w] }) s1
    { s2 with slots := s2.slots.map sentSlot }

/-- The release of image n; where the copies of the aligner differ no image is delivered (R315). -/
def State.releaseImage (s : State) (n : Nat) (mismatch : Bool) (crcFail : Nat) : State :=
  if !s.svi.enabled || decide (n < s.svi.firstTick) || s.svi.last.any (fun k => decide (n ≤ k)) then s.cleNoImage
  else
    let (s1, img) := s.release n
    if mismatch then
      let s2 := (({ s1 with core := { s1.core with noImage := some n } }.count Reg.SVI_MISMATCH_COUNT).event 69).raise1 0x0804 2 (n % 2 ^ 32)
      s2.cleNoImage
    else s1.deliverImage img crcFail

/-! ### The result mirror (R27 step 5, R35) -/

/-- Generation n of the result mirror at position n mod 8 (R36), written while the beam is enabled. -/
def State.mirrorResult (s : State) (n : Nat) : State :=
  if !s.flag Reg.ROD_CTRL_EN then s
  else
    let wq := s.cle.prog.elim 0 CleImage.wq
    let g : ResultGen := match s.core.settled with
      | some x =>
        if x.tick ≠ n then { tick := n, missed := false, records := [], cle := [], entries := [] }
        else
          let parts := slotParts wq x.layout x.stream
          { tick := n, missed := !x.decided && !x.idle,
            records := if x.decided then parts.map fun p => (p.1, p.2.take 16) else [],
            cle := if x.decided then (x.stream.drop 4).take wq else [],
            entries := if x.decided then parts.flatMap fun p => entriesOf (p.2.drop 16) else [] }
      | none => { tick := n, missed := false, records := [], cle := [], entries := [] }
    { s with core := { s.core with resultMirror := g :: s.core.resultMirror.filter fun (x : ResultGen) => x.tick % 8 ≠ n % 8 } }

/-! ### New settings of the tick generator (R20) -/

/-- What refers to tick numbers starts again when they are counted anew: settled tick, layouts, digests; commits that wait
join the next boundary. -/
def State.renumber (s : State) : State :=
  { s with
    core := { s.core with settled := none, layout := [], noImage := none },
    pair := { s.pair with settled := 0, myDigests := [], peerDigests := [] },
    commits := s.commits.map fun (c : CommitBuf) => { c with tick := s.tg.next } }

/-- An enable of SVI that waits takes effect at boundary n; the answer tells whether the settings changed. A change of rate
stops loops, and empties the histories of R501, R525 and R562. -/
def State.enableAt (s : State) (n : Nat) : State × Bool :=
  if !s.svi.enablePending then (s, false)
  else
    let f := s.tg.f
    let (s1, changed) := s.applyEnable n
    let s2 := if changed then s1.renumber else s1
    (if s2.tg.f = f then s2 else ((s2.recStop.nrgEmpty).loopsOff).emptyHistories, changed)

/-! ### TICK_BOUNDARY -/

/-- Step 1 of R27: custody and tokens. -/
def State.boundaryCustody (s : State) (n : Nat) : State :=
  let held := s.flag Reg.GLB_STATUS_HOLD && s.pair.gateOpen
  let s1 := (s.custodyBoundary n).tokenBoundary n
  if !held && s1.pair.gateOpen then s1.loopsReclose else s1

/-- Step 2 of R27: decision n, its read-back, the digest, and what other chapters put at the decision. -/
def State.boundaryDecision (s : State) (n doBad : Nat) : State :=
  let s1 := (((s.publish n).doReadback doBad).sendDigest n).hoBoundary n
  let s2 := ((s1.donorBoundary n).releaseBoundary n).injBoundary n
  let (s3, due) := s2.fijDue s2.ns none
  s3.fijGive due

/-- Step 3 of R27: commits, installs, and every command and change that waits for a boundary. -/
def State.boundaryApply (s : State) (n : Nat) : State × Bool :=
  let s1 := (((s.applyCommits n).applyGsubs).applyGcbs).slotBoundary n
  let (s2, partner) := (s1.cleBoundary n).joinBoundary n
  let s3 := ((s2.rodBoundary partner).sliceBoundary n).chanBoundary
  s3.tallyBoundary.enableAt n

/-- TICK_BOUNDARY (R27) at d_n of the tick whose boundary is next. `doBad` are the contact lines whose read-back differs
(R692), `mismatch` tells that the aligner's copies differ (R315), `crcFail` names the rods that find the image's CRC wrong (R316).
A tick not settled before is settled at its v_n (R408). -/
def tickBoundary (doBad : Nat) (mismatch : Bool) (crcFail : Nat) (s : State) : State :=
  if !s.tg.running then s
  else
    let n := s.tg.next
    let s0 := ((if s.isSettled n then s else vote none s).advance (s.decisionInstant n)).streamNow
    let s1 := (s0.boundaryCustody n).boundaryDecision n doBad
    let (s2, changed) := s1.boundaryApply n
    if changed then (s2.mirrorResult n).cleEdges.refreshReady
    else
      let s3 := (s2.releaseImage (n + 1) mismatch crcFail).mirrorResult n
      { s3 with tg := { s3.tg with next := n + 1 } }.refreshReady

def execTickBoundary (doBad : Nat) (mismatch : Bool) (crcFail : Nat) (s : State) : Host.Outcome State Fault Refusal :=
  .next (tickBoundary doBad mismatch crcFail s)

/-! ### STEP_APPLY (R32, R33, R190, R191) -/

/-- Whether an instant lies in [v_n − 2 µs, d_n + 2 µs] of tick n. -/
def State.inWindow (s : State) (t n : Nat) : Bool :=
  decide (s.voteInstant n - 2000 * nsUnit ≤ t) && decide (t ≤ s.decisionInstant n + 2000 * nsUnit)

/-- Whether a step may apply at an instant: outside every vote window and 1 µs after the write, or at once while ticks are
stopped. -/
def State.stepMay (s : State) (t : Nat) : Bool :=
  !s.tg.running || (decide (s.tim.armedAt + 1000 * nsUnit ≤ t) &&
    !((List.range 4).any fun k => s.inWindow t (s.tg.next + k - 2)))

/-- The aligner and the numbering after a step while no slot computes (R33): images are discarded, the next boundary and the
next sample are the first after the new time, and no tick is released twice. -/
def State.restartTicks (s : State) : State :=
  let k := firstTickFrom (s.time + 1) s.tg.f
  let next := firstTickFrom (s.time + 1 - s.tg.rho * 1000 * nsUnit) s.tg.f - 1
  let first := match s.svi.last with
    | some n => max k (n + 1)
    | none => k
  let v := match s.svi.views with
    | [] => []
    | (_, l) :: _ => [(0, l)]
  let s1 := if s.svi.enabled then s.discardOpen else s
  ({ s1 with tg := { s1.tg with next := next, sample := k, firstImage := 0 }, svi := { s1.svi with firstTick := first, views := v } }.renumber).showOpen

/-- After a forward step every queued frame whose expiry instant lies in the past expires at once (R191). -/
def State.expireQueued (s : State) : State :=
  let now := s.ns
  s.swc.copies.foldl (fun (s : State) c => match s.coreFrame c.frame with
    | some f => if c.stage ≠ 3 && (s.expiryOf f c.port).any (fun x => decide (x.1 < now)) then frameExpiry c.frame c.port s else s
    | none => s) s

/-- Instants from which the time base measures a duration keep it over a step of v units, and a pulse in progress its width (R191). -/
def shiftTim (v : Int) (t : TimState) : TimState :=
  let mv := fun (x : Nat) => ((x : Int) + v).toNat
  { t with armed := none, armedAt := mv t.armedAt, holdStart := mv t.holdStart, lastSync := mv t.lastSync, lastPps := mv t.lastPps,
           ppsUntil := mv t.ppsUntil, ppsLast := none, history := t.history.map fun x => (mv x.1, x.2) }

/-- Module time steps by v ns, modulo 2^48 s (R187); STEP_PEND falls, source 17 is set. -/
def State.stepTime (s : State) (v : Int) : State :=
  let d := v * (nsUnit : Nat)
  let t := (((s.time : Int) + d) % (timeTop : Nat)).toNat
  ({ s with time := t, tim := shiftTim d s.tim }.put Reg.TIM_STATUS_STEP_PEND 0).event 17

/-- What follows a step of v ns (R33, R191): histories empty beyond 1,000 ns, the ticks start again where no slot computes, and queued
frames expire after a step forward. -/
def State.stepFollows (s : State) (v : Int) : State :=
  let s2 := if 1000 < v.natAbs then s.emptyHistories else s
  let s3 := if s2.computing || !s2.tg.running then s2 else s2.restartTicks.nrgEmpty
  if 0 < v then s3.expireQueued else s3

/-- The armed step applies where it may (R190). -/
def State.stepArmed (s : State) : State :=
  match s.tim.armed with
  | none => s
  | some v => if !s.stepMay s.time then s else (s.stepTime v).stepFollows v

/-- STEP_APPLY: the armed step is added to module time at the instant `now` in ns (R190). -/
def stepApply (now : Nat) (s : State) : State := (s.advance (now * nsUnit)).stepArmed

def execStepApply (now : Nat) (s : State) : Host.Outcome State Fault Refusal := .next (stepApply now s)

end Sys2Proof.Machine
end

