-- ==== Sys2Proof/Machine/RegAccess.lean ====
section
/-! DEFINITION. Writes and reads of registers (R47–R60, R110): what is refused and why, what a write sets, the commands
behind register bits, the side effects of reads. -/

namespace Sys2Proof.Machine

/-! ### Access (R44–R51) -/

/-- Whether BAR accesses are served (R110): from step 4 of BOOT on. -/
def State.barServed (s : State) : Bool := s.ready || (s.st == stBoot && decide (3 ≤ s.get Reg.KPR_BOOT_STAGE))

/-- Whether a field lies in 32-bit word k of its register. -/
def FieldSpec.inWord (f : FieldSpec) (k : Nat) : Bool := f.lo / 32 == k

/-- Whether a write can change a field. -/
def FieldSpec.writable (f : FieldSpec) : Bool := f.acc == .rw || f.acc == .wo || f.acc == .w1c || f.acc == .w1s

/-- The word after a write: RW fields take it, a 1 clears W1C bits and sets W1S bits, other fields keep their value (R50, R51). -/
def mergeWord (k : Nat) (old w : Word) (l : List FieldSpec) : Word :=
  (l.filter fun f => f.inWord k).foldl (fun (x : Word) f =>
    let lo := f.lo - 32 * k
    let v := w.field lo f.width
    let o := old.field lo f.width
    if f.acc == .rw then x.setField lo f.width v
    else if f.acc == .w1c then x.setField lo f.width (o - (o &&& v))
    else if f.acc == .w1s then x.setField lo f.width (o ||| v)
    else x) old

/-- Whether an RW or WO field would take a value outside its range (R55). -/
def outOfRange (k : Nat) (w : Word) (l : List FieldSpec) : Bool :=
  l.any fun f => f.inWord k && (f.acc == .rw || f.acc == .wo) &&
    (decide (w.field (f.lo - 32 * k) f.width < f.min) || decide (f.max < w.field (f.lo - 32 * k) f.width))

/-! ### Reason 3: the module state (R60) -/

/-- The loop of an offset of LCE that holds coefficients, and whether the write changes one (R594, R595). -/
def State.coefWrite (s : State) (off : Nat) (w : Word) : Option Nat :=
  if 0x5000 ≤ off then some ((off - 0x5000) / 0x40)
  else if off < 0x1000 then none
  else
    let x := off % 0x80
    let old := s.rd (0x120000 + off)
    let hit := x == 0x30 || x == 0x40 || (decide (0x64 ≤ x) && decide (x ≤ 0x7C)) ||
      (x == 0x34 && old.field 0 16 != w.field 0 16) ||
      (x == 0x4C && (old.field 31 1 != w.field 31 1 || old.field 26 1 != w.field 26 1))
    if hit then some ((off - 0x1000) / 0x80) else none

/-- Whether a coefficient write meets a loop in compatible mode that is CLOSED or FALLBACK (R594). -/
def State.coefHeld (s : State) (off : Nat) (w : Word) : Bool :=
  (s.coefWrite off w).any fun n => s.flag (Reg.LCE_LOOP_CFG_COMPAT n) && (s.loopSt n == loClosed || s.loopSt n == loFallback)

/-- Whether the present module state, or the state of a unit, does not permit the write. -/
def State.modeBars (s : State) (blk off : Nat) (w : Word) : Bool :=
  (blk == 21 && (off == 0x1C || (decide (0x24 ≤ off) && decide (off < 0x40))) && s.st != stService) ||
    (blk == 18 && s.coefHeld off w)

/-! ### Reason 0: enabled blocks (R53, R54) -/

/-- Whether a register counts as one of an enabled block (R237, R580). -/
def State.unitOn (s : State) (blk off : Nat) : Bool :=
  if blk = 6 && 0x1000 ≤ off then s.flag (Reg.MACP_ENABLE_EN (off / 0x1000 - 1))
  else if blk = 6 && 0x40 ≤ off && off < 0x80 then
    let k := (off - 0x40) / 0x10
    s.flag (Reg.MACP_ENABLE_EN (2 * k)) || s.flag (Reg.MACP_ENABLE_EN (2 * k + 1))
  else if blk = 18 && 0x1000 ≤ off && off < 0x5000 then s.loopSt ((off - 0x1000) / 0x80) != loOff
  else if blk = 18 && 0x100 ≤ off && off < 0x200 then
    (List.range 128).any fun n => s.loopSt n != loOff && s.flag (Reg.LCE_LOOP_OUT_SEND n) &&
      s.get (Reg.LCE_LOOP_OUT_DEV n) == (off - 0x100) / 8
  else s.blockEnabled blk

/-- Whether the write is refused with reason 0: an S-class field of an enabled block, or recorder masks, channels and
points while the recorder is armed (R528, R544). -/
def State.classBars (s : State) (blk off : Nat) (r : RegSpec) : Bool :=
  ((r.fields.any fun f => f.cls == .s) && s.unitOn blk off) ||
    (blk == 16 && (off == 0x50 || off == 0x5C || (decide (0x1400 ≤ off) && decide (off < 0x1600))) && s.recState != 0)

/-! ### Reason 1: values (R55) -/

/-- Whether any of the four bytes of a word satisfies p. -/
def anyByte (w : Word) (p : Nat → Bool) : Bool := (List.range 4).any fun k => p (w.field (8 * k) 8)

/-- A signed 32-bit value outside a range. -/
def outside (w : Word) (lo hi : Int) : Bool := decide (signed 32 w.toNat < lo) || decide (hi < signed 32 w.toNat)

/-- Quotas and other fields of a slice (R158–R162). Slice 0's DSID ignores writes. -/
def State.sliceBad (s : State) (k x : Nat) (w : Word) : Bool :=
  let prot := s.flag (Reg.SLC_SLICE_ID_PROT k)
  let quota := fun (f : Field) (max : Nat) =>
    let v := w.field f.lo f.width
    decide (max < v) || (decide (v < s.get f) && decide (v < s.get (useOf f)))
  if x = 0x04 then
    quota (Reg.SLC_SLICE_QA_RINGS k) 64 || quota (Reg.SLC_SLICE_QA_SLOTS k) 1024 || quota (Reg.SLC_SLICE_QA_SVSUB k) 512 ||
      (!prot && w.field 7 11 != 0)
  else if x = 0x08 then
    quota (Reg.SLC_SLICE_QB_GOCB k) 512 || quota (Reg.SLC_SLICE_QB_GOSUB k) 1024 || (!prot && w.field 0 10 != 0)
  else if x = 0x0C then quota (Reg.SLC_SLICE_QC_RECA k) 4096 || quota (Reg.SLC_SLICE_QC_RECB k) 8192
  else if x = 0x10 then quota (Reg.SLC_SLICE_QD_KEYS k) 1024
  else if x = 0x14 then decide (4096 < w.field 0 12 + w.field 16 13)
  else if x = 0x18 then decide (4096 < w.field 0 12 + w.field 16 13)
  else if x = 0x1C then decide (2048 < w.field 0 11 + w.field 12 12)
  else if x = 0x20 then k != 0 && (w.field 8 2 != 0 || w.field 23 1 != 0 || (!prot && w.field 20 3 != 0))
  else if x = 0x3C then k != 0 && s.sliceValid k && w != s.rd (0x3103C + 0x40 * k)
  else false

/-- Registers of a port window (R237, R238, R251, R261). -/
def State.portBad (s : State) (p x : Nat) (w : Word) : Bool :=
  let other := if p % 2 = 0 then p + 1 else p - 1
  if x = 0x000 then
    w.field 0 1 == 1 && decide (p < 8) && (s.get (Reg.MAC_PAIR_CFG_MODE (p / 2)) == 1 || s.get (Reg.MAC_PAIR_CFG_MODE (p / 2)) == 2) &&
      (s.get (Reg.MACP_CFG_SPEED p) != s.get (Reg.MACP_CFG_SPEED other) || s.get (Reg.MACP_CFG_FEC p) != s.get (Reg.MACP_CFG_FEC other))
  else if x = 0x004 then
    if p < 8 then decide (2 < w.field 0 3) || (w.field 4 1 == 1 && w.field 0 3 != 2) || (w.field 5 1 == 1 && w.field 0 3 != 0)
    else w.field 5 2 != 0
  else if x = 0x014 then w.field 0 2 == 3
  else if x = 0x020 then decide (7 < p) && w.field 4 8 != 0
  else if x = 0x034 then decide (p < 10) && w.field 24 8 != 0
  else false

/-- Registers of a loop window (R581, R583, R595). -/
def State.loopBad (s : State) (n x : Nat) (w : Word) : Bool :=
  let lo := s.getS (Reg.LCE_LOOP_SP_LO_LO n)
  let hi := s.getS (Reg.LCE_LOOP_SP_HI_HI n)
  if x = 0x00 then decide (w.field 0 16 ≤ w.field 16 16)
  else if x = 0x10 then w.field 28 2 == 3
  else if x = 0x18 || x = 0x1C then outside w lo hi
  else if x = 0x20 then decide (hi < signed 32 w.toNat)
  else if x = 0x24 then decide (signed 32 w.toNat < lo)
  else if x = 0x30 then decide (w.field 16 16 < w.field 0 16)
  else if x = 0x4C then w.field 28 2 == 3
  else false

/-- Masks of the recorder (R544): the state with the write in place keeps FIRST + NPTS and the order of offsets. -/
def State.maskBad (s : State) (off : Nat) (w : Word) : Bool :=
  let t := s.wr (0x100000 + off) w
  let m := (off - 0x1400) / 8
  decide (1024 < t.get (Reg.AQE_MASK_PTS_FIRST m) + t.get (Reg.AQE_MASK_PTS_NPTS m)) || !t.masksOk t.aqe.mpts

/-- PTP_CFG (R196, R209): LOG_SYNC is −4 to 0, ANN_TIMEOUT 2 to 10 by its field's range; an ordinary clock takes the ports of one
pair. -/
def ptpBad (w : Word) : Bool :=
  let sync := w.field 20 4
  let pairs := ((List.range 4).filter fun k => w.field (2 * k) 2 != 0).length
  (sync != 0 && decide (sync < 12)) || (w.field 8 1 == 0 && decide (1 < pairs))

/-- Conditions on a value beyond the ranges of the fields, each recorded with reason 1. -/
def State.valueBad (s : State) (blk off : Nat) (w : Word) : Bool :=
  if blk = 4 && off = 0x38 then ptpBad w
  else if blk = 3 && 0x1000 ≤ off then s.sliceBad ((off - 0x1000) / 0x40) (off % 0x40) w
  else if blk = 6 && 0x1000 ≤ off then s.portBad (off / 0x1000 - 1) (off % 0x1000) w
  else if blk = 6 && 0x40 ≤ off then off % 0x10 == 0 && w.field 0 2 == 3
  else if blk = 7 then
    if off = 0x24 then decide (16384 < w.field 0 16 + w.field 16 16 + s.get Reg.SWC_RESV_B_TC4 + s.get Reg.SWC_RESV_B_TC5)
    else if off = 0x28 then decide (16384 < w.field 0 16 + w.field 16 16 + s.get Reg.SWC_RESV_A_TC6 + s.get Reg.SWC_RESV_A_TC7)
    else if off = 0x44 || off = 0x10C then w.field 12 4 != 0
    else if 0x1000 ≤ off then
      let p := (off - 0x1000) / 0x40
      let x := off % 0x40
      if x = 0x08 then anyByte w fun v => v == 0
      else if x = 0x0C then decide (11 < p) && w.field 0 2 != 0
      else if x = 0x10 then (decide (11 < p) && w.toNat != 0) || (decide (p < 12) && anyByte w fun v => decide (63 < v) && v != 255)
      else false
    else false
  else if blk = 14 then
    if off = 0x18 then anyByte w fun v => decide (49 < v % 64)
    else 0x1000 ≤ off && off % 0x10 == 8 && outside w (-2500) 2500
  else if blk = 16 then
    if off = 0x10 then
      w.field 0 1 == 1 && (!s.recFits s.chansNow || (s.flag Reg.AQE_GRP_EN && decide (s.get Reg.AQE_CAPT_PRE_MS < 10)))
    else if off = 0x18 then decide (w.field 0 17 < s.get Reg.AQE_CAPT_POST_MS) || decide (120000 < w.field 0 17)
    else if 0x1400 ≤ off && off < 0x1600 then s.maskBad off w
    else 0x1600 ≤ off && outside w (-100000) 100000
  else if blk = 18 then 0x1000 ≤ off && off < 0x5000 && s.loopBad ((off - 0x1000) / 0x80) (off % 0x80) w
  else if blk = 19 then
    if off = 0x24 then
      match f32 w.toNat with
      | some v => !(decide (pow2 (-20) ≤ v) && decide (v ≤ pow2 20))
      | none => true
    else 0x1000 ≤ off && off % 0x10 == 8 && w.field 0 1 == 1
  else if blk = 21 then
    0x24 ≤ off && off < 0x40 && (((List.range 8).any fun g => w.field (2 * g) 2 == 3) || w.field 14 2 == 2)
  else false

/-- Registers of P8–P11 whose fields take only zero, whatever their ranges (R251). -/
def zeroOnly (blk off : Nat) : Bool :=
  blk == 6 && decide (0x9000 ≤ off) && (off % 0x1000 == 0x14 || off % 0x1000 == 0x18 || off % 0x1000 == 0x1C)

/-! ### Registers that are read-only where they stand (R49, R158, R205, R261) -/

/-- Whether a register is RO at this place and time: quotas of slice 0, a gate list in operation or pending. -/
def State.placeRo (s : State) (blk off : Nat) : Bool :=
  if blk = 3 then 0x1004 ≤ off && off ≤ 0x1010
  else if blk = 4 && 0x2000 ≤ off then
    let p := (off - 0x2000) / 0x800
    s.flag (Reg.TIM_PORT_GCL_CTRL_PEND p) || s.get (Reg.TIM_PORT_GCL_CTRL_OPER p) == (off - 0x2000) % 0x800 / 0x400
  else if blk = 4 && 0x1000 ≤ off then
    let x := (off - 0x1000) % 0x80
    (x == 0x18 || x == 0x1C || x == 0x20) && s.flag (Reg.TIM_PORT_GCL_CTRL_PEND ((off - 0x1000) / 0x80))
  else false

/-- Bits of a register that are RO on a port, or ignored: SPEED, FEC and MACSEC.EN of P8–P11, DSID of slice 0. -/
def roBits (blk off : Nat) : Nat :=
  if blk = 6 && 0x9000 ≤ off then (if off % 0x1000 = 0x04 then 0x17 else if off % 0x1000 = 0x20 then 1 else 0)
  else if blk = 3 && off = 0x103C then 2 ^ 32 - 1
  else 0

/-! ### What follows a write -/

/-- A bit that the write took from 1 to 0, or from 0 to 1. -/
def State.fell (s old : State) (f : Field) : Bool := old.flag f && !s.flag f
def State.rose (s old : State) (f : Field) : Bool := !old.flag f && s.flag f

/-- A change of SVI.CFG.RATE (R501, R525, R532, R579). -/
def State.rateWritten (s old : State) : State :=
  if s.get Reg.SVI_CFG_RATE = old.get Reg.SVI_CFG_RATE then s else s.rateFollows.emptyHistories.recStop.nrgEmpty.loopsOff

/-- The effects of a register's new value; `old` is the state before the write. -/
def State.afterWrite (s old : State) (blk off : Nat) : State :=
  if blk = 4 then
    if off = 0x10 && !s.flag Reg.TIM_CTRL_REF_EN then { s with tim := { s.tim with refRun := 0 } }.toTcxo
    else if off = 0x34 then s.holdMaxWritten
    else s
  else if blk = 6 then
    if off = 0x14 then (if s.flag Reg.MAC_CTRL_EN then s else (List.range 12).foldl (fun (s : State) p => s.portStop p) s)
    else if 0x1000 ≤ off && off % 0x1000 = 0 && !s.flag (Reg.MACP_ENABLE_EN (off / 0x1000 - 1)) then s.portStop (off / 0x1000 - 1)
    else s
  else if blk = 7 then
    if s.fell old Reg.SWC_CTRL_EN then (List.range 17).foldl (fun (s : State) p => s.stopQueues p) s else s
  else if blk = 8 then s.rateWritten old
  else if blk = 13 then if s.fell old Reg.CLE_CTRL_EN then { s with cle := { s.cle with stopDue := true } } else s
  else if blk = 14 then if s.rose old Reg.MOD_CTRL_EN then s.modEnabled else s
  else if blk = 15 then
    if s.fell old Reg.ADC_CTRL_EN then
      ({ s with adc := { s.adc with stop := false } }.put Reg.ADC_STATUS_BUSY 0).put Reg.ADC_STATUS_RUN 0
    else s
  else if blk = 16 then
    if s.fell old Reg.AQE_CTRL_EN then s.recStop else if s.rose old Reg.AQE_CTRL_EN then s.emptyRing else s
  else if blk = 17 then if s.fell old Reg.NRG_STATUS_UFLOW then s.clearFault 0x1101 0 else s
  else if blk = 18 then if s.fell old Reg.LCE_CTRL_EN then s.loopsOff else s
  else if blk = 19 then
    if s.fell old Reg.RCK_CTRL_EN then s.rckDisable else if off = 0x80 then s.showEst else s
  else if blk = 21 then if off = 0x1C then s.put Reg.TMP_STATUS_MASKED (2 * s.get Reg.TMP_MASK_SRC) else s
  else if blk = 22 then if s.fell old Reg.PER_STATUS_GAP then s.clearFault 0x1604 0 else s
  else s

/-! ### Registers with a command of their own -/

/-- A write to the backup domain (R213–R222); CAL_DATE and CAL_TIME only stage. -/
def rtcRegWrite (off : Nat) (w : Word) (fields : List FieldSpec) (s : State) : State :=
  let d := w.toNat
  if off = 0x14 then s.rtcWrite 0x14 (w.field 0 1 == 1 && !s.flag Reg.RTC_STATUS_TIME_SET) { off := 0x14, data := d % 2 ^ 11 }
  else if off = 0x18 then { s with rtc := { s.rtc with date := d &&& 0x07FF7F1F } }
  else if off = 0x1C then { s with rtc := { s.rtc with time := d &&& 0x001F3F3F } }
  else if off = 0x24 then if w.field 0 1 = 1 then calSet (w.field 16 15) s else s
  else if off = 0x28 then
    if w.field 0 2 = 1 then dstAdd s else if w.field 0 2 = 2 then dstSubtract s else s.reject 5 0x28 1
  else if off = 0x2C then calShift (w.field 16 1 == 1) (w.field 0 15) s
  else
    let mask := if 0x40 ≤ off && off < 0x60 && off % 0x10 = 0 then 0x07FF7F1F
      else if 0x40 ≤ off && off < 0x60 && off % 0x10 = 4 then 0x001F3F3F else cfgMask 0 fields
    let zone := signed 8 (w.field 24 8)
    s.rtcWrite off ((off == 0x30 && (decide (zone < -48) || decide (56 < zone) || w.field 16 2 == 3)) || (off == 0x60 && w.field 0 16 == 0))
      { off := off, data := d &&& mask }

/-- CMD of the recorder: FIRE, ARM and DISARM in this order (R530–R533). -/
def recCmdWrite (w : Word) (s : State) : State :=
  let s1 := if w.field 0 1 = 1 then recFire s else s
  let s2 := if w.field 1 1 = 1 then recArmCmd s1 else s1
  if w.field 2 1 = 1 then recDisarm s2 else s2

/-- KEEP_CMD (R543). -/
def keepCmdWrite (w : Word) (s : State) : State :=
  match w.field 0 2, s.keepRec with
  | 0, _ => s.reject 16 0xDC 1
  | 3, _ => deleteRecord s
  | op, some r => s.setRec { r with keep := op == 1 }
  | _, none => s

/-- LOOP[n].STATE (R587, R588): OP, and the sticky bits unless OP is refused. -/
def loopStateWrite (n : Nat) (w : Word) (s : State) : State :=
  let op := w.field 29 3
  if 3 < op then s.reject 18 (0x1050 + 0x80 * n) 1
  else
    let s1 := if op = 0 then s else s.loopOp n op
    if op ≠ 0 && (s1.loopRec n).op ≠ op then s1
    else
      let a := 0x121050 + 0x80 * n
      let o := (s1.rd a).field 8 4
      s1.wr a ((s1.rd a).setField 8 4 (o - (o &&& w.field 8 4)))

/-- The register command at an offset, where one has a row of its own. Its row's meaning makes its own checks. -/
def rowWrite (blk off : Nat) (w : Word) (fields : List FieldSpec) (s : State) : Option State :=
  let op := w.field 30 2
  let opCmd := fun (install read : Nat → State → State) (i : Nat) =>
    some (if op = 1 then install i s else if op = 2 then read i s else s.reject blk off 1)
  if blk = 0 && off = 0x1C then some (resetCtrlWrite w s)
  else if blk = 2 && 0x1000 ≤ off && off < 0x5000 && off % 0x10 = 8 then
    some (if w.field 31 1 = 1 then ringEnable ((off - 0x1000) / 0x10) w.toNat s else ringDisable ((off - 0x1000) / 0x10) w.toNat s)
  else if blk = 3 && 0x1000 ≤ off && off % 0x40 = 0 then some (sliceValidWrite ((off - 0x1000) / 0x40) w s)
  else if blk = 4 && off = 0x1C then some (incrHiWrite w s)
  else if blk = 4 && off = 0x30 then some (stepHiWrite w s)
  else if blk = 4 && 0x1000 ≤ off && off < 0x1600 && (off - 0x1000) % 0x80 = 0x14 then some (gclChangeWrite ((off - 0x1000) / 0x80) w s)
  else if blk = 5 && off ≠ 0x8C then some (rtcRegWrite off w fields s)
  else if blk = 7 && off = 0x100 then opCmd fdbInstall fdbRead (w.field 0 12)
  else if blk = 8 && off = 0x10 then some (if w.field 0 1 = 1 then sviEnable s else sviDisable s)
  else if blk = 8 && off = 0x34 then opCmd gsubInstall gsubRead (w.field 0 10)
  else if blk = 9 && off = 0x10 then some (rodEnableChange (w.field 0 1 == 1) s)
  else if blk = 10 && 0x40 ≤ off && off % 0x20 = 4 then some (if w.field 0 1 = 1 then rodRearm ((off - 0x40) / 0x20) s else s)
  else if blk = 12 && off = 0x34 then opCmd gcbInstall gcbRead (w.field 0 9)
  else if blk = 15 && off = 0x24 then some (if w.field 1 1 = 1 then adcCmdStop s else s)
  else if blk = 16 && off = 0x40 then some (recCmdWrite w s)
  else if blk = 16 && off = 0x50 && s.recState = 0 then
    opCmd (chInstall (w.field 29 1 == 1)) (chRead (w.field 29 1 == 1)) (w.field 0 13)
  else if blk = 16 && off = 0x5C && (s.recState = 0 || op = 2) then opCmd mptInstall mptRead (w.field 0 10)
  else if blk = 16 && off = 0xDC then some (keepCmdWrite w s)
  else if blk = 17 && off = 0x40 then some (accSnapshot (w.field 31 1 == 1) (w.field 0 8) s)
  else if blk = 17 && 0x400 ≤ off && off < 0xC00 && off % 0x20 = 0x18 then some (heatReportWrite ((off - 0x400) / 0x20) w.toNat s)
  else if blk = 18 && 0x1000 ≤ off && off < 0x5000 && off % 0x80 = 0x50 then some (loopStateWrite ((off - 0x1000) / 0x80) w s)
  else if blk = 21 && off = 0x10 then some (if w.field 0 1 = 1 then tamperClear s else s)
  else if blk = 25 && 0x1000 ≤ off && off < 0x2700 then some (evtSrcWrite ((off - 0x1000) / 4) w s)
  else none

/-! ### REGISTER_WRITE -/

/-- The reason for which a write is refused, the first that applies (R60). -/
def State.refusal (s : State) (blk off : Nat) (w : Word) (r : RegSpec) (k : Nat) : Option Nat :=
  if s.modeBars blk off w then some 3
  else if s.classBars blk off r then some 0
  else if zeroOnly blk off then (if w.toNat &&& cfgMask k r.fields = 0 then none else some 1)
  else if outOfRange k w r.fields || s.valueBad blk off w then some 1
  else none

/-- A write that is not refused: the fields take it, T-class fields of a disabled block also in the active view (R54; a port's EN
stands for the block's for S-class fields alone, R237). -/
def State.applyWrite (s : State) (blk off : Nat) (w : Word) (r : RegSpec) (k : Nat) : State :=
  let a := blk * 0x10000 + off
  let keep := BitVec.ofNat 32 (roBits blk off)
  let d := (w &&& ~~~keep) ||| (s.rd a &&& keep)
  let s1 := s.wr a (mergeWord k (s.rd a) d r.fields)
  let s2 := if r.isT && !s.blockEnabled blk then
      (s1.wr (activeAddr a) (mergeWord k (s1.rd (activeAddr a)) d r.fields)).afterSet blk
    else s1
  s2.afterWrite s blk off

/-- A full write to a register beyond the common four. One without a writable field is recorded as a write to an RO register, but
not where it holds RC fields, on which a write has no effect (R50; assumption 25). -/
def State.fieldWrite (s : State) (blk off : Nat) (w : Word) (r : RegSpec) (k : Nat) : State :=
  let a := blk * 0x10000 + off
  let alarm := blk == 5 && decide (0x40 ≤ off) && decide (off < 0x60)
  if !alarm && !(r.fields.any fun f => f.inWord k && f.writable) then
    if r.fields.any fun f => f.acc == .rc then s else s.badAccess 1 a
  else if s.placeRo blk off then s.badAccess 1 a
  else if s.st = stBoot then s.reject blk off 3
  else match rowWrite blk off w r.fields s with
    | some t => t
    | none => match s.refusal blk off w r k with
      | some n => (s.eventIf (blk == 18 && n == 3) 141).reject blk off n
      | none => s.applyWrite blk off w r k

/-- A full write to BAR0 (R49, R56, R59, R110). -/
def State.blockWrite (s : State) (a : Nat) (w : Word) : State :=
  let blk := a / 0x10000
  let off := a % 0x10000
  if 25 < blk then s.badAccess 0 a
  else if off < 8 then s.badAccess 1 a
  else if off = 8 then
    if w.field 0 1 = 1 then blockCommitWrite blk (w.field 1 1 == 1) s
    else if w.field 1 1 = 1 then blockDiscardWrite blk s
    else s.commitWrite blk fun s => s
  else if off = 12 then
    if s.st = stBoot then s.reject blk 12 3 else if w.field 31 1 = 1 then s.wr a 0 else s
  else match findSpec off (blockSpecs blk) with
    | some (r, k) => s.fieldWrite blk off w r k
    | none => s.badAccess (if (shadowAddr a).isSome then 1 else 0) a

/-- A write to the doorbell pages (R138, R165) or to the MSI-X table (R130). -/
def State.pageWrite (s : State) (a : Nat) (w : Word) : State :=
  let k := (a - 0x200000) / 0x1000
  let off := a % 0x1000
  if 0x500000 ≤ a then s.pciWrite (a - 0x500000) w
  else if 0x400000 ≤ a then
    if 0x408000 ≤ a then s
    else if a % 16 ≠ 12 then s.wr a w
    else if w.field 0 1 = 1 then s.wr a 1
    else msixVectorUnmask ((a - 0x400000) / 16) s
  else if 0x300000 ≤ a then s
  else if off < 0x100 then doorbell k (off / 4) w.toNat s
  else if off < 0x200 then evclr k ((off - 0x100) / 4) w.toNat s
  else if off < 0x210 then
    if !s.pageOpen k || s.flag (mbEn k) then s.stray k
    else s.wr a (if off % 8 = 0 then w &&& 0xFFFFF000 else w)
  else if off = 0x210 then mbCtrlWrite k w.toNat s
  else if off = 0x214 then mbOutDb k w.toNat s
  else if off = 0x218 then mbInDb k w.toNat s
  else if off = 0x21C && w.field 0 1 = 1 then s.put (srcField (1216 + k)) 0
  else s

/-- REGISTER_WRITE (R47, R49–R55, R110): `bytes` holds the byte enables; a partial write is recorded as kind 2 whatever it addresses
(assumption 25). BAR0 is at 0, the doorbell pages at 0x200000, the MSI-X
structures at 0x400000, configuration space at 0x500000, where a write names its whole word. -/
def registerWrite (addr : Nat) (data : Word) (bytes : Nat) (s : State) : State :=
  if s.mainAbsent || (!s.barServed && addr < 0x500000) then s
  else if addr % 4 ≠ 0 || bytes ≠ 15 then (if addr < 0x200000 then s.badAccess 2 addr else s)
  else if addr < 0x200000 then s.blockWrite addr data
  else s.pageWrite addr data

def execRegisterWrite (addr : Nat) (data : Word) (bytes : Nat) (s : State) : Host.Outcome State Fault Refusal :=
  .next (registerWrite addr data bytes s)

/-! ### REGISTER_READ -/

/-- Low words of 64-bit values that the tables hold as two registers (R48). -/
def lowOfPair (blk off : Nat) : Bool :=
  (blk == 2 && (off == 0x28 || (decide (0x1000 ≤ off) && decide (off < 0x5000) && off % 0x10 == 0))) ||
  (blk == 4 && (off == 0x2C || (decide (0x1000 ≤ off) && decide (off < 0x1600) &&
    ((off - 0x1000) % 0x80 == 0x1C || (off - 0x1000) % 0x80 == 0x28)))) ||
  (blk == 8 && off == 0x24) || (blk == 11 && (off == 0x3C || off == 0x44)) || (blk == 13 && off == 0x40) ||
  (blk == 17 && decide (0x2000 ≤ off) && off % 0x40 == 0x10) ||
  (blk == 19 && decide (0x1000 ≤ off) && off % 0x10 == 0) ||
  (blk == 24 && decide (0x100 ≤ off) && off % 0x20 == 0x14)

/-- The bytes that a read of `width` bytes returns of the word that holds its address (R47). -/
def readBytes (addr width : Nat) (w : Word) : Nat := w.toNat / 2 ^ (8 * (addr % 4)) % 2 ^ (8 * width)

/-- A read of the calendar (R218); `counts` oscillator counts have passed since the last one handled. -/
def State.calRead (s : State) (off counts : Nat) : State × Word :=
  let s1 := s.passCounts counts
  if off = 0x20 then
    ({ s1 with rtc := { s1.rtc with latchDate := some (s1.rd 0x50018).toNat, latchTime := some (s1.rd 0x5001C).toNat } }, s1.rd 0x50020)
  else if off = 0x18 then
    ({ s1 with rtc := { s1.rtc with latchDate := none } }, shownDate (s1.rtc.latchDate.elim (s1.rd 0x50018) (BitVec.ofNat 32)))
  else ({ s1 with rtc := { s1.rtc with latchTime := none } }, s1.rtc.latchTime.elim (s1.rd 0x5001C) (BitVec.ofNat 32))

/-- A read of a register beyond the common four, or of the active view of one (R46, R48–R50): `o` is the register's own offset. -/
def State.fieldRead (s : State) (a o : Nat) (r : RegSpec) (k : Nat) : State × Word :=
  let blk := a / 0x10000
  match findKey Prod.fst a s.hiLatch with
  | some (_, v) => ({ s with hiLatch := dropKey Prod.fst a s.hiLatch }, v)
  | none =>
    let s1 := if (r.words = 2 && k = 0) || lowOfPair blk o then
        { s with hiLatch := setKey Prod.fst (a + 4, s.view (a + 4)) s.hiLatch }
      else s
    (if o = a % 0x10000 && r.fields.any fun f => f.acc == .rc then s1.clearRc blk o else s1, s.view a)

/-- A read of the word at an aligned address (R46–R50, R189, R208, R218, R649): the state with the side effects of the read, and the
word. -/
def State.wordRead (s : State) (a counts : Nat) : State × Word :=
  let blk := a / 0x10000
  let off := a % 0x10000
  let o := shadowOf blk off
  if 0x200000 ≤ a then (s, s.view a)
  else if 25 < blk then (s.badAccess 0 a, 0)
  else if off < 0x10 then (s, s.view a)
  else if isTimeLatch a then s.timeLatch a
  else if a = 0x40054 then s.popEdge
  else if a = 0x140040 then (s.drawNonce, s.drawNonce.rd a)
  else if blk = 5 && (off = 0x18 || off = 0x1C || off = 0x20) then s.calRead off counts
  else match findSpec o (blockSpecs blk) with
    | some (r, k) => if o = off || r.isT then s.fieldRead a o r k else (s.badAccess 0 a, 0)
    | none => (s.badAccess 0 a, 0)

/-- REGISTER_READ (R47–R50, R110): of 1, 2 or 4 bytes; the value goes out, with the side effects of the read on the whole register. -/
def registerRead (addr width counts : Nat) (s : State) : State :=
  let p := s.wordRead (addr - addr % 4) counts
  if s.barServed || (decide (0x500000 ≤ addr) && !s.mainAbsent) then p.1.emit (.regRead addr (readBytes addr width p.2)) else s

def execRegisterRead (a : BarRead) (counts : Nat) (s : State) : Host.Outcome State Fault Refusal :=
  .next (registerRead a.addr a.width counts s)

end Sys2Proof.Machine
end

