-- ==== Sys2Proof/Machine/Dispatch.lean ====
section
/-! DEFINITION. One arm per command. -/

namespace Sys2Proof.Machine

/-- The effect of a command on everything but the queue. -/
def exec (i : Instr) (s : State) : Host.Outcome State Fault Refusal :=
  match i with
  | .vmainValid => Sys2Proof.Machine.execVmainValid s
  | .vvgInRange => Sys2Proof.Machine.execVvgInRange s
  | .vvgLow lost => Sys2Proof.Machine.execVvgLow lost s
  | .pfwAssert dur now ok => Sys2Proof.Machine.execPfwAssert dur now ok s
  | .pfwHoldTimeout => Sys2Proof.Machine.execPfwHoldTimeout s
  | .pfwDeassert => Sys2Proof.Machine.execPfwDeassert s
  | .vmainDetect dur now ok => Sys2Proof.Machine.execVmainDetect dur now ok s
  | .holdupEnd => Sys2Proof.Machine.execHoldupEnd s
  | .rstNReset => Sys2Proof.Machine.execRstNReset s
  | .rstNGlitch => Sys2Proof.Machine.execRstNGlitch s
  | .resetExit pos slot => Sys2Proof.Machine.execResetExit pos slot s
  | .bootStepComplete r => Sys2Proof.Machine.execBootStepComplete r s
  | .bootTamper source => Sys2Proof.Machine.execBootTamper source s
  | .watchdogExpiry => Sys2Proof.Machine.execWatchdogExpiry s
  | .lockstepError => Sys2Proof.Machine.execLockstepError s
  | .heartbeatExpiry => Sys2Proof.Machine.execHeartbeatExpiry s
  | .heartbeatLatchFound => Sys2Proof.Machine.execHeartbeatLatchFound s
  | .perst => Sys2Proof.Machine.execPerst s
  | .flrD3hot => Sys2Proof.Machine.execFlrD3hot s
  | .busMasterDisable => Sys2Proof.Machine.execBusMasterDisable s
  | .pasidDisable => Sys2Proof.Machine.execPasidDisable s
  | .pcieLinkDown => Sys2Proof.Machine.execPcieLinkDown s
  | .custPeerRise stamp => Sys2Proof.Machine.execCustPeerRise stamp s
  | .custodyCollision => Sys2Proof.Machine.execCustodyCollision s
  | .custodySample => Sys2Proof.Machine.execCustodySample s
  | .peerLineDisagree => Sys2Proof.Machine.execPeerLineDisagree s
  | .tickBoundary doBad mismatch crcFail => Sys2Proof.Machine.execTickBoundary doBad mismatch crcFail s
  | .vote differ => Sys2Proof.Machine.execVote differ s
  | .rodResultsDelivered rod overs corr upset => Sys2Proof.Machine.execRodResultsDelivered rod overs corr upset s
  | .sramUncorrectable rod word => Sys2Proof.Machine.execSramUncorrectable rod word s
  | .rodSelftestDone rod pass => Sys2Proof.Machine.execRodSelftestDone rod pass s
  | .rodCopyRoundEnd rod written uncorr => Sys2Proof.Machine.execRodCopyRoundEnd rod written uncorr s
  | .rodCopyFinalRound rod written uncorr => Sys2Proof.Machine.execRodCopyFinalRound rod written uncorr s
  | .beamSelftest failed => Sys2Proof.Machine.execBeamSelftest failed s
  | .diagSelftest test pass => Sys2Proof.Machine.execDiagSelftest test pass s
  | .gateChannelDisagree detail => Sys2Proof.Machine.execGateChannelDisagree detail s
  | .timeCounterMismatch => Sys2Proof.Machine.execTimeCounterMismatch s
  | .macFrameRx port frame fecCorr fecUncorr luck => Sys2Proof.Machine.execMacFrameRx port frame fecCorr fecUncorr luck s
  | .pauseRx port quanta now => Sys2Proof.Machine.execPauseRx port quanta now s
  | .pfcRx port classes quanta now => Sys2Proof.Machine.execPfcRx port classes quanta now s
  | .pauseRefresh port => Sys2Proof.Machine.execPauseRefresh port s
  | .supervisionRx pair node now => Sys2Proof.Machine.execSupervisionRx pair node now s
  | .supervisionTx pair => Sys2Proof.Machine.execSupervisionTx pair s
  | .dupEntryForget pair src => Sys2Proof.Machine.execDupEntryForget pair src s
  | .nodeEntryAge pair node => Sys2Proof.Machine.execNodeEntryAge pair node s
  | .modAbsLow port ident => Sys2Proof.Machine.execModAbsLow port ident s
  | .modAbsHigh port => Sys2Proof.Machine.execModAbsHigh port s
  | .txFaultAssert port => Sys2Proof.Machine.execTxFaultAssert port s
  | .txFaultClear port => Sys2Proof.Machine.execTxFaultClear port s
  | .txDisablePulse port => Sys2Proof.Machine.execTxDisablePulse port s
  | .cageOvercurrent port => Sys2Proof.Machine.execCageOvercurrent port s
  | .cageRetry port => Sys2Proof.Machine.execCageRetry port s
  | .ddmRead port temp tx rx alarm => Sys2Proof.Machine.execDdmRead port temp tx rx alarm s
  | .linkUp port anDone pauseRes => Sys2Proof.Machine.execLinkUp port anDone pauseRes s
  | .linkDown port los => Sys2Proof.Machine.execLinkDown port los s
  | .linkHoldEnd port => Sys2Proof.Machine.execLinkHoldEnd port s
  | .portNotUpTimer port => Sys2Proof.Machine.execPortNotUpTimer port s
  | .plcaStatusLost port => Sys2Proof.Machine.execPlcaStatusLost port s
  | .t1sCollision port now late => Sys2Proof.Machine.execT1sCollision port now late s
  | .mkpduRx pdu => Sys2Proof.Machine.execMkpduRx pdu s
  | .mkaPeerLost port => Sys2Proof.Machine.execMkaPeerLost port s
  | .pnExhausted port => Sys2Proof.Machine.execPnExhausted port s
  | .egressAdmit frame port draws => Sys2Proof.Machine.execEgressAdmit frame port draws s
  | .reseqTimeout port src tc draws => Sys2Proof.Machine.execReseqTimeout port src tc draws s
  | .planeError plane frame => Sys2Proof.Machine.execPlaneError plane frame s
  | .frameExpiry frame port => Sys2Proof.Machine.execFrameExpiry frame port s
  | .frameTransmit port now luck => Sys2Proof.Machine.execFrameTransmit port now luck s
  | .frameTxDone port now => Sys2Proof.Machine.execFrameTxDone port now s
  | .pfcRequestChange tc => Sys2Proof.Machine.execPfcRequestChange tc s
  | .beadAudit lost doubled => Sys2Proof.Machine.execBeadAudit lost doubled s
  | .gclSwitch port => Sys2Proof.Machine.execGclSwitch port s
  | .svIntake frame => Sys2Proof.Machine.execSvIntake frame s
  | .gooseIntake frame => Sys2Proof.Machine.execGooseIntake frame s
  | .ownSvBuild stream => Sys2Proof.Machine.execOwnSvBuild stream s
  | .gooseRetransmit block => Sys2Proof.Machine.execGooseRetransmit block s
  | .publishRelease len => Sys2Proof.Machine.execPublishRelease len s
  | .helloTx => Sys2Proof.Machine.execHelloTx s
  | .helloRx lane seq h => Sys2Proof.Machine.execHelloRx lane seq h s
  | .handshakeLoss => Sys2Proof.Machine.execHandshakeLoss s
  | .digestRx lane seq d delay => Sys2Proof.Machine.execDigestRx lane seq d delay s
  | .digestSettleTimeout tick => Sys2Proof.Machine.execDigestSettleTimeout tick s
  | .resyncReqRx lane seq => Sys2Proof.Machine.execResyncReqRx lane seq s
  | .resyncReqRepeat => Sys2Proof.Machine.execResyncReqRepeat s
  | .resyncNakRx lane seq reason => Sys2Proof.Machine.execResyncNakRx lane seq reason s
  | .resyncCopyRx lane seq entries seqs all => Sys2Proof.Machine.execResyncCopyRx lane seq entries seqs all s
  | .resyncEndRx lane seq tick sdig stamp => Sys2Proof.Machine.execResyncEndRx lane seq tick sdig stamp s
  | .resyncRetry => Sys2Proof.Machine.execResyncRetry s
  | .resyncFailLimit backlog => Sys2Proof.Machine.execResyncFailLimit backlog s
  | .takeoverReqTx => Sys2Proof.Machine.execTakeoverReqTx s
  | .takeoverReqRx lane seq => Sys2Proof.Machine.execTakeoverReqRx lane seq s
  | .pairFaultRx lane seq r => Sys2Proof.Machine.execPairFaultRx lane seq r s
  | .releaseNoteRx lane seq => Sys2Proof.Machine.execReleaseNoteRx lane seq s
  | .tokenMsgRx lane seq e ack => Sys2Proof.Machine.execTokenMsgRx lane seq e ack s
  | .tokenResend => Sys2Proof.Machine.execTokenResend s
  | .soloWaitExpiry => Sys2Proof.Machine.execSoloWaitExpiry s
  | .orphanTimeout => Sys2Proof.Machine.execOrphanTimeout s
  | .safeHoldExpiry => Sys2Proof.Machine.execSafeHoldExpiry s
  | .serviceLimitReached => Sys2Proof.Machine.execServiceLimitReached s
  | .faultF3Raise code cls inst detail => Sys2Proof.Machine.execFaultF3Raise code cls inst detail s
  | .hoCopyRx m stamp => Sys2Proof.Machine.execHoCopyRx m stamp s
  | .hoDigestRx m => Sys2Proof.Machine.execHoDigestRx m s
  | .hoDigestMissing => Sys2Proof.Machine.execHoDigestMissing s
  | .hoCopyDeadline => Sys2Proof.Machine.execHoCopyDeadline s
  | .hoCompareTimeout => Sys2Proof.Machine.execHoCompareTimeout s
  | .hoReadyRx m => Sys2Proof.Machine.execHoReadyRx m s
  | .hoGrantRx m => Sys2Proof.Machine.execHoGrantRx m s
  | .hoAcceptRx m => Sys2Proof.Machine.execHoAcceptRx m s
  | .hoReleaseTx => Sys2Proof.Machine.execHoReleaseTx s
  | .hoReleaseRx m stamp => Sys2Proof.Machine.execHoReleaseRx m stamp s
  | .hoTakenRx m => Sys2Proof.Machine.execHoTakenRx m s
  | .hoNotTakenRx m => Sys2Proof.Machine.execHoNotTakenRx m s
  | .hoCancelRx m => Sys2Proof.Machine.execHoCancelRx m s
  | .hoDoubt => Sys2Proof.Machine.execHoDoubt s
  | .hoQueryRx m path => Sys2Proof.Machine.execHoQueryRx m path s
  | .statusRead q len => Sys2Proof.Machine.execStatusRead q len s
  | .journalRead q sel start len => Sys2Proof.Machine.execJournalRead q sel start len s
  | .counterRead q block clear len => Sys2Proof.Machine.execCounterRead q block clear len s
  | .cfgStage q rev => Sys2Proof.Machine.execCfgStage q rev s
  | .cfgActivate q num => Sys2Proof.Machine.execCfgActivate q num s
  | .cfgCancel q num => Sys2Proof.Machine.execCfgCancel q num s
  | .fwStage q img => Sys2Proof.Machine.execFwStage q img s
  | .moduleReset q => Sys2Proof.Machine.execModuleReset q s
  | .custodyRelease q force => Sys2Proof.Machine.execCustodyRelease q force s
  | .serviceEnter q len keepCustody proofOk => Sys2Proof.Machine.execServiceEnter q len keepCustody proofOk s
  | .serviceLeave q => Sys2Proof.Machine.execServiceLeave q s
  | .forceSet q addr value => Sys2Proof.Machine.execForceSet q addr value s
  | .forceClear q addr => Sys2Proof.Machine.execForceClear q addr s
  | .injectStart q len d => Sys2Proof.Machine.execInjectStart q len d s
  | .injectStop q id => Sys2Proof.Machine.execInjectStop q id s
  | .injectEnd id now => Sys2Proof.Machine.execInjectEnd id now s
  | .slotLoad q slot len key img => Sys2Proof.Machine.execSlotLoad q slot len key img s
  | .slotAdmit q slot => Sys2Proof.Machine.execSlotAdmit q slot s
  | .slotUnload q slot => Sys2Proof.Machine.execSlotUnload q slot s
  | .slotShadow q slot => Sys2Proof.Machine.execSlotShadow q slot s
  | .slotRun q slot => Sys2Proof.Machine.execSlotRun q slot s
  | .slotStop q slot => Sys2Proof.Machine.execSlotStop q slot s
  | .slotGroup q slot group mode clear => Sys2Proof.Machine.execSlotGroup q slot group mode clear s
  | .cleLoad q len key img => Sys2Proof.Machine.execCleLoad q len key img s
  | .cleStart q cold => Sys2Proof.Machine.execCleStart q cold s
  | .cleStop q => Sys2Proof.Machine.execCleStop q s
  | .cleWrite q target value at' => Sys2Proof.Machine.execCleWrite q target value at' s
  | .sliceFreeze q slice buflen buf => Sys2Proof.Machine.execSliceFreeze q slice buflen buf s
  | .freezeComplete => Sys2Proof.Machine.execFreezeComplete s
  | .sliceRestore q slice mode b => Sys2Proof.Machine.execSliceRestore q slice mode b s
  | .handoverBegin q slice peer role path peerSlice => Sys2Proof.Machine.execHandoverBegin q slice peer role path peerSlice s
  | .handoverAbort q slice => Sys2Proof.Machine.execHandoverAbort q slice s
  | .keyStage q r => Sys2Proof.Machine.execKeyStage q r s
  | .keyVerify q slot method len proofOk => Sys2Proof.Machine.execKeyVerify q slot method len proofOk s
  | .keyPeerProof slot arrived now => Sys2Proof.Machine.execKeyPeerProof slot arrived now s
  | .keyCommit q slot destroy => Sys2Proof.Machine.execKeyCommit q slot destroy s
  | .keyStageExpiry slot now => Sys2Proof.Machine.execKeyStageExpiry slot now s
  | .lifecycleAdvance q target serialByte => Sys2Proof.Machine.execLifecycleAdvance q target serialByte s
  | .rckModelLoad q len mode buf => Sys2Proof.Machine.execRckModelLoad q len mode buf s
  | .rckSolveNow q cold now => Sys2Proof.Machine.execRckSolveNow q cold now s
  | .rckRulesLoad q len buf => Sys2Proof.Machine.execRckRulesLoad q len buf s
  | .recFetch q id part len off buf => Sys2Proof.Machine.execRecFetch q id part len off buf s
  | .mailboxRelay slice x => Sys2Proof.Machine.execMailboxRelay slice x s
  | .mbCtrlWrite slice data => Sys2Proof.Machine.execMbCtrlWrite slice data s
  | .mbOutDb slice data => Sys2Proof.Machine.execMbOutDb slice data s
  | .mbInDb slice data => Sys2Proof.Machine.execMbInDb slice data s
  | .mbEvclr slice data => Sys2Proof.Machine.execMbEvclr slice data s
  | .mailboxDmaError slice => Sys2Proof.Machine.execMailboxDmaError slice s
  | .doorbell slice k data => Sys2Proof.Machine.execDoorbell slice k data s
  | .evclr slice k data => Sys2Proof.Machine.execEvclr slice k data s
  | .ringEnable ring data => Sys2Proof.Machine.execRingEnable ring data s
  | .ringDisable ring data => Sys2Proof.Machine.execRingDisable ring data s
  | .ringStopDone ring => Sys2Proof.Machine.execRingStopDone ring s
  | .txFetch ring entries bytes now luck => Sys2Proof.Machine.execTxFetch ring entries bytes now luck s
  | .rxPlace lens now luck => Sys2Proof.Machine.execRxPlace lens now luck s
  | .cmdFetch ring opcode version => Sys2Proof.Machine.execCmdFetch ring opcode version s
  | .evqWrite => Sys2Proof.Machine.execEvqWrite s
  | .ringDmaError ring kind addr => Sys2Proof.Machine.execRingDmaError ring kind addr s
  | .coalTimerExpiry ring => Sys2Proof.Machine.execCoalTimerExpiry ring s
  | .evtSrcWrite source data => Sys2Proof.Machine.execEvtSrcWrite source data s
  | .msixSignal source => Sys2Proof.Machine.execMsixSignal source s
  | .blockCommitWrite block discard => Sys2Proof.Machine.execBlockCommitWrite block discard s
  | .blockDiscardWrite block => Sys2Proof.Machine.execBlockDiscardWrite block s
  | .resetCtrlWrite data => Sys2Proof.Machine.execResetCtrlWrite data s
  | .sliceValidWrite slice data => Sys2Proof.Machine.execSliceValidWrite slice data s
  | .sviEnable => Sys2Proof.Machine.execSviEnable s
  | .sviDisable => Sys2Proof.Machine.execSviDisable s
  | .rodEnableChange en => Sys2Proof.Machine.execRodEnableChange en s
  | .portEnableChange port ident => Sys2Proof.Machine.execPortEnableChange port ident s
  | .incrHiWrite data => Sys2Proof.Machine.execIncrHiWrite data s
  | .stepHiWrite data => Sys2Proof.Machine.execStepHiWrite data s
  | .stepApply now => Sys2Proof.Machine.execStepApply now s
  | .gclChangeWrite port data => Sys2Proof.Machine.execGclChangeWrite port data s
  | .gclDisable port => Sys2Proof.Machine.execGclDisable port s
  | .diedgePop => Sys2Proof.Machine.execDiedgePop s
  | .timeLatchRead addr => Sys2Proof.Machine.execTimeLatchRead addr s
  | .ptpSyncRx m => Sys2Proof.Machine.execPtpSyncRx m s
  | .ptpAnnounceRx m => Sys2Proof.Machine.execPtpAnnounceRx m s
  | .ptpPdelay port x => Sys2Proof.Machine.execPtpPdelay port x s
  | .ptpSourceLoss => Sys2Proof.Machine.execPtpSourceLoss s
  | .holdoverMaxExpiry => Sys2Proof.Machine.execHoldoverMaxExpiry s
  | .refMeasure deviation => Sys2Proof.Machine.execRefMeasure deviation s
  | .refLoss deviation => Sys2Proof.Machine.execRefLoss deviation s
  | .ppsOutPulse => Sys2Proof.Machine.execPpsOutPulse s
  | .ppsInEdge stamp => Sys2Proof.Machine.execPpsInEdge stamp s
  | .diEdge input falling stamp => Sys2Proof.Machine.execDiEdge input falling stamp s
  | .rtcWriteCross counts => Sys2Proof.Machine.execRtcWriteCross counts s
  | .rtcQueueFull => Sys2Proof.Machine.execRtcQueueFull s
  | .calSet sub => Sys2Proof.Machine.execCalSet sub s
  | .dstAdd => Sys2Proof.Machine.execDstAdd s
  | .dstSubtract => Sys2Proof.Machine.execDstSubtract s
  | .calShift back count => Sys2Proof.Machine.execCalShift back count s
  | .osfClear => Sys2Proof.Machine.execOsfClear s
  | .calSecondEdge stamp => Sys2Proof.Machine.execCalSecondEdge stamp s
  | .oscStop => Sys2Proof.Machine.execOscStop s
  | .wakeFire => Sys2Proof.Machine.execWakeFire s
  | .pwronReqAssert => Sys2Proof.Machine.execPwronReqAssert s
  | .pwronTimeout => Sys2Proof.Machine.execPwronTimeout s
  | .tamperActive source sub => Sys2Proof.Machine.execTamperActive source sub s
  | .tamperInactive source => Sys2Proof.Machine.execTamperInactive source s
  | .tamperClear => Sys2Proof.Machine.execTamperClear s
  | .nonceRead now => Sys2Proof.Machine.execNonceRead now s
  | .rodRearm rod => Sys2Proof.Machine.execRodRearm rod s
  | .fdbInstall index => Sys2Proof.Machine.execFdbInstall index s
  | .fdbRead index => Sys2Proof.Machine.execFdbRead index s
  | .gsubInstall index => Sys2Proof.Machine.execGsubInstall index s
  | .gsubRead index => Sys2Proof.Machine.execGsubRead index s
  | .gcbInstall index => Sys2Proof.Machine.execGcbInstall index s
  | .gcbRead index => Sys2Proof.Machine.execGcbRead index s
  | .chInstall bin index => Sys2Proof.Machine.execChInstall bin index s
  | .chRead bin index => Sys2Proof.Machine.execChRead bin index s
  | .mptInstall index => Sys2Proof.Machine.execMptInstall index s
  | .mptRead index => Sys2Proof.Machine.execMptRead index s
  | .keepRecord => Sys2Proof.Machine.execKeepRecord s
  | .releaseRecord => Sys2Proof.Machine.execReleaseRecord s
  | .deleteRecord => Sys2Proof.Machine.execDeleteRecord s
  | .recFire => Sys2Proof.Machine.execRecFire s
  | .recArm => Sys2Proof.Machine.execRecArm s
  | .recDisarm => Sys2Proof.Machine.execRecDisarm s
  | .recorderRow tick => Sys2Proof.Machine.execRecorderRow tick s
  | .settlementEnd => Sys2Proof.Machine.execSettlementEnd s
  | .recordClose => Sys2Proof.Machine.execRecordClose s
  | .rearmTimeout => Sys2Proof.Machine.execRearmTimeout s
  | .flashSegmentCommit id wear x => Sys2Proof.Machine.execFlashSegmentCommit id wear x s
  | .groupArmRx m => Sys2Proof.Machine.execGroupArmRx m s
  | .groupFireRx m now => Sys2Proof.Machine.execGroupFireRx m now s
  | .waveTsRx m now => Sys2Proof.Machine.execWaveTsRx m now s
  | .wavefrontDetect dets => Sys2Proof.Machine.execWavefrontDetect dets s
  | .farArrivalTimeout => Sys2Proof.Machine.execFarArrivalTimeout s
  | .waveCaptureClose => Sys2Proof.Machine.execWaveCaptureClose s
  | .nrgWindowEnd point => Sys2Proof.Machine.execNrgWindowEnd point s
  | .nrgTick point tick => Sys2Proof.Machine.execNrgTick point tick s
  | .pulseStart out now => Sys2Proof.Machine.execPulseStart out now s
  | .heatStep meter now => Sys2Proof.Machine.execHeatStep meter now s
  | .heatReportWrite meter lph => Sys2Proof.Machine.execHeatReportWrite meter lph s
  | .accSnapshot heat index => Sys2Proof.Machine.execAccSnapshot heat index s
  | .vigilSecond second n sums => Sys2Proof.Machine.execVigilSecond second n sums s
  | .ledgerCommit dur now ok => Sys2Proof.Machine.execLedgerCommit dur now ok s
  | .tallyAudit late => Sys2Proof.Machine.execTallyAudit late s
  | .perWriteDone ok now => Sys2Proof.Machine.execPerWriteDone ok now s
  | .loopExecute loop tick => Sys2Proof.Machine.execLoopExecute loop tick s
  | .loopOpClose loop => Sys2Proof.Machine.execLoopOpClose loop s
  | .loopOpOpen loop => Sys2Proof.Machine.execLoopOpOpen loop s
  | .loopOpOff loop => Sys2Proof.Machine.execLoopOpOff loop s
  | .deviceReportRx src type ch status position value now => Sys2Proof.Machine.execDeviceReportRx src type ch status position value now s
  | .deviceReportStale dev ch now => Sys2Proof.Machine.execDeviceReportStale dev ch now s
  | .solveStart now => Sys2Proof.Machine.execSolveStart now s
  | .solveEnd r => Sys2Proof.Machine.execSolveEnd r s
  | .setpointRelease now dmaFail => Sys2Proof.Machine.execSetpointRelease now dmaFail s
  | .headroomRead now dmaFail => Sys2Proof.Machine.execHeadroomRead now dmaFail s
  | .adcTrigger trig start delayed => Sys2Proof.Machine.execAdcTrigger trig start delayed s
  | .adcCmdTrig start delayed => Sys2Proof.Machine.execAdcCmdTrig start delayed s
  | .adcCmdStop => Sys2Proof.Machine.execAdcCmdStop s
  | .adcResult codes => Sys2Proof.Machine.execAdcResult codes s
  | .adcMonitorPair readings => Sys2Proof.Machine.execAdcMonitorPair readings s
  | .modTempEval => Sys2Proof.Machine.execModTempEval s
  | .modChannelFault chan ev => Sys2Proof.Machine.execModChannelFault chan ev s
  | .modVddLimit => Sys2Proof.Machine.execModVddLimit s
  | .tempFault plate die => Sys2Proof.Machine.execTempFault plate die s
  | .registerWrite addr data bytes => Sys2Proof.Machine.execRegisterWrite addr data bytes s
  | .sampleInstant di fine => Sys2Proof.Machine.execSampleInstant di fine s
  | .sramScrub rod corr => Sys2Proof.Machine.execSramScrub rod corr s
  | .ptpSyncTx x => Sys2Proof.Machine.execPtpSyncTx x s
  | .mkaHelloTx => Sys2Proof.Machine.execMkaHelloTx s
  | .backupDomainPowerUp => Sys2Proof.Machine.execBackupDomainPowerUp s
  | .pcieLinkChange width speed => Sys2Proof.Machine.execPcieLinkChange width speed s
  | .busMasterEnable pasid => Sys2Proof.Machine.execBusMasterEnable pasid s
  | .msixVectorUnmask vector => Sys2Proof.Machine.execMsixVectorUnmask vector s
  | .registerRead a counts => Sys2Proof.Machine.execRegisterRead a counts s
  | .custPeerFall stamp => Sys2Proof.Machine.execCustPeerFall stamp s
  | .plcaStatusUp port => Sys2Proof.Machine.execPlcaStatusUp port s
  | .faultTimerExpiry code unit detail raised now => Sys2Proof.Machine.execFaultTimerExpiry code unit detail raised now s
  | .hardwareParityError code unit addr => Sys2Proof.Machine.execHardwareParityError code unit addr s
  | .destroyRetry slot gen ok => Sys2Proof.Machine.execDestroyRetry slot gen ok s
  | .tamperLoopTest bad0 bad1 x failed => Sys2Proof.Machine.execTamperLoopTest bad0 bad1 x failed s

end Sys2Proof.Machine
end

