-- ==== Sys2Proof/Safety.lean ====
section
/-! DEFINITION. What counts as a safe run: the register store keeps its canonical form, and the output gate is open only while
the module asserts CUST_HOLD (R443, R446). What a request needs to reach its own conditions (R70). -/

namespace Sys2Proof.Machine

/-- The register store is canonical: addresses strictly rising, no entry equal to the reset word of its address. -/
abbrev State.wf (s : State) : Prop := RegsWf s.regs = true

/-- The custody gate is open only while CUST_HOLD is asserted (R443). -/
abbrev State.gateSafe (s : State) : Prop := s.pair.gateOpen = true → s.flag Reg.GLB_STATUS_HOLD = true

/-- A request with opcode op that reaches its own conditions: the module takes commands and the entry taken on its ring has that opcode
(a request of the console has none), the VERSION is 1, and the request comes from a ring or from a console that has proved itself
(R70, R120, R146, R148, R650). -/
abbrev State.takes (s : State) (op : Nat) (q : Req) : Prop :=
  s.reaches op q = true ∧ q.version = 1 ∧ (q.ring.isSome = true ∨ s.keys.console = true)

/-- The DRAM windows are canonical: MiB numbers strictly rising, no entry with the contents of an unlisted MiB (R175). -/
def DramWf : List (Nat × Nat) → Bool
  | [] => true
  | x :: l => x.2 != 0 && (match l with | [] => true | y :: _ => decide (x.1 < y.1)) && DramWf l

end Sys2Proof.Machine
end

