-- ==== Sys2Proof/Certificates/Slice0/Obligations.lean ====
section
/-! DEFINITION. The statements for the provers. -/

open Sys2Proof Sys2Proof.Machine

def pointSums (x : NrgPoint) : Prop :=
  x.regs.length = 28 ∧ ∀ r, r < 7 → x.regs.getD r 0 = (x.regs.getD (7 + r) 0 + x.regs.getD (14 + r) 0 + x.regs.getD (21 + r) 0) % 2 ^ 64

/-- A step of the state with a command in front of its queue is that command's effect on the state with the rest of the queue.
On an empty queue one counter cycle of module time passes (R187): while module time runs it goes on by the increment, modulo
its range; that this is what a step on an empty queue does is the model's own choice (log entry 1). -/
def Obligations.StepRunsTheFrontCommand : Prop :=
  (∀ (c : Instr) (s : State), step { s with pending := c :: s.pending } = exec c s) ∧
  (∀ s : State, s.pending = [] → step s = .next s.counterCycle) ∧
  (∀ s : State, s.counterCycle = if s.timeRun then { s with time := (s.time + s.tim.incr) % timeTop } else s)

/-- No command of the table ends the run: for every command and every state, exec answers a next state. -/
def Obligations.EveryCommandCompletes : Prop :=
  ∀ (c : Instr) (s : State), ∃ t, exec c s = .next t

/-- Right after reset GLB.STATE reads BOOT, every register reads its reset value, no fault is active, the module holds no
custody, no command waits, and BLOCK_ID of every block k holds k, revision 3 and the signature 0x4E52. -/
def Obligations.ResetLeavesResetValues : Prop :=
  (State.reset.st = stBoot) ∧
  (∀ a, State.reset.rd a = resetWord a) ∧
  (State.reset.faults = [] ∧ State.reset.get Reg.GLB_STATE_HEALTH = 0) ∧
  (State.reset.flag Reg.GLB_STATUS_HOLD = false ∧ State.reset.pair.gateOpen = false) ∧
  (State.reset.pending = []) ∧
  (∀ k, k < 26 → State.reset.rd (k * 0x10000) = BitVec.ofNat 32 (k * 2 ^ 24 + 3 * 2 ^ 16 + 0x4E52))

/-- In every state whose register store is canonical (addresses strictly rising, no entry equal to the reset word of its
address), every step of every command leaves a canonical store. So two states whose registers read the same hold the same
store. -/
def Obligations.StepKeepsRegistersCanonical : Prop :=
  ∀ s t : State, s.wf → step s = .next t → t.wf

/-- The state after reset has a canonical register store. -/
def Obligations.ResetIsCanonical : Prop :=
  State.reset.wf

/-- VMAIN_VALID while VMAIN is absent (OFF, VIGIL) journals the changes of state made since, and resets the module with the
cause Power (R76, R113, R115). VVG_IN_RANGE in OFF enters VIGIL and marks that vigil metering ran (R74, R113). VVG_LOW in
VIGIL enters OFF and adds the pulses lost to those counted (R73). HOLDUP_END after a detected power failure stops module time and
enters VIGIL where VVG is in range and OFF otherwise (R82, R113). PFW_DEASSERT ends the PFW condition and clears fault 0x0001,
and nothing else; PFW_HOLD_TIMEOUT with PFW_N asserted and VMAIN in range raises fault 0x0001 of class F1, and nothing else (R79, R128). -/
def Obligations.SupplyEventsMoveTheModule : Prop :=
  (∀ s : State, s.mainAbsent = true → exec .vmainValid s = .next (
       let s1 := s.boot.trail.foldl (fun (s : State) x => s.journalAdd (.stateChange x.1 x.2 0 s.ns)) s
       { s1 with boot := { s1.boot with vmain := true, trail := [] } }.moduleReset Reg.GLB_RESET_CAUSE_POWER true false)) ∧
  (∀ s a : State, s.st = stOff → a = { s with boot := { s.boot with vvg := true } } →
       exec .vvgInRange s = .next a.goVigil ∧ a.goVigil.st = stVigil ∧ a.goVigil.boot.vvg = true ∧ a.goVigil.boot.vigilRan = true) ∧
  (∀ (s a : State) (lost : Nat), s.st = stVigil → a = { s with boot := { s.boot with vvg := false } } →
       exec (.vvgLow lost) s = .next { a.goOff with boot := { a.goOff.boot with vigilLost := s.boot.vigilLost + lost } } ∧
       a.goOff.st = stOff ∧ a.goOff.boot.vvg = false) ∧
  (∀ s a : State, s.boot.detected.isSome = true → a = { s with boot := { s.boot with detected := none, pfw := false }, timeRun := false } →
       exec .holdupEnd s = .next (if s.boot.vvg then a.goVigil else a.goOff) ∧
       a.goVigil.st = stVigil ∧ a.goVigil.timeRun = false ∧ a.goVigil.boot.detected = none ∧
       a.goOff.st = stOff ∧ a.goOff.timeRun = false ∧ a.goOff.boot.detected = none) ∧
  (∀ s : State, exec .pfwDeassert s = .next ({ s with boot := { s.boot with pfw := false } }.clearFault 0x0001 0)) ∧
  (∀ s : State, s.boot.pfw = true → s.boot.vmain = true → exec .pfwHoldTimeout s = .next (s.raise1 0x0001 1 0)) ∧
  (∀ s : State, ∃ t, exec .pfwDeassert s = .next t ∧ t.boot.pfw = false ∧ t.isActive 0x0001 0 = false) ∧
  (∀ s : State, s.boot.pfw = true → s.boot.vmain = true → ∃ t, exec .pfwHoldTimeout s = .next t ∧
       t.isActive 0x0001 0 = true ∧ t.st = s.st ∧ t.flag Reg.GLB_STATUS_HOLD = s.flag Reg.GLB_STATUS_HOLD)

/-- PFW_ASSERT in every state except OFF and VIGIL, where PFW_N is not yet asserted and no failure is detected, sets the PFW
event (source 3), makes an out-of-turn ledger commit marked by PFW, journals the assertion with the ledger's sequence number,
and changes nothing else (R79, R641). VMAIN_DETECT in every such state acts in this order: it gives up custody (CUST_HOLD with
the gate), stops the units (rods, solver, recorder, ticks), makes the final ledger commit, completes the writes that wait,
journals the power failure and completes that write too (R80, R113). -/
def Obligations.PowerFailureCommitsAndDropsCustody : Prop :=
  (∀ (s : State) (dur now : Nat) (ok : Bool), s.mainAbsent = false → s.boot.pfw = false → s.boot.detected = none →
       exec (.pfwAssert dur now ok) s = .next (
         let s0 := s.advance (now * nsUnit)
         let s1 := { s0 with boot := { s0.boot with pfw := true }, per := { s0.per with pfwAt := some s0.ns } }.event 3
         let s2 := s1.ledgerCommit false true dur ok
         s2.journalAdd (.power 1 s2.ns s2.ledgerSeq))) ∧
  (∀ (s : State) (dur now : Nat) (ok : Bool), s.mainAbsent = false → s.boot.detected = none →
       exec (.vmainDetect dur now ok) s = .next (
         let s0 := s.advance (now * nsUnit)
         let s1 := { s0 with boot := { s0.boot with vmain := false, detected := some s0.ns } }.dropCustody
         let s2 := s1.powerStop.ledgerCommit true false dur ok
         let s3 := s2.drainQueue (s2.journal.queue.length + s2.journal.waiting.length)
         let s4 := s3.journalAdd (.power 0 s3.ns s3.ledgerSeq)
         s4.drainQueue s4.journal.queue.length))

/-- Giving up custody, as detection, faults of class F3 and resets do, leaves CUST_HOLD de-asserted, the output gate closed,
PAIR.STATUS.CUSTODY and the GOOSE publish permit 0 and safe mode ended, and leaves the module state, the time, the slots and
the rods as they are. -/
def Obligations.DetectionDropsCustodyFirst : Prop :=
  (∀ s : State, s.dropCustody.flag Reg.GLB_STATUS_HOLD = false ∧ s.dropCustody.pair.gateOpen = false ∧
       s.dropCustody.flag Reg.PAIR_STATUS_CUSTODY = false ∧ s.dropCustody.flag Reg.PUB_STATUS_PERMIT = false ∧
       s.dropCustody.pair.safeMode = false) ∧
  (∀ s : State, s.dropCustody.st = s.st ∧ s.dropCustody.time = s.time ∧ s.dropCustody.slots = s.slots ∧ s.dropCustody.core = s.core)

/-- In RESET and every later main state, before a power failure is detected, RST_N (RST_N_RESET), the watchdog
(WATCHDOG_EXPIRY) and the lockstep comparator (LOCKSTEP_ERROR) reset the module, each with its own bit of GLB.RESET_CAUSE (R115).
RST_N_GLITCH while the main domain is powered counts in GLITCH_CNT (R115, R124). MODULE_RESET from slice 0 outside ACTIVE,
SOLO and a SERVICE that keeps custody completes OK and resets with the cause Command; RESET_CTRL written with the key 0xA5C3
and bit 0 resets in the same way; in ACTIVE, in SOLO and in a SERVICE that keeps custody such a write is rejected with reason 3
(R113, R120, R124). -/
def Obligations.ResetRequestsLeadToReset : Prop :=
  (∀ s : State, s.mayReset = true → exec .rstNReset s = .next (s.moduleReset Reg.GLB_RESET_CAUSE_PIN false false)) ∧
  (∀ s : State, s.mayReset = true → exec .watchdogExpiry s = .next (s.moduleReset Reg.GLB_RESET_CAUSE_WATCHDOG false true)) ∧
  (∀ s : State, s.mayReset = true → exec .lockstepError s = .next (s.moduleReset Reg.GLB_RESET_CAUSE_LOCKSTEP false true)) ∧
  (∀ s : State, s.mayReset = true ↔ stBoot ≤ s.st ∧ s.boot.detected = none) ∧
  (∀ s : State, s.mainAbsent = false → exec .rstNGlitch s = .next (s.count Reg.GLB_RESET_CAUSE_GLITCH_CNT)) ∧
  (∀ (s : State) (q : Req), s.takes 0x20 q → q.slice = 0 → s.resetBarred = false → s.mayReset = true →
       exec (.moduleReset q) s = .next (((s.complete q .ok 0 0).moduleReset Reg.GLB_RESET_CAUSE_COMMAND false false).holdRing 0x20 q)) ∧
  (∀ (s : State) (data : Word), s.ready = true → s.st ≠ stBoot → s.resetBarred = false → s.mayReset = true → data.field 16 16 = 0xA5C3 →
       data.field 0 1 = 1 → exec (.resetCtrlWrite data) s = .next (s.moduleReset Reg.GLB_RESET_CAUSE_COMMAND false false)) ∧
  (∀ (s : State) (data : Word), s.ready = true → s.resetBarred = true → data.field 16 16 = 0xA5C3 → data.field 0 1 = 1 →
       exec (.resetCtrlWrite data) s = .next (s.reject 0 0x1C 3)) ∧
  (∀ s : State, s.resetBarred = true ↔ s.st = stActive ∨ s.st = stSolo ∨ (s.st = stService ∧ s.flag Reg.GLB_STATUS_KEEPCUST = true))

/-- A module reset by RST_N, the watchdog, the lockstep comparator or a command leaves the module in RESET, with PREV the state
it was in, the bit of that source set in GLB.RESET_CAUSE and CUST_HOLD de-asserted (R113, R115). It keeps the calendar, the
last bank of the ledger, the configuration revisions, the measuring points and the heat meters, and leaves no ring, no slot
and no active fault but 0x0502 (R116, R233). -/
def Obligations.AResetReachesResetState : Prop :=
  (∀ s : State, ∀ w : Bool, ∀ c ∈ [Reg.GLB_RESET_CAUSE_PIN, Reg.GLB_RESET_CAUSE_WATCHDOG, Reg.GLB_RESET_CAUSE_LOCKSTEP, Reg.GLB_RESET_CAUSE_COMMAND],
       (s.moduleReset c false w).st = stReset ∧ (s.moduleReset c false w).get Reg.GLB_STATE_PREV = s.st ∧
       (s.moduleReset c false w).flag c = true ∧ (s.moduleReset c false w).flag Reg.GLB_STATUS_HOLD = false) ∧
  (∀ s : State, ∀ w : Bool, ∀ c : Field,
       (s.moduleReset c false w).rtc = s.rtc ∧ (s.moduleReset c false w).bank = s.bank ∧
       (s.moduleReset c false w).boot.revs = s.boot.revs ∧ (s.moduleReset c false w).nrg.pts = s.nrg.pts ∧
       (s.moduleReset c false w).nrg.hms = s.nrg.hms) ∧
  (∀ s : State, ∀ w : Bool, ∀ c : Field,
       (s.moduleReset c false w).rings = [] ∧ (s.moduleReset c false w).slots = [] ∧
       ∀ f ∈ (s.moduleReset c false w).faults, f.record.code = 0x0502)

/-- RESET_EXIT in RESET with VMAIN in range and no failure detected samples both straps, journals the FAIL_STEP and FAIL_CODE
of the last boot, clears KPR.BOOT and enters BOOT (R108, R109, R113). BOOT_STEP_COMPLETE in BOOT performs the step after
KPR.BOOT.STAGE (R108): step 1 tests the LEDs; step 2, with a report that is good, answers the latched tamper sources not yet
handled and resumes a life-cycle move; step 3 asks that no tamper source is active; step 4 shows its tests passed and extends
MEAS[0]; step 5 loads the keeper image of a good bank and extends MEAS[1] and MEAS[2]; step 6 shows its tests passed, takes
what it found and a change of signer; step 7 extends MEAS[3] and MEAS[4] with the microcode digests; step 8 selects and loads
the revision and extends MEAS[5] to MEAS[7]; step 9 derives the keys and restores energy; each then raises STAGE by one. Step
10 seeds time, starts the ticks, enables the blocks, measures VBK, reports a watchdog or lockstep reset, sets the boot event and
enters SYNC. A failed test of step 4 or 6 and a failed step 9 end BOOT with code 0x0102 and the tests passed as detail, a
failed step 7 with 0x0101, step 5 without a good bank with 0x0101, and an active tamper source at step 3 as R111 says.
BOOT_TAMPER in BOOT of a source 1 to 7 ends BOOT as R111 says (BootFailuresEndInSafe says what that leaves). -/
def Obligations.BootRunsItsSteps : Prop :=
  (∀ (s a : State) (pos slot : Nat), s.st = stReset → s.boot.vmain = true → s.boot.detected = none →
       a = (s.put Reg.GLB_STRAPS_PAIR_POS (pos % 2)).put Reg.GLB_STRAPS_SLOT_ID (slot % 32) →
       exec (.resetExit pos slot) s = .next ((((a.note 1 (a.get Reg.KPR_BOOT_FAIL_STEP) (a.get Reg.KPR_BOOT_FAIL_CODE)).wr
         0x10018 0).setState stBoot 0).refreshRole)) ∧
  (∀ (s : State) (r : BootRep), s.st = stBoot → s.get Reg.KPR_BOOT_STAGE = 0 → exec (.bootStepComplete r) s = .next s.ledTest.stepDone) ∧
  (∀ (s : State) (r : BootRep), s.st = stBoot → s.get Reg.KPR_BOOT_STAGE = 1 → r.ok = true →
       s.get Reg.TMP_LATCHSRC_SRC &&& (127 - (s.boot.handled &&& 127)) = 0 → exec (.bootStepComplete r) s = .next s.lifecycleResume.stepDone) ∧
  (∀ (s : State) (r : BootRep), s.st = stBoot → s.get Reg.KPR_BOOT_STAGE = 1 → exec (.bootStepComplete r) s = .next (s.bootLatch r)) ∧
  (∀ (s : State) (r : BootRep), s.st = stBoot → s.get Reg.KPR_BOOT_STAGE = 2 → s.get Reg.TMP_STATUS_ACTIVE = 0 →
       exec (.bootStepComplete r) s = .next s.stepDone) ∧
  (∀ (s : State) (r : BootRep) (i : Nat), s.st = stBoot → s.get Reg.KPR_BOOT_STAGE = 2 →
       (List.range 7).find? (fun i => (s.get Reg.TMP_STATUS_ACTIVE >>> (i + 1)) % 2 == 1) = some i →
       exec (.bootStepComplete r) s = .next (s.tamperBoot (i + 1))) ∧
  (∀ (s : State) (r : BootRep), s.st = stBoot → s.get Reg.KPR_BOOT_STAGE = 3 → r.ok = true →
       exec (.bootStepComplete r) s = .next ((s.selfPass 7).extend 0 r.digest).stepDone) ∧
  (∀ (s : State) (r : BootRep) (b : Nat) (i : FwImage), s.st = stBoot → s.get Reg.KPR_BOOT_STAGE = 4 → s.goodBank = some (b, i) →
       exec (.bootStepComplete r) s = .next (
         let s1 := { s with boot := { s.boot with image := i } }
         let s2 := (((s1.put Reg.KPR_BOOT_BANK b).put Reg.KPR_FW_VERSION_PATCH i.patch).put Reg.KPR_SVN_SVN i.svn).put Reg.KEY_SVN_RUNNING i.svn
         ((s2.extend 1 i.digest).extend 2 (Config.sha384 (bytesLe i.hash 48 ++ bytesLe i.svn 2))).stepDone)) ∧
  (∀ (s : State) (r : BootRep), s.st = stBoot → s.get Reg.KPR_BOOT_STAGE = 4 → s.goodBank = none →
       exec (.bootStepComplete r) s = .next (s.bootFail 2 0 0x0101 5)) ∧
  (∀ (s : State) (r : BootRep), s.st = stBoot → s.get Reg.KPR_BOOT_STAGE = 5 → r.ok = true →
       exec (.bootStepComplete r) s = .next ((r.finds.foldl State.finding (s.selfPass 0x1F8)).signerChange).stepDone) ∧
  (∀ (s : State) (r : BootRep), s.st = stBoot → s.get Reg.KPR_BOOT_STAGE = 6 → r.ok = true → s.boot.micro.all s.imageAccepted = true →
       exec (.bootStepComplete r) s = .next ((s.extend 3 (s.microDigest 3)).extend 4 (s.microDigest 4)).stepDone) ∧
  (∀ (s a : State) (r : BootRep) (rev : Option Revision), s.st = stBoot → s.get Reg.KPR_BOOT_STAGE = 7 → s.configSelect = (a, rev) →
       exec (.bootStepComplete r) s = .next (
         let s2 := (a.useRevision rev).extend 5 (rev.elim 0 Revision.digest)
         ((s2.extend 6 (State.headersDigest rev)).extend 7 s2.lifeDigest).stepDone)) ∧
  (∀ (s : State) (r : BootRep), s.st = stBoot → s.get Reg.KPR_BOOT_STAGE = 8 → r.ok = true → s.get Reg.KEY_STATUS_LIFECYCLE ≠ 4 →
       exec (.bootStepComplete r) s = .next ((s.bootKeys r).bootEnergy).stepDone) ∧
  (∀ (s : State) (r : BootRep), s.st = stBoot → s.get Reg.KPR_BOOT_STAGE = 9 → exec (.bootStepComplete r) s = .next (
       let s1 := (s.seedTime.startTicks.enableBlocks).bootBackup r.vbk
       let s2 := if s1.boot.wdog then (s1.event 11).raise1 0x0105 0 ((s1.rd 0x18).field 0 6) else s1
       heartbeatLatchFound (((s2.stepDone.event 2).put Reg.GLB_BOOT_TIME_TO_SYNC (min r.ms 65535)).enterSync 0))) ∧
  (∀ (s a : State) (r : BootRep) (tests : Nat), s.st = stBoot → r.ok = false →
       (s.get Reg.KPR_BOOT_STAGE = 3 ∧ tests = 7) ∨ (s.get Reg.KPR_BOOT_STAGE = 5 ∧ tests = 0x1F8) → a = s.selfPass (r.pass &&& tests) →
       exec (.bootStepComplete r) s = .next (a.bootFail 2 0 0x0102 (a.get Reg.KPR_SELFTEST_PASS))) ∧
  (∀ (s : State) (r : BootRep), s.st = stBoot → s.get Reg.KPR_BOOT_STAGE = 8 → r.ok = false →
       exec (.bootStepComplete r) s = .next (s.bootFail 2 0 0x0102 (s.get Reg.KPR_SELFTEST_PASS))) ∧
  (∀ (s : State) (r : BootRep), s.st = stBoot → r.ok = false → s.get Reg.KPR_BOOT_STAGE = 6 →
       exec (.bootStepComplete r) s = .next (s.bootFail 2 0 0x0101 7)) ∧
  (∀ (s : State) (src : Nat), s.st = stBoot → 1 ≤ src → src ≤ 7 → exec (.bootTamper src) s = .next (s.tamperBoot src))

/-- In BOOT, ending a boot as a failing step does records the step and its fault code in KPR.BOOT, raises the code as F4, and leaves the module in SAFE
with the reason, the source and the code in GLB.SAFE (R109, R113, R124). A tamper source in BOOT gives reason 3, its source and code
0x0103 (R111). -/
def Obligations.BootFailuresEndInSafe : Prop :=
  (∀ (s : State) (reason source code detail : Nat), reason < 256 → source < 256 → code < 65536 → s.get Reg.KPR_BOOT_STAGE < 15 → s.st = stBoot →
       (s.bootFail reason source code detail).st = stSafe ∧
       (s.bootFail reason source code detail).get Reg.GLB_SAFE_REASON = reason ∧
       (s.bootFail reason source code detail).get Reg.GLB_SAFE_SOURCE = source ∧
       (s.bootFail reason source code detail).get Reg.GLB_SAFE_FCODE = code ∧
       (s.bootFail reason source code detail).get Reg.KPR_BOOT_FAIL_CODE = code ∧
       (s.bootFail reason source code detail).get Reg.KPR_BOOT_FAIL_STEP = s.get Reg.KPR_BOOT_STAGE + 1) ∧
  (∀ (s : State) (src : Nat), 1 ≤ src → src ≤ 7 → s.get Reg.KPR_BOOT_STAGE < 15 → s.st = stBoot →
       (s.tamperBoot src).st = stSafe ∧ (s.tamperBoot src).get Reg.GLB_SAFE_REASON = 3 ∧
       (s.tamperBoot src).get Reg.GLB_SAFE_SOURCE = src ∧ (s.tamperBoot src).get Reg.KPR_BOOT_FAIL_CODE = 0x0103)

/-- CUST_PEER_RISE moves time to the line's change, shows PEER 1, notes that the line was held since the handshake and that no
own release and no orphan time stand, and closes an open gate with the permit (R443). CUST_PEER_FALL shows PEER 0, notes
the time without a holder and ends COLLIDE (R444, R451). CUSTODY_COLLISION with both lines asserted counts the collision, shows
COLLIDE, sets source 93, raises 0x0B06 of class F2, gives up custody, and takes ACTIVE to SHADOW (R445). HEARTBEAT_EXPIRY while
the main domain is powered de-asserts CUST_HOLD in hardware, closes the gate and latches the event (R448); HEARTBEAT_LATCH_FOUND
with the latch set clears it, sets source 94 and raises 0x0B07 of class F3 (R448). PEER_LINE_DISAGREE, with CUST_PEER asserted,
CUST_HOLD not, and a partner heard whose flags do not say so, raises 0x0B09 of class F2 (R446). GATE_CHANNEL_DISAGREE closes the
gate and raises 0x0007 of class F3 (R693). FAULT_F3_RAISE raises the fault with its class 3 or 4 (R66); a fault of class F3 that
was not active records it and gives up custody, in ACTIVE and SOLO on the way to SHADOW, and one of class F4 in a state after
BOOT leads to SAFE with reason 1 and its code (R66, R113). -/
def Obligations.CustodyLinesAndHeartbeat : Prop :=
  (∀ (s a : State) (stamp : Nat), a = (s.advance (stamp * nsUnit)).put Reg.GLB_STATUS_PEER 1 → exec (.custPeerRise stamp) s = .next (
       let s2 := { a with pair := { a.pair with heldSinceHandshake := true, selfReleased := false, orphanDue := false } }
       if s2.pair.gateOpen then s2.setGate false else s2)) ∧
  (∀ (s : State) (stamp : Nat), ∃ t, exec (.custPeerRise stamp) s = .next t ∧ t.pair.gateOpen = false ∧ t.flag Reg.GLB_STATUS_PEER = true ∧
       t.pair.heldSinceHandshake = true) ∧
  (∀ (s a : State) (stamp : Nat), a = (s.advance (stamp * nsUnit)).put Reg.GLB_STATUS_PEER 0 → exec (.custPeerFall stamp) s = .next (
       { a with pair := { a.pair with peerFellAt := a.time, holderLostAt := a.time } }.put Reg.PAIR_STATUS_COLLIDE 0)) ∧
  (∀ (s : State) (stamp : Nat), ∃ t, exec (.custPeerFall stamp) s = .next t ∧ t.flag Reg.GLB_STATUS_PEER = false ∧
       t.flag Reg.PAIR_STATUS_COLLIDE = false ∧ t.pair.holderLostAt = t.time ∧ t.pair.gateOpen = s.pair.gateOpen) ∧
  (∀ s : State, s.flag Reg.GLB_STATUS_HOLD = true → s.flag Reg.GLB_STATUS_PEER = true → exec .custodyCollision s = .next (
       let s1 := ((s.collided.put Reg.PAIR_STATUS_COLLIDE 1).event 93).raise1 0x0B06 2 s.st
       let s2 := (s1.dropCustody.put Reg.PAIR_STATUS_COLLIDE 0).put Reg.GLB_STATUS_KEEPCUST 0
       if s2.st = stActive then s2.setState stShadow 0x0B06 else s2)) ∧
  (∀ s a : State, s.mainAbsent = false → a = (s.put Reg.GLB_STATUS_HOLD 0).setGate false → exec .heartbeatExpiry s = .next
       { a with pair := { a.pair with trying := none, releasedAt := none, heartbeatLatch := true,
                                      holderLostAt := if s.flag Reg.GLB_STATUS_HOLD then s.time else a.pair.holderLostAt } }) ∧
  (∀ s : State, s.mainAbsent = false → ∃ t, exec .heartbeatExpiry s = .next t ∧ t.pair.gateOpen = false ∧ t.pair.heartbeatLatch = true ∧
       t.flag Reg.GLB_STATUS_HOLD = false) ∧
  (∀ s : State, s.pair.heartbeatLatch = true → exec .heartbeatLatchFound s = .next (
       ({ s with pair := { s.pair with heartbeatLatch := false } }.event 94).raise1 0x0B07 3 0)) ∧
  (∀ s : State, s.flag Reg.GLB_STATUS_HOLD = false → s.flag Reg.GLB_STATUS_PEER = true → s.pair.peerHello.isSome = true →
       s.pair.peerFlags % 2 = 0 → exec .peerLineDisagree s = .next (s.raise1 0x0B09 2 0) ∧ (s.raise1 0x0B09 2 0).isActive 0x0B09 0 = true) ∧
  (∀ (s : State) (d : Nat), exec (.gateChannelDisagree d) s = .next ((s.setGate false).raise1 0x0007 3 d)) ∧
  (∀ (s : State) (code cls inst d : Nat), cls = 3 ∨ cls = 4 → exec (.faultF3Raise code cls inst d) s = .next (s.raiseAt code cls inst d)) ∧
  (∀ (s a : State) (code inst d : Nat), s.isActive code inst = false → a = s.raiseRecord code 3 inst 0xFFFF d → s.raiseAt code 3 inst d =
       if a.st = stActive ∨ a.st = stSolo then a.dropCustody.setState stShadow code
       else if a.st = stService then a.dropCustody.put Reg.GLB_STATUS_KEEPCUST 0
       else a.dropCustody) ∧
  (∀ (s a : State) (code inst d : Nat), s.isActive code inst = false → a = s.raiseRecord code 4 inst 0xFFFF d → a.ready = true → a.st ≠ stSafe →
       s.raiseAt code 4 inst d = a.enterSafe 1 0 code)

/-- CUSTODY_RELEASE by the manager in ACTIVE, with FORCE or with a partner that is ready and whose last tick digest shows health F1
or better, is taken and follows the decision of the next boundary (R449, R120). CUSTODY_SAMPLE while ticks run moves time to 6 µs
(role A) or 3 µs (role B) before the next boundary and, where the module wants custody (it does not hold it, waits for no boundary,
and one of the cases of R450 to R453 holds), asserts CUST_HOLD and tries if CUST_PEER has been de-asserted for 2 µs, and otherwise
changes nothing more; where it does not want custody a boundary of its wait passes (R432, R444). SOLO_WAIT_EXPIRY without a partner
makes SHADOW try for SOLO, takes ACTIVE to SOLO, and in SYNC raises 0x0B01 and tries for SOLO (R452, R112). ORPHAN_TIMEOUT in SHADOW
with both lines de-asserted moves time to the end of the orphan time (twice ORPHAN_MS in role B where custody was held since the handshake or the partner is
absent, else once) and
makes the shadow try (R451). SAFE_HOLD_EXPIRY in SAFE with CUST_PEER de-asserted makes it try for safe-mode custody (R113, R453). -/
def Obligations.CustodyReleasedAndTried : Prop :=
  (∀ (s : State) (q : Req) (force : Bool), s.takes 0x21 q → q.slice = 0 → s.st = stActive →
       force = true ∨ (s.flag Reg.PAIR_STATUS_PARTNER = true ∧ s.flag Reg.PAIR_STATUS_PEER_READY = true ∧
         (s.pair.peerDigests.head?.any fun d => decide (d.health ≤ 1)) = true) →
       exec (.custodyRelease q force) s = .next (({ s with
         multi := s.multi ++ [⟨q, 0x21, 0, 0⟩], pair := { s.pair with releasedAt := some s.tg.next } } : State).holdRing 0x21 q)) ∧
  (∀ s s1 : State, s.tg.running = true → s1 = s.advance (s.decisionInstant s.tg.next - (if s.roleA then 6000 else 3000) * nsUnit) →
       (s1.wantCustody = none → exec .custodySample s = .next { s1 with pair := { s1.pair with waitBoundaries := s1.pair.waitBoundaries - 1 } }) ∧
       (∀ k, s1.wantCustody = some k → s1.flag Reg.GLB_STATUS_PEER = true ∨ s1.time < s1.pair.peerFellAt + 2000 * nsUnit →
         exec .custodySample s = .next s1) ∧
       (∀ k, s1.wantCustody = some k → s1.flag Reg.GLB_STATUS_PEER = false → s1.pair.peerFellAt + 2000 * nsUnit ≤ s1.time →
         exec .custodySample s = .next ({ s1 with pair := { s1.pair with trying := some (s.tg.next, k) } }.put Reg.GLB_STATUS_HOLD 1))) ∧
  (∀ s : State, s.flag Reg.GLB_STATUS_HOLD = true ∨ s.pair.waitBoundaries ≠ 0 → s.wantCustody = none) ∧
  (∀ s : State, s.flag Reg.PAIR_STATUS_PARTNER = false → s.st = stShadow →
       exec .soloWaitExpiry s = .next { s with pair := { s.pair with soloDue := true } }) ∧
  (∀ s : State, s.flag Reg.PAIR_STATUS_PARTNER = false → s.st = stActive → exec .soloWaitExpiry s = .next (s.setState stSolo 0).reachedRun) ∧
  (∀ s a : State, s.flag Reg.PAIR_STATUS_PARTNER = false → s.st = stSync → a = s.raise1 0x0B01 1 0 →
       exec .soloWaitExpiry s = .next { a with pair := { s.pair with soloDue := true } }) ∧
  (∀ s a : State, s.st = stShadow → s.flag Reg.GLB_STATUS_HOLD = false → s.flag Reg.GLB_STATUS_PEER = false →
       a = s.advance (max s.pair.holderLostAt s.pair.handshakeAt +
         (if (s.pair.heldSinceHandshake = true ∨ s.flag Reg.PAIR_STATUS_PARTNER = false) ∧ s.roleA = false then 2 else 1) *
           s.get Reg.PAIR_CFG2_ORPHAN_MS * 1000000 * nsUnit) →
       exec .orphanTimeout s = .next { a with pair := { a.pair with orphanDue := true } }) ∧
  (∀ s : State, s.st = stSafe → s.flag Reg.GLB_STATUS_PEER = false →
       exec .safeHoldExpiry s = .next { s with pair := { s.pair with safeDue := true } })

/-- SERVICE_LIMIT_REACHED in SERVICE leaves SERVICE (R113, R118). SERVICE_LEAVE by the manager in SERVICE leaves it in the same way and
completes OK (R113). Leaving SERVICE completes the force operations that wait with ABORTED, ends every force and every injection, gives
up custody, ends the console proof, KEEPCUST and the tamper mask, and enters SYNC (R113, R497, R655, R699). -/
def Obligations.ServiceEnds : Prop :=
  (∀ s : State, s.st = stService → exec .serviceLimitReached s = .next s.leaveService) ∧
  (∀ (s : State) (q : Req), s.takes 0x23 q → q.slice = 0 → s.st = stService →
       exec (.serviceLeave q) s = .next ((s.leaveService.complete q .ok 0 0).holdRing 0x23 q)) ∧
  (∀ s : State, s.leaveService =
       (let s1 := s.cle.forceOps.foldl (fun s f => s.complete f.1 .aborted 0 0) s
        let s2 := { s1 with cle := { s1.cle with forces := [], forceOps := [] } }.showForceRegs.showForced.eventIf (!s.cle.forces.isEmpty) 108
        let s3 := (s2.endInjections 4 s2.inj).dropCustody
        let s4 := { s3 with keys := { s3.keys with console := false } }
        (((s4.put Reg.GLB_STATUS_KEEPCUST 0).serviceEvent.put Reg.TMP_MASK_SRC 0).put Reg.TMP_STATUS_MASKED 0).enterSync 0))

/-- TICK_BOUNDARY while the tick generator runs settles its tick if no vote has, moves time to d_n, streams what ends there, and then
acts in this order: custody, decision, commits and what waits for a boundary; where the rate has changed it mirrors the result and lets
the logic engine's edges follow; otherwise it releases image n + 1, mirrors the result, and the next boundary is that of the next tick;
at the end READY follows (R27, R57). STEP_APPLY at an instant a step may apply at, with a step armed, adds it to module time,
clears STEP_PEND, sets source 17, empties the histories where the step is longer than 1,000 ns, starts the tick numbering and the
energy windows again where ticks run and no slot computes, and expires queued frames after a step forward (R190, R191, R33). -/
def Obligations.TickBoundaryRunsFiveActions : Prop :=
  (∀ (s : State) (d : Nat) (m : Bool) (c : Nat), s.tg.running = true → exec (.tickBoundary d m c) s = .next (
       let n := s.tg.next
       let s0 := ((if s.isSettled n then s else vote none s).advance (s.decisionInstant n)).streamNow
       let s1 := (s0.boundaryCustody n).boundaryDecision n d
       let r := s1.boundaryApply n
       if r.2 then (r.1.mirrorResult n).cleEdges.refreshReady
       else
         let s3 := (r.1.releaseImage (n + 1) m c).mirrorResult n
         { s3 with tg := { s3.tg with next := n + 1 } }.refreshReady)) ∧
  (∀ (s a : State) (now : Nat) (v : Int), a = s.advance (now * nsUnit) → a.tim.armed = some v → a.stepMay a.time = true →
       exec (.stepApply now) s = .next (
         let s1 := a.stepTime v
         let s2 := if 1000 < v.natAbs then s1.emptyHistories else s1
         let s3 := if s2.computing || !s2.tg.running then s2 else s2.restartTicks.nrgEmpty
         if 0 < v then s3.expireQueued else s3)) ∧
  (∀ (s : State) (v : Int), (s.stepTime v).time = (((s.time : Int) + v * (nsUnit : Nat)) % (timeTop : Nat)).toNat ∧
       (s.stepTime v).flag Reg.TIM_STATUS_STEP_PEND = false ∧ (s.stepTime v).srcFlag 17 = true) ∧
  (∀ (s : State) (t : Nat), s.tg.running = false → s.stepMay t = true)

/-- In a block with T-class fields, a write of DISCARD makes the shadow take the active values and leaves every captured
commit; a write with both bits discards first and commits then; a write of COMMIT commits the shadow. -/
def Obligations.BlockCommitActs : Prop :=
  (∀ (s : State) (blk : Nat), s.st ≠ stBoot → s.ready = true → blk ∈ tBlocks → exec (.blockDiscardWrite blk) s = .next (s.discardBlock blk)) ∧
  (∀ (s : State) (blk : Nat), s.st ≠ stBoot → s.ready = true → blk ∈ tBlocks →
       exec (.blockCommitWrite blk true) s = .next ((s.discardBlock blk).commitBlock blk)) ∧
  (∀ (s : State) (blk : Nat), s.st ≠ stBoot → s.ready = true → blk ∈ tBlocks → exec (.blockCommitWrite blk false) s = .next (s.commitBlock blk)) ∧
  (∀ (s : State) (blk : Nat), (s.discardBlock blk).commits = s.commits) ∧
  (∀ (s : State) (blk a : Nat), a ∈ s.shadowsOf blk → (s.discardBlock blk).rd a = s.rd (activeAddr a)) ∧
  (∀ (s : State) (blk : Nat), ∀ p ∈ (s.discardBlock blk).captureWords blk, p.2 = s.rd p.1)

/-- A command that is taken and not complete holds its ring (R146). SLOT_LOAD into an EMPTY slot by a protection slice, in a state that
loads slots, with an image of its length whose digest and signature the slice's own key verifies, within quota and memory, loads it and answers
bytes 0–3 of its digest (R330). SLOT_ADMIT of a LOADED slot of the slice whose element list is admissible moves it to ADMITTED and answers the
highest admitted load among its engines; where an engine would exceed its limit it answers NORES with the engine and the excess, and
the slot stays (R331, R332). SLOT_UNLOAD by the owner or the manager of a LOADED, ADMITTED or QUARANTINED slot empties it at once with
source 72, the EVQ entry of KIND 2, its faults cleared and its safe form ended (R334, R352, R473). SLOT_GROUP of a LOADED or ADMITTED
slot acts at once (R335, R340). In a state that runs slots, SLOT_SHADOW of an ADMITTED or RUNNING slot, SLOT_RUN of a slot in SHADOW_RUN
with AGREE at MIN_SHADOW whose slice is not frozen, SLOT_STOP of a computed slot by its owner or the manager, and SLOT_GROUP of a
computed slot are taken and wait for the next boundary (R334, R335). At boundary n a waiting SLOT_SHADOW, SLOT_RUN and SLOT_STOP of a slot
that is still in a state R334 lists for it moves the slot to SHADOW_RUN, to RUNNING and to ADMITTED, and completes OK with n. -/
def Obligations.SlotCommandsActOrWait : Prop :=
  (∀ (s : State) (q : Req) (slot len key : Nat) (img : FnImage), s.takes 0x40 q → img.version = 1 → slot ≤ 1023 → imageOk img len = true →
       s.isProt q.slice = true → s.keyOwn key q.slice = true → s.keyHasUse key 3 = true → s.notIn stLoad = false → s.slotState slot = slEmpty →
       s.overQuota (Reg.SLC_SLICE_QA_SLOTS q.slice) 1 = false → s.memoryShort img = false → img.digestOk = true → img.sigOk = true →
       s.keyUsable key q.slice 3 = true →
       exec (.slotLoad q slot len key img) s = .next (State.holdRing ((s.loadSlot q.slice slot img).complete q .ok (img.digest % 2 ^ 32) 0) 0x40 q)) ∧
  (∀ (s : State) (q : Req) (slot : Nat) (x : Slot), s.takes 0x41 q → slot ≤ 1023 → s.findSlot slot = some x → x.slice = q.slice →
       s.notIn stLoad = false → s.slotState slot = slLoaded → s.admitBad x = false →
       exec (.slotAdmit q slot) s = .next (State.holdRing (match excess s.slots s.core.hoLoad (admissionLimit (s.get Reg.SVI_CFG_RATE)) x with
         | some (e, n) => s.complete q .nores (e * 2 ^ 24 + n % 2 ^ 20) 0
         | none =>
           let s1 := s.moveSlot x slAdmitted s.tickNow
           s1.complete q .ok (highestLoad s1.slots s1.core.hoLoad x) 0) 0x41 q)) ∧
  (∀ (s : State) (q : Req) (slot : Nat) (x : Slot), s.takes 0x42 q → slot ≤ 1023 → s.findSlot slot = some x → x.slice = q.slice ∨ q.slice = 0 →
       s.notIn stLoad = false →
       s.slotState slot = slLoaded ∨ s.slotState slot = slAdmitted ∨ s.slotState slot = slQuarantined →
       exec (.slotUnload q slot) s = .next (State.holdRing (
         let s1 := ((s.freeSlot x).event 72).postSlot x.slice slot x.state slEmpty s.tickNow
         let s2 := (s1.clearFault 0x0905 slot).clearFault 0x0C04 slot
         let s3 := if s2.pub.safeSlots.contains slot then
             { s2 with pub := { s2.pub with safeSlots := s2.pub.safeSlots.filter fun k => k ≠ slot } }.event 99
           else s2
         s3.complete q .ok 0 0) 0x42 q)) ∧
  (∀ (s : State) (q : Req) (slot group mode : Nat) (clear : Bool) (x : Slot), s.takes 0x46 q → slot ≤ 1023 → s.findSlot slot = some x →
       x.slice = q.slice → group = 0xFF ∨ group < x.img.ngroups → mode = 0 ∨ mode = 0xFF ∨ (mode = 1 ∧ x.img.elems.any isTopo = true) →
       x.auto = false ∨ group = 0xFF ∨ mode = 0 → s.notIn stRun = false → slLoaded ≤ x.state → x.state ≤ slAdmitted →
       exec (.slotGroup q slot group mode clear) s = .next (State.holdRing (s.applyGroup q x group mode clear) 0x46 q)) ∧
  (∀ (s : State) (q : Req) (slot : Nat) (x : Slot), s.takes 0x43 q → slot ≤ 1023 → s.findSlot slot = some x → x.slice = q.slice → s.notIn stRun = false →
       s.slotState slot = slAdmitted ∨ s.slotState slot = slRunning → exec (.slotShadow q slot) s = .next (State.holdRing (s.atBoundary ⟨q, 0x43, slot, 0, 0⟩) 0x43 q)) ∧
  (∀ (s : State) (q : Req) (slot : Nat) (x : Slot), s.takes 0x44 q → slot ≤ 1023 → s.findSlot slot = some x → x.slice = q.slice → s.notIn stRun = false →
       s.slotState slot = slShadow → s.agreeShort slot = false → s.frozen x.slice = false →
       exec (.slotRun q slot) s = .next (State.holdRing (s.atBoundary ⟨q, 0x44, slot, 0, 0⟩) 0x44 q)) ∧
  (∀ (s : State) (q : Req) (slot : Nat) (x : Slot), s.takes 0x45 q → slot ≤ 1023 → s.findSlot slot = some x → x.slice = q.slice ∨ q.slice = 0 →
       s.notIn stRun = false → s.slotState slot = slShadow ∨ s.slotState slot = slRunning →
       exec (.slotStop q slot) s = .next (State.holdRing (s.atBoundary ⟨q, 0x45, slot, 0, 0⟩) 0x45 q)) ∧
  (∀ (s : State) (q : Req) (slot group mode : Nat) (clear : Bool) (x : Slot), s.takes 0x46 q → slot ≤ 1023 → s.findSlot slot = some x →
       x.slice = q.slice → group = 0xFF ∨ group < x.img.ngroups → mode = 0 ∨ mode = 0xFF ∨ (mode = 1 ∧ x.img.elems.any isTopo = true) →
       x.auto = false ∨ group = 0xFF ∨ mode = 0 → s.notIn stRun = false → x.state = slShadow ∨ x.state = slRunning →
       exec (.slotGroup q slot group mode clear) s = .next (
         State.holdRing (s.atBoundary ⟨q, 0x46, slot, group + 256 * mode, if clear then 1 else 0⟩) 0x46 q)) ∧
  (∀ (s : State) (n slot : Nat) (q : Req) (x : Slot), s.findSlot slot = some x → x.state = slRunning →
       s.applyBound n ⟨q, 0x43, slot, 0, 0⟩ = (s.moveSlot x slShadow n).complete q .ok (n % 2 ^ 32) 0) ∧
  (∀ (s : State) (n slot : Nat) (q : Req) (x : Slot), s.findSlot slot = some x → x.state = slAdmitted →
       s.applyBound n ⟨q, 0x43, slot, 0, 0⟩ = (s.moveSlot (enterShadow x s.tg.f) slShadow n).complete q .ok (n % 2 ^ 32) 0) ∧
  (∀ (s : State) (n slot : Nat) (q : Req) (x : Slot), s.findSlot slot = some x → x.state = slShadow → s.agreeShort slot = false →
       s.frozen x.slice = false → s.applyBound n ⟨q, 0x44, slot, 0, 0⟩ = (s.moveSlot x slRunning n).complete q .ok (n % 2 ^ 32) 0) ∧
  (∀ (s : State) (n slot : Nat) (q : Req) (x : Slot), s.findSlot slot = some x → x.state = slShadow ∨ x.state = slRunning →
       s.applyBound n ⟨q, 0x45, slot, 0, 0⟩ = (s.moveSlot (idleSlot x) slAdmitted n).complete q .ok (n % 2 ^ 32) 0)

/-- Of three streams of one length every voted word is the value that at least two streams hold, and 0 where all three differ;
the first dissenting word of a stream is the first in which it differs from the majority, or in which there is none. Two
streams are decided exactly where they are equal; fewer than two are never decided. -/
def Obligations.VoteTakesTheMajority : Prop :=
  (∀ (a b c : List Nat) (i : Nat), a.length = b.length → b.length = c.length → i < a.length →
       (vote3 0 a b c).1.getD i 0 = (majority (a.getD i 0) (b.getD i 0) (c.getD i 0)).getD 0) ∧
  (∀ (a b c : List Nat), a.length = b.length → b.length = c.length →
       (vote3 0 a b c).2 =
         ((List.range a.length).find? (fun i => majority (a.getD i 0) (b.getD i 0) (c.getD i 0) != some (a.getD i 0)),
          (List.range a.length).find? (fun i => majority (a.getD i 0) (b.getD i 0) (c.getD i 0) != some (b.getD i 0)),
          (List.range a.length).find? (fun i => majority (a.getD i 0) (b.getD i 0) (c.getD i 0) != some (c.getD i 0)))) ∧
  (∀ x y z v : Nat, majority x y z = some v ↔ (x = v ∧ y = v) ∨ (x = v ∧ z = v) ∨ (y = v ∧ z = v)) ∧
  (∀ (ra rb : Nat) (a b : List Nat), compareStreams [(ra, a), (rb, b)] = (if a = b then some a else none, [])) ∧
  (∀ (ra : Nat) (a : List Nat), compareStreams [(ra, a)] = (none, []) ∧ compareStreams [] = (none, []))

/-- VOTE while ticks run and the next tick n is not settled moves time to v_n and, with ROD enabled, performs the benches due at v_n. With
the aligner enabled and an image n formed for rods that compute, it then votes on tick n (R408; VoteTakesTheMajority says how words are
compared). With no image n it settles the tick without a decision, and with ROD enabled counts it as missed unless the module is being
copied to (R303, R409). With the aligner disabled, with no layout for n, with ROD disabled or while the module is being copied to it settles
the tick as idle (R30, R419, R439). In the last two cases a restart that is due begins. ROD_RESULTS_DELIVERED of a VOTING or VERIFYING
rod that holds an image computes it, counts the corrected words and the overruns, and keeps the result for the vote where the tick is
not settled; where it is, a stream equal to the retained vote drops the result, and another one sets source 75, counts, benches the rod
with 0x0902 (R336 to R338, R346). ROD_SELFTEST_DONE of a rod in RESETTING makes it WAITING, or on a failure LOCKED_OUT with 0x0A02,
0x0A04 and sources 84 and 85 (R413). SRAM_SCRUB counts the errors it corrects; SRAM_UNCORRECTABLE counts, sets source 79, benches the
rod at the next vote and raises 0x0906 (R325). -/
def Obligations.VoteSettlesTheTick : Prop :=
  (∀ (s a b : State) (d : Option Nat) (l : List (Nat × Nat)), s.tg.running = true → s.isSettled s.tg.next = false →
       a = s.advance (s.voteInstant s.tg.next) → b = a.benchesAt s.tg.next →
       b.svi.enabled = true → b.core.noImage ≠ some s.tg.next → b.layoutOf s.tg.next = some l → b.flag Reg.ROD_CTRL_EN = true →
       b.resyncTick = false → exec (.vote d) s = .next (b.decide' s.tg.next l d)) ∧
  (∀ (s a b c : State) (d : Option Nat) (x : Settled), s.tg.running = true → s.isSettled s.tg.next = false →
       a = s.advance (s.voteInstant s.tg.next) → b = a.benchesAt s.tg.next →
       b.svi.enabled = true → b.core.noImage = some s.tg.next →
       x = { tick := s.tg.next, decided := false, voters := 0, idle := false, noImage := true, stream := [], layout := [], shadow := [],
             sdig := 0, rdig := 0 } →
       c = { b with core := { b.core with settled := some x } } →
       exec (.vote d) s = .next (if b.flag Reg.ROD_CTRL_EN && !b.resyncTick then c.missed 0 else c).restartIfShort) ∧
  (∀ (s a b : State) (d : Option Nat), s.tg.running = true → s.isSettled s.tg.next = false →
       a = s.advance (s.voteInstant s.tg.next) → b = a.benchesAt s.tg.next →
       b.svi.enabled = false ∨ (b.core.noImage ≠ some s.tg.next ∧ b.layoutOf s.tg.next = none) →
       exec (.vote d) s = .next (b.settleIdle s.tg.next true).restartIfShort) ∧
  (∀ (s a b : State) (d : Option Nat) (l : List (Nat × Nat)), s.tg.running = true → s.isSettled s.tg.next = false →
       a = s.advance (s.voteInstant s.tg.next) → b = a.benchesAt s.tg.next →
       b.svi.enabled = true → b.core.noImage ≠ some s.tg.next → b.layoutOf s.tg.next = some l →
       b.flag Reg.ROD_CTRL_EN = false ∨ b.resyncTick = true → exec (.vote d) s = .next (b.settleIdle s.tg.next false).restartIfShort) ∧
  (∀ (s a : State) (r corr : Nat) (overs : List Nat) (upset : List (Nat × Nat)) (w : Work) (l : List Work) (c : RodState × Delivery),
       r ≤ 2 → s.rodSt r = rodVoting ∨ s.rodSt r = rodVerifying → (s.rod r).todo = w :: l →
       c = computeRod s.tg.f s.cle.prog w overs upset (s.rod r) →
       a = ((s.countBy (Reg.ROD_RODSTAT_ECC_CORR r) corr).noteOver w.image.tick r overs).donorStream r w.image.tick c.2.sdig (s.rod r) c.1 →
       a.isSettled w.image.tick = false →
       exec (.rodResultsDelivered r overs corr upset) s = .next (a.setRod r { c.1 with result := some c.2 })) ∧
  (∀ (s a : State) (r corr : Nat) (overs voted : List Nat) (upset : List (Nat × Nat)) (w : Work) (l : List Work) (c : RodState × Delivery),
       r ≤ 2 → s.rodSt r = rodVoting ∨ s.rodSt r = rodVerifying → (s.rod r).todo = w :: l →
       c = computeRod s.tg.f s.cle.prog w overs upset (s.rod r) →
       a = ((s.countBy (Reg.ROD_RODSTAT_ECC_CORR r) corr).noteOver w.image.tick r overs).donorStream r w.image.tick c.2.sdig (s.rod r) c.1 →
       a.isSettled w.image.tick = true → findKey Prod.fst w.image.tick a.core.retained = some (w.image.tick, voted) →
       exec (.rodResultsDelivered r overs corr upset) s = .next (
         if voted = c.2.stream then a.setRod r { c.1 with result := none }
         else (((((a.setRod r c.1).event 75).count (Reg.ROD_RODSTAT_OUTCOME_BENCH r)).bench r 2).raiseAt 0x0902 2 r (r + 16)).restartIfShort)) ∧
  (∀ (s : State) (r : Nat), r ≤ 2 → s.rodSt r = rodResetting → exec (.rodSelftestDone r true) s = .next (s.moveRod r rodWaiting)) ∧
  (∀ (s : State) (r : Nat), r ≤ 2 → s.rodSt r = rodResetting → exec (.rodSelftestDone r false) s = .next (
       ((((s.event 84).raiseAt 0x0A02 1 r r).moveRod r rodLockedOut).event 85 |>.raiseAt 0x0A04 2 r r).checkRestart)) ∧
  (∀ (s : State) (r corr : Nat), r ≤ 2 → s.mainAbsent = false →
       exec (.sramScrub r corr) s = .next (s.countBy (Reg.ROD_RODSTAT_ECC_CORR r) corr)) ∧
  (∀ (s a : State) (r word : Nat), r ≤ 2 → s.mainAbsent = false → a = (s.count (Reg.ROD_RODSTAT_ECC_UNCORR r)).event 79 →
       exec (.sramUncorrectable r word) s = .next (
         ({ a with core := { a.core with pendBench := a.core.pendBench ++ [(r, 4)] } } : State).raiseAt 0x0906 2 r (r + word % 2 ^ 24 * 256)))

/-- ROD_COPY_ROUND_END of a COPYING rod with a donor: a round with at most 256 KiB written makes the final round due, more lets another
round follow below 64 rounds; a word that cannot be corrected fails the copy with reason 6 (R415). ROD_COPY_FINAL_ROUND, when it is due, tick n
is settled and the donor delivered n in time, with at most 256 KiB gives the joining rod the donor's state and lets it verify (R415).
ROD_ENABLE_CHANGE outside BOOT from 0 to 1 starts the rods at the next boundary, from 1 to 0 turns every rod OFF and ends a restart, and
writing the value it has changes nothing; in BOOT it is rejected with reason 3 (R110, R413, R419). ROD_REARM is rejected with reason 3
outside SERVICE, and in SERVICE takes a locked-out rod to RESETTING without history, with its fault cleared and the rearm counted (R413,
R420). BEAM_SELFTEST outside [v_n, d_n) counts its run; one that passes clears ST_FAIL and 0x0106 of test 5, one that fails sets ST_FAIL and
sources 86 and 8, counts, raises 0x0106 of test 5, and the second in a row raises 0x0A06 of class F4 (R127, R418). -/
def Obligations.RodsRejoin : Prop :=
  (∀ (s : State) (r written : Nat), r ≤ 2 → s.rodSt r = rodCopying → (s.rod r).finalDue = false → s.donor ≠ none → written ≤ 262144 →
       exec (.rodCopyRoundEnd r written false) s = .next (
         let s1 := s.put (Reg.BEAM_ROD_COPY_REMAIN r) (min written (2 ^ 24 - 1))
         s1.setRod r { s1.rod r with finalDue := true })) ∧
  (∀ (s : State) (r written : Nat), r ≤ 2 → s.rodSt r = rodCopying → (s.rod r).finalDue = false → s.donor ≠ none → 262144 < written →
       s.get (Reg.BEAM_ROD_COPY_ROUNDS r) < 64 →
       exec (.rodCopyRoundEnd r written false) s = .next (
         (s.put (Reg.BEAM_ROD_COPY_REMAIN r) (min written (2 ^ 24 - 1))).put (Reg.BEAM_ROD_COPY_ROUNDS r) (s.get (Reg.BEAM_ROD_COPY_ROUNDS r) + 1))) ∧
  (∀ (s : State) (r written : Nat), r ≤ 2 → s.rodSt r = rodCopying → (s.rod r).finalDue = false →
       exec (.rodCopyRoundEnd r written true) s = .next ((s.put (Reg.BEAM_ROD_COPY_REMAIN r) (min written (2 ^ 24 - 1))).reintFail r 1 6)) ∧
  (∀ (s : State) (r written dn : Nat), r ≤ 2 → s.rodSt r = rodCopying → (s.rod r).finalDue = true → s.isSettled s.tg.next = true → s.donor = some dn →
       (resultFor (s.rod dn) s.tg.next).isSome = true → written ≤ 262144 →
       exec (.rodCopyFinalRound r written false) s = .next (
         let s1 := s.setRod r { idleRod (s.rod r) with slots := (s.rod dn).slots, cle := (s.rod dn).cle, recs := (s.rod dn).recs }
         ((s1.put (Reg.BEAM_ROD_COPY_REMAIN r) 0).put (Reg.BEAM_ROD_VERIFY_MATCHED r) 0).moveRod r rodVerifying)) ∧
  (∀ s : State, s.st ≠ stBoot → s.flag Reg.ROD_CTRL_EN = false → exec (.rodEnableChange true) s = .next (
       let s1 := s.putFlag Reg.ROD_CTRL_EN true
       { s1 with core := { s1.core with enableRods := true } })) ∧
  (∀ s : State, s.st ≠ stBoot → s.flag Reg.ROD_CTRL_EN = true → exec (.rodEnableChange false) s = .next (
       let s2 := (List.range 3).foldl (fun s r => (s.setRod r (idleRod (s.rod r))).moveRod r rodOff) (s.putFlag Reg.ROD_CTRL_EN false)
       { s2.put Reg.BEAM_STATUS_RESTART 0 with core := { s2.core with enableRods := false, rejoinAt := [], pendBench := [] } })) ∧
  (∀ (s : State) (en : Bool), s.st ≠ stBoot → s.flag Reg.ROD_CTRL_EN = en → exec (.rodEnableChange en) s = .next (s.putFlag Reg.ROD_CTRL_EN en)) ∧
  (∀ (s : State) (en : Bool), s.st = stBoot → exec (.rodEnableChange en) s = .next (s.reject 9 0x10 3)) ∧
  (∀ (s : State) (r : Nat), r ≤ 2 → s.st ≠ stService → exec (.rodRearm r) s = .next (s.reject 10 (0x44 + 0x20 * r) 3)) ∧
  (∀ (s : State) (r : Nat), r ≤ 2 → s.st = stService → s.rodSt r = rodLockedOut → exec (.rodRearm r) s = .next (
       (((((s.setRod r { s.rod r with history := [], locked := false }).put (Reg.BEAM_ROD_STATE_REINT r) 0).clearFault 0x0A04 r).count
         (Reg.BEAM_ROD_BENCHES_COUNT r)).moveRod r rodResetting))) ∧
  (∀ s a : State, s.mainAbsent = false → s.tg.running = false ∨ s.isSettled s.tg.next = false →
       a = (s.countMod Reg.BEAM_SELFTEST_RUNS 1).putFlag Reg.BEAM_STATUS_ST_FAIL false →
       exec (.beamSelftest none) s = .next ({ a with core := { a.core with stFails := 0, stDue := false } }.clearFault 0x0106 5)) ∧
  (∀ (s a b : State) (v : Nat), s.mainAbsent = false → s.tg.running = false ∨ s.isSettled s.tg.next = false →
       a = (s.countMod Reg.BEAM_SELFTEST_RUNS 1).putFlag Reg.BEAM_STATUS_ST_FAIL true →
       b = { (a.count Reg.BEAM_SELFTEST_FAIL).event 86 with core := { a.core with stFails := a.core.stFails + 1, stDue := true } } →
       exec (.beamSelftest (some v)) s = .next (
         if a.core.stFails + 1 = 2 then ((b.event 8).raiseAt 0x0106 2 5 5).raise1 0x0A06 4 v else (b.event 8).raiseAt 0x0106 2 5 5))

/-- A command that is taken and not complete holds its ring (R146). STATUS_READ of any slice with a buffer that holds the record writes its
header and the active faults that the slice sees, and answers OK with its length, else NORES with the length needed (R695). JOURNAL_READ by
the manager with SEL 0 writes the journal entries from FROM on that fit the buffer, with SEL 1 those of the key journal, and answers OK with
their count (R696). COUNTER_READ by the manager of a block, with a buffer that holds them, writes every counter of the block (and for MAC the
node tables), clears the counters that clear on read where asked, and answers OK with the number of counters; with a buffer that is too short
it answers NORES with the length needed (R248, R697). -/
def Obligations.ReadoutsAnswer : Prop :=
  (∀ (s : State) (q : Req) (len : Nat), s.reaches 0x1 q = true → q.version = 1 → 128 + 24 * (s.faultsFor q.slice).length ≤ len →
       exec (.statusRead q len) s = .next (State.holdRing (
         (s.answer q (.statusRec q (s.statusHeader q.slice (s.faultsFor q.slice).length) (s.faultsFor q.slice))).complete q .ok
           (128 + 24 * (s.faultsFor q.slice).length) 0) 0x1 q)) ∧
  (∀ (s : State) (q : Req) (len : Nat), s.reaches 0x1 q = true → q.version = 1 → len < 128 + 24 * (s.faultsFor q.slice).length →
       exec (.statusRead q len) s = .next (s.complete q .nores (128 + 24 * (s.faultsFor q.slice).length) 0)) ∧
  (∀ (s : State) (q : Req) (start len : Nat) (l : List (Nat × Nat × JEntry)), s.reaches 0x2 q = true → q.version = 1 → q.slice = 0 → 56 ≤ len →
       l = (s.journal.log.filter fun x => decide (start ≤ x.1)).take ((len - 8) / 48) →
       exec (.journalRead q 0 start len) s = .next (State.holdRing (
         (s.answer q (.journalRec q l)).complete q .ok (journalResult (s.journal.log.map Prod.fst) start l.length) 0) 0x2 q)) ∧
  (∀ (s : State) (q : Req) (start len : Nat) (l : List (Nat × List Nat)), s.reaches 0x2 q = true → q.version = 1 → q.slice = 0 → 56 ≤ len →
       l = (s.keyEntries.filter fun x => decide (start ≤ x.1)).take ((len - 8) / 48) →
       exec (.journalRead q 1 start len) s = .next (State.holdRing (
         (s.answer q (.keyRec q l)).complete q .ok (journalResult (s.keyEntries.map Prod.fst) start l.length) 0) 0x2 q)) ∧
  (∀ (s a : State) (q : Req) (block len : Nat) (clear : Bool) (offs : List Nat), s.reaches 0x3 q = true → q.version = 1 → q.slice = 0 →
       block ≤ 0x19 → offs = (((List.range 16384).map fun i => 4 * i).filter fun off => isCounter block off) →
       16 * (offs.length + (s.nodeTables block).length) ≤ len →
       a = (if clear then offs.foldl (fun s off => s.clearRc block off) s else s) → exec (.counterRead q block clear len) s = .next (State.holdRing (
          (a.answer q (.counters q (offs.map fun off => (off, s.counterValue block off)) (s.nodeTables block))).complete q .ok offs.length 0) 0x3 q)) ∧
  (∀ (s : State) (q : Req) (block len : Nat) (clear : Bool) (offs : List Nat), s.reaches 0x3 q = true → q.version = 1 → q.slice = 0 →
       block ≤ 0x19 → offs = (((List.range 16384).map fun i => 4 * i).filter fun off => isCounter block off) →
       len < 16 * (offs.length + (s.nodeTables block).length) → exec (.counterRead q block clear len) s = .next (
         s.complete q .nores (16 * (offs.length + (s.nodeTables block).length)) 0))

/-- A command that is taken and not complete holds its ring (R146). INJECT_START with a valid descriptor by a slice that may inject, in a
state that runs slots and, for an injection on the pair, without custody kept, with a free place and an id not in use, holds the
injection for the next boundary, clears 0x1803 and answers OK with its id (R698, R704). INJECT_STOP by the manager, or by a slice for its own
injections, marks those named for their end at the next boundary and answers OK (R699). INJECT_END ends an active injection that is over, with
the reason it has (R699). DIAG_SELFTEST of test 0 to 8 but 5, while the main domain is powered: one that passes clears 0x0106 of that
test, one that fails sets source 8 and raises 0x0106, and a failed test 4 closes the gate and raises 0x0007 too (R128, R691, R693).
HARDWARE_PARITY_ERROR raises the fault of its unit: 0x0203, 0x0303, 0x0608, 0x0705 (the entry is dropped), 0x0806, 0x0C03, 0x0D03 (the rod
dissents at its next chunk), 0x1104 (the meter is recalled), 0x1204, 0x1308, and 0x1803, which ends every injection (R157, R186, R265,
R323, R476, R500, R577, R597, R630, R704). FAULT_TIMER_EXPIRY clears a fault whose time without its cause has passed, with source 4
for the two temperatures (R67). TEMP_FAULT shows both temperatures; above 85 °C plate 0x0002 of class F1 is raised, above 105 °C die 0x0003
of class F3, each with source 4, where it is not active (R103, R128). -/
def Obligations.InjectionsAndSelfTests : Prop :=
  (∀ (s : State) (q : Req) (d : InjDesc) (i : Injection), s.takes 0x38 q → d.version = 1 → descBad d = false → s.injPriv q d = false →
       stRun.contains s.st = true → d.kind ≠ 5 ∨ d.target ∈ [1, 2, 4] ∨ s.flag Reg.GLB_STATUS_KEEPCUST = false → s.inj.length < 8 →
       (s.inj.any fun i => i.id == s.injId d) = false →
       i = { id := s.injId d, kind := d.kind, slice := q.slice, flags := d.flags, target := d.target, tcmask := d.tcmask,
             ring := d.ring, n := d.n, param := d.param, mask := d.mask, limit := d.limit, durationMs := d.duration,
             active := false, startTick := 0, endsAt := 0 } →
       exec (.injectStart q 32 d) s = .next (State.holdRing (
         ({ s with inj := setKey Injection.id i s.inj }.clearFault 0x1803 0).complete q .ok (s.injId d) 0) 0x38 q)) ∧
  (∀ (s : State) (q : Req) (id : Nat), s.takes 0x39 q → id ≤ 7 ∨ id = 0xFF → q.slice = 0 ∨ (s.inj.any fun i => i.id == id && i.slice ≠ q.slice) = false →
       exec (.injectStop q id) s = .next (State.holdRing ({ s with inj := s.inj.map fun (i : Injection) =>
         if ((id == 0xFF || i.id == id) && (q.slice == 0 || i.slice == q.slice)) then { i with stop := true, limit := 0 } else i }.complete q .ok 0 0) 0x39 q)) ∧
  (∀ (s a : State) (id now : Nat) (i : Injection), a = s.advance (now * nsUnit) → (a.inj.find? fun i => i.id == id && i.active) = some i →
       a.injEndReason i (a.tg.next - 1) ≠ 0 → exec (.injectEnd id now) s = .next (a.endInj i (a.injEndReason i (a.tg.next - 1)))) ∧
  (∀ (s : State) (test : Nat), s.mainAbsent = false → test ≤ 8 → test ≠ 5 → exec (.diagSelftest test true) s = .next (s.clearFault 0x0106 test)) ∧
  (∀ (s a : State) (test : Nat), s.mainAbsent = false → test ≤ 8 → test ≠ 5 → a = (s.event 8).raiseAt 0x0106 2 test test →
       exec (.diagSelftest test false) s = .next (if test = 4 then (a.setGate false).raise1 0x0007 3 2 else a)) ∧
  (∀ (s : State) (unit addr : Nat), s.mainAbsent = false →
       exec (.hardwareParityError 0x0203 unit addr) s = .next (s.raise 0x0203 2 unit ((s.ringOf unit).elim 0xFFFF RingRec.slice) unit) ∧
       exec (.hardwareParityError 0x0303 unit addr) s = .next (s.raise 0x0303 2 unit unit unit) ∧
       exec (.hardwareParityError 0x0608 unit addr) s = .next (s.raiseAt 0x0608 2 unit unit) ∧
       exec (.hardwareParityError 0x0705 unit addr) s = .next (
         { s with swc := { s.swc with fdb := dropKey Prod.fst unit s.swc.fdb } }.raiseAt 0x0705 2 unit unit) ∧
       exec (.hardwareParityError 0x0806 unit addr) s = .next (s.raiseAt 0x0806 2 unit unit) ∧
       exec (.hardwareParityError 0x0C03 unit addr) s = .next (s.raiseAt 0x0C03 3 unit unit) ∧
       exec (.hardwareParityError 0x0D03 unit addr) s = .next (
         (s.setRod unit { s.rod unit with cleBad := some unit }).raiseAt 0x0D03 2 unit (unit + addr * 65536)) ∧
       exec (.hardwareParityError 0x1104 unit addr) s = .next ((s.recallMeter unit).raiseAt 0x1104 2 unit unit) ∧
       exec (.hardwareParityError 0x1204 unit addr) s = .next (s.raiseAt 0x1204 2 unit unit) ∧
       exec (.hardwareParityError 0x1308 unit addr) s = .next (s.raiseAt 0x1308 2 unit unit) ∧
       exec (.hardwareParityError 0x1803 unit addr) s = .next (((s.endInjections 4 s.inj).event 179).raise1 0x1803 2 0)) ∧
  (∀ (s a : State) (code unit d now : Nat), a = s.advance (now * nsUnit) → code ∈ timedClears → a.isActive code unit = true →
       a.causeSeen code unit = false →
       exec (.faultTimerExpiry code unit d false now) s = .next ((a.clearFault code unit).eventIf (code == 0x0002 || code == 0x0003) 4)) ∧
  (∀ (s a b : State) (plate die : Int), s.mainAbsent = false →
       a = (s.put Reg.GLB_TEMP_PLATE (unsigned 16 (saturate 16 plate))).put Reg.GLB_TEMP_DIE (unsigned 16 (saturate 16 die)) →
       b = (if 85 * 128 < plate ∧ a.isActive 0x0002 0 = false then (a.event 4).raise1 0x0002 1 (a.get Reg.GLB_TEMP_PLATE) else a) →
       exec (.tempFault plate die) s = .next (
         if 105 * 128 < die ∧ b.isActive 0x0003 0 = false then (b.event 4).raise1 0x0003 3 (b.get Reg.GLB_TEMP_DIE) else b))

/-- A command that is taken and not complete holds its ring (R146). SLICE_VALID_WRITE (R158–R160): in BOOT a write of SLICE[k].ID is
rejected with reason 3; outside BOOT a slice other than 0 that meets R159 becomes valid with the word written, and a protection slice with
MINT mints its token; a valid slice that still uses something cannot be made invalid, and that write is rejected with reason 1; a write that
leaves PASID of slice 0 as it is sets its INJECT bit. SLICE_FREEZE by the manager of a valid host slice without migration, with a buffer
that holds the image the slice has, waits for its boundary (R171, R172); with a shorter buffer it answers NORES with the length of the image.
FREEZE_COMPLETE, once the boundary has passed and no entry of the slice is taken, writes the image of the slice at that boundary to the
buffer, shows MIG 2, completes with OK and the length of the image and sets source 186 (R172). SLICE_RESTORE with MODE 1 of a frozen
slice waits for its boundary; with MODE 0 of a well-formed image whose keys the module holds, onto a valid slice that holds nothing and
whose quotas, window and free rings suffice, it keeps the image and as many free rings as it needs for the boundary, and shows MIG 3
(R171, R173, R174). -/
def Obligations.SlicesAreMadeFrozenRestored : Prop :=
  (∀ (s : State) (k : Nat) (data : Word), k ≤ 255 → s.st = stBoot → exec (.sliceValidWrite k data) s = .next (s.reject 3 (0x1000 + 0x40 * k) 3)) ∧
  (∀ (s s1 : State) (k : Nat) (data : Word), 1 ≤ k → k ≤ 255 → s.st ≠ stBoot → s.sliceValid k = false → data.field 31 1 = 1 → s.validOk k data = true →
       s1 = s.wr (0x31000 + 0x40 * k) (BitVec.ofNat 32 (data.toNat / 2 ^ 28 * 2 ^ 28 + data.field 0 20)) →
       exec (.sliceValidWrite k data) s = .next (
         if data.field 30 1 = 1 ∧ data.field 28 1 = 1 then s1.mint (s.get (Reg.SLC_SLICE_DSID_DSID k)) else s1)) ∧
  (∀ (s : State) (k : Nat) (data : Word), 1 ≤ k → k ≤ 255 → s.st ≠ stBoot → s.sliceValid k = true → data.field 31 1 = 0 →
       s.usesNothing k = false → exec (.sliceValidWrite k data) s = .next (s.reject 3 (0x1000 + 0x40 * k) 1)) ∧
  (∀ (s : State) (data : Word), s.st ≠ stBoot → data.field 0 20 = s.get (Reg.SLC_SLICE_ID_PASID 0) →
       exec (.sliceValidWrite 0 data) s = .next (
         (s.put (Reg.SLC_SLICE_ID_INJECT 0) (data.field 29 1)).put (Reg.SLC_SLICE_ID_PASID 0) (data.field 0 20))) ∧
  (∀ (s : State) (q : Req) (k len buf : Nat), s.takes 0x60 q → 1 ≤ k → k ≤ 255 → s.isProt k = false → q.slice = 0 → s.notIn stRun = false →
       s.sliceValid k = true → s.get (Reg.SLC_SLICE_STATE_MIG k) = 0 → (s.sliceImage k s.tg.next s.ns).length ≤ len → s.sliceOp = none →
       exec (.sliceFreeze q k len buf) s = .next (State.holdRing { s with
         sliceOp := some { slice := k, restore := false, thaw := false, buflen := len, buf := buf }, multi := s.multi ++ [⟨q, 0x60, k, 0⟩] } 0x60 q)) ∧
  (∀ (s : State) (q : Req) (k len buf : Nat), s.takes 0x60 q → 1 ≤ k → k ≤ 255 → s.isProt k = false → q.slice = 0 →
       s.notIn stRun = false → s.sliceValid k = true → s.get (Reg.SLC_SLICE_STATE_MIG k) = 0 → len < (s.sliceImage k s.tg.next s.ns).length →
       exec (.sliceFreeze q k len buf) s = .next (s.complete q .nores (s.sliceImage k s.tg.next s.ns).length 0)) ∧
  (∀ (s : State) (o : SliceOp) (i : SliceImg), s.sliceOp = some o → o.restore = false → o.started = true →
       (s.rings.any fun x => x.slice == o.slice && (!x.taken.isEmpty || x.cur.isSome)) = false → i = s.sliceImage o.slice o.tick o.at' →
       i.length ≤ o.buflen → exec .freezeComplete s = .next (
         (((State.dmaOut { s with sliceOp := none } 0 (.sliceImage o.slice o.buf i)).put (Reg.SLC_SLICE_STATE_MIG o.slice) 2).finish 0x60 .ok i.length).event 186)) ∧
  (∀ (s : State) (q : Req) (k len : Nat) (img : SliceImg), s.takes 0x61 q → 1 ≤ k → k ≤ 255 → s.isProt k = false → q.slice = 0 →
       s.notIn stRun = false → s.sliceValid k = true → s.get (Reg.SLC_SLICE_STATE_MIG k) = 2 → s.sliceOp = none →
       exec (.sliceRestore q k 1 ⟨len, img⟩) s = .next (State.holdRing { s with
         sliceOp := some { slice := k, restore := true, thaw := true, img := none }, multi := s.multi ++ [⟨q, 0x61, k, 0⟩] } 0x61 q)) ∧
  (∀ (s a : State) (q : Req) (k len : Nat) (img : SliceImg), s.takes 0x61 q → img.version = 1 → 1 ≤ k → k ≤ 255 → s.isProt k = false →
       s.missingKey k img = none → q.slice = 0 → s.notIn stRun = false → s.sliceValid k = true → s.get (Reg.SLC_SLICE_STATE_MIG k) = 0 →
       s.holdsNothing k = true → img.length ≤ len → s.quotaShort k img = false → img.rings.length ≤ s.freeRings.length →
       img.dramMiB ≤ s.get (Reg.SLC_SLICE_DRAMW_SIZE k) → img.blocks.all s.blockFree = true →
       img.rings = [] ∨ s.flag Reg.HIF_LINK_PASID_EN = true → s.sliceOp = none → img.digest = imageDigest img → imageFormed img = true →
       a = { s with sliceOp := some { slice := k, restore := true, thaw := false, img := some img, alloc := s.freeRings.take img.rings.length }
                    multi := s.multi ++ [⟨q, 0x61, k, 0⟩] } →
       exec (.sliceRestore q k 0 ⟨len, img⟩) s = .next (State.holdRing (a.put (Reg.SLC_SLICE_STATE_MIG k) 3) 0x61 q))

/-- On an open page, MB_CTRL_WRITE with EN on a mailbox that is disabled enables it with both index words 0, no message taken, ACTIVE 1 and
DMAERR 0; with EN 0 on an enabled one it disables it and writes back every message taken and not delivered with ABORTED (R165, R170; the
write-back is the model's choice, assumption 76). MB_OUT_DB within 64 entries of the consumer and not behind the accepted producer is
accepted, MB_IN_DB up to the producer is accepted, and others are counted as bad (R165). MAILBOX_RELAY for a mailbox that runs, whose slice
is not frozen, while Bus Master Enable is 1: an entry that the module takes advances the OUT consumer index and waits; the oldest waiting
message that can be delivered goes into the IN ring of its destination with the next RSEQ and its entry is written back with OK, one that
cannot is written back with its status, which sets the own source and source 185 (R166–R169; named operations State.mbTake,
State.mbDeliver, State.mbBack). MB_EVCLR with 1 clears the mailbox's source flag (R165). MAILBOX_DMA_ERROR stops an enabled mailbox: ACTIVE 0,
DMAERR 1, its messages written back with ABORTED (R170). -/
def Obligations.MailboxWritesAndRelay : Prop :=
  (∀ (s a : State) (k data : Nat), s.pageOpen k = true → s.flag (mbEn k) = false → data % 2 = 1 →
       a = (((s.put (mbEn k) 1).put (mbActive k) 1).put (mbErr k) 0).wr (0x200214 + 0x1000 * k) 0 →
       exec (.mbCtrlWrite k data) s = .next ((a.wr (0x200218 + 0x1000 * k) 0).setMb { slice := k })) ∧
  (∀ (s : State) (k data : Nat), s.pageOpen k = true → s.flag (mbEn k) = true → data % 2 = 0 →
       exec (.mbCtrlWrite k data) s = .next (((s.put (mbEn k) 0).put (mbActive k) 0).mbAbort k)) ∧
  (∀ (s : State) (k data : Nat), s.pageOpen k = true → s.flag (mbEn k) = true → idx16 (data % 65536) (s.get (mbOutMod k)) ≤ 64 →
       idx16 (data % 65536) (s.get (mbOutHost k)) ≤ idx16 (data % 65536) (s.get (mbOutMod k)) →
       exec (.mbOutDb k data) s = .next (s.put (mbOutHost k) (data % 65536))) ∧
  (∀ (s : State) (k data : Nat), s.pageOpen k = true → s.flag (mbEn k) = true →
       64 < idx16 (data % 65536) (s.get (mbOutMod k)) ∨ idx16 (data % 65536) (s.get (mbOutMod k)) < idx16 (data % 65536) (s.get (mbOutHost k)) →
       exec (.mbOutDb k data) s = .next s.mbBad) ∧
  (∀ (s : State) (k data : Nat), s.pageOpen k = true → s.flag (mbEn k) = true →
       idx16 (data % 65536) (s.get (mbInHost k)) ≤ idx16 (s.get (mbInMod k)) (s.get (mbInHost k)) →
       exec (.mbInDb k data) s = .next (s.put (mbInHost k) (data % 65536))) ∧
  (∀ (s : State) (k data : Nat), s.pageOpen k = true → s.flag (mbEn k) = true →
       idx16 (s.get (mbInMod k)) (s.get (mbInHost k)) < idx16 (data % 65536) (s.get (mbInHost k)) →
       exec (.mbInDb k data) s = .next s.mbBad) ∧
  (∀ (s : State) (k : Nat) (m : MbMsg), s.mbMoves k = true → exec (.mailboxRelay k ⟨some m, false⟩) s = .next (s.mbTake k m)) ∧
  (∀ (s a : State) (k : Nat) (next : Option MbMsg) (x : MbMsg) (w : List MbMsg), s.mbMoves k = true → a = next.elim s (s.mbTake k) →
       (a.mbOf k).waiting = x :: w →
       (a.mbStatus k x = .ok → exec (.mailboxRelay k ⟨next, true⟩) s = .next ((a.mbDeliver k x).mbBack k .ok)) ∧
       (a.mbStatus k x ≠ .ok → exec (.mailboxRelay k ⟨next, true⟩) s = .next (a.mbBack k (a.mbStatus k x)))) ∧
  (∀ (s : State) (k data : Nat), k ≤ 255 → data % 2 = 1 → exec (.mbEvclr k data) s = .next (s.put (srcField (1216 + k)) 0)) ∧
  (∀ (s : State) (k : Nat), k ≤ 255 → s.flag (mbEn k) = true →
       exec (.mailboxDmaError k) s = .next (((s.put (mbActive k) 0).put (mbErr k) 1).mbAbort k))

/-- A command that is taken and not complete holds its ring (R146). HANDOVER_BEGIN by the manager in ACTIVE or SOLO with no handover running,
for a protection slice: at the source with the token HELD or RECLAIMED it sets PHASE 1, MIG 4, MATCHED 0 and the copy as due; at the
destination with all slots ADMITTED to RUNNING, room in the ledger and the time for the copy on every engine of the slice it sets
PHASE 1, MIG 5 and adds the copy's cycles to those engines; both clear 0x0301 and answer OK (R177, R178, R186). HANDOVER_ABORT before RELEASE sends CANCEL, fails
the handover with reason 7, keeps the token at the source and answers OK; once the module has sent or received RELEASE it answers STATE (R182).
HO_READY_RX at the source in PHASE 2 grants the tick m of R181 and goes to PHASE 3. HO_GRANT_RX at a destination that has sent READY accepts m and
goes to PHASE 3. HO_ACCEPT_RX of m at least 1 ms before d_{m−1} commits "released at m", and later than that cancels with reason 4. HO_RELEASE_TX in
PHASE 3 sends RELEASE(m), with the move of the slots at m, and goes to PHASE 4 where ACCEPT, the durable entry and equal digests of tick m − 2 are there;
without ACCEPT or the durable entry it cancels with reason 4, without equal digests with reason 5, and the source keeps the token.
HO_RELEASE_RX before v_m counts, later it only passes. HO_TAKEN_RX commits the entry passed with the next serial, HO_NOT_TAKEN_RX the entry
reclaimed, and both clear 0x0302 (R179, R181–R183); for a token that a restart left in doubt they resolve it (R183, R454). -/
def Obligations.HandoverBeginsAndMoves : Prop :=
  (∀ (s a : State) (q : Req) (slice peer path ps : Nat) (e : TokenEntry) (h : HoState), s.takes 0x62 q → slice ≤ 255 → peer ≤ 4095 → path ≤ 4 →
       ps ≤ 255 → q.slice = 0 → s.notIn [6, 7] = false → s.sliceValid slice = true → s.isProt slice = true →
       s.tokenOf (s.get (Reg.SLC_SLICE_DSID_DSID slice)) = some e → e.status = 1 ∨ e.status = 4 → s.hoPhase = 0 →
       h = { slice := slice, peer := peer, role := 0, path := path, peerSlice := ps, dsid := s.get (Reg.SLC_SLICE_DSID_DSID slice),
             serial := e.serial, copyDue := true, shut := s.ho.shut, openTo := s.ho.openTo, notTaken := s.ho.notTaken,
             resolving := s.ho.resolving, moves := s.ho.moves, tokSync := s.ho.tokSync } →
       a = { s with ho := h, core := { s.core with hoLoad := [] } } →
       exec (.handoverBegin q slice peer 0 path ps) s = .next (State.holdRing ((((((a.put Reg.SLC_HO_STATUS_SLICE slice).put
         Reg.SLC_HO_STATUS_MATCHED 0).hoGo 1).put (Reg.SLC_SLICE_STATE_MIG slice) 4).clearFault 0x0301 0).complete q .ok 0 0) 0x62 q)) ∧
  (∀ (s a : State) (q : Req) (slice peer path ps dsid : Nat) (h : HoState), s.takes 0x62 q → slice ≤ 255 → peer ≤ 4095 → path ≤ 4 →
       ps ≤ 255 → q.slice = 0 → s.notIn [6, 7] = false → s.sliceValid slice = true → s.isProt slice = true →
       dsid = s.get (Reg.SLC_SLICE_DSID_DSID slice) → (∀ e, s.tokenOf dsid = some e → e.status ≠ 1 ∧ e.status ≠ 4) →
       (∀ x ∈ s.sliceSlots slice, slAdmitted ≤ x.state ∧ x.state ≤ slRunning) → s.ledgerRoom dsid = true →
       (∀ g ∈ s.sliceEngines slice, engLoad s.slots [] g + s.copyCycles slice path ≤ admissionLimit (s.get Reg.SVI_CFG_RATE)) → s.hoPhase = 0 →
       h = { slice := slice, peer := peer, role := 1, path := path, peerSlice := ps, dsid := dsid, serial := (s.tokenOf dsid).elim 0 TokenEntry.serial,
             copyDue := false, shut := s.ho.shut, openTo := s.ho.openTo, notTaken := s.ho.notTaken,
             resolving := s.ho.resolving, moves := s.ho.moves, tokSync := s.ho.tokSync } →
       a = { s with ho := h, core := { s.core with hoLoad := (s.sliceEngines slice).map fun g => (g, s.copyCycles slice path) } } →
       exec (.handoverBegin q slice peer 1 path ps) s = .next (State.holdRing ((((((a.put Reg.SLC_HO_STATUS_SLICE slice).put
         Reg.SLC_HO_STATUS_MATCHED 0).hoGo 1).put (Reg.SLC_SLICE_STATE_MIG slice) 5).clearFault 0x0301 0).complete q .ok 0 0) 0x62 q)) ∧
  (∀ (s : State) (q : Req) (slice : Nat), s.takes 0x63 q → slice ≤ 255 → q.slice = 0 →
       (s.notIn [6, 7] = false → s.hoPhase ≠ 0 → s.ho.slice = slice → s.hoReleased = false →
         exec (.handoverAbort q slice) s = .next (State.holdRing ((s.hoCancel 7).hoKeep.complete q .ok 0 0) 0x63 q)) ∧
       (s.hoReleased = true → exec (.handoverAbort q slice) s = .next (s.complete q .state 0 0))) ∧
  (∀ (s : State) (m : HoMsg), s.hoAccepts m = true → s.ho.role = 0 → s.hoPhase = 2 → exec (.hoReadyRx m) s = .next (
       (State.hoSend { s with ho := { s.ho with m := s.grantTick } } s.grantTick .grant).hoGo 3)) ∧
  (∀ (s : State) (m : HoMsg), s.hoAccepts m = true → s.ho.role = 1 → s.ho.readySent = true → exec (.hoGrantRx m) s = .next (
       (State.hoSend { s with ho := { s.ho with m := m.tick, releaseRx := false } } m.tick .accept).hoGo 3)) ∧
  (∀ (s a : State) (m : HoMsg), s.hoAccepts m = true → s.ho.role = 0 → s.hoPhase = 3 → m.tick = s.ho.m →
       a = { s with ho := { s.ho with accepted := true, openTo := setKey Prod.fst (s.ho.slice, s.ho.m) s.ho.openTo } } →
       (s.time + 1000000 * nsUnit ≤ s.decisionInstant (s.ho.m - 1) → exec (.hoAcceptRx m) s = .next (a.commitToken 2 s.ho.serial s.ho.m 1)) ∧
       (s.decisionInstant (s.ho.m - 1) < s.time + 1000000 * nsUnit → exec (.hoAcceptRx m) s = .next (s.hoCancel 4))) ∧
  (∀ (s a : State) (x y : Nat × Nat), s.hoPhase = 3 → s.ho.role = 0 → s.ho.accepted = true → s.ho.durable = true →
       findKey Prod.fst (s.ho.m - 2) s.ho.mine = some x → findKey Prod.fst (s.ho.m - 2) s.ho.theirs = some y → a = s.hoSend s.ho.m .release →
       (x.2 = y.2 → exec .hoReleaseTx s = .next (
         State.hoGo { a with ho := { a.ho with released := true, moves := a.ho.moves ++ [(a.ho.dsid, 2, a.ho.m)] } } 4)) ∧
       (x.2 ≠ y.2 → exec .hoReleaseTx s = .next (s.hoCancel 5).hoKeep)) ∧
  (∀ (s : State), s.hoPhase = 3 → s.ho.role = 0 →
       (s.ho.accepted = false ∨ s.ho.durable = false → exec .hoReleaseTx s = .next (s.hoCancel 4).hoKeep) ∧
       (s.ho.accepted = true → s.ho.durable = true →
         findKey Prod.fst (s.ho.m - 2) s.ho.mine = none ∨ findKey Prod.fst (s.ho.m - 2) s.ho.theirs = none →
         exec .hoReleaseTx s = .next (s.hoCancel 5).hoKeep)) ∧
  (∀ (s a : State) (m : HoMsg) (stamp : Nat), s.hoAccepts m = true → s.ho.role = 1 → s.hoPhase = 3 → m.tick = s.ho.m →
       a = s.advance (stamp * nsUnit) →
       (stamp * nsUnit < a.voteInstant a.ho.m → exec (.hoReleaseRx m stamp) s = .next { a with ho := { a.ho with releaseRx := true } }) ∧
       (a.voteInstant a.ho.m ≤ stamp * nsUnit → exec (.hoReleaseRx m stamp) s = .next a)) ∧
  (∀ (s : State) (m : HoMsg), s.resolves m = false → s.hoAccepts m = true → s.ho.role = 0 → 4 ≤ s.hoPhase →
       exec (.hoTakenRx m) s = .next ((s.commitToken 3 (s.ho.serial + 1) s.ho.m 3).clearFault 0x0302 s.ho.dsid) ∧
       exec (.hoNotTakenRx m) s = .next ((s.commitToken 4 s.ho.serial s.ho.m 4).clearFault 0x0302 s.ho.dsid)) ∧
  (∀ (s : State) (m : HoMsg), s.resolves m = true →
       exec (.hoTakenRx m) s = .next (s.resolveToken m true) ∧ exec (.hoNotTakenRx m) s = .next (s.resolveToken m false))

/-- HO_COPY_RX at the destination in PHASE 1, of a copy complete at an instant: with the same rate, ρ and image digests it is installed
where it is complete by d_{k0} + D, and fails with reason 1 after that; with others it fails with reason 6. HO_COPY_DEADLINE fails it with reason 1.
HO_DIGEST_RX keeps the other end's digest, the last 64 of them, and compares its tick. HO_DIGEST_MISSING after PHASE 1 starts
the count again; a source in PHASE 2 that has heard no digest of its copy takes a new one. HO_COMPARE_TIMEOUT before READY cancels with
reason 3 (R180). HO_CANCEL_RX before RELEASE fails the handover with reason 7 and the source keeps its token; after RELEASE it is ignored (R182).
HO_DOUBT at a source without an answer goes to PHASE 5, raises 0x0302, sets source 191 the first time, and sends QUERY on every path; tokens
that a restart left in doubt each raise 0x0302 and send theirs (R183, R186). HO_QUERY_RX is answered with TAKEN where the
ledger holds the token with the next serial, else with NOT_TAKEN where the journal holds it (R183). TOKEN_MSG_RX in sequence: an entry
is queued for the ledger where it has room, else 0x1607 is raised; an acknowledgement ends the repeats of its entry (R454). TOKEN_RESEND: entries that are not acknowledged are sent
again while a partner is there, without one the ledger's own durability suffices (R454). -/
def Obligations.HandoverCopiesAndCompares : Prop :=
  (∀ (s a : State) (m : HoMsg) (stamp rate rho : Nat) (digests : List Nat) (state : List (Nat × Nat)) (seqs : List (List Nat)),
       m.body = .copy rate rho digests state seqs → s.hoAccepts m = true → s.ho.role = 1 → s.hoPhase = 1 → a = s.copyHere m stamp →
       (a.copyFits rate rho digests = true → a.copyLate m.tick stamp = false → exec (.hoCopyRx m stamp) s = .next (a.hoInstall m.tick state seqs)) ∧
       (a.copyFits rate rho digests = true → a.copyLate m.tick stamp = true → exec (.hoCopyRx m stamp) s = .next (a.hoCopyFailed 1)) ∧
       (a.copyFits rate rho digests = false → exec (.hoCopyRx m stamp) s = .next (a.hoCopyFailed 6))) ∧
  (∀ (s : State), s.hoPhase = 1 → s.ho.role = 1 → exec .hoCopyDeadline s = .next (s.hoCopyFailed 1)) ∧
  (∀ (s : State) (m : HoMsg) (d : Nat), m.body = .digest d → s.hoAccepts m = true → exec (.hoDigestRx m) s = .next (
       State.hoCompare { s with ho := { s.ho with theirs := ((m.tick, d) :: s.ho.theirs).take 64 } } m.tick)) ∧
  (∀ (s a : State), 2 ≤ s.hoPhase → a = s.put Reg.SLC_HO_STATUS_MATCHED 0 →
       (s.ho.role = 1 → exec .hoDigestMissing s = .next a) ∧
       (a.ho.role = 0 → a.hoPhase = 2 → a.ho.theirs = [] → exec .hoDigestMissing s = .next { a with ho := { a.ho with copyDue := true } })) ∧
  (∀ (s : State), s.hoPhase = 1 ∨ s.hoPhase = 2 → s.ho.readySent = false → exec .hoCompareTimeout s = .next (s.hoCancel 3)) ∧
  (∀ (s : State) (m : HoMsg), s.hoAccepts m = true → (s.hoReleased = false → exec (.hoCancelRx m) s = .next ((s.hoFail 7).hoKeep)) ∧
       (s.hoReleased = true → exec (.hoCancelRx m) s = .next s)) ∧
  (∀ (s : State) (m : HoMsg), s.ho.role = 0 → m = { dsid := s.ho.dsid, serial := s.ho.serial, tick := s.ho.m, body := .query } →
       s.ho.resolving = [] → s.hoPhase = 4 ∨ s.hoPhase = 5 →
       exec .hoDoubt s = .next ((((s.hoGo 5).raise 0x0302 2 s.ho.dsid 0xFFFF s.ho.dsid).eventIf (s.hoPhase == 4) 191).hoEveryPath m)) ∧
  (∀ (s : State) (d serial tick : Nat), s.ho.role ≠ 0 ∨ s.hoPhase < 4 → s.ho.resolving = [(d, serial, tick)] →
       exec .hoDoubt s = .next ((s.raise 0x0302 2 d 0xFFFF d).hoEveryPath { dsid := d, serial := serial, tick := tick, body := .query })) ∧
  (∀ (s : State) (m : HoMsg) (path : Nat) (e : TokenEntry), m.tagOk = true → s.tokenOf m.dsid = some e → e.status = 1 → e.serial = m.serial + 1 →
       exec (.hoQueryRx m path) s = .next (s.hoEmit path { m with body := .taken })) ∧
  (∀ (s : State) (m : HoMsg) (path tick : Nat), m.tagOk = true → s.tokenOf m.dsid = none → (m.dsid, m.serial, tick) ∈ s.ho.notTaken →
       exec (.hoQueryRx m path) s = .next (s.hoEmit path { m with body := .notTaken })) ∧
  (∀ (s a b : State) (lane seq ack : Nat) (e : TokenEntry), s.pairAccept lane seq = some a →
       b = { a with ho := { a.ho with tokSync := a.ho.tokSync.map fun l => e.dsid :: l } } →
       (b.ledgerRoom e.dsid = true → exec (.tokenMsgRx lane seq (some e) ack) s = .next (b.queueWrite (.token e (some seq) 0))) ∧
       (b.ledgerRoom e.dsid = false → exec (.tokenMsgRx lane seq (some e) ack) s = .next (b.raiseAt 0x1607 2 e.dsid e.dsid))) ∧
  (∀ (s a b : State) (lane seq ack : Nat), s.pairAccept lane seq = some a →
       b = { a with pair := { a.pair with unacked := a.pair.unacked.filter fun x => x.1 ≠ ack } } →
       exec (.tokenMsgRx lane seq none ack) s = .next (b.stepAcked (some ack))) ∧
  (∀ (s a : State), a = { s with pair := { s.pair with unacked := [] } } →
       (s.flag Reg.PAIR_STATUS_PARTNER = false → exec .tokenResend s = .next (a.stepAcked none)) ∧
       (s.flag Reg.PAIR_STATUS_PARTNER = true → exec .tokenResend s = .next (
         (s.pair.unacked.foldl (fun (s : State) (x : Nat × TokenEntry) => s.sendToken x.2) a).stepAcked none)))

/-- A pair message with a SEQ above the last one accepted is accepted, on either lane (R425). HELLO_TX from entry to SYNC on lets the COPY frames that have started go
first, sends the module's HELLO and may complete the handshake (R426, R427, R429). An accepted HELLO_RX leaves the partner's serial, state and position, and may complete
the handshake (R429, R431). HANDSHAKE_LOSS with no copy running clears PARTNER in PAIR and GLB, sets source 88, raises 0x0B01 and
forgets the entries that wait for an acknowledgement; with a copy running for this module the copy fails with reason 5 too (R433, R441). An accepted DIGEST_RX of a partner moves the time to
its arrival, shows its latency and settles the tick with the own record (R434, R435). DIGEST_SETTLE_TIMEOUT settles a tick 50 µs after its decision (R435).
PAIR_FAULT_RX journals a fault record of the partner with the partner bit, and one that raises class F3 or F4 sets source 95 (R428, R458).
RELEASE_NOTE_RX clears PEER_SAFECUST (R426). TAKEOVER_REQ_TX of a SHADOW with health F1 or better asks for custody that the partner holds in safe
mode; TAKEOVER_REQ_RX marks the release for after the next boundary (R113, R453). -/
def Obligations.PairMessagesKeepTheHandshake : Prop :=
  (∀ (s : State), s.ready = true → exec .helloTx s = .next s.streamNow.helloSent.tryHandshake.refreshReady) ∧
  (∀ (s a : State) (lane seq : Nat) (h : Hello), (s.helloMeets h).pairAccept lane seq = some a →
       exec (.helloRx lane seq h) s = .next ((a.helloTaken h).tryHandshake.refreshReady)) ∧
  (∀ (s a : State), s.flag Reg.PAIR_STATUS_PARTNER = true → a = s.partnerGone →
       (a.rs = rsIdle ∨ a.rs = rsWait → exec .handshakeLoss s = .next a.refreshReady) ∧
       (rsRequested ≤ a.rs → a.rs ≤ rsJoin → exec .handshakeLoss s = .next (a.resyncFail 5).refreshReady) ∧
       (a.rs = rsDonor → exec .handshakeLoss s = .next (a.put Reg.PAIR_STATUS_RESYNC rsIdle).refreshReady)) ∧
  (∀ (s a : State) (lane seq delay : Nat) (d : Digest), s.pairAccept lane seq = some a → a.flag Reg.PAIR_STATUS_PARTNER = true →
       exec (.digestRx lane seq d delay) s = .next ((((a.digestTaken d delay).donorEnds d.flags).settlePair d.tick).refreshReady)) ∧
  (∀ (s : State) (n : Nat), exec (.digestSettleTimeout n) s = .next ((s.advance (s.decisionInstant n + 50000 * nsUnit)).settlePair n)) ∧
  (∀ (s a : State) (lane seq : Nat) (r : FaultRec), s.pairAccept lane seq = some a →
       (r.raised = true → 3 ≤ r.cls → exec (.pairFaultRx lane seq r) s = .next ((a.journalAdd (.fault { r with partner := true })).event 95)) ∧
       (r.raised = false ∨ r.cls < 3 → exec (.pairFaultRx lane seq r) s = .next (a.journalAdd (.fault { r with partner := true })))) ∧
  (∀ (s a b : State) (lane seq : Nat), s.pairAccept lane seq = some a →
       b = { a with pair := { a.pair with peerFlags := a.pair.peerFlags - a.pair.peerFlags % 4 } } →
       exec (.releaseNoteRx lane seq) s = .next (b.put Reg.PAIR_STATUS_PEER_SAFECUST 0)) ∧
  (∀ (s a : State), s.st = stShadow → s.healthy = true → s.flag Reg.PAIR_STATUS_PEER_SAFECUST = true →
       a = { s with pair := { s.pair with takeoverAsked := true } } → exec .takeoverReqTx s = .next (a.pairSend a.tickNow .takeoverReq)) ∧
  (∀ (s a : State) (lane seq : Nat), s.pairAccept lane seq = some a → a.st = stSafe → a.pair.safeMode = true → a.flag Reg.GLB_STATUS_HOLD = true →
       exec (.takeoverReqRx lane seq) s = .next { a with pair := { a.pair with safeRelease := true } })

/-- A pair message with a SEQ above the last one accepted is accepted (R425). RESYNC_REQ_RX from a partner: with fewer than two VOTING rods the answer
is NAK 1, of a module that is itself copying NAK 2, with a different slot table NAK 3, and otherwise the module shows DONOR and copies from the next
boundary (R438). RESYNC_REQ_REPEAT repeats a request that is not answered (R437). RESYNC_NAK_RX fails the copy with reason 2 (R441). RESYNC_COPY_RX
writes its words into the VOTING rods, which compute nothing from the first COPY on, keeps them and the sequence state for the join, and shows COPYING, or JOIN
once every word has come (R439). RESYNC_END_RX of END(n) written by d_n − 1 µs is kept for the join, and one written later is not (R440). RESYNC_RETRY, 1 s after a failure, makes the
request again while a partner is there (R437). RESYNC_FAIL_LIMIT fails the copy with reason 1 for the backlog, and with reason 3 for the wait in JOIN (R441). -/
def Obligations.ResyncCopiesAState : Prop :=
  (∀ (s a : State) (lane seq : Nat), s.pairAccept lane seq = some a → a.flag Reg.PAIR_STATUS_PARTNER = true → a.rs ≠ rsDonor →
       ((a.rodsIn rodVoting).length < 2 → exec (.resyncReqRx lane seq) s = .next (a.pairSend a.tickNow (.resyncNak 1))) ∧
       (2 ≤ (a.rodsIn rodVoting).length → rsRequested ≤ a.rs → a.rs ≤ rsJoin →
         exec (.resyncReqRx lane seq) s = .next (a.pairSend a.tickNow (.resyncNak 2))) ∧
       (2 ≤ (a.rodsIn rodVoting).length → a.rs = rsIdle ∨ a.rs = rsWait → (a.pair.peerHello.any fun h => h.slotTab == a.slotTab) = false →
         exec (.resyncReqRx lane seq) s = .next (a.pairSend a.tickNow (.resyncNak 3)))) ∧
  (∀ (s a b : State) (lane seq : Nat), s.pairAccept lane seq = some a → a.flag Reg.PAIR_STATUS_PARTNER = true → a.rs = rsIdle ∨ a.rs = rsWait →
       2 ≤ (a.rodsIn rodVoting).length → (a.pair.peerHello.any fun h => h.slotTab == a.slotTab) = true →
       b = { a with pair := { a.pair with donorOn := false } } →
       exec (.resyncReqRx lane seq) s = .next (b.put Reg.PAIR_STATUS_RESYNC rsDonor).refreshReady) ∧
  (∀ (s : State), s.rs = rsRequested → exec .resyncReqRepeat s = .next (s.pairSend s.tickNow .resyncReq)) ∧
  (∀ (s a : State) (lane seq reason : Nat), s.pairAccept lane seq = some a → a.rs = rsRequested ∨ a.rs = rsCopying ∨ a.rs = rsJoin →
       exec (.resyncNakRx lane seq reason) s = .next (a.resyncFail 2)) ∧
  (∀ (s a b c : State) (lane seq : Nat) (entries : List (Nat × Nat)) (seqs : List (List Nat)) (all : Bool), s.pairAccept lane seq = some a →
       a.rs = rsRequested →
       b = (a.rodsIn rodVoting).foldl (fun s r => s.setRod r (applyWords s.cle.prog entries
         { s.rod r with todo := [], result := none, carryFrom := none })) a →
       c = { b with pair := { b.pair with copyWords := entries.foldl (fun l e => setKey Prod.fst e l) b.pair.copyWords,
                                          copySeqs := seqs.foldl (fun l w => setKey (fun (x : List Nat) => x.headD 0) w l) [] } } →
       exec (.resyncCopyRx lane seq entries seqs all) s = .next (
         (c.put Reg.PAIR_STATUS_RESYNC (if all then rsJoin else rsCopying)).refreshReady)) ∧
  (∀ (s a b c : State) (lane seq : Nat) (entries : List (Nat × Nat)) (seqs : List (List Nat)) (all : Bool), s.pairAccept lane seq = some a →
       a.rs = rsCopying ∨ a.rs = rsJoin →
       b = (a.rodsIn rodVoting).foldl (fun s r => s.setRod r (applyWords s.cle.prog entries (s.rod r))) a →
       c = { b with pair := { b.pair with copyWords := entries.foldl (fun l e => setKey Prod.fst e l) b.pair.copyWords,
                                          copySeqs := seqs.foldl (fun l w => setKey (fun (x : List Nat) => x.headD 0) w l) b.pair.copySeqs } } →
       exec (.resyncCopyRx lane seq entries seqs all) s = .next (
         (c.put Reg.PAIR_STATUS_RESYNC (if all = true ∨ a.rs = rsJoin then rsJoin else rsCopying)).refreshReady)) ∧
  (∀ (s a b : State) (lane seq n sdig stamp : Nat), s.pairAccept lane seq = some a → b = a.advance (stamp * nsUnit) → b.rs = rsCopying ∨ b.rs = rsJoin →
       (stamp * nsUnit + 1000 * nsUnit ≤ b.decisionInstant n → exec (.resyncEndRx lane seq n sdig stamp) s = .next
         { b with pair := { b.pair with copyLast := some (n, sdig) } }) ∧
       (b.decisionInstant n < stamp * nsUnit + 1000 * nsUnit → exec (.resyncEndRx lane seq n sdig stamp) s = .next b)) ∧
  (∀ (s a : State), s.rs = rsWait → a = (s.advance (s.pair.resyncAt + 1000000000 * nsUnit)).put Reg.PAIR_STATUS_RESYNC rsIdle →
       exec .resyncRetry s = .next (if a.flag Reg.PAIR_STATUS_PARTNER then a.resyncStart else a)) ∧
  (∀ (s : State), s.rs = rsCopying ∨ s.rs = rsJoin → exec (.resyncFailLimit true) s = .next (s.resyncFail 1)) ∧
  (∀ (s : State), s.rs = rsJoin → exec (.resyncFailLimit false) s = .next (s.resyncFail 3))

/-- On a host-produced ring (a type other than 3, EVQ) a doorbell carries the new producer index. It is accepted only if (new
− consumer) mod 65,536 ≤ SIZE and (new − old producer) mod 65,536 ≤ (new − consumer) mod 65,536; a doorbell equal to the old
producer index does nothing; any other value is ignored and counted in HIF.DB_BAD, and the ring goes on with its old producer
index. On an EVQ ring the doorbell carries the new consumer index, accepted only if (new − old consumer) mod 65,536 ≤
(producer − old consumer) mod 65,536; any other is ignored and counted. -/
def Obligations.DoorbellIndicesAreChecked : Prop :=
  (∀ (s : State) (slice k new : Nat) (x : RingRec), s.ready = true → new < 65536 → s.localRing slice k = some x → x.ring ≤ 1023 → x.type ≠ 3 →
       ∃ t, exec (.doorbell slice k new) s = .next t ∧ t.rings = s.rings ∧
         t.get (Reg.HIF_RING_PTR_MOD x.ring) = s.get (Reg.HIF_RING_PTR_MOD x.ring) ∧
         (let c := s.get (Reg.HIF_RING_PTR_MOD x.ring)
          let h := s.get (Reg.HIF_RING_PTR_HOST x.ring)
          if new = h then t = s
          else if (new + 65536 - c) % 65536 ≤ 2 ^ x.log2size ∧ (new + 65536 - h) % 65536 ≤ (new + 65536 - c) % 65536 then
            t.get (Reg.HIF_RING_PTR_HOST x.ring) = new ∧ t.get Reg.HIF_DB_BAD_COUNT = s.get Reg.HIF_DB_BAD_COUNT
          else t.get (Reg.HIF_RING_PTR_HOST x.ring) = h ∧
            t.get Reg.HIF_DB_BAD_COUNT = min (s.get Reg.HIF_DB_BAD_COUNT + 1) 65535 ∧ t.get Reg.HIF_DB_BAD_RING = x.ring)) ∧
  (∀ (s : State) (slice k new : Nat) (x : RingRec), s.ready = true → new < 65536 → s.localRing slice k = some x → x.ring ≤ 1023 → x.type = 3 →
       exec (.doorbell slice k new) s = .next (
         if new = s.get (Reg.HIF_RING_PTR_HOST x.ring) then s
         else if (new + 65536 - s.get (Reg.HIF_RING_PTR_HOST x.ring)) % 65536 ≤
             (s.get (Reg.HIF_RING_PTR_MOD x.ring) + 65536 - s.get (Reg.HIF_RING_PTR_HOST x.ring)) % 65536
         then (s.put (Reg.HIF_RING_PTR_HOST x.ring) new).evqFlush x.ring 18
         else s.dbBad x.ring))

/-- MSIX_SIGNAL: when an occurrence takes a source flag from 0 to 1 and its MSIX_EN is 1, the vector is signalled: sent where MSI-X is
enabled, neither the function nor the vector is masked and Bus Master Enable is 1, and pending otherwise; with MSIX_EN 0 only the flag is
set; a flag that stays 1 signals nothing further (R62). EVT_SRC_WRITE: in BOOT the write is rejected with reason 3; a write of the routing
of a source with an owner that leaves MSIX_EN at 1 with a VECTOR outside the owner's vector set is rejected with reason 2; any other write outside BOOT
takes effect, and one that sets MSIX_EN while the flag is 1 signals at once (R62, R63). MSIX_VECTOR_UNMASK clears the mask of a vector, and a pending one
that can then be sent is sent and no longer pending (R62). Registers other than the flag and pending bit, and the rings and faults, stay where a vector is sent. -/
def Obligations.SourceFlagsSignalVectors : Prop :=
  (∀ (s : State) (i : Nat), i < 1472 → s.srcFlag i = true → exec (.msixSignal i) s = .next s) ∧
  (∀ (s : State) (i : Nat), i < 1472 → s.srcFlag i = false → s.flag (Reg.EVT_SRC_MSIX_EN i) = false →
       exec (.msixSignal i) s = .next (s.put (srcField i) 1)) ∧
  (∀ (s : State) (i : Nat), i < 1472 → s.srcFlag i = false → s.flag (Reg.EVT_SRC_MSIX_EN i) = true →
       s.msixOpen (s.get (Reg.EVT_SRC_VECTOR i)) = true → ∃ t, exec (.msixSignal i) s = .next t ∧
       t.srcFlag i = true ∧ t.outbox = .msix (s.get (Reg.EVT_SRC_VECTOR i)) :: s.outbox ∧ t.rings = s.rings ∧ t.faults = s.faults ∧
         (∀ a, a ≠ (srcField i).addr → t.rd a = s.rd a)) ∧
  (∀ (s : State) (i : Nat), i < 1472 → s.srcFlag i = false → s.flag (Reg.EVT_SRC_MSIX_EN i) = true →
       s.msixOpen (s.get (Reg.EVT_SRC_VECTOR i)) = false → ∃ t, exec (.msixSignal i) s = .next t ∧
       t.srcFlag i = true ∧ t.flag (msixPend (s.get (Reg.EVT_SRC_VECTOR i))) = true ∧ t.outbox = s.outbox) ∧
  (∀ (s : State) (i : Nat) (data : Word), i < 1472 → s.st = stBoot → exec (.evtSrcWrite i data) s = .next (s.reject 25 (0x1000 + 4 * i) 3)) ∧
  (∀ (s : State) (i : Nat) (data : Word), 192 ≤ i → i < 1472 → s.st ≠ stBoot → data.field 11 1 = 1 →
       s.vectorOk (s.srcOwner i) (data.field 0 11) = false → exec (.evtSrcWrite i data) s = .next (s.reject 25 (0x1000 + 4 * i) 2)) ∧
  (∀ (s a : State) (i : Nat) (data : Word), i < 1472 → s.st ≠ stBoot →
       i < 192 ∨ data.field 11 1 = 0 ∨ s.vectorOk (s.srcOwner i) (data.field 0 11) = true →
       a = ((s.put (Reg.EVT_SRC_ALERT_EN i) (data.field 12 1)).put (Reg.EVT_SRC_MSIX_EN i) (data.field 11 1)).put
         (Reg.EVT_SRC_VECTOR i) (data.field 0 11) →
       exec (.evtSrcWrite i data) s = .next (
         if s.flag (Reg.EVT_SRC_MSIX_EN i) = false ∧ data.field 11 1 = 1 ∧ a.srcFlag i = true then a.signal (data.field 0 11) else a)) ∧
  (∀ (s a : State) (v : Nat), v ≤ 2047 → a = s.put (msixMask v) 0 →
       exec (.msixVectorUnmask v) s = .next (
         if a.flag (msixPend v) = true ∧ a.msixOpen v = true then (a.put (msixPend v) 0).emit (.msix v) else a))

/-- RING_ENABLE of a ring that is not enabled, with a failing condition, records reason 3, 1 or 2 and leaves EN at 0, a quota used up with source 184;
where none fails the ring starts with both indices 0, and stops at once where Bus Master Enable is 0; of an enabled ring it writes the fields for the
next enable (R132, R140, R161). RING_DISABLE in BOOT is rejected with reason 3 and with a value out of range with reason 1; otherwise it gives the ring's quota back and completes
what the ring has taken (R141). RING_STOP_DONE, once everything taken is written back, shows ACTIVE 0, drops the record and sets the flag once more (R141,
R153). RING_DMA_ERROR stops a running ring, records its address and kind and sets source 181 (R149, R156). COAL_TIMER_EXPIRY sets the
ring's flag with the entries that wait (R153). -/
def Obligations.RingsStartAndStop : Prop :=
  (∀ (s : State) (r data : Nat), r ≤ 1023 → s.flag (Reg.HIF_RING_CFG_EN r) = false → s.enableReason r data = 1 ∨ s.enableReason r data = 3 →
       exec (.ringEnable r data) s = .next (s.reject 2 (0x1008 + 0x10 * r) (s.enableReason r data))) ∧
  (∀ (s : State) (r data k : Nat), r ≤ 1023 → s.flag (Reg.HIF_RING_CFG_EN r) = false → s.enableReason r data = 2 → k = data / 2 ^ 16 % 256 →
       exec (.ringEnable r data) s = .next ((s.reject 2 (0x1008 + 0x10 * r) 2).eventIf
         (decide (s.get (Reg.SLC_SLICE_QA_RINGS k) ≤ s.get (useOf (Reg.SLC_SLICE_QA_RINGS k)))) 184)) ∧
  (∀ (s a : State) (r data : Nat) (x : RingRec), r ≤ 1023 → s.flag (Reg.HIF_RING_CFG_EN r) = false → s.enableReason r data = 0xFF →
       x = { ring := r, slice := data / 2 ^ 16 % 256, type := data / 2 ^ 28 % 8, log2size := data / 2 ^ 24 % 16,
             local' := s.get (Reg.HIF_RING_BASE_LO_LOCAL r), tc := data / 2 ^ 13 % 8, mark := data % 4096 } →
       a = (((s.ringOf r).elim s s.haltRing).wr (0x21008 + 0x10 * r)
         (BitVec.ofNat 32 ((data % 2 ^ 31 - data % 2 ^ 13 + data % 2 ^ 12) + 2 ^ 31))).startRing x →
       exec (.ringEnable r data) s = .next (if a.flag Reg.HIF_LINK_BME then a else (a.dmaStop x a.free a.free).drawn)) ∧
  (∀ (s : State) (r data : Nat), r ≤ 1023 → s.flag (Reg.HIF_RING_CFG_EN r) = true → s.st ≠ stBoot → cfgBad data = false →
       exec (.ringEnable r data) s = .next (s.wr (0x21008 + 0x10 * r)
         (BitVec.ofNat 32 ((data % 2 ^ 31 - data % 2 ^ 13 + data % 2 ^ 12) + 2 ^ 31)))) ∧
  (∀ (s : State) (r data : Nat), r ≤ 1023 →
       (s.st = stBoot → exec (.ringDisable r data) s = .next (s.reject 2 (0x1008 + 0x10 * r) 3)) ∧
       (s.st ≠ stBoot → cfgBad data = true → exec (.ringDisable r data) s = .next (s.reject 2 (0x1008 + 0x10 * r) 1))) ∧
  (∀ (s : State) (r data : Nat) (x y : RingRec) (s1 s2 : State), r ≤ 1023 → s.st ≠ stBoot → cfgBad data = false → s.flag (Reg.HIF_RING_CFG_EN r) = true →
       s1 = s.wr (0x21008 + 0x10 * r) (BitVec.ofNat 32 (data % 2 ^ 31 - data % 2 ^ 13 + data % 2 ^ 12)) → s1.ringOf r = some x →
       s2 = (((s1.give (Reg.SLC_SLICE_QA_RINGS x.slice) 1).poolRings (-1)).put Reg.HIF_RINGS_ENABLED (s1.get Reg.HIF_RINGS_ENABLED - 1)).setRing
         { x with stopping := true } → s2.ringOf r = some y → exec (.ringDisable r data) s = .next (s2.stopTaken y)) ∧
  (∀ (s a : State) (r : Nat) (x : RingRec), s.ringOf r = some x → x.stopping = true → s.flag (Reg.HIF_RING_CFG_EN r) = false →
       x.taken = [] → x.cur = none → a = { s with rings := dropKey RingRec.ring r s.rings } →
       exec (.ringStopDone r) s = .next ((a.wr (0x25004 + 8 * r) (a.rd (0x25004 + 8 * r) &&& 8)).event (192 + r))) ∧
  (∀ (s : State) (r kind addr : Nat) (x : RingRec), s.ringOf r = some x → s.ringRuns r = true →
       exec (.ringDmaError r kind addr) s = .next (s.dmaStop x kind addr)) ∧
  (∀ (s : State) (r : Nat) (x : RingRec), s.ringOf r = some x → 0 < x.coal → s.get (Reg.HIF_RING_COAL_USEC r) ≠ 0 → s.srcFlag (192 + r) = false →
       exec (.coalTimerExpiry r) s = .next ((s.setRing { x with coal := 0 }).event (192 + r)))

/-- TX_FETCH of a ring that gives its entries takes the frame, up to its EOF: its record, the consumer index and INFLIGHT; a frame with a bad
descriptor completes with its status, any other enters the switch (R137, R142, R143, R162). RX_PLACE gives the next frame of the host port to the RX
ring of its slice and class, and counts one without a ring; a frame that an injection gave back goes first (R144, R145, R699). CMD_FETCH takes the next entry of a CMD or
REC ring without a command in progress; an unsupported VERSION completes it with VERSION, an opcode that is not listed, or not for
the ring's type, with PARAM, and a listed command is then the ring's current one (R70, R146, R148). EVQ_WRITE offers the oldest
posted entry to the running EVQ rings of its slice whose KINDMASK, as read at the enable, selects its KIND (R140, R147). -/
def Obligations.RingEntriesAreServed : Prop :=
  (∀ (s a : State) (r now : Nat) (given es : List TxEntry) (b luck : List Nat) (x : RingRec), s.ringOf r = some x → es = txEntries given →
       s.txReady x es.length = true → a = s.advance (now * nsUnit) →
       (a.txRefused x es = none → exec (.txFetch r given b now luck) s = .next (
         (a.txTake x es.length none).txGo x (txFrame x es b now a.swc.nextId) b (es.headD ⟨0, 0, 0, 0, 0, 0⟩).port now luck)) ∧
       (∀ st, a.txRefused x es = some st → exec (.txFetch r given b now luck) s = .next (
         (a.txTake x es.length (some st)).txFlush r (x.taken.length + 1)))) ∧
  (∀ (s a s1 : State) (lens luck : List Nat) (now : Nat) (c : CoreCopy) (f : CoreFrame), a = s.advance (now * nsUnit) → a.swc.fij.find? (fijHost now) = none →
       a.nextCopy 12 now = some (c, s1) → s1.coreFrame c.frame = some f →
       (∀ x, s1.rxRing f.slice f.tc = some x → exec (.rxPlace lens now luck) s = .next (s1.rxGo x f c lens now luck)) ∧
       (s1.rxRing f.slice f.tc = none → exec (.rxPlace lens now luck) s = .next ((s1.rxNoRing f.slice).releaseCopy c none))) ∧
  (∀ (s a : State) (lens luck : List Nat) (now : Nat) (h : FijHeld), a = s.advance (now * nsUnit) → a.swc.fij.find? (fijHost now) = some h →
       exec (.rxPlace lens now luck) s = .next (a.rxHeld h lens)) ∧
  (∀ (s a : State) (r opcode version m : Nat) (x : RingRec), s.ringOf r = some x → x.type = 2 ∨ x.type = 4 → s.ringRuns r = true → x.stopping = false → x.frozen = false →
       x.cur = none → s.outstanding x ≠ 0 → s.ready = true → m = s.get (Reg.HIF_RING_PTR_MOD r) →
       a = ((s.setRing { x with cur := some opcode }).put (Reg.HIF_RING_PTR_MOD r) ((m + 1) % 65536)).put
         (Reg.HIF_RING_RSTAT_INFLIGHT r) (s.get (Reg.HIF_RING_RSTAT_INFLIGHT r) + 1) →
       (version = 1 → opcodes.contains opcode = true → (opcode = 0x90 ↔ x.type = 4) → exec (.cmdFetch r opcode version) s = .next a) ∧
       (version ≠ 1 → exec (.cmdFetch r opcode version) s = .next (a.complete ⟨x.slice, some r, version⟩ .version 0 0)) ∧
       (version = 1 → opcodes.contains opcode = false ∨ ¬(opcode = 0x90 ↔ x.type = 4) →
         exec (.cmdFetch r opcode version) s = .next (a.complete ⟨x.slice, some r, version⟩ .param 0 0))) ∧
  (∀ (s a : State) (i : EvqItem) (l : List EvqItem), s.evqPosted = i :: l → a = { s with evqPosted := l } →
       exec .evqWrite s = .next ((a.rings.filter fun x => x.type == 3 && x.slice == i.slice && !x.stopping && !x.frozen && a.ringRuns x.ring &&
         (x.mark >>> i.kind) % 2 == 1).foldl (fun s x => s.evqOffer x.ring i) a))

/-- PERST and FLR_D3HOT, with the main domain powered, stop every ring without a write-back, give the quota of the enabled ones back and clear
their EN, return PTR, RSTAT and CNT of every ring and the MSI-X structures to their reset values, clear BME and PASID_EN, set
source 183 and show RESET_CAUSE.HOST (R115, R117, R131, R156). BUS_MASTER_DISABLE stops every running ring as on a DMA error, and a ring that was stopping already
drops what it holds (R132, R149; the latter is the model's choice, assumption 73); BUS_MASTER_ENABLE shows the bits written and sends the vectors that wait (R62, R132). PASID_DISABLE stops the rings of slices
other than 0, with kind 5, and their mailboxes (R132, R170). PCIE_LINK_DOWN: a link that does not train within its limit raises 0x0202 with class F1
(R157). PCIE_LINK_CHANGE: a change of width or speed sets source 180, and a trained link clears 0x0202 (R156, R157). -/
def Obligations.HostLinkEvents : Prop :=
  (∀ (s a b : State), s.st ≠ stOff → s.st ≠ stVigil →
       a = s.rings.foldl (fun s x => ((if s.flag (Reg.HIF_RING_CFG_EN x.ring) then (s.give (Reg.SLC_SLICE_QA_RINGS x.slice) 1).poolRings (-1)
         else s).haltRing x).put (Reg.HIF_RING_CFG_EN x.ring) 0) s →
       b = ((((a.ringsCleared.msixReset.put Reg.HIF_RINGS_ENABLED 0).put Reg.HIF_LINK_BME 0).put Reg.HIF_LINK_PASID_EN 0).event 183).put
         Reg.GLB_RESET_CAUSE_HOST 1 →
       exec .perst s = .next b ∧ exec .flrD3hot s = .next b) ∧
  (∀ (s a b : State), a = s.put Reg.HIF_LINK_BME 0 → b = a.runningRings.foldl (fun s x => (s.dmaStop x s.free s.free).drawn) a →
       exec .busMasterDisable s = .next (
         (b.rings.filter fun x => x.stopping && !b.flag (Reg.HIF_RING_CFG_EN x.ring)).foldl State.haltRing b)) ∧
  (∀ (s : State), exec (.busMasterEnable true) s = .next ((s.put Reg.HIF_LINK_BME 1).put Reg.HIF_LINK_PASID_EN 1).flushAll) ∧
  (∀ (s : State), exec (.busMasterEnable false) s = .next (s.put Reg.HIF_LINK_BME 1).flushAll) ∧
  (∀ (s a b : State), s.flag Reg.HIF_LINK_PASID_EN = true → a = s.put Reg.HIF_LINK_PASID_EN 0 →
       b = (a.runningRings.filter fun x => x.slice ≠ 0).foldl (fun s x => (s.dmaStop x 5 s.free).drawn) a →
       exec .pasidDisable s = .next (b.mbs.foldl (fun s m => if m.slice = 0 then s else s.mbStop m.slice) b)) ∧
  (∀ (s : State), s.get Reg.HIF_LINK_WIDTH = 0 → s.st ≠ stOff → s.st ≠ stVigil → exec .pcieLinkDown s = .next (s.raise1 0x0202 1 0)) ∧
  (∀ (s a : State) (width speed : Nat), width ≤ 15 → speed ≤ 15 → a = (s.put Reg.HIF_LINK_WIDTH width).put Reg.HIF_LINK_SPEED speed →
       (s.get Reg.HIF_LINK_WIDTH ≠ width ∨ s.get Reg.HIF_LINK_SPEED ≠ speed → width ≠ 0 →
         exec (.pcieLinkChange width speed) s = .next ((a.event 180).clearFault 0x0202 0)) ∧
       (s.get Reg.HIF_LINK_WIDTH ≠ width ∨ s.get Reg.HIF_LINK_SPEED ≠ speed → width = 0 →
         exec (.pcieLinkChange width speed) s = .next (a.event 180)))

/-- A command that is taken and not complete holds its ring (R146). KEY_STAGE of a record that passes every check of R641, for a slot that is empty, or
held or staged for its own issuer, whose group is not locked, within the quota and the 16 stages, holds the stage, shows STAGED without VERIFIED,
journals it, sets source 152 and answers the low word of the KEYID; an empty general slot with no stage counts against the quota (R635, R639–R641, R657). KEY_VERIFY with a proof that holds verifies the stage; with one that fails it discards the
stage and answers INTEGRITY; with method PEER of a key with verification among its uses it waits 60 s for the partner (R642, R657). KEY_PEER_PROOF, once it has arrived, verifies the
stage and completes with OK; 60 s after the command the stage is discarded and it completes with TIMEOUT (R642). KEY_STAGE_EXPIRY discards a stage that is
older than STAGE_TTL_S and is not being committed (R642). KEY_COMMIT of a verified stage queues the blob of the next generation, and of a held slot with destroy discards its stage and queues the overwrite of its
blob; each shows OP 1 (R643, R644). DESTROY_RETRY that verifies completes the destruction that waits for it: of a zeroize (8), of a KEY_COMMIT (6), or of an
earlier generation (5), and clears 0x1403 of a slot with nothing left to retry (R645, R658). -/
def Obligations.KeysStageVerifyCommit : Prop :=
  (∀ (s a b c : State) (q : Req) (r : KeyRecord) (gen kid : Nat) (g : KeyStaged), s.takes 0x70 q → r.version = 1 → stageParam r = false →
       q.slice = polOwner r.policy → s.keySt r.slot = keyEmpty ∨ s.get (Reg.KEY_SLOT_POLICY_OWNER r.slot) = q.slice →
       (∀ h, s.stageOf r.slot = some h → h.slice = q.slice) → 16 ≤ r.slot ∨ q.slice = 0 →
       r.mode ≠ 2 ∨ (s.keyOwn r.wrapSlot q.slice = true ∧ s.keyUsable r.wrapSlot q.slice 6 = true) → s.notIn stRun = false →
       (s.get Reg.KEY_STATUS_LOCKGRP >>> (if s.keySt r.slot = keyEmpty then polGroup r.policy else s.get (Reg.KEY_SLOT_POLICY_GROUP r.slot))) % 2 = 0 →
       s.stageOf r.slot ≠ none ∨ ((s.keySt r.slot ≠ keyEmpty ∨ r.slot < 16 ∨ s.overQuota (Reg.SLC_SLICE_QD_KEYS q.slice) 1 = false) ∧
         s.keys.stages.length < 16) →
       s.keyBusy = false → r.mode < 2 ∨ r.engineOk = true →
       gen = s.get (Reg.KEY_SLOT_STATE_GEN r.slot) + 1 → kid = s.keyId r.slot gen r.policy r.uses r.material →
       g = { slot := r.slot, mode := r.mode, policy := r.policy, uses := r.uses, kid := kid, slice := q.slice, at' := s.ns } →
       a = (if s.stageOf r.slot = none ∧ s.keySt r.slot = keyEmpty then s.keyTake r.slot q.slice else s) →
       b = { a with keys := { a.keys with stages := setKey KeyStaged.slot g a.keys.stages } } →
       c = ((b.put (Reg.KEY_SLOT_STATE_STAGED r.slot) 1).put (Reg.KEY_SLOT_STATE_VERIFIED r.slot) 0).put Reg.KEY_STATUS_STAGED b.keys.stages.length →
       exec (.keyStage q r) s = .next (State.holdRing (
         ((c.keyJournal 1 0 r.slot gen q.slice kid).event 152).complete q .ok (kid % 2 ^ 32) 0) 0x70 q)) ∧
  (∀ (s : State) (q : Req) (k len : Nat) (ok : Bool) (g : KeyStaged), s.takes 0x71 q → k ≤ 1023 → s.stageOf k = some g → g.slice = q.slice →
       len = (if polType g.policy = 1 then 160 else 112) → s.notIn stRun = false → s.keyBusy = false → (s.multi.any fun m => m.opcode == opVerify) = false →
       exec (.keyVerify q k 0 len ok) s = .next (State.holdRing (
         if ok then (s.stageVerified k).complete q .ok 0 0 else (s.discardStage k 2).complete q .integrity 0 0) 0x71 q)) ∧
  (∀ (s a : State) (q : Req) (k len : Nat) (ok : Bool) (g : KeyStaged), s.takes 0x71 q → k ≤ 1023 → s.stageOf k = some g → g.slice = q.slice →
       useMask g.uses % 2 = 1 → s.notIn stRun = false → s.keyBusy = false → (s.multi.any fun m => m.opcode == opVerify) = false →
       a = { s with multi := s.multi ++ [⟨q, opVerify, k, s.ns + 60000000000⟩] } →
       exec (.keyVerify q k 1 len ok) s = .next (State.holdRing (a.put Reg.KEY_STATUS_OP 2) 0x71 q)) ∧
  (∀ (s a : State) (k now : Nat) (m : MultiCmd), (s.multi.find? fun m => m.opcode == opVerify && m.arg == k) = some m → a = s.advance (now * nsUnit) →
       exec (.keyPeerProof k true now) s = .next ((a.stageVerified k).endPeer k .ok) ∧
       (m.deadline ≤ now → exec (.keyPeerProof k false now) s = .next ((a.discardStage k 2).endPeer k .timeout))) ∧
  (∀ (s a : State) (q : Req) (k gen : Nat) (g : KeyStaged), s.takes 0x72 q → k ≤ 1023 → s.stageOf k = some g → g.slice = q.slice → g.verified = true →
       s.keySt k = keyEmpty ∨ s.get (Reg.KEY_SLOT_POLICY_OWNER k) = q.slice → s.notIn stRun = false → s.keyBusy = false →
       gen = s.get (Reg.KEY_SLOT_STATE_GEN k) → a = s.queueWrite (.keyBlob k (gen + 1) [g.policy, g.uses, g.kid] 1) →
       exec (.keyCommit q k false) s = .next (State.holdRing (
         State.put { a with keys := { a.keys with op := some { req := q, kind := 1, slot := k, gen := gen + 1 } } } Reg.KEY_STATUS_OP 1) 0x72 q)) ∧
  (∀ (s a : State) (q : Req) (k gen : Nat), s.takes 0x72 q → 2 ≤ k → k ≤ 1023 → s.keySt k ≠ keyEmpty →
       q.slice = 0 ∨ ((∀ g, s.stageOf k = some g → g.slice = q.slice) ∧ s.get (Reg.KEY_SLOT_POLICY_OWNER k) = q.slice) → s.notIn stRun = false →
       s.keyBusy = false → gen = s.get (Reg.KEY_SLOT_STATE_GEN k) → a = (s.discardStage k 0).destroyBlob k gen 6 →
       exec (.keyCommit q k true) s = .next (State.holdRing (
         State.put { a with keys := { a.keys with op := some { req := q, kind := 4, slot := k, gen := gen } } } Reg.KEY_STATUS_OP 1) 0x72 q)) ∧
  (∀ (s : State) (k now : Nat) (g : KeyStaged), s.stageOf k = some g → g.at' + s.get Reg.KEY_CFG_STAGE_TTL_S * 1000000000 ≤ now →
       (s.keys.op.any fun o => o.slot == k && o.kind == 1) = false →
       exec (.keyStageExpiry k now) s = .next (((s.advance (now * nsUnit)).discardStage k 1).endPeer k .timeout)) ∧
  (∀ (s a b : State) (k gen step : Nat), s.keys.retry.contains (k, gen) = true →
       a = { s with keys := { s.keys with retry := s.keys.retry.filter fun (x : Nat × Nat) => !(x.1 == k && x.2 == gen) } } →
       step = (if a.keys.op.any fun o => o.kind == 4 && o.slot == k && o.gen == gen then 6 else if a.keys.zero.contains (k, gen) then 8 else 5) →
       b = a.destroyed k gen step →
       exec (.destroyRetry k gen true) s = .next (if b.keys.retry.any fun x => x.1 == k then b else b.clearFault 0x1403 k))

/-- A command that is taken and not complete holds its ring (R146). NONCE_READ draws a new nonce at its instant and gives its first word (R649). SERVICE_ENTER by the manager with a proof
that verifies over the live nonce, or of a blank module, withdraws the nonce and moves from SHADOW or SOLO to SERVICE with source 10; from SOLO without keep it drops custody,
with keep it shows KEEPCUST (R113, R127, R649). LIFECYCLE_ADVANCE by the manager in SERVICE to the next state, or to the last one, with the serial's low byte,
journals the pending move and shows OP 3 (R648). TAMPER_ACTIVE of a source that was not active shows and counts it and sets sources 160 and its own; a masked one goes no further, any other is latched, and
each group takes its response, or in BOOT the boot stops (R111, R651, R652, R660). TAMPER_INACTIVE clears it, for source 3 with source 165 (R651, R660). TAMPER_CLEAR outside SERVICE is rejected with reason 3, while a source is active with
reason 1; otherwise it clears the latched sources, the record, LATCHED and LOCKGRP, sets source 163 and clears 0x1501 and
0x1502 (R655). TAMPER_LOOP_TEST counts mismatches, shows the die temperature, raises 0x1503 for each failed self-check and clears it for the others, and tests the five sources (R651, R661). -/
def Obligations.ServiceLifecycleAndTamper : Prop :=
  (∀ (s a : State) (now : Nat), a = (s.advance (now * nsUnit)).drawNonce →
       exec (.nonceRead now) s = .next (a.emit (.regRead 0x140040 (a.get (Reg.KEY_NONCE_BYTES 0))))) ∧
  (∀ (s a : State) (q : Req) (t0 : Nat) (keep : Bool), s.reaches 0x22 q = true → q.version = 1 → q.slice = 0 → s.st = stShadow ∨ s.st = stSolo →
       s.get Reg.KEY_STATUS_LIFECYCLE ≠ 0 → s.keyUsable 3 0 7 = true → s.keys.nonceAt = some t0 → s.ns < t0 + 300000000000 →
       a = { s with keys := { s.keys with nonceAt := none, console := q.ring.isNone } } →
       exec (.serviceEnter q 96 keep true) s = .next (State.holdRing (
         ((if s.st = stSolo ∧ keep = false then a.dropCustody else a).putFlag Reg.GLB_STATUS_KEEPCUST (s.st == stSolo && keep)).serviceEvent.setState
           stService 0x22 |>.complete q .ok 0 0) 0x22 q)) ∧
  (∀ (s a : State) (q : Req) (keep ok : Bool), s.reaches 0x22 q = true → q.version = 1 → q.slice = 0 → s.st = stShadow →
       s.get Reg.KEY_STATUS_LIFECYCLE = 0 → a = { s with keys := { s.keys with nonceAt := none, console := q.ring.isNone } } →
       exec (.serviceEnter q 0 keep ok) s = .next (State.holdRing (
         (a.putFlag Reg.GLB_STATUS_KEEPCUST false).serviceEvent.setState stService 0x22 |>.complete q .ok 0 0) 0x22 q)) ∧
  (∀ (s a : State) (q : Req) (target : Nat), s.takes 0x73 q → q.slice = 0 → s.st = stService →
       (target ≤ 4 ∧ target = s.get Reg.KEY_STATUS_LIFECYCLE + 1) ∨ target = 4 → s.keyBusy = false →
       a = { s with keys := { s.keys with op := some { req := q, kind := 3, slot := target, gen := 0 } } } →
       exec (.lifecycleAdvance q target (Config.serialNumber % 256)) s = .next (State.holdRing (
         (a.put Reg.KEY_STATUS_OP 3).keyJournal 6 target 0xFFFF 0 q.slice 0) 0x73 q)) ∧
  (∀ (s a b : State) (src sub : Nat), 1 ≤ src → src ≤ 7 → src ≤ 5 ∨ s.mainAbsent = false → (s.get Reg.TMP_STATUS_ACTIVE >>> src) % 2 = 0 →
       a = (((s.put Reg.TMP_STATUS_ACTIVE (s.get Reg.TMP_STATUS_ACTIVE + 2 ^ src)).count Reg.TMP_EVENTS_COUNT).event 160).event (tampEvent src) →
       b = a.tampLatch src sub →
       exec (.tamperActive src sub) s = .next (
         if (a.get Reg.TMP_MASK_SRC >>> (src - 1)) % 2 = 1 then a.noteOpen 21
         else if b.ready then b.tampRespond src
         else if b.st = stBoot then b.tamperBoot src
         else b)) ∧
  (∀ (s : State) (src : Nat), 1 ≤ src → src ≤ 7 → (s.get Reg.TMP_STATUS_ACTIVE >>> src) % 2 = 1 → exec (.tamperInactive src) s = .next (
       (s.put Reg.TMP_STATUS_ACTIVE (s.get Reg.TMP_STATUS_ACTIVE - 2 ^ src)).eventIf (src == 3) 165)) ∧
  (∀ (s : State), s.st ≠ stService → exec .tamperClear s = .next (s.reject 21 0x10 3)) ∧
  (∀ (s : State), s.st = stService → s.get Reg.TMP_STATUS_ACTIVE ≠ 0 → exec .tamperClear s = .next (s.reject 21 0x10 1)) ∧
  (∀ (s a b : State), s.st = stService → s.get Reg.TMP_STATUS_ACTIVE = 0 →
       a = (((s.put Reg.TMP_LATCHSRC_SRC 0).put Reg.RTC_TAMPER_VALID 0).put Reg.TMP_STATUS_LATCHED 0).put Reg.KEY_STATUS_LOCKGRP 0 →
       b = { a with boot := { a.boot with handled := 0 } } →
       exec .tamperClear s = .next ((((b.put Reg.TMP_STATUS_LOCKGRP 0).event 163).clearCode 0x1501).clearCode 0x1502)) ∧
  (∀ (s a b c : State) (bad0 bad1 caseOpen : Bool) (temp : Int) (sub : Nat) (failed : List Nat),
       a = (if bad0 then s.count Reg.TMP_LOOPERR_LOOP0 else s) →
       b = (if bad1 then a.count Reg.TMP_LOOPERR_LOOP1 else a).put Reg.TMP_DIE_TEMP (unsigned 16 temp) →
       c = [1, 2, 3].foldl (fun s i => if failed.contains i then s.raiseAt 0x1503 2 i i else s.clearFault 0x1503 i) b →
       exec (.tamperLoopTest bad0 bad1 ⟨caseOpen, temp, sub⟩ failed) s = .next (
         ((((c.tampTest 1 bad0 sub).tampTest 2 bad1 sub).tampTest 3 caseOpen sub).tampTest 4 (decide (temp < -50 * 128)) sub).tampTest 5
           (decide (110 * 128 < temp)) sub))

/-- A command that is taken and not complete holds its ring (R146). CLE_LOAD in STOP of a program whose sizes, code, digest and signature are right, with a usable key
of the slice for code signing, stores it and answers the low word of its digest with source 109 (R490, R491). CLE_START in STOP of a stored program with EN 1, and CLE_STOP outside STOP, wait for the next
boundary; CLE_STOP in STOP with nothing waiting completes at once with OK and the tick (R490). CLE_WRITE with an allowed target outside FAULTED waits for its cycle while no other waits (R493).
FORCE_SET by the manager in SERVICE of an existing input or output bit, of which one of at most 256 entries is left or is its own, and FORCE_CLEAR, wait for the next boundary (R496). -/
def Obligations.LogicEngineCommands : Prop :=
  (∀ (s : State) (q : Req) (len key : Nat) (img : CleImage), s.takes 0x50 q → img.version = 1 → cleSizesOk img = true → img.length = len →
       img.code.all (cleInstrOk img) = true → s.clePriv q.slice = false → s.keyOwn key q.slice = true → s.keyHasUse key 3 = true →
       s.notIn stRun = false → s.cleSt = cleStop → img.digestOk = true → img.sigOk = true → s.keyUsable key q.slice 3 = true →
       exec (.cleLoad q len key img) s = .next (State.holdRing (((s.loadProgram img).event 109).complete q .ok (img.digest % 2 ^ 32) 0) 0x50 q)) ∧
  (∀ (s : State) (q : Req) (cold : Bool), s.takes 0x51 q → s.clePriv q.slice = false → s.notIn stRun = false → s.cleSt = cleStop → s.cle.prog ≠ none →
       s.flag Reg.CLE_CTRL_EN = true →
       exec (.cleStart q cold) s = .next (State.holdRing { s with cle := { s.cle with bound := s.cle.bound ++ [(q, true, cold)] } } 0x51 q)) ∧
  (∀ (s : State) (q : Req), s.takes 0x52 q → s.clePriv q.slice = false → s.notIn stRun = false →
       (s.cleSt = cleStop → s.cle.bound = [] → exec (.cleStop q) s = .next (State.holdRing (s.complete q .ok (s.tickNow % 2 ^ 32) 0) 0x52 q)) ∧
       (s.cleSt ≠ cleStop ∨ s.cle.bound ≠ [] → exec (.cleStop q) s = .next (
         State.holdRing { s with cle := { s.cle with bound := s.cle.bound ++ [(q, false, false)] } } 0x52 q))) ∧
  (∀ (s : State) (q : Req) (target value at' : Nat), s.takes 0x53 q → s.writeTarget target = true → s.clePriv q.slice = false → s.notIn stRun = false →
       s.cleSt ≠ cleFaulted → s.cle.write = none →
       exec (.cleWrite q target value at') s = .next (State.holdRing { s with cle := { s.cle with write := some (q, target, value % 2 ^ 32, at') } } 0x53 q)) ∧
  (∀ (s : State) (q : Req) (addr : Nat) (value : Bool) (l : List (Nat × Bool)), s.takes 0x30 q →
       addr < 8 ∨ (0x100 ≤ addr ∧ addr < 0x2100) ∨ (0x4000 ≤ addr ∧ addr < 0xC000) ∨ (2 ^ 20 ≤ addr ∧ addr < 2 ^ 20 + 8192) →
       q.slice = 0 → s.st = stService → l = forcesAfter s.cle.forces s.cle.forceOps → l.length < 256 ∨ (l.any fun x => x.1 == addr) = true →
       exec (.forceSet q addr value) s = .next (State.holdRing { s with cle := { s.cle with forceOps := s.cle.forceOps ++ [(q, true, addr, value)] } } 0x30 q)) ∧
  (∀ (s : State) (q : Req) (addr : Nat), s.takes 0x31 q → q.slice = 0 → s.st = stService →
       exec (.forceClear q addr) s = .next (State.holdRing { s with cle := { s.cle with forceOps := s.cle.forceOps ++ [(q, false, addr, false)] } } 0x31 q))

/-- An instruction advances the program counter and changes only what it names: loads and the logical operators BA alone; the
store, set and reset instructions the one bit; a bracket opens by saving BA and closes by joining it; with 16 brackets open
one more stops the cycle with cause 3, and a closing without an open one with cause 4. -/
def Obligations.LogicInstructionsCompute : Prop :=
  (∀ (c : Cle) (f : Nat) (fs : List (Nat × Bool)) (x op : Nat), 1 ≤ op → op ≤ 0xB → ∃ b, cleEffect c f fs op x = ({ c with pc := c.pc + 1, ba := b }, 0)) ∧
  (∀ (c : Cle) (f : Nat) (fs : List (Nat × Bool)) (x : Nat), (cleEffect c f fs 1 x).1.ba = cleRead c f fs x ∧
       (cleEffect c f fs 3 x).1.ba = (c.ba && cleRead c f fs x) ∧ (cleEffect c f fs 5 x).1.ba = (c.ba || cleRead c f fs x) ∧
       (cleEffect c f fs 7 x).1.ba = (c.ba != cleRead c f fs x) ∧ (cleEffect c f fs 9 x).1.ba = !c.ba) ∧
  (∀ (c : Cle) (f : Nat) (fs : List (Nat × Bool)) (a j : Nat), a < 32 * c.wq.length → a < 2 ^ 20 →
       bitAt (cleEffect c f fs 0x20 (2 ^ 20 + a)).1.wq j = if j = a then c.ba else bitAt c.wq j) ∧
  (∀ (c : Cle) (f : Nat) (fs : List (Nat × Bool)) (x op : Nat), 0x10 ≤ op → op ≤ 0x14 → 16 ≤ c.stack.length → cleEffect c f fs op x = (c, 3)) ∧
  (∀ (c : Cle) (f : Nat) (fs : List (Nat × Bool)) (x op : Nat), 0x10 ≤ op → op ≤ 0x14 → c.stack.length < 16 →
       (cleEffect c f fs op x).1.stack = (c.ba, op - 0x10) :: c.stack ∧ (cleEffect c f fs op x).1.q = c.q ∧ (cleEffect c f fs op x).1.m = c.m) ∧
  (∀ (c : Cle) (f : Nat) (fs : List (Nat × Bool)) (x : Nat), c.stack = [] → cleEffect c f fs 0x1F x = (c, 4)) ∧
  (∀ (c : Cle) (f : Nat) (fs : List (Nat × Bool)) (x k : Nat) (b : Bool) (l : List (Bool × Nat)), c.stack = (b, k) :: l →
       (cleEffect c f fs 0x1F x).1.ba = cleJoin b k c.ba ∧ (cleEffect c f fs 0x1F x).1.stack = l)

/-- An addend of a phase goes in whole units to the phase's register and to the total, so that where the seven totals of a
point are the sums of its phase registers modulo 2^64, they are so after it; the other points keep their registers and Q6
finds nothing. -/
def Obligations.TotalsAreTheSumsOfTheirPhases : Prop :=
  (∀ (s : State) (p φ r x : Nat), 1 ≤ φ → φ ≤ 3 → r < 7 → pointSums (s.point p) → pointSums ((s.addUnits p φ r x).point p)) ∧
  (∀ (s : State) (p k φ r x : Nat), 1 ≤ φ → φ ≤ 3 → r < 7 → k ≠ p → ((s.addUnits p φ r x).point k).regs = (s.point k).regs) ∧
  (∀ (x : NrgPoint), pointSums x → auditPoint x = [])

/-- With NRG.CTRL.EN at 1, NRG_WINDOW_END ends a window that is due, and NRG_TICK enters the sample of a tick of an enabled point above its last one, after
a window that is due; a point that is not enabled only takes its configuration (R557–R560, R562). ACC_SNAPSHOT of a point or meter shows its registers, the last tick of its last window or
its last step, and READY; of an index that does not exist it is rejected with reason 1, and in BOOT with reason 3 (R565). VIGIL_SECOND in VIGIL adds a second of N
samples to the channels of the mask taken at entry to VIGIL; the mean square of a channel above that of the threshold starts a record of unaccounted flow, with the power event of R573, and
ten seconds without one end it; the record keeps the largest root mean square with its channel (R572, R573). -/
def Obligations.EnergyWindowsAndTicks : Prop :=
  (∀ (s : State) (p : Nat), s.flag Reg.NRG_CTRL_EN = true → (s.point p).due = true → exec (.nrgWindowEnd p) s = .next (s.windowEnd p)) ∧
  (∀ (s a : State) (p n : Nat), s.flag Reg.NRG_CTRL_EN = true → s.tg.running = true → p ≤ 129 → (∀ k, (s.point p).last = some k → k < n) →
       a = (if (s.point p).due then s.windowEnd p else s).ptLoad p n →
       exec (.nrgTick p n) s = .next (if ptEn (a.point p).cfg then a.ptTick p n else a)) ∧
  (∀ (s a b : State) (p : Nat), s.st ≠ stBoot → p ≤ 129 → a = (s.putFlag Reg.NRG_ACC_SEL_HEAT false).put Reg.NRG_ACC_SEL_INDEX p →
       b = (a.putAcc (s.point p).regs).put Reg.NRG_ACC_WIN_TICK (s.point p).winEnd →
       exec (.accSnapshot false p) s = .next (b.put Reg.NRG_ACC_STAT_READY 1)) ∧
  (∀ (s a b : State) (h : Nat) (x : HeatMeter), s.st ≠ stBoot → h ≤ 63 → x = s.heatMeter h → a = (s.putFlag Reg.NRG_ACC_SEL_HEAT true).put Reg.NRG_ACC_SEL_INDEX h →
       b = (a.putAcc [x.heat, x.cold, x.vol, x.errS]).put Reg.NRG_ACC_WIN_TICK x.step →
       exec (.accSnapshot true h) s = .next (b.put Reg.NRG_ACC_STAT_READY 1)) ∧
  (∀ (s : State) (i : Nat) (heat : Bool), s.st ≠ stBoot → 130 ≤ i ∨ (heat = true ∧ 64 ≤ i) → exec (.accSnapshot heat i) s = .next (s.reject 17 0x40 1)) ∧
  (∀ (s : State) (i : Nat) (heat : Bool), s.st = stBoot → exec (.accSnapshot heat i) s = .next (s.reject 17 0x40 3)) ∧
  (∀ (s a : State) (second n calm : Nat) (sums on : List (Nat × Nat × Nat × Nat)) (v : VigilState) (chans : List VigChan) (overs : Bool)
      (rms : List (Nat × Nat)) (top : Nat × Nat) (flow : Option (Nat × Option Nat × Nat × Nat)), s.st = stVigil → 1 ≤ n → v = s.nrg.vig →
       on = sums.filter (fun x => decide (x.1 < 8) && (v.mask >>> x.1) % 2 == 1) →
       chans = on.foldl (fun l x => setKey VigChan.chan
         (vigAdd (v.ks.getD x.1 0) n ((findKey VigChan.chan x.1 l).getD { chan := x.1 }) x.2.1 x.2.2.1) l) v.chans →
       overs = on.any (fun x => decide (v.thresh * v.thresh * 2 ^ 32 * n < x.2.2.2 * v.ks.getD x.1 0 ^ 2)) →
       rms = on.map (fun x => (isqrtWide (x.2.2.2 * v.ks.getD x.1 0 ^ 2 / (2 ^ 32 * n)), x.1)) →
       top = rms.foldl (fun b x => if b.1 < x.1 then x else b) (0, 0) →
       calm = (if overs then 0 else v.calm + 1) →
       flow = (match v.flow with
         | none => if overs then some (second, none, top.1, top.2) else none
         | some (f, e, pk, c) => if pk < top.1 then some (f, if e.isNone && calm = 10 then some (second + 1) else e, top.1, top.2)
             else some (f, if e.isNone && calm = 10 then some (second + 1) else e, pk, c)) →
       a = { s with nrg := { s.nrg with vig := { v with chans := chans, flow := flow, calm := calm } } } →
       exec (.vigilSecond second n sums) s = .next (if overs && v.flow.isNone then a.pwrEvent 3 else a))

/-- PULSE_START of an output that is enabled, may conduct and has a backlog, once its last pulse and its gap are over: the
backlog falls by 1, EMITTED counts, and the width is WIDTH_MS or, where the rate R of R568 would not hold it, 500 / R and at least 2 ms, with source 130, and with source 131 where
a backlog is left at 2 ms; a backlog below 2^31 clears 0x1102 (R567, R568, R577). HEAT_STEP of an enabled meter at a multiple of HEAT_PERIOD shows whether its report is stale and adds its energy where its three inputs are valid, and clears 0x1103, and its error
time where not (R569–R571). HEAT_REPORT_WRITE keeps a report of a meter with module time and ends STALE; in BOOT it is rejected with reason 3 (R569). -/
def Obligations.PulsesAndHeat : Prop :=
  (∀ (s a b c : State) (k now n r w width : Nat) (x : PulseOut), k ≤ 3 → a = s.advance (now * nsUnit) → a.flag Reg.NRG_CTRL_EN = true → a.poMay = true →
       a.getA (Reg.NRG_PO_CFG_EN k) = 1 → n = a.get (Reg.NRG_PO_BACKLOG_COUNT k) → 1 ≤ n → x = a.po k → x.busyUntil ≤ now →
       r = ((x.moved.filter fun e => decide (now < e.1 + 1000000000)).map Prod.snd).sum + n → w = a.get Reg.NRG_PULSE_WIDTH_MS →
       width = (if r * w ≤ 500 then w else max 2 (500 / r)) →
       b = a.setPo { x with onUntil := now + width * 1000000, busyUntil := now + 2 * width * 1000000 } →
       c = ((b.put (Reg.NRG_PO_BACKLOG_COUNT k) (n - 1)).countMod (Reg.NRG_PO_EMITTED_COUNT k) 1).put (Reg.NRG_PO_WIDTH_MS k) width →
       exec (.pulseStart k now) s = .next (
         if n - 1 < 2 ^ 31 then
           ((((c.emit (.pulse k width)).eventIf (decide (width < w)) 130).eventIf (width == 2 && decide (1 < n)) 131).clearFault 0x1102 k)
         else ((c.emit (.pulse k width)).eventIf (decide (width < w)) 130).eventIf (width == 2 && decide (1 < n)) 131)) ∧
  (∀ (s a b : State) (h now : Nat) (ts tr v : Int × Bool), s.flag Reg.NRG_CTRL_EN = true → h ≤ 63 → s.getA (Reg.NRG_HM_CFG_EN h) = 1 →
       now % (s.get Reg.NRG_HEAT_PERIOD_MS * 1000000) = 0 → s.ns ≤ now → a = s.advance (now * nsUnit) →
       b = a.putFlag (Reg.NRG_HM_STAT_STALE h) (a.heatStale h) → b.heatIn h = [ts, tr, v] →
       (ts.2 = true → tr.2 = true → v.2 = true → exec (.heatStep h now) s = .next ((b.heatAdd h ts.1 tr.1 v.1).clearFault 0x1103 h)) ∧
       (ts.2 = false ∨ tr.2 = false ∨ v.2 = false → exec (.heatStep h now) s = .next (b.heatError h [ts.2, tr.2, v.2]))) ∧
  (∀ (s a : State) (h lph : Nat), h ≤ 63 → s.st ≠ stBoot → lph < 2 ^ 32 →
       a = s.setMeter { s.heatMeter h with report := some (s.getS (Reg.NRG_HM_REP_T_TS h), s.getS (Reg.NRG_HM_REP_T_TR h), lph, s.ns) } →
       exec (.heatReportWrite h lph) s = .next ((a.put (Reg.NRG_HM_REP_V_LPH h) lph).put (Reg.NRG_HM_STAT_STALE h) 0)) ∧
  (∀ (s : State) (h lph : Nat), h ≤ 63 → s.st = stBoot → exec (.heatReportWrite h lph) s = .next (s.reject 17 (0x418 + 0x20 * h) 3))

/-- LOOP_EXECUTE of a due loop that still has to execute at its tick, with no lower one waiting, takes its waiting order at its start, and executes once,
counted, where it does not stay or go OFF (R578, R579, R588). LOOP_OP_CLOSE, LOOP_OP_OPEN and LOOP_OP_OFF outside BOOT are kept as the loop's order; one that takes a loop out of OFF where CAP loops
are out is rejected with reason 1, and in BOOT an order is rejected with reason 3 (R579, R588). DEVICE_REPORT_RX of a report that matches a loop's device is kept with its arrival, position, value and STATUS bit and counted;
one without the STATUS bit clears 0x1202, one with it counts as stale, with source 143 and 0x1202 where a loop uses it and it was not stale before; one that matches nothing, or is of another type, is counted
as bad (R591, R597). DEVICE_REPORT_STALE, for a report that stays away longer than TIMEOUT_MS, sets source 143 and raises 0x1202 once, where a loop uses it (R591, R596, R597). -/
def Obligations.LoopsRunAndTakeOrders : Prop :=
  (∀ (s a b : State) (n k : Nat) (close : Option Int) (runs : Bool), n ≤ 127 → s.flag Reg.LCE_CTRL_EN = true → s.tg.running = true → s.loopWaits n k = true →
       (∀ m, m < n → s.loopWaits m k = false) → a = (s.advance (s.loopStart n k)).setLoop { s.loopRec n with last := some k } →
       a.loopApplyOp n = (b, close, runs) →
       exec (.loopExecute n k) s = .next (if runs then (b.countMod Reg.LCE_EXEC_COUNT 1).loopRun n k close else b)) ∧
  (∀ (s : State) (n : Nat), n ≤ 127 → s.st ≠ stBoot → s.loopSt n ≠ loOff → exec (.loopOpClose n) s = .next (s.setLoop { s.loopRec n with op := 1 }) ∧
       exec (.loopOpOpen n) s = .next (s.setLoop { s.loopRec n with op := 2 })) ∧
  (∀ (s : State) (n : Nat), n ≤ 127 → s.st ≠ stBoot → exec (.loopOpOff n) s = .next (s.setLoop { s.loopRec n with op := 3 })) ∧
  (∀ (s : State) (n : Nat), n ≤ 127 → s.st ≠ stBoot → s.loopSt n = loOff → (s.loopRec n).op ≠ 1 → (s.loopRec n).op ≠ 2 →
       (s.loopsOut < loopCap s.tg.f → exec (.loopOpClose n) s = .next (s.setLoop { s.loopRec n with op := 1 }) ∧
         exec (.loopOpOpen n) s = .next (s.setLoop { s.loopRec n with op := 2 })) ∧
       (loopCap s.tg.f ≤ s.loopsOut → exec (.loopOpClose n) s = .next (s.reject 18 (0x1050 + 0x80 * n) 1) ∧
         exec (.loopOpOpen n) s = .next (s.reject 18 (0x1050 + 0x80 * n) 1))) ∧
  (∀ (s : State) (n : Nat), n ≤ 127 → s.st = stBoot → exec (.loopOpClose n) s = .next (s.reject 18 (0x1050 + 0x80 * n) 3) ∧
       exec (.loopOpOpen n) s = .next (s.reject 18 (0x1050 + 0x80 * n) 3) ∧ exec (.loopOpOff n) s = .next (s.reject 18 (0x1050 + 0x80 * n) 3)) ∧
  (∀ (s a b : State) (src ch status position value now d : Nat) (r : DevReport), s.flag Reg.LCE_CTRL_EN = true → a = s.advance (now * nsUnit) →
       a.reportMatch src ch = some d → status % 2 = 0 →
       r = { key := 256 * d + ch, at' := a.ns, fault := false, position := signed 32 position, value := signed 32 value, seen := false,
             good := some (signed 32 position) } →
       b = { a with lce := { a.lce with reports := setKey DevReport.key r a.lce.reports } } →
       exec (.deviceReportRx src 0x41 ch status position value now) s = .next ((b.count Reg.LCE_REPORT_RX_COUNT).clearFault 0x1202 d)) ∧
  (∀ (s a b c : State) (src ch status position value now d : Nat) (r : DevReport), s.flag Reg.LCE_CTRL_EN = true → a = s.advance (now * nsUnit) →
       a.reportMatch src ch = some d → status % 2 = 1 →
       r = { key := 256 * d + ch, at' := a.ns, fault := true, position := signed 32 position, value := signed 32 value, seen := true,
             good := (a.reportOf d ch).bind DevReport.good } →
       b = { a with lce := { a.lce with reports := setKey DevReport.key r a.lce.reports } } → c = b.count Reg.LCE_REPORT_RX_COUNT →
       exec (.deviceReportRx src 0x41 ch status position value now) s = .next (
         if a.reportStale d (a.reportOf d ch) = false ∧ c.reportUsed d ch = true then (c.event 143).raiseAt 0x1202 1 d d else c)) ∧
  (∀ (s a : State) (src type ch status position value now : Nat), s.flag Reg.LCE_CTRL_EN = true → a = s.advance (now * nsUnit) →
       a.reportMatch src ch = none ∨ type ≠ 0x41 →
       exec (.deviceReportRx src type ch status position value now) s = .next (a.count Reg.LCE_REPORT_BAD_COUNT)) ∧
  (∀ (s a b : State) (d ch now : Nat) (r : DevReport), s.flag Reg.LCE_CTRL_EN = true → d ≤ 31 → a = s.advance (now * nsUnit) → a.reportOf d ch = some r →
       r.seen = false → a.reportStale d (some r) = true →
       b = { a with lce := { a.lce with reports := setKey DevReport.key { r with seen := true } a.lce.reports } } →
       exec (.deviceReportStale d ch now) s = .next (if b.reportUsed d ch then (b.event 143).raiseAt 0x1202 1 d d else b))

/-- Outside BOOT every INCR_HI_WRITE puts the increment into force clamped to the permitted range: 1.5984–1.6016 ns, or
1.59984–1.60016 ns while a slot computes (R188). STEP_HI_WRITE with a step of 0 disarms with source 17; a step beyond 1,000 ns while a slot computes is
refused with source 18 and fault 0x0405 (R211); any other is armed in place of an earlier one (R190). In BOOT both are rejected with reason 3 (R110). Slots, rings and the time itself stay. -/
def Obligations.IncrementStaysPermitted : Prop :=
  (∀ (s : State) (data : Word), s.st ≠ stBoot → ∃ t, exec (.incrHiWrite data) s = .next t ∧ (incrRange s.computing).1 ≤ t.tim.incr ∧ t.tim.incr ≤ (incrRange s.computing).2 ∧
       ((incrRange s.computing).1 ≤ data.field 0 8 * 2 ^ 32 + s.get Reg.TIM_INCR_LO_FRAC →
         data.field 0 8 * 2 ^ 32 + s.get Reg.TIM_INCR_LO_FRAC ≤ (incrRange s.computing).2 →
         t.tim.incr = data.field 0 8 * 2 ^ 32 + s.get Reg.TIM_INCR_LO_FRAC) ∧ t.slots = s.slots ∧ t.rings = s.rings ∧ t.time = s.time) ∧
  (∀ (s a b : State) (data : Word), s.st ≠ stBoot → data = 0 → s.get Reg.TIM_STEP_LO_NS = 0 → a = s.put Reg.TIM_STEP_HI_NS 0 →
       b = { a with tim := { a.tim with armed := none } } →
       exec (.stepHiWrite data) s = .next ((b.put Reg.TIM_STATUS_STEP_PEND 0).event 17)) ∧
  (∀ (s : State) (data : Word) (v : Int), s.st ≠ stBoot → v = signed 64 (data.toNat * 2 ^ 32 + s.get Reg.TIM_STEP_LO_NS) → v ≠ 0 → s.computing = true → 1000 < v.natAbs →
       ∃ t, exec (.stepHiWrite data) s = .next t ∧ t.tim.armed = none ∧ t.flag Reg.TIM_STATUS_STEP_PEND = false ∧ t.flag Reg.TIM_STATUS_STEP_REFUSED = true ∧
         t.srcFlag 18 = true ∧ t.slots = s.slots) ∧
  (∀ (s : State) (data : Word) (v : Int), s.st ≠ stBoot → v = signed 64 (data.toNat * 2 ^ 32 + s.get Reg.TIM_STEP_LO_NS) → v ≠ 0 → s.computing = false ∨ v.natAbs ≤ 1000 →
       ∃ t, exec (.stepHiWrite data) s = .next t ∧ t.tim.armed = some v ∧ t.flag Reg.TIM_STATUS_STEP_PEND = true ∧ t.faults = s.faults) ∧
  (∀ (s : State) (data : Word), s.st = stBoot → exec (.incrHiWrite data) s = .next (s.reject 4 0x1C 3) ∧
       exec (.stepHiWrite data) s = .next (s.reject 4 0x30 3))

/-- PTP_SYNC_RX: a measurement that the servo does not take, or that comes while the time base does not run, is counted as ignored; one it takes shows its offset and its mean path delay, counts the runs of 8 within 250 ns and beyond 1,000 ns, trims
the increment, and locks after 8 in the lock range, or leaves LOCKED for HOLDOVER after 8 outside (R193, R197). PTP_ANNOUNCE_RX: an announce of another domain or port is ignored; one without the PTP timescale drops its port from the comparison; a good one enters it, and that of the parent keeps
the UTC offset (R196). PTP_PDELAY keeps the path delay of a PTP port, and shows the parent's (R196, R197). PTP_SYNC_TX of a master port that is UP and not paused sends, in LOCKED, the best announce's clock class, and in HOLDOVER 187, with the origin time at the connector
(R196, R197). PTP_SOURCE_LOSS: LOCKED becomes HOLDOVER when the source counts as lost (R193). HOLDOVER_MAX_EXPIRY: HOLDOVER becomes FREE_RUN at its limit with fault 0x0402 of class F2 (R193, R211). TIME_COUNTER_MISMATCH raises 0x0404 of
class F3 (R195). REF_MEASURE: without REF_EN the PLL keeps the TCXO; a deviation beyond 5 ppm clears REF_OK, leaves REF_IN and raises 0x0403; any other shows REF_OK, and ten in a row within 4 ppm switch to REF_IN. REF_LOSS clears REF_OK, leaves
REF_IN and with REF_EN raises 0x0403 (R192, R211). -/
def Obligations.TimeSourcesLockAndFail : Prop :=
  (∀ (s : State) (m : ServoSample), s.timeRun = false ∨ s.servoTakes m = false →
       exec (.ptpSyncRx m) s = .next { s with tim := { s.tim with ignored := s.tim.ignored + 1 } }) ∧
  (∀ (s a b c : State) (m : ServoSample) (ofs : Int), s.timeRun = true → s.servoTakes m = true → ofs = s.servoOffset m →
       a = (s.put Reg.TIM_SERVO_OFS_OFS (unsigned 32 (saturate 32 (per256 ofs)))).put Reg.TIM_SERVO_MPD_MPD
         (if m.pps then 0 else min (per256 (s.linkDelay m.port)).toNat (2 ^ 32 - 1)) →
       b = { a with tim := { a.tim with lockRun := if ofs.natAbs ≤ 250 * 65536 then a.tim.lockRun + 1 else 0
                                        unlockRun := if 1000 * 65536 < ofs.natAbs then a.tim.unlockRun + 1 else 0
                                        lastSync := a.time } } →
       c = b.applyIncr m.incr →
       exec (.ptpSyncRx m) s = .next (
         if s.get Reg.TIM_STATUS_CLASS ≠ clsLocked ∧ 8 ≤ c.tim.lockRun then c.enterLocked
         else if s.get Reg.TIM_STATUS_CLASS = clsLocked ∧ 8 ≤ c.tim.unlockRun then c.enterHoldover
         else c)) ∧
  (∀ (s : State) (m : Announce), s.get Reg.TIM_PTP_CFG_DOMAIN ≠ m.domain ∨ (s.get Reg.TIM_PTP_CFG_PORTS >>> m.port) % 2 = 0 →
       exec (.ptpAnnounceRx m) s = .next { s with tim := { s.tim with ignored := s.tim.ignored + 1 } }) ∧
  (∀ (s a : State) (m : Announce) (l : List Announce), s.get Reg.TIM_PTP_CFG_DOMAIN = m.domain → (s.get Reg.TIM_PTP_CFG_PORTS >>> m.port) % 2 = 1 →
       l = (if m.ptpTimescale then setKey Announce.port m s.tim.announces else dropKey Announce.port m.port s.tim.announces) →
       a = { s with tim := { s.tim with announces := l } } →
       exec (.ptpAnnounceRx m) s = .next (
         if m.ptpTimescale = true ∧ a.runBmca.ptpParent = m.port then a.runBmca.keepUtcOffset m.utcOffset else a.runBmca)) ∧
  (∀ (s a : State) (port : Nat) (x : PdelayTimes), port ≤ 7 → (s.get Reg.TIM_PTP_CFG_PORTS >>> port) % 2 = 1 →
       a = { s with tim := { s.tim with delays := setKey Prod.fst (port, s.pdelay port x) s.tim.delays } } →
       exec (.ptpPdelay port x) s = .next (
         if a.ptpParent = port then a.put Reg.TIM_SERVO_MPD_MPD (min (per256 (s.pdelay port x)).toNat (2 ^ 32 - 1)) else a)) ∧
  (∀ (s : State) (port pcs cls : Nat) (x : Announce), portState s s.ptpParent port = 3 → s.portUp port = true → s.peerPaused port 7 s.ns = false →
       (s.get Reg.TIM_STATUS_CLASS = clsLocked ∧ bestAnnounce s.tim.announces = some x ∧ cls = x.rank.getD 1 0) ∨
         (s.get Reg.TIM_STATUS_CLASS = clsHoldover ∧ cls = 187) →
       exec (.ptpSyncTx ⟨port, pcs⟩) s = .next (
         s.emit (.ptpSync port cls (s.flag Reg.TIM_PTP_CFG_ONESTEP) (pcs + s.get (Reg.TIM_PORT_LAT_TX_LAT port))))) ∧
  (∀ (s a : State), s.timeRun = true → a = s.advance s.sourceDue →
       exec .ptpSourceLoss s = .next (if a.get Reg.TIM_STATUS_CLASS = clsLocked then a.enterHoldover else a)) ∧
  (∀ (s : State), s.get Reg.TIM_STATUS_CLASS = clsHoldover →
       exec .holdoverMaxExpiry s = .next ((((s.advance s.holdDue).clearFault 0x0401 0).setClass clsFreeRun).raise1 0x0402 2 0)) ∧
  (∀ (s : State), exec .timeCounterMismatch s = .next (s.raise1 0x0404 3 0)) ∧
  (∀ (s a : State) (d : Int), s.mainAbsent = false → s.flag Reg.TIM_CTRL_REF_EN = false → a = { s with tim := { s.tim with refRun := 0 } } →
       exec (.refMeasure d) s = .next a.toTcxo) ∧
  (∀ (s a b : State) (d : Int), s.mainAbsent = false → s.flag Reg.TIM_CTRL_REF_EN = true →
       a = { s with tim := { s.tim with refRun := if d.natAbs ≤ 400 then s.tim.refRun + 1 else 0 } } → b = a.put Reg.TIM_STATUS_REF_OK 1 →
       (500 < d.natAbs → exec (.refMeasure d) s = .next (((a.put Reg.TIM_STATUS_REF_OK 0).toTcxo).raise1 0x0403 1 (unsigned 32 d))) ∧
       (d.natAbs ≤ 500 → exec (.refMeasure d) s = .next (
         if 10 ≤ a.tim.refRun ∧ b.get Reg.TIM_STATUS_SRC = 0 then ((b.put Reg.TIM_STATUS_SRC 1).event 21).clearFault 0x0403 0 else b))) ∧
  (∀ (s a b : State) (d : Int), s.mainAbsent = false → a = { s with tim := { s.tim with refRun := 0 } } → b = (a.put Reg.TIM_STATUS_REF_OK 0).toTcxo →
       exec (.refLoss d) s = .next (if s.flag Reg.TIM_CTRL_REF_EN = true then b.raise1 0x0403 1 (unsigned 32 d) else b))

/-- While the time base runs, PPS_OUT_PULSE puts out a pulse of WIDTH_MS at the next whole second, with QUAL 1 only in LOCKED and HOLDOVER (R206). PPS_IN_EDGE of an edge that is no glitch is stamped
with the instant less 3.2 ns, counted and sets source 19; one within 900 ms of the last accepted edge is counted as a glitch (R207). DI_EDGE of a selected edge enters the FIFO of 64 with its stamp and source
20; a full FIFO counts it as lost, and an edge that is not selected only moves the time (R208); that the two stamps drop the fraction of a nanosecond is the model's choice (assumption 71). DIEDGE_POP takes the
oldest entry (R208). TIME_LATCH_READ of TIME_NS returns the nanoseconds of the instant and latches its seconds (R189). GCL_CHANGE_WRITE outside BOOT with EN
and CHANGE and a valid length schedules the admin list, GCL_DISABLE cancels a change and ends EN, and GCL_SWITCH at the switch instant puts the admin bank into
operation with source 23 (R205). -/
def Obligations.StampsEdgesAndGates : Prop :=
  (∀ (s a b : State) (k sec : Nat), s.timeRun = true → k = (s.time + 1000000000 * nsUnit - 1) / (1000000000 * nsUnit) →
       sec = (if s.tim.ppsLast = some k then k + 1 else k) → a = s.advance (sec * 1000000000 * nsUnit) →
       b = { a with tim := { a.tim with ppsLast := some sec } } →
       exec .ppsOutPulse s = .next (
         if b.flag Reg.TIM_PPS_QUAL = true ∧ b.get Reg.TIM_STATUS_CLASS ≠ clsLocked ∧ b.get Reg.TIM_STATUS_CLASS ≠ clsHoldover then b
         else State.emit { b with tim := { b.tim with ppsUntil := b.time + b.get Reg.TIM_PPS_WIDTH_MS * 1000000 * nsUnit } }
           (.ppsOut (b.get Reg.TIM_PPS_WIDTH_MS)))) ∧
  (∀ (s a b : State) (stamp t : Nat), s.timeRun = true → a = s.advance stamp → t = stamp - 32 * nsUnit / 10 →
       b = { a with tim := { a.tim with lastPps := t, ppsSeen := true } } →
       (a.tim.ppsSeen = false ∨ a.tim.lastPps + 900000000 * nsUnit ≤ t → exec (.ppsInEdge stamp) s = .next (
         (((b.putStamp 0x40040 (t / nsUnit)).countMod Reg.TIM_PPS_IN_CNT_EDGES 1).put Reg.TIM_STATUS_PPS_IN_OK 1).event 19)) ∧
       (a.tim.ppsSeen = true → t < a.tim.lastPps + 900000000 * nsUnit → exec (.ppsInEdge stamp) s = .next (a.count Reg.TIM_PPS_IN_CNT_GLITCH))) ∧
  (∀ (s a b : State) (input stamp : Nat) (falling : Bool) (e : List (Nat × Nat × Bool)), s.timeRun = true → a = s.advance stamp → input ≤ 7 →
       ((if falling then a.get Reg.TIM_DIEDGE_EN_FALL else a.get Reg.TIM_DIEDGE_EN_RISE) >>> input) % 2 = 1 →
       e = insertEdge ((stamp - 32 * nsUnit / 10) / nsUnit, input, falling) a.tim.edges → b = { a with tim := { a.tim with edges := e } } →
       exec (.diEdge input falling stamp) s = .next (
         if 64 ≤ a.tim.edges.length then a.count Reg.TIM_DIEDGE_STAT_LOST
         else (b.put Reg.TIM_DIEDGE_STAT_LEVEL e.length).event 20)) ∧
  (∀ (s a : State) (input stamp : Nat) (falling : Bool), s.timeRun = true → a = s.advance stamp →
       ((if falling then a.get Reg.TIM_DIEDGE_EN_FALL else a.get Reg.TIM_DIEDGE_EN_RISE) >>> input) % 2 = 0 →
       exec (.diEdge input falling stamp) s = .next a) ∧
  (∀ (s a : State) (t i : Nat) (f : Bool) (l : List (Nat × Nat × Bool)), s.tim.edges = (t, i, f) :: l → i ≤ 7 →
       a = { s with tim := { s.tim with edges := l } } → exec .diedgePop s = .next (
       ((a.put Reg.TIM_DIEDGE_STAT_LEVEL l.length).putStamp 0x40058 t).emit (.regRead 0x40054 (2 ^ 31 + i * 256 + if f then 1 else 0)))) ∧
  (∀ (s : State), exec (.timeLatchRead 0x40020) s = .next (
       (s.latchSeconds 0x40020 (s.ns / 1000000000)).emit (.regRead 0x40020 (s.ns % 1000000000)))) ∧
  (∀ (s : State) (x : Nat), x ∈ [0x40040, 0x40058, 0x50070] → exec (.timeLatchRead x) s = .next (
       (s.latchSeconds x (s.get ⟨x + 4, 0, 32⟩ + s.get ⟨x + 8, 0, 16⟩ * 2 ^ 32)).emit (.regRead x (s.get ⟨x, 0, 30⟩)))) ∧
  (∀ (s : State) (p : Nat) (data : Word), p ≤ 11 → s.st ≠ stBoot → s.flag (Reg.TIM_PORT_GCL_CTRL_PEND p) = false → 1 ≤ data.field 16 9 → data.field 16 9 ≤ 256 →
       data.field 0 1 = 1 → data.field 1 1 = 1 → exec (.gclChangeWrite p data) s = .next (
         ((s.put (Reg.TIM_PORT_GCL_CTRL_ADMIN_LEN p) (data.field 16 9)).put (Reg.TIM_PORT_GCL_CTRL_EN p) 1).gclSchedule p)) ∧
  (∀ (s a : State) (p : Nat), p ≤ 11 → s.st ≠ stBoot → a = { s with tim := { s.tim with gclPend := dropKey Prod.fst p s.tim.gclPend } } →
       exec (.gclDisable p) s = .next ((a.put (Reg.TIM_PORT_GCL_CTRL_PEND p) 0).put (Reg.TIM_PORT_GCL_CTRL_EN p) 0)) ∧
  (∀ (s a b c : State) (p w : Nat), findKey Prod.fst p s.tim.gclPend = some (p, w) → a = s.advance (w * nsUnit) →
       b = { a with tim := { a.tim with gclPend := dropKey Prod.fst p a.tim.gclPend
                                        gclLen := setKey Prod.fst (p, a.get (Reg.TIM_PORT_GCL_CTRL_ADMIN_LEN p)) a.tim.gclLen } } →
       c = ((b.put (Reg.TIM_PORT_GCL_CTRL_PEND p) 0).put (Reg.TIM_PORT_GCL_CTRL_OPER p) (1 - s.get (Reg.TIM_PORT_GCL_CTRL_OPER p))).put
         (Reg.TIM_PORT_GCL_OPER_CYCLE_NS p) (s.get (Reg.TIM_PORT_GCL_CYCLE_NS p)) →
       exec (.gclSwitch p) s = .next (((c.put (Reg.TIM_PORT_GCL_OPER_BASE_LO_NS p) (w % 2 ^ 32)).put (Reg.TIM_PORT_GCL_OPER_BASE_HI_NS p)
         (w / 2 ^ 32)).event 23))

/-- Every day of the calendar's range 2000-01-01 to 2199-12-31 is written as a date that reads back as that day, with its
weekday, and every second of a day as a time that reads back as that second; both are values that a SET accepts. -/
def Obligations.DatesConvertBothWays : Prop :=
  (∀ (d w : Nat), d < calDays → 1 ≤ w → w ≤ 7 → dayOfDate (dateWord d w) = d ∧ dateWord d w / 2 ^ 12 % 8 = w ∧ stagedOk (dateWord d w) 0 = true) ∧
  (∀ (x : Nat), x < 86400 → secOfTime (timeWord x) = x ∧ stagedOk (dateWord 0 6) (timeWord x) = true)

/-- Outside BOOT a CAL_SET of staged values that are a date and a time, a DST_ADD or DST_SUBTRACT that may be, a CAL_SHIFT that
stays in range, and an OSF_CLEAR with TIME_SET enter the crossing queue; others are rejected with reason 1 (R216, R219–R221), and in BOOT all with reason 3. RTC_WRITE_CROSS: at its count
edge the oldest entry takes effect and leaves the queue, SYNC_BUSY follows, and 0x0503 clears (R213). RTC_QUEUE_FULL: a write that finds 4 entries sets QFULL with source 31 (R213, R232). CAL_SECOND_EDGE lets the counts of the
second pass and carries the sub-second count into the calendar; while module time runs, it first moves to the edge's instant (R215, R226, R230). WAKE_FIRE fires at the count
edge that ends the wake's period (R227). PWRON_REQ_ASSERT: a selected event in OFF or VIGIL asserts PWRON with source 29, and PWRON_TIMEOUT, SECS later without an answer, withdraws it with PWRON_TO (R228). OSC_STOP sets OSF (R220), and
BACKUP_DOMAIN_POWER_UP gives the backup domain its reset values with OSF set, and leaves every other register (R220, R231). -/
def Obligations.CalendarIsWrittenAndRuns : Prop :=
  (∀ (s : State) (sub : Nat), s.st ≠ stBoot →
       (stagedOk s.rtc.date s.rtc.time = true → exec (.calSet sub) s = .next (
         s.rtcQueue { off := 0x24, data := sub % 2 ^ 15 * 2 ^ 16 + 1, date := s.rtc.date, time := s.rtc.time })) ∧
       (stagedOk s.rtc.date s.rtc.time = false → exec (.calSet sub) s = .next (s.reject 5 0x24 1))) ∧
  (∀ (s : State), s.st ≠ stBoot →
       (s.flag Reg.RTC_STATUS_DST = false → s.flag Reg.RTC_CAL_MODE_DST_EN = true → s.calSecs + 3601 < calEnd →
         exec .dstAdd s = .next (s.rtcQueue { off := 0x28, data := 1 })) ∧
       (s.flag Reg.RTC_STATUS_DST = true ∨ s.flag Reg.RTC_CAL_MODE_DST_EN = false ∨ calEnd ≤ s.calSecs + 3601 →
         exec .dstAdd s = .next (s.reject 5 0x28 1))) ∧
  (∀ (s : State), s.st ≠ stBoot →
       (s.flag Reg.RTC_STATUS_DST = true → s.flag Reg.RTC_CAL_MODE_DST_EN = true → 3600 ≤ s.calSecs + 1 →
         exec .dstSubtract s = .next (s.rtcQueue { off := 0x28, data := 2 })) ∧
       (s.flag Reg.RTC_STATUS_DST = false ∨ s.flag Reg.RTC_CAL_MODE_DST_EN = false ∨ s.calSecs + 1 < 3600 →
         exec .dstSubtract s = .next (s.reject 5 0x28 1))) ∧
  (∀ (s : State) (k pos : Nat), s.st ≠ stBoot → 1 ≤ k → k < 2 ^ 15 → pos = s.calSecs * 32768 + s.get Reg.RTC_CAL_SUB_SUBSEC →
       exec (.calShift true k) s = .next (if k ≤ pos then s.rtcQueue { off := 0x2C, data := k + 2 ^ 16 } else s.reject 5 0x2C 1) ∧
       exec (.calShift false k) s = .next (if pos + k < calEnd * 32768 then s.rtcQueue { off := 0x2C, data := k } else s.reject 5 0x2C 1)) ∧
  (∀ (s : State) (back : Bool), s.st ≠ stBoot → exec (.calShift back 0) s = .next s) ∧
  (∀ (s : State), s.st ≠ stBoot → exec .osfClear s = .next (
       if s.flag Reg.RTC_STATUS_TIME_SET = true then s.rtcQueue { off := 0x14, data := 1 } else s.reject 5 0x14 1)) ∧
  (∀ (s : State) (sub k : Nat) (back : Bool), s.st = stBoot → exec (.calSet sub) s = .next (s.reject 5 0x24 3) ∧ exec .dstAdd s = .next (s.reject 5 0x28 3) ∧
       exec .dstSubtract s = .next (s.reject 5 0x28 3) ∧ exec (.calShift back k) s = .next (s.reject 5 0x2C 3) ∧
       exec .osfClear s = .next (s.reject 5 0x14 3)) ∧
  (∀ (s a b : State) (counts : Nat) (w : RtcWrite) (l : List RtcWrite), s.rtc.queue = w :: l → a = s.passCounts counts →
       b = { a with rtc := { a.rtc with queue := l } } → exec (.rtcWriteCross counts) s = .next (
         ((b.crossWrite w).putFlag Reg.RTC_STATUS_SYNC_BUSY (decide (0 < l.length))).clearFault 0x0503 0)) ∧
  (∀ (s : State), 4 ≤ s.rtc.queue.length → exec .rtcQueueFull s = .next ((s.put Reg.RTC_STATUS_QFULL 1).event 31)) ∧
  (∀ (s a b : State) (stamp : Nat), a = (if s.timeRun then s.advance (stamp * nsUnit) else s).passCounts (32767 - s.get Reg.RTC_CAL_SUB_SUBSEC) →
       b = { a with rtc := { a.rtc with wakeLeft := a.rtc.wakeLeft - 1 } } → exec (.calSecondEdge stamp) s = .next b.secondEdge) ∧
  (∀ (s a b : State), s.flag Reg.RTC_WAKE_EN = true → a = s.passCounts s.rtc.wakeLeft.toNat →
       b = { a with rtc := { a.rtc with wakeLeft := min a.rtc.wakeLeft 0 } } → exec .wakeFire s = .next b.wakeFires) ∧
  (∀ (s a : State), s.mainAbsent = true → s.rtc.pwrDue ≠ 0 →
       a = { s with rtc := { s.rtc with pwrDue := 0, pwrSrc := s.rtc.pwrSrc ||| s.rtc.pwrDue } } →
       exec .pwronReqAssert s = .next ((a.put Reg.RTC_STATUS_PWRON 1).event 29)) ∧
  (∀ (s a : State), s.flag Reg.RTC_STATUS_PWRON = true → s.get Reg.RTC_PWRON_TIMEOUT_SECS ≠ 0 →
       a = { s with rtc := { s.rtc with pwrLost := s.rtc.pwrLost ||| s.rtc.pwrSrc, pwrSrc := 0 } } →
       exec .pwronTimeout s = .next (((a.put Reg.RTC_STATUS_PWRON 0).put Reg.RTC_STATUS_PWRON_TO 1).event 29)) ∧
  (∀ (s : State), exec .oscStop s = .next s.setOsf) ∧
  (∀ (s a : State), a = { s with regs := s.regs.filter (fun x => x.1 / 0x10000 ≠ 5), rtc := {} } → exec .backupDomainPowerUp s = .next a.setOsf)

/-- CH_INSTALL in DISARMED outside BOOT of a channel whose words, source and slice are allowed, within the slice's quota and the recorder's limits, waits for the boundary, and the
quota follows; with a value, a slice or a limit that is not allowed it is rejected with reason 1, a quota used up with source 184 (R161, R526–R528). MPT_INSTALL of a point of a
mask with masks that are allowed takes effect at once, and is rejected with reason 1 otherwise (R544). While the recorder is not DISARMED both are rejected with reason 0, and in BOOT with reason 3. CH_READ and MPT_READ
outside BOOT show the installed words, 0 of an entry that is not installed (R527, R544). -/
def Obligations.RecorderChannelsAndMasks : Prop :=
  (∀ (s a b : State) (bin gain : Bool) (i w0 w1 k : Nat) (old : Option RecChan) (quota : Nat → Field) (l : List RecChan), s.st ≠ stBoot → s.recState = 0 →
       w0 = s.get Reg.AQE_CH_W0_WORD → w1 = s.get Reg.AQE_CH_W1_WORD → k = chSlice w0 →
       quota = (if bin then Reg.SLC_SLICE_QC_RECB else Reg.SLC_SLICE_QC_RECA) → old = (s.chanNow bin i).filter (fun x => chEn x.w0) →
       gain = (chEn w0 && !(old.any fun x => chSlice x.w0 == k)) →
       l = (if chEn w0 then setKey recKey ⟨bin, i, w0, w1⟩ s.chansNow else dropKey recKey (recKey ⟨bin, i, w0, w1⟩) s.chansNow) →
       i ≤ (if bin then 8191 else 4095) → chRangeOk (capOf (s.get Reg.SVI_CFG_RATE)) bin w0 = true → w1 ≤ (if bin then 3 else 0) →
       s.sliceValid k = true → gain = false ∨ s.overQuota (quota k) 1 = false → s.recFits l = true →
       a = (match old with
         | some x => s.give (quota (chSlice x.w0)) 1
         | none => s) →
       b = (if chEn w0 then a.take (quota k) 1 else a) →
       exec (.chInstall bin i) s = .next { b with aqe := { b.aqe with chPend := b.aqe.chPend ++ [⟨bin, i, w0, w1⟩] } }) ∧
  (∀ (s : State) (bin overs : Bool) (i w0 w1 k : Nat) (l : List RecChan), s.st ≠ stBoot → s.recState = 0 →
       w0 = s.get Reg.AQE_CH_W0_WORD → w1 = s.get Reg.AQE_CH_W1_WORD → k = chSlice w0 →
       l = (if chEn w0 then setKey recKey ⟨bin, i, w0, w1⟩ s.chansNow else dropKey recKey (recKey ⟨bin, i, w0, w1⟩) s.chansNow) →
       overs = (chEn w0 && !((s.chanNow bin i).any fun x => chEn x.w0 && chSlice x.w0 == k) &&
         s.overQuota (if bin then Reg.SLC_SLICE_QC_RECB k else Reg.SLC_SLICE_QC_RECA k) 1) →
       (if bin then 8191 else 4095) < i ∨ chRangeOk (capOf (s.get Reg.SVI_CFG_RATE)) bin w0 = false ∨ (if bin then 3 else 0) < w1 ∨
         s.sliceValid k = false ∨ overs = true ∨ s.recFits l = false →
       exec (.chInstall bin i) s = .next ((s.reject 16 0x50 1).eventIf overs 184)) ∧
  (∀ (s : State) (bin : Bool) (i : Nat), s.st ≠ stBoot → s.recState ≠ 0 → exec (.chInstall bin i) s = .next (s.reject 16 0x50 0) ∧
       exec (.mptInstall i) s = .next (s.reject 16 0x5C 0)) ∧
  (∀ (s : State) (bin : Bool) (i : Nat), s.st = stBoot → exec (.chInstall bin i) s = .next (s.reject 16 0x50 3) ∧
       exec (.chRead bin i) s = .next (s.reject 16 0x50 3) ∧ exec (.mptInstall i) s = .next (s.reject 16 0x5C 3) ∧
       exec (.mptRead i) s = .next (s.reject 16 0x5C 3)) ∧
  (∀ (s : State) (bin : Bool) (i : Nat) (c : RecChan), s.st ≠ stBoot →
       c = (s.aqe.chans.find? (fun c => c.bin == bin && c.idx == i)).getD ⟨bin, i, 0, 0⟩ →
       exec (.chRead bin i) s = .next ((s.put Reg.AQE_CH_W0_WORD c.w0).put Reg.AQE_CH_W1_WORD c.w1)) ∧
  (∀ (s : State) (i : Nat) (l : List (Nat × Int × Int × Int)), s.st ≠ stBoot → s.recState = 0 →
       l = setKey Prod.fst (i % 1024, s.getS Reg.AQE_MPT_OFS_O, s.getS Reg.AQE_MPT_UP_U, s.getS Reg.AQE_MPT_LO_L) s.aqe.mpts →
       (s.masksOk l = true → exec (.mptInstall i) s = .next { s with aqe := { s.aqe with mpts := l } }) ∧
       (s.masksOk l = false → exec (.mptInstall i) s = .next (s.reject 16 0x5C 1))) ∧
  (∀ (s : State) (i j : Nat) (o u l : Int), s.st ≠ stBoot → (findKey Prod.fst (i % 1024) s.aqe.mpts).getD (0, 0, 0, 0) = (j, o, u, l) →
       exec (.mptRead i) s = .next (
         ((s.put Reg.AQE_MPT_OFS_O (unsigned 32 o)).put Reg.AQE_MPT_UP_U (unsigned 32 u)).put Reg.AQE_MPT_LO_L (unsigned 32 l)))

/-- REC_FIRE outside BOOT with the recorder enabled gives it a trigger of kind 2 at module time: counted as ignored in DISARMED, and in ARMED the start of a
record, which shows POST with source 121 and is sent to the group (R530, R532, R533, R537). REC_ARM arms with a new id from DISARMED or REARM and is held in POST; of a group member that is not the master it is rejected with reason 3 (R532–R534). REC_DISARM takes
ARMED and REARM to DISARMED, and ends POST in DISARMED (R532). REARM_TIMEOUT ends REARM by itself with AUTO_REARM (R532). A good GROUP_ARM_RX sets source 127, clears 0x1004 and arms a
member from DISARMED or REARM with the master's id; in POST it is held (R532, R536, R555). A good GROUP_FIRE_RX with the own id triggers and counts, also as late above 10 ms; with another id it counts as bad
(R535, R536). -/
def Obligations.RecorderTriggersAndArms : Prop :=
  (∀ (s : State), s.st ≠ stBoot → s.flag Reg.AQE_CTRL_EN = true →
       exec .recFire s = .next (s.recTrigger ⟨2, 0, s.ns, 0⟩) ∧
       (s.recState = 0 → exec .recFire s = .next (s.count Reg.AQE_IGNORED_COUNT))) ∧
  (∀ (s a : State) (r : StoredRec), s.st ≠ stBoot → s.flag Reg.AQE_CTRL_EN = true → s.recState = 1 →
       r = { id := s.get Reg.AQE_REC_ID_ID, type := 0, f := s.tg.f, chans := s.aqe.chans, t0 := s.ns, e := 0, first := 0,
             trigs := [⟨2, 0, s.ns, 0⟩], env := s.recEnv } →
       a = { s with aqe := { s.aqe with recs := r :: s.aqe.recs, cur := some r.id, postAt := s.ns, settled := false } } →
       exec .recFire s = .next (((((a.setRecState 2).put Reg.AQE_STATUS_SETTLING 1).put Reg.AQE_STATUS_EXTENDED 0).event 121).sendFire
         ⟨2, 0, s.ns, 0⟩)) ∧
  (∀ (s : State), s.st ≠ stBoot → s.flag Reg.AQE_GRP_EN = false ∨ s.flag Reg.AQE_GRP_MASTER = true → s.flag Reg.AQE_CTRL_EN = true →
       (s.recState = 0 ∨ s.recState = 3 → exec .recArm s = .next (s.recArm none)) ∧
       (s.recState = 2 → exec .recArm s = .next { s with aqe := { s.aqe with heldArm := some none } })) ∧
  (∀ (s : State), s.st = stBoot ∨ (s.flag Reg.AQE_GRP_EN = true ∧ s.flag Reg.AQE_GRP_MASTER = false) → exec .recArm s = .next (s.reject 16 0x40 3)) ∧
  (∀ (s : State), s.st ≠ stBoot → s.recState = 1 ∨ s.recState = 3 → exec .recDisarm s = .next (s.setRecState 0)) ∧
  (∀ (s : State), s.st ≠ stBoot → s.recState = 2 → exec .recDisarm s = .next { s with aqe := { s.aqe with disarm := true } }) ∧
  (∀ (s a : State), s.recState = 3 → a = s.advance ((s.aqe.rearmAt + 1000000 * s.get Reg.AQE_REARM_REARM_MS) * nsUnit) → a.recState = 3 →
       a.flag Reg.AQE_CTRL_AUTO_REARM = true → a.flag Reg.AQE_GRP_EN = false ∨ a.flag Reg.AQE_GRP_MASTER = true →
       exec .rearmTimeout s = .next (a.recArm none)) ∧
  (∀ (s a : State) (m : GrpMsg), s.flag Reg.AQE_GRP_EN = true → s.flag Reg.AQE_CTRL_EN = true → s.grpCheck m = some true → s.flag Reg.AQE_GRP_MASTER = false →
       a = ((s.grpSeen m).event 127).clearCode 0x1004 →
       (a.recState = 0 ∨ a.recState = 3 → exec (.groupArmRx m) s = .next (a.recArm (some m.id))) ∧
       (a.recState = 2 → exec (.groupArmRx m) s = .next { a with aqe := { a.aqe with heldArm := some (some m.id) } })) ∧
  (∀ (s a b : State) (m : GrpMsg) (now : Nat), s.flag Reg.AQE_GRP_EN = true → s.flag Reg.AQE_CTRL_EN = true → a = s.advance (now * nsUnit) →
       a.grpCheck m = some true → b = (a.grpSeen m).count Reg.AQE_FIRE_RX_COUNT →
       (m.id = a.get Reg.AQE_REC_ID_ID → now ≤ m.inst + 10000000 →
         exec (.groupFireRx m now) s = .next (b.recTrigger ⟨3, m.node, m.inst, 0⟩)) ∧
       (m.id = a.get Reg.AQE_REC_ID_ID → m.inst + 10000000 < now →
         exec (.groupFireRx m now) s = .next ((b.count Reg.AQE_FIRE_BAD_LATE).recTrigger ⟨3, m.node, m.inst, 0⟩)) ∧
       (m.id ≠ a.get Reg.AQE_REC_ID_ID → exec (.groupFireRx m now) s = .next a.fireBad))

/-- A command that is taken and not complete holds its ring (R146). RECORDER_ROW of a tick above the newest row, while the recorder and the ticks run: the row enters the ring, without the oldest one where the ring is full; where a record pins that one, the row is lost instead
(R524, R530, R541). SETTLEMENT_END, 10 ms after the trigger, settles its record (R529, R537). FLASH_SEGMENT_COMMIT puts the next segment of a settled record, or a wave capture, into flash where there is room; without room the record is not stored, with 0x1001, and with a failed block, or
all cycles used, with 0x1005 (R541, R543, R555). RECORD_CLOSE of a complete record, at its end + 1 ms or at the violation that stopped it, closes it in the index, and the recorder goes to REARM, to DISARMED or into an arm that was held (R532, R541). KEEP_RECORD, RELEASE_RECORD and DELETE_RECORD of a stored record keep, release and delete it,
which gives its flash back (R543). REC_FETCH of a stored record, by the manager or a slice that owns a channel of it, writes a chunk of at most LEN bytes of a part, and marks the last one (R550, R551). WAVEFRONT_DETECT while the wave path runs: the earliest detection that is an arrival opens a capture, goes to the
far end and may trigger, and the detectors of the event are blocked (R546, R548, R549). WAVE_TS_RX: a time stamp of the far end for this node gives the distance with the own arrival
that waits for it, or waits for it (R549). FAR_ARRIVAL_TIMEOUT: after 20 ms without one the result shows STATUS 2 with source 125 (R549; DIST is a free value). WAVE_CAPTURE_CLOSE closes a wave capture whose segment is
stored in the index (R548, R552). -/
def Obligations.RecordsAndWavesAreKept : Prop :=
  (∀ (s : State) (n : Nat) (full pinned : Bool), s.flag Reg.AQE_CTRL_EN = true → s.tg.running = true → (∀ r ∈ s.aqe.rows.head?, r.tick < n) →
       full = decide (2 ^ 33 / rowBytes s.aqe.chans ≤ s.aqe.rows.length) →
       pinned = (full && (match s.pinFrom, s.aqe.rows.getLast? with
         | some p, some r => decide (p ≤ r.tick)
         | _, _ => false)) →
       exec (.recorderRow n) s = .next (if pinned then s.recNoRoom n else s.recEnter n full)) ∧
  (∀ (s : State) (r : StoredRec), s.aqe.cur.bind s.recOf = some r → s.aqe.settled = false →
       exec .settlementEnd s = .next ((s.advance ((s.aqe.postAt + 10000000) * nsUnit)).settle r)) ∧
  (∀ (s a : State) (id wear : Nat) (wave : List WaveRow) (r : StoredRec), s.recOf id = some r → r.state = 0 → hasFlag r 4 = false →
       r.type ≠ 0 ∨ s.aqe.settled = true →
       a = (if 800 ≤ wear ∧ (s.put Reg.AQE_FLASH_WEAR wear).isActive 0x1002 0 = false
         then ((s.put Reg.AQE_FLASH_WEAR wear).raise1 0x1002 1 wear).event 126 else s.put Reg.AQE_FLASH_WEAR wear) →
       (∀ b, wear < 1000 → a.flashRoom (a.segMib r) a.aqe.recs.reverse = some b →
         exec (.flashSegmentCommit id wear ⟨none, wave⟩) s = .next (b.segStored r (a.segRows r) (a.segMib r) wave)) ∧
       (wear < 1000 → a.flashRoom (a.segMib r) a.aqe.recs.reverse = none →
         exec (.flashSegmentCommit id wear ⟨none, wave⟩) s = .next (a.notStored r 0x1001 1 id)) ∧
       (1000 ≤ wear → exec (.flashSegmentCommit id wear ⟨none, wave⟩) s = .next (a.notStored r 0x1005 2 0xFFFF)) ∧
       (∀ k, exec (.flashSegmentCommit id wear ⟨some k, wave⟩) s = .next (a.notStored r 0x1005 2 k))) ∧
  (∀ (s a b c : State) (r : StoredRec), s.aqe.cur.bind s.recOf = some r → s.aqe.settled = true → recComplete r = true →
       a = (if hasFlag r 1 then s else s.advance ((r.e + 1000000) * nsUnit)) → b = (a.recIndexed { r with state := 1 }).recKept r →
       c = { b with aqe := { b.aqe with cur := none, settled := false, heldArm := none, disarm := false, rearmAt := b.ns } } →
       exec .recordClose s = .next (
         if b.aqe.disarm then (c.put Reg.AQE_STATUS_EXTENDED 0).setRecState 0
         else match b.aqe.heldArm with
           | some x => (c.put Reg.AQE_STATUS_EXTENDED 0).recArm x
           | none => (c.put Reg.AQE_STATUS_EXTENDED 0).setRecState 3)) ∧
  (∀ (s a : State) (r : StoredRec), s.st ≠ stBoot → s.keepRec = some r →
       a = { s with aqe := { s.aqe with recs := s.aqe.recs.filter fun (x : StoredRec) => x.id ≠ r.id } } →
       exec .keepRecord s = .next (s.setRec { r with keep := true }) ∧ exec .releaseRecord s = .next (s.setRec { r with keep := false }) ∧
       exec .deleteRecord s = .next (a.put Reg.AQE_FLASH_FREE (s.get Reg.AQE_FLASH_FREE + r.mib))) ∧
  (∀ (s : State), s.st = stBoot → exec .keepRecord s = .next (s.reject 16 0xDC 3) ∧ exec .releaseRecord s = .next (s.reject 16 0xDC 3) ∧
       exec .deleteRecord s = .next (s.reject 16 0xDC 3)) ∧
  (∀ (s : State) (q : Req) (id part len off buf : Nat) (r : StoredRec) (all chunk : List Nat), s.takes 0x90 q → s.recOf id = some r → part ≤ 3 → 1 ≤ len →
       len ≤ 16777216 → q.slice = 0 ∨ (r.chans.any fun c => chSlice c.w0 == q.slice) = true → r.state ≠ 0 → all = partBytes r q.slice part →
       chunk = (all.drop (4096 * off)).take len →
       exec (.recFetch q id part len off buf) s = .next (State.holdRing ((s.answer q (.recData q id part (4096 * off) buf chunk)).complete q .ok chunk.length
         (if all.length ≤ 4096 * off + chunk.length then 1 else 0)) 0x90 q)) ∧
  (∀ (s b : State) (dets : List WaveDet) (a chan : Nat) (l : List Nat), s.waveOn = true → s.firstArrival dets = some (a, chan) →
       l = (s.eventDets dets).map WaveDet.chan → b = { s with aqe := { s.aqe with blocked := s.aqe.blocked.filter (fun c => !l.contains c) ++ l } } →
       exec (.wavefrontDetect dets) s = .next (b.waveSeen a chan)) ∧
  (∀ (s b : State) (m : GrpMsg) (now a : Nat), b = s.advance (now * nsUnit) → b.flag Reg.AQE_CTRL_EN = true → b.grpCheck m = some true →
       m.node = b.get Reg.AQE_NODE_FAR_NODE → m.dest = b.get Reg.AQE_NODE_NODE → b.aqe.farPend = some a → now ≤ a / 65536 + 20000000 →
       exec (.waveTsRx m now) s = .next ((b.grpSeen m).locate a (m.inst * 65536 + m.frac % 65536))) ∧
  (∀ (s b c : State) (m : GrpMsg) (now : Nat), b = s.advance (now * nsUnit) → b.flag Reg.AQE_CTRL_EN = true → b.grpCheck m = some true →
       m.node = b.get Reg.AQE_NODE_FAR_NODE → m.dest = b.get Reg.AQE_NODE_NODE → b.aqe.farPend = none → c = b.grpSeen m →
       exec (.waveTsRx m now) s = .next { c with aqe := { c.aqe with farRx := some (now, m.inst * 65536 + m.frac % 65536) } }) ∧
  (∀ (s : State) (a : Nat), s.aqe.farPend = some a → ∃ t, exec .farArrivalTimeout s = .next t ∧
       t.aqe.farPend = none ∧ t.get Reg.AQE_TWL_RESULT_STATUS = 2 ∧ t.flag Reg.AQE_TWL_RESULT_VALID = true ∧ t.srcFlag 125 = true ∧ t.slots = s.slots) ∧
  (∀ (s b c : State) (r : StoredRec), s.aqe.wave.bind s.recOf = some r → recComplete r = true →
       b = ((s.advance (r.e * nsUnit)).recIndexed { r with state := 1 }).recKept r → c = { b with aqe := { b.aqe with wave := none } } →
       exec .waveCaptureClose s = .next (c.put Reg.AQE_STATUS_WCAPT 0))

/-- Where the windows of an entry hold no bit beyond their 128, a frame that the test of a window takes as a first copy is no
first copy when it comes again, a frame older than the window is taken again and again and changes nothing, and the highest
number moves forward only. The entry keeps its source. -/
def Obligations.DuplicatesAreTakenOnce : Prop :=
  (∀ (e : DupEntry) (w q : Nat), w ≤ 2 → q < 65536 → e.high < 65536 → dupWindow e w < 2 ^ 128 → (dupTest e w q).2.1 = true → (dupTest e w q).2.2 = false →
       (dupTest (dupTest e w q).1 w q).2.1 = false) ∧
  (∀ (e : DupEntry) (w q : Nat), (dupTest e w q).2.2 = true → (dupTest e w q).1 = e) ∧
  (∀ (e : DupEntry) (w q : Nat), (dupTest e w q).1.src = e.src ∧ (dupTest e w q).1.last = e.last ∧
       ((dupTest e w q).1.high = e.high ∨ ((dupTest e w q).1.high = q ∧ (q + 65536 - e.high) % 65536 ≤ 32767)))

/-- MAC_FRAME_RX on an operating port in DOWN or UP moves the time to the frame's end, counts its codewords and takes it through the
injections to the checks of the MAC (R240, R255, R699). PAUSE_RX and PFC_RX of an operating port take effect at their end (R251, R253). PAUSE_REFRESH of a port that is UP and
pausing sends its PAUSE, or its PFC, again (R252). SUPERVISION_RX of a redundant pair enters its node, and SUPERVISION_TX sends a supervision frame with the pair's next sequence number on both ports
(R243, R248; its length is the model's choice, assumption 74). DUP_ENTRY_FORGET and NODE_ENTRY_AGE: an entry of the duplicate table and of the node table leaves once its time is over (R244, R248). -/
def Obligations.MacFramesAndPairs : Prop :=
  (∀ (s : State) (p c u : Nat) (w : RxWire) (luck : List Nat), s.operates p = true → 3 ≤ s.get (Reg.MACP_STAT_STATE p) →
       exec (.macFrameRx p w c u luck) s = .next ((s.macArrived p w c u).macTake p w luck)) ∧
  (∀ (s : State) (p q now : Nat), s.operates p = true → exec (.pauseRx p q now) s = .next ((s.advance (now * nsUnit)).pauseFrame p q now)) ∧
  (∀ (s : State) (p c now : Nat) (q : List Nat), s.operates p = true → exec (.pfcRx p c q now) s = .next ((s.advance (now * nsUnit)).pfcFrame p c q now)) ∧
  (∀ (s : State) (p : Nat), p ≤ 7 → s.portUp p = true →
       (s.pauseMode p = true → s.pausing p / 256 % 2 = 1 → exec (.pauseRefresh p) s = .next (s.sendPause p (s.get (Reg.MACP_FC_QUANTA_QUANTA p)))) ∧
       (s.pauseMode p = false → s.get (Reg.MACP_FC_MODE p) = 2 → s.pausing p % 16 ≠ 0 →
         exec (.pauseRefresh p) s = .next (s.sendPfc p (s.pausing p % 16) 0))) ∧
  (∀ (s : State) (k node now : Nat), k ≤ 3 → s.redundant (2 * k) = true →
       exec (.supervisionRx k node now) s = .next ((s.advance (now * nsUnit)).supervised k node now)) ∧
  (∀ (s a : State) (k : Nat) (seqs : List (Nat × Nat)), k ≤ 3 → s.redundant (2 * k) = true → s.operates (2 * k) = true ∨ s.operates (2 * k + 1) = true →
       s.numberPairs [2 * k] = (a, seqs) →
       exec (.supervisionTx k) s = .next (a.keeperSend 3 0x88FB 0x15010001004E 60 seqs [2 * k, 2 * k + 1])) ∧
  (∀ (s : State) (k src : Nat) (e : DupEntry), k ≤ 3 → findKey DupEntry.src src (s.dupTable k) = some e → exec (.dupEntryForget k src) s = .next (
       (s.advance ((e.last + 1000000 * s.get (Reg.MAC_PAIR_CFG_FORGET k)) * nsUnit)).setDupTable k (dropKey DupEntry.src src (s.dupTable k)))) ∧
  (∀ (s : State) (k node t0 : Nat), k ≤ 3 → findKey Prod.fst node (s.nodeTable k) = some (node, t0) → exec (.nodeEntryAge k node) s = .next (
       (s.advance ((t0 + 60000000000) * nsUnit)).setNodeTable k (dropKey Prod.fst node (s.nodeTable k))))

/-- PORT_ENABLE_CHANGE: a port whose enables are on starts, one whose enables are off stops (R237, R240). With the main domain powered, MOD_ABS_LOW: a transceiver that comes is identified in ABSENT; MOD_ABS_HIGH: one
that goes sets its cause bit and takes the port to ABSENT with reason 2 (R239, R240, R263). TX_FAULT_ASSERT takes a port in DOWN or UP to FAULT with reason 5, CAGE_OVERCURRENT with reason 6, and switches the cage off, which CAGE_RETRY
switches on again; TX_FAULT_CLEAR ends a FAULT in DOWN, but for a cage that is off or a transceiver that failed a check, and TX_DISABLE_PULSE goes out in FAULT, but for the latter (R88, R239, R240; that a failed check stays is the model's choice, assumption 74). DDM_READ shows the diagnostics of a present transceiver that declares
them, and its alarm sets the cause bit (R239, R263). LINK_UP of an operating port shows its sync and what it resolved; in DOWN the port enters UP where it may, and shows reason 7 or 10 where auto-negotiation or a SAK is missing (R238, R240, R259). LINK_DOWN: a link lost in UP is counted and returns to
DOWN with reason 7, 8 or 9 (R240). PORT_NOT_UP_TIMER: a port of a pair that is not UP for 1 s raises 0x0601 where its partner is UP and 0x0602 where it is not, a pair-link port 0x0604 and 0x0605 (R265, R433). -/
def Obligations.PortsFollowTheirLines : Prop :=
  (∀ (s : State) (p : Nat) (i : OptIdent), p ≤ 11 → s.operates p = false → exec (.portEnableChange p i) s = .next (s.portStop p)) ∧
  (∀ (s : State) (p : Nat) (i : OptIdent), p ≤ 11 → s.operates p = true → s.get (Reg.MACP_STAT_STATE p) = 0 →
       exec (.portEnableChange p i) s = .next (s.portStart p i)) ∧
  (∀ (s a : State) (p : Nat) (i : OptIdent), p ≤ 7 → s.mainAbsent = false → a = s.put (Reg.MACP_STAT_MOD_ABS p) 0 →
       exec (.modAbsLow p i) s = .next (if a.get (Reg.MACP_STAT_STATE p) = 1 then a.portIdent p i else a)) ∧
  (∀ (s a : State) (p : Nat), p ≤ 7 → s.mainAbsent = false → a = (s.put (Reg.MACP_STAT_MOD_ABS p) 1).macCause p 3 →
       exec (.modAbsHigh p) s = .next (if 2 ≤ a.get (Reg.MACP_STAT_STATE p) then a.portState p 1 2 else a)) ∧
  (∀ (s a : State) (p : Nat), p ≤ 7 → s.mainAbsent = false → a = s.put (Reg.MACP_STAT_TX_FAULT p) 1 →
       exec (.txFaultAssert p) s = .next (if 3 ≤ a.get (Reg.MACP_STAT_STATE p) then a.portFault p 5 else a)) ∧
  (∀ (s a : State) (p : Nat), p ≤ 7 → s.mainAbsent = false → a = s.put (Reg.MACP_STAT_TX_FAULT p) 0 →
       exec (.txFaultClear p) s = .next (
         if a.get (Reg.MACP_STAT_STATE p) = 2 ∧ a.macs.cageOff.contains p = false ∧ a.optRefused p = false then a.portState p 3 7 else a)) ∧
  (∀ (s : State) (p : Nat), p ≤ 7 → s.get (Reg.MACP_STAT_STATE p) = 2 → s.optRefused p = false →
       exec (.txDisablePulse p) s = .next (s.emit (.mac (s.ownAddr p) (.txDisable p)))) ∧
  (∀ (s a : State) (p : Nat), p ≤ 7 → s.mainAbsent = false →
       a = { s with macs := { s.macs with cageOff := p :: s.macs.cageOff.filter (· ≠ p) } } →
       exec (.cageOvercurrent p) s = .next (if 3 ≤ a.get (Reg.MACP_STAT_STATE p) then a.portFault p 6 else a)) ∧
  (∀ (s : State) (p : Nat), exec (.cageRetry p) s = .next { s with macs := { s.macs with cageOff := s.macs.cageOff.filter (· ≠ p) } }) ∧
  (∀ (s a : State) (p temp tx rx : Nat) (alarm : Bool), p ≤ 7 → s.flag (Reg.MACP_OPTICS_DDM p) = true → s.flag (Reg.MACP_STAT_MOD_ABS p) = false →
       a = ((s.put (Reg.MACP_OPTICS_TEMP p) temp).put (Reg.MACP_OPT_PWR_TX p) tx).put (Reg.MACP_OPT_PWR_RX p) rx →
       exec (.ddmRead p temp tx rx alarm) s = .next (if alarm then a.macCause p 5 else a)) ∧
  (∀ (s a : State) (p : Nat) (an res done : Bool), p ≤ 11 → s.operates p = true → done = (an && s.flag (Reg.MACP_CFG_AN p)) →
       a = (((s.put (Reg.MACP_STAT_SYNC p) 1).put (Reg.MACP_STAT_LOS p) 0).putFlag (Reg.MACP_STAT_AN_DONE p) done) →
       exec (.linkUp p an res) s = .next (
         let b := a.putFlag (Reg.MACP_STAT_PAUSE_RES p) (res && done && s.get (Reg.MACP_FC_MODE p) == 1)
         if b.get (Reg.MACP_STAT_STATE p) ≠ 3 then b
         else if b.mayComeUp p then b.enterUp p
         else b.put (Reg.MACP_STAT_REASON p) (if b.flag (Reg.MACP_CFG_AN p) && !done then 7 else 10))) ∧
  (∀ (s a : State) (p why : Nat) (los : Bool), p ≤ 11 → s.mainAbsent = false → a = (if los then s.put (Reg.MACP_STAT_LOS p) 1 else s).portIdle p →
       why = (if 9 < p then 9 else if los then 8 else 7) →
       (a.portUp p = true → exec (.linkDown p los) s = .next ((a.count (Reg.MACP_LINK_DOWNS_COUNT p)).portState p 3 why)) ∧
       (a.portUp p = false → a.get (Reg.MACP_STAT_STATE p) = 3 → exec (.linkDown p los) s = .next (a.put (Reg.MACP_STAT_REASON p) why))) ∧
  (∀ (s : State) (p : Nat), p ≤ 9 → s.portUp p = false →
       exec (.portNotUpTimer p) s = .next (
         if p < 8 then
           (if s.redundant p = false then s
            else if s.portUp (if p % 2 = 0 then p + 1 else p - 1) then s.raiseAt 0x0601 1 p p else s.raiseAt 0x0602 2 (p / 2) (p / 2))
         else if s.portUp (if p % 2 = 0 then p + 1 else p - 1) then s.raiseAt 0x0604 1 p p else s.raise1 0x0605 2 0))

/-- T1S_COLLISION: a collision of the frame in transmission is counted and the frame waits a drawn
number of slot times, a free value, or after 16 attempts is discarded with TIMEOUT and its cause bit (R249, R263). PLCA_STATUS_LOST sets its cause bit, PLCA_STATUS_UP is shown, and node 0 sends the BEACON (R250, R263). MKPDU_RX: a live
peer's first MKPDU brings a SAK that the key server of the two distributes, and a SAK from the peer that is the key server is installed; a second live peer is journaled; a CAK that may not be used sets source 158 (R256, R259, R638). MKA_PEER_LOST: a peer that is silent for 6 s is forgotten with
fault 0x0606 and the port returns to DOWN (R256, R259, R265); PN_EXHAUSTED brings a new SAK (R256). MKA_HELLO_TX sends MKPDUs in TC3 on the MACsec ports that
operate, DOWN or UP, with a usable CAK (R241, R256; their length is the model's choice, assumption 74). -/
def Obligations.PortsOfOtherKinds : Prop :=
  (∀ (s a b : State) (p now n : Nat) (late : Bool) (c : CoreCopy), p = 10 ∨ p = 11 → s.swc.copies.find? (fun c => c.port == p && c.stage == 3) = some c →
       a = (s.advance (now * nsUnit)).count (Reg.MACP_COLL_COLL p) → b = (if late then a.count (Reg.MACP_COLL_LATE p) else a) →
       n = (findKey Prod.fst p b.macs.attempts).elim 0 Prod.snd + 1 →
       (n < 16 → ∃ t, exec (.t1sCollision p now late) s = .next t ∧ t.macs.attempts = setKey Prod.fst (p, n) b.macs.attempts ∧
         t.slots = b.slots ∧ t.rings = b.rings ∧ t.freeCtr = b.freeCtr + 1) ∧
       (∀ d, 16 ≤ n → d = { b with macs := { b.macs with attempts := dropKey Prod.fst p b.macs.attempts } } →
         exec (.t1sCollision p now late) s = .next (((d.count (Reg.MACP_COLL_EXCESS p)).macCause p 10).releaseCopy c (some .timeout)))) ∧
  (∀ (s : State) (p : Nat), p = 10 ∨ p = 11 → s.flag (Reg.MACP_STAT_PLCA_ST p) = true →
       exec (.plcaStatusLost p) s = .next ((s.put (Reg.MACP_STAT_PLCA_ST p) 0).macCause p 11)) ∧
  (∀ (s a : State) (p : Nat), p = 10 ∨ p = 11 → s.operates p = true → s.flag (Reg.MACP_T1S_PLCA_EN p) = true → a = s.put (Reg.MACP_STAT_PLCA_ST p) 1 →
       exec (.plcaStatusUp p) s = .next (
         if s.get (Reg.MACP_T1S_NODE_ID p) = 0 then a.emit (.mac (a.ownAddr p) (.beacon p (s.get (Reg.MACP_T1S_NODE_CNT p)))) else a)) ∧
  (∀ (s a : State) (m : MkPdu), m.port ≤ 9 → s.operates m.port = true → s.flag (Reg.MACP_MACSEC_EN m.port) = true →
       s.keyUsable (s.get (Reg.MACP_MACSEC_CAK_SLOT m.port)) 0 0 = true → m.icvOk = true → findKey Prod.fst m.port s.macs.peers = none →
       a = { s with macs := { s.macs with peers := setKey Prod.fst (m.port, m.peer) s.macs.peers } } →
       (s.ksPrio m.port < m.prio ∨ (s.ksPrio m.port = m.prio ∧ m.lower = false) → exec (.mkpduRx m) s = .next (a.sakDistribute m.port)) ∧
       (m.prio < s.ksPrio m.port ∨ (s.ksPrio m.port = m.prio ∧ m.lower = true) → exec (.mkpduRx m) s = .next (
         if m.sak then a.sakInstalled m.port else a))) ∧
  (∀ (s : State) (m : MkPdu) (q : Nat), m.port ≤ 9 → s.operates m.port = true → s.flag (Reg.MACP_MACSEC_EN m.port) = true →
       s.keyUsable (s.get (Reg.MACP_MACSEC_CAK_SLOT m.port)) 0 0 = true → m.icvOk = true → findKey Prod.fst m.port s.macs.peers = some (m.port, q) → q ≠ m.peer →
       exec (.mkpduRx m) s = .next (s.noteOpen 6)) ∧
  (∀ (s : State) (m : MkPdu), m.port ≤ 9 → s.operates m.port = true → s.flag (Reg.MACP_MACSEC_EN m.port) = true →
       s.keyUsable (s.get (Reg.MACP_MACSEC_CAK_SLOT m.port)) 0 0 = false → exec (.mkpduRx m) s = .next (s.event 158)) ∧
  (∀ (s a b : State) (p q : Nat), p ≤ 9 → findKey Prod.fst p s.macs.peers = some (p, q) →
       a = { s with macs := { s.macs with peers := dropKey Prod.fst p s.macs.peers } } →
       b = (((a.put (Reg.MACP_STAT_MKA p) 0).macCause p 9).raiseAt 0x0606 1 p p) →
       exec (.mkaPeerLost p) s = .next (if b.portUp p then b.portState p 3 10 else b)) ∧
  (∀ (s : State) (p q : Nat), p ≤ 9 → s.flag (Reg.MACP_STAT_MKA p) = true → findKey Prod.fst p s.macs.peers = some (p, q) →
       exec (.pnExhausted p) s = .next (s.sakDistribute p)) ∧
  (∀ (s : State), exec .mkaHelloTx s = .next ((List.range 10).foldl (fun s p =>
       if s.operates p && s.flag (Reg.MACP_MACSEC_EN p) && 3 ≤ s.get (Reg.MACP_STAT_STATE p) &&
         s.keyUsable (s.get (Reg.MACP_MACSEC_CAK_SLOT p)) 0 0 then s.keeperSend 3 0x888E 0x8001030000C2 128 [] [p] else s) s))

/-- EGRESS_ADMIT: a copy with the number its flow expects is decided, and the held ones in sequence after it; one ahead is held; one
behind counts RESEQ_LATE and is refused (R280). The decision (R282): EG_DOWN where the port does not take the frame; EXPIRED, and what
counts beside it (R202), for an expired one; a TC4–TC7 copy is always queued; a TC0–TC3 copy updates the class's average depth, counts
QFULL_DROP at QLIM, WRED_DROP where the draw, a free value, falls under the curve, and is queued otherwise (R283); queueing gives the
frame a reference for an undecided destination. RESEQ_TIMEOUT counts the missing numbers as lost, sets source 59 if any and goes on from
the lowest held (R280). PLANE_ERROR discards the frame's copies on the plane, sets source 62 and raises 0x0703; the second error of a
plane within 1 s closes it while both are up (R281). FRAME_EXPIRY: a copy not in transmission is discarded at its expiry with TIMEOUT, and
counted (R202, R284). FRAME_TRANSMIT: an idle port discards what is too long for its gates (R204) and starts the frame that the schedule
names, if any (R199, R287). FRAME_TX_DONE: the last bit counts the frame, records its start as TXTS and releases the copy; a MAC being
disabled then flushes (R143, R252, R262). LINK_HOLD_END: the end of a link hold flushes the port (R285). PFC_REQUEST_CHANGE: a request
that changes sets source 61 and reaches the ports P0–P7 in PFC mode whose PFC_GEN has the class (R288). BEAD_AUDIT shows the queued, the
in-flight and the remaining free beads of 65,536 (R289); a bead that a second audit finds without a reference is repaired with source 56,
fault 0x0701 and the tally's repair count, and a double one counts, with source 57 and 0x0702; 1,000 audits without a leak clear 0x0701
(R290). FDB_INSTALL writes the staged entry, or is rejected with reason 1 where its key is valid at another index; FDB_READ copies an
entry, or zeros, into the staging registers; both refused in BOOT with reason 3 (R110, R278). -/
def Obligations.SwitchMovesFrames : Prop :=
  (∀ (s : State) (frame port : Nat) (draws : List Nat) (c : CoreCopy) (fl : Flow) (d : Nat), s.copyOf frame port = some c → c.stage = 0 →
       fl = s.flowOf (flowKey c.src c.port c.tc) → d = idx16 c.seq fl.expect →
       (d = 0 → exec (.egressAdmit frame port draws) s = .next (
         ((s.setFlow { fl with expect := (fl.expect + 1) % 65536 }).admitCopy c (draws.headD 0)).releaseHeld
           (flowKey c.src c.port c.tc) s.swc.copies.length draws.tail)) ∧
       (0 < d → d < 32768 → exec (.egressAdmit frame port draws) s = .next (s.putCopy { c with stage := 1 })) ∧
       (32768 ≤ d → exec (.egressAdmit frame port draws) s = .next ((s.count (Reg.SWC_PORT_RESEQ_LATE port)).refuseCopy c none))) ∧
  (∀ (s : State) (c : CoreCopy) (f : CoreFrame) (draw : Nat), s.coreFrame c.frame = some f → s.egressTakes c.port f.eth = false →
       s.admitCopy c draw = (s.count (Reg.SWC_PORT_EG_DOWN_COUNT c.port)).refuseCopy c none) ∧
  (∀ (s : State) (c : CoreCopy) (f : CoreFrame) (draw t : Nat) (late : Bool), s.coreFrame c.frame = some f → s.egressTakes c.port f.eth = true →
       s.expiryOf f c.port = some (t, late) → t < s.ns → s.admitCopy c draw =
         ((s.count (Reg.SWC_PORT_EXPIRED_COUNT c.port)).lateCounted f c.port late).refuseCopy c (some .timeout)) ∧
  (∀ (s : State) (c : CoreCopy) (f : CoreFrame) (draw : Nat), s.coreFrame c.frame = some f → s.egressTakes c.port f.eth = true →
       (∀ t late, s.expiryOf f c.port = some (t, late) → s.ns ≤ t) → 4 ≤ c.tc → s.admitCopy c draw =
         (({ s with swc := { s.swc with order := s.swc.order + 1 } }.putCopy { c with stage := 2, order := s.swc.order }).setFrame
           { f with refs := f.refs + 1, undecided := f.undecided - 1 })) ∧
  (∀ (s a : State) (c : CoreCopy) (f : CoreFrame) (draw depth i key num e : Nat), s.coreFrame c.frame = some f → s.egressTakes c.port f.eth = true →
       (∀ t late, s.expiryOf f c.port = some (t, late) → s.ns ≤ t) → c.tc < 4 → depth = s.queueDepth c.port c.tc → i = 3 * c.tc + f.colour →
       key = 16 * c.port + c.tc → (num, e) = avgStep ((findKey Prod.fst key s.swc.avgs).elim 0 fun x => x.2.1)
         ((findKey Prod.fst key s.swc.avgs).elim 0 fun x => x.2.2) depth (s.getA (Reg.SWC_WRED_P_W i)) →
       a = { s with swc := { s.swc with avgs := setKey Prod.fst (key, num, e) s.swc.avgs } } → s.admitCopy c draw = (
         if s.get (Reg.SWC_PORT_EGR_QLIM c.port) ≤ depth then (a.count (Reg.SWC_PORT_QFULL_DROP_COUNT c.port)).refuseCopy c none
         else if wredDrops num e (s.getA (Reg.SWC_WRED_TH_MIN i)) (s.getA (Reg.SWC_WRED_TH_MAX i)) (s.getA (Reg.SWC_WRED_P_MAXP i)) draw then
           (a.count (Reg.SWC_PORT_WRED_DROP_COUNT c.port)).refuseCopy c none
         else (({ a with swc := { a.swc with order := s.swc.order + 1 } }.putCopy { c with stage := 2, order := s.swc.order }).setFrame
           { f with refs := f.refs + 1, undecided := f.undecided - 1 }))) ∧
  (∀ (s : State) (port src tc : Nat) (draws : List Nat) (held : List CoreCopy) (fl : Flow) (d : Nat),
       held = (s.swc.copies.filter fun c => c.stage == 1 && flowKey c.src c.port c.tc == flowKey src port tc) → fl = s.flowOf (flowKey src port tc) →
       (held.map fun c => idx16 c.seq fl.expect).min? = some d → exec (.reseqTimeout port src tc draws) s = .next (
         ((((s.countBy (Reg.SWC_PORT_RESEQ_LOST port) d).eventIf (decide (0 < d)) 59).setFlow { fl with expect := (fl.expect + d) % 65536 }).releaseHeld
           (flowKey src port tc) held.length draws))) ∧
  (∀ (s a : State) (plane frame : Nat), plane ≤ 1 → (∀ q t, findKey Prod.fst plane s.swc.planeErr = some (q, t) → t + 1000000000 * nsUnit ≤ s.time) ∨
         s.get Reg.SWC_PLANES_UP ≠ 3 →
       a = { s with swc := { s.swc with planeErr := setKey Prod.fst (plane, s.time) s.swc.planeErr } } → exec (.planeError plane frame) s = .next (
         (((a.swc.copies.filter fun c => c.stage == 0 && c.plane == plane && c.frame == frame).foldl
           (fun s c => s.refuseCopy c none) a).event 62).raiseAt 0x0703 2 plane plane)) ∧
  (∀ (s a : State) (plane frame q t : Nat), plane ≤ 1 → findKey Prod.fst plane s.swc.planeErr = some (q, t) → s.time < t + 1000000000 * nsUnit →
       s.get Reg.SWC_PLANES_UP = 3 →
       a = { s with swc := { s.swc with planeErr := setKey Prod.fst (plane, s.time) s.swc.planeErr } }.put Reg.SWC_PLANES_UP (3 - 2 ^ plane) →
       exec (.planeError plane frame) s = .next (
         (((a.swc.copies.filter fun c => c.stage == 0 && c.plane == plane && c.frame == frame).foldl
           (fun s c => s.refuseCopy c none) a).event 62).raiseAt 0x0703 2 plane (plane + 2))) ∧
  (∀ (s a : State) (frame port t : Nat) (late : Bool) (c : CoreCopy) (f : CoreFrame), s.copyOf frame port = some c → s.coreFrame frame = some f →
       c.stage ≠ 3 → s.expiryOf f port = some (t, late) → a = (s.advance (t * nsUnit)).lateCounted f port late →
       exec (.frameExpiry frame port) s = .next (
         State.discardCopy (if f.pub = none ∧ f.src < 12 then a.count (Reg.SWC_PORT_EXPIRED_COUNT port) else a) c (some .timeout))) ∧
  (∀ (s a : State) (p now : Nat) (luck : List Nat), p ≤ 16 → p ≠ 12 →
       s.swc.copies.any (fun c => c.port == p && c.stage == 3) = false → a = (s.advance (now * nsUnit)).dropOversize p →
       (a.nextCopy p now = none → exec (.frameTransmit p now luck) s = .next a) ∧
       (∀ b c f, a.nextCopy p now = some (c, b) → b.coreFrame c.frame = some f →
         exec (.frameTransmit p now luck) s = .next (b.txStart c f p now luck))) ∧
  (∀ (s a b : State) (p now : Nat) (c : CoreCopy) (f : CoreFrame), s.swc.copies.find? (fun c => c.port == p && c.stage == 3) = some c →
       a = s.advance (now * nsUnit) → a.coreFrame c.frame = some f →
       b = (a.countMod (Reg.MACP_TX_FRAMES_COUNT (macWindow p)) 1).countMod (Reg.MACP_TX_OCTETS_COUNT (macWindow p))
         (if p < 12 then a.macBytes f p else f.len + 4) → exec (.frameTxDone p now) s = .next (
         ((({ b with macs := { b.macs with attempts := dropKey Prod.fst p b.macs.attempts } }.setFrame
           { f with left := true, txts := some (c.start / nsUnit) }).releaseCopy c none).macFlush p))) ∧
  (∀ (s : State) (p : Nat), p < 12 → s.flag (Reg.SWC_PORT_EGR_HOLD p) = true → exec (.linkHoldEnd p) s = .next (s.flushPort p)) ∧
  (∀ (s : State) (tc m : Nat), tc ≤ 3 →
       m = withBit s.swc.pfc tc (s.rings.any fun x => x.type == 1 && x.tc == tc && s.flag (Reg.HIF_RING_RSTAT_BP x.ring)) → m ≠ s.swc.pfc →
       exec (.pfcRequestChange tc) s = .next ((List.range 8).foldl (fun s p =>
         (s.putFlag (Reg.SWC_PORT_EGR_PFC_REQ p) (s.get (Reg.MACP_FC_MODE p) == 2 && (s.get (Reg.MACP_FC_PFC_GEN p) &&& m) ≠ 0)).flowControl p)
         ({ s with swc := { s.swc with pfc := m } }.event 61))) ∧
  (∀ (s a b : State) (lost doubled : List Nat) (q i run : Nat) (again : List (Nat × Nat)),
       a = { s with swc := { s.swc with leaked := s.swc.leaked ++ lost.map fun b => (b % 65536, 0) } } → a.beadCounts = (q, i) →
       b = ((a.put Reg.SWC_BEADS_FREE_COUNT (65536 - q - i)).put Reg.SWC_BEADS_QUEUED_COUNT q).put Reg.SWC_BEADS_INFLIGHT_COUNT i →
       b.swc.leaked.filter (fun x => x.2 ≠ 0) = again → run = (if again.isEmpty then b.swc.cleanRun + 1 else 0) →
       ∀ c d e, c = { b with swc := { b.swc with leaked := ((b.swc.leaked.filter fun x => x.2 = 0).map fun x => (x.1, 1)), cleanRun := run } } →
       d = again.foldl (fun s x => ((((s.count Reg.SWC_AUDIT_LEAK_CNT).put Reg.SWC_LAST_LEAK_BEAD x.1).event 56).raise1 0x0701 1 x.1).count
         Reg.TLY_REPAIRS_BEAD |>.event 174) c →
       e = doubled.foldl (fun s b => ((s.count Reg.SWC_AUDIT_DOUBLE).event 57).raise1 0x0702 2 (b % 65536)) d →
       exec (.beadAudit lost doubled) s = .next (if 1000 ≤ run then e.clearFault 0x0701 0 else e)) ∧
  (∀ (s : State) (index : Nat), index ≤ 4095 → s.st ≠ stBoot → exec (.fdbInstall index) s = .next (
         if (s.fdbStaged).2.1 / 2 ^ 31 % 2 = 1 ∧ ∃ e ∈ s.swc.fdb, e.1 ≠ index ∧ e.2.1 = s.fdbStaged.1 ∧ e.2.2.1 = s.fdbStaged.2.1 then s.reject 7 0x100 1
         else { s with swc := { s.swc with fdb := setKey Prod.fst (index, s.fdbStaged) s.swc.fdb } }.clearFault 0x0705 index)) ∧
  (∀ (s : State) (index lo hi dest : Nat), index ≤ 4095 → s.st ≠ stBoot →
       (lo, hi, dest) = (findKey Prod.fst index s.swc.fdb).elim (0, 0, 0) Prod.snd → exec (.fdbRead index) s = .next (
         ((s.put Reg.SWC_FDB_KEY_LO_ADDR lo).wr 0x70108 (BitVec.ofNat 32 hi)).wr 0x7010C (BitVec.ofNat 32 dest))) ∧
  (∀ (s : State) (index : Nat), s.st = stBoot → exec (.fdbInstall index) s = .next (s.reject 7 0x100 3) ∧
         exec (.fdbRead index) s = .next (s.reject 7 0x100 3))

/-- SV_INTAKE: a frame or a duplicate report of a MAC goes to the aligner at its timestamp (R245, R295). Without a subscription, or with
the aligner disabled, all its samples count as unexpected; otherwise its ASDUs follow in order with the reason of the first check that
fails, and an unusable tag key sets source 158 (R296, R298, R301, R638). One ASDU: no sample counter, or one not below F, is invalid, of a
duplicate report a duplicate; samples for a tick that the subscription does not expect, or beyond its channels, are unexpected; others of
a duplicate report are duplicates, of a failed check invalid, for an image released or due late, and else the image holds them, but a
second sample of a channel is a duplicate and a TEST sample not allowed is invalid (R299, R300). GOOSE_INTAKE: UNEXP counts without an
entry, BAD where a check fails, OLD where it is not newer; else members, counters and expiry are taken, RX counts and 0x0805 clears
(R309). SVI_ENABLE over the capacity is rejected with reason 1 and otherwise waits for the boundary (R20, R297). SVI_DISABLE is rejected
(1) while a slot computes, else discards the open images (R302, R303). GSUB_INSTALL and GCB_INSTALL: an install waits for the next
boundary, or is rejected with reason 1, with source 184 where only the quota fails; GSUB_READ and GCB_READ copy the entry, or zeros; a
GCB_READ above index 511 is rejected (R308, R465). All six are refused in BOOT with reason 3 (R110). OWN_SV_BUILD: the own frame of the
latest complete group waits for its release, unless its tag key is unusable, with source 158 (R318, R638). GOOSE_RETRANSMIT builds the
next frame and doubles the interval up to TMAX (R467; built 2 µs before its launch, assumption 14). PUBLISH_RELEASE passes its frame
through an open gate (of a control block also an open token) to core port 14, else counts it as gated; an own SV frame goes to the
module's own intake too, with its mark of R307 (source 71) if that is due (R319, R320, R460, R181). -/
def Obligations.SamplesComeInAndFramesGoOut : Prop :=
  (∀ (s : State) (fr : SvFrame), exec (.svIntake fr) s = .next (((s.advance fr.stamp).dupTaken fr.dup).svTake fr)) ∧
  (∀ (s : State) (fr : SvFrame) (x : Asdu) (l : List Asdu), fr.asdus = x :: l → s.svSub fr = none →
       s.svTake fr = (s.svReceived (fr.noAsdu * (x.seqLen / 8))).svUnexpected (fr.noAsdu * (x.seqLen / 8))) ∧
  (∀ (s a : State) (fr : SvFrame) (k nch no : Nat), s.svSub fr = some k → nch = s.getA (Reg.SVI_SUB_LAYOUT_NCH k) →
       no = s.getA (Reg.SVI_SUB_LAYOUT_NOASDU k) → a = s.svReceived (no * nch) →
       (a.svi.enabled = false → s.svTake fr = a.svUnexpected (no * nch)) ∧
       (a.svi.enabled = true → s.svTake fr = (List.range no).foldl (fun t j => t.svAsdu fr k (a.frameReason fr k) nch fr.asdus[j]?)
         (a.keyRefused (!(a.getA (Reg.SVI_SUB_POLICY_AUTH k) == 1) ||
           a.keyUsable (a.getA (Reg.SVI_SUB_POLICY_KEYSLOT k)) (a.getA (Reg.SVI_SUB_LAYOUT_SLICE k)) 1)))) ∧
  (∀ (s : State) (fr : SvFrame) (k reason nch : Nat) (x : Asdu) (r : Nat), r = (if reason ≠ 0 then reason else s.asduReason fr x k) →
       (x.smpCnt = none → s.svAsdu fr k reason nch (some x) = if fr.dup then s.svDuplicate nch else s.svInvalid k 1 nch) ∧
       (∀ c, x.smpCnt = some c → s.tg.f ≤ c → s.svAsdu fr k reason nch (some x) = if fr.dup then s.svDuplicate nch else s.svInvalid k r nch)) ∧
  (∀ (s a : State) (fr : SvFrame) (k reason nch c t r : Nat) (x : Asdu), r = (if reason ≠ 0 then reason else s.asduReason fr x k) →
       x.smpCnt = some c → c < s.tg.f → t = tickOf c fr.stamp s.tg.f → a = (if r = 0 then s.svArrive k (arrival t fr.stamp s.tg.f) else s) →
       (a.viewAt k t = none ∨ t < a.svi.firstTick → 0 < nch → s.svAsdu fr k reason nch (some x) = a.svUnexpected nch) ∧
       (∀ b v here, a.viewAt k t = some v → a.svi.firstTick ≤ t → here = min v.nch nch → 0 < here →
         b = (if here < nch then a.svUnexpected (nch - here) else a) →
         (fr.dup = true → s.svAsdu fr k reason nch (some x) = b.svDuplicate here) ∧
         (fr.dup = false → r ≠ 0 → s.svAsdu fr k reason nch (some x) = b.svInvalid k r here) ∧
         (fr.dup = false → r = 0 → s.svAsdu fr k reason nch (some x) =
           if (∃ n, b.svi.last = some n ∧ t ≤ n) ∨ instantOf t b.tg.f b.tg.rho ≤ fr.stamp then
             b.svLateAsdu k (b.getA (Reg.SVI_SUB_POLICY_TEST_OK k) == 1) (x.data.take here)
           else b.svHold k t v.base (b.getA (Reg.SVI_SUB_POLICY_SYNC k) == 3 && decide (x.smpSynch < 2))
             (b.getA (Reg.SVI_SUB_POLICY_TEST_OK k) == 1) (x.data.take here)))) ∧
  (∀ (s a : State) (sub k base q q0 q1 : Nat) (v : Int) (sync testOk : Bool) (img : OpenImage),
       q0 = q % 2 ^ 14 → q1 = (if sync then (if q0 % 4 = 0 then q0 + 3 else q0) + 2 ^ 19 else q0) →
       img = { s.openImage k with samples := ⟨base, v, q1, sub⟩ :: (s.openImage k).samples } →
       a = { s with svi := { s.svi with open' := setKey OpenImage.tick img s.svi.open' } } →
       s.svHold sub k base sync testOk [(v, q)] = (
         if q / 2 ^ 11 % 2 = 1 ∧ testOk = false then s.svInvalid sub 8 1
         else if (s.openImage k).samples.any (fun x => x.chan == base) then s.svDuplicate 1
         else (a.countMod Reg.SVI_HELD_COUNT 1).setWatch { a.watchOf sub with badReason := 0 })) ∧
  (∀ (s a : State) (fr : GooseFrame), a = s.advance fr.stamp →
       (a.svi.gsubs.any fun g => gEn g.words && gMatch g.words == [fr.dst, fr.vid, fr.appid, fr.ref.length, crc32c fr.ref]) = false →
       exec (.gooseIntake fr) s = .next (a.count Reg.SVI_GOOSE_UNEXP_COUNT)) ∧
  (∀ (s a b : State) (fr : GooseFrame) (g g1 : Gsub) (bad : Bool), a = s.advance fr.stamp →
       a.svi.gsubs.find? (fun g => gEn g.words && gMatch g.words == [fr.dst, fr.vid, fr.appid, fr.ref.length, crc32c fr.ref]) = some g →
       b = a.keyRefused (!gAuth g.words || a.keyUsable (gKey g.words) (gSlice g.words) 2) →
       bad = decide (fr.confRev ≠ g.words.getD 4 0 ∨ (gAuth g.words = true ∧ (fr.tagOk && a.keyUsable (gKey g.words) (gSlice g.words) 2) = false) ∨
         fr.nds = true ∨ ((fr.test = true ∨ fr.sim = true) ∧ gTestOk g.words = false) ∨ (gMembers g.words).all (memberFits fr.data) = false) →
       g1 = { g with never := false, st := fr.st, sq := fr.sq, expiry := fr.stamp + fr.tal * 1000000 * nsUnit,
                     test := fr.test, vals := memberValues g.words fr.data, age := 0, stale := false } →
       exec (.gooseIntake fr) s = .next (
         if bad then b.count Reg.SVI_GOOSE_BAD_COUNT
         else if g.never = true ∨ g.expiry ≤ fr.stamp ∨ newer fr.st fr.sq g.st g.sq = true then
           ({ b with svi := { b.svi with gsubs := setKey Gsub.idx g1 b.svi.gsubs } }.count Reg.SVI_GOOSE_RX_COUNT).clearFault 0x0805 g.idx
         else b.count Reg.SVI_GOOSE_OLD_COUNT)) ∧
  (∀ (s : State), s.st ≠ stBoot → s.flag Reg.SVI_CTRL_EN = false → exec .sviEnable s = .next (
       if s.overCapacity then s.reject 8 0x10 1
       else { s with svi := { s.svi with enablePending := true } }.put Reg.SVI_CTRL_EN 1)) ∧
  (∀ (s : State), s.st ≠ stBoot → s.flag Reg.SVI_CTRL_EN = true → exec .sviDisable s = .next (
       if s.computing then s.reject 8 0x10 1
       else
         let s1 := if s.svi.enabled then s.discardOpen else s
         ({ s1 with svi := { s1.svi with enabled := false, enablePending := false } }.put Reg.SVI_CTRL_EN 0).showOpen)) ∧
  (∀ (s : State) (g : Nat), s.st ≠ stBoot → exec (.gsubInstall g) s = .next (
       if s.gsubBad g s.gsubStaged then s.reject 8 0x34 1
       else if gEn s.gsubStaged ∧ s.get (Reg.SLC_SLICE_QB_GOSUB (gSlice s.gsubStaged)) <
           ((s.gsubOthers g).filter fun o => gSlice o == gSlice s.gsubStaged).length + 1 then (s.event 184).reject 8 0x34 1
       else { s with svi := { s.svi with
         gsubPend := (s.svi.gsubPend.filter fun (p : Nat × List Nat) => p.1 ≠ g) ++ [(g, s.gsubStaged)] } }.clearFault 0x0806 (0x8000 + g))) ∧
  (∀ (s : State) (k : Nat) (words : List Nat), s.st ≠ stBoot → words = (findKey Gsub.idx k s.svi.gsubs).elim [] Gsub.words →
       exec (.gsubRead k) s = .next ((List.range 22).foldl (fun s j => s.put (Reg.SVI_GSUB_W_WORD j) (words.getD j 0)) s)) ∧
  (∀ (s : State) (b : Nat), s.st ≠ stBoot → exec (.gcbInstall b) s = .next (
       let w := s.gcbStaged.1
       let others := ((List.range 512).filter fun k => k ≠ b && gcbEn (s.gcbWords k) && gcbSlice (s.gcbWords k) == gcbSlice w).length
       if s.gcbBad b w then s.reject 12 0x34 1
       else if gcbEn w ∧ s.get (Reg.SLC_SLICE_QB_GOCB (gcbSlice w)) < others + 1 then (s.event 184).reject 12 0x34 1
       else { s with pub := { s.pub with gcbPend := s.pub.gcbPend ++ [(b, s.gcbStaged)] } })) ∧
  (∀ (s a c : State) (g : Gcb) (b : Nat), s.st ≠ stBoot → g = (findKey Gcb.idx b s.pub.gcbs).getD { idx := b, words := [], tpl := [] } →
       a = (List.range 8).foldl (fun s w => s.put (Reg.PUB_GCB_W_WORD w) (g.words.getD w 0)) s →
       c = (List.range 96).foldl (fun s w => s.put (Reg.PUB_GCB_TPL_BYTES w) (g.tpl.getD w 0)) a →
       (b ≤ 511 → exec (.gcbRead b) s = .next ((c.put Reg.PUB_GCB_ST_STNUM g.st).put Reg.PUB_GCB_SQ_SQNUM g.sq)) ∧
       (511 < b → exec (.gcbRead b) s = .next (s.reject 12 0x34 1))) ∧
  (∀ (s : State) (n : Nat), s.st = stBoot → exec .sviEnable s = .next (s.reject 8 0x10 3) ∧ exec .sviDisable s = .next (s.reject 8 0x10 3) ∧
       exec (.gsubInstall n) s = .next (s.reject 8 0x34 3) ∧ exec (.gsubRead n) s = .next (s.reject 8 0x34 3) ∧
       exec (.gcbInstall n) s = .next (s.reject 12 0x34 3) ∧ exec (.gcbRead n) s = .next (s.reject 12 0x34 3)) ∧
  (∀ (s : State) (k last : Nat) (x : List (Int × Bool)) (l : List (Nat × List (Int × Bool))), s.mainAbsent = false → k ≤ 3 →
       s.getA (Reg.SVI_OWN_CTRL_EN k) = 1 → s.tg.running = true → s.mod.fine = (last, x) :: l → 0 < s.getA (Reg.SVI_OWN_CTRL_NOASDU k) →
       s.getA (Reg.SVI_OWN_CTRL_NOASDU k) ≤ last + 1 → exec (.ownSvBuild k) s = .next (
         if s.getA (Reg.SVI_OWN_CTRL_AUTH k) ≠ 1 ∨ s.keyUsable (s.getA (Reg.SVI_OWN_KEY_KEYSLOT k)) 0 1 = true then s.enqueue (s.ownFrame k last)
         else s.event 158)) ∧
  (∀ (s a : State) (b iv : Nat) (g g1 : Gcb), s.mainAbsent = false → findKey Gcb.idx b s.pub.gcbs = some g → s.flag Reg.PUB_CTRL_EN = true →
       gcbEn g.words = true → g.fresh = false → g.st ≠ 0 → a = s.advance ((g.next - 2000) * nsUnit) →
       iv = min (2 * g.interval) (gcbTmax g.words * 1000) →
       g1 = { g with sq := if g.sq = 2 ^ 32 - 1 then 1 else g.sq + 1, interval := iv, next := g.next + iv * 1000 } →
       exec (.gooseRetransmit b) s = .next ((a.setGcb g1).buildGoose g1 g.next 0 (encodeAll (gcbTest g.words) g.members))) ∧
  (∀ (s a : State) (len : Nat) (f : PubFrame) (l : List PubFrame), s.mainAbsent = false → s.pub.frames = f :: l →
       a = { s.advance (f.release * nsUnit) with pub := { s.pub with frames := l } } →
       (f.src < 0x1000 → exec (.publishRelease len) s = .next (
         if a.pair.gateOpen && a.tokenOpen f.slice (a.tg.next - 1) then ((a.count Reg.PUB_GOOSE_SENT_COUNT).emit (.frame f)).pubCore f len
         else a.count Reg.PUB_GOOSE_GATED_COUNT)) ∧
       (∀ k, f.src = 0x1000 + k → a.pair.gateOpen = false ∨ a.pair.safeMode = true →
         exec (.publishRelease len) s = .next (a.count (Reg.SVI_OWN_GATED_COUNT k))) ∧
       (∀ k mark g b, f.src = 0x1000 + k → a.pair.gateOpen = true → a.pair.safeMode = false → mark = a.svi.ownMark.contains k →
         g = (if mark then { f with data := markFirst f.nch f.data } else f) →
         b = { a with svi := { a.svi with ownMark := a.svi.ownMark.filter fun x => x ≠ k } } →
         exec (.publishRelease len) s = .next (
           ((((b.eventIf mark 71).count (Reg.SVI_OWN_SENT_COUNT k)).emit (.frame g)).pubCore g len).svTake (loopFrame g))))

/-- SAMPLE_INSTANT goes to the next tick's instant and keeps the levels of DI0–DI7 for the tick; with the fine path enabled it places
its samples (R23, R95, R505). MOD_CHANNEL_FAULT: a new stuck input counts and sets source 112, a new over-range source 113; their
ends are shown; their long forms raise 0x0E01 and 0x0E02, a clock out of its grid 0x0E05 (R508, R520); MOD_VDD_LIMIT raises 0x0E04 (R503). MOD_TEMP_EVAL
with an unusable sensor keeps the gains with HELD, source 115 at the change and 0x0E03; with a usable one it shows the temperature, clears
0x0E03 and takes new gains and delays from the next boundary's first tick, or at once where no ticks run (R506, R507). ADC_TRIGGER and ADC_CMD_TRIG: a selected trigger
starts an average: BUSY, RUN as MODE says, MON_DELAY where the start met a monitor pair; while one runs it is ignored, counted and sets source 117 (R513, R514). ADC_CMD_STOP
ends the chain after its average; both commands are refused in BOOT with reason 3 (R110, R513). ADC_RESULT takes the inputs' codes, the time stamp τ + 40 ns and source 116 and ends or goes on
(R513, R515; that it happens at the end of the average is the model's choice, assumption 78). ADC_MONITOR_PAIR, from step 6 of the start-up on, shows and counts each reading: ten in a row outside the range set source 119 and raise 0x0F02,
ten inside clear it; a chain resumes 2 µs later (R516). In OFF and VIGIL no modulator command acts (R72). -/
def Obligations.ModulatorsAndConverters : Prop :=
  (∀ (s a b : State) (di : Nat) (fine : List FineIn), s.tg.running = true → a = s.advance (instantOf s.tg.sample s.tg.f 0) →
       b = { a with tg := { a.tg with sample := s.tg.sample + 1 }, svi := { a.svi with di := (s.tg.sample, di % 256) :: a.svi.di.take 127 } } →
       exec (.sampleInstant di fine) s = .next (
         if b.showOpen.flag Reg.MOD_CTRL_EN then b.showOpen.placeFine s.tg.sample fine else b.showOpen)) ∧
  (∀ (s : State) (c : Nat), s.mainAbsent = false → s.flag Reg.MOD_CTRL_EN = true → c < 16 → s.modOn c = true →
       ((s.get Reg.MOD_STATUS_STUCK >>> c) % 2 = 0 → exec (.modChannelFault c .stuck) s = .next (
         ((s.put Reg.MOD_STATUS_STUCK (maskBit (s.get Reg.MOD_STATUS_STUCK) c true)).count (Reg.MOD_ERRCNT_STUCK c)).event 112)) ∧
       ((s.get Reg.MOD_STATUS_OVR >>> c) % 2 = 0 → exec (.modChannelFault c .overs) s = .next (
         ((s.put Reg.MOD_STATUS_OVR (maskBit (s.get Reg.MOD_STATUS_OVR) c true)).count (Reg.MOD_ERRCNT_OVR c)).event 113)) ∧
       ((s.get Reg.MOD_STATUS_STUCK >>> c) % 2 = 1 → exec (.modChannelFault c .stuckLong) s = .next (s.raiseAt 0x0E01 1 c c)) ∧
       ((s.get Reg.MOD_STATUS_OVR >>> c) % 2 = 1 → exec (.modChannelFault c .overLong) s = .next (s.raiseAt 0x0E02 1 c c)) ∧
       (c < 4 → exec (.modChannelFault c .clockOff) s = .next (s.raiseAt 0x0E05 2 c c))) ∧
  (∀ (s : State) (c : Nat), c < 16 → exec (.modChannelFault c .unstuck) s = .next
         (s.put Reg.MOD_STATUS_STUCK (maskBit (s.get Reg.MOD_STATUS_STUCK) c false)) ∧
       exec (.modChannelFault c .inRange) s = .next (s.put Reg.MOD_STATUS_OVR (maskBit (s.get Reg.MOD_STATUS_OVR) c false))) ∧
  (∀ (s : State), s.mainAbsent = false → exec .modVddLimit s = .next (s.raise1 0x0E04 2 0)) ∧
  (∀ (s : State) (c : Nat), s.mainAbsent = true → exec .modVddLimit s = .next s ∧ exec .modTempEval s = .next s ∧
       exec (.modChannelFault c .stuck) s = .next s ∧ exec (.modChannelFault c .overs) s = .next s ∧ exec (.modChannelFault c .stuckLong) s = .next s ∧
       exec (.modChannelFault c .overLong) s = .next s ∧ exec (.modChannelFault c .clockOff) s = .next s) ∧
  (∀ (s a : State), s.mainAbsent = false → s.tempUnusable = true → a = (if s.mod.held then s else s.event 115) → exec .modTempEval s = .next (
       ({ a with mod := { a.mod with held := true } }.put Reg.MOD_TEMP_NOW_HELD 1).raise1 0x0E03 1 (s.get Reg.MOD_TEMP_CFG_SRC))) ∧
  (∀ (s a : State) (l : List (Nat × Int)), s.mainAbsent = false → s.tempUnusable = false → l = ((List.range 16).map fun c => correctionAt s.theta (s.calPoints c)) →
       a = (({ s with mod := { s.mod with held := false } }.put Reg.MOD_TEMP_NOW_HELD 0).put Reg.MOD_TEMP_NOW_TEMP (unsigned 16 s.theta)).clearCode 0x0E03 →
       exec .modTempEval s = .next (
         if a.tg.running then
           { a with mod := { a.mod with corr := some (firstTickFrom (a.decisionInstant a.tg.next) a.tg.f, l) } }
         else a.applyCorr l)) ∧
  (∀ (s a : State) (start : Nat) (d : Bool), (s.flag Reg.ADC_STATUS_BUSY || s.flag Reg.ADC_STATUS_RUN) = false →
       a = (if d then s.count Reg.ADC_MON_DELAY_COUNT else s) → s.adcStart start d =
         ({ a with adc := { a.adc with tau := start, ext := 0, stop := false } }.put Reg.ADC_STATUS_BUSY 1).put Reg.ADC_STATUS_RUN (s.get Reg.ADC_CFG_MODE)) ∧
  (∀ (s : State) (start : Nat) (d : Bool), (s.flag Reg.ADC_STATUS_BUSY || s.flag Reg.ADC_STATUS_RUN) = true →
       s.adcStart start d = (s.count Reg.ADC_TRIG_IGNORED_COUNT).event 117) ∧
  (∀ (s : State) (trig : AdcTrig) (start n : Nat) (d : Bool), s.flag Reg.ADC_CTRL_EN = true → s.adcTakes trig = true →
       (trig = .tick n ∨ trig = .period n → exec (.adcTrigger trig start d) s = .next (s.adcStart start false)) ∧
       (∀ i f, trig = .edge i f n → exec (.adcTrigger trig start d) s = .next (s.adcStart start d))) ∧
  (∀ (s : State) (start : Nat) (d : Bool), s.st ≠ stBoot → s.flag Reg.ADC_CTRL_EN = true → s.get Reg.ADC_CFG_TRIG_SRC = 0 →
       exec (.adcCmdTrig start d) s = .next (s.adcStart start d)) ∧
  (∀ (s : State), s.st ≠ stBoot → s.flag Reg.ADC_STATUS_RUN = true → exec .adcCmdStop s = .next { s with adc := { s.adc with stop := true } }) ∧
  (∀ (s : State) (start : Nat) (d : Bool), s.st = stBoot → exec (.adcCmdTrig start d) s = .next (s.reject 15 0x24 3) ∧
       exec .adcCmdStop s = .next (s.reject 15 0x24 3)) ∧
  (∀ (s a b : State) (codes : List (Nat × List Int)) (e : Nat), s.flag Reg.ADC_STATUS_BUSY = true → e = s.adc.tau + s.adcSpan + s.adc.ext →
       a = (s.advance (e * nsUnit)).countMod Reg.ADC_STATUS_RESCNT 1 →
       b = ((a.adcInputs.foldl (fun t i => t.adcInput (a.get Reg.ADC_STATUS_RESCNT % 256) codes i) a).put Reg.ADC_RES_TS_NS (s.adc.tau + 40)).event 116 →
       exec (.adcResult codes) s = .next (
         if b.flag Reg.ADC_STATUS_RUN && !b.adc.stop then { b with adc := { b.adc with tau := e, ext := 0 } }
         else ({ b with adc := { b.adc with stop := false } }.put Reg.ADC_STATUS_BUSY 0).put Reg.ADC_STATUS_RUN 0)) ∧
  (∀ (s a : State) (l : List (Nat × Int)), stBoot < s.st ∨ (s.st = stBoot ∧ 5 ≤ s.get Reg.KPR_BOOT_STAGE) →
       a = l.foldl (fun t x => if x.1 < 8 then t.monitor x.1 x.2 else t) s →
       exec (.adcMonitorPair l) s = .next (if a.flag Reg.ADC_STATUS_RUN then { a with adc := { a.adc with ext := a.adc.ext + 2000 } } else a)) ∧
  (∀ (s a b : State) (m bad good : Nat) (v : Int), a = (s.put (Reg.ADC_MON_VALUE m) (unsigned 16 v)).putFlag (Reg.ADC_MON_OUT m) (monOut m v) →
       b = (if m = 7 then a.put Reg.GLB_TEMP_PLATE (unsigned 16 v) else a) →
       bad = (if monOut m v then (findKey Prod.fst m b.adc.bad).elim 0 Prod.snd + 1 else 0) →
       good = (if monOut m v then 0 else (findKey Prod.fst m b.adc.good).elim 0 Prod.snd + 1) →
       ∀ c, c = { b with adc := { b.adc with bad := setKey Prod.fst (m, min bad 10) b.adc.bad, good := setKey Prod.fst (m, min good 10) b.adc.good } } →
       s.monitor m v = (if 10 ≤ bad then (c.eventIf (!c.isActive 0x0F02 m) 119).raiseAt 0x0F02 2 m (m + unsigned 16 v * 65536)
         else if 10 ≤ good then c.clearFault 0x0F02 m else c))

/-- RCK_MODEL_LOAD: a load of VERSION 1 that every check lets through writes its records in order over the model (MODE 0: after the slice's own
records are removed), sets source 151 and completes with the number of new records; another completes with its status (R603, R627). RCK_RULES_LOAD replaces the rules of the
slice's nodes, or completes with PARAM and the index of the first bad rule or 0xFFFFFFFF for the length, PRIV or STATE (R622, R627). Both answer VERSION to another version (R603). RCK_SOLVE_NOW starts a solve and completes with its identifier, with STATE while the reckoner is disabled or
the state has no reckoner, and with BUSY while one runs (R604, R627). SOLVE_START starts one at a multiple of SOLVE_PERIOD seconds, or counts
a skip while one runs (R604). SOLVE_END shows what its solver reached: an outcome other than CONVERGED fails the solve with it; a converged solve
becomes the plan and is released where releases run; a solve that waited its turn starts (R611–R615, R618, R620). SETPOINT_RELEASE at a step boundary releases (R618). HEADROOM_READ releases the grids that lost their headroom,
and a new solve starts, or waits for the end of the one that runs (R620). A batch (R623) larger than its half is dropped, counted and raises 0x1307; one whose DMA fails raises 0x1307; else it is
written to the slice's other half with the next sequence number, from 1, and posted with kind 6 (the first half is the model's choice, assumption 79).
A command that is taken and not complete holds its ring (R146). -/
def Obligations.ReckonerLoadsSolvesReleases : Prop :=
  (∀ (s : State) (q : Req) (len mode : Nat) (buf : List Nat) (rs : List RckRec) (b : State), s.reaches 0x80 q = true → q.version = 1 →
       (s.loadCheck (q.ring.isNone && !s.keys.console) q.slice len mode buf).1 = .ok → rs = (cutRecs (len / 16 + 1) (buf.take len)).1.map rckRecOf →
       b = (if mode = 0 then s.rckClear q.slice else s) → exec (.rckModelLoad q len mode buf) s = .next (
         (((rs.foldl (fun s r => s.loadRec r) b).showEst.event 151).complete q .ok (rs.length - (rs.foldl
           (fun (a : List RckRec × Nat) r => ((applyRec a.1 r).1, if (applyRec a.1 r).2 then a.2 + 1 else a.2)) (b.rck.model, 0)).2) 0))) ∧
  (∀ (s : State) (q : Req) (len mode res : Nat) (st : Status) (buf : List Nat), s.reaches 0x80 q = true → q.version = 1 →
       s.loadCheck (q.ring.isNone && !s.keys.console) q.slice len mode buf = (st, res) → st ≠ .ok →
       exec (.rckModelLoad q len mode buf) s = .next (s.complete q st res 0)) ∧
  (∀ (s : State) (q : Req) (len mode : Nat) (buf : List Nat), q.version ≠ 1 →
       (s.reaches 0x80 q = true → exec (.rckModelLoad q len mode buf) s = .next (s.complete q .version 0 0)) ∧
       (s.reaches 0x82 q = true → exec (.rckRulesLoad q len buf) s = .next (s.complete q .version 0 0))) ∧
  (∀ (s : State) (q : Req) (len : Nat) (buf : List Nat) (l : List (List Nat)), s.reaches 0x82 q = true → q.version = 1 → l = cutRules len buf →
       (∀ i, l.findIdx? (fun b => !ruleOk s.rck.model b) = some i → exec (.rckRulesLoad q len buf) s = .next (s.complete q .param i 0)) ∧
       (l.all (ruleOk s.rck.model) = true → len % 40 ≠ 0 ∨ buf.length < len →
         exec (.rckRulesLoad q len buf) s = .next (s.complete q .param 0xFFFFFFFF 0)) ∧
       (∀ priv, l.all (ruleOk s.rck.model) = true → len % 40 = 0 → len ≤ buf.length →
         priv = ((q.ring.isNone && !s.keys.console) || (l.map ruleOf).any (fun r => !s.rckOwns q.slice r.node)) →
         exec (.rckRulesLoad q len buf) s = .next (
           if priv then s.complete q .priv 0 0
           else if stRun.contains s.st = false then s.complete q .state 0 0
           else ({ s with rck := { s.rck with rules := (s.rck.rules.filter fun (r : RckRule) => !s.rckOwns q.slice r.node) ++ l.map ruleOf } }.event
             151).complete q .ok l.length 0))) ∧
  (∀ (s a b : State) (q : Req) (cold : Bool) (now : Nat), a = s.advance (now * nsUnit) → a.takes 0x81 q →
       stRun.contains a.st = true → a.flag Reg.RCK_CTRL_EN = true → a.flag Reg.RCK_STATUS_SOLVING = false → b = a.solveStart cold a.ns →
       exec (.rckSolveNow q cold now) s = .next (State.holdRing (b.complete q .ok (b.get Reg.RCK_SOLVE_ID_ID) 0) 0x81 q)) ∧
  (∀ (s a : State) (q : Req) (cold : Bool) (now : Nat), a = s.advance (now * nsUnit) → a.takes 0x81 q →
       (stRun.contains a.st = false ∨ a.flag Reg.RCK_CTRL_EN = false → exec (.rckSolveNow q cold now) s = .next (a.complete q .state 0 0)) ∧
       (stRun.contains a.st = true → a.flag Reg.RCK_CTRL_EN = true → a.flag Reg.RCK_STATUS_SOLVING = true →
         exec (.rckSolveNow q cold now) s = .next (a.complete q .busy 0 0))) ∧
  (∀ (s a : State) (now : Nat), s.flag Reg.RCK_CTRL_EN = true → s.flag Reg.RCK_CTRL_SOLVE_EN = true → s.solveStates = true →
       now % (s.get Reg.RCK_CTRL_SOLVE_PERIOD * 1000000000) = 0 → s.ns ≤ now → a = s.advance (now * nsUnit) → exec (.solveStart now) s = .next (
         if a.flag Reg.RCK_STATUS_SOLVING then a.count Reg.RCK_SKIPPED_COUNT else a.solveStart false now)) ∧
  (∀ (s a b : State) (r : SolveResult) (c : RckSolve) (o : Nat) (g : Qp) (t : Solver), s.rck.cur = some c → a = s.advance (r.now * nsUnit) →
       a.solveRun c r = (o, g, t) → b = a.solveShown c r.now g t →
       (o ≠ 0 → exec (.solveEnd r) s = .next ((b.solveFail o).solveAgain)) ∧
       (∀ d, o = 0 → d = b.solvePlan c g t → exec (.solveEnd r) s = .next (
         State.solveAgain (if d.mayRelease then d.rckRelease r.now r.dmaFail else d)))) ∧
  (∀ (s : State) (now : Nat) (fail : List Nat), s.mayRelease = true → now % s.rckDelta = 0 → s.ns ≤ now →
       exec (.setpointRelease now fail) s = .next ((s.advance (now * nsUnit)).rckRelease now fail)) ∧
  (∀ (s a b : State) (now : Nat) (fail : List Nat) (low : List RckRec), s.mayRelease = true → (s.releaseMode now).1 ≠ 3 → s.ns ≤ now →
       a = (gridsOf s.rck.model).foldl (fun s r => s.headroomFault r) (s.advance (now * nsUnit)) →
       low = ((gridsOf a.rck.model).filter fun n => match a.headroom n, findKey Prod.fst n.id a.rck.released with
         | some (hr, _), some (_, x, m) => decide (hr + f32v (a.get Reg.RCK_HR_HYST_KW) < x + m)
         | _, _ => false) →
       b = low.foldl (fun s n => s.partialRelease now fail n) a → exec (.headroomRead now fail) s = .next (
         if low.isEmpty then a
         else if b.flag Reg.RCK_STATUS_SOLVING then { b with rck := { b.rck with again := true } }
         else if b.solveStates then b.solveStart false now else b)) ∧
  (∀ (s : State) (slice : Nat) (b : RckBatch) (fail : Bool),
       (s.get (Reg.RCK_BATCH_CTRL_KIB slice) * 512 < 48 + 16 * b.entries.length →
         s.sendBatch slice b fail = ((s.countFor slice (Reg.RCK_BATCH_STAT_DROPPED slice) 1).raiseAt 0x1307 1 slice slice, false)) ∧
       (48 + 16 * b.entries.length ≤ s.get (Reg.RCK_BATCH_CTRL_KIB slice) * 512 → fail = true ∨ s.flag Reg.HIF_LINK_BME = false →
         s.sendBatch slice b fail = (s.raiseAt 0x1307 1 slice slice, false))) ∧
  (∀ (s a : State) (slice seq half : Nat) (b c : RckBatch), 48 + 16 * b.entries.length ≤ s.get (Reg.RCK_BATCH_CTRL_KIB slice) * 512 →
       s.flag Reg.HIF_LINK_BME = true → seq = (findKey Prod.fst slice s.rck.seqs).elim 1 (fun x => x.2 % (2 ^ 32 - 1) + 1) →
       half = (if seq = 1 then 0 else 1 - s.get (Reg.RCK_BATCH_STAT_HALF slice)) → c = { b with slice := slice, half := half, seq := seq } →
       a = ((({ s with rck := { s.rck with seqs := setKey Prod.fst (slice, seq) s.rck.seqs } }.put (Reg.RCK_BATCH_STAT_SEQ slice) (seq % 65536)).put
         (Reg.RCK_BATCH_STAT_HALF slice) half).clearFault 0x1307 slice) → s.sendBatch slice b false =
         ((a.dmaOut slice (.rckBatch c)).post slice 6
           [(4, 4, seq), (8, 1, half), (9, 1, b.mode), (10, 2, b.entries.length), (12, 8, b.start), (20, 8, b.valid)], true))

/-- CFG_STAGE keeps a revision that passes its checks (R121, R638); CFG_ACTIVATE queues the pending pointer with the others as they will stand and
clears 0x0004; CFG_CANCEL removes a stored revision (R121). A failed check of these three completes with its status in the order of
R70 (number 0 or unknown PARAM, another slice or a key that slice 0 does not own with use CONFIG PRIV, a stored number or a ninth revision NORES, the digest or the signature
INTEGRITY). FW_STAGE of kind 1, 3 or 4 keeps an accepted image, sets source 9 and completes; a keeper image of another signer first queues its
MISC record; another kind completes with PARAM, another slice with PRIV and a refused image with INTEGRITY (R632, R666). PER_WRITE_DONE: the oldest write leaves the queue with its effect, QUEUE follows and waiting journal entries
enter (R664, R671, R672). LEDGER_COMMIT (while VMAIN holds, from step 9 of the start-up on, not within 1 ms of a commit of R79) is skipped with source 171 and fault 0x1606 while the last one is in progress, and otherwise made; its audits are Q5
and Q6; its bank, SEQ, durations and the end of the write follow, and one that takes longer than 450 µs sets source 171 and 0x1606 (R673, R676, R682). TALLY_AUDIT counts, audits its quantities, sets source 175 and 0x1703 for those that are
late, and clears 0x1703 at 1,000 complete ones in a row (R676, R678). A command that is taken and not complete holds its ring (R146). -/
def Obligations.StoreAndTally : Prop :=
  (∀ (s : State) (q : Req) (rev : Revision), s.takes 0x10 q → rev.num ≠ 0 →
       (q.slice ≠ 0 ∨ s.keyOwn rev.keySlot 0 = false ∨ s.keyHasUse rev.keySlot useConfig = false →
         exec (.cfgStage q rev) s = .next (s.complete q .priv 0 0)) ∧
       (q.slice = 0 → s.keyOwn rev.keySlot 0 = true → s.keyHasUse rev.keySlot useConfig = true →
         (s.boot.revs.any fun r => r.num == rev.num) = true ∨ 8 ≤ s.boot.revs.length →
         exec (.cfgStage q rev) s = .next ((s.event 184).complete q .nores 0 0)) ∧
       (q.slice = 0 → s.keyOwn rev.keySlot 0 = true → s.keyHasUse rev.keySlot useConfig = true →
         (s.boot.revs.any fun r => r.num == rev.num) = false → s.boot.revs.length < 8 →
         exec (.cfgStage q rev) s = .next (
           if rev.digestOk && rev.sigOk && s.keyUsable rev.keySlot 0 useConfig then State.holdRing (
             { s with boot := { s.boot with revs := s.boot.revs ++ [rev] } }.complete q .ok 0 0) 0x10 q
           else s.complete q .integrity 0 0))) ∧
  (∀ (s : State) (q : Req) (rev : Revision), s.takes 0x10 q → rev.num = 0 → exec (.cfgStage q rev) s = .next (s.complete q .param 0 0)) ∧
  (∀ (s : State) (q : Req) (num : Nat), s.takes 0x11 q →
       ((s.boot.revs.any fun r => r.num == num) = false → exec (.cfgActivate q num) s = .next (s.complete q .param 0 0)) ∧
       ((s.boot.revs.any fun r => r.num == num) = true → q.slice ≠ 0 → exec (.cfgActivate q num) s = .next (s.complete q .priv 0 0)) ∧
       ((s.boot.revs.any fun r => r.num == num) = true → q.slice = 0 → exec (.cfgActivate q num) s = .next (
         State.holdRing ((s.queueWrite (.config [s.pointers.getD 0 0, num, s.pointers.getD 2 0] (some q))).clearCode 0x0004) 0x11 q))) ∧
  (∀ (s : State) (q : Req) (num : Nat), s.takes 0x12 q →
       ((s.boot.revs.any fun r => r.num == num) = false → exec (.cfgCancel q num) s = .next (s.complete q .param 0 0)) ∧
       ((s.boot.revs.any fun r => r.num == num) = true → q.slice ≠ 0 → exec (.cfgCancel q num) s = .next (s.complete q .priv 0 0)) ∧
       ((s.boot.revs.any fun r => r.num == num) = true → q.slice = 0 → exec (.cfgCancel q num) s = .next (State.holdRing (
         { s with boot := { s.boot with revs := s.boot.revs.filter fun r => r.num ≠ num } }.complete q .ok 0 0) 0x12 q))) ∧
  (∀ (s : State) (q : Req) (i : FwImage), s.takes 0x13 q →
       (i.kind ≠ 1 → i.kind ≠ 3 → i.kind ≠ 4 → exec (.fwStage q i) s = .next (s.complete q .param 0 0)) ∧
       (i.kind = 1 ∨ i.kind = 3 ∨ i.kind = 4 → q.slice ≠ 0 → exec (.fwStage q i) s = .next (s.complete q .priv 0 0)) ∧
       (i.kind = 1 ∨ i.kind = 3 ∨ i.kind = 4 → q.slice = 0 → s.imageAccepted i = false →
         exec (.fwStage q i) s = .next (s.complete q .integrity 0 0)) ∧
       (∀ b, i.kind = 1 ∨ i.kind = 3 ∨ i.kind = 4 → q.slice = 0 → s.imageAccepted i = true → b = s.storeImage i →
         exec (.fwStage q i) s = .next (State.holdRing (
           if i.kind = 1 ∧ i.hash ≠ s.boot.image.hash then
             { b with boot := { b.boot with macHash := some i.hash } }.queueWrite (.misc 2 (some q))
           else (b.event 9).complete q .ok 0 0) 0x13 q))) ∧
  (∀ (s b : State) (ok : Bool) (now : Nat) (w : Immediate) (l : List Immediate), s.journal.queue = w :: l →
       b = ({ s.advance (now * nsUnit) with journal := { s.journal with queue := l } }.put Reg.PER_QUEUE_BYTES (min (queueBytes l) 65535)).writeDone w ok →
       exec (.perWriteDone ok now) s = .next (b.admitWaiting b.journal.waiting.length)) ∧
  (∀ (s a : State) (dur now : Nat) (ok : Bool), a = s.advance (now * nsUnit) → a.boot.detected = none →
       stBoot < a.st ∨ (a.st = stBoot ∧ 8 ≤ a.get Reg.KPR_BOOT_STAGE) → (∀ t, a.per.pfwAt = some t → t + 1000000 ≤ now) → exec (.ledgerCommit dur now ok) s = .next (
         if now < a.per.busyUntil then ((a.count Reg.PER_SKIPPED_COUNT).event 171).raise1 0x1606 1 (a.get Reg.PER_CTIME_LAST)
         else a.ledgerCommit false false dur ok)) ∧
  (∀ (s a b c : State) (dur d : Nat) (ok : Bool) (bad : List Violation), bad = (if s.boot.nrgHeld then s.ledgerAudit else []) →
       a = (s.countMod Reg.TLY_LAUDITS_COUNT 1).auditDone [5, 6] bad →
       b = State.stateWritten (if ok then { a with bank := some (s.ledgerBank false false (!bad.isEmpty)) } else a) 1 ok → d = min dur 65535 →
       c = ((b.countMod Reg.PER_COMMITS_COUNT 1).put Reg.PER_CTIME_LAST d).put Reg.PER_CTIME_MAX (max d (b.get Reg.PER_CTIME_MAX)) →
       ∀ e, e = { c with per := { c.per with busyUntil := s.ns + dur * 1000 } } →
       s.ledgerCommit false false dur ok = (if 450 < dur then (e.event 171).raise1 0x1606 1 dur else e)) ∧
  (∀ (s : State) (final pfw tally : Bool) (seq : Nat), seq = (s.get (Reg.PER_SECT_SEQ_SEQ 1) + 1) % 2 ^ 64 → s.boot.nrgHeld = true →
       s.ledgerBank final pfw tally =
         { nrg := s.nrg, words := s.poWords, final := final, pfw := pfw, tally := tally, at' := s.ns, seq := seq }) ∧
  (∀ (s a b : State) (late qs : List Nat) (bad : List Violation) (n : Nat), s.ready = true → qs = [1, 2, 3, 4, 7].filter (fun q => !late.contains q) →
       bad = s.strobeAudit.filter (fun v => qs.contains v.1) →
       a = ((s.countMod Reg.TLY_AUDITS_COUNT 1).putFlag Reg.TLY_STATUS_INJ (s.flag Reg.GLB_STATUS_INJECT)).auditDone qs bad →
       b = late.foldl (fun s q => (s.event 175).raiseAt 0x1703 2 q q) { a with per := { a.per with
         shutDue := a.per.shutDue ++ ((bad.filter fun v => v.1 == 4 && v.2.2.1 == 1).map fun (v : Violation) => v.2.1).filter
           (fun k => !a.per.shutDue.contains k),
         serials := a.per.ledger.map fun (e : TokenEntry) => (e.dsid, e.serial) } } →
       n = (if late.isEmpty then b.per.lates + 1 else 0) →
       ∀ c, c = { b with per := { b.per with lates := n } } → exec (.tallyAudit late) s = .next (if 1000 ≤ n then c.clearCode 0x1703 else c))

/-- REGISTER_WRITE (BAR accesses are served from step 4 of BOOT on, R110): a partial or misaligned write has no effect and is recorded with kind 2, whatever it
addresses (R47, R49; the order of the kinds is the model's choice, assumption 25); one to a reserved block is recorded
with kind 0, one to BLOCK_ID or BLOCK_STATUS with kind 1 (R49). A write to a register with no writable field is recorded with kind 1, but has no effect where it
holds RC fields (R50; assumption 25); in BOOT any other write is refused with reason 3 (R110); a register with a row of its own takes it as that command; another write is
refused with the first reason that applies (R60), or its fields take it (R54). A write to a doorbell is the command DOORBELL of its page and ring,
one to EVCLR the command EVCLR, which with bit 0 clears the event flag of its ring (R138, R154). REGISTER_READ gives the addressed bytes of the word that holds its address, with the
side effects of the read (R47): the common registers and the doorbell pages have none; one of a reserved block or address is recorded with kind 0 and reads 0 (R49);
a latched high word is returned once; else the value, and the low word of a 64-bit value latches the high word, and RC fields are cleared (R48, R50), a read of the
active view clearing none (R46). -/
def Obligations.RegisterAccessesAreServed : Prop :=
  (∀ (s : State) (addr bytes : Nat) (data : Word), s.barServed = true → s.mainAbsent = false → addr < 0x200000 → addr % 4 ≠ 0 ∨ bytes ≠ 15 →
       exec (.registerWrite addr data bytes) s = .next (s.badAccess 2 addr)) ∧
  (∀ (s : State) (addr : Nat) (data : Word), s.barServed = true → s.mainAbsent = false → addr < 0x200000 → addr % 4 = 0 → 0x1A0000 ≤ addr →
       exec (.registerWrite addr data 15) s = .next (s.badAccess 0 addr)) ∧
  (∀ (s : State) (blk off : Nat) (data : Word), s.barServed = true → s.mainAbsent = false → blk ≤ 25 → off = 0 ∨ off = 4 →
       exec (.registerWrite (blk * 0x10000 + off) data 15) s = .next (s.badAccess 1 (blk * 0x10000 + off))) ∧
  (∀ (s : State) (blk off k : Nat) (data : Word) (r : RegSpec), s.barServed = true → s.mainAbsent = false → blk ≤ 25 → 0x10 ≤ off → off < 0x10000 →
       off % 4 = 0 → findSpec off (blockSpecs blk) = some (r, k) →
       exec (.registerWrite (blk * 0x10000 + off) data 15) s = .next (s.fieldWrite blk off data r k)) ∧
  (∀ (s : State) (blk off k : Nat) (data : Word) (r : RegSpec), (r.fields.any fun f => f.inWord k && f.writable) = false → blk ≠ 5 →
       s.fieldWrite blk off data r k = if r.fields.any (fun f => f.acc == .rc) then s else s.badAccess 1 (blk * 0x10000 + off)) ∧
  (∀ (s : State) (blk off k : Nat) (data : Word) (r : RegSpec), (r.fields.any fun f => f.inWord k && f.writable) = true →
       (s.placeRo blk off = true → s.fieldWrite blk off data r k = s.badAccess 1 (blk * 0x10000 + off)) ∧
       (s.placeRo blk off = false → s.st = stBoot → s.fieldWrite blk off data r k = s.reject blk off 3) ∧
       (∀ t, s.placeRo blk off = false → s.st ≠ stBoot → rowWrite blk off data r.fields s = some t → s.fieldWrite blk off data r k = t) ∧
       (∀ n, s.placeRo blk off = false → s.st ≠ stBoot → rowWrite blk off data r.fields s = none → s.refusal blk off data r k = some n →
         s.fieldWrite blk off data r k = (s.eventIf (blk == 18 && n == 3) 141).reject blk off n) ∧
       (s.placeRo blk off = false → s.st ≠ stBoot → rowWrite blk off data r.fields s = none → s.refusal blk off data r k = none →
         s.fieldWrite blk off data r k = s.applyWrite blk off data r k)) ∧
  (∀ (s : State) (slice k : Nat) (data : Word), s.barServed = true → s.mainAbsent = false → slice ≤ 255 → k ≤ 63 →
       exec (.registerWrite (0x200000 + 0x1000 * slice + 4 * k) data 15) s = exec (.doorbell slice k data.toNat) s ∧
         exec (.registerWrite (0x200100 + 0x1000 * slice + 4 * k) data 15) s = exec (.evclr slice k data.toNat) s) ∧
  (∀ (s : State) (slice k data : Nat) (x : RingRec), s.ready = true → s.localRing slice k = some x → exec (.evclr slice k data) s = .next (
       if data % 2 = 1 then s.put (srcField (192 + x.ring)) 0 else s)) ∧
  (∀ (s a : State) (addr width counts : Nat) (w : Word), s.barServed = true → s.wordRead (addr - addr % 4) counts = (a, w) →
       exec (.registerRead ⟨addr, width⟩ counts) s = .next (a.emit (.regRead addr (w.toNat / 2 ^ (8 * (addr % 4)) % 2 ^ (8 * width))))) ∧
  (∀ (s : State) (addr counts : Nat), 0x1A0000 ≤ addr → addr < 0x200000 → s.wordRead addr counts = (s.badAccess 0 addr, 0)) ∧
  (∀ (s : State) (addr counts : Nat), 0x200000 ≤ addr → s.wordRead addr counts = (s, s.view addr)) ∧
  (∀ (s : State) (blk off counts : Nat), blk ≤ 25 → off < 0x10 → s.wordRead (blk * 0x10000 + off) counts =
       (s, s.view (blk * 0x10000 + off))) ∧
  (∀ (s : State) (blk off o counts : Nat), blk ≤ 25 → blk ≠ 4 → blk ≠ 5 → blk ≠ 20 → 0x10 ≤ off → off < 0x10000 → o = shadowOf blk off →
       (findSpec o (blockSpecs blk) = none → s.wordRead (blk * 0x10000 + off) counts = (s.badAccess 0 (blk * 0x10000 + off), 0)) ∧
       (∀ r k, findSpec o (blockSpecs blk) = some (r, k) → o ≠ off → r.isT = false →
         s.wordRead (blk * 0x10000 + off) counts = (s.badAccess 0 (blk * 0x10000 + off), 0)) ∧
       (∀ r k, findSpec o (blockSpecs blk) = some (r, k) → o = off ∨ r.isT = true →
         s.wordRead (blk * 0x10000 + off) counts = s.fieldRead (blk * 0x10000 + off) o r k)) ∧
  (∀ (s : State) (a o k b : Nat) (v : Word) (r : RegSpec), findKey Prod.fst a s.hiLatch = some (b, v) →
       s.fieldRead a o r k = ({ s with hiLatch := dropKey Prod.fst a s.hiLatch }, v)) ∧
  (∀ (s t : State) (a o k : Nat) (r : RegSpec), findKey Prod.fst a s.hiLatch = none →
       t = (if (r.words = 2 ∧ k = 0) ∨ lowOfPair (a / 0x10000) o = true then
         { s with hiLatch := setKey Prod.fst (a + 4, s.view (a + 4)) s.hiLatch } else s) →
       s.fieldRead a o r k = (if o = a % 0x10000 ∧ r.fields.any (fun f => f.acc == .rc) = true then t.clearRc (a / 0x10000) o else t, s.view a))
end

