-- ==== Sys2Proof/Laws/Dram.lean ====
section
/-! SUPPORT. The DRAM windows of the slices (R175): a write is read back, leaves the other MiB alone, and keeps the canonical form. -/

namespace Sys2Proof.Machine

/-- The contents of a MiB of DRAM as one number: 0 where none is listed (assumption 76). -/
def dramGet (m : Nat) (l : List (Nat × Nat)) : Nat := (findKey Prod.fst m l).elim 0 Prod.snd

theorem dramWf_iff (l : List (Nat × Nat)) : DramWf l = true ↔ (∀ p ∈ l, p.2 ≠ 0) ∧ l.Pairwise fun p q => p.1 < q.1 := by
  induction l with
  | nil => simp [DramWf]
  | cons x l ih =>
    cases l with
    | nil => simp [DramWf]
    | cons y l =>
      simp only [DramWf, Bool.and_eq_true, bne_iff_ne, decide_eq_true_eq] at ih ⊢
      rw [ih]
      constructor
      · rintro ⟨⟨h1, h2⟩, h3, h4⟩
        refine ⟨fun p hp => ?_, List.pairwise_cons.2 ⟨fun p hp => ?_, h4⟩⟩
        · rcases List.mem_cons.1 hp with rfl | hp
          · exact h1
          · exact h3 p hp
        · rcases List.mem_cons.1 hp with rfl | hp
          · exact h2
          · exact Nat.lt_trans h2 ((List.pairwise_cons.1 h4).1 p hp)
      · rintro ⟨h1, h2⟩
        have h3 := List.pairwise_cons.1 h2
        exact ⟨⟨h1 x (by simp), h3.1 y (by simp)⟩, fun p hp => h1 p (List.mem_cons_of_mem _ hp), h3.2⟩

theorem mem_setKey {α : Type} {key : α → Nat} {x p : α} {l : List α} (h : p ∈ setKey key x l) : p = x ∨ p ∈ l := by
  induction l with
  | nil => simpa [setKey] using h
  | cons y l ih =>
    simp only [setKey] at h
    split at h
    · rcases List.mem_cons.1 h with h | h
      · exact .inl h
      · exact .inr (List.mem_cons_of_mem _ h)
    · split at h
      · rcases List.mem_cons.1 h with h | h
        · exact .inl h
        · exact .inr h
      · rcases List.mem_cons.1 h with h | h
        · exact .inr (h ▸ List.mem_cons_self)
        · exact (ih h).imp id (List.mem_cons_of_mem _)

/-- A keyed insertion keeps keys strictly rising. -/
theorem setKey_sorted {α : Type} {key : α → Nat} {x : α} {l : List α} (h : l.Pairwise fun p q => key p < key q) :
    (setKey key x l).Pairwise fun p q => key p < key q := by
  induction l with
  | nil => simp [setKey]
  | cons y l ih =>
    obtain ⟨h1, h2⟩ := List.pairwise_cons.1 h
    simp only [setKey]
    split
    · next e => exact List.pairwise_cons.2 ⟨fun p hp => e ▸ h1 p hp, h2⟩
    · split
      · next hab =>
        refine List.pairwise_cons.2 ⟨fun p hp => ?_, h⟩
        rcases List.mem_cons.1 hp with rfl | hp
        · exact hab
        · exact Nat.lt_trans hab (h1 p hp)
      · refine List.pairwise_cons.2 ⟨fun p hp => ?_, ih h2⟩
        rcases mem_setKey hp with rfl | hp
        · omega
        · exact h1 p hp

theorem findKey_setKey_same {α : Type} (key : α → Nat) (x : α) (l : List α) : findKey key (key x) (setKey key x l) = some x := by
  induction l with
  | nil => simp [setKey, findKey]
  | cons y l ih =>
    simp only [setKey]; (repeat' split) <;> simp_all [findKey]

theorem findKey_setKey_ne {α : Type} (key : α → Nat) (x : α) (l : List α) {k : Nat} (h : k ≠ key x) :
    findKey key k (setKey key x l) = findKey key k l := by
  induction l with
  | nil => simp [setKey, findKey, Ne.symm h]
  | cons y l ih =>
    simp only [setKey]; (repeat' split) <;> simp_all [findKey, Ne.symm h]

theorem findKey_dropKey_same {α : Type} (key : α → Nat) (k : Nat) (l : List α) : findKey key k (dropKey key k l) = none := by
  induction l with
  | nil => rfl
  | cons y l ih =>
    by_cases e : key y = k <;> simp_all [dropKey, findKey]

theorem findKey_dropKey_ne {α : Type} (key : α → Nat) {j k : Nat} (l : List α) (h : k ≠ j) :
    findKey key k (dropKey key j l) = findKey key k l := by
  induction l with
  | nil => rfl
  | cons y l ih =>
    by_cases e : key y = j
    · have : key y ≠ k := fun e2 => h (e2.symm.trans e)
      simp_all [dropKey, findKey]
    · by_cases e2 : key y = k <;> simp_all [dropKey, findKey]

/-- A MiB reads back what was put there, and every other MiB as before. -/
@[simp] theorem dramGet_put (m v : Nat) (l : List (Nat × Nat)) : dramGet m (dramPut m v l) = v := by
  unfold dramGet dramPut
  split
  · next e => rw [findKey_dropKey_same]; simp [e]
  · rw [show m = Prod.fst (m, v) from rfl, findKey_setKey_same]; rfl

theorem dramGet_put_ne {m n : Nat} (v : Nat) (l : List (Nat × Nat)) (h : n ≠ m) : dramGet n (dramPut m v l) = dramGet n l := by
  unfold dramGet dramPut
  split
  · rw [findKey_dropKey_ne _ _ h]
  · rw [findKey_setKey_ne _ _ _ h]

theorem dramPut_wf {l : List (Nat × Nat)} (m v : Nat) (h : DramWf l = true) : DramWf (dramPut m v l) = true := by
  rw [dramWf_iff] at h ⊢
  unfold dramPut
  split
  · exact ⟨fun p hp => h.1 p (List.mem_filter.1 hp).1, h.2.filter _⟩
  · next e =>
    refine ⟨fun p hp => ?_, setKey_sorted h.2⟩
    rcases mem_setKey hp with rfl | hp
    · exact e
    · exact h.1 p hp

/-- A window of any size written keeps the form. -/
theorem State.windowWrite_wf {s : State} (k n : Nat) (l : List (Nat × Nat)) (h : DramWf s.dram = true) :
    DramWf (s.windowWrite k n l).dram = true := by
  have key : ∀ (js : List Nat) (b : Nat) (d : List (Nat × Nat)), DramWf d = true →
      DramWf (js.foldl (fun d j => dramPut (b + j) ((findKey Prod.fst j l).elim 0 Prod.snd) d) d) = true := by
    intro js b
    induction js with
    | nil => intro d hd; exact hd
    | cons j js ih => intro d hd; exact ih _ (dramPut_wf _ _ hd)
  exact key _ _ _ h

/-- Reset lists no DRAM. -/
theorem reset_dramWf : DramWf State.reset.dram = true := rfl

end Sys2Proof.Machine
end

