-- ==== Sys2Proof/Laws/Exec.lean ====
section
/-! SUPPORT. The meaning of each command as the next state it answers. -/

namespace Sys2Proof.Machine

variable (s : State)

@[simp] theorem exec_vmainValid : exec .vmainValid s = .next (vmainValid s) := rfl
@[simp] theorem exec_vvgInRange : exec .vvgInRange s = .next (vvgInRange s) := rfl
@[simp] theorem exec_vvgLow (lost : Nat) : exec (.vvgLow lost) s = .next (vvgLow lost s) := rfl
@[simp] theorem exec_pfwAssert (dur now : Nat) (ok : Bool) : exec (.pfwAssert dur now ok) s = .next (pfwAssert dur now ok s) := rfl
@[simp] theorem exec_pfwHoldTimeout : exec .pfwHoldTimeout s = .next (pfwHoldTimeout s) := rfl
@[simp] theorem exec_pfwDeassert : exec .pfwDeassert s = .next (pfwDeassert s) := rfl
@[simp] theorem exec_vmainDetect (dur now : Nat) (ok : Bool) : exec (.vmainDetect dur now ok) s = .next (vmainDetect dur now ok s) := rfl
@[simp] theorem exec_holdupEnd : exec .holdupEnd s = .next (holdupEnd s) := rfl
@[simp] theorem exec_rstNReset : exec .rstNReset s = .next (rstNReset s) := rfl
@[simp] theorem exec_rstNGlitch : exec .rstNGlitch s = .next (rstNGlitch s) := rfl
@[simp] theorem exec_resetExit (pos slot : Nat) : exec (.resetExit pos slot) s = .next (resetExit pos slot s) := rfl
@[simp] theorem exec_bootStepComplete (r : BootRep) : exec (.bootStepComplete r) s = .next (bootStepComplete r s) := rfl
@[simp] theorem exec_bootTamper (source : Nat) : exec (.bootTamper source) s = .next (bootTamper source s) := rfl
@[simp] theorem exec_watchdogExpiry : exec .watchdogExpiry s = .next (watchdogExpiry s) := rfl
@[simp] theorem exec_lockstepError : exec .lockstepError s = .next (lockstepError s) := rfl
@[simp] theorem exec_heartbeatExpiry : exec .heartbeatExpiry s = .next (heartbeatExpiry s) := rfl
@[simp] theorem exec_heartbeatLatchFound : exec .heartbeatLatchFound s = .next (heartbeatLatchFound s) := rfl
@[simp] theorem exec_perst : exec .perst s = .next s.hostReset := rfl
@[simp] theorem exec_flrD3hot : exec .flrD3hot s = .next s.hostReset := rfl
@[simp] theorem exec_busMasterDisable : exec .busMasterDisable s = .next (busMasterDisable s) := rfl
@[simp] theorem exec_pasidDisable : exec .pasidDisable s = .next (pasidDisable s) := rfl
@[simp] theorem exec_pcieLinkDown : exec .pcieLinkDown s = .next (pcieLinkDown s) := rfl
@[simp] theorem exec_custPeerRise (stamp : Nat) : exec (.custPeerRise stamp) s = .next (custPeerRise stamp s) := rfl
@[simp] theorem exec_custodyCollision : exec .custodyCollision s = .next (custodyCollision s) := rfl
@[simp] theorem exec_custodySample : exec .custodySample s = .next (custodySample s) := rfl
@[simp] theorem exec_peerLineDisagree : exec .peerLineDisagree s = .next (peerLineDisagree s) := rfl
@[simp] theorem exec_tickBoundary (doBad : Nat) (mismatch : Bool) (crcFail : Nat) : exec (.tickBoundary doBad mismatch crcFail) s = .next (tickBoundary doBad mismatch crcFail s) := rfl
@[simp] theorem exec_vote (differ : Option Nat) : exec (.vote differ) s = .next (vote differ s) := rfl
@[simp] theorem exec_rodResultsDelivered (rod : Nat) (overs : List Nat) (corr : Nat) (upset : List (Nat × Nat)) : exec (.rodResultsDelivered rod overs corr upset) s = .next (rodResultsDelivered rod overs corr upset s) := rfl
@[simp] theorem exec_sramUncorrectable (rod word : Nat) : exec (.sramUncorrectable rod word) s = .next (sramUncorrectable rod word s) := rfl
@[simp] theorem exec_rodSelftestDone (rod : Nat) (pass : Bool) : exec (.rodSelftestDone rod pass) s = .next (rodSelftestDone rod pass s) := rfl
@[simp] theorem exec_rodCopyRoundEnd (rod written : Nat) (uncorr : Bool) : exec (.rodCopyRoundEnd rod written uncorr) s = .next (rodCopyRoundEnd rod written uncorr s) := rfl
@[simp] theorem exec_rodCopyFinalRound (rod written : Nat) (uncorr : Bool) : exec (.rodCopyFinalRound rod written uncorr) s = .next (rodCopyFinalRound rod written uncorr s) := rfl
@[simp] theorem exec_beamSelftest (failed : Option Nat) : exec (.beamSelftest failed) s = .next (beamSelftest failed s) := rfl
@[simp] theorem exec_diagSelftest (test : Nat) (pass : Bool) : exec (.diagSelftest test pass) s = .next (diagSelftest test pass s) := rfl
@[simp] theorem exec_gateChannelDisagree (detail : Nat) : exec (.gateChannelDisagree detail) s = .next ((s.setGate false).raise1 0x0007 3 detail) := rfl
@[simp] theorem exec_timeCounterMismatch : exec .timeCounterMismatch s = .next (s.raise1 0x0404 3 0) := rfl
@[simp] theorem exec_macFrameRx (port : Nat) (frame : RxWire) (fecCorr fecUncorr : Nat) (luck : List Nat) : exec (.macFrameRx port frame fecCorr fecUncorr luck) s = .next (macFrameRx port frame fecCorr fecUncorr luck s) := rfl
@[simp] theorem exec_pauseRx (port quanta now : Nat) : exec (.pauseRx port quanta now) s = .next (if s.operates port then (s.advance (now * nsUnit)).pauseFrame port quanta now else s) := rfl
@[simp] theorem exec_pfcRx (port classes : Nat) (quanta : List Nat) (now : Nat) : exec (.pfcRx port classes quanta now) s = .next (if s.operates port then (s.advance (now * nsUnit)).pfcFrame port classes quanta now else s) := rfl
@[simp] theorem exec_pauseRefresh (port : Nat) : exec (.pauseRefresh port) s = .next (pauseRefresh port s) := rfl
@[simp] theorem exec_supervisionRx (pair node now : Nat) : exec (.supervisionRx pair node now) s = .next (if pair < 4 && s.redundant (2 * pair) then (s.advance (now * nsUnit)).supervised pair node now else s) := rfl
@[simp] theorem exec_supervisionTx (pair : Nat) : exec (.supervisionTx pair) s = .next (supervisionTx pair s) := rfl
@[simp] theorem exec_dupEntryForget (pair src : Nat) : exec (.dupEntryForget pair src) s = .next (dupEntryForget pair src s) := rfl
@[simp] theorem exec_nodeEntryAge (pair node : Nat) : exec (.nodeEntryAge pair node) s = .next (nodeEntryAge pair node s) := rfl
@[simp] theorem exec_modAbsLow (port : Nat) (ident : OptIdent) : exec (.modAbsLow port ident) s = .next (modAbsLow port ident s) := rfl
@[simp] theorem exec_modAbsHigh (port : Nat) : exec (.modAbsHigh port) s = .next (modAbsHigh port s) := rfl
@[simp] theorem exec_txFaultAssert (port : Nat) : exec (.txFaultAssert port) s = .next (txFaultAssert port s) := rfl
@[simp] theorem exec_txFaultClear (port : Nat) : exec (.txFaultClear port) s = .next (txFaultClear port s) := rfl
@[simp] theorem exec_txDisablePulse (port : Nat) : exec (.txDisablePulse port) s = .next (txDisablePulse port s) := rfl
@[simp] theorem exec_cageOvercurrent (port : Nat) : exec (.cageOvercurrent port) s = .next (cageOvercurrent port s) := rfl
@[simp] theorem exec_cageRetry (port : Nat) : exec (.cageRetry port) s = .next (cageRetry port s) := rfl
@[simp] theorem exec_ddmRead (port temp tx rx : Nat) (alarm : Bool) : exec (.ddmRead port temp tx rx alarm) s = .next (ddmRead port temp tx rx alarm s) := rfl
@[simp] theorem exec_linkUp (port : Nat) (anDone pauseRes : Bool) : exec (.linkUp port anDone pauseRes) s = .next (linkUp port anDone pauseRes s) := rfl
@[simp] theorem exec_linkDown (port : Nat) (los : Bool) : exec (.linkDown port los) s = .next (linkDown port los s) := rfl
@[simp] theorem exec_linkHoldEnd (port : Nat) : exec (.linkHoldEnd port) s = .next (linkHoldEnd port s) := rfl
@[simp] theorem exec_portNotUpTimer (port : Nat) : exec (.portNotUpTimer port) s = .next (portNotUpTimer port s) := rfl
@[simp] theorem exec_plcaStatusLost (port : Nat) : exec (.plcaStatusLost port) s = .next (plcaStatusLost port s) := rfl
@[simp] theorem exec_t1sCollision (port now : Nat) (late : Bool) : exec (.t1sCollision port now late) s = .next (t1sCollision port now late s) := rfl
@[simp] theorem exec_mkpduRx (pdu : MkPdu) : exec (.mkpduRx pdu) s = .next (mkpduRx pdu s) := rfl
@[simp] theorem exec_mkaPeerLost (port : Nat) : exec (.mkaPeerLost port) s = .next (mkaPeerLost port s) := rfl
@[simp] theorem exec_pnExhausted (port : Nat) : exec (.pnExhausted port) s = .next (pnExhausted port s) := rfl
@[simp] theorem exec_egressAdmit (frame port : Nat) (draws : List Nat) : exec (.egressAdmit frame port draws) s = .next (egressAdmit frame port draws s) := rfl
@[simp] theorem exec_reseqTimeout (port src tc : Nat) (draws : List Nat) : exec (.reseqTimeout port src tc draws) s = .next (reseqTimeout port src tc draws s) := rfl
@[simp] theorem exec_planeError (plane frame : Nat) : exec (.planeError plane frame) s = .next (planeError plane frame s) := rfl
@[simp] theorem exec_frameExpiry (frame port : Nat) : exec (.frameExpiry frame port) s = .next (frameExpiry frame port s) := rfl
@[simp] theorem exec_frameTransmit (port now : Nat) (luck : List Nat) : exec (.frameTransmit port now luck) s = .next (frameTransmit port now luck s) := rfl
@[simp] theorem exec_frameTxDone (port now : Nat) : exec (.frameTxDone port now) s = .next (frameTxDone port now s) := rfl
@[simp] theorem exec_pfcRequestChange (tc : Nat) : exec (.pfcRequestChange tc) s = .next (pfcRequestChange tc s) := rfl
@[simp] theorem exec_beadAudit (lost doubled : List Nat) : exec (.beadAudit lost doubled) s = .next (beadAudit lost doubled s) := rfl
@[simp] theorem exec_gclSwitch (port : Nat) : exec (.gclSwitch port) s = .next (gclSwitch port s) := rfl
@[simp] theorem exec_svIntake (frame : SvFrame) : exec (.svIntake frame) s = .next (svIntake frame s) := rfl
@[simp] theorem exec_gooseIntake (frame : GooseFrame) : exec (.gooseIntake frame) s = .next (gooseIntake frame s) := rfl
@[simp] theorem exec_ownSvBuild (stream : Nat) : exec (.ownSvBuild stream) s = .next (ownSvBuild stream s) := rfl
@[simp] theorem exec_gooseRetransmit (block : Nat) : exec (.gooseRetransmit block) s = .next (gooseRetransmit block s) := rfl
@[simp] theorem exec_publishRelease (len : Nat) : exec (.publishRelease len) s = .next (publishRelease len s) := rfl
@[simp] theorem exec_helloTx : exec .helloTx s = .next (helloTx s) := rfl
@[simp] theorem exec_helloRx (lane seq : Nat) (h : Hello) : exec (.helloRx lane seq h) s = .next (helloRx lane seq h s) := rfl
@[simp] theorem exec_handshakeLoss : exec .handshakeLoss s = .next s.handshakeLost := rfl
@[simp] theorem exec_digestRx (lane seq : Nat) (d : Digest) (delay : Nat) : exec (.digestRx lane seq d delay) s = .next (digestRx lane seq d delay s) := rfl
@[simp] theorem exec_digestSettleTimeout (tick : Nat) : exec (.digestSettleTimeout tick) s = .next (digestSettleTimeout tick s) := rfl
@[simp] theorem exec_resyncReqRx (lane seq : Nat) : exec (.resyncReqRx lane seq) s = .next (resyncReqRx lane seq s) := rfl
@[simp] theorem exec_resyncReqRepeat : exec .resyncReqRepeat s = .next (resyncReqRepeat s) := rfl
@[simp] theorem exec_resyncNakRx (lane seq reason : Nat) : exec (.resyncNakRx lane seq reason) s = .next (resyncNakRx lane seq reason s) := rfl
@[simp] theorem exec_resyncCopyRx (lane seq : Nat) (entries : List (Nat × Nat)) (seqs : List (List Nat)) (all : Bool) : exec (.resyncCopyRx lane seq entries seqs all) s = .next (resyncCopyRx lane seq entries seqs all s) := rfl
@[simp] theorem exec_resyncEndRx (lane seq tick sdig stamp : Nat) : exec (.resyncEndRx lane seq tick sdig stamp) s = .next (resyncEndRx lane seq tick sdig stamp s) := rfl
@[simp] theorem exec_resyncRetry : exec .resyncRetry s = .next (resyncRetry s) := rfl
@[simp] theorem exec_resyncFailLimit (backlog : Bool) : exec (.resyncFailLimit backlog) s = .next (resyncFailLimit backlog s) := rfl
@[simp] theorem exec_takeoverReqTx : exec .takeoverReqTx s = .next (takeoverReqTx s) := rfl
@[simp] theorem exec_takeoverReqRx (lane seq : Nat) : exec (.takeoverReqRx lane seq) s = .next (takeoverReqRx lane seq s) := rfl
@[simp] theorem exec_pairFaultRx (lane seq : Nat) (r : FaultRec) : exec (.pairFaultRx lane seq r) s = .next (pairFaultRx lane seq r s) := rfl
@[simp] theorem exec_releaseNoteRx (lane seq : Nat) : exec (.releaseNoteRx lane seq) s = .next (releaseNoteRx lane seq s) := rfl
@[simp] theorem exec_tokenMsgRx (lane seq : Nat) (e : Option TokenEntry) (ack : Nat) : exec (.tokenMsgRx lane seq e ack) s = .next (tokenMsgRx lane seq e ack s) := rfl
@[simp] theorem exec_tokenResend : exec .tokenResend s = .next (tokenResend s) := rfl
@[simp] theorem exec_soloWaitExpiry : exec .soloWaitExpiry s = .next (soloWaitExpiry s) := rfl
@[simp] theorem exec_orphanTimeout : exec .orphanTimeout s = .next (orphanTimeout s) := rfl
@[simp] theorem exec_safeHoldExpiry : exec .safeHoldExpiry s = .next (safeHoldExpiry s) := rfl
@[simp] theorem exec_serviceLimitReached : exec .serviceLimitReached s = .next (serviceLimitReached s) := rfl
@[simp] theorem exec_faultF3Raise (code cls inst detail : Nat) : exec (.faultF3Raise code cls inst detail) s = .next (faultF3Raise code cls inst detail s) := rfl
@[simp] theorem exec_hoCopyRx (m : HoMsg) (stamp : Nat) : exec (.hoCopyRx m stamp) s = .next (hoCopyRx m stamp s) := rfl
@[simp] theorem exec_hoDigestRx (m : HoMsg) : exec (.hoDigestRx m) s = .next (hoDigestRx m s) := rfl
@[simp] theorem exec_hoDigestMissing : exec .hoDigestMissing s = .next (hoDigestMissing s) := rfl
@[simp] theorem exec_hoCopyDeadline : exec .hoCopyDeadline s = .next (hoCopyDeadline s) := rfl
@[simp] theorem exec_hoCompareTimeout : exec .hoCompareTimeout s = .next (hoCompareTimeout s) := rfl
@[simp] theorem exec_hoReadyRx (m : HoMsg) : exec (.hoReadyRx m) s = .next (hoReadyRx m s) := rfl
@[simp] theorem exec_hoGrantRx (m : HoMsg) : exec (.hoGrantRx m) s = .next (hoGrantRx m s) := rfl
@[simp] theorem exec_hoAcceptRx (m : HoMsg) : exec (.hoAcceptRx m) s = .next (hoAcceptRx m s) := rfl
@[simp] theorem exec_hoReleaseTx : exec .hoReleaseTx s = .next (hoReleaseTx s) := rfl
@[simp] theorem exec_hoReleaseRx (m : HoMsg) (stamp : Nat) : exec (.hoReleaseRx m stamp) s = .next (hoReleaseRx m stamp s) := rfl
@[simp] theorem exec_hoTakenRx (m : HoMsg) : exec (.hoTakenRx m) s = .next (hoTakenRx m s) := rfl
@[simp] theorem exec_hoNotTakenRx (m : HoMsg) : exec (.hoNotTakenRx m) s = .next (hoNotTakenRx m s) := rfl
@[simp] theorem exec_hoCancelRx (m : HoMsg) : exec (.hoCancelRx m) s = .next (hoCancelRx m s) := rfl
@[simp] theorem exec_hoDoubt : exec .hoDoubt s = .next (hoDoubt s) := rfl
@[simp] theorem exec_hoQueryRx (m : HoMsg) (path : Nat) : exec (.hoQueryRx m path) s = .next (hoQueryRx m path s) := rfl
@[simp] theorem exec_statusRead (q : Req) (len : Nat) : exec (.statusRead q len) s = .next (statusRead q len s) := rfl
@[simp] theorem exec_journalRead (q : Req) (sel start len : Nat) : exec (.journalRead q sel start len) s = .next (journalRead q sel start len s) := rfl
@[simp] theorem exec_counterRead (q : Req) (block : Nat) (clear : Bool) (len : Nat) : exec (.counterRead q block clear len) s = .next (counterRead q block clear len s) := rfl
@[simp] theorem exec_cfgStage (q : Req) (rev : Revision) : exec (.cfgStage q rev) s = .next (cfgStage q rev s) := rfl
@[simp] theorem exec_cfgActivate (q : Req) (num : Nat) : exec (.cfgActivate q num) s = .next (cfgActivate q num s) := rfl
@[simp] theorem exec_cfgCancel (q : Req) (num : Nat) : exec (.cfgCancel q num) s = .next (cfgCancel q num s) := rfl
@[simp] theorem exec_fwStage (q : Req) (img : FwImage) : exec (.fwStage q img) s = .next (fwStage q img s) := rfl
@[simp] theorem exec_moduleReset (q : Req) : exec (.moduleReset q) s = .next (moduleResetCmd q s) := rfl
@[simp] theorem exec_custodyRelease (q : Req) (force : Bool) : exec (.custodyRelease q force) s = .next (custodyRelease q force s) := rfl
@[simp] theorem exec_serviceEnter (q : Req) (len : Nat) (keepCustody proofOk : Bool) : exec (.serviceEnter q len keepCustody proofOk) s = .next (serviceEnter q len keepCustody proofOk s) := rfl
@[simp] theorem exec_serviceLeave (q : Req) : exec (.serviceLeave q) s = .next (serviceLeave q s) := rfl
@[simp] theorem exec_forceSet (q : Req) (addr : Nat) (value : Bool) : exec (.forceSet q addr value) s = .next (forceSet q addr value s) := rfl
@[simp] theorem exec_forceClear (q : Req) (addr : Nat) : exec (.forceClear q addr) s = .next (forceClear q addr s) := rfl
@[simp] theorem exec_injectStart (q : Req) (len : Nat) (d : InjDesc) : exec (.injectStart q len d) s = .next (injectStart q len d s) := rfl
@[simp] theorem exec_injectStop (q : Req) (id : Nat) : exec (.injectStop q id) s = .next (injectStop q id s) := rfl
@[simp] theorem exec_injectEnd (id now : Nat) : exec (.injectEnd id now) s = .next (injectEnd id now s) := rfl
@[simp] theorem exec_slotLoad (q : Req) (slot len key : Nat) (img : FnImage) : exec (.slotLoad q slot len key img) s = .next (slotLoad q slot len key img s) := rfl
@[simp] theorem exec_slotAdmit (q : Req) (slot : Nat) : exec (.slotAdmit q slot) s = .next (slotAdmit q slot s) := rfl
@[simp] theorem exec_slotUnload (q : Req) (slot : Nat) : exec (.slotUnload q slot) s = .next (slotUnload q slot s) := rfl
@[simp] theorem exec_slotShadow (q : Req) (slot : Nat) : exec (.slotShadow q slot) s = .next (slotShadow q slot s) := rfl
@[simp] theorem exec_slotRun (q : Req) (slot : Nat) : exec (.slotRun q slot) s = .next (slotRun q slot s) := rfl
@[simp] theorem exec_slotStop (q : Req) (slot : Nat) : exec (.slotStop q slot) s = .next (slotStop q slot s) := rfl
@[simp] theorem exec_slotGroup (q : Req) (slot group mode : Nat) (clear : Bool) : exec (.slotGroup q slot group mode clear) s = .next (slotGroup q slot group mode clear s) := rfl
@[simp] theorem exec_cleLoad (q : Req) (len key : Nat) (img : CleImage) : exec (.cleLoad q len key img) s = .next (cleLoad q len key img s) := rfl
@[simp] theorem exec_cleStart (q : Req) (cold : Bool) : exec (.cleStart q cold) s = .next (cleStart q cold s) := rfl
@[simp] theorem exec_cleStop (q : Req) : exec (.cleStop q) s = .next (cleStopCmd q s) := rfl
@[simp] theorem exec_cleWrite (q : Req) (target value at' : Nat) : exec (.cleWrite q target value at') s = .next (cleWrite q target value at' s) := rfl
@[simp] theorem exec_sliceFreeze (q : Req) (slice buflen buf : Nat) : exec (.sliceFreeze q slice buflen buf) s = .next (sliceFreeze q slice buflen buf s) := rfl
@[simp] theorem exec_freezeComplete : exec .freezeComplete s = .next (freezeComplete s) := rfl
@[simp] theorem exec_sliceRestore (q : Req) (slice mode : Nat) (b : ImageBuf) : exec (.sliceRestore q slice mode b) s = .next (sliceRestore q slice mode b.len b.img s) := rfl
@[simp] theorem exec_handoverBegin (q : Req) (slice peer role path peerSlice : Nat) : exec (.handoverBegin q slice peer role path peerSlice) s = .next (handoverBegin q slice peer role path peerSlice s) := rfl
@[simp] theorem exec_handoverAbort (q : Req) (slice : Nat) : exec (.handoverAbort q slice) s = .next (handoverAbort q slice s) := rfl
@[simp] theorem exec_keyStage (q : Req) (r : KeyRecord) : exec (.keyStage q r) s = .next (keyStage q r s) := rfl
@[simp] theorem exec_keyVerify (q : Req) (slot method len : Nat) (proofOk : Bool) : exec (.keyVerify q slot method len proofOk) s = .next (keyVerify q slot method len proofOk s) := rfl
@[simp] theorem exec_keyPeerProof (slot : Nat) (arrived : Bool) (now : Nat) : exec (.keyPeerProof slot arrived now) s = .next (keyPeerProof slot arrived now s) := rfl
@[simp] theorem exec_keyCommit (q : Req) (slot : Nat) (destroy : Bool) : exec (.keyCommit q slot destroy) s = .next (keyCommit q slot destroy s) := rfl
@[simp] theorem exec_keyStageExpiry (slot now : Nat) : exec (.keyStageExpiry slot now) s = .next (keyStageExpiry slot now s) := rfl
@[simp] theorem exec_lifecycleAdvance (q : Req) (target serialByte : Nat) : exec (.lifecycleAdvance q target serialByte) s = .next (lifecycleAdvance q target serialByte s) := rfl
@[simp] theorem exec_rckModelLoad (q : Req) (len mode : Nat) (buf : List Nat) : exec (.rckModelLoad q len mode buf) s = .next (rckModelLoad q len mode buf s) := rfl
@[simp] theorem exec_rckSolveNow (q : Req) (cold : Bool) (now : Nat) : exec (.rckSolveNow q cold now) s = .next (rckSolveNow q cold now s) := rfl
@[simp] theorem exec_rckRulesLoad (q : Req) (len : Nat) (buf : List Nat) : exec (.rckRulesLoad q len buf) s = .next (rckRulesLoad q len buf s) := rfl
@[simp] theorem exec_recFetch (q : Req) (id part len off buf : Nat) : exec (.recFetch q id part len off buf) s = .next (recFetch q id part len off buf s) := rfl
@[simp] theorem exec_mailboxRelay (slice : Nat) (x : MbWork) : exec (.mailboxRelay slice x) s = .next (mailboxRelay slice x.next x.deliver s) := rfl
@[simp] theorem exec_mbCtrlWrite (slice data : Nat) : exec (.mbCtrlWrite slice data) s = .next (mbCtrlWrite slice data s) := rfl
@[simp] theorem exec_mbOutDb (slice data : Nat) : exec (.mbOutDb slice data) s = .next (mbOutDb slice data s) := rfl
@[simp] theorem exec_mbInDb (slice data : Nat) : exec (.mbInDb slice data) s = .next (mbInDb slice data s) := rfl
@[simp] theorem exec_mbEvclr (slice data : Nat) : exec (.mbEvclr slice data) s = .next (if slice < 256 && data % 2 = 1 then s.put (srcField (1216 + slice)) 0 else s) := rfl
@[simp] theorem exec_mailboxDmaError (slice : Nat) : exec (.mailboxDmaError slice) s = .next (if slice < 256 then s.mbStop slice else s) := rfl
@[simp] theorem exec_doorbell (slice k data : Nat) : exec (.doorbell slice k data) s = .next (doorbell slice k data s) := rfl
@[simp] theorem exec_evclr (slice k data : Nat) : exec (.evclr slice k data) s = .next (evclr slice k data s) := rfl
@[simp] theorem exec_ringEnable (ring data : Nat) : exec (.ringEnable ring data) s = .next (ringEnable ring data s) := rfl
@[simp] theorem exec_ringDisable (ring data : Nat) : exec (.ringDisable ring data) s = .next (ringDisable ring data s) := rfl
@[simp] theorem exec_ringStopDone (ring : Nat) : exec (.ringStopDone ring) s = .next (ringStopDone ring s) := rfl
@[simp] theorem exec_txFetch (ring : Nat) (entries : List TxEntry) (bytes : List Nat) (now : Nat) (luck : List Nat) : exec (.txFetch ring entries bytes now luck) s = .next (txFetch ring entries bytes now luck s) := rfl
@[simp] theorem exec_rxPlace (lens : List Nat) (now : Nat) (luck : List Nat) : exec (.rxPlace lens now luck) s = .next (rxPlace lens now luck s) := rfl
@[simp] theorem exec_cmdFetch (ring opcode version : Nat) : exec (.cmdFetch ring opcode version) s = .next (cmdFetch ring opcode version s) := rfl
@[simp] theorem exec_evqWrite : exec .evqWrite s = .next (evqWrite s) := rfl
@[simp] theorem exec_ringDmaError (ring kind addr : Nat) : exec (.ringDmaError ring kind addr) s = .next (ringDmaError ring kind addr s) := rfl
@[simp] theorem exec_coalTimerExpiry (ring : Nat) : exec (.coalTimerExpiry ring) s = .next (coalTimerExpiry ring s) := rfl
@[simp] theorem exec_evtSrcWrite (source : Nat) (data : Word) : exec (.evtSrcWrite source data) s = .next (evtSrcWrite source data s) := rfl
@[simp] theorem exec_msixSignal (source : Nat) : exec (.msixSignal source) s = .next (if source < 1472 then s.event source else s) := rfl
@[simp] theorem exec_blockCommitWrite (block : Nat) (discard : Bool) : exec (.blockCommitWrite block discard) s = .next (blockCommitWrite block discard s) := rfl
@[simp] theorem exec_blockDiscardWrite (block : Nat) : exec (.blockDiscardWrite block) s = .next (blockDiscardWrite block s) := rfl
@[simp] theorem exec_resetCtrlWrite (data : Word) : exec (.resetCtrlWrite data) s = .next (resetCtrlWrite data s) := rfl
@[simp] theorem exec_sliceValidWrite (slice : Nat) (data : Word) : exec (.sliceValidWrite slice data) s = .next (sliceValidWrite slice data s) := rfl
@[simp] theorem exec_sviEnable : exec .sviEnable s = .next (sviEnable s) := rfl
@[simp] theorem exec_sviDisable : exec .sviDisable s = .next (sviDisable s) := rfl
@[simp] theorem exec_rodEnableChange (en : Bool) : exec (.rodEnableChange en) s = .next (rodEnableChange en s) := rfl
@[simp] theorem exec_portEnableChange (port : Nat) (ident : OptIdent) : exec (.portEnableChange port ident) s = .next (portEnableChange port ident s) := rfl
@[simp] theorem exec_incrHiWrite (data : Word) : exec (.incrHiWrite data) s = .next (incrHiWrite data s) := rfl
@[simp] theorem exec_stepHiWrite (data : Word) : exec (.stepHiWrite data) s = .next (stepHiWrite data s) := rfl
@[simp] theorem exec_stepApply (now : Nat) : exec (.stepApply now) s = .next (stepApply now s) := rfl
@[simp] theorem exec_gclChangeWrite (port : Nat) (data : Word) : exec (.gclChangeWrite port data) s = .next (gclChangeWrite port data s) := rfl
@[simp] theorem exec_gclDisable (port : Nat) : exec (.gclDisable port) s = .next (gclDisable port s) := rfl
@[simp] theorem exec_diedgePop : exec .diedgePop s = .next (diedgePop s) := rfl
@[simp] theorem exec_timeLatchRead (addr : Nat) : exec (.timeLatchRead addr) s = .next (timeLatchRead addr s) := rfl
@[simp] theorem exec_ptpSyncRx (m : ServoSample) : exec (.ptpSyncRx m) s = .next (ptpSyncRx m s) := rfl
@[simp] theorem exec_ptpAnnounceRx (m : Announce) : exec (.ptpAnnounceRx m) s = .next (ptpAnnounceRx m s) := rfl
@[simp] theorem exec_ptpPdelay (port : Nat) (x : PdelayTimes) : exec (.ptpPdelay port x) s = .next (ptpPdelay port x s) := rfl
@[simp] theorem exec_ptpSourceLoss : exec .ptpSourceLoss s = .next (ptpSourceLoss s) := rfl
@[simp] theorem exec_holdoverMaxExpiry : exec .holdoverMaxExpiry s = .next (holdoverMaxExpiry s) := rfl
@[simp] theorem exec_refMeasure (deviation : Int) : exec (.refMeasure deviation) s = .next (refMeasure deviation s) := rfl
@[simp] theorem exec_refLoss (deviation : Int) : exec (.refLoss deviation) s = .next (refLoss deviation s) := rfl
@[simp] theorem exec_ppsOutPulse : exec .ppsOutPulse s = .next (ppsOutPulse s) := rfl
@[simp] theorem exec_ppsInEdge (stamp : Nat) : exec (.ppsInEdge stamp) s = .next (ppsInEdge stamp s) := rfl
@[simp] theorem exec_diEdge (input : Nat) (falling : Bool) (stamp : Nat) : exec (.diEdge input falling stamp) s = .next (diEdge input falling stamp s) := rfl
@[simp] theorem exec_rtcWriteCross (counts : Nat) : exec (.rtcWriteCross counts) s = .next (rtcWriteCross counts s) := rfl
@[simp] theorem exec_rtcQueueFull : exec .rtcQueueFull s = .next (rtcQueueFull s) := rfl
@[simp] theorem exec_calSet (sub : Nat) : exec (.calSet sub) s = .next (calSet sub s) := rfl
@[simp] theorem exec_dstAdd : exec .dstAdd s = .next (dstAdd s) := rfl
@[simp] theorem exec_dstSubtract : exec .dstSubtract s = .next (dstSubtract s) := rfl
@[simp] theorem exec_calShift (back : Bool) (count : Nat) : exec (.calShift back count) s = .next (calShift back count s) := rfl
@[simp] theorem exec_osfClear : exec .osfClear s = .next (osfClear s) := rfl
@[simp] theorem exec_calSecondEdge (stamp : Nat) : exec (.calSecondEdge stamp) s = .next (calSecondEdge stamp s) := rfl
@[simp] theorem exec_oscStop : exec .oscStop s = .next s.setOsf := rfl
@[simp] theorem exec_wakeFire : exec .wakeFire s = .next (wakeFire s) := rfl
@[simp] theorem exec_pwronReqAssert : exec .pwronReqAssert s = .next (pwronReqAssert s) := rfl
@[simp] theorem exec_pwronTimeout : exec .pwronTimeout s = .next (pwronTimeout s) := rfl
@[simp] theorem exec_tamperActive (source sub : Nat) : exec (.tamperActive source sub) s = .next (tamperActive source sub s) := rfl
@[simp] theorem exec_tamperInactive (source : Nat) : exec (.tamperInactive source) s = .next (tamperInactive source s) := rfl
@[simp] theorem exec_tamperClear : exec .tamperClear s = .next (tamperClear s) := rfl
@[simp] theorem exec_nonceRead (now : Nat) : exec (.nonceRead now) s = .next (nonceRead now s) := rfl
@[simp] theorem exec_rodRearm (rod : Nat) : exec (.rodRearm rod) s = .next (rodRearm rod s) := rfl
@[simp] theorem exec_fdbInstall (index : Nat) : exec (.fdbInstall index) s = .next (fdbInstall index s) := rfl
@[simp] theorem exec_fdbRead (index : Nat) : exec (.fdbRead index) s = .next (fdbRead index s) := rfl
@[simp] theorem exec_gsubInstall (index : Nat) : exec (.gsubInstall index) s = .next (gsubInstall index s) := rfl
@[simp] theorem exec_gsubRead (index : Nat) : exec (.gsubRead index) s = .next (gsubRead index s) := rfl
@[simp] theorem exec_gcbInstall (index : Nat) : exec (.gcbInstall index) s = .next (gcbInstall index s) := rfl
@[simp] theorem exec_gcbRead (index : Nat) : exec (.gcbRead index) s = .next (gcbRead index s) := rfl
@[simp] theorem exec_chInstall (bin : Bool) (index : Nat) : exec (.chInstall bin index) s = .next (chInstall bin index s) := rfl
@[simp] theorem exec_chRead (bin : Bool) (index : Nat) : exec (.chRead bin index) s = .next (chRead bin index s) := rfl
@[simp] theorem exec_mptInstall (index : Nat) : exec (.mptInstall index) s = .next (mptInstall index s) := rfl
@[simp] theorem exec_mptRead (index : Nat) : exec (.mptRead index) s = .next (mptRead index s) := rfl
@[simp] theorem exec_keepRecord : exec .keepRecord s = .next (if s.st = stBoot then s.reject 16 0xDC 3 else match s.keepRec with | some r => s.setRec { r with keep := true } | none => s) := rfl
@[simp] theorem exec_releaseRecord : exec .releaseRecord s = .next (if s.st = stBoot then s.reject 16 0xDC 3 else match s.keepRec with | some r => s.setRec { r with keep := false } | none => s) := rfl
@[simp] theorem exec_deleteRecord : exec .deleteRecord s = .next (deleteRecord s) := rfl
@[simp] theorem exec_recFire : exec .recFire s = .next (recFire s) := rfl
@[simp] theorem exec_recArm : exec .recArm s = .next (recArmCmd s) := rfl
@[simp] theorem exec_recDisarm : exec .recDisarm s = .next (recDisarm s) := rfl
@[simp] theorem exec_recorderRow (tick : Nat) : exec (.recorderRow tick) s = .next (recorderRow tick s) := rfl
@[simp] theorem exec_settlementEnd : exec .settlementEnd s = .next (settlementEnd s) := rfl
@[simp] theorem exec_recordClose : exec .recordClose s = .next (recordClose s) := rfl
@[simp] theorem exec_rearmTimeout : exec .rearmTimeout s = .next (rearmTimeout s) := rfl
@[simp] theorem exec_flashSegmentCommit (id wear : Nat) (x : SegWrite) :
    exec (.flashSegmentCommit id wear x) s = .next (flashSegmentCommit id wear x.failed x.wave s) := rfl
@[simp] theorem exec_groupArmRx (m : GrpMsg) : exec (.groupArmRx m) s = .next (groupArmRx m s) := rfl
@[simp] theorem exec_groupFireRx (m : GrpMsg) (now : Nat) : exec (.groupFireRx m now) s = .next (groupFireRx m now s) := rfl
@[simp] theorem exec_waveTsRx (m : GrpMsg) (now : Nat) : exec (.waveTsRx m now) s = .next (waveTsRx m now s) := rfl
@[simp] theorem exec_wavefrontDetect (dets : List WaveDet) : exec (.wavefrontDetect dets) s = .next (wavefrontDetect dets s) := rfl
@[simp] theorem exec_farArrivalTimeout : exec .farArrivalTimeout s = .next (farArrivalTimeout s) := rfl
@[simp] theorem exec_waveCaptureClose : exec .waveCaptureClose s = .next (waveCaptureClose s) := rfl
@[simp] theorem exec_nrgWindowEnd (point : Nat) : exec (.nrgWindowEnd point) s = .next (nrgWindowEnd point s) := rfl
@[simp] theorem exec_nrgTick (point tick : Nat) : exec (.nrgTick point tick) s = .next (nrgTick point tick s) := rfl
@[simp] theorem exec_pulseStart (out now : Nat) : exec (.pulseStart out now) s = .next (pulseStart out now s) := rfl
@[simp] theorem exec_heatStep (meter now : Nat) : exec (.heatStep meter now) s = .next (heatStep meter now s) := rfl
@[simp] theorem exec_heatReportWrite (meter lph : Nat) : exec (.heatReportWrite meter lph) s = .next (heatReportWrite meter lph s) := rfl
@[simp] theorem exec_accSnapshot (heat : Bool) (index : Nat) : exec (.accSnapshot heat index) s = .next (accSnapshot heat index s) := rfl
@[simp] theorem exec_vigilSecond (second n : Nat) (sums : List (Nat × Nat × Nat × Nat)) : exec (.vigilSecond second n sums) s = .next (vigilSecond second n sums s) := rfl
@[simp] theorem exec_ledgerCommit (dur now : Nat) (ok : Bool) : exec (.ledgerCommit dur now ok) s = .next (ledgerTick dur now ok s) := rfl
@[simp] theorem exec_tallyAudit (late : List Nat) : exec (.tallyAudit late) s = .next (tallyAudit late s) := rfl
@[simp] theorem exec_perWriteDone (ok : Bool) (now : Nat) : exec (.perWriteDone ok now) s = .next ((s.advance (now * nsUnit)).popWrite ok) := rfl
@[simp] theorem exec_loopExecute (loop tick : Nat) : exec (.loopExecute loop tick) s = .next (loopExecute loop tick s) := rfl
@[simp] theorem exec_loopOpClose (loop : Nat) : exec (.loopOpClose loop) s = .next (s.loopOp loop 1) := rfl
@[simp] theorem exec_loopOpOpen (loop : Nat) : exec (.loopOpOpen loop) s = .next (s.loopOp loop 2) := rfl
@[simp] theorem exec_loopOpOff (loop : Nat) : exec (.loopOpOff loop) s = .next (s.loopOp loop 3) := rfl
@[simp] theorem exec_deviceReportRx (src type ch status position value now : Nat) : exec (.deviceReportRx src type ch status position value now) s = .next (deviceReportRx src type ch status position value now s) := rfl
@[simp] theorem exec_deviceReportStale (dev ch now : Nat) : exec (.deviceReportStale dev ch now) s = .next (deviceReportStale dev ch now s) := rfl
@[simp] theorem exec_solveStart (now : Nat) : exec (.solveStart now) s = .next (solveStartRow now s) := rfl
@[simp] theorem exec_solveEnd (r : SolveResult) : exec (.solveEnd r) s = .next (solveEnd r s) := rfl
@[simp] theorem exec_setpointRelease (now : Nat) (dmaFail : List Nat) : exec (.setpointRelease now dmaFail) s = .next (setpointRelease now dmaFail s) := rfl
@[simp] theorem exec_headroomRead (now : Nat) (dmaFail : List Nat) : exec (.headroomRead now dmaFail) s = .next (headroomRead now dmaFail s) := rfl
@[simp] theorem exec_adcTrigger (trig : AdcTrig) (start : Nat) (delayed : Bool) : exec (.adcTrigger trig start delayed) s = .next (adcTrigger trig start delayed s) := rfl
@[simp] theorem exec_adcCmdTrig (start : Nat) (delayed : Bool) : exec (.adcCmdTrig start delayed) s = .next (adcCmdTrig start delayed s) := rfl
@[simp] theorem exec_adcCmdStop : exec .adcCmdStop s = .next (adcCmdStop s) := rfl
@[simp] theorem exec_adcResult (codes : List (Nat × List Int)) : exec (.adcResult codes) s = .next (adcResult codes s) := rfl
@[simp] theorem exec_adcMonitorPair (readings : List (Nat × Int)) : exec (.adcMonitorPair readings) s = .next (adcMonitorPair readings s) := rfl
@[simp] theorem exec_modTempEval : exec .modTempEval s = .next (modTempEval s) := rfl
@[simp] theorem exec_modChannelFault (chan : Nat) (ev : ModEvent) : exec (.modChannelFault chan ev) s = .next (modChannelFault chan ev s) := rfl
@[simp] theorem exec_modVddLimit : exec .modVddLimit s = .next (if s.mainAbsent then s else s.raise1 0x0E04 2 0) := rfl
@[simp] theorem exec_tempFault (plate die : Int) : exec (.tempFault plate die) s = .next (tempFault plate die s) := rfl
@[simp] theorem exec_registerWrite (addr : Nat) (data : Word) (bytes : Nat) : exec (.registerWrite addr data bytes) s = .next (registerWrite addr data bytes s) := rfl
@[simp] theorem exec_sampleInstant (di : Nat) (fine : List FineIn) : exec (.sampleInstant di fine) s = .next (sampleInstant di fine s) := rfl
@[simp] theorem exec_sramScrub (rod corr : Nat) : exec (.sramScrub rod corr) s = .next (sramScrub rod corr s) := rfl
@[simp] theorem exec_ptpSyncTx (x : SyncTx) : exec (.ptpSyncTx x) s = .next (ptpSyncTx x.port x.pcs s) := rfl
@[simp] theorem exec_mkaHelloTx : exec .mkaHelloTx s = .next (mkaHelloTx s) := rfl
@[simp] theorem exec_backupDomainPowerUp : exec .backupDomainPowerUp s = .next (backupDomainPowerUp s) := rfl
@[simp] theorem exec_pcieLinkChange (width speed : Nat) : exec (.pcieLinkChange width speed) s = .next (pcieLinkChange width speed s) := rfl
@[simp] theorem exec_busMasterEnable (pasid : Bool) : exec (.busMasterEnable pasid) s = .next (busMasterEnable pasid s) := rfl
@[simp] theorem exec_msixVectorUnmask (vector : Nat) : exec (.msixVectorUnmask vector) s = .next (msixVectorUnmask vector s) := rfl
@[simp] theorem exec_registerRead (a : BarRead) (counts : Nat) :
    exec (.registerRead a counts) s = .next (registerRead a.addr a.width counts s) := rfl
@[simp] theorem exec_custPeerFall (stamp : Nat) : exec (.custPeerFall stamp) s = .next (custPeerFall stamp s) := rfl
@[simp] theorem exec_plcaStatusUp (port : Nat) : exec (.plcaStatusUp port) s = .next (plcaStatusUp port s) := rfl
@[simp] theorem exec_faultTimerExpiry (code unit detail : Nat) (raised : Bool) (now : Nat) : exec (.faultTimerExpiry code unit detail raised now) s = .next (faultTimerExpiry code unit detail raised now s) := rfl
@[simp] theorem exec_hardwareParityError (code unit addr : Nat) : exec (.hardwareParityError code unit addr) s = .next (hardwareParityError code unit addr s) := rfl
@[simp] theorem exec_destroyRetry (slot gen : Nat) (ok : Bool) : exec (.destroyRetry slot gen ok) s = .next (destroyRetry slot gen ok s) := rfl
@[simp] theorem exec_tamperLoopTest (bad0 bad1 : Bool) (x : TamperSense) (failed : List Nat) :
    exec (.tamperLoopTest bad0 bad1 x failed) s = .next (tamperLoopTest bad0 bad1 x.caseOpen x.temp x.sub failed s) := rfl

end Sys2Proof.Machine
end

