-- ==== Sys2Proof/Laws/Regs.lean ====
section
/-! SUPPORT. Laws of the register store: a read after a write, fields of words, the canonical form. -/

namespace Sys2Proof

/-! ### Fields of words -/

theorem Word.field_eq (w : Word) (lo width : Nat) : w.field lo width = w.toNat / 2 ^ lo % 2 ^ width := by
  simp [Word.field, Nat.shiftRight_eq_div_pow]

/-- A field depends only on the bits below its end. -/
theorem field_mod_end (x lo width : Nat) : x / 2 ^ lo % 2 ^ width = x % 2 ^ (lo + width) / 2 ^ lo := by
  rw [Nat.pow_add, Nat.mod_mul_right_div_self]

theorem Word.setField_toNat (w : Word) {lo width : Nat} (v : Nat) (h : lo + width ≤ 32) :
    (w.setField lo width v).toNat = w.toNat % 2 ^ lo + v % 2 ^ width * 2 ^ lo + w.toNat / 2 ^ (lo + width) * 2 ^ (lo + width) := by
  unfold Word.setField
  rw [BitVec.toNat_ofNat, Nat.shiftRight_eq_div_pow, Nat.mod_eq_of_lt]
  have h1 : w.toNat % 2 ^ lo < 2 ^ lo := Nat.mod_lt _ (Nat.two_pow_pos _)
  have h2 : v % 2 ^ width < 2 ^ width := Nat.mod_lt _ (Nat.two_pow_pos _)
  have h3 : v % 2 ^ width * 2 ^ lo + 2 ^ lo ≤ 2 ^ (lo + width) := by
    rw [Nat.pow_add, Nat.mul_comm (2 ^ lo), ← Nat.succ_mul]
    exact Nat.mul_le_mul_right _ h2
  have h4 : w.toNat < 2 ^ (lo + width) * 2 ^ (32 - (lo + width)) := by
    rw [← Nat.pow_add, Nat.add_sub_cancel' h]; exact w.isLt
  have h5 : w.toNat / 2 ^ (lo + width) < 2 ^ (32 - (lo + width)) := Nat.div_lt_of_lt_mul h4
  have h6 : (w.toNat / 2 ^ (lo + width) + 1) * 2 ^ (lo + width) ≤ 2 ^ 32 := by
    calc (w.toNat / 2 ^ (lo + width) + 1) * 2 ^ (lo + width)
        ≤ 2 ^ (32 - (lo + width)) * 2 ^ (lo + width) := Nat.mul_le_mul_right _ h5
      _ = 2 ^ 32 := by rw [← Nat.pow_add, Nat.sub_add_cancel h]
  rw [Nat.add_mul] at h6
  omega

/-- A field reads the value set, cut to its width. -/
theorem Word.field_setField (w : Word) {lo width : Nat} (v : Nat) (h : lo + width ≤ 32) :
    (w.setField lo width v).field lo width = v % 2 ^ width := by
  have h1 : w.toNat % 2 ^ lo < 2 ^ lo := Nat.mod_lt _ (Nat.two_pow_pos _)
  rw [Word.field_eq, Word.setField_toNat w v h]
  have e : w.toNat % 2 ^ lo + v % 2 ^ width * 2 ^ lo + w.toNat / 2 ^ (lo + width) * 2 ^ (lo + width) =
      w.toNat % 2 ^ lo + (v % 2 ^ width + w.toNat / 2 ^ (lo + width) * 2 ^ width) * 2 ^ lo := by
    rw [Nat.pow_add]; simp only [Nat.mul_add, Nat.mul_assoc, Nat.mul_comm, Nat.add_assoc]
  rw [e, Nat.add_mul_div_right _ _ (Nat.two_pow_pos _), Nat.div_eq_of_lt h1, Nat.zero_add, Nat.add_mul_mod_self_right, Nat.mod_mod]

/-- A field below the one set keeps its value. -/
theorem Word.field_setField_below (w : Word) {lo width lo' width' : Nat} (v : Nat) (h : lo + width ≤ 32) (hb : lo' + width' ≤ lo) :
    (w.setField lo width v).field lo' width' = w.field lo' width' := by
  rw [Word.field_eq, Word.field_eq, Word.setField_toNat w v h, field_mod_end, field_mod_end w.toNat]
  congr 1
  have hd : 2 ^ (lo' + width') ∣ 2 ^ lo := Nat.pow_dvd_pow 2 hb
  have e : w.toNat % 2 ^ lo + v % 2 ^ width * 2 ^ lo + w.toNat / 2 ^ (lo + width) * 2 ^ (lo + width) =
      w.toNat % 2 ^ lo + (v % 2 ^ width + w.toNat / 2 ^ (lo + width) * 2 ^ width) * 2 ^ lo := by
    rw [Nat.pow_add]; simp only [Nat.mul_add, Nat.mul_assoc, Nat.mul_comm, Nat.add_assoc]
  rw [e]
  obtain ⟨c, hc⟩ := hd
  rw [hc, ← Nat.mul_assoc, Nat.mul_right_comm, Nat.add_mul_mod_self_right, ← hc, Nat.mod_mod_of_dvd _ (Nat.pow_dvd_pow 2 hb)]

/-- A field above the one set keeps its value. -/
theorem Word.field_setField_above (w : Word) {lo width lo' width' : Nat} (v : Nat) (h : lo + width ≤ 32) (ha : lo + width ≤ lo') :
    (w.setField lo width v).field lo' width' = w.field lo' width' := by
  rw [Word.field_eq, Word.field_eq, Word.setField_toNat w v h]
  congr 1
  have h1 : w.toNat % 2 ^ lo < 2 ^ lo := Nat.mod_lt _ (Nat.two_pow_pos _)
  have h2 : v % 2 ^ width < 2 ^ width := Nat.mod_lt _ (Nat.two_pow_pos _)
  have h3 : v % 2 ^ width * 2 ^ lo + 2 ^ lo ≤ 2 ^ (lo + width) := by
    rw [Nat.pow_add, Nat.mul_comm (2 ^ lo), ← Nat.succ_mul]
    exact Nat.mul_le_mul_right _ h2
  obtain ⟨d, rfl⟩ := Nat.exists_eq_add_of_le ha
  rw [Nat.pow_add 2 (lo + width) d, ← Nat.div_div_eq_div_mul, ← Nat.div_div_eq_div_mul, Nat.add_mul_div_right _ _ (Nat.two_pow_pos _)]
  have h7 : (w.toNat % 2 ^ lo + v % 2 ^ width * 2 ^ lo) / 2 ^ (lo + width) = 0 := Nat.div_eq_of_lt (by omega)
  rw [h7, Nat.zero_add]

/-- Two fields that do not share a bit. -/
theorem Word.field_setField_apart (w : Word) {lo width lo' width' : Nat} (v : Nat) (h : lo + width ≤ 32)
    (ha : lo' + width' ≤ lo ∨ lo + width ≤ lo') : (w.setField lo width v).field lo' width' = w.field lo' width' :=
  ha.elim (w.field_setField_below v h) (w.field_setField_above v h)

theorem Word.field_lt (w : Word) (lo width : Nat) : w.field lo width < 2 ^ width := Nat.mod_lt _ (Nat.two_pow_pos _)

end Sys2Proof

namespace Sys2Proof.Machine

/-! ### Read after write -/

theorem rdList_insList_same (a : Nat) (w : Word) (l : List (Nat × Word)) : rdList a (insList a w l) = w := by
  induction l with
  | nil => simp [insList, rdList]
  | cons p l ih =>
    obtain ⟨b, v⟩ := p
    simp only [insList]
    split
    · simp [rdList]
    · split
      · simp [rdList]
      · simp [rdList, *]

theorem rdList_insList_ne {a c : Nat} (w : Word) (l : List (Nat × Word)) (h : c ≠ a) : rdList c (insList a w l) = rdList c l := by
  induction l with
  | nil => simp [insList, rdList, Ne.symm h]
  | cons p l ih =>
    obtain ⟨b, v⟩ := p
    simp only [insList]
    split
    · next e => subst e; simp [rdList, Ne.symm h]
    · split
      · simp [rdList, Ne.symm h]
      · simp [rdList, ih]

theorem rdList_drop_same (a : Nat) (l : List (Nat × Word)) : rdList a (l.filter fun p => p.1 != a) = resetWord a := by
  induction l with
  | nil => simp [rdList]
  | cons p l ih =>
    obtain ⟨b, v⟩ := p
    by_cases e : b = a <;> simp [e, rdList, ih]

theorem rdList_drop_ne {a c : Nat} (l : List (Nat × Word)) (h : c ≠ a) :
    rdList c (l.filter fun p => p.1 != a) = rdList c l := by
  induction l with
  | nil => simp [rdList]
  | cons p l ih =>
    obtain ⟨b, v⟩ := p
    by_cases e : b = a
    · subst e; simp [rdList, ih, Ne.symm h]
    · simp [e, rdList, ih]

/-- A word reads what was written to it. -/
@[simp] theorem State.rd_wr (s : State) (a : Nat) (w : Word) : (s.wr a w).rd a = w := by
  simp only [State.rd, State.wr, wrList]
  split
  · next e => rw [rdList_drop_same, ← e]
  · exact rdList_insList_same a w _

/-- Another word keeps its value. -/
theorem State.rd_wr_ne (s : State) {a c : Nat} (w : Word) (h : c ≠ a) : (s.wr a w).rd c = s.rd c := by
  simp only [State.rd, State.wr, wrList]
  split
  · exact rdList_drop_ne _ h
  · exact rdList_insList_ne w _ h

/-- A field of one word: what a write of the field leaves in its word. -/
theorem State.put_eq_wr (s : State) {f : Field} (v : Nat) (h : f.lo + f.width ≤ 32) :
    s.put f v = s.wr f.addr ((s.rd f.addr).setField f.lo f.width v) := by simp [State.put, h]

theorem State.get_eq (s : State) {f : Field} (h : f.lo + f.width ≤ 32) : s.get f = (s.rd f.addr).field f.lo f.width := by
  simp [State.get, h]

/-- A field reads the value put, cut to its width. -/
theorem State.get_put (s : State) {f : Field} (v : Nat) (h : f.lo + f.width ≤ 32) : (s.put f v).get f = v % 2 ^ f.width := by
  rw [s.put_eq_wr v h, State.get_eq _ h, State.rd_wr, Word.field_setField _ _ h]

/-- A field of another word keeps its value. -/
theorem State.get_put_addr (s : State) {f g : Field} (v : Nat) (hf : f.lo + f.width ≤ 32) (hg : g.lo + g.width ≤ 32)
    (h : g.addr ≠ f.addr) : (s.put f v).get g = s.get g := by
  rw [s.put_eq_wr v hf, State.get_eq _ hg, State.get_eq _ hg, State.rd_wr_ne _ _ h]

/-- A field of the same word that shares no bit keeps its value. -/
theorem State.get_put_apart (s : State) {f g : Field} (v : Nat) (hf : f.lo + f.width ≤ 32) (hg : g.lo + g.width ≤ 32)
    (ha : g.lo + g.width ≤ f.lo ∨ f.lo + f.width ≤ g.lo) : (s.put f v).get g = s.get g := by
  by_cases h : g.addr = f.addr
  · rw [s.put_eq_wr v hf, State.get_eq _ hg, State.get_eq _ hg, h, State.rd_wr, Word.field_setField_apart _ _ hf ha]
  · exact s.get_put_addr v hf hg h

/-- A word that a field does not touch keeps its value. -/
theorem State.rd_put_ne (s : State) {f : Field} {a : Nat} (v : Nat) (hf : f.lo + f.width ≤ 32) (h : a ≠ f.addr) :
    (s.put f v).rd a = s.rd a := by
  rw [s.put_eq_wr v hf, State.rd_wr_ne _ _ h]

theorem State.flag_putFlag (s : State) {f : Field} (b : Bool) (hw : f.width = 1) (h : f.lo ≤ 31) : (s.putFlag f b).flag f = b := by
  have e : f.lo + f.width ≤ 32 := by omega
  unfold State.flag State.putFlag
  rw [State.get_put _ _ e, hw]
  cases b <;> rfl

/-! ### The canonical form -/

theorem regsWf_iff (l : List (Nat × Word)) :
    RegsWf l = true ↔ (∀ p ∈ l, p.2 ≠ resetWord p.1) ∧ l.Pairwise fun p q => p.1 < q.1 := by
  induction l with
  | nil => simp [RegsWf]
  | cons p l ih =>
    obtain ⟨a, w⟩ := p
    cases l with
    | nil => simp [RegsWf]
    | cons q l =>
      obtain ⟨b, v⟩ := q
      rw [RegsWf, Bool.and_eq_true, Bool.and_eq_true, ih]
      constructor
      · rintro ⟨⟨h1, h2⟩, h3, h4⟩
        have h2 : a < b := by simpa using h2
        refine ⟨by simpa using ⟨by simpa using h1, by simpa using h3⟩, List.pairwise_cons.2 ⟨?_, h4⟩⟩
        intro x hx
        rcases List.mem_cons.1 hx with rfl | hx
        · exact h2
        · exact Nat.lt_trans h2 ((List.pairwise_cons.1 h4).1 x hx)
      · rintro ⟨h1, h2⟩
        have h3 := List.pairwise_cons.1 h2
        exact ⟨⟨by simpa using h1 (a, w) (by simp), by simpa using h3.1 (b, v) (by simp)⟩,
          fun p hp => h1 p (List.mem_cons_of_mem _ hp), h3.2⟩

theorem mem_insList {a : Nat} {w : Word} {l : List (Nat × Word)} {p : Nat × Word} (h : p ∈ insList a w l) : p = (a, w) ∨ p ∈ l := by
  induction l with
  | nil => simpa [insList] using h
  | cons q l ih =>
    obtain ⟨b, v⟩ := q
    simp only [insList] at h
    split at h
    · rcases List.mem_cons.1 h with h | h
      · exact .inl h
      · exact .inr (List.mem_cons_of_mem _ h)
    · split at h
      · rcases List.mem_cons.1 h with h | h
        · exact .inl h
        · exact .inr h
      · rcases List.mem_cons.1 h with h | h
        · exact .inr (h ▸ List.mem_cons_self)
        · exact (ih h).imp id (List.mem_cons_of_mem _)

theorem insList_sorted {a : Nat} {w : Word} {l : List (Nat × Word)} (h : l.Pairwise fun p q => p.1 < q.1) :
    (insList a w l).Pairwise fun p q => p.1 < q.1 := by
  induction l with
  | nil => simp [insList]
  | cons q l ih =>
    obtain ⟨b, v⟩ := q
    obtain ⟨h1, h2⟩ := List.pairwise_cons.1 h
    simp only [insList]
    split
    · next e => subst e; exact List.pairwise_cons.2 ⟨h1, h2⟩
    · split
      · next hab =>
        refine List.pairwise_cons.2 ⟨fun x hx => ?_, h⟩
        rcases List.mem_cons.1 hx with rfl | hx
        · exact hab
        · exact Nat.lt_trans hab (h1 x hx)
      · refine List.pairwise_cons.2 ⟨fun x hx => ?_, ih h2⟩
        rcases mem_insList hx with rfl | hx
        · simp only; omega
        · exact h1 x hx

theorem wrList_wf {a : Nat} {w : Word} {l : List (Nat × Word)} (h : RegsWf l = true) : RegsWf (wrList a w l) = true := by
  rw [regsWf_iff] at h ⊢
  unfold wrList
  split
  · exact ⟨fun p hp => h.1 p (List.mem_filter.1 hp).1, h.2.filter _⟩
  · next e =>
    refine ⟨fun p hp => ?_, insList_sorted h.2⟩
    rcases mem_insList hp with rfl | hp
    · exact e
    · exact h.1 p hp

/-- Dropping words keeps the form. -/
theorem filter_wf {l : List (Nat × Word)} (p : Nat × Word → Bool) (h : RegsWf l = true) : RegsWf (l.filter p) = true := by
  rw [regsWf_iff] at h ⊢
  exact ⟨fun q hq => h.1 q (List.mem_filter.1 hq).1, h.2.filter _⟩

theorem State.wr_wf {s : State} (a : Nat) (w : Word) (h : s.wf) : (s.wr a w).wf := wrList_wf h

theorem State.put_wf {s : State} (f : Field) (v : Nat) (h : s.wf) : (s.put f v).wf := by
  unfold State.put
  split
  · exact State.wr_wf _ _ h
  · exact State.wr_wf _ _ (State.wr_wf _ _ h)

end Sys2Proof.Machine
end

