-- ==== Sys2Proof/Laws/State.lean ====
section
/-! SUPPORT. What each shared update leaves alone, one lemma per field per update, and that each keeps the register store
canonical. -/

namespace Sys2Proof.Machine

set_option linter.unusedSimpArgs false

variable (s : State)

/-- The fields that no shared update writes: the others are blanked. -/
def State.still (s : State) : State :=
  { s with regs := [], outbox := [], journal := State.reset.journal, evqPosted := [], pair := State.reset.pair, faults := [], rings := [], freeCtr := 0, time := 0, pub := State.reset.pub }

theorem still_pending {s t : State} (h : s.still = t.still) : s.pending = t.pending := by
  have e := congrArg State.pending h
  exact e

theorem still_hiLatch {s t : State} (h : s.still = t.still) : s.hiLatch = t.hiLatch := by
  have e := congrArg State.hiLatch h
  exact e

theorem still_timeRun {s t : State} (h : s.still = t.still) : s.timeRun = t.timeRun := by
  have e := congrArg State.timeRun h
  exact e

theorem still_tg {s t : State} (h : s.still = t.still) : s.tg = t.tg := by
  have e := congrArg State.tg h
  exact e

theorem still_commits {s t : State} (h : s.still = t.still) : s.commits = t.commits := by
  have e := congrArg State.commits h
  exact e

theorem still_multi {s t : State} (h : s.still = t.still) : s.multi = t.multi := by
  have e := congrArg State.multi h
  exact e

theorem still_inj {s t : State} (h : s.still = t.still) : s.inj = t.inj := by
  have e := congrArg State.inj h
  exact e

theorem still_boot {s t : State} (h : s.still = t.still) : s.boot = t.boot := by
  have e := congrArg State.boot h
  exact e

theorem still_tim {s t : State} (h : s.still = t.still) : s.tim = t.tim := by
  have e := congrArg State.tim h
  exact e

theorem still_slots {s t : State} (h : s.still = t.still) : s.slots = t.slots := by
  have e := congrArg State.slots h
  exact e

theorem still_core {s t : State} (h : s.still = t.still) : s.core = t.core := by
  have e := congrArg State.core h
  exact e

theorem still_cle {s t : State} (h : s.still = t.still) : s.cle = t.cle := by
  have e := congrArg State.cle h
  exact e

theorem still_svi {s t : State} (h : s.still = t.still) : s.svi = t.svi := by
  have e := congrArg State.svi h
  exact e

theorem still_mod {s t : State} (h : s.still = t.still) : s.mod = t.mod := by
  have e := congrArg State.mod h
  exact e

theorem still_adc {s t : State} (h : s.still = t.still) : s.adc = t.adc := by
  have e := congrArg State.adc h
  exact e

theorem still_per {s t : State} (h : s.still = t.still) : s.per = t.per := by
  have e := congrArg State.per h
  exact e

theorem still_ho {s t : State} (h : s.still = t.still) : s.ho = t.ho := by
  have e := congrArg State.ho h
  exact e

theorem still_rtc {s t : State} (h : s.still = t.still) : s.rtc = t.rtc := by
  have e := congrArg State.rtc h
  exact e

theorem still_swc {s t : State} (h : s.still = t.still) : s.swc = t.swc := by
  have e := congrArg State.swc h
  exact e

theorem still_macs {s t : State} (h : s.still = t.still) : s.macs = t.macs := by
  have e := congrArg State.macs h
  exact e

theorem still_mbs {s t : State} (h : s.still = t.still) : s.mbs = t.mbs := by
  have e := congrArg State.mbs h
  exact e

theorem still_sliceOp {s t : State} (h : s.still = t.still) : s.sliceOp = t.sliceOp := by
  have e := congrArg State.sliceOp h
  exact e

theorem still_keys {s t : State} (h : s.still = t.still) : s.keys = t.keys := by
  have e := congrArg State.keys h
  exact e

theorem still_aqe {s t : State} (h : s.still = t.still) : s.aqe = t.aqe := by
  have e := congrArg State.aqe h
  exact e

theorem still_nrg {s t : State} (h : s.still = t.still) : s.nrg = t.nrg := by
  have e := congrArg State.nrg h
  exact e

theorem still_lce {s t : State} (h : s.still = t.still) : s.lce = t.lce := by
  have e := congrArg State.lce h
  exact e

theorem still_rck {s t : State} (h : s.still = t.still) : s.rck = t.rck := by
  have e := congrArg State.rck h
  exact e

theorem still_bank {s t : State} (h : s.still = t.still) : s.bank = t.bank := by
  have e := congrArg State.bank h
  exact e
theorem still_dram {s t : State} (h : s.still = t.still) : s.dram = t.dram := by
  have e := congrArg State.dram h
  exact e

theorem State.still_mk (a1 a2 a3 a4 a5 a6 a7 a8 a9 a10) :
    ({ s with regs := a1, outbox := a2, journal := a3, evqPosted := a4, pair := a5, faults := a6, rings := a7, freeCtr := a8, time := a9, pub := a10 } : State).still = s.still := rfl

/-- A register reads the same whatever the other fields of the state are. -/
@[simp] theorem State.rd_of_fields (a : Nat) (b0 b1 b2 b3 b4 b5 b6 b7 b8 b9 b10 b11 b12 b13 b14 b15 b16 b17 b18 b19 b20 b21 b22 b23 b24 b25 b26 b27 b28 b29 b30 b31 b32 b33 b34 b35 b36 b37) :
    ({ s with pending := b0, hiLatch := b1, time := b2, timeRun := b3, outbox := b4, freeCtr := b5, evqPosted := b6, faults := b7, tg := b8, commits := b9, rings := b10, multi := b11, pair := b12, inj := b13, journal := b14, boot := b15, tim := b16, slots := b17, core := b18, cle := b19, svi := b20, pub := b21, mod := b22, adc := b23, per := b24, ho := b25, rtc := b26, swc := b27, macs := b28, mbs := b29, sliceOp := b30, keys := b31, aqe := b32, nrg := b33, lce := b34, rck := b35, bank := b36, dram := b37 } : State).rd a = s.rd a := rfl

@[simp] theorem State.get_of_fields (f : Field) (b0 b1 b2 b3 b4 b5 b6 b7 b8 b9 b10 b11 b12 b13 b14 b15 b16 b17 b18 b19 b20 b21 b22 b23 b24 b25 b26 b27 b28 b29 b30 b31 b32 b33 b34 b35 b36 b37) :
    ({ s with pending := b0, hiLatch := b1, time := b2, timeRun := b3, outbox := b4, freeCtr := b5, evqPosted := b6, faults := b7, tg := b8, commits := b9, rings := b10, multi := b11, pair := b12, inj := b13, journal := b14, boot := b15, tim := b16, slots := b17, core := b18, cle := b19, svi := b20, pub := b21, mod := b22, adc := b23, per := b24, ho := b25, rtc := b26, swc := b27, macs := b28, mbs := b29, sliceOp := b30, keys := b31, aqe := b32, nrg := b33, lce := b34, rck := b35, bank := b36, dram := b37 } : State).get f = s.get f := rfl

@[simp] theorem State.flag_of_fields (f : Field) (b0 b1 b2 b3 b4 b5 b6 b7 b8 b9 b10 b11 b12 b13 b14 b15 b16 b17 b18 b19 b20 b21 b22 b23 b24 b25 b26 b27 b28 b29 b30 b31 b32 b33 b34 b35 b36 b37) :
    ({ s with pending := b0, hiLatch := b1, time := b2, timeRun := b3, outbox := b4, freeCtr := b5, evqPosted := b6, faults := b7, tg := b8, commits := b9, rings := b10, multi := b11, pair := b12, inj := b13, journal := b14, boot := b15, tim := b16, slots := b17, core := b18, cle := b19, svi := b20, pub := b21, mod := b22, adc := b23, per := b24, ho := b25, rtc := b26, swc := b27, macs := b28, mbs := b29, sliceOp := b30, keys := b31, aqe := b32, nrg := b33, lce := b34, rck := b35, bank := b36, dram := b37 } : State).flag f = s.flag f := rfl

/-! ### wr -/

theorem State.still_wr (a : Nat) (w : Word) : (s.wr a w).still = s.still := rfl
@[simp] theorem State.wr_pending (a : Nat) (w : Word) : (s.wr a w).pending = s.pending := rfl
@[simp] theorem State.wr_hiLatch (a : Nat) (w : Word) : (s.wr a w).hiLatch = s.hiLatch := rfl
@[simp] theorem State.wr_time (a : Nat) (w : Word) : (s.wr a w).time = s.time := rfl
@[simp] theorem State.wr_timeRun (a : Nat) (w : Word) : (s.wr a w).timeRun = s.timeRun := rfl
@[simp] theorem State.wr_outbox (a : Nat) (w : Word) : (s.wr a w).outbox = s.outbox := rfl
@[simp] theorem State.wr_freeCtr (a : Nat) (w : Word) : (s.wr a w).freeCtr = s.freeCtr := rfl
@[simp] theorem State.wr_evqPosted (a : Nat) (w : Word) : (s.wr a w).evqPosted = s.evqPosted := rfl
@[simp] theorem State.wr_faults (a : Nat) (w : Word) : (s.wr a w).faults = s.faults := rfl
@[simp] theorem State.wr_tg (a : Nat) (w : Word) : (s.wr a w).tg = s.tg := rfl
@[simp] theorem State.wr_commits (a : Nat) (w : Word) : (s.wr a w).commits = s.commits := rfl
@[simp] theorem State.wr_rings (a : Nat) (w : Word) : (s.wr a w).rings = s.rings := rfl
@[simp] theorem State.wr_multi (a : Nat) (w : Word) : (s.wr a w).multi = s.multi := rfl
@[simp] theorem State.wr_pair (a : Nat) (w : Word) : (s.wr a w).pair = s.pair := rfl
@[simp] theorem State.wr_inj (a : Nat) (w : Word) : (s.wr a w).inj = s.inj := rfl
@[simp] theorem State.wr_journal (a : Nat) (w : Word) : (s.wr a w).journal = s.journal := rfl
@[simp] theorem State.wr_boot (a : Nat) (w : Word) : (s.wr a w).boot = s.boot := rfl
@[simp] theorem State.wr_tim (a : Nat) (w : Word) : (s.wr a w).tim = s.tim := rfl
@[simp] theorem State.wr_slots (a : Nat) (w : Word) : (s.wr a w).slots = s.slots := rfl
@[simp] theorem State.wr_core (a : Nat) (w : Word) : (s.wr a w).core = s.core := rfl
@[simp] theorem State.wr_cle (a : Nat) (w : Word) : (s.wr a w).cle = s.cle := rfl
@[simp] theorem State.wr_svi (a : Nat) (w : Word) : (s.wr a w).svi = s.svi := rfl
@[simp] theorem State.wr_pub (a : Nat) (w : Word) : (s.wr a w).pub = s.pub := rfl
@[simp] theorem State.wr_mod (a : Nat) (w : Word) : (s.wr a w).mod = s.mod := rfl
@[simp] theorem State.wr_adc (a : Nat) (w : Word) : (s.wr a w).adc = s.adc := rfl
@[simp] theorem State.wr_per (a : Nat) (w : Word) : (s.wr a w).per = s.per := rfl
@[simp] theorem State.wr_ho (a : Nat) (w : Word) : (s.wr a w).ho = s.ho := rfl
@[simp] theorem State.wr_rtc (a : Nat) (w : Word) : (s.wr a w).rtc = s.rtc := rfl
@[simp] theorem State.wr_swc (a : Nat) (w : Word) : (s.wr a w).swc = s.swc := rfl
@[simp] theorem State.wr_macs (a : Nat) (w : Word) : (s.wr a w).macs = s.macs := rfl
@[simp] theorem State.wr_mbs (a : Nat) (w : Word) : (s.wr a w).mbs = s.mbs := rfl
@[simp] theorem State.wr_sliceOp (a : Nat) (w : Word) : (s.wr a w).sliceOp = s.sliceOp := rfl
@[simp] theorem State.wr_keys (a : Nat) (w : Word) : (s.wr a w).keys = s.keys := rfl
@[simp] theorem State.wr_aqe (a : Nat) (w : Word) : (s.wr a w).aqe = s.aqe := rfl
@[simp] theorem State.wr_nrg (a : Nat) (w : Word) : (s.wr a w).nrg = s.nrg := rfl
@[simp] theorem State.wr_lce (a : Nat) (w : Word) : (s.wr a w).lce = s.lce := rfl
@[simp] theorem State.wr_rck (a : Nat) (w : Word) : (s.wr a w).rck = s.rck := rfl
@[simp] theorem State.wr_bank (a : Nat) (w : Word) : (s.wr a w).bank = s.bank := rfl
@[simp] theorem State.wr_dram (a : Nat) (w : Word) : (s.wr a w).dram = s.dram := rfl

/-! ### put -/

theorem State.still_put (f : Field) (v : Nat) : (s.put f v).still = s.still := by
  unfold State.put; (try dsimp only); (repeat' split) <;> simp only [State.still_mk, State.still_wr]
@[simp] theorem State.put_pending (f : Field) (v : Nat) : (s.put f v).pending = s.pending := still_pending (State.still_put s f v)
@[simp] theorem State.put_hiLatch (f : Field) (v : Nat) : (s.put f v).hiLatch = s.hiLatch := still_hiLatch (State.still_put s f v)
@[simp] theorem State.put_time (f : Field) (v : Nat) : (s.put f v).time = s.time := by
  unfold State.put; (try dsimp only); (repeat' split) <;> first | (simp only [State.wr_time]; done) | rfl
@[simp] theorem State.put_timeRun (f : Field) (v : Nat) : (s.put f v).timeRun = s.timeRun := still_timeRun (State.still_put s f v)
@[simp] theorem State.put_outbox (f : Field) (v : Nat) : (s.put f v).outbox = s.outbox := by
  unfold State.put; (try dsimp only); (repeat' split) <;> first | (simp only [State.wr_outbox]; done) | rfl
@[simp] theorem State.put_freeCtr (f : Field) (v : Nat) : (s.put f v).freeCtr = s.freeCtr := by
  unfold State.put; (try dsimp only); (repeat' split) <;> first | (simp only [State.wr_freeCtr]; done) | rfl
@[simp] theorem State.put_evqPosted (f : Field) (v : Nat) : (s.put f v).evqPosted = s.evqPosted := by
  unfold State.put; (try dsimp only); (repeat' split) <;> first | (simp only [State.wr_evqPosted]; done) | rfl
@[simp] theorem State.put_faults (f : Field) (v : Nat) : (s.put f v).faults = s.faults := by
  unfold State.put; (try dsimp only); (repeat' split) <;> first | (simp only [State.wr_faults]; done) | rfl
@[simp] theorem State.put_tg (f : Field) (v : Nat) : (s.put f v).tg = s.tg := still_tg (State.still_put s f v)
@[simp] theorem State.put_commits (f : Field) (v : Nat) : (s.put f v).commits = s.commits := still_commits (State.still_put s f v)
@[simp] theorem State.put_rings (f : Field) (v : Nat) : (s.put f v).rings = s.rings := by
  unfold State.put; (try dsimp only); (repeat' split) <;> first | (simp only [State.wr_rings]; done) | rfl
@[simp] theorem State.put_multi (f : Field) (v : Nat) : (s.put f v).multi = s.multi := still_multi (State.still_put s f v)
@[simp] theorem State.put_pair (f : Field) (v : Nat) : (s.put f v).pair = s.pair := by
  unfold State.put; (try dsimp only); (repeat' split) <;> first | (simp only [State.wr_pair]; done) | rfl
@[simp] theorem State.put_inj (f : Field) (v : Nat) : (s.put f v).inj = s.inj := still_inj (State.still_put s f v)
@[simp] theorem State.put_journal (f : Field) (v : Nat) : (s.put f v).journal = s.journal := by
  unfold State.put; (try dsimp only); (repeat' split) <;> first | (simp only [State.wr_journal]; done) | rfl
@[simp] theorem State.put_boot (f : Field) (v : Nat) : (s.put f v).boot = s.boot := still_boot (State.still_put s f v)
@[simp] theorem State.put_tim (f : Field) (v : Nat) : (s.put f v).tim = s.tim := still_tim (State.still_put s f v)
@[simp] theorem State.put_slots (f : Field) (v : Nat) : (s.put f v).slots = s.slots := still_slots (State.still_put s f v)
@[simp] theorem State.put_core (f : Field) (v : Nat) : (s.put f v).core = s.core := still_core (State.still_put s f v)
@[simp] theorem State.put_cle (f : Field) (v : Nat) : (s.put f v).cle = s.cle := still_cle (State.still_put s f v)
@[simp] theorem State.put_svi (f : Field) (v : Nat) : (s.put f v).svi = s.svi := still_svi (State.still_put s f v)
@[simp] theorem State.put_pub (f : Field) (v : Nat) : (s.put f v).pub = s.pub := by
  unfold State.put; (try dsimp only); (repeat' split) <;> first | (simp only [State.wr_pub]; done) | rfl
@[simp] theorem State.put_mod (f : Field) (v : Nat) : (s.put f v).mod = s.mod := still_mod (State.still_put s f v)
@[simp] theorem State.put_adc (f : Field) (v : Nat) : (s.put f v).adc = s.adc := still_adc (State.still_put s f v)
@[simp] theorem State.put_per (f : Field) (v : Nat) : (s.put f v).per = s.per := still_per (State.still_put s f v)
@[simp] theorem State.put_ho (f : Field) (v : Nat) : (s.put f v).ho = s.ho := still_ho (State.still_put s f v)
@[simp] theorem State.put_rtc (f : Field) (v : Nat) : (s.put f v).rtc = s.rtc := still_rtc (State.still_put s f v)
@[simp] theorem State.put_swc (f : Field) (v : Nat) : (s.put f v).swc = s.swc := still_swc (State.still_put s f v)
@[simp] theorem State.put_macs (f : Field) (v : Nat) : (s.put f v).macs = s.macs := still_macs (State.still_put s f v)
@[simp] theorem State.put_mbs (f : Field) (v : Nat) : (s.put f v).mbs = s.mbs := still_mbs (State.still_put s f v)
@[simp] theorem State.put_sliceOp (f : Field) (v : Nat) : (s.put f v).sliceOp = s.sliceOp := still_sliceOp (State.still_put s f v)
@[simp] theorem State.put_keys (f : Field) (v : Nat) : (s.put f v).keys = s.keys := still_keys (State.still_put s f v)
@[simp] theorem State.put_aqe (f : Field) (v : Nat) : (s.put f v).aqe = s.aqe := still_aqe (State.still_put s f v)
@[simp] theorem State.put_nrg (f : Field) (v : Nat) : (s.put f v).nrg = s.nrg := still_nrg (State.still_put s f v)
@[simp] theorem State.put_lce (f : Field) (v : Nat) : (s.put f v).lce = s.lce := still_lce (State.still_put s f v)
@[simp] theorem State.put_rck (f : Field) (v : Nat) : (s.put f v).rck = s.rck := still_rck (State.still_put s f v)
@[simp] theorem State.put_bank (f : Field) (v : Nat) : (s.put f v).bank = s.bank := still_bank (State.still_put s f v)
@[simp] theorem State.put_dram (f : Field) (v : Nat) : (s.put f v).dram = s.dram := still_dram (State.still_put s f v)

/-! ### putFlag -/

theorem State.still_putFlag (f : Field) (b : Bool) : (s.putFlag f b).still = s.still := by
  unfold State.putFlag; (try dsimp only); (repeat' split) <;> simp only [State.still_mk, State.still_put]
@[simp] theorem State.putFlag_pending (f : Field) (b : Bool) : (s.putFlag f b).pending = s.pending := still_pending (State.still_putFlag s f b)
@[simp] theorem State.putFlag_hiLatch (f : Field) (b : Bool) : (s.putFlag f b).hiLatch = s.hiLatch := still_hiLatch (State.still_putFlag s f b)
@[simp] theorem State.putFlag_time (f : Field) (b : Bool) : (s.putFlag f b).time = s.time := by
  unfold State.putFlag; (try dsimp only); (repeat' split) <;> first | (simp only [State.put_time]; done) | rfl
@[simp] theorem State.putFlag_timeRun (f : Field) (b : Bool) : (s.putFlag f b).timeRun = s.timeRun := still_timeRun (State.still_putFlag s f b)
@[simp] theorem State.putFlag_outbox (f : Field) (b : Bool) : (s.putFlag f b).outbox = s.outbox := by
  unfold State.putFlag; (try dsimp only); (repeat' split) <;> first | (simp only [State.put_outbox]; done) | rfl
@[simp] theorem State.putFlag_freeCtr (f : Field) (b : Bool) : (s.putFlag f b).freeCtr = s.freeCtr := by
  unfold State.putFlag; (try dsimp only); (repeat' split) <;> first | (simp only [State.put_freeCtr]; done) | rfl
@[simp] theorem State.putFlag_evqPosted (f : Field) (b : Bool) : (s.putFlag f b).evqPosted = s.evqPosted := by
  unfold State.putFlag; (try dsimp only); (repeat' split) <;> first | (simp only [State.put_evqPosted]; done) | rfl
@[simp] theorem State.putFlag_faults (f : Field) (b : Bool) : (s.putFlag f b).faults = s.faults := by
  unfold State.putFlag; (try dsimp only); (repeat' split) <;> first | (simp only [State.put_faults]; done) | rfl
@[simp] theorem State.putFlag_tg (f : Field) (b : Bool) : (s.putFlag f b).tg = s.tg := still_tg (State.still_putFlag s f b)
@[simp] theorem State.putFlag_commits (f : Field) (b : Bool) : (s.putFlag f b).commits = s.commits := still_commits (State.still_putFlag s f b)
@[simp] theorem State.putFlag_rings (f : Field) (b : Bool) : (s.putFlag f b).rings = s.rings := by
  unfold State.putFlag; (try dsimp only); (repeat' split) <;> first | (simp only [State.put_rings]; done) | rfl
@[simp] theorem State.putFlag_multi (f : Field) (b : Bool) : (s.putFlag f b).multi = s.multi := still_multi (State.still_putFlag s f b)
@[simp] theorem State.putFlag_pair (f : Field) (b : Bool) : (s.putFlag f b).pair = s.pair := by
  unfold State.putFlag; (try dsimp only); (repeat' split) <;> first | (simp only [State.put_pair]; done) | rfl
@[simp] theorem State.putFlag_inj (f : Field) (b : Bool) : (s.putFlag f b).inj = s.inj := still_inj (State.still_putFlag s f b)
@[simp] theorem State.putFlag_journal (f : Field) (b : Bool) : (s.putFlag f b).journal = s.journal := by
  unfold State.putFlag; (try dsimp only); (repeat' split) <;> first | (simp only [State.put_journal]; done) | rfl
@[simp] theorem State.putFlag_boot (f : Field) (b : Bool) : (s.putFlag f b).boot = s.boot := still_boot (State.still_putFlag s f b)
@[simp] theorem State.putFlag_tim (f : Field) (b : Bool) : (s.putFlag f b).tim = s.tim := still_tim (State.still_putFlag s f b)
@[simp] theorem State.putFlag_slots (f : Field) (b : Bool) : (s.putFlag f b).slots = s.slots := still_slots (State.still_putFlag s f b)
@[simp] theorem State.putFlag_core (f : Field) (b : Bool) : (s.putFlag f b).core = s.core := still_core (State.still_putFlag s f b)
@[simp] theorem State.putFlag_cle (f : Field) (b : Bool) : (s.putFlag f b).cle = s.cle := still_cle (State.still_putFlag s f b)
@[simp] theorem State.putFlag_svi (f : Field) (b : Bool) : (s.putFlag f b).svi = s.svi := still_svi (State.still_putFlag s f b)
@[simp] theorem State.putFlag_pub (f : Field) (b : Bool) : (s.putFlag f b).pub = s.pub := by
  unfold State.putFlag; (try dsimp only); (repeat' split) <;> first | (simp only [State.put_pub]; done) | rfl
@[simp] theorem State.putFlag_mod (f : Field) (b : Bool) : (s.putFlag f b).mod = s.mod := still_mod (State.still_putFlag s f b)
@[simp] theorem State.putFlag_adc (f : Field) (b : Bool) : (s.putFlag f b).adc = s.adc := still_adc (State.still_putFlag s f b)
@[simp] theorem State.putFlag_per (f : Field) (b : Bool) : (s.putFlag f b).per = s.per := still_per (State.still_putFlag s f b)
@[simp] theorem State.putFlag_ho (f : Field) (b : Bool) : (s.putFlag f b).ho = s.ho := still_ho (State.still_putFlag s f b)
@[simp] theorem State.putFlag_rtc (f : Field) (b : Bool) : (s.putFlag f b).rtc = s.rtc := still_rtc (State.still_putFlag s f b)
@[simp] theorem State.putFlag_swc (f : Field) (b : Bool) : (s.putFlag f b).swc = s.swc := still_swc (State.still_putFlag s f b)
@[simp] theorem State.putFlag_macs (f : Field) (b : Bool) : (s.putFlag f b).macs = s.macs := still_macs (State.still_putFlag s f b)
@[simp] theorem State.putFlag_mbs (f : Field) (b : Bool) : (s.putFlag f b).mbs = s.mbs := still_mbs (State.still_putFlag s f b)
@[simp] theorem State.putFlag_sliceOp (f : Field) (b : Bool) : (s.putFlag f b).sliceOp = s.sliceOp := still_sliceOp (State.still_putFlag s f b)
@[simp] theorem State.putFlag_keys (f : Field) (b : Bool) : (s.putFlag f b).keys = s.keys := still_keys (State.still_putFlag s f b)
@[simp] theorem State.putFlag_aqe (f : Field) (b : Bool) : (s.putFlag f b).aqe = s.aqe := still_aqe (State.still_putFlag s f b)
@[simp] theorem State.putFlag_nrg (f : Field) (b : Bool) : (s.putFlag f b).nrg = s.nrg := still_nrg (State.still_putFlag s f b)
@[simp] theorem State.putFlag_lce (f : Field) (b : Bool) : (s.putFlag f b).lce = s.lce := still_lce (State.still_putFlag s f b)
@[simp] theorem State.putFlag_rck (f : Field) (b : Bool) : (s.putFlag f b).rck = s.rck := still_rck (State.still_putFlag s f b)
@[simp] theorem State.putFlag_bank (f : Field) (b : Bool) : (s.putFlag f b).bank = s.bank := still_bank (State.still_putFlag s f b)
@[simp] theorem State.putFlag_dram (f : Field) (b : Bool) : (s.putFlag f b).dram = s.dram := still_dram (State.still_putFlag s f b)

/-! ### countMod -/

theorem State.still_countMod (f : Field) (k : Nat) : (s.countMod f k).still = s.still := by
  unfold State.countMod; (try dsimp only); (repeat' split) <;> simp only [State.still_mk, State.still_put]
@[simp] theorem State.countMod_pending (f : Field) (k : Nat) : (s.countMod f k).pending = s.pending := still_pending (State.still_countMod s f k)
@[simp] theorem State.countMod_hiLatch (f : Field) (k : Nat) : (s.countMod f k).hiLatch = s.hiLatch := still_hiLatch (State.still_countMod s f k)
@[simp] theorem State.countMod_time (f : Field) (k : Nat) : (s.countMod f k).time = s.time := by
  unfold State.countMod; (try dsimp only); (repeat' split) <;> first | (simp only [State.put_time]; done) | rfl
@[simp] theorem State.countMod_timeRun (f : Field) (k : Nat) : (s.countMod f k).timeRun = s.timeRun := still_timeRun (State.still_countMod s f k)
@[simp] theorem State.countMod_outbox (f : Field) (k : Nat) : (s.countMod f k).outbox = s.outbox := by
  unfold State.countMod; (try dsimp only); (repeat' split) <;> first | (simp only [State.put_outbox]; done) | rfl
@[simp] theorem State.countMod_freeCtr (f : Field) (k : Nat) : (s.countMod f k).freeCtr = s.freeCtr := by
  unfold State.countMod; (try dsimp only); (repeat' split) <;> first | (simp only [State.put_freeCtr]; done) | rfl
@[simp] theorem State.countMod_evqPosted (f : Field) (k : Nat) : (s.countMod f k).evqPosted = s.evqPosted := by
  unfold State.countMod; (try dsimp only); (repeat' split) <;> first | (simp only [State.put_evqPosted]; done) | rfl
@[simp] theorem State.countMod_faults (f : Field) (k : Nat) : (s.countMod f k).faults = s.faults := by
  unfold State.countMod; (try dsimp only); (repeat' split) <;> first | (simp only [State.put_faults]; done) | rfl
@[simp] theorem State.countMod_tg (f : Field) (k : Nat) : (s.countMod f k).tg = s.tg := still_tg (State.still_countMod s f k)
@[simp] theorem State.countMod_commits (f : Field) (k : Nat) : (s.countMod f k).commits = s.commits := still_commits (State.still_countMod s f k)
@[simp] theorem State.countMod_rings (f : Field) (k : Nat) : (s.countMod f k).rings = s.rings := by
  unfold State.countMod; (try dsimp only); (repeat' split) <;> first | (simp only [State.put_rings]; done) | rfl
@[simp] theorem State.countMod_multi (f : Field) (k : Nat) : (s.countMod f k).multi = s.multi := still_multi (State.still_countMod s f k)
@[simp] theorem State.countMod_pair (f : Field) (k : Nat) : (s.countMod f k).pair = s.pair := by
  unfold State.countMod; (try dsimp only); (repeat' split) <;> first | (simp only [State.put_pair]; done) | rfl
@[simp] theorem State.countMod_inj (f : Field) (k : Nat) : (s.countMod f k).inj = s.inj := still_inj (State.still_countMod s f k)
@[simp] theorem State.countMod_journal (f : Field) (k : Nat) : (s.countMod f k).journal = s.journal := by
  unfold State.countMod; (try dsimp only); (repeat' split) <;> first | (simp only [State.put_journal]; done) | rfl
@[simp] theorem State.countMod_boot (f : Field) (k : Nat) : (s.countMod f k).boot = s.boot := still_boot (State.still_countMod s f k)
@[simp] theorem State.countMod_tim (f : Field) (k : Nat) : (s.countMod f k).tim = s.tim := still_tim (State.still_countMod s f k)
@[simp] theorem State.countMod_slots (f : Field) (k : Nat) : (s.countMod f k).slots = s.slots := still_slots (State.still_countMod s f k)
@[simp] theorem State.countMod_core (f : Field) (k : Nat) : (s.countMod f k).core = s.core := still_core (State.still_countMod s f k)
@[simp] theorem State.countMod_cle (f : Field) (k : Nat) : (s.countMod f k).cle = s.cle := still_cle (State.still_countMod s f k)
@[simp] theorem State.countMod_svi (f : Field) (k : Nat) : (s.countMod f k).svi = s.svi := still_svi (State.still_countMod s f k)
@[simp] theorem State.countMod_pub (f : Field) (k : Nat) : (s.countMod f k).pub = s.pub := by
  unfold State.countMod; (try dsimp only); (repeat' split) <;> first | (simp only [State.put_pub]; done) | rfl
@[simp] theorem State.countMod_mod (f : Field) (k : Nat) : (s.countMod f k).mod = s.mod := still_mod (State.still_countMod s f k)
@[simp] theorem State.countMod_adc (f : Field) (k : Nat) : (s.countMod f k).adc = s.adc := still_adc (State.still_countMod s f k)
@[simp] theorem State.countMod_per (f : Field) (k : Nat) : (s.countMod f k).per = s.per := still_per (State.still_countMod s f k)
@[simp] theorem State.countMod_ho (f : Field) (k : Nat) : (s.countMod f k).ho = s.ho := still_ho (State.still_countMod s f k)
@[simp] theorem State.countMod_rtc (f : Field) (k : Nat) : (s.countMod f k).rtc = s.rtc := still_rtc (State.still_countMod s f k)
@[simp] theorem State.countMod_swc (f : Field) (k : Nat) : (s.countMod f k).swc = s.swc := still_swc (State.still_countMod s f k)
@[simp] theorem State.countMod_macs (f : Field) (k : Nat) : (s.countMod f k).macs = s.macs := still_macs (State.still_countMod s f k)
@[simp] theorem State.countMod_mbs (f : Field) (k : Nat) : (s.countMod f k).mbs = s.mbs := still_mbs (State.still_countMod s f k)
@[simp] theorem State.countMod_sliceOp (f : Field) (k : Nat) : (s.countMod f k).sliceOp = s.sliceOp := still_sliceOp (State.still_countMod s f k)
@[simp] theorem State.countMod_keys (f : Field) (k : Nat) : (s.countMod f k).keys = s.keys := still_keys (State.still_countMod s f k)
@[simp] theorem State.countMod_aqe (f : Field) (k : Nat) : (s.countMod f k).aqe = s.aqe := still_aqe (State.still_countMod s f k)
@[simp] theorem State.countMod_nrg (f : Field) (k : Nat) : (s.countMod f k).nrg = s.nrg := still_nrg (State.still_countMod s f k)
@[simp] theorem State.countMod_lce (f : Field) (k : Nat) : (s.countMod f k).lce = s.lce := still_lce (State.still_countMod s f k)
@[simp] theorem State.countMod_rck (f : Field) (k : Nat) : (s.countMod f k).rck = s.rck := still_rck (State.still_countMod s f k)
@[simp] theorem State.countMod_bank (f : Field) (k : Nat) : (s.countMod f k).bank = s.bank := still_bank (State.still_countMod s f k)
@[simp] theorem State.countMod_dram (f : Field) (k : Nat) : (s.countMod f k).dram = s.dram := still_dram (State.still_countMod s f k)

/-! ### reject -/

theorem State.still_reject (blk off reason : Nat) : (s.reject blk off reason).still = s.still := State.still_wr _ _ _
@[simp] theorem State.reject_pending (blk off reason : Nat) : (s.reject blk off reason).pending = s.pending := still_pending (State.still_reject s blk off reason)
@[simp] theorem State.reject_hiLatch (blk off reason : Nat) : (s.reject blk off reason).hiLatch = s.hiLatch := still_hiLatch (State.still_reject s blk off reason)
@[simp] theorem State.reject_time (blk off reason : Nat) : (s.reject blk off reason).time = s.time := State.wr_time _ _ _
@[simp] theorem State.reject_timeRun (blk off reason : Nat) : (s.reject blk off reason).timeRun = s.timeRun := still_timeRun (State.still_reject s blk off reason)
@[simp] theorem State.reject_outbox (blk off reason : Nat) : (s.reject blk off reason).outbox = s.outbox := State.wr_outbox _ _ _
@[simp] theorem State.reject_freeCtr (blk off reason : Nat) : (s.reject blk off reason).freeCtr = s.freeCtr := State.wr_freeCtr _ _ _
@[simp] theorem State.reject_evqPosted (blk off reason : Nat) : (s.reject blk off reason).evqPosted = s.evqPosted := State.wr_evqPosted _ _ _
@[simp] theorem State.reject_faults (blk off reason : Nat) : (s.reject blk off reason).faults = s.faults := State.wr_faults _ _ _
@[simp] theorem State.reject_tg (blk off reason : Nat) : (s.reject blk off reason).tg = s.tg := still_tg (State.still_reject s blk off reason)
@[simp] theorem State.reject_commits (blk off reason : Nat) : (s.reject blk off reason).commits = s.commits := still_commits (State.still_reject s blk off reason)
@[simp] theorem State.reject_rings (blk off reason : Nat) : (s.reject blk off reason).rings = s.rings := State.wr_rings _ _ _
@[simp] theorem State.reject_multi (blk off reason : Nat) : (s.reject blk off reason).multi = s.multi := still_multi (State.still_reject s blk off reason)
@[simp] theorem State.reject_pair (blk off reason : Nat) : (s.reject blk off reason).pair = s.pair := State.wr_pair _ _ _
@[simp] theorem State.reject_inj (blk off reason : Nat) : (s.reject blk off reason).inj = s.inj := still_inj (State.still_reject s blk off reason)
@[simp] theorem State.reject_journal (blk off reason : Nat) : (s.reject blk off reason).journal = s.journal := State.wr_journal _ _ _
@[simp] theorem State.reject_boot (blk off reason : Nat) : (s.reject blk off reason).boot = s.boot := still_boot (State.still_reject s blk off reason)
@[simp] theorem State.reject_tim (blk off reason : Nat) : (s.reject blk off reason).tim = s.tim := still_tim (State.still_reject s blk off reason)
@[simp] theorem State.reject_slots (blk off reason : Nat) : (s.reject blk off reason).slots = s.slots := still_slots (State.still_reject s blk off reason)
@[simp] theorem State.reject_core (blk off reason : Nat) : (s.reject blk off reason).core = s.core := still_core (State.still_reject s blk off reason)
@[simp] theorem State.reject_cle (blk off reason : Nat) : (s.reject blk off reason).cle = s.cle := still_cle (State.still_reject s blk off reason)
@[simp] theorem State.reject_svi (blk off reason : Nat) : (s.reject blk off reason).svi = s.svi := still_svi (State.still_reject s blk off reason)
@[simp] theorem State.reject_pub (blk off reason : Nat) : (s.reject blk off reason).pub = s.pub := State.wr_pub _ _ _
@[simp] theorem State.reject_mod (blk off reason : Nat) : (s.reject blk off reason).mod = s.mod := still_mod (State.still_reject s blk off reason)
@[simp] theorem State.reject_adc (blk off reason : Nat) : (s.reject blk off reason).adc = s.adc := still_adc (State.still_reject s blk off reason)
@[simp] theorem State.reject_per (blk off reason : Nat) : (s.reject blk off reason).per = s.per := still_per (State.still_reject s blk off reason)
@[simp] theorem State.reject_ho (blk off reason : Nat) : (s.reject blk off reason).ho = s.ho := still_ho (State.still_reject s blk off reason)
@[simp] theorem State.reject_rtc (blk off reason : Nat) : (s.reject blk off reason).rtc = s.rtc := still_rtc (State.still_reject s blk off reason)
@[simp] theorem State.reject_swc (blk off reason : Nat) : (s.reject blk off reason).swc = s.swc := still_swc (State.still_reject s blk off reason)
@[simp] theorem State.reject_macs (blk off reason : Nat) : (s.reject blk off reason).macs = s.macs := still_macs (State.still_reject s blk off reason)
@[simp] theorem State.reject_mbs (blk off reason : Nat) : (s.reject blk off reason).mbs = s.mbs := still_mbs (State.still_reject s blk off reason)
@[simp] theorem State.reject_sliceOp (blk off reason : Nat) : (s.reject blk off reason).sliceOp = s.sliceOp := still_sliceOp (State.still_reject s blk off reason)
@[simp] theorem State.reject_keys (blk off reason : Nat) : (s.reject blk off reason).keys = s.keys := still_keys (State.still_reject s blk off reason)
@[simp] theorem State.reject_aqe (blk off reason : Nat) : (s.reject blk off reason).aqe = s.aqe := still_aqe (State.still_reject s blk off reason)
@[simp] theorem State.reject_nrg (blk off reason : Nat) : (s.reject blk off reason).nrg = s.nrg := still_nrg (State.still_reject s blk off reason)
@[simp] theorem State.reject_lce (blk off reason : Nat) : (s.reject blk off reason).lce = s.lce := still_lce (State.still_reject s blk off reason)
@[simp] theorem State.reject_rck (blk off reason : Nat) : (s.reject blk off reason).rck = s.rck := still_rck (State.still_reject s blk off reason)
@[simp] theorem State.reject_bank (blk off reason : Nat) : (s.reject blk off reason).bank = s.bank := still_bank (State.still_reject s blk off reason)
@[simp] theorem State.reject_dram (blk off reason : Nat) : (s.reject blk off reason).dram = s.dram := still_dram (State.still_reject s blk off reason)

/-! ### emit -/

theorem State.still_emit (o : Output) : (s.emit o).still = s.still := rfl
@[simp] theorem State.emit_pending (o : Output) : (s.emit o).pending = s.pending := rfl
@[simp] theorem State.emit_regs (o : Output) : (s.emit o).regs = s.regs := rfl
@[simp] theorem State.emit_hiLatch (o : Output) : (s.emit o).hiLatch = s.hiLatch := rfl
@[simp] theorem State.emit_time (o : Output) : (s.emit o).time = s.time := rfl
@[simp] theorem State.emit_timeRun (o : Output) : (s.emit o).timeRun = s.timeRun := rfl
@[simp] theorem State.emit_freeCtr (o : Output) : (s.emit o).freeCtr = s.freeCtr := rfl
@[simp] theorem State.emit_evqPosted (o : Output) : (s.emit o).evqPosted = s.evqPosted := rfl
@[simp] theorem State.emit_faults (o : Output) : (s.emit o).faults = s.faults := rfl
@[simp] theorem State.emit_tg (o : Output) : (s.emit o).tg = s.tg := rfl
@[simp] theorem State.emit_commits (o : Output) : (s.emit o).commits = s.commits := rfl
@[simp] theorem State.emit_rings (o : Output) : (s.emit o).rings = s.rings := rfl
@[simp] theorem State.emit_multi (o : Output) : (s.emit o).multi = s.multi := rfl
@[simp] theorem State.emit_pair (o : Output) : (s.emit o).pair = s.pair := rfl
@[simp] theorem State.emit_inj (o : Output) : (s.emit o).inj = s.inj := rfl
@[simp] theorem State.emit_journal (o : Output) : (s.emit o).journal = s.journal := rfl
@[simp] theorem State.emit_boot (o : Output) : (s.emit o).boot = s.boot := rfl
@[simp] theorem State.emit_tim (o : Output) : (s.emit o).tim = s.tim := rfl
@[simp] theorem State.emit_slots (o : Output) : (s.emit o).slots = s.slots := rfl
@[simp] theorem State.emit_core (o : Output) : (s.emit o).core = s.core := rfl
@[simp] theorem State.emit_cle (o : Output) : (s.emit o).cle = s.cle := rfl
@[simp] theorem State.emit_svi (o : Output) : (s.emit o).svi = s.svi := rfl
@[simp] theorem State.emit_pub (o : Output) : (s.emit o).pub = s.pub := rfl
@[simp] theorem State.emit_mod (o : Output) : (s.emit o).mod = s.mod := rfl
@[simp] theorem State.emit_adc (o : Output) : (s.emit o).adc = s.adc := rfl
@[simp] theorem State.emit_per (o : Output) : (s.emit o).per = s.per := rfl
@[simp] theorem State.emit_ho (o : Output) : (s.emit o).ho = s.ho := rfl
@[simp] theorem State.emit_rtc (o : Output) : (s.emit o).rtc = s.rtc := rfl
@[simp] theorem State.emit_swc (o : Output) : (s.emit o).swc = s.swc := rfl
@[simp] theorem State.emit_macs (o : Output) : (s.emit o).macs = s.macs := rfl
@[simp] theorem State.emit_mbs (o : Output) : (s.emit o).mbs = s.mbs := rfl
@[simp] theorem State.emit_sliceOp (o : Output) : (s.emit o).sliceOp = s.sliceOp := rfl
@[simp] theorem State.emit_keys (o : Output) : (s.emit o).keys = s.keys := rfl
@[simp] theorem State.emit_aqe (o : Output) : (s.emit o).aqe = s.aqe := rfl
@[simp] theorem State.emit_nrg (o : Output) : (s.emit o).nrg = s.nrg := rfl
@[simp] theorem State.emit_lce (o : Output) : (s.emit o).lce = s.lce := rfl
@[simp] theorem State.emit_rck (o : Output) : (s.emit o).rck = s.rck := rfl
@[simp] theorem State.emit_bank (o : Output) : (s.emit o).bank = s.bank := rfl
@[simp] theorem State.emit_dram (o : Output) : (s.emit o).dram = s.dram := rfl

/-! ### drawn -/

theorem State.still_drawn : (s.drawn).still = s.still := rfl
@[simp] theorem State.drawn_pending : (s.drawn).pending = s.pending := rfl
@[simp] theorem State.drawn_regs : (s.drawn).regs = s.regs := rfl
@[simp] theorem State.drawn_hiLatch : (s.drawn).hiLatch = s.hiLatch := rfl
@[simp] theorem State.drawn_time : (s.drawn).time = s.time := rfl
@[simp] theorem State.drawn_timeRun : (s.drawn).timeRun = s.timeRun := rfl
@[simp] theorem State.drawn_outbox : (s.drawn).outbox = s.outbox := rfl
@[simp] theorem State.drawn_evqPosted : (s.drawn).evqPosted = s.evqPosted := rfl
@[simp] theorem State.drawn_faults : (s.drawn).faults = s.faults := rfl
@[simp] theorem State.drawn_tg : (s.drawn).tg = s.tg := rfl
@[simp] theorem State.drawn_commits : (s.drawn).commits = s.commits := rfl
@[simp] theorem State.drawn_rings : (s.drawn).rings = s.rings := rfl
@[simp] theorem State.drawn_multi : (s.drawn).multi = s.multi := rfl
@[simp] theorem State.drawn_pair : (s.drawn).pair = s.pair := rfl
@[simp] theorem State.drawn_inj : (s.drawn).inj = s.inj := rfl
@[simp] theorem State.drawn_journal : (s.drawn).journal = s.journal := rfl
@[simp] theorem State.drawn_boot : (s.drawn).boot = s.boot := rfl
@[simp] theorem State.drawn_tim : (s.drawn).tim = s.tim := rfl
@[simp] theorem State.drawn_slots : (s.drawn).slots = s.slots := rfl
@[simp] theorem State.drawn_core : (s.drawn).core = s.core := rfl
@[simp] theorem State.drawn_cle : (s.drawn).cle = s.cle := rfl
@[simp] theorem State.drawn_svi : (s.drawn).svi = s.svi := rfl
@[simp] theorem State.drawn_pub : (s.drawn).pub = s.pub := rfl
@[simp] theorem State.drawn_mod : (s.drawn).mod = s.mod := rfl
@[simp] theorem State.drawn_adc : (s.drawn).adc = s.adc := rfl
@[simp] theorem State.drawn_per : (s.drawn).per = s.per := rfl
@[simp] theorem State.drawn_ho : (s.drawn).ho = s.ho := rfl
@[simp] theorem State.drawn_rtc : (s.drawn).rtc = s.rtc := rfl
@[simp] theorem State.drawn_swc : (s.drawn).swc = s.swc := rfl
@[simp] theorem State.drawn_macs : (s.drawn).macs = s.macs := rfl
@[simp] theorem State.drawn_mbs : (s.drawn).mbs = s.mbs := rfl
@[simp] theorem State.drawn_sliceOp : (s.drawn).sliceOp = s.sliceOp := rfl
@[simp] theorem State.drawn_keys : (s.drawn).keys = s.keys := rfl
@[simp] theorem State.drawn_aqe : (s.drawn).aqe = s.aqe := rfl
@[simp] theorem State.drawn_nrg : (s.drawn).nrg = s.nrg := rfl
@[simp] theorem State.drawn_lce : (s.drawn).lce = s.lce := rfl
@[simp] theorem State.drawn_rck : (s.drawn).rck = s.rck := rfl
@[simp] theorem State.drawn_bank : (s.drawn).bank = s.bank := rfl
@[simp] theorem State.drawn_dram : (s.drawn).dram = s.dram := rfl

/-! ### advance -/

theorem State.still_advance (t : Nat) : (s.advance t).still = s.still := by
  unfold State.advance; split <;> rfl
@[simp] theorem State.advance_pending (t : Nat) : (s.advance t).pending = s.pending := still_pending (State.still_advance s t)
@[simp] theorem State.advance_regs (t : Nat) : (s.advance t).regs = s.regs := by
  unfold State.advance; split <;> rfl
@[simp] theorem State.advance_hiLatch (t : Nat) : (s.advance t).hiLatch = s.hiLatch := still_hiLatch (State.still_advance s t)
@[simp] theorem State.advance_timeRun (t : Nat) : (s.advance t).timeRun = s.timeRun := still_timeRun (State.still_advance s t)
@[simp] theorem State.advance_outbox (t : Nat) : (s.advance t).outbox = s.outbox := by
  unfold State.advance; split <;> rfl
@[simp] theorem State.advance_freeCtr (t : Nat) : (s.advance t).freeCtr = s.freeCtr := by
  unfold State.advance; split <;> rfl
@[simp] theorem State.advance_evqPosted (t : Nat) : (s.advance t).evqPosted = s.evqPosted := by
  unfold State.advance; split <;> rfl
@[simp] theorem State.advance_faults (t : Nat) : (s.advance t).faults = s.faults := by
  unfold State.advance; split <;> rfl
@[simp] theorem State.advance_tg (t : Nat) : (s.advance t).tg = s.tg := still_tg (State.still_advance s t)
@[simp] theorem State.advance_commits (t : Nat) : (s.advance t).commits = s.commits := still_commits (State.still_advance s t)
@[simp] theorem State.advance_rings (t : Nat) : (s.advance t).rings = s.rings := by
  unfold State.advance; split <;> rfl
@[simp] theorem State.advance_multi (t : Nat) : (s.advance t).multi = s.multi := still_multi (State.still_advance s t)
@[simp] theorem State.advance_pair (t : Nat) : (s.advance t).pair = s.pair := by
  unfold State.advance; split <;> rfl
@[simp] theorem State.advance_inj (t : Nat) : (s.advance t).inj = s.inj := still_inj (State.still_advance s t)
@[simp] theorem State.advance_journal (t : Nat) : (s.advance t).journal = s.journal := by
  unfold State.advance; split <;> rfl
@[simp] theorem State.advance_boot (t : Nat) : (s.advance t).boot = s.boot := still_boot (State.still_advance s t)
@[simp] theorem State.advance_tim (t : Nat) : (s.advance t).tim = s.tim := still_tim (State.still_advance s t)
@[simp] theorem State.advance_slots (t : Nat) : (s.advance t).slots = s.slots := still_slots (State.still_advance s t)
@[simp] theorem State.advance_core (t : Nat) : (s.advance t).core = s.core := still_core (State.still_advance s t)
@[simp] theorem State.advance_cle (t : Nat) : (s.advance t).cle = s.cle := still_cle (State.still_advance s t)
@[simp] theorem State.advance_svi (t : Nat) : (s.advance t).svi = s.svi := still_svi (State.still_advance s t)
@[simp] theorem State.advance_pub (t : Nat) : (s.advance t).pub = s.pub := by
  unfold State.advance; split <;> rfl
@[simp] theorem State.advance_mod (t : Nat) : (s.advance t).mod = s.mod := still_mod (State.still_advance s t)
@[simp] theorem State.advance_adc (t : Nat) : (s.advance t).adc = s.adc := still_adc (State.still_advance s t)
@[simp] theorem State.advance_per (t : Nat) : (s.advance t).per = s.per := still_per (State.still_advance s t)
@[simp] theorem State.advance_ho (t : Nat) : (s.advance t).ho = s.ho := still_ho (State.still_advance s t)
@[simp] theorem State.advance_rtc (t : Nat) : (s.advance t).rtc = s.rtc := still_rtc (State.still_advance s t)
@[simp] theorem State.advance_swc (t : Nat) : (s.advance t).swc = s.swc := still_swc (State.still_advance s t)
@[simp] theorem State.advance_macs (t : Nat) : (s.advance t).macs = s.macs := still_macs (State.still_advance s t)
@[simp] theorem State.advance_mbs (t : Nat) : (s.advance t).mbs = s.mbs := still_mbs (State.still_advance s t)
@[simp] theorem State.advance_sliceOp (t : Nat) : (s.advance t).sliceOp = s.sliceOp := still_sliceOp (State.still_advance s t)
@[simp] theorem State.advance_keys (t : Nat) : (s.advance t).keys = s.keys := still_keys (State.still_advance s t)
@[simp] theorem State.advance_aqe (t : Nat) : (s.advance t).aqe = s.aqe := still_aqe (State.still_advance s t)
@[simp] theorem State.advance_nrg (t : Nat) : (s.advance t).nrg = s.nrg := still_nrg (State.still_advance s t)
@[simp] theorem State.advance_lce (t : Nat) : (s.advance t).lce = s.lce := still_lce (State.still_advance s t)
@[simp] theorem State.advance_rck (t : Nat) : (s.advance t).rck = s.rck := still_rck (State.still_advance s t)
@[simp] theorem State.advance_bank (t : Nat) : (s.advance t).bank = s.bank := still_bank (State.still_advance s t)
@[simp] theorem State.advance_dram (t : Nat) : (s.advance t).dram = s.dram := still_dram (State.still_advance s t)

/-! ### post -/

theorem State.still_post (slice kind : Nat) (l : List (Nat × Nat × Nat)) : (s.post slice kind l).still = s.still := rfl
@[simp] theorem State.post_pending (slice kind : Nat) (l : List (Nat × Nat × Nat)) : (s.post slice kind l).pending = s.pending := rfl
@[simp] theorem State.post_regs (slice kind : Nat) (l : List (Nat × Nat × Nat)) : (s.post slice kind l).regs = s.regs := rfl
@[simp] theorem State.post_hiLatch (slice kind : Nat) (l : List (Nat × Nat × Nat)) : (s.post slice kind l).hiLatch = s.hiLatch := rfl
@[simp] theorem State.post_time (slice kind : Nat) (l : List (Nat × Nat × Nat)) : (s.post slice kind l).time = s.time := rfl
@[simp] theorem State.post_timeRun (slice kind : Nat) (l : List (Nat × Nat × Nat)) : (s.post slice kind l).timeRun = s.timeRun := rfl
@[simp] theorem State.post_outbox (slice kind : Nat) (l : List (Nat × Nat × Nat)) : (s.post slice kind l).outbox = s.outbox := rfl
@[simp] theorem State.post_freeCtr (slice kind : Nat) (l : List (Nat × Nat × Nat)) : (s.post slice kind l).freeCtr = s.freeCtr := rfl
@[simp] theorem State.post_faults (slice kind : Nat) (l : List (Nat × Nat × Nat)) : (s.post slice kind l).faults = s.faults := rfl
@[simp] theorem State.post_tg (slice kind : Nat) (l : List (Nat × Nat × Nat)) : (s.post slice kind l).tg = s.tg := rfl
@[simp] theorem State.post_commits (slice kind : Nat) (l : List (Nat × Nat × Nat)) : (s.post slice kind l).commits = s.commits := rfl
@[simp] theorem State.post_rings (slice kind : Nat) (l : List (Nat × Nat × Nat)) : (s.post slice kind l).rings = s.rings := rfl
@[simp] theorem State.post_multi (slice kind : Nat) (l : List (Nat × Nat × Nat)) : (s.post slice kind l).multi = s.multi := rfl
@[simp] theorem State.post_pair (slice kind : Nat) (l : List (Nat × Nat × Nat)) : (s.post slice kind l).pair = s.pair := rfl
@[simp] theorem State.post_inj (slice kind : Nat) (l : List (Nat × Nat × Nat)) : (s.post slice kind l).inj = s.inj := rfl
@[simp] theorem State.post_journal (slice kind : Nat) (l : List (Nat × Nat × Nat)) : (s.post slice kind l).journal = s.journal := rfl
@[simp] theorem State.post_boot (slice kind : Nat) (l : List (Nat × Nat × Nat)) : (s.post slice kind l).boot = s.boot := rfl
@[simp] theorem State.post_tim (slice kind : Nat) (l : List (Nat × Nat × Nat)) : (s.post slice kind l).tim = s.tim := rfl
@[simp] theorem State.post_slots (slice kind : Nat) (l : List (Nat × Nat × Nat)) : (s.post slice kind l).slots = s.slots := rfl
@[simp] theorem State.post_core (slice kind : Nat) (l : List (Nat × Nat × Nat)) : (s.post slice kind l).core = s.core := rfl
@[simp] theorem State.post_cle (slice kind : Nat) (l : List (Nat × Nat × Nat)) : (s.post slice kind l).cle = s.cle := rfl
@[simp] theorem State.post_svi (slice kind : Nat) (l : List (Nat × Nat × Nat)) : (s.post slice kind l).svi = s.svi := rfl
@[simp] theorem State.post_pub (slice kind : Nat) (l : List (Nat × Nat × Nat)) : (s.post slice kind l).pub = s.pub := rfl
@[simp] theorem State.post_mod (slice kind : Nat) (l : List (Nat × Nat × Nat)) : (s.post slice kind l).mod = s.mod := rfl
@[simp] theorem State.post_adc (slice kind : Nat) (l : List (Nat × Nat × Nat)) : (s.post slice kind l).adc = s.adc := rfl
@[simp] theorem State.post_per (slice kind : Nat) (l : List (Nat × Nat × Nat)) : (s.post slice kind l).per = s.per := rfl
@[simp] theorem State.post_ho (slice kind : Nat) (l : List (Nat × Nat × Nat)) : (s.post slice kind l).ho = s.ho := rfl
@[simp] theorem State.post_rtc (slice kind : Nat) (l : List (Nat × Nat × Nat)) : (s.post slice kind l).rtc = s.rtc := rfl
@[simp] theorem State.post_swc (slice kind : Nat) (l : List (Nat × Nat × Nat)) : (s.post slice kind l).swc = s.swc := rfl
@[simp] theorem State.post_macs (slice kind : Nat) (l : List (Nat × Nat × Nat)) : (s.post slice kind l).macs = s.macs := rfl
@[simp] theorem State.post_mbs (slice kind : Nat) (l : List (Nat × Nat × Nat)) : (s.post slice kind l).mbs = s.mbs := rfl
@[simp] theorem State.post_sliceOp (slice kind : Nat) (l : List (Nat × Nat × Nat)) : (s.post slice kind l).sliceOp = s.sliceOp := rfl
@[simp] theorem State.post_keys (slice kind : Nat) (l : List (Nat × Nat × Nat)) : (s.post slice kind l).keys = s.keys := rfl
@[simp] theorem State.post_aqe (slice kind : Nat) (l : List (Nat × Nat × Nat)) : (s.post slice kind l).aqe = s.aqe := rfl
@[simp] theorem State.post_nrg (slice kind : Nat) (l : List (Nat × Nat × Nat)) : (s.post slice kind l).nrg = s.nrg := rfl
@[simp] theorem State.post_lce (slice kind : Nat) (l : List (Nat × Nat × Nat)) : (s.post slice kind l).lce = s.lce := rfl
@[simp] theorem State.post_rck (slice kind : Nat) (l : List (Nat × Nat × Nat)) : (s.post slice kind l).rck = s.rck := rfl
@[simp] theorem State.post_bank (slice kind : Nat) (l : List (Nat × Nat × Nat)) : (s.post slice kind l).bank = s.bank := rfl
@[simp] theorem State.post_dram (slice kind : Nat) (l : List (Nat × Nat × Nat)) : (s.post slice kind l).dram = s.dram := rfl

/-! ### postSaturated -/

theorem State.still_postSaturated (slice : Nat) (f : Field) : (s.postSaturated slice f).still = s.still := rfl
@[simp] theorem State.postSaturated_pending (slice : Nat) (f : Field) : (s.postSaturated slice f).pending = s.pending := rfl
@[simp] theorem State.postSaturated_regs (slice : Nat) (f : Field) : (s.postSaturated slice f).regs = s.regs := rfl
@[simp] theorem State.postSaturated_hiLatch (slice : Nat) (f : Field) : (s.postSaturated slice f).hiLatch = s.hiLatch := rfl
@[simp] theorem State.postSaturated_time (slice : Nat) (f : Field) : (s.postSaturated slice f).time = s.time := rfl
@[simp] theorem State.postSaturated_timeRun (slice : Nat) (f : Field) : (s.postSaturated slice f).timeRun = s.timeRun := rfl
@[simp] theorem State.postSaturated_outbox (slice : Nat) (f : Field) : (s.postSaturated slice f).outbox = s.outbox := rfl
@[simp] theorem State.postSaturated_freeCtr (slice : Nat) (f : Field) : (s.postSaturated slice f).freeCtr = s.freeCtr := rfl
@[simp] theorem State.postSaturated_faults (slice : Nat) (f : Field) : (s.postSaturated slice f).faults = s.faults := rfl
@[simp] theorem State.postSaturated_tg (slice : Nat) (f : Field) : (s.postSaturated slice f).tg = s.tg := rfl
@[simp] theorem State.postSaturated_commits (slice : Nat) (f : Field) : (s.postSaturated slice f).commits = s.commits := rfl
@[simp] theorem State.postSaturated_rings (slice : Nat) (f : Field) : (s.postSaturated slice f).rings = s.rings := rfl
@[simp] theorem State.postSaturated_multi (slice : Nat) (f : Field) : (s.postSaturated slice f).multi = s.multi := rfl
@[simp] theorem State.postSaturated_pair (slice : Nat) (f : Field) : (s.postSaturated slice f).pair = s.pair := rfl
@[simp] theorem State.postSaturated_inj (slice : Nat) (f : Field) : (s.postSaturated slice f).inj = s.inj := rfl
@[simp] theorem State.postSaturated_journal (slice : Nat) (f : Field) : (s.postSaturated slice f).journal = s.journal := rfl
@[simp] theorem State.postSaturated_boot (slice : Nat) (f : Field) : (s.postSaturated slice f).boot = s.boot := rfl
@[simp] theorem State.postSaturated_tim (slice : Nat) (f : Field) : (s.postSaturated slice f).tim = s.tim := rfl
@[simp] theorem State.postSaturated_slots (slice : Nat) (f : Field) : (s.postSaturated slice f).slots = s.slots := rfl
@[simp] theorem State.postSaturated_core (slice : Nat) (f : Field) : (s.postSaturated slice f).core = s.core := rfl
@[simp] theorem State.postSaturated_cle (slice : Nat) (f : Field) : (s.postSaturated slice f).cle = s.cle := rfl
@[simp] theorem State.postSaturated_svi (slice : Nat) (f : Field) : (s.postSaturated slice f).svi = s.svi := rfl
@[simp] theorem State.postSaturated_pub (slice : Nat) (f : Field) : (s.postSaturated slice f).pub = s.pub := rfl
@[simp] theorem State.postSaturated_mod (slice : Nat) (f : Field) : (s.postSaturated slice f).mod = s.mod := rfl
@[simp] theorem State.postSaturated_adc (slice : Nat) (f : Field) : (s.postSaturated slice f).adc = s.adc := rfl
@[simp] theorem State.postSaturated_per (slice : Nat) (f : Field) : (s.postSaturated slice f).per = s.per := rfl
@[simp] theorem State.postSaturated_ho (slice : Nat) (f : Field) : (s.postSaturated slice f).ho = s.ho := rfl
@[simp] theorem State.postSaturated_rtc (slice : Nat) (f : Field) : (s.postSaturated slice f).rtc = s.rtc := rfl
@[simp] theorem State.postSaturated_swc (slice : Nat) (f : Field) : (s.postSaturated slice f).swc = s.swc := rfl
@[simp] theorem State.postSaturated_macs (slice : Nat) (f : Field) : (s.postSaturated slice f).macs = s.macs := rfl
@[simp] theorem State.postSaturated_mbs (slice : Nat) (f : Field) : (s.postSaturated slice f).mbs = s.mbs := rfl
@[simp] theorem State.postSaturated_sliceOp (slice : Nat) (f : Field) : (s.postSaturated slice f).sliceOp = s.sliceOp := rfl
@[simp] theorem State.postSaturated_keys (slice : Nat) (f : Field) : (s.postSaturated slice f).keys = s.keys := rfl
@[simp] theorem State.postSaturated_aqe (slice : Nat) (f : Field) : (s.postSaturated slice f).aqe = s.aqe := rfl
@[simp] theorem State.postSaturated_nrg (slice : Nat) (f : Field) : (s.postSaturated slice f).nrg = s.nrg := rfl
@[simp] theorem State.postSaturated_lce (slice : Nat) (f : Field) : (s.postSaturated slice f).lce = s.lce := rfl
@[simp] theorem State.postSaturated_rck (slice : Nat) (f : Field) : (s.postSaturated slice f).rck = s.rck := rfl
@[simp] theorem State.postSaturated_bank (slice : Nat) (f : Field) : (s.postSaturated slice f).bank = s.bank := rfl
@[simp] theorem State.postSaturated_dram (slice : Nat) (f : Field) : (s.postSaturated slice f).dram = s.dram := rfl

/-! ### countFor -/

theorem State.still_countFor (slice : Nat) (f : Field) (k : Nat) : (s.countFor slice f k).still = s.still := by
  unfold State.countFor; (try dsimp only); (repeat' split) <;> simp only [State.still_mk, State.still_put, State.still_postSaturated]
@[simp] theorem State.countFor_pending (slice : Nat) (f : Field) (k : Nat) : (s.countFor slice f k).pending = s.pending := still_pending (State.still_countFor s slice f k)
@[simp] theorem State.countFor_hiLatch (slice : Nat) (f : Field) (k : Nat) : (s.countFor slice f k).hiLatch = s.hiLatch := still_hiLatch (State.still_countFor s slice f k)
@[simp] theorem State.countFor_time (slice : Nat) (f : Field) (k : Nat) : (s.countFor slice f k).time = s.time := by
  unfold State.countFor; (try dsimp only); (repeat' split) <;> first | (simp only [State.put_time, State.postSaturated_time]; done) | rfl
@[simp] theorem State.countFor_timeRun (slice : Nat) (f : Field) (k : Nat) : (s.countFor slice f k).timeRun = s.timeRun := still_timeRun (State.still_countFor s slice f k)
@[simp] theorem State.countFor_outbox (slice : Nat) (f : Field) (k : Nat) : (s.countFor slice f k).outbox = s.outbox := by
  unfold State.countFor; (try dsimp only); (repeat' split) <;> first | (simp only [State.put_outbox, State.postSaturated_outbox]; done) | rfl
@[simp] theorem State.countFor_freeCtr (slice : Nat) (f : Field) (k : Nat) : (s.countFor slice f k).freeCtr = s.freeCtr := by
  unfold State.countFor; (try dsimp only); (repeat' split) <;> first | (simp only [State.put_freeCtr, State.postSaturated_freeCtr]; done) | rfl
@[simp] theorem State.countFor_faults (slice : Nat) (f : Field) (k : Nat) : (s.countFor slice f k).faults = s.faults := by
  unfold State.countFor; (try dsimp only); (repeat' split) <;> first | (simp only [State.put_faults, State.postSaturated_faults]; done) | rfl
@[simp] theorem State.countFor_tg (slice : Nat) (f : Field) (k : Nat) : (s.countFor slice f k).tg = s.tg := still_tg (State.still_countFor s slice f k)
@[simp] theorem State.countFor_commits (slice : Nat) (f : Field) (k : Nat) : (s.countFor slice f k).commits = s.commits := still_commits (State.still_countFor s slice f k)
@[simp] theorem State.countFor_rings (slice : Nat) (f : Field) (k : Nat) : (s.countFor slice f k).rings = s.rings := by
  unfold State.countFor; (try dsimp only); (repeat' split) <;> first | (simp only [State.put_rings, State.postSaturated_rings]; done) | rfl
@[simp] theorem State.countFor_multi (slice : Nat) (f : Field) (k : Nat) : (s.countFor slice f k).multi = s.multi := still_multi (State.still_countFor s slice f k)
@[simp] theorem State.countFor_pair (slice : Nat) (f : Field) (k : Nat) : (s.countFor slice f k).pair = s.pair := by
  unfold State.countFor; (try dsimp only); (repeat' split) <;> first | (simp only [State.put_pair, State.postSaturated_pair]; done) | rfl
@[simp] theorem State.countFor_inj (slice : Nat) (f : Field) (k : Nat) : (s.countFor slice f k).inj = s.inj := still_inj (State.still_countFor s slice f k)
@[simp] theorem State.countFor_journal (slice : Nat) (f : Field) (k : Nat) : (s.countFor slice f k).journal = s.journal := by
  unfold State.countFor; (try dsimp only); (repeat' split) <;> first | (simp only [State.put_journal, State.postSaturated_journal]; done) | rfl
@[simp] theorem State.countFor_boot (slice : Nat) (f : Field) (k : Nat) : (s.countFor slice f k).boot = s.boot := still_boot (State.still_countFor s slice f k)
@[simp] theorem State.countFor_tim (slice : Nat) (f : Field) (k : Nat) : (s.countFor slice f k).tim = s.tim := still_tim (State.still_countFor s slice f k)
@[simp] theorem State.countFor_slots (slice : Nat) (f : Field) (k : Nat) : (s.countFor slice f k).slots = s.slots := still_slots (State.still_countFor s slice f k)
@[simp] theorem State.countFor_core (slice : Nat) (f : Field) (k : Nat) : (s.countFor slice f k).core = s.core := still_core (State.still_countFor s slice f k)
@[simp] theorem State.countFor_cle (slice : Nat) (f : Field) (k : Nat) : (s.countFor slice f k).cle = s.cle := still_cle (State.still_countFor s slice f k)
@[simp] theorem State.countFor_svi (slice : Nat) (f : Field) (k : Nat) : (s.countFor slice f k).svi = s.svi := still_svi (State.still_countFor s slice f k)
@[simp] theorem State.countFor_pub (slice : Nat) (f : Field) (k : Nat) : (s.countFor slice f k).pub = s.pub := by
  unfold State.countFor; (try dsimp only); (repeat' split) <;> first | (simp only [State.put_pub, State.postSaturated_pub]; done) | rfl
@[simp] theorem State.countFor_mod (slice : Nat) (f : Field) (k : Nat) : (s.countFor slice f k).mod = s.mod := still_mod (State.still_countFor s slice f k)
@[simp] theorem State.countFor_adc (slice : Nat) (f : Field) (k : Nat) : (s.countFor slice f k).adc = s.adc := still_adc (State.still_countFor s slice f k)
@[simp] theorem State.countFor_per (slice : Nat) (f : Field) (k : Nat) : (s.countFor slice f k).per = s.per := still_per (State.still_countFor s slice f k)
@[simp] theorem State.countFor_ho (slice : Nat) (f : Field) (k : Nat) : (s.countFor slice f k).ho = s.ho := still_ho (State.still_countFor s slice f k)
@[simp] theorem State.countFor_rtc (slice : Nat) (f : Field) (k : Nat) : (s.countFor slice f k).rtc = s.rtc := still_rtc (State.still_countFor s slice f k)
@[simp] theorem State.countFor_swc (slice : Nat) (f : Field) (k : Nat) : (s.countFor slice f k).swc = s.swc := still_swc (State.still_countFor s slice f k)
@[simp] theorem State.countFor_macs (slice : Nat) (f : Field) (k : Nat) : (s.countFor slice f k).macs = s.macs := still_macs (State.still_countFor s slice f k)
@[simp] theorem State.countFor_mbs (slice : Nat) (f : Field) (k : Nat) : (s.countFor slice f k).mbs = s.mbs := still_mbs (State.still_countFor s slice f k)
@[simp] theorem State.countFor_sliceOp (slice : Nat) (f : Field) (k : Nat) : (s.countFor slice f k).sliceOp = s.sliceOp := still_sliceOp (State.still_countFor s slice f k)
@[simp] theorem State.countFor_keys (slice : Nat) (f : Field) (k : Nat) : (s.countFor slice f k).keys = s.keys := still_keys (State.still_countFor s slice f k)
@[simp] theorem State.countFor_aqe (slice : Nat) (f : Field) (k : Nat) : (s.countFor slice f k).aqe = s.aqe := still_aqe (State.still_countFor s slice f k)
@[simp] theorem State.countFor_nrg (slice : Nat) (f : Field) (k : Nat) : (s.countFor slice f k).nrg = s.nrg := still_nrg (State.still_countFor s slice f k)
@[simp] theorem State.countFor_lce (slice : Nat) (f : Field) (k : Nat) : (s.countFor slice f k).lce = s.lce := still_lce (State.still_countFor s slice f k)
@[simp] theorem State.countFor_rck (slice : Nat) (f : Field) (k : Nat) : (s.countFor slice f k).rck = s.rck := still_rck (State.still_countFor s slice f k)
@[simp] theorem State.countFor_bank (slice : Nat) (f : Field) (k : Nat) : (s.countFor slice f k).bank = s.bank := still_bank (State.still_countFor s slice f k)
@[simp] theorem State.countFor_dram (slice : Nat) (f : Field) (k : Nat) : (s.countFor slice f k).dram = s.dram := still_dram (State.still_countFor s slice f k)

/-! ### countBy -/

theorem State.still_countBy (f : Field) (k : Nat) : (s.countBy f k).still = s.still := by
  unfold State.countBy; (try dsimp only); (repeat' split) <;> simp only [State.still_mk, State.still_countFor]
@[simp] theorem State.countBy_pending (f : Field) (k : Nat) : (s.countBy f k).pending = s.pending := still_pending (State.still_countBy s f k)
@[simp] theorem State.countBy_hiLatch (f : Field) (k : Nat) : (s.countBy f k).hiLatch = s.hiLatch := still_hiLatch (State.still_countBy s f k)
@[simp] theorem State.countBy_time (f : Field) (k : Nat) : (s.countBy f k).time = s.time := by
  unfold State.countBy; (try dsimp only); (repeat' split) <;> first | (simp only [State.countFor_time]; done) | rfl
@[simp] theorem State.countBy_timeRun (f : Field) (k : Nat) : (s.countBy f k).timeRun = s.timeRun := still_timeRun (State.still_countBy s f k)
@[simp] theorem State.countBy_outbox (f : Field) (k : Nat) : (s.countBy f k).outbox = s.outbox := by
  unfold State.countBy; (try dsimp only); (repeat' split) <;> first | (simp only [State.countFor_outbox]; done) | rfl
@[simp] theorem State.countBy_freeCtr (f : Field) (k : Nat) : (s.countBy f k).freeCtr = s.freeCtr := by
  unfold State.countBy; (try dsimp only); (repeat' split) <;> first | (simp only [State.countFor_freeCtr]; done) | rfl
@[simp] theorem State.countBy_faults (f : Field) (k : Nat) : (s.countBy f k).faults = s.faults := by
  unfold State.countBy; (try dsimp only); (repeat' split) <;> first | (simp only [State.countFor_faults]; done) | rfl
@[simp] theorem State.countBy_tg (f : Field) (k : Nat) : (s.countBy f k).tg = s.tg := still_tg (State.still_countBy s f k)
@[simp] theorem State.countBy_commits (f : Field) (k : Nat) : (s.countBy f k).commits = s.commits := still_commits (State.still_countBy s f k)
@[simp] theorem State.countBy_rings (f : Field) (k : Nat) : (s.countBy f k).rings = s.rings := by
  unfold State.countBy; (try dsimp only); (repeat' split) <;> first | (simp only [State.countFor_rings]; done) | rfl
@[simp] theorem State.countBy_multi (f : Field) (k : Nat) : (s.countBy f k).multi = s.multi := still_multi (State.still_countBy s f k)
@[simp] theorem State.countBy_pair (f : Field) (k : Nat) : (s.countBy f k).pair = s.pair := by
  unfold State.countBy; (try dsimp only); (repeat' split) <;> first | (simp only [State.countFor_pair]; done) | rfl
@[simp] theorem State.countBy_inj (f : Field) (k : Nat) : (s.countBy f k).inj = s.inj := still_inj (State.still_countBy s f k)
@[simp] theorem State.countBy_journal (f : Field) (k : Nat) : (s.countBy f k).journal = s.journal := by
  unfold State.countBy; (try dsimp only); (repeat' split) <;> first | (simp only [State.countFor_journal]; done) | rfl
@[simp] theorem State.countBy_boot (f : Field) (k : Nat) : (s.countBy f k).boot = s.boot := still_boot (State.still_countBy s f k)
@[simp] theorem State.countBy_tim (f : Field) (k : Nat) : (s.countBy f k).tim = s.tim := still_tim (State.still_countBy s f k)
@[simp] theorem State.countBy_slots (f : Field) (k : Nat) : (s.countBy f k).slots = s.slots := still_slots (State.still_countBy s f k)
@[simp] theorem State.countBy_core (f : Field) (k : Nat) : (s.countBy f k).core = s.core := still_core (State.still_countBy s f k)
@[simp] theorem State.countBy_cle (f : Field) (k : Nat) : (s.countBy f k).cle = s.cle := still_cle (State.still_countBy s f k)
@[simp] theorem State.countBy_svi (f : Field) (k : Nat) : (s.countBy f k).svi = s.svi := still_svi (State.still_countBy s f k)
@[simp] theorem State.countBy_pub (f : Field) (k : Nat) : (s.countBy f k).pub = s.pub := by
  unfold State.countBy; (try dsimp only); (repeat' split) <;> first | (simp only [State.countFor_pub]; done) | rfl
@[simp] theorem State.countBy_mod (f : Field) (k : Nat) : (s.countBy f k).mod = s.mod := still_mod (State.still_countBy s f k)
@[simp] theorem State.countBy_adc (f : Field) (k : Nat) : (s.countBy f k).adc = s.adc := still_adc (State.still_countBy s f k)
@[simp] theorem State.countBy_per (f : Field) (k : Nat) : (s.countBy f k).per = s.per := still_per (State.still_countBy s f k)
@[simp] theorem State.countBy_ho (f : Field) (k : Nat) : (s.countBy f k).ho = s.ho := still_ho (State.still_countBy s f k)
@[simp] theorem State.countBy_rtc (f : Field) (k : Nat) : (s.countBy f k).rtc = s.rtc := still_rtc (State.still_countBy s f k)
@[simp] theorem State.countBy_swc (f : Field) (k : Nat) : (s.countBy f k).swc = s.swc := still_swc (State.still_countBy s f k)
@[simp] theorem State.countBy_macs (f : Field) (k : Nat) : (s.countBy f k).macs = s.macs := still_macs (State.still_countBy s f k)
@[simp] theorem State.countBy_mbs (f : Field) (k : Nat) : (s.countBy f k).mbs = s.mbs := still_mbs (State.still_countBy s f k)
@[simp] theorem State.countBy_sliceOp (f : Field) (k : Nat) : (s.countBy f k).sliceOp = s.sliceOp := still_sliceOp (State.still_countBy s f k)
@[simp] theorem State.countBy_keys (f : Field) (k : Nat) : (s.countBy f k).keys = s.keys := still_keys (State.still_countBy s f k)
@[simp] theorem State.countBy_aqe (f : Field) (k : Nat) : (s.countBy f k).aqe = s.aqe := still_aqe (State.still_countBy s f k)
@[simp] theorem State.countBy_nrg (f : Field) (k : Nat) : (s.countBy f k).nrg = s.nrg := still_nrg (State.still_countBy s f k)
@[simp] theorem State.countBy_lce (f : Field) (k : Nat) : (s.countBy f k).lce = s.lce := still_lce (State.still_countBy s f k)
@[simp] theorem State.countBy_rck (f : Field) (k : Nat) : (s.countBy f k).rck = s.rck := still_rck (State.still_countBy s f k)
@[simp] theorem State.countBy_bank (f : Field) (k : Nat) : (s.countBy f k).bank = s.bank := still_bank (State.still_countBy s f k)
@[simp] theorem State.countBy_dram (f : Field) (k : Nat) : (s.countBy f k).dram = s.dram := still_dram (State.still_countBy s f k)

/-! ### count -/

theorem State.still_count (f : Field) : (s.count f).still = s.still := by
  unfold State.count; (try dsimp only); (repeat' split) <;> simp only [State.still_mk, State.still_countBy]
@[simp] theorem State.count_pending (f : Field) : (s.count f).pending = s.pending := still_pending (State.still_count s f)
@[simp] theorem State.count_hiLatch (f : Field) : (s.count f).hiLatch = s.hiLatch := still_hiLatch (State.still_count s f)
@[simp] theorem State.count_time (f : Field) : (s.count f).time = s.time := by
  unfold State.count; (try dsimp only); (repeat' split) <;> first | (simp only [State.countBy_time]; done) | rfl
@[simp] theorem State.count_timeRun (f : Field) : (s.count f).timeRun = s.timeRun := still_timeRun (State.still_count s f)
@[simp] theorem State.count_outbox (f : Field) : (s.count f).outbox = s.outbox := by
  unfold State.count; (try dsimp only); (repeat' split) <;> first | (simp only [State.countBy_outbox]; done) | rfl
@[simp] theorem State.count_freeCtr (f : Field) : (s.count f).freeCtr = s.freeCtr := by
  unfold State.count; (try dsimp only); (repeat' split) <;> first | (simp only [State.countBy_freeCtr]; done) | rfl
@[simp] theorem State.count_faults (f : Field) : (s.count f).faults = s.faults := by
  unfold State.count; (try dsimp only); (repeat' split) <;> first | (simp only [State.countBy_faults]; done) | rfl
@[simp] theorem State.count_tg (f : Field) : (s.count f).tg = s.tg := still_tg (State.still_count s f)
@[simp] theorem State.count_commits (f : Field) : (s.count f).commits = s.commits := still_commits (State.still_count s f)
@[simp] theorem State.count_rings (f : Field) : (s.count f).rings = s.rings := by
  unfold State.count; (try dsimp only); (repeat' split) <;> first | (simp only [State.countBy_rings]; done) | rfl
@[simp] theorem State.count_multi (f : Field) : (s.count f).multi = s.multi := still_multi (State.still_count s f)
@[simp] theorem State.count_pair (f : Field) : (s.count f).pair = s.pair := by
  unfold State.count; (try dsimp only); (repeat' split) <;> first | (simp only [State.countBy_pair]; done) | rfl
@[simp] theorem State.count_inj (f : Field) : (s.count f).inj = s.inj := still_inj (State.still_count s f)
@[simp] theorem State.count_journal (f : Field) : (s.count f).journal = s.journal := by
  unfold State.count; (try dsimp only); (repeat' split) <;> first | (simp only [State.countBy_journal]; done) | rfl
@[simp] theorem State.count_boot (f : Field) : (s.count f).boot = s.boot := still_boot (State.still_count s f)
@[simp] theorem State.count_tim (f : Field) : (s.count f).tim = s.tim := still_tim (State.still_count s f)
@[simp] theorem State.count_slots (f : Field) : (s.count f).slots = s.slots := still_slots (State.still_count s f)
@[simp] theorem State.count_core (f : Field) : (s.count f).core = s.core := still_core (State.still_count s f)
@[simp] theorem State.count_cle (f : Field) : (s.count f).cle = s.cle := still_cle (State.still_count s f)
@[simp] theorem State.count_svi (f : Field) : (s.count f).svi = s.svi := still_svi (State.still_count s f)
@[simp] theorem State.count_pub (f : Field) : (s.count f).pub = s.pub := by
  unfold State.count; (try dsimp only); (repeat' split) <;> first | (simp only [State.countBy_pub]; done) | rfl
@[simp] theorem State.count_mod (f : Field) : (s.count f).mod = s.mod := still_mod (State.still_count s f)
@[simp] theorem State.count_adc (f : Field) : (s.count f).adc = s.adc := still_adc (State.still_count s f)
@[simp] theorem State.count_per (f : Field) : (s.count f).per = s.per := still_per (State.still_count s f)
@[simp] theorem State.count_ho (f : Field) : (s.count f).ho = s.ho := still_ho (State.still_count s f)
@[simp] theorem State.count_rtc (f : Field) : (s.count f).rtc = s.rtc := still_rtc (State.still_count s f)
@[simp] theorem State.count_swc (f : Field) : (s.count f).swc = s.swc := still_swc (State.still_count s f)
@[simp] theorem State.count_macs (f : Field) : (s.count f).macs = s.macs := still_macs (State.still_count s f)
@[simp] theorem State.count_mbs (f : Field) : (s.count f).mbs = s.mbs := still_mbs (State.still_count s f)
@[simp] theorem State.count_sliceOp (f : Field) : (s.count f).sliceOp = s.sliceOp := still_sliceOp (State.still_count s f)
@[simp] theorem State.count_keys (f : Field) : (s.count f).keys = s.keys := still_keys (State.still_count s f)
@[simp] theorem State.count_aqe (f : Field) : (s.count f).aqe = s.aqe := still_aqe (State.still_count s f)
@[simp] theorem State.count_nrg (f : Field) : (s.count f).nrg = s.nrg := still_nrg (State.still_count s f)
@[simp] theorem State.count_lce (f : Field) : (s.count f).lce = s.lce := still_lce (State.still_count s f)
@[simp] theorem State.count_rck (f : Field) : (s.count f).rck = s.rck := still_rck (State.still_count s f)
@[simp] theorem State.count_bank (f : Field) : (s.count f).bank = s.bank := still_bank (State.still_count s f)
@[simp] theorem State.count_dram (f : Field) : (s.count f).dram = s.dram := still_dram (State.still_count s f)

/-! ### badAccess -/

theorem State.still_badAccess (kind a : Nat) : (s.badAccess kind a).still = s.still := by
  unfold State.badAccess; (try dsimp only); (repeat' split) <;> simp only [State.still_mk, State.still_count, State.still_put]
@[simp] theorem State.badAccess_pending (kind a : Nat) : (s.badAccess kind a).pending = s.pending := still_pending (State.still_badAccess s kind a)
@[simp] theorem State.badAccess_hiLatch (kind a : Nat) : (s.badAccess kind a).hiLatch = s.hiLatch := still_hiLatch (State.still_badAccess s kind a)
@[simp] theorem State.badAccess_time (kind a : Nat) : (s.badAccess kind a).time = s.time := by
  unfold State.badAccess; (try dsimp only); (repeat' split) <;> first | (simp only [State.count_time, State.put_time]; done) | rfl
@[simp] theorem State.badAccess_timeRun (kind a : Nat) : (s.badAccess kind a).timeRun = s.timeRun := still_timeRun (State.still_badAccess s kind a)
@[simp] theorem State.badAccess_outbox (kind a : Nat) : (s.badAccess kind a).outbox = s.outbox := by
  unfold State.badAccess; (try dsimp only); (repeat' split) <;> first | (simp only [State.count_outbox, State.put_outbox]; done) | rfl
@[simp] theorem State.badAccess_freeCtr (kind a : Nat) : (s.badAccess kind a).freeCtr = s.freeCtr := by
  unfold State.badAccess; (try dsimp only); (repeat' split) <;> first | (simp only [State.count_freeCtr, State.put_freeCtr]; done) | rfl
@[simp] theorem State.badAccess_faults (kind a : Nat) : (s.badAccess kind a).faults = s.faults := by
  unfold State.badAccess; (try dsimp only); (repeat' split) <;> first | (simp only [State.count_faults, State.put_faults]; done) | rfl
@[simp] theorem State.badAccess_tg (kind a : Nat) : (s.badAccess kind a).tg = s.tg := still_tg (State.still_badAccess s kind a)
@[simp] theorem State.badAccess_commits (kind a : Nat) : (s.badAccess kind a).commits = s.commits := still_commits (State.still_badAccess s kind a)
@[simp] theorem State.badAccess_rings (kind a : Nat) : (s.badAccess kind a).rings = s.rings := by
  unfold State.badAccess; (try dsimp only); (repeat' split) <;> first | (simp only [State.count_rings, State.put_rings]; done) | rfl
@[simp] theorem State.badAccess_multi (kind a : Nat) : (s.badAccess kind a).multi = s.multi := still_multi (State.still_badAccess s kind a)
@[simp] theorem State.badAccess_pair (kind a : Nat) : (s.badAccess kind a).pair = s.pair := by
  unfold State.badAccess; (try dsimp only); (repeat' split) <;> first | (simp only [State.count_pair, State.put_pair]; done) | rfl
@[simp] theorem State.badAccess_inj (kind a : Nat) : (s.badAccess kind a).inj = s.inj := still_inj (State.still_badAccess s kind a)
@[simp] theorem State.badAccess_journal (kind a : Nat) : (s.badAccess kind a).journal = s.journal := by
  unfold State.badAccess; (try dsimp only); (repeat' split) <;> first | (simp only [State.count_journal, State.put_journal]; done) | rfl
@[simp] theorem State.badAccess_boot (kind a : Nat) : (s.badAccess kind a).boot = s.boot := still_boot (State.still_badAccess s kind a)
@[simp] theorem State.badAccess_tim (kind a : Nat) : (s.badAccess kind a).tim = s.tim := still_tim (State.still_badAccess s kind a)
@[simp] theorem State.badAccess_slots (kind a : Nat) : (s.badAccess kind a).slots = s.slots := still_slots (State.still_badAccess s kind a)
@[simp] theorem State.badAccess_core (kind a : Nat) : (s.badAccess kind a).core = s.core := still_core (State.still_badAccess s kind a)
@[simp] theorem State.badAccess_cle (kind a : Nat) : (s.badAccess kind a).cle = s.cle := still_cle (State.still_badAccess s kind a)
@[simp] theorem State.badAccess_svi (kind a : Nat) : (s.badAccess kind a).svi = s.svi := still_svi (State.still_badAccess s kind a)
@[simp] theorem State.badAccess_pub (kind a : Nat) : (s.badAccess kind a).pub = s.pub := by
  unfold State.badAccess; (try dsimp only); (repeat' split) <;> first | (simp only [State.count_pub, State.put_pub]; done) | rfl
@[simp] theorem State.badAccess_mod (kind a : Nat) : (s.badAccess kind a).mod = s.mod := still_mod (State.still_badAccess s kind a)
@[simp] theorem State.badAccess_adc (kind a : Nat) : (s.badAccess kind a).adc = s.adc := still_adc (State.still_badAccess s kind a)
@[simp] theorem State.badAccess_per (kind a : Nat) : (s.badAccess kind a).per = s.per := still_per (State.still_badAccess s kind a)
@[simp] theorem State.badAccess_ho (kind a : Nat) : (s.badAccess kind a).ho = s.ho := still_ho (State.still_badAccess s kind a)
@[simp] theorem State.badAccess_rtc (kind a : Nat) : (s.badAccess kind a).rtc = s.rtc := still_rtc (State.still_badAccess s kind a)
@[simp] theorem State.badAccess_swc (kind a : Nat) : (s.badAccess kind a).swc = s.swc := still_swc (State.still_badAccess s kind a)
@[simp] theorem State.badAccess_macs (kind a : Nat) : (s.badAccess kind a).macs = s.macs := still_macs (State.still_badAccess s kind a)
@[simp] theorem State.badAccess_mbs (kind a : Nat) : (s.badAccess kind a).mbs = s.mbs := still_mbs (State.still_badAccess s kind a)
@[simp] theorem State.badAccess_sliceOp (kind a : Nat) : (s.badAccess kind a).sliceOp = s.sliceOp := still_sliceOp (State.still_badAccess s kind a)
@[simp] theorem State.badAccess_keys (kind a : Nat) : (s.badAccess kind a).keys = s.keys := still_keys (State.still_badAccess s kind a)
@[simp] theorem State.badAccess_aqe (kind a : Nat) : (s.badAccess kind a).aqe = s.aqe := still_aqe (State.still_badAccess s kind a)
@[simp] theorem State.badAccess_nrg (kind a : Nat) : (s.badAccess kind a).nrg = s.nrg := still_nrg (State.still_badAccess s kind a)
@[simp] theorem State.badAccess_lce (kind a : Nat) : (s.badAccess kind a).lce = s.lce := still_lce (State.still_badAccess s kind a)
@[simp] theorem State.badAccess_rck (kind a : Nat) : (s.badAccess kind a).rck = s.rck := still_rck (State.still_badAccess s kind a)
@[simp] theorem State.badAccess_bank (kind a : Nat) : (s.badAccess kind a).bank = s.bank := still_bank (State.still_badAccess s kind a)
@[simp] theorem State.badAccess_dram (kind a : Nat) : (s.badAccess kind a).dram = s.dram := still_dram (State.still_badAccess s kind a)

/-! ### signal -/

theorem State.still_signal (v : Nat) : (s.signal v).still = s.still := by
  unfold State.signal; (try dsimp only); (repeat' split) <;> simp only [State.still_mk, State.still_put, State.still_emit]
@[simp] theorem State.signal_pending (v : Nat) : (s.signal v).pending = s.pending := still_pending (State.still_signal s v)
@[simp] theorem State.signal_hiLatch (v : Nat) : (s.signal v).hiLatch = s.hiLatch := still_hiLatch (State.still_signal s v)
@[simp] theorem State.signal_time (v : Nat) : (s.signal v).time = s.time := by
  unfold State.signal; (try dsimp only); (repeat' split) <;> first | (simp only [State.put_time, State.emit_time]; done) | rfl
@[simp] theorem State.signal_timeRun (v : Nat) : (s.signal v).timeRun = s.timeRun := still_timeRun (State.still_signal s v)
@[simp] theorem State.signal_freeCtr (v : Nat) : (s.signal v).freeCtr = s.freeCtr := by
  unfold State.signal; (try dsimp only); (repeat' split) <;> first | (simp only [State.put_freeCtr, State.emit_freeCtr]; done) | rfl
@[simp] theorem State.signal_evqPosted (v : Nat) : (s.signal v).evqPosted = s.evqPosted := by
  unfold State.signal; (try dsimp only); (repeat' split) <;> first | (simp only [State.put_evqPosted, State.emit_evqPosted]; done) | rfl
@[simp] theorem State.signal_faults (v : Nat) : (s.signal v).faults = s.faults := by
  unfold State.signal; (try dsimp only); (repeat' split) <;> first | (simp only [State.put_faults, State.emit_faults]; done) | rfl
@[simp] theorem State.signal_tg (v : Nat) : (s.signal v).tg = s.tg := still_tg (State.still_signal s v)
@[simp] theorem State.signal_commits (v : Nat) : (s.signal v).commits = s.commits := still_commits (State.still_signal s v)
@[simp] theorem State.signal_rings (v : Nat) : (s.signal v).rings = s.rings := by
  unfold State.signal; (try dsimp only); (repeat' split) <;> first | (simp only [State.put_rings, State.emit_rings]; done) | rfl
@[simp] theorem State.signal_multi (v : Nat) : (s.signal v).multi = s.multi := still_multi (State.still_signal s v)
@[simp] theorem State.signal_pair (v : Nat) : (s.signal v).pair = s.pair := by
  unfold State.signal; (try dsimp only); (repeat' split) <;> first | (simp only [State.put_pair, State.emit_pair]; done) | rfl
@[simp] theorem State.signal_inj (v : Nat) : (s.signal v).inj = s.inj := still_inj (State.still_signal s v)
@[simp] theorem State.signal_journal (v : Nat) : (s.signal v).journal = s.journal := by
  unfold State.signal; (try dsimp only); (repeat' split) <;> first | (simp only [State.put_journal, State.emit_journal]; done) | rfl
@[simp] theorem State.signal_boot (v : Nat) : (s.signal v).boot = s.boot := still_boot (State.still_signal s v)
@[simp] theorem State.signal_tim (v : Nat) : (s.signal v).tim = s.tim := still_tim (State.still_signal s v)
@[simp] theorem State.signal_slots (v : Nat) : (s.signal v).slots = s.slots := still_slots (State.still_signal s v)
@[simp] theorem State.signal_core (v : Nat) : (s.signal v).core = s.core := still_core (State.still_signal s v)
@[simp] theorem State.signal_cle (v : Nat) : (s.signal v).cle = s.cle := still_cle (State.still_signal s v)
@[simp] theorem State.signal_svi (v : Nat) : (s.signal v).svi = s.svi := still_svi (State.still_signal s v)
@[simp] theorem State.signal_pub (v : Nat) : (s.signal v).pub = s.pub := by
  unfold State.signal; (try dsimp only); (repeat' split) <;> first | (simp only [State.put_pub, State.emit_pub]; done) | rfl
@[simp] theorem State.signal_mod (v : Nat) : (s.signal v).mod = s.mod := still_mod (State.still_signal s v)
@[simp] theorem State.signal_adc (v : Nat) : (s.signal v).adc = s.adc := still_adc (State.still_signal s v)
@[simp] theorem State.signal_per (v : Nat) : (s.signal v).per = s.per := still_per (State.still_signal s v)
@[simp] theorem State.signal_ho (v : Nat) : (s.signal v).ho = s.ho := still_ho (State.still_signal s v)
@[simp] theorem State.signal_rtc (v : Nat) : (s.signal v).rtc = s.rtc := still_rtc (State.still_signal s v)
@[simp] theorem State.signal_swc (v : Nat) : (s.signal v).swc = s.swc := still_swc (State.still_signal s v)
@[simp] theorem State.signal_macs (v : Nat) : (s.signal v).macs = s.macs := still_macs (State.still_signal s v)
@[simp] theorem State.signal_mbs (v : Nat) : (s.signal v).mbs = s.mbs := still_mbs (State.still_signal s v)
@[simp] theorem State.signal_sliceOp (v : Nat) : (s.signal v).sliceOp = s.sliceOp := still_sliceOp (State.still_signal s v)
@[simp] theorem State.signal_keys (v : Nat) : (s.signal v).keys = s.keys := still_keys (State.still_signal s v)
@[simp] theorem State.signal_aqe (v : Nat) : (s.signal v).aqe = s.aqe := still_aqe (State.still_signal s v)
@[simp] theorem State.signal_nrg (v : Nat) : (s.signal v).nrg = s.nrg := still_nrg (State.still_signal s v)
@[simp] theorem State.signal_lce (v : Nat) : (s.signal v).lce = s.lce := still_lce (State.still_signal s v)
@[simp] theorem State.signal_rck (v : Nat) : (s.signal v).rck = s.rck := still_rck (State.still_signal s v)
@[simp] theorem State.signal_bank (v : Nat) : (s.signal v).bank = s.bank := still_bank (State.still_signal s v)
@[simp] theorem State.signal_dram (v : Nat) : (s.signal v).dram = s.dram := still_dram (State.still_signal s v)

/-! ### event -/

theorem State.still_event (i : Nat) : (s.event i).still = s.still := by
  unfold State.event; (try dsimp only); (repeat' split) <;> simp only [State.still_put, State.still_signal]
@[simp] theorem State.event_pending (i : Nat) : (s.event i).pending = s.pending := still_pending (State.still_event s i)
@[simp] theorem State.event_hiLatch (i : Nat) : (s.event i).hiLatch = s.hiLatch := still_hiLatch (State.still_event s i)
@[simp] theorem State.event_time (i : Nat) : (s.event i).time = s.time := by
  unfold State.event; (try dsimp only); (repeat' split) <;> first | (simp only [State.put_time, State.signal_time]; done) | rfl
@[simp] theorem State.event_timeRun (i : Nat) : (s.event i).timeRun = s.timeRun := still_timeRun (State.still_event s i)
@[simp] theorem State.event_freeCtr (i : Nat) : (s.event i).freeCtr = s.freeCtr := by
  unfold State.event; (try dsimp only); (repeat' split) <;> first | (simp only [State.put_freeCtr, State.signal_freeCtr]; done) | rfl
@[simp] theorem State.event_evqPosted (i : Nat) : (s.event i).evqPosted = s.evqPosted := by
  unfold State.event; (try dsimp only); (repeat' split) <;> first | (simp only [State.put_evqPosted, State.signal_evqPosted]; done) | rfl
@[simp] theorem State.event_faults (i : Nat) : (s.event i).faults = s.faults := by
  unfold State.event; (try dsimp only); (repeat' split) <;> first | (simp only [State.put_faults, State.signal_faults]; done) | rfl
@[simp] theorem State.event_tg (i : Nat) : (s.event i).tg = s.tg := still_tg (State.still_event s i)
@[simp] theorem State.event_commits (i : Nat) : (s.event i).commits = s.commits := still_commits (State.still_event s i)
@[simp] theorem State.event_rings (i : Nat) : (s.event i).rings = s.rings := by
  unfold State.event; (try dsimp only); (repeat' split) <;> first | (simp only [State.put_rings, State.signal_rings]; done) | rfl
@[simp] theorem State.event_multi (i : Nat) : (s.event i).multi = s.multi := still_multi (State.still_event s i)
@[simp] theorem State.event_pair (i : Nat) : (s.event i).pair = s.pair := by
  unfold State.event; (try dsimp only); (repeat' split) <;> first | (simp only [State.put_pair, State.signal_pair]; done) | rfl
@[simp] theorem State.event_inj (i : Nat) : (s.event i).inj = s.inj := still_inj (State.still_event s i)
@[simp] theorem State.event_journal (i : Nat) : (s.event i).journal = s.journal := by
  unfold State.event; (try dsimp only); (repeat' split) <;> first | (simp only [State.put_journal, State.signal_journal]; done) | rfl
@[simp] theorem State.event_boot (i : Nat) : (s.event i).boot = s.boot := still_boot (State.still_event s i)
@[simp] theorem State.event_tim (i : Nat) : (s.event i).tim = s.tim := still_tim (State.still_event s i)
@[simp] theorem State.event_slots (i : Nat) : (s.event i).slots = s.slots := still_slots (State.still_event s i)
@[simp] theorem State.event_core (i : Nat) : (s.event i).core = s.core := still_core (State.still_event s i)
@[simp] theorem State.event_cle (i : Nat) : (s.event i).cle = s.cle := still_cle (State.still_event s i)
@[simp] theorem State.event_svi (i : Nat) : (s.event i).svi = s.svi := still_svi (State.still_event s i)
@[simp] theorem State.event_pub (i : Nat) : (s.event i).pub = s.pub := by
  unfold State.event; (try dsimp only); (repeat' split) <;> first | (simp only [State.put_pub, State.signal_pub]; done) | rfl
@[simp] theorem State.event_mod (i : Nat) : (s.event i).mod = s.mod := still_mod (State.still_event s i)
@[simp] theorem State.event_adc (i : Nat) : (s.event i).adc = s.adc := still_adc (State.still_event s i)
@[simp] theorem State.event_per (i : Nat) : (s.event i).per = s.per := still_per (State.still_event s i)
@[simp] theorem State.event_ho (i : Nat) : (s.event i).ho = s.ho := still_ho (State.still_event s i)
@[simp] theorem State.event_rtc (i : Nat) : (s.event i).rtc = s.rtc := still_rtc (State.still_event s i)
@[simp] theorem State.event_swc (i : Nat) : (s.event i).swc = s.swc := still_swc (State.still_event s i)
@[simp] theorem State.event_macs (i : Nat) : (s.event i).macs = s.macs := still_macs (State.still_event s i)
@[simp] theorem State.event_mbs (i : Nat) : (s.event i).mbs = s.mbs := still_mbs (State.still_event s i)
@[simp] theorem State.event_sliceOp (i : Nat) : (s.event i).sliceOp = s.sliceOp := still_sliceOp (State.still_event s i)
@[simp] theorem State.event_keys (i : Nat) : (s.event i).keys = s.keys := still_keys (State.still_event s i)
@[simp] theorem State.event_aqe (i : Nat) : (s.event i).aqe = s.aqe := still_aqe (State.still_event s i)
@[simp] theorem State.event_nrg (i : Nat) : (s.event i).nrg = s.nrg := still_nrg (State.still_event s i)
@[simp] theorem State.event_lce (i : Nat) : (s.event i).lce = s.lce := still_lce (State.still_event s i)
@[simp] theorem State.event_rck (i : Nat) : (s.event i).rck = s.rck := still_rck (State.still_event s i)
@[simp] theorem State.event_bank (i : Nat) : (s.event i).bank = s.bank := still_bank (State.still_event s i)
@[simp] theorem State.event_dram (i : Nat) : (s.event i).dram = s.dram := still_dram (State.still_event s i)

/-! ### eventIf -/

theorem State.still_eventIf (c : Bool) (i : Nat) : (s.eventIf c i).still = s.still := by
  unfold State.eventIf; (try dsimp only); (repeat' split) <;> simp only [State.still_mk, State.still_event]
@[simp] theorem State.eventIf_pending (c : Bool) (i : Nat) : (s.eventIf c i).pending = s.pending := still_pending (State.still_eventIf s c i)
@[simp] theorem State.eventIf_hiLatch (c : Bool) (i : Nat) : (s.eventIf c i).hiLatch = s.hiLatch := still_hiLatch (State.still_eventIf s c i)
@[simp] theorem State.eventIf_time (c : Bool) (i : Nat) : (s.eventIf c i).time = s.time := by
  unfold State.eventIf; (try dsimp only); (repeat' split) <;> first | (simp only [State.event_time]; done) | rfl
@[simp] theorem State.eventIf_timeRun (c : Bool) (i : Nat) : (s.eventIf c i).timeRun = s.timeRun := still_timeRun (State.still_eventIf s c i)
@[simp] theorem State.eventIf_freeCtr (c : Bool) (i : Nat) : (s.eventIf c i).freeCtr = s.freeCtr := by
  unfold State.eventIf; (try dsimp only); (repeat' split) <;> first | (simp only [State.event_freeCtr]; done) | rfl
@[simp] theorem State.eventIf_evqPosted (c : Bool) (i : Nat) : (s.eventIf c i).evqPosted = s.evqPosted := by
  unfold State.eventIf; (try dsimp only); (repeat' split) <;> first | (simp only [State.event_evqPosted]; done) | rfl
@[simp] theorem State.eventIf_faults (c : Bool) (i : Nat) : (s.eventIf c i).faults = s.faults := by
  unfold State.eventIf; (try dsimp only); (repeat' split) <;> first | (simp only [State.event_faults]; done) | rfl
@[simp] theorem State.eventIf_tg (c : Bool) (i : Nat) : (s.eventIf c i).tg = s.tg := still_tg (State.still_eventIf s c i)
@[simp] theorem State.eventIf_commits (c : Bool) (i : Nat) : (s.eventIf c i).commits = s.commits := still_commits (State.still_eventIf s c i)
@[simp] theorem State.eventIf_rings (c : Bool) (i : Nat) : (s.eventIf c i).rings = s.rings := by
  unfold State.eventIf; (try dsimp only); (repeat' split) <;> first | (simp only [State.event_rings]; done) | rfl
@[simp] theorem State.eventIf_multi (c : Bool) (i : Nat) : (s.eventIf c i).multi = s.multi := still_multi (State.still_eventIf s c i)
@[simp] theorem State.eventIf_pair (c : Bool) (i : Nat) : (s.eventIf c i).pair = s.pair := by
  unfold State.eventIf; (try dsimp only); (repeat' split) <;> first | (simp only [State.event_pair]; done) | rfl
@[simp] theorem State.eventIf_inj (c : Bool) (i : Nat) : (s.eventIf c i).inj = s.inj := still_inj (State.still_eventIf s c i)
@[simp] theorem State.eventIf_journal (c : Bool) (i : Nat) : (s.eventIf c i).journal = s.journal := by
  unfold State.eventIf; (try dsimp only); (repeat' split) <;> first | (simp only [State.event_journal]; done) | rfl
@[simp] theorem State.eventIf_boot (c : Bool) (i : Nat) : (s.eventIf c i).boot = s.boot := still_boot (State.still_eventIf s c i)
@[simp] theorem State.eventIf_tim (c : Bool) (i : Nat) : (s.eventIf c i).tim = s.tim := still_tim (State.still_eventIf s c i)
@[simp] theorem State.eventIf_slots (c : Bool) (i : Nat) : (s.eventIf c i).slots = s.slots := still_slots (State.still_eventIf s c i)
@[simp] theorem State.eventIf_core (c : Bool) (i : Nat) : (s.eventIf c i).core = s.core := still_core (State.still_eventIf s c i)
@[simp] theorem State.eventIf_cle (c : Bool) (i : Nat) : (s.eventIf c i).cle = s.cle := still_cle (State.still_eventIf s c i)
@[simp] theorem State.eventIf_svi (c : Bool) (i : Nat) : (s.eventIf c i).svi = s.svi := still_svi (State.still_eventIf s c i)
@[simp] theorem State.eventIf_pub (c : Bool) (i : Nat) : (s.eventIf c i).pub = s.pub := by
  unfold State.eventIf; (try dsimp only); (repeat' split) <;> first | (simp only [State.event_pub]; done) | rfl
@[simp] theorem State.eventIf_mod (c : Bool) (i : Nat) : (s.eventIf c i).mod = s.mod := still_mod (State.still_eventIf s c i)
@[simp] theorem State.eventIf_adc (c : Bool) (i : Nat) : (s.eventIf c i).adc = s.adc := still_adc (State.still_eventIf s c i)
@[simp] theorem State.eventIf_per (c : Bool) (i : Nat) : (s.eventIf c i).per = s.per := still_per (State.still_eventIf s c i)
@[simp] theorem State.eventIf_ho (c : Bool) (i : Nat) : (s.eventIf c i).ho = s.ho := still_ho (State.still_eventIf s c i)
@[simp] theorem State.eventIf_rtc (c : Bool) (i : Nat) : (s.eventIf c i).rtc = s.rtc := still_rtc (State.still_eventIf s c i)
@[simp] theorem State.eventIf_swc (c : Bool) (i : Nat) : (s.eventIf c i).swc = s.swc := still_swc (State.still_eventIf s c i)
@[simp] theorem State.eventIf_macs (c : Bool) (i : Nat) : (s.eventIf c i).macs = s.macs := still_macs (State.still_eventIf s c i)
@[simp] theorem State.eventIf_mbs (c : Bool) (i : Nat) : (s.eventIf c i).mbs = s.mbs := still_mbs (State.still_eventIf s c i)
@[simp] theorem State.eventIf_sliceOp (c : Bool) (i : Nat) : (s.eventIf c i).sliceOp = s.sliceOp := still_sliceOp (State.still_eventIf s c i)
@[simp] theorem State.eventIf_keys (c : Bool) (i : Nat) : (s.eventIf c i).keys = s.keys := still_keys (State.still_eventIf s c i)
@[simp] theorem State.eventIf_aqe (c : Bool) (i : Nat) : (s.eventIf c i).aqe = s.aqe := still_aqe (State.still_eventIf s c i)
@[simp] theorem State.eventIf_nrg (c : Bool) (i : Nat) : (s.eventIf c i).nrg = s.nrg := still_nrg (State.still_eventIf s c i)
@[simp] theorem State.eventIf_lce (c : Bool) (i : Nat) : (s.eventIf c i).lce = s.lce := still_lce (State.still_eventIf s c i)
@[simp] theorem State.eventIf_rck (c : Bool) (i : Nat) : (s.eventIf c i).rck = s.rck := still_rck (State.still_eventIf s c i)
@[simp] theorem State.eventIf_bank (c : Bool) (i : Nat) : (s.eventIf c i).bank = s.bank := still_bank (State.still_eventIf s c i)
@[simp] theorem State.eventIf_dram (c : Bool) (i : Nat) : (s.eventIf c i).dram = s.dram := still_dram (State.still_eventIf s c i)

/-! ### queueWrite -/

theorem State.still_queueWrite (w : Immediate) : (s.queueWrite w).still = s.still := by
  unfold State.queueWrite; (try dsimp only); (repeat' split) <;> simp only [State.still_mk, State.still_put]
@[simp] theorem State.queueWrite_pending (w : Immediate) : (s.queueWrite w).pending = s.pending := still_pending (State.still_queueWrite s w)
@[simp] theorem State.queueWrite_hiLatch (w : Immediate) : (s.queueWrite w).hiLatch = s.hiLatch := still_hiLatch (State.still_queueWrite s w)
@[simp] theorem State.queueWrite_time (w : Immediate) : (s.queueWrite w).time = s.time := by
  unfold State.queueWrite; (try dsimp only); (repeat' split) <;> first | (simp only [State.put_time]; done) | rfl
@[simp] theorem State.queueWrite_timeRun (w : Immediate) : (s.queueWrite w).timeRun = s.timeRun := still_timeRun (State.still_queueWrite s w)
@[simp] theorem State.queueWrite_outbox (w : Immediate) : (s.queueWrite w).outbox = s.outbox := by
  unfold State.queueWrite; (try dsimp only); (repeat' split) <;> first | (simp only [State.put_outbox]; done) | rfl
@[simp] theorem State.queueWrite_freeCtr (w : Immediate) : (s.queueWrite w).freeCtr = s.freeCtr := by
  unfold State.queueWrite; (try dsimp only); (repeat' split) <;> first | (simp only [State.put_freeCtr]; done) | rfl
@[simp] theorem State.queueWrite_evqPosted (w : Immediate) : (s.queueWrite w).evqPosted = s.evqPosted := by
  unfold State.queueWrite; (try dsimp only); (repeat' split) <;> first | (simp only [State.put_evqPosted]; done) | rfl
@[simp] theorem State.queueWrite_faults (w : Immediate) : (s.queueWrite w).faults = s.faults := by
  unfold State.queueWrite; (try dsimp only); (repeat' split) <;> first | (simp only [State.put_faults]; done) | rfl
@[simp] theorem State.queueWrite_tg (w : Immediate) : (s.queueWrite w).tg = s.tg := still_tg (State.still_queueWrite s w)
@[simp] theorem State.queueWrite_commits (w : Immediate) : (s.queueWrite w).commits = s.commits := still_commits (State.still_queueWrite s w)
@[simp] theorem State.queueWrite_rings (w : Immediate) : (s.queueWrite w).rings = s.rings := by
  unfold State.queueWrite; (try dsimp only); (repeat' split) <;> first | (simp only [State.put_rings]; done) | rfl
@[simp] theorem State.queueWrite_multi (w : Immediate) : (s.queueWrite w).multi = s.multi := still_multi (State.still_queueWrite s w)
@[simp] theorem State.queueWrite_pair (w : Immediate) : (s.queueWrite w).pair = s.pair := by
  unfold State.queueWrite; (try dsimp only); (repeat' split) <;> first | (simp only [State.put_pair]; done) | rfl
@[simp] theorem State.queueWrite_inj (w : Immediate) : (s.queueWrite w).inj = s.inj := still_inj (State.still_queueWrite s w)
@[simp] theorem State.queueWrite_boot (w : Immediate) : (s.queueWrite w).boot = s.boot := still_boot (State.still_queueWrite s w)
@[simp] theorem State.queueWrite_tim (w : Immediate) : (s.queueWrite w).tim = s.tim := still_tim (State.still_queueWrite s w)
@[simp] theorem State.queueWrite_slots (w : Immediate) : (s.queueWrite w).slots = s.slots := still_slots (State.still_queueWrite s w)
@[simp] theorem State.queueWrite_core (w : Immediate) : (s.queueWrite w).core = s.core := still_core (State.still_queueWrite s w)
@[simp] theorem State.queueWrite_cle (w : Immediate) : (s.queueWrite w).cle = s.cle := still_cle (State.still_queueWrite s w)
@[simp] theorem State.queueWrite_svi (w : Immediate) : (s.queueWrite w).svi = s.svi := still_svi (State.still_queueWrite s w)
@[simp] theorem State.queueWrite_pub (w : Immediate) : (s.queueWrite w).pub = s.pub := by
  unfold State.queueWrite; (try dsimp only); (repeat' split) <;> first | (simp only [State.put_pub]; done) | rfl
@[simp] theorem State.queueWrite_mod (w : Immediate) : (s.queueWrite w).mod = s.mod := still_mod (State.still_queueWrite s w)
@[simp] theorem State.queueWrite_adc (w : Immediate) : (s.queueWrite w).adc = s.adc := still_adc (State.still_queueWrite s w)
@[simp] theorem State.queueWrite_per (w : Immediate) : (s.queueWrite w).per = s.per := still_per (State.still_queueWrite s w)
@[simp] theorem State.queueWrite_ho (w : Immediate) : (s.queueWrite w).ho = s.ho := still_ho (State.still_queueWrite s w)
@[simp] theorem State.queueWrite_rtc (w : Immediate) : (s.queueWrite w).rtc = s.rtc := still_rtc (State.still_queueWrite s w)
@[simp] theorem State.queueWrite_swc (w : Immediate) : (s.queueWrite w).swc = s.swc := still_swc (State.still_queueWrite s w)
@[simp] theorem State.queueWrite_macs (w : Immediate) : (s.queueWrite w).macs = s.macs := still_macs (State.still_queueWrite s w)
@[simp] theorem State.queueWrite_mbs (w : Immediate) : (s.queueWrite w).mbs = s.mbs := still_mbs (State.still_queueWrite s w)
@[simp] theorem State.queueWrite_sliceOp (w : Immediate) : (s.queueWrite w).sliceOp = s.sliceOp := still_sliceOp (State.still_queueWrite s w)
@[simp] theorem State.queueWrite_keys (w : Immediate) : (s.queueWrite w).keys = s.keys := still_keys (State.still_queueWrite s w)
@[simp] theorem State.queueWrite_aqe (w : Immediate) : (s.queueWrite w).aqe = s.aqe := still_aqe (State.still_queueWrite s w)
@[simp] theorem State.queueWrite_nrg (w : Immediate) : (s.queueWrite w).nrg = s.nrg := still_nrg (State.still_queueWrite s w)
@[simp] theorem State.queueWrite_lce (w : Immediate) : (s.queueWrite w).lce = s.lce := still_lce (State.still_queueWrite s w)
@[simp] theorem State.queueWrite_rck (w : Immediate) : (s.queueWrite w).rck = s.rck := still_rck (State.still_queueWrite s w)
@[simp] theorem State.queueWrite_bank (w : Immediate) : (s.queueWrite w).bank = s.bank := still_bank (State.still_queueWrite s w)
@[simp] theorem State.queueWrite_dram (w : Immediate) : (s.queueWrite w).dram = s.dram := still_dram (State.still_queueWrite s w)

/-! ### journalAdd -/

theorem State.still_journalAdd (e : JEntry) : (s.journalAdd e).still = s.still := by
  unfold State.journalAdd; (try dsimp only); (repeat' split) <;> simp only [State.still_mk, State.still_queueWrite, State.still_put, State.still_event, State.still_count]
@[simp] theorem State.journalAdd_pending (e : JEntry) : (s.journalAdd e).pending = s.pending := still_pending (State.still_journalAdd s e)
@[simp] theorem State.journalAdd_hiLatch (e : JEntry) : (s.journalAdd e).hiLatch = s.hiLatch := still_hiLatch (State.still_journalAdd s e)
@[simp] theorem State.journalAdd_time (e : JEntry) : (s.journalAdd e).time = s.time := by
  unfold State.journalAdd; (try dsimp only); (repeat' split) <;> first | (simp only [State.queueWrite_time, State.put_time, State.event_time, State.count_time]; done) | rfl
@[simp] theorem State.journalAdd_timeRun (e : JEntry) : (s.journalAdd e).timeRun = s.timeRun := still_timeRun (State.still_journalAdd s e)
@[simp] theorem State.journalAdd_freeCtr (e : JEntry) : (s.journalAdd e).freeCtr = s.freeCtr := by
  unfold State.journalAdd; (try dsimp only); (repeat' split) <;> first | (simp only [State.queueWrite_freeCtr, State.put_freeCtr, State.event_freeCtr, State.count_freeCtr]; done) | rfl
@[simp] theorem State.journalAdd_faults (e : JEntry) : (s.journalAdd e).faults = s.faults := by
  unfold State.journalAdd; (try dsimp only); (repeat' split) <;> first | (simp only [State.queueWrite_faults, State.put_faults, State.event_faults, State.count_faults]; done) | rfl
@[simp] theorem State.journalAdd_tg (e : JEntry) : (s.journalAdd e).tg = s.tg := still_tg (State.still_journalAdd s e)
@[simp] theorem State.journalAdd_commits (e : JEntry) : (s.journalAdd e).commits = s.commits := still_commits (State.still_journalAdd s e)
@[simp] theorem State.journalAdd_rings (e : JEntry) : (s.journalAdd e).rings = s.rings := by
  unfold State.journalAdd; (try dsimp only); (repeat' split) <;> first | (simp only [State.queueWrite_rings, State.put_rings, State.event_rings, State.count_rings]; done) | rfl
@[simp] theorem State.journalAdd_multi (e : JEntry) : (s.journalAdd e).multi = s.multi := still_multi (State.still_journalAdd s e)
@[simp] theorem State.journalAdd_pair (e : JEntry) : (s.journalAdd e).pair = s.pair := by
  unfold State.journalAdd; (try dsimp only); (repeat' split) <;> first | (simp only [State.queueWrite_pair, State.put_pair, State.event_pair, State.count_pair]; done) | rfl
@[simp] theorem State.journalAdd_inj (e : JEntry) : (s.journalAdd e).inj = s.inj := still_inj (State.still_journalAdd s e)
@[simp] theorem State.journalAdd_boot (e : JEntry) : (s.journalAdd e).boot = s.boot := still_boot (State.still_journalAdd s e)
@[simp] theorem State.journalAdd_tim (e : JEntry) : (s.journalAdd e).tim = s.tim := still_tim (State.still_journalAdd s e)
@[simp] theorem State.journalAdd_slots (e : JEntry) : (s.journalAdd e).slots = s.slots := still_slots (State.still_journalAdd s e)
@[simp] theorem State.journalAdd_core (e : JEntry) : (s.journalAdd e).core = s.core := still_core (State.still_journalAdd s e)
@[simp] theorem State.journalAdd_cle (e : JEntry) : (s.journalAdd e).cle = s.cle := still_cle (State.still_journalAdd s e)
@[simp] theorem State.journalAdd_svi (e : JEntry) : (s.journalAdd e).svi = s.svi := still_svi (State.still_journalAdd s e)
@[simp] theorem State.journalAdd_pub (e : JEntry) : (s.journalAdd e).pub = s.pub := by
  unfold State.journalAdd; (try dsimp only); (repeat' split) <;> first | (simp only [State.queueWrite_pub, State.put_pub, State.event_pub, State.count_pub]; done) | rfl
@[simp] theorem State.journalAdd_mod (e : JEntry) : (s.journalAdd e).mod = s.mod := still_mod (State.still_journalAdd s e)
@[simp] theorem State.journalAdd_adc (e : JEntry) : (s.journalAdd e).adc = s.adc := still_adc (State.still_journalAdd s e)
@[simp] theorem State.journalAdd_per (e : JEntry) : (s.journalAdd e).per = s.per := still_per (State.still_journalAdd s e)
@[simp] theorem State.journalAdd_ho (e : JEntry) : (s.journalAdd e).ho = s.ho := still_ho (State.still_journalAdd s e)
@[simp] theorem State.journalAdd_rtc (e : JEntry) : (s.journalAdd e).rtc = s.rtc := still_rtc (State.still_journalAdd s e)
@[simp] theorem State.journalAdd_swc (e : JEntry) : (s.journalAdd e).swc = s.swc := still_swc (State.still_journalAdd s e)
@[simp] theorem State.journalAdd_macs (e : JEntry) : (s.journalAdd e).macs = s.macs := still_macs (State.still_journalAdd s e)
@[simp] theorem State.journalAdd_mbs (e : JEntry) : (s.journalAdd e).mbs = s.mbs := still_mbs (State.still_journalAdd s e)
@[simp] theorem State.journalAdd_sliceOp (e : JEntry) : (s.journalAdd e).sliceOp = s.sliceOp := still_sliceOp (State.still_journalAdd s e)
@[simp] theorem State.journalAdd_keys (e : JEntry) : (s.journalAdd e).keys = s.keys := still_keys (State.still_journalAdd s e)
@[simp] theorem State.journalAdd_aqe (e : JEntry) : (s.journalAdd e).aqe = s.aqe := still_aqe (State.still_journalAdd s e)
@[simp] theorem State.journalAdd_nrg (e : JEntry) : (s.journalAdd e).nrg = s.nrg := still_nrg (State.still_journalAdd s e)
@[simp] theorem State.journalAdd_lce (e : JEntry) : (s.journalAdd e).lce = s.lce := still_lce (State.still_journalAdd s e)
@[simp] theorem State.journalAdd_rck (e : JEntry) : (s.journalAdd e).rck = s.rck := still_rck (State.still_journalAdd s e)
@[simp] theorem State.journalAdd_bank (e : JEntry) : (s.journalAdd e).bank = s.bank := still_bank (State.still_journalAdd s e)
@[simp] theorem State.journalAdd_dram (e : JEntry) : (s.journalAdd e).dram = s.dram := still_dram (State.still_journalAdd s e)

/-! ### note -/

theorem State.still_note (block code detail : Nat) : (s.note block code detail).still = s.still := by
  unfold State.note; (try dsimp only); (repeat' split) <;> simp only [State.still_mk, State.still_journalAdd]
@[simp] theorem State.note_pending (block code detail : Nat) : (s.note block code detail).pending = s.pending := still_pending (State.still_note s block code detail)
@[simp] theorem State.note_hiLatch (block code detail : Nat) : (s.note block code detail).hiLatch = s.hiLatch := still_hiLatch (State.still_note s block code detail)
@[simp] theorem State.note_time (block code detail : Nat) : (s.note block code detail).time = s.time := by
  unfold State.note; (try dsimp only); (repeat' split) <;> first | (simp only [State.journalAdd_time]; done) | rfl
@[simp] theorem State.note_timeRun (block code detail : Nat) : (s.note block code detail).timeRun = s.timeRun := still_timeRun (State.still_note s block code detail)
@[simp] theorem State.note_freeCtr (block code detail : Nat) : (s.note block code detail).freeCtr = s.freeCtr := by
  unfold State.note; (try dsimp only); (repeat' split) <;> first | (simp only [State.journalAdd_freeCtr]; done) | rfl
@[simp] theorem State.note_faults (block code detail : Nat) : (s.note block code detail).faults = s.faults := by
  unfold State.note; (try dsimp only); (repeat' split) <;> first | (simp only [State.journalAdd_faults]; done) | rfl
@[simp] theorem State.note_tg (block code detail : Nat) : (s.note block code detail).tg = s.tg := still_tg (State.still_note s block code detail)
@[simp] theorem State.note_commits (block code detail : Nat) : (s.note block code detail).commits = s.commits := still_commits (State.still_note s block code detail)
@[simp] theorem State.note_rings (block code detail : Nat) : (s.note block code detail).rings = s.rings := by
  unfold State.note; (try dsimp only); (repeat' split) <;> first | (simp only [State.journalAdd_rings]; done) | rfl
@[simp] theorem State.note_multi (block code detail : Nat) : (s.note block code detail).multi = s.multi := still_multi (State.still_note s block code detail)
@[simp] theorem State.note_pair (block code detail : Nat) : (s.note block code detail).pair = s.pair := by
  unfold State.note; (try dsimp only); (repeat' split) <;> first | (simp only [State.journalAdd_pair]; done) | rfl
@[simp] theorem State.note_inj (block code detail : Nat) : (s.note block code detail).inj = s.inj := still_inj (State.still_note s block code detail)
@[simp] theorem State.note_boot (block code detail : Nat) : (s.note block code detail).boot = s.boot := still_boot (State.still_note s block code detail)
@[simp] theorem State.note_tim (block code detail : Nat) : (s.note block code detail).tim = s.tim := still_tim (State.still_note s block code detail)
@[simp] theorem State.note_slots (block code detail : Nat) : (s.note block code detail).slots = s.slots := still_slots (State.still_note s block code detail)
@[simp] theorem State.note_core (block code detail : Nat) : (s.note block code detail).core = s.core := still_core (State.still_note s block code detail)
@[simp] theorem State.note_cle (block code detail : Nat) : (s.note block code detail).cle = s.cle := still_cle (State.still_note s block code detail)
@[simp] theorem State.note_svi (block code detail : Nat) : (s.note block code detail).svi = s.svi := still_svi (State.still_note s block code detail)
@[simp] theorem State.note_pub (block code detail : Nat) : (s.note block code detail).pub = s.pub := by
  unfold State.note; (try dsimp only); (repeat' split) <;> first | (simp only [State.journalAdd_pub]; done) | rfl
@[simp] theorem State.note_mod (block code detail : Nat) : (s.note block code detail).mod = s.mod := still_mod (State.still_note s block code detail)
@[simp] theorem State.note_adc (block code detail : Nat) : (s.note block code detail).adc = s.adc := still_adc (State.still_note s block code detail)
@[simp] theorem State.note_per (block code detail : Nat) : (s.note block code detail).per = s.per := still_per (State.still_note s block code detail)
@[simp] theorem State.note_ho (block code detail : Nat) : (s.note block code detail).ho = s.ho := still_ho (State.still_note s block code detail)
@[simp] theorem State.note_rtc (block code detail : Nat) : (s.note block code detail).rtc = s.rtc := still_rtc (State.still_note s block code detail)
@[simp] theorem State.note_swc (block code detail : Nat) : (s.note block code detail).swc = s.swc := still_swc (State.still_note s block code detail)
@[simp] theorem State.note_macs (block code detail : Nat) : (s.note block code detail).macs = s.macs := still_macs (State.still_note s block code detail)
@[simp] theorem State.note_mbs (block code detail : Nat) : (s.note block code detail).mbs = s.mbs := still_mbs (State.still_note s block code detail)
@[simp] theorem State.note_sliceOp (block code detail : Nat) : (s.note block code detail).sliceOp = s.sliceOp := still_sliceOp (State.still_note s block code detail)
@[simp] theorem State.note_keys (block code detail : Nat) : (s.note block code detail).keys = s.keys := still_keys (State.still_note s block code detail)
@[simp] theorem State.note_aqe (block code detail : Nat) : (s.note block code detail).aqe = s.aqe := still_aqe (State.still_note s block code detail)
@[simp] theorem State.note_nrg (block code detail : Nat) : (s.note block code detail).nrg = s.nrg := still_nrg (State.still_note s block code detail)
@[simp] theorem State.note_lce (block code detail : Nat) : (s.note block code detail).lce = s.lce := still_lce (State.still_note s block code detail)
@[simp] theorem State.note_rck (block code detail : Nat) : (s.note block code detail).rck = s.rck := still_rck (State.still_note s block code detail)
@[simp] theorem State.note_bank (block code detail : Nat) : (s.note block code detail).bank = s.bank := still_bank (State.still_note s block code detail)
@[simp] theorem State.note_dram (block code detail : Nat) : (s.note block code detail).dram = s.dram := still_dram (State.still_note s block code detail)

/-! ### noteOpen -/

theorem State.still_noteOpen (block : Nat) : (s.noteOpen block).still = s.still := by
  unfold State.noteOpen; (try dsimp only); (repeat' split) <;> simp only [State.still_mk, State.still_note, State.still_drawn]
@[simp] theorem State.noteOpen_pending (block : Nat) : (s.noteOpen block).pending = s.pending := still_pending (State.still_noteOpen s block)
@[simp] theorem State.noteOpen_hiLatch (block : Nat) : (s.noteOpen block).hiLatch = s.hiLatch := still_hiLatch (State.still_noteOpen s block)
@[simp] theorem State.noteOpen_time (block : Nat) : (s.noteOpen block).time = s.time := by
  unfold State.noteOpen; (try dsimp only); (repeat' split) <;> first | (simp only [State.note_time, State.drawn_time]; done) | rfl
@[simp] theorem State.noteOpen_timeRun (block : Nat) : (s.noteOpen block).timeRun = s.timeRun := still_timeRun (State.still_noteOpen s block)
@[simp] theorem State.noteOpen_faults (block : Nat) : (s.noteOpen block).faults = s.faults := by
  unfold State.noteOpen; (try dsimp only); (repeat' split) <;> first | (simp only [State.note_faults, State.drawn_faults]; done) | rfl
@[simp] theorem State.noteOpen_tg (block : Nat) : (s.noteOpen block).tg = s.tg := still_tg (State.still_noteOpen s block)
@[simp] theorem State.noteOpen_commits (block : Nat) : (s.noteOpen block).commits = s.commits := still_commits (State.still_noteOpen s block)
@[simp] theorem State.noteOpen_rings (block : Nat) : (s.noteOpen block).rings = s.rings := by
  unfold State.noteOpen; (try dsimp only); (repeat' split) <;> first | (simp only [State.note_rings, State.drawn_rings]; done) | rfl
@[simp] theorem State.noteOpen_multi (block : Nat) : (s.noteOpen block).multi = s.multi := still_multi (State.still_noteOpen s block)
@[simp] theorem State.noteOpen_pair (block : Nat) : (s.noteOpen block).pair = s.pair := by
  unfold State.noteOpen; (try dsimp only); (repeat' split) <;> first | (simp only [State.note_pair, State.drawn_pair]; done) | rfl
@[simp] theorem State.noteOpen_inj (block : Nat) : (s.noteOpen block).inj = s.inj := still_inj (State.still_noteOpen s block)
@[simp] theorem State.noteOpen_boot (block : Nat) : (s.noteOpen block).boot = s.boot := still_boot (State.still_noteOpen s block)
@[simp] theorem State.noteOpen_tim (block : Nat) : (s.noteOpen block).tim = s.tim := still_tim (State.still_noteOpen s block)
@[simp] theorem State.noteOpen_slots (block : Nat) : (s.noteOpen block).slots = s.slots := still_slots (State.still_noteOpen s block)
@[simp] theorem State.noteOpen_core (block : Nat) : (s.noteOpen block).core = s.core := still_core (State.still_noteOpen s block)
@[simp] theorem State.noteOpen_cle (block : Nat) : (s.noteOpen block).cle = s.cle := still_cle (State.still_noteOpen s block)
@[simp] theorem State.noteOpen_svi (block : Nat) : (s.noteOpen block).svi = s.svi := still_svi (State.still_noteOpen s block)
@[simp] theorem State.noteOpen_pub (block : Nat) : (s.noteOpen block).pub = s.pub := by
  unfold State.noteOpen; (try dsimp only); (repeat' split) <;> first | (simp only [State.note_pub, State.drawn_pub]; done) | rfl
@[simp] theorem State.noteOpen_mod (block : Nat) : (s.noteOpen block).mod = s.mod := still_mod (State.still_noteOpen s block)
@[simp] theorem State.noteOpen_adc (block : Nat) : (s.noteOpen block).adc = s.adc := still_adc (State.still_noteOpen s block)
@[simp] theorem State.noteOpen_per (block : Nat) : (s.noteOpen block).per = s.per := still_per (State.still_noteOpen s block)
@[simp] theorem State.noteOpen_ho (block : Nat) : (s.noteOpen block).ho = s.ho := still_ho (State.still_noteOpen s block)
@[simp] theorem State.noteOpen_rtc (block : Nat) : (s.noteOpen block).rtc = s.rtc := still_rtc (State.still_noteOpen s block)
@[simp] theorem State.noteOpen_swc (block : Nat) : (s.noteOpen block).swc = s.swc := still_swc (State.still_noteOpen s block)
@[simp] theorem State.noteOpen_macs (block : Nat) : (s.noteOpen block).macs = s.macs := still_macs (State.still_noteOpen s block)
@[simp] theorem State.noteOpen_mbs (block : Nat) : (s.noteOpen block).mbs = s.mbs := still_mbs (State.still_noteOpen s block)
@[simp] theorem State.noteOpen_sliceOp (block : Nat) : (s.noteOpen block).sliceOp = s.sliceOp := still_sliceOp (State.still_noteOpen s block)
@[simp] theorem State.noteOpen_keys (block : Nat) : (s.noteOpen block).keys = s.keys := still_keys (State.still_noteOpen s block)
@[simp] theorem State.noteOpen_aqe (block : Nat) : (s.noteOpen block).aqe = s.aqe := still_aqe (State.still_noteOpen s block)
@[simp] theorem State.noteOpen_nrg (block : Nat) : (s.noteOpen block).nrg = s.nrg := still_nrg (State.still_noteOpen s block)
@[simp] theorem State.noteOpen_lce (block : Nat) : (s.noteOpen block).lce = s.lce := still_lce (State.still_noteOpen s block)
@[simp] theorem State.noteOpen_rck (block : Nat) : (s.noteOpen block).rck = s.rck := still_rck (State.still_noteOpen s block)
@[simp] theorem State.noteOpen_bank (block : Nat) : (s.noteOpen block).bank = s.bank := still_bank (State.still_noteOpen s block)
@[simp] theorem State.noteOpen_dram (block : Nat) : (s.noteOpen block).dram = s.dram := still_dram (State.still_noteOpen s block)

/-! ### pairSend -/

theorem State.still_pairSend (tick : Nat) (b : PairBody) : (s.pairSend tick b).still = s.still := by
  unfold State.pairSend; (try dsimp only); (repeat' split) <;> simp only [State.still_mk, State.still_emit]
@[simp] theorem State.pairSend_pending (tick : Nat) (b : PairBody) : (s.pairSend tick b).pending = s.pending := still_pending (State.still_pairSend s tick b)
@[simp] theorem State.pairSend_regs (tick : Nat) (b : PairBody) : (s.pairSend tick b).regs = s.regs := by
  unfold State.pairSend; (try dsimp only); (repeat' split) <;> first | (simp only [State.emit_regs]; done) | rfl
@[simp] theorem State.pairSend_hiLatch (tick : Nat) (b : PairBody) : (s.pairSend tick b).hiLatch = s.hiLatch := still_hiLatch (State.still_pairSend s tick b)
@[simp] theorem State.pairSend_time (tick : Nat) (b : PairBody) : (s.pairSend tick b).time = s.time := by
  unfold State.pairSend; (try dsimp only); (repeat' split) <;> first | (simp only [State.emit_time]; done) | rfl
@[simp] theorem State.pairSend_timeRun (tick : Nat) (b : PairBody) : (s.pairSend tick b).timeRun = s.timeRun := still_timeRun (State.still_pairSend s tick b)
@[simp] theorem State.pairSend_freeCtr (tick : Nat) (b : PairBody) : (s.pairSend tick b).freeCtr = s.freeCtr := by
  unfold State.pairSend; (try dsimp only); (repeat' split) <;> first | (simp only [State.emit_freeCtr]; done) | rfl
@[simp] theorem State.pairSend_evqPosted (tick : Nat) (b : PairBody) : (s.pairSend tick b).evqPosted = s.evqPosted := by
  unfold State.pairSend; (try dsimp only); (repeat' split) <;> first | (simp only [State.emit_evqPosted]; done) | rfl
@[simp] theorem State.pairSend_faults (tick : Nat) (b : PairBody) : (s.pairSend tick b).faults = s.faults := by
  unfold State.pairSend; (try dsimp only); (repeat' split) <;> first | (simp only [State.emit_faults]; done) | rfl
@[simp] theorem State.pairSend_tg (tick : Nat) (b : PairBody) : (s.pairSend tick b).tg = s.tg := still_tg (State.still_pairSend s tick b)
@[simp] theorem State.pairSend_commits (tick : Nat) (b : PairBody) : (s.pairSend tick b).commits = s.commits := still_commits (State.still_pairSend s tick b)
@[simp] theorem State.pairSend_rings (tick : Nat) (b : PairBody) : (s.pairSend tick b).rings = s.rings := by
  unfold State.pairSend; (try dsimp only); (repeat' split) <;> first | (simp only [State.emit_rings]; done) | rfl
@[simp] theorem State.pairSend_multi (tick : Nat) (b : PairBody) : (s.pairSend tick b).multi = s.multi := still_multi (State.still_pairSend s tick b)
@[simp] theorem State.pairSend_inj (tick : Nat) (b : PairBody) : (s.pairSend tick b).inj = s.inj := still_inj (State.still_pairSend s tick b)
@[simp] theorem State.pairSend_journal (tick : Nat) (b : PairBody) : (s.pairSend tick b).journal = s.journal := by
  unfold State.pairSend; (try dsimp only); (repeat' split) <;> first | (simp only [State.emit_journal]; done) | rfl
@[simp] theorem State.pairSend_boot (tick : Nat) (b : PairBody) : (s.pairSend tick b).boot = s.boot := still_boot (State.still_pairSend s tick b)
@[simp] theorem State.pairSend_tim (tick : Nat) (b : PairBody) : (s.pairSend tick b).tim = s.tim := still_tim (State.still_pairSend s tick b)
@[simp] theorem State.pairSend_slots (tick : Nat) (b : PairBody) : (s.pairSend tick b).slots = s.slots := still_slots (State.still_pairSend s tick b)
@[simp] theorem State.pairSend_core (tick : Nat) (b : PairBody) : (s.pairSend tick b).core = s.core := still_core (State.still_pairSend s tick b)
@[simp] theorem State.pairSend_cle (tick : Nat) (b : PairBody) : (s.pairSend tick b).cle = s.cle := still_cle (State.still_pairSend s tick b)
@[simp] theorem State.pairSend_svi (tick : Nat) (b : PairBody) : (s.pairSend tick b).svi = s.svi := still_svi (State.still_pairSend s tick b)
@[simp] theorem State.pairSend_pub (tick : Nat) (b : PairBody) : (s.pairSend tick b).pub = s.pub := by
  unfold State.pairSend; (try dsimp only); (repeat' split) <;> first | (simp only [State.emit_pub]; done) | rfl
@[simp] theorem State.pairSend_mod (tick : Nat) (b : PairBody) : (s.pairSend tick b).mod = s.mod := still_mod (State.still_pairSend s tick b)
@[simp] theorem State.pairSend_adc (tick : Nat) (b : PairBody) : (s.pairSend tick b).adc = s.adc := still_adc (State.still_pairSend s tick b)
@[simp] theorem State.pairSend_per (tick : Nat) (b : PairBody) : (s.pairSend tick b).per = s.per := still_per (State.still_pairSend s tick b)
@[simp] theorem State.pairSend_ho (tick : Nat) (b : PairBody) : (s.pairSend tick b).ho = s.ho := still_ho (State.still_pairSend s tick b)
@[simp] theorem State.pairSend_rtc (tick : Nat) (b : PairBody) : (s.pairSend tick b).rtc = s.rtc := still_rtc (State.still_pairSend s tick b)
@[simp] theorem State.pairSend_swc (tick : Nat) (b : PairBody) : (s.pairSend tick b).swc = s.swc := still_swc (State.still_pairSend s tick b)
@[simp] theorem State.pairSend_macs (tick : Nat) (b : PairBody) : (s.pairSend tick b).macs = s.macs := still_macs (State.still_pairSend s tick b)
@[simp] theorem State.pairSend_mbs (tick : Nat) (b : PairBody) : (s.pairSend tick b).mbs = s.mbs := still_mbs (State.still_pairSend s tick b)
@[simp] theorem State.pairSend_sliceOp (tick : Nat) (b : PairBody) : (s.pairSend tick b).sliceOp = s.sliceOp := still_sliceOp (State.still_pairSend s tick b)
@[simp] theorem State.pairSend_keys (tick : Nat) (b : PairBody) : (s.pairSend tick b).keys = s.keys := still_keys (State.still_pairSend s tick b)
@[simp] theorem State.pairSend_aqe (tick : Nat) (b : PairBody) : (s.pairSend tick b).aqe = s.aqe := still_aqe (State.still_pairSend s tick b)
@[simp] theorem State.pairSend_nrg (tick : Nat) (b : PairBody) : (s.pairSend tick b).nrg = s.nrg := still_nrg (State.still_pairSend s tick b)
@[simp] theorem State.pairSend_lce (tick : Nat) (b : PairBody) : (s.pairSend tick b).lce = s.lce := still_lce (State.still_pairSend s tick b)
@[simp] theorem State.pairSend_rck (tick : Nat) (b : PairBody) : (s.pairSend tick b).rck = s.rck := still_rck (State.still_pairSend s tick b)
@[simp] theorem State.pairSend_bank (tick : Nat) (b : PairBody) : (s.pairSend tick b).bank = s.bank := still_bank (State.still_pairSend s tick b)
@[simp] theorem State.pairSend_dram (tick : Nat) (b : PairBody) : (s.pairSend tick b).dram = s.dram := still_dram (State.still_pairSend s tick b)

/-! ### refreshHealth -/

theorem State.still_refreshHealth : (s.refreshHealth).still = s.still := by
  unfold State.refreshHealth; (try dsimp only); (repeat' split) <;> simp only [State.still_mk, State.still_put, State.still_event]
@[simp] theorem State.refreshHealth_pending : (s.refreshHealth).pending = s.pending := still_pending (State.still_refreshHealth s)
@[simp] theorem State.refreshHealth_hiLatch : (s.refreshHealth).hiLatch = s.hiLatch := still_hiLatch (State.still_refreshHealth s)
@[simp] theorem State.refreshHealth_time : (s.refreshHealth).time = s.time := by
  unfold State.refreshHealth; (try dsimp only); (repeat' split) <;> first | (simp only [State.put_time, State.event_time]; done) | rfl
@[simp] theorem State.refreshHealth_timeRun : (s.refreshHealth).timeRun = s.timeRun := still_timeRun (State.still_refreshHealth s)
@[simp] theorem State.refreshHealth_freeCtr : (s.refreshHealth).freeCtr = s.freeCtr := by
  unfold State.refreshHealth; (try dsimp only); (repeat' split) <;> first | (simp only [State.put_freeCtr, State.event_freeCtr]; done) | rfl
@[simp] theorem State.refreshHealth_evqPosted : (s.refreshHealth).evqPosted = s.evqPosted := by
  unfold State.refreshHealth; (try dsimp only); (repeat' split) <;> first | (simp only [State.put_evqPosted, State.event_evqPosted]; done) | rfl
@[simp] theorem State.refreshHealth_faults : (s.refreshHealth).faults = s.faults := by
  unfold State.refreshHealth; (try dsimp only); (repeat' split) <;> first | (simp only [State.put_faults, State.event_faults]; done) | rfl
@[simp] theorem State.refreshHealth_tg : (s.refreshHealth).tg = s.tg := still_tg (State.still_refreshHealth s)
@[simp] theorem State.refreshHealth_commits : (s.refreshHealth).commits = s.commits := still_commits (State.still_refreshHealth s)
@[simp] theorem State.refreshHealth_rings : (s.refreshHealth).rings = s.rings := by
  unfold State.refreshHealth; (try dsimp only); (repeat' split) <;> first | (simp only [State.put_rings, State.event_rings]; done) | rfl
@[simp] theorem State.refreshHealth_multi : (s.refreshHealth).multi = s.multi := still_multi (State.still_refreshHealth s)
@[simp] theorem State.refreshHealth_pair : (s.refreshHealth).pair = s.pair := by
  unfold State.refreshHealth; (try dsimp only); (repeat' split) <;> first | (simp only [State.put_pair, State.event_pair]; done) | rfl
@[simp] theorem State.refreshHealth_inj : (s.refreshHealth).inj = s.inj := still_inj (State.still_refreshHealth s)
@[simp] theorem State.refreshHealth_journal : (s.refreshHealth).journal = s.journal := by
  unfold State.refreshHealth; (try dsimp only); (repeat' split) <;> first | (simp only [State.put_journal, State.event_journal]; done) | rfl
@[simp] theorem State.refreshHealth_boot : (s.refreshHealth).boot = s.boot := still_boot (State.still_refreshHealth s)
@[simp] theorem State.refreshHealth_tim : (s.refreshHealth).tim = s.tim := still_tim (State.still_refreshHealth s)
@[simp] theorem State.refreshHealth_slots : (s.refreshHealth).slots = s.slots := still_slots (State.still_refreshHealth s)
@[simp] theorem State.refreshHealth_core : (s.refreshHealth).core = s.core := still_core (State.still_refreshHealth s)
@[simp] theorem State.refreshHealth_cle : (s.refreshHealth).cle = s.cle := still_cle (State.still_refreshHealth s)
@[simp] theorem State.refreshHealth_svi : (s.refreshHealth).svi = s.svi := still_svi (State.still_refreshHealth s)
@[simp] theorem State.refreshHealth_pub : (s.refreshHealth).pub = s.pub := by
  unfold State.refreshHealth; (try dsimp only); (repeat' split) <;> first | (simp only [State.put_pub, State.event_pub]; done) | rfl
@[simp] theorem State.refreshHealth_mod : (s.refreshHealth).mod = s.mod := still_mod (State.still_refreshHealth s)
@[simp] theorem State.refreshHealth_adc : (s.refreshHealth).adc = s.adc := still_adc (State.still_refreshHealth s)
@[simp] theorem State.refreshHealth_per : (s.refreshHealth).per = s.per := still_per (State.still_refreshHealth s)
@[simp] theorem State.refreshHealth_ho : (s.refreshHealth).ho = s.ho := still_ho (State.still_refreshHealth s)
@[simp] theorem State.refreshHealth_rtc : (s.refreshHealth).rtc = s.rtc := still_rtc (State.still_refreshHealth s)
@[simp] theorem State.refreshHealth_swc : (s.refreshHealth).swc = s.swc := still_swc (State.still_refreshHealth s)
@[simp] theorem State.refreshHealth_macs : (s.refreshHealth).macs = s.macs := still_macs (State.still_refreshHealth s)
@[simp] theorem State.refreshHealth_mbs : (s.refreshHealth).mbs = s.mbs := still_mbs (State.still_refreshHealth s)
@[simp] theorem State.refreshHealth_sliceOp : (s.refreshHealth).sliceOp = s.sliceOp := still_sliceOp (State.still_refreshHealth s)
@[simp] theorem State.refreshHealth_keys : (s.refreshHealth).keys = s.keys := still_keys (State.still_refreshHealth s)
@[simp] theorem State.refreshHealth_aqe : (s.refreshHealth).aqe = s.aqe := still_aqe (State.still_refreshHealth s)
@[simp] theorem State.refreshHealth_nrg : (s.refreshHealth).nrg = s.nrg := still_nrg (State.still_refreshHealth s)
@[simp] theorem State.refreshHealth_lce : (s.refreshHealth).lce = s.lce := still_lce (State.still_refreshHealth s)
@[simp] theorem State.refreshHealth_rck : (s.refreshHealth).rck = s.rck := still_rck (State.still_refreshHealth s)
@[simp] theorem State.refreshHealth_bank : (s.refreshHealth).bank = s.bank := still_bank (State.still_refreshHealth s)
@[simp] theorem State.refreshHealth_dram : (s.refreshHealth).dram = s.dram := still_dram (State.still_refreshHealth s)

/-! ### report -/

theorem State.still_report (r : FaultRec) : (s.report r).still = s.still := by
  unfold State.report; (try dsimp only); (repeat' split) <;> simp only [State.still_mk, State.still_journalAdd, State.still_post, State.still_pairSend]
@[simp] theorem State.report_pending (r : FaultRec) : (s.report r).pending = s.pending := still_pending (State.still_report s r)
@[simp] theorem State.report_hiLatch (r : FaultRec) : (s.report r).hiLatch = s.hiLatch := still_hiLatch (State.still_report s r)
@[simp] theorem State.report_time (r : FaultRec) : (s.report r).time = s.time := by
  unfold State.report; (try dsimp only); (repeat' split) <;> first | (simp only [State.journalAdd_time, State.post_time, State.pairSend_time]; done) | rfl
@[simp] theorem State.report_timeRun (r : FaultRec) : (s.report r).timeRun = s.timeRun := still_timeRun (State.still_report s r)
@[simp] theorem State.report_freeCtr (r : FaultRec) : (s.report r).freeCtr = s.freeCtr := by
  unfold State.report; (try dsimp only); (repeat' split) <;> first | (simp only [State.journalAdd_freeCtr, State.post_freeCtr, State.pairSend_freeCtr]; done) | rfl
@[simp] theorem State.report_faults (r : FaultRec) : (s.report r).faults = s.faults := by
  unfold State.report; (try dsimp only); (repeat' split) <;> first | (simp only [State.journalAdd_faults, State.post_faults, State.pairSend_faults]; done) | rfl
@[simp] theorem State.report_tg (r : FaultRec) : (s.report r).tg = s.tg := still_tg (State.still_report s r)
@[simp] theorem State.report_commits (r : FaultRec) : (s.report r).commits = s.commits := still_commits (State.still_report s r)
@[simp] theorem State.report_rings (r : FaultRec) : (s.report r).rings = s.rings := by
  unfold State.report; (try dsimp only); (repeat' split) <;> first | (simp only [State.journalAdd_rings, State.post_rings, State.pairSend_rings]; done) | rfl
@[simp] theorem State.report_multi (r : FaultRec) : (s.report r).multi = s.multi := still_multi (State.still_report s r)
@[simp] theorem State.report_inj (r : FaultRec) : (s.report r).inj = s.inj := still_inj (State.still_report s r)
@[simp] theorem State.report_boot (r : FaultRec) : (s.report r).boot = s.boot := still_boot (State.still_report s r)
@[simp] theorem State.report_tim (r : FaultRec) : (s.report r).tim = s.tim := still_tim (State.still_report s r)
@[simp] theorem State.report_slots (r : FaultRec) : (s.report r).slots = s.slots := still_slots (State.still_report s r)
@[simp] theorem State.report_core (r : FaultRec) : (s.report r).core = s.core := still_core (State.still_report s r)
@[simp] theorem State.report_cle (r : FaultRec) : (s.report r).cle = s.cle := still_cle (State.still_report s r)
@[simp] theorem State.report_svi (r : FaultRec) : (s.report r).svi = s.svi := still_svi (State.still_report s r)
@[simp] theorem State.report_pub (r : FaultRec) : (s.report r).pub = s.pub := by
  unfold State.report; (try dsimp only); (repeat' split) <;> first | (simp only [State.journalAdd_pub, State.post_pub, State.pairSend_pub]; done) | rfl
@[simp] theorem State.report_mod (r : FaultRec) : (s.report r).mod = s.mod := still_mod (State.still_report s r)
@[simp] theorem State.report_adc (r : FaultRec) : (s.report r).adc = s.adc := still_adc (State.still_report s r)
@[simp] theorem State.report_per (r : FaultRec) : (s.report r).per = s.per := still_per (State.still_report s r)
@[simp] theorem State.report_ho (r : FaultRec) : (s.report r).ho = s.ho := still_ho (State.still_report s r)
@[simp] theorem State.report_rtc (r : FaultRec) : (s.report r).rtc = s.rtc := still_rtc (State.still_report s r)
@[simp] theorem State.report_swc (r : FaultRec) : (s.report r).swc = s.swc := still_swc (State.still_report s r)
@[simp] theorem State.report_macs (r : FaultRec) : (s.report r).macs = s.macs := still_macs (State.still_report s r)
@[simp] theorem State.report_mbs (r : FaultRec) : (s.report r).mbs = s.mbs := still_mbs (State.still_report s r)
@[simp] theorem State.report_sliceOp (r : FaultRec) : (s.report r).sliceOp = s.sliceOp := still_sliceOp (State.still_report s r)
@[simp] theorem State.report_keys (r : FaultRec) : (s.report r).keys = s.keys := still_keys (State.still_report s r)
@[simp] theorem State.report_aqe (r : FaultRec) : (s.report r).aqe = s.aqe := still_aqe (State.still_report s r)
@[simp] theorem State.report_nrg (r : FaultRec) : (s.report r).nrg = s.nrg := still_nrg (State.still_report s r)
@[simp] theorem State.report_lce (r : FaultRec) : (s.report r).lce = s.lce := still_lce (State.still_report s r)
@[simp] theorem State.report_rck (r : FaultRec) : (s.report r).rck = s.rck := still_rck (State.still_report s r)
@[simp] theorem State.report_bank (r : FaultRec) : (s.report r).bank = s.bank := still_bank (State.still_report s r)
@[simp] theorem State.report_dram (r : FaultRec) : (s.report r).dram = s.dram := still_dram (State.still_report s r)

/-! ### raiseRecord -/

theorem State.still_raiseRecord (code cls inst slice detail : Nat) : (s.raiseRecord code cls inst slice detail).still = s.still := by
  unfold State.raiseRecord; (try dsimp only); (repeat' split) <;> simp only [State.still_mk, State.still_report, State.still_refreshHealth]
@[simp] theorem State.raiseRecord_pending (code cls inst slice detail : Nat) : (s.raiseRecord code cls inst slice detail).pending = s.pending := still_pending (State.still_raiseRecord s code cls inst slice detail)
@[simp] theorem State.raiseRecord_hiLatch (code cls inst slice detail : Nat) : (s.raiseRecord code cls inst slice detail).hiLatch = s.hiLatch := still_hiLatch (State.still_raiseRecord s code cls inst slice detail)
@[simp] theorem State.raiseRecord_time (code cls inst slice detail : Nat) : (s.raiseRecord code cls inst slice detail).time = s.time := by
  unfold State.raiseRecord; (try dsimp only); (repeat' split) <;> first | (simp only [State.report_time, State.refreshHealth_time]; done) | rfl
@[simp] theorem State.raiseRecord_timeRun (code cls inst slice detail : Nat) : (s.raiseRecord code cls inst slice detail).timeRun = s.timeRun := still_timeRun (State.still_raiseRecord s code cls inst slice detail)
@[simp] theorem State.raiseRecord_freeCtr (code cls inst slice detail : Nat) : (s.raiseRecord code cls inst slice detail).freeCtr = s.freeCtr := by
  unfold State.raiseRecord; (try dsimp only); (repeat' split) <;> first | (simp only [State.report_freeCtr, State.refreshHealth_freeCtr]; done) | rfl
@[simp] theorem State.raiseRecord_tg (code cls inst slice detail : Nat) : (s.raiseRecord code cls inst slice detail).tg = s.tg := still_tg (State.still_raiseRecord s code cls inst slice detail)
@[simp] theorem State.raiseRecord_commits (code cls inst slice detail : Nat) : (s.raiseRecord code cls inst slice detail).commits = s.commits := still_commits (State.still_raiseRecord s code cls inst slice detail)
@[simp] theorem State.raiseRecord_rings (code cls inst slice detail : Nat) : (s.raiseRecord code cls inst slice detail).rings = s.rings := by
  unfold State.raiseRecord; (try dsimp only); (repeat' split) <;> first | (simp only [State.report_rings, State.refreshHealth_rings]; done) | rfl
@[simp] theorem State.raiseRecord_multi (code cls inst slice detail : Nat) : (s.raiseRecord code cls inst slice detail).multi = s.multi := still_multi (State.still_raiseRecord s code cls inst slice detail)
@[simp] theorem State.raiseRecord_inj (code cls inst slice detail : Nat) : (s.raiseRecord code cls inst slice detail).inj = s.inj := still_inj (State.still_raiseRecord s code cls inst slice detail)
@[simp] theorem State.raiseRecord_boot (code cls inst slice detail : Nat) : (s.raiseRecord code cls inst slice detail).boot = s.boot := still_boot (State.still_raiseRecord s code cls inst slice detail)
@[simp] theorem State.raiseRecord_tim (code cls inst slice detail : Nat) : (s.raiseRecord code cls inst slice detail).tim = s.tim := still_tim (State.still_raiseRecord s code cls inst slice detail)
@[simp] theorem State.raiseRecord_slots (code cls inst slice detail : Nat) : (s.raiseRecord code cls inst slice detail).slots = s.slots := still_slots (State.still_raiseRecord s code cls inst slice detail)
@[simp] theorem State.raiseRecord_core (code cls inst slice detail : Nat) : (s.raiseRecord code cls inst slice detail).core = s.core := still_core (State.still_raiseRecord s code cls inst slice detail)
@[simp] theorem State.raiseRecord_cle (code cls inst slice detail : Nat) : (s.raiseRecord code cls inst slice detail).cle = s.cle := still_cle (State.still_raiseRecord s code cls inst slice detail)
@[simp] theorem State.raiseRecord_svi (code cls inst slice detail : Nat) : (s.raiseRecord code cls inst slice detail).svi = s.svi := still_svi (State.still_raiseRecord s code cls inst slice detail)
@[simp] theorem State.raiseRecord_pub (code cls inst slice detail : Nat) : (s.raiseRecord code cls inst slice detail).pub = s.pub := by
  unfold State.raiseRecord; (try dsimp only); (repeat' split) <;> first | (simp only [State.report_pub, State.refreshHealth_pub]; done) | rfl
@[simp] theorem State.raiseRecord_mod (code cls inst slice detail : Nat) : (s.raiseRecord code cls inst slice detail).mod = s.mod := still_mod (State.still_raiseRecord s code cls inst slice detail)
@[simp] theorem State.raiseRecord_adc (code cls inst slice detail : Nat) : (s.raiseRecord code cls inst slice detail).adc = s.adc := still_adc (State.still_raiseRecord s code cls inst slice detail)
@[simp] theorem State.raiseRecord_per (code cls inst slice detail : Nat) : (s.raiseRecord code cls inst slice detail).per = s.per := still_per (State.still_raiseRecord s code cls inst slice detail)
@[simp] theorem State.raiseRecord_ho (code cls inst slice detail : Nat) : (s.raiseRecord code cls inst slice detail).ho = s.ho := still_ho (State.still_raiseRecord s code cls inst slice detail)
@[simp] theorem State.raiseRecord_rtc (code cls inst slice detail : Nat) : (s.raiseRecord code cls inst slice detail).rtc = s.rtc := still_rtc (State.still_raiseRecord s code cls inst slice detail)
@[simp] theorem State.raiseRecord_swc (code cls inst slice detail : Nat) : (s.raiseRecord code cls inst slice detail).swc = s.swc := still_swc (State.still_raiseRecord s code cls inst slice detail)
@[simp] theorem State.raiseRecord_macs (code cls inst slice detail : Nat) : (s.raiseRecord code cls inst slice detail).macs = s.macs := still_macs (State.still_raiseRecord s code cls inst slice detail)
@[simp] theorem State.raiseRecord_mbs (code cls inst slice detail : Nat) : (s.raiseRecord code cls inst slice detail).mbs = s.mbs := still_mbs (State.still_raiseRecord s code cls inst slice detail)
@[simp] theorem State.raiseRecord_sliceOp (code cls inst slice detail : Nat) : (s.raiseRecord code cls inst slice detail).sliceOp = s.sliceOp := still_sliceOp (State.still_raiseRecord s code cls inst slice detail)
@[simp] theorem State.raiseRecord_keys (code cls inst slice detail : Nat) : (s.raiseRecord code cls inst slice detail).keys = s.keys := still_keys (State.still_raiseRecord s code cls inst slice detail)
@[simp] theorem State.raiseRecord_aqe (code cls inst slice detail : Nat) : (s.raiseRecord code cls inst slice detail).aqe = s.aqe := still_aqe (State.still_raiseRecord s code cls inst slice detail)
@[simp] theorem State.raiseRecord_nrg (code cls inst slice detail : Nat) : (s.raiseRecord code cls inst slice detail).nrg = s.nrg := still_nrg (State.still_raiseRecord s code cls inst slice detail)
@[simp] theorem State.raiseRecord_lce (code cls inst slice detail : Nat) : (s.raiseRecord code cls inst slice detail).lce = s.lce := still_lce (State.still_raiseRecord s code cls inst slice detail)
@[simp] theorem State.raiseRecord_rck (code cls inst slice detail : Nat) : (s.raiseRecord code cls inst slice detail).rck = s.rck := still_rck (State.still_raiseRecord s code cls inst slice detail)
@[simp] theorem State.raiseRecord_bank (code cls inst slice detail : Nat) : (s.raiseRecord code cls inst slice detail).bank = s.bank := still_bank (State.still_raiseRecord s code cls inst slice detail)
@[simp] theorem State.raiseRecord_dram (code cls inst slice detail : Nat) : (s.raiseRecord code cls inst slice detail).dram = s.dram := still_dram (State.still_raiseRecord s code cls inst slice detail)

/-! ### reportClears -/

theorem State.still_reportClears (l : List ActiveFault) : (s.reportClears l).still = s.still := by
  induction l generalizing s with
  | nil => rfl
  | cons a l ih => unfold State.reportClears; rw [ih, State.still_report]
@[simp] theorem State.reportClears_pending (l : List ActiveFault) : (s.reportClears l).pending = s.pending := still_pending (State.still_reportClears s l)
@[simp] theorem State.reportClears_hiLatch (l : List ActiveFault) : (s.reportClears l).hiLatch = s.hiLatch := still_hiLatch (State.still_reportClears s l)
@[simp] theorem State.reportClears_time (l : List ActiveFault) : (s.reportClears l).time = s.time := by
  induction l generalizing s with
  | nil => rfl
  | cons a l ih => unfold State.reportClears; rw [ih, State.report_time]
@[simp] theorem State.reportClears_timeRun (l : List ActiveFault) : (s.reportClears l).timeRun = s.timeRun := still_timeRun (State.still_reportClears s l)
@[simp] theorem State.reportClears_freeCtr (l : List ActiveFault) : (s.reportClears l).freeCtr = s.freeCtr := by
  induction l generalizing s with
  | nil => rfl
  | cons a l ih => unfold State.reportClears; rw [ih, State.report_freeCtr]
@[simp] theorem State.reportClears_faults (l : List ActiveFault) : (s.reportClears l).faults = s.faults := by
  induction l generalizing s with
  | nil => rfl
  | cons a l ih => unfold State.reportClears; rw [ih, State.report_faults]
@[simp] theorem State.reportClears_tg (l : List ActiveFault) : (s.reportClears l).tg = s.tg := still_tg (State.still_reportClears s l)
@[simp] theorem State.reportClears_commits (l : List ActiveFault) : (s.reportClears l).commits = s.commits := still_commits (State.still_reportClears s l)
@[simp] theorem State.reportClears_rings (l : List ActiveFault) : (s.reportClears l).rings = s.rings := by
  induction l generalizing s with
  | nil => rfl
  | cons a l ih => unfold State.reportClears; rw [ih, State.report_rings]
@[simp] theorem State.reportClears_multi (l : List ActiveFault) : (s.reportClears l).multi = s.multi := still_multi (State.still_reportClears s l)
@[simp] theorem State.reportClears_inj (l : List ActiveFault) : (s.reportClears l).inj = s.inj := still_inj (State.still_reportClears s l)
@[simp] theorem State.reportClears_boot (l : List ActiveFault) : (s.reportClears l).boot = s.boot := still_boot (State.still_reportClears s l)
@[simp] theorem State.reportClears_tim (l : List ActiveFault) : (s.reportClears l).tim = s.tim := still_tim (State.still_reportClears s l)
@[simp] theorem State.reportClears_slots (l : List ActiveFault) : (s.reportClears l).slots = s.slots := still_slots (State.still_reportClears s l)
@[simp] theorem State.reportClears_core (l : List ActiveFault) : (s.reportClears l).core = s.core := still_core (State.still_reportClears s l)
@[simp] theorem State.reportClears_cle (l : List ActiveFault) : (s.reportClears l).cle = s.cle := still_cle (State.still_reportClears s l)
@[simp] theorem State.reportClears_svi (l : List ActiveFault) : (s.reportClears l).svi = s.svi := still_svi (State.still_reportClears s l)
@[simp] theorem State.reportClears_pub (l : List ActiveFault) : (s.reportClears l).pub = s.pub := by
  induction l generalizing s with
  | nil => rfl
  | cons a l ih => unfold State.reportClears; rw [ih, State.report_pub]
@[simp] theorem State.reportClears_mod (l : List ActiveFault) : (s.reportClears l).mod = s.mod := still_mod (State.still_reportClears s l)
@[simp] theorem State.reportClears_adc (l : List ActiveFault) : (s.reportClears l).adc = s.adc := still_adc (State.still_reportClears s l)
@[simp] theorem State.reportClears_per (l : List ActiveFault) : (s.reportClears l).per = s.per := still_per (State.still_reportClears s l)
@[simp] theorem State.reportClears_ho (l : List ActiveFault) : (s.reportClears l).ho = s.ho := still_ho (State.still_reportClears s l)
@[simp] theorem State.reportClears_rtc (l : List ActiveFault) : (s.reportClears l).rtc = s.rtc := still_rtc (State.still_reportClears s l)
@[simp] theorem State.reportClears_swc (l : List ActiveFault) : (s.reportClears l).swc = s.swc := still_swc (State.still_reportClears s l)
@[simp] theorem State.reportClears_macs (l : List ActiveFault) : (s.reportClears l).macs = s.macs := still_macs (State.still_reportClears s l)
@[simp] theorem State.reportClears_mbs (l : List ActiveFault) : (s.reportClears l).mbs = s.mbs := still_mbs (State.still_reportClears s l)
@[simp] theorem State.reportClears_sliceOp (l : List ActiveFault) : (s.reportClears l).sliceOp = s.sliceOp := still_sliceOp (State.still_reportClears s l)
@[simp] theorem State.reportClears_keys (l : List ActiveFault) : (s.reportClears l).keys = s.keys := still_keys (State.still_reportClears s l)
@[simp] theorem State.reportClears_aqe (l : List ActiveFault) : (s.reportClears l).aqe = s.aqe := still_aqe (State.still_reportClears s l)
@[simp] theorem State.reportClears_nrg (l : List ActiveFault) : (s.reportClears l).nrg = s.nrg := still_nrg (State.still_reportClears s l)
@[simp] theorem State.reportClears_lce (l : List ActiveFault) : (s.reportClears l).lce = s.lce := still_lce (State.still_reportClears s l)
@[simp] theorem State.reportClears_rck (l : List ActiveFault) : (s.reportClears l).rck = s.rck := still_rck (State.still_reportClears s l)
@[simp] theorem State.reportClears_bank (l : List ActiveFault) : (s.reportClears l).bank = s.bank := still_bank (State.still_reportClears s l)
@[simp] theorem State.reportClears_dram (l : List ActiveFault) : (s.reportClears l).dram = s.dram := still_dram (State.still_reportClears s l)

/-! ### clearWhere -/

theorem State.still_clearWhere (p : ActiveFault → Bool) : (s.clearWhere p).still = s.still := by
  unfold State.clearWhere; (try dsimp only); (repeat' split) <;> simp only [State.still_mk, State.still_reportClears, State.still_refreshHealth]
@[simp] theorem State.clearWhere_pending (p : ActiveFault → Bool) : (s.clearWhere p).pending = s.pending := still_pending (State.still_clearWhere s p)
@[simp] theorem State.clearWhere_hiLatch (p : ActiveFault → Bool) : (s.clearWhere p).hiLatch = s.hiLatch := still_hiLatch (State.still_clearWhere s p)
@[simp] theorem State.clearWhere_time (p : ActiveFault → Bool) : (s.clearWhere p).time = s.time := by
  unfold State.clearWhere; (try dsimp only); (repeat' split) <;> first | (simp only [State.reportClears_time, State.refreshHealth_time]; done) | rfl
@[simp] theorem State.clearWhere_timeRun (p : ActiveFault → Bool) : (s.clearWhere p).timeRun = s.timeRun := still_timeRun (State.still_clearWhere s p)
@[simp] theorem State.clearWhere_freeCtr (p : ActiveFault → Bool) : (s.clearWhere p).freeCtr = s.freeCtr := by
  unfold State.clearWhere; (try dsimp only); (repeat' split) <;> first | (simp only [State.reportClears_freeCtr, State.refreshHealth_freeCtr]; done) | rfl
@[simp] theorem State.clearWhere_tg (p : ActiveFault → Bool) : (s.clearWhere p).tg = s.tg := still_tg (State.still_clearWhere s p)
@[simp] theorem State.clearWhere_commits (p : ActiveFault → Bool) : (s.clearWhere p).commits = s.commits := still_commits (State.still_clearWhere s p)
@[simp] theorem State.clearWhere_rings (p : ActiveFault → Bool) : (s.clearWhere p).rings = s.rings := by
  unfold State.clearWhere; (try dsimp only); (repeat' split) <;> first | (simp only [State.reportClears_rings, State.refreshHealth_rings]; done) | rfl
@[simp] theorem State.clearWhere_multi (p : ActiveFault → Bool) : (s.clearWhere p).multi = s.multi := still_multi (State.still_clearWhere s p)
@[simp] theorem State.clearWhere_inj (p : ActiveFault → Bool) : (s.clearWhere p).inj = s.inj := still_inj (State.still_clearWhere s p)
@[simp] theorem State.clearWhere_boot (p : ActiveFault → Bool) : (s.clearWhere p).boot = s.boot := still_boot (State.still_clearWhere s p)
@[simp] theorem State.clearWhere_tim (p : ActiveFault → Bool) : (s.clearWhere p).tim = s.tim := still_tim (State.still_clearWhere s p)
@[simp] theorem State.clearWhere_slots (p : ActiveFault → Bool) : (s.clearWhere p).slots = s.slots := still_slots (State.still_clearWhere s p)
@[simp] theorem State.clearWhere_core (p : ActiveFault → Bool) : (s.clearWhere p).core = s.core := still_core (State.still_clearWhere s p)
@[simp] theorem State.clearWhere_cle (p : ActiveFault → Bool) : (s.clearWhere p).cle = s.cle := still_cle (State.still_clearWhere s p)
@[simp] theorem State.clearWhere_svi (p : ActiveFault → Bool) : (s.clearWhere p).svi = s.svi := still_svi (State.still_clearWhere s p)
@[simp] theorem State.clearWhere_pub (p : ActiveFault → Bool) : (s.clearWhere p).pub = s.pub := by
  unfold State.clearWhere; (try dsimp only); (repeat' split) <;> first | (simp only [State.reportClears_pub, State.refreshHealth_pub]; done) | rfl
@[simp] theorem State.clearWhere_mod (p : ActiveFault → Bool) : (s.clearWhere p).mod = s.mod := still_mod (State.still_clearWhere s p)
@[simp] theorem State.clearWhere_adc (p : ActiveFault → Bool) : (s.clearWhere p).adc = s.adc := still_adc (State.still_clearWhere s p)
@[simp] theorem State.clearWhere_per (p : ActiveFault → Bool) : (s.clearWhere p).per = s.per := still_per (State.still_clearWhere s p)
@[simp] theorem State.clearWhere_ho (p : ActiveFault → Bool) : (s.clearWhere p).ho = s.ho := still_ho (State.still_clearWhere s p)
@[simp] theorem State.clearWhere_rtc (p : ActiveFault → Bool) : (s.clearWhere p).rtc = s.rtc := still_rtc (State.still_clearWhere s p)
@[simp] theorem State.clearWhere_swc (p : ActiveFault → Bool) : (s.clearWhere p).swc = s.swc := still_swc (State.still_clearWhere s p)
@[simp] theorem State.clearWhere_macs (p : ActiveFault → Bool) : (s.clearWhere p).macs = s.macs := still_macs (State.still_clearWhere s p)
@[simp] theorem State.clearWhere_mbs (p : ActiveFault → Bool) : (s.clearWhere p).mbs = s.mbs := still_mbs (State.still_clearWhere s p)
@[simp] theorem State.clearWhere_sliceOp (p : ActiveFault → Bool) : (s.clearWhere p).sliceOp = s.sliceOp := still_sliceOp (State.still_clearWhere s p)
@[simp] theorem State.clearWhere_keys (p : ActiveFault → Bool) : (s.clearWhere p).keys = s.keys := still_keys (State.still_clearWhere s p)
@[simp] theorem State.clearWhere_aqe (p : ActiveFault → Bool) : (s.clearWhere p).aqe = s.aqe := still_aqe (State.still_clearWhere s p)
@[simp] theorem State.clearWhere_nrg (p : ActiveFault → Bool) : (s.clearWhere p).nrg = s.nrg := still_nrg (State.still_clearWhere s p)
@[simp] theorem State.clearWhere_lce (p : ActiveFault → Bool) : (s.clearWhere p).lce = s.lce := still_lce (State.still_clearWhere s p)
@[simp] theorem State.clearWhere_rck (p : ActiveFault → Bool) : (s.clearWhere p).rck = s.rck := still_rck (State.still_clearWhere s p)
@[simp] theorem State.clearWhere_bank (p : ActiveFault → Bool) : (s.clearWhere p).bank = s.bank := still_bank (State.still_clearWhere s p)
@[simp] theorem State.clearWhere_dram (p : ActiveFault → Bool) : (s.clearWhere p).dram = s.dram := still_dram (State.still_clearWhere s p)

/-! ### clearFault -/

theorem State.still_clearFault (code inst : Nat) : (s.clearFault code inst).still = s.still := by
  unfold State.clearFault; (try dsimp only); (repeat' split) <;> simp only [State.still_mk, State.still_clearWhere]
@[simp] theorem State.clearFault_pending (code inst : Nat) : (s.clearFault code inst).pending = s.pending := still_pending (State.still_clearFault s code inst)
@[simp] theorem State.clearFault_hiLatch (code inst : Nat) : (s.clearFault code inst).hiLatch = s.hiLatch := still_hiLatch (State.still_clearFault s code inst)
@[simp] theorem State.clearFault_time (code inst : Nat) : (s.clearFault code inst).time = s.time := by
  unfold State.clearFault; (try dsimp only); (repeat' split) <;> first | (simp only [State.clearWhere_time]; done) | rfl
@[simp] theorem State.clearFault_timeRun (code inst : Nat) : (s.clearFault code inst).timeRun = s.timeRun := still_timeRun (State.still_clearFault s code inst)
@[simp] theorem State.clearFault_freeCtr (code inst : Nat) : (s.clearFault code inst).freeCtr = s.freeCtr := by
  unfold State.clearFault; (try dsimp only); (repeat' split) <;> first | (simp only [State.clearWhere_freeCtr]; done) | rfl
@[simp] theorem State.clearFault_tg (code inst : Nat) : (s.clearFault code inst).tg = s.tg := still_tg (State.still_clearFault s code inst)
@[simp] theorem State.clearFault_commits (code inst : Nat) : (s.clearFault code inst).commits = s.commits := still_commits (State.still_clearFault s code inst)
@[simp] theorem State.clearFault_rings (code inst : Nat) : (s.clearFault code inst).rings = s.rings := by
  unfold State.clearFault; (try dsimp only); (repeat' split) <;> first | (simp only [State.clearWhere_rings]; done) | rfl
@[simp] theorem State.clearFault_multi (code inst : Nat) : (s.clearFault code inst).multi = s.multi := still_multi (State.still_clearFault s code inst)
@[simp] theorem State.clearFault_inj (code inst : Nat) : (s.clearFault code inst).inj = s.inj := still_inj (State.still_clearFault s code inst)
@[simp] theorem State.clearFault_boot (code inst : Nat) : (s.clearFault code inst).boot = s.boot := still_boot (State.still_clearFault s code inst)
@[simp] theorem State.clearFault_tim (code inst : Nat) : (s.clearFault code inst).tim = s.tim := still_tim (State.still_clearFault s code inst)
@[simp] theorem State.clearFault_slots (code inst : Nat) : (s.clearFault code inst).slots = s.slots := still_slots (State.still_clearFault s code inst)
@[simp] theorem State.clearFault_core (code inst : Nat) : (s.clearFault code inst).core = s.core := still_core (State.still_clearFault s code inst)
@[simp] theorem State.clearFault_cle (code inst : Nat) : (s.clearFault code inst).cle = s.cle := still_cle (State.still_clearFault s code inst)
@[simp] theorem State.clearFault_svi (code inst : Nat) : (s.clearFault code inst).svi = s.svi := still_svi (State.still_clearFault s code inst)
@[simp] theorem State.clearFault_pub (code inst : Nat) : (s.clearFault code inst).pub = s.pub := by
  unfold State.clearFault; (try dsimp only); (repeat' split) <;> first | (simp only [State.clearWhere_pub]; done) | rfl
@[simp] theorem State.clearFault_mod (code inst : Nat) : (s.clearFault code inst).mod = s.mod := still_mod (State.still_clearFault s code inst)
@[simp] theorem State.clearFault_adc (code inst : Nat) : (s.clearFault code inst).adc = s.adc := still_adc (State.still_clearFault s code inst)
@[simp] theorem State.clearFault_per (code inst : Nat) : (s.clearFault code inst).per = s.per := still_per (State.still_clearFault s code inst)
@[simp] theorem State.clearFault_ho (code inst : Nat) : (s.clearFault code inst).ho = s.ho := still_ho (State.still_clearFault s code inst)
@[simp] theorem State.clearFault_rtc (code inst : Nat) : (s.clearFault code inst).rtc = s.rtc := still_rtc (State.still_clearFault s code inst)
@[simp] theorem State.clearFault_swc (code inst : Nat) : (s.clearFault code inst).swc = s.swc := still_swc (State.still_clearFault s code inst)
@[simp] theorem State.clearFault_macs (code inst : Nat) : (s.clearFault code inst).macs = s.macs := still_macs (State.still_clearFault s code inst)
@[simp] theorem State.clearFault_mbs (code inst : Nat) : (s.clearFault code inst).mbs = s.mbs := still_mbs (State.still_clearFault s code inst)
@[simp] theorem State.clearFault_sliceOp (code inst : Nat) : (s.clearFault code inst).sliceOp = s.sliceOp := still_sliceOp (State.still_clearFault s code inst)
@[simp] theorem State.clearFault_keys (code inst : Nat) : (s.clearFault code inst).keys = s.keys := still_keys (State.still_clearFault s code inst)
@[simp] theorem State.clearFault_aqe (code inst : Nat) : (s.clearFault code inst).aqe = s.aqe := still_aqe (State.still_clearFault s code inst)
@[simp] theorem State.clearFault_nrg (code inst : Nat) : (s.clearFault code inst).nrg = s.nrg := still_nrg (State.still_clearFault s code inst)
@[simp] theorem State.clearFault_lce (code inst : Nat) : (s.clearFault code inst).lce = s.lce := still_lce (State.still_clearFault s code inst)
@[simp] theorem State.clearFault_rck (code inst : Nat) : (s.clearFault code inst).rck = s.rck := still_rck (State.still_clearFault s code inst)
@[simp] theorem State.clearFault_bank (code inst : Nat) : (s.clearFault code inst).bank = s.bank := still_bank (State.still_clearFault s code inst)
@[simp] theorem State.clearFault_dram (code inst : Nat) : (s.clearFault code inst).dram = s.dram := still_dram (State.still_clearFault s code inst)

/-! ### clearCode -/

theorem State.still_clearCode (code : Nat) : (s.clearCode code).still = s.still := by
  unfold State.clearCode; (try dsimp only); (repeat' split) <;> simp only [State.still_mk, State.still_clearWhere]
@[simp] theorem State.clearCode_pending (code : Nat) : (s.clearCode code).pending = s.pending := still_pending (State.still_clearCode s code)
@[simp] theorem State.clearCode_hiLatch (code : Nat) : (s.clearCode code).hiLatch = s.hiLatch := still_hiLatch (State.still_clearCode s code)
@[simp] theorem State.clearCode_time (code : Nat) : (s.clearCode code).time = s.time := by
  unfold State.clearCode; (try dsimp only); (repeat' split) <;> first | (simp only [State.clearWhere_time]; done) | rfl
@[simp] theorem State.clearCode_timeRun (code : Nat) : (s.clearCode code).timeRun = s.timeRun := still_timeRun (State.still_clearCode s code)
@[simp] theorem State.clearCode_freeCtr (code : Nat) : (s.clearCode code).freeCtr = s.freeCtr := by
  unfold State.clearCode; (try dsimp only); (repeat' split) <;> first | (simp only [State.clearWhere_freeCtr]; done) | rfl
@[simp] theorem State.clearCode_tg (code : Nat) : (s.clearCode code).tg = s.tg := still_tg (State.still_clearCode s code)
@[simp] theorem State.clearCode_commits (code : Nat) : (s.clearCode code).commits = s.commits := still_commits (State.still_clearCode s code)
@[simp] theorem State.clearCode_rings (code : Nat) : (s.clearCode code).rings = s.rings := by
  unfold State.clearCode; (try dsimp only); (repeat' split) <;> first | (simp only [State.clearWhere_rings]; done) | rfl
@[simp] theorem State.clearCode_multi (code : Nat) : (s.clearCode code).multi = s.multi := still_multi (State.still_clearCode s code)
@[simp] theorem State.clearCode_inj (code : Nat) : (s.clearCode code).inj = s.inj := still_inj (State.still_clearCode s code)
@[simp] theorem State.clearCode_boot (code : Nat) : (s.clearCode code).boot = s.boot := still_boot (State.still_clearCode s code)
@[simp] theorem State.clearCode_tim (code : Nat) : (s.clearCode code).tim = s.tim := still_tim (State.still_clearCode s code)
@[simp] theorem State.clearCode_slots (code : Nat) : (s.clearCode code).slots = s.slots := still_slots (State.still_clearCode s code)
@[simp] theorem State.clearCode_core (code : Nat) : (s.clearCode code).core = s.core := still_core (State.still_clearCode s code)
@[simp] theorem State.clearCode_cle (code : Nat) : (s.clearCode code).cle = s.cle := still_cle (State.still_clearCode s code)
@[simp] theorem State.clearCode_svi (code : Nat) : (s.clearCode code).svi = s.svi := still_svi (State.still_clearCode s code)
@[simp] theorem State.clearCode_pub (code : Nat) : (s.clearCode code).pub = s.pub := by
  unfold State.clearCode; (try dsimp only); (repeat' split) <;> first | (simp only [State.clearWhere_pub]; done) | rfl
@[simp] theorem State.clearCode_mod (code : Nat) : (s.clearCode code).mod = s.mod := still_mod (State.still_clearCode s code)
@[simp] theorem State.clearCode_adc (code : Nat) : (s.clearCode code).adc = s.adc := still_adc (State.still_clearCode s code)
@[simp] theorem State.clearCode_per (code : Nat) : (s.clearCode code).per = s.per := still_per (State.still_clearCode s code)
@[simp] theorem State.clearCode_ho (code : Nat) : (s.clearCode code).ho = s.ho := still_ho (State.still_clearCode s code)
@[simp] theorem State.clearCode_rtc (code : Nat) : (s.clearCode code).rtc = s.rtc := still_rtc (State.still_clearCode s code)
@[simp] theorem State.clearCode_swc (code : Nat) : (s.clearCode code).swc = s.swc := still_swc (State.still_clearCode s code)
@[simp] theorem State.clearCode_macs (code : Nat) : (s.clearCode code).macs = s.macs := still_macs (State.still_clearCode s code)
@[simp] theorem State.clearCode_mbs (code : Nat) : (s.clearCode code).mbs = s.mbs := still_mbs (State.still_clearCode s code)
@[simp] theorem State.clearCode_sliceOp (code : Nat) : (s.clearCode code).sliceOp = s.sliceOp := still_sliceOp (State.still_clearCode s code)
@[simp] theorem State.clearCode_keys (code : Nat) : (s.clearCode code).keys = s.keys := still_keys (State.still_clearCode s code)
@[simp] theorem State.clearCode_aqe (code : Nat) : (s.clearCode code).aqe = s.aqe := still_aqe (State.still_clearCode s code)
@[simp] theorem State.clearCode_nrg (code : Nat) : (s.clearCode code).nrg = s.nrg := still_nrg (State.still_clearCode s code)
@[simp] theorem State.clearCode_lce (code : Nat) : (s.clearCode code).lce = s.lce := still_lce (State.still_clearCode s code)
@[simp] theorem State.clearCode_rck (code : Nat) : (s.clearCode code).rck = s.rck := still_rck (State.still_clearCode s code)
@[simp] theorem State.clearCode_bank (code : Nat) : (s.clearCode code).bank = s.bank := still_bank (State.still_clearCode s code)
@[simp] theorem State.clearCode_dram (code : Nat) : (s.clearCode code).dram = s.dram := still_dram (State.still_clearCode s code)

/-! ### gateBits -/

theorem State.still_gateBits (b : Bool) : (s.gateBits b).still = s.still := by
  unfold State.gateBits; (try dsimp only); (repeat' split) <;> simp only [State.still_mk, State.still_put, State.still_putFlag, State.still_eventIf]
@[simp] theorem State.gateBits_pending (b : Bool) : (s.gateBits b).pending = s.pending := still_pending (State.still_gateBits s b)
@[simp] theorem State.gateBits_hiLatch (b : Bool) : (s.gateBits b).hiLatch = s.hiLatch := still_hiLatch (State.still_gateBits s b)
@[simp] theorem State.gateBits_time (b : Bool) : (s.gateBits b).time = s.time := by
  unfold State.gateBits; (try dsimp only); (repeat' split) <;> first | (simp only [State.put_time, State.putFlag_time, State.eventIf_time]; done) | rfl
@[simp] theorem State.gateBits_timeRun (b : Bool) : (s.gateBits b).timeRun = s.timeRun := still_timeRun (State.still_gateBits s b)
@[simp] theorem State.gateBits_freeCtr (b : Bool) : (s.gateBits b).freeCtr = s.freeCtr := by
  unfold State.gateBits; (try dsimp only); (repeat' split) <;> first | (simp only [State.put_freeCtr, State.putFlag_freeCtr, State.eventIf_freeCtr]; done) | rfl
@[simp] theorem State.gateBits_evqPosted (b : Bool) : (s.gateBits b).evqPosted = s.evqPosted := by
  unfold State.gateBits; (try dsimp only); (repeat' split) <;> first | (simp only [State.put_evqPosted, State.putFlag_evqPosted, State.eventIf_evqPosted]; done) | rfl
@[simp] theorem State.gateBits_faults (b : Bool) : (s.gateBits b).faults = s.faults := by
  unfold State.gateBits; (try dsimp only); (repeat' split) <;> first | (simp only [State.put_faults, State.putFlag_faults, State.eventIf_faults]; done) | rfl
@[simp] theorem State.gateBits_tg (b : Bool) : (s.gateBits b).tg = s.tg := still_tg (State.still_gateBits s b)
@[simp] theorem State.gateBits_commits (b : Bool) : (s.gateBits b).commits = s.commits := still_commits (State.still_gateBits s b)
@[simp] theorem State.gateBits_rings (b : Bool) : (s.gateBits b).rings = s.rings := by
  unfold State.gateBits; (try dsimp only); (repeat' split) <;> first | (simp only [State.put_rings, State.putFlag_rings, State.eventIf_rings]; done) | rfl
@[simp] theorem State.gateBits_multi (b : Bool) : (s.gateBits b).multi = s.multi := still_multi (State.still_gateBits s b)
@[simp] theorem State.gateBits_inj (b : Bool) : (s.gateBits b).inj = s.inj := still_inj (State.still_gateBits s b)
@[simp] theorem State.gateBits_journal (b : Bool) : (s.gateBits b).journal = s.journal := by
  unfold State.gateBits; (try dsimp only); (repeat' split) <;> first | (simp only [State.put_journal, State.putFlag_journal, State.eventIf_journal]; done) | rfl
@[simp] theorem State.gateBits_boot (b : Bool) : (s.gateBits b).boot = s.boot := still_boot (State.still_gateBits s b)
@[simp] theorem State.gateBits_tim (b : Bool) : (s.gateBits b).tim = s.tim := still_tim (State.still_gateBits s b)
@[simp] theorem State.gateBits_slots (b : Bool) : (s.gateBits b).slots = s.slots := still_slots (State.still_gateBits s b)
@[simp] theorem State.gateBits_core (b : Bool) : (s.gateBits b).core = s.core := still_core (State.still_gateBits s b)
@[simp] theorem State.gateBits_cle (b : Bool) : (s.gateBits b).cle = s.cle := still_cle (State.still_gateBits s b)
@[simp] theorem State.gateBits_svi (b : Bool) : (s.gateBits b).svi = s.svi := still_svi (State.still_gateBits s b)
@[simp] theorem State.gateBits_pub (b : Bool) : (s.gateBits b).pub = s.pub := by
  unfold State.gateBits; (try dsimp only); (repeat' split) <;> first | (simp only [State.put_pub, State.putFlag_pub, State.eventIf_pub]; done) | rfl
@[simp] theorem State.gateBits_mod (b : Bool) : (s.gateBits b).mod = s.mod := still_mod (State.still_gateBits s b)
@[simp] theorem State.gateBits_adc (b : Bool) : (s.gateBits b).adc = s.adc := still_adc (State.still_gateBits s b)
@[simp] theorem State.gateBits_per (b : Bool) : (s.gateBits b).per = s.per := still_per (State.still_gateBits s b)
@[simp] theorem State.gateBits_ho (b : Bool) : (s.gateBits b).ho = s.ho := still_ho (State.still_gateBits s b)
@[simp] theorem State.gateBits_rtc (b : Bool) : (s.gateBits b).rtc = s.rtc := still_rtc (State.still_gateBits s b)
@[simp] theorem State.gateBits_swc (b : Bool) : (s.gateBits b).swc = s.swc := still_swc (State.still_gateBits s b)
@[simp] theorem State.gateBits_macs (b : Bool) : (s.gateBits b).macs = s.macs := still_macs (State.still_gateBits s b)
@[simp] theorem State.gateBits_mbs (b : Bool) : (s.gateBits b).mbs = s.mbs := still_mbs (State.still_gateBits s b)
@[simp] theorem State.gateBits_sliceOp (b : Bool) : (s.gateBits b).sliceOp = s.sliceOp := still_sliceOp (State.still_gateBits s b)
@[simp] theorem State.gateBits_keys (b : Bool) : (s.gateBits b).keys = s.keys := still_keys (State.still_gateBits s b)
@[simp] theorem State.gateBits_aqe (b : Bool) : (s.gateBits b).aqe = s.aqe := still_aqe (State.still_gateBits s b)
@[simp] theorem State.gateBits_nrg (b : Bool) : (s.gateBits b).nrg = s.nrg := still_nrg (State.still_gateBits s b)
@[simp] theorem State.gateBits_lce (b : Bool) : (s.gateBits b).lce = s.lce := still_lce (State.still_gateBits s b)
@[simp] theorem State.gateBits_rck (b : Bool) : (s.gateBits b).rck = s.rck := still_rck (State.still_gateBits s b)
@[simp] theorem State.gateBits_bank (b : Bool) : (s.gateBits b).bank = s.bank := still_bank (State.still_gateBits s b)
@[simp] theorem State.gateBits_dram (b : Bool) : (s.gateBits b).dram = s.dram := still_dram (State.still_gateBits s b)

/-! ### endSafeMode -/

theorem State.still_endSafeMode : (s.endSafeMode).still = s.still := by
  unfold State.endSafeMode; (try dsimp only); (repeat' split) <;> simp only [State.still_mk, State.still_put, State.still_eventIf]
@[simp] theorem State.endSafeMode_pending : (s.endSafeMode).pending = s.pending := still_pending (State.still_endSafeMode s)
@[simp] theorem State.endSafeMode_hiLatch : (s.endSafeMode).hiLatch = s.hiLatch := still_hiLatch (State.still_endSafeMode s)
@[simp] theorem State.endSafeMode_time : (s.endSafeMode).time = s.time := by
  unfold State.endSafeMode; (try dsimp only); (repeat' split) <;> first | (simp only [State.put_time, State.eventIf_time]; done) | rfl
@[simp] theorem State.endSafeMode_timeRun : (s.endSafeMode).timeRun = s.timeRun := still_timeRun (State.still_endSafeMode s)
@[simp] theorem State.endSafeMode_freeCtr : (s.endSafeMode).freeCtr = s.freeCtr := by
  unfold State.endSafeMode; (try dsimp only); (repeat' split) <;> first | (simp only [State.put_freeCtr, State.eventIf_freeCtr]; done) | rfl
@[simp] theorem State.endSafeMode_evqPosted : (s.endSafeMode).evqPosted = s.evqPosted := by
  unfold State.endSafeMode; (try dsimp only); (repeat' split) <;> first | (simp only [State.put_evqPosted, State.eventIf_evqPosted]; done) | rfl
@[simp] theorem State.endSafeMode_faults : (s.endSafeMode).faults = s.faults := by
  unfold State.endSafeMode; (try dsimp only); (repeat' split) <;> first | (simp only [State.put_faults, State.eventIf_faults]; done) | rfl
@[simp] theorem State.endSafeMode_tg : (s.endSafeMode).tg = s.tg := still_tg (State.still_endSafeMode s)
@[simp] theorem State.endSafeMode_commits : (s.endSafeMode).commits = s.commits := still_commits (State.still_endSafeMode s)
@[simp] theorem State.endSafeMode_rings : (s.endSafeMode).rings = s.rings := by
  unfold State.endSafeMode; (try dsimp only); (repeat' split) <;> first | (simp only [State.put_rings, State.eventIf_rings]; done) | rfl
@[simp] theorem State.endSafeMode_multi : (s.endSafeMode).multi = s.multi := still_multi (State.still_endSafeMode s)
@[simp] theorem State.endSafeMode_inj : (s.endSafeMode).inj = s.inj := still_inj (State.still_endSafeMode s)
@[simp] theorem State.endSafeMode_journal : (s.endSafeMode).journal = s.journal := by
  unfold State.endSafeMode; (try dsimp only); (repeat' split) <;> first | (simp only [State.put_journal, State.eventIf_journal]; done) | rfl
@[simp] theorem State.endSafeMode_boot : (s.endSafeMode).boot = s.boot := still_boot (State.still_endSafeMode s)
@[simp] theorem State.endSafeMode_tim : (s.endSafeMode).tim = s.tim := still_tim (State.still_endSafeMode s)
@[simp] theorem State.endSafeMode_slots : (s.endSafeMode).slots = s.slots := still_slots (State.still_endSafeMode s)
@[simp] theorem State.endSafeMode_core : (s.endSafeMode).core = s.core := still_core (State.still_endSafeMode s)
@[simp] theorem State.endSafeMode_cle : (s.endSafeMode).cle = s.cle := still_cle (State.still_endSafeMode s)
@[simp] theorem State.endSafeMode_svi : (s.endSafeMode).svi = s.svi := still_svi (State.still_endSafeMode s)
@[simp] theorem State.endSafeMode_mod : (s.endSafeMode).mod = s.mod := still_mod (State.still_endSafeMode s)
@[simp] theorem State.endSafeMode_adc : (s.endSafeMode).adc = s.adc := still_adc (State.still_endSafeMode s)
@[simp] theorem State.endSafeMode_per : (s.endSafeMode).per = s.per := still_per (State.still_endSafeMode s)
@[simp] theorem State.endSafeMode_ho : (s.endSafeMode).ho = s.ho := still_ho (State.still_endSafeMode s)
@[simp] theorem State.endSafeMode_rtc : (s.endSafeMode).rtc = s.rtc := still_rtc (State.still_endSafeMode s)
@[simp] theorem State.endSafeMode_swc : (s.endSafeMode).swc = s.swc := still_swc (State.still_endSafeMode s)
@[simp] theorem State.endSafeMode_macs : (s.endSafeMode).macs = s.macs := still_macs (State.still_endSafeMode s)
@[simp] theorem State.endSafeMode_mbs : (s.endSafeMode).mbs = s.mbs := still_mbs (State.still_endSafeMode s)
@[simp] theorem State.endSafeMode_sliceOp : (s.endSafeMode).sliceOp = s.sliceOp := still_sliceOp (State.still_endSafeMode s)
@[simp] theorem State.endSafeMode_keys : (s.endSafeMode).keys = s.keys := still_keys (State.still_endSafeMode s)
@[simp] theorem State.endSafeMode_aqe : (s.endSafeMode).aqe = s.aqe := still_aqe (State.still_endSafeMode s)
@[simp] theorem State.endSafeMode_nrg : (s.endSafeMode).nrg = s.nrg := still_nrg (State.still_endSafeMode s)
@[simp] theorem State.endSafeMode_lce : (s.endSafeMode).lce = s.lce := still_lce (State.still_endSafeMode s)
@[simp] theorem State.endSafeMode_rck : (s.endSafeMode).rck = s.rck := still_rck (State.still_endSafeMode s)
@[simp] theorem State.endSafeMode_bank : (s.endSafeMode).bank = s.bank := still_bank (State.still_endSafeMode s)
@[simp] theorem State.endSafeMode_dram : (s.endSafeMode).dram = s.dram := still_dram (State.still_endSafeMode s)

/-! ### setGate -/

theorem State.still_setGate (b : Bool) : (s.setGate b).still = s.still := by
  unfold State.setGate; (try dsimp only); (repeat' split) <;> simp only [State.still_mk, State.still_gateBits, State.still_endSafeMode]
@[simp] theorem State.setGate_pending (b : Bool) : (s.setGate b).pending = s.pending := still_pending (State.still_setGate s b)
@[simp] theorem State.setGate_hiLatch (b : Bool) : (s.setGate b).hiLatch = s.hiLatch := still_hiLatch (State.still_setGate s b)
@[simp] theorem State.setGate_time (b : Bool) : (s.setGate b).time = s.time := by
  unfold State.setGate; (try dsimp only); (repeat' split) <;> first | (simp only [State.gateBits_time, State.endSafeMode_time]; done) | rfl
@[simp] theorem State.setGate_timeRun (b : Bool) : (s.setGate b).timeRun = s.timeRun := still_timeRun (State.still_setGate s b)
@[simp] theorem State.setGate_freeCtr (b : Bool) : (s.setGate b).freeCtr = s.freeCtr := by
  unfold State.setGate; (try dsimp only); (repeat' split) <;> first | (simp only [State.gateBits_freeCtr, State.endSafeMode_freeCtr]; done) | rfl
@[simp] theorem State.setGate_evqPosted (b : Bool) : (s.setGate b).evqPosted = s.evqPosted := by
  unfold State.setGate; (try dsimp only); (repeat' split) <;> first | (simp only [State.gateBits_evqPosted, State.endSafeMode_evqPosted]; done) | rfl
@[simp] theorem State.setGate_faults (b : Bool) : (s.setGate b).faults = s.faults := by
  unfold State.setGate; (try dsimp only); (repeat' split) <;> first | (simp only [State.gateBits_faults, State.endSafeMode_faults]; done) | rfl
@[simp] theorem State.setGate_tg (b : Bool) : (s.setGate b).tg = s.tg := still_tg (State.still_setGate s b)
@[simp] theorem State.setGate_commits (b : Bool) : (s.setGate b).commits = s.commits := still_commits (State.still_setGate s b)
@[simp] theorem State.setGate_rings (b : Bool) : (s.setGate b).rings = s.rings := by
  unfold State.setGate; (try dsimp only); (repeat' split) <;> first | (simp only [State.gateBits_rings, State.endSafeMode_rings]; done) | rfl
@[simp] theorem State.setGate_multi (b : Bool) : (s.setGate b).multi = s.multi := still_multi (State.still_setGate s b)
@[simp] theorem State.setGate_inj (b : Bool) : (s.setGate b).inj = s.inj := still_inj (State.still_setGate s b)
@[simp] theorem State.setGate_journal (b : Bool) : (s.setGate b).journal = s.journal := by
  unfold State.setGate; (try dsimp only); (repeat' split) <;> first | (simp only [State.gateBits_journal, State.endSafeMode_journal]; done) | rfl
@[simp] theorem State.setGate_boot (b : Bool) : (s.setGate b).boot = s.boot := still_boot (State.still_setGate s b)
@[simp] theorem State.setGate_tim (b : Bool) : (s.setGate b).tim = s.tim := still_tim (State.still_setGate s b)
@[simp] theorem State.setGate_slots (b : Bool) : (s.setGate b).slots = s.slots := still_slots (State.still_setGate s b)
@[simp] theorem State.setGate_core (b : Bool) : (s.setGate b).core = s.core := still_core (State.still_setGate s b)
@[simp] theorem State.setGate_cle (b : Bool) : (s.setGate b).cle = s.cle := still_cle (State.still_setGate s b)
@[simp] theorem State.setGate_svi (b : Bool) : (s.setGate b).svi = s.svi := still_svi (State.still_setGate s b)
@[simp] theorem State.setGate_mod (b : Bool) : (s.setGate b).mod = s.mod := still_mod (State.still_setGate s b)
@[simp] theorem State.setGate_adc (b : Bool) : (s.setGate b).adc = s.adc := still_adc (State.still_setGate s b)
@[simp] theorem State.setGate_per (b : Bool) : (s.setGate b).per = s.per := still_per (State.still_setGate s b)
@[simp] theorem State.setGate_ho (b : Bool) : (s.setGate b).ho = s.ho := still_ho (State.still_setGate s b)
@[simp] theorem State.setGate_rtc (b : Bool) : (s.setGate b).rtc = s.rtc := still_rtc (State.still_setGate s b)
@[simp] theorem State.setGate_swc (b : Bool) : (s.setGate b).swc = s.swc := still_swc (State.still_setGate s b)
@[simp] theorem State.setGate_macs (b : Bool) : (s.setGate b).macs = s.macs := still_macs (State.still_setGate s b)
@[simp] theorem State.setGate_mbs (b : Bool) : (s.setGate b).mbs = s.mbs := still_mbs (State.still_setGate s b)
@[simp] theorem State.setGate_sliceOp (b : Bool) : (s.setGate b).sliceOp = s.sliceOp := still_sliceOp (State.still_setGate s b)
@[simp] theorem State.setGate_keys (b : Bool) : (s.setGate b).keys = s.keys := still_keys (State.still_setGate s b)
@[simp] theorem State.setGate_aqe (b : Bool) : (s.setGate b).aqe = s.aqe := still_aqe (State.still_setGate s b)
@[simp] theorem State.setGate_nrg (b : Bool) : (s.setGate b).nrg = s.nrg := still_nrg (State.still_setGate s b)
@[simp] theorem State.setGate_lce (b : Bool) : (s.setGate b).lce = s.lce := still_lce (State.still_setGate s b)
@[simp] theorem State.setGate_rck (b : Bool) : (s.setGate b).rck = s.rck := still_rck (State.still_setGate s b)
@[simp] theorem State.setGate_bank (b : Bool) : (s.setGate b).bank = s.bank := still_bank (State.still_setGate s b)
@[simp] theorem State.setGate_dram (b : Bool) : (s.setGate b).dram = s.dram := still_dram (State.still_setGate s b)

/-! ### dropCustody -/

theorem State.still_dropCustody : (s.dropCustody).still = s.still := by
  unfold State.dropCustody; (try dsimp only); (repeat' split) <;> simp only [State.still_mk, State.still_put, State.still_setGate, State.still_pairSend]
@[simp] theorem State.dropCustody_pending : (s.dropCustody).pending = s.pending := still_pending (State.still_dropCustody s)
@[simp] theorem State.dropCustody_hiLatch : (s.dropCustody).hiLatch = s.hiLatch := still_hiLatch (State.still_dropCustody s)
@[simp] theorem State.dropCustody_time : (s.dropCustody).time = s.time := by
  unfold State.dropCustody; (try dsimp only); (repeat' split) <;> first | (simp only [State.put_time, State.setGate_time, State.pairSend_time]; done) | rfl
@[simp] theorem State.dropCustody_timeRun : (s.dropCustody).timeRun = s.timeRun := still_timeRun (State.still_dropCustody s)
@[simp] theorem State.dropCustody_freeCtr : (s.dropCustody).freeCtr = s.freeCtr := by
  unfold State.dropCustody; (try dsimp only); (repeat' split) <;> first | (simp only [State.put_freeCtr, State.setGate_freeCtr, State.pairSend_freeCtr]; done) | rfl
@[simp] theorem State.dropCustody_evqPosted : (s.dropCustody).evqPosted = s.evqPosted := by
  unfold State.dropCustody; (try dsimp only); (repeat' split) <;> first | (simp only [State.put_evqPosted, State.setGate_evqPosted, State.pairSend_evqPosted]; done) | rfl
@[simp] theorem State.dropCustody_faults : (s.dropCustody).faults = s.faults := by
  unfold State.dropCustody; (try dsimp only); (repeat' split) <;> first | (simp only [State.put_faults, State.setGate_faults, State.pairSend_faults]; done) | rfl
@[simp] theorem State.dropCustody_tg : (s.dropCustody).tg = s.tg := still_tg (State.still_dropCustody s)
@[simp] theorem State.dropCustody_commits : (s.dropCustody).commits = s.commits := still_commits (State.still_dropCustody s)
@[simp] theorem State.dropCustody_rings : (s.dropCustody).rings = s.rings := by
  unfold State.dropCustody; (try dsimp only); (repeat' split) <;> first | (simp only [State.put_rings, State.setGate_rings, State.pairSend_rings]; done) | rfl
@[simp] theorem State.dropCustody_multi : (s.dropCustody).multi = s.multi := still_multi (State.still_dropCustody s)
@[simp] theorem State.dropCustody_inj : (s.dropCustody).inj = s.inj := still_inj (State.still_dropCustody s)
@[simp] theorem State.dropCustody_journal : (s.dropCustody).journal = s.journal := by
  unfold State.dropCustody; (try dsimp only); (repeat' split) <;> first | (simp only [State.put_journal, State.setGate_journal, State.pairSend_journal]; done) | rfl
@[simp] theorem State.dropCustody_boot : (s.dropCustody).boot = s.boot := still_boot (State.still_dropCustody s)
@[simp] theorem State.dropCustody_tim : (s.dropCustody).tim = s.tim := still_tim (State.still_dropCustody s)
@[simp] theorem State.dropCustody_slots : (s.dropCustody).slots = s.slots := still_slots (State.still_dropCustody s)
@[simp] theorem State.dropCustody_core : (s.dropCustody).core = s.core := still_core (State.still_dropCustody s)
@[simp] theorem State.dropCustody_cle : (s.dropCustody).cle = s.cle := still_cle (State.still_dropCustody s)
@[simp] theorem State.dropCustody_svi : (s.dropCustody).svi = s.svi := still_svi (State.still_dropCustody s)
@[simp] theorem State.dropCustody_mod : (s.dropCustody).mod = s.mod := still_mod (State.still_dropCustody s)
@[simp] theorem State.dropCustody_adc : (s.dropCustody).adc = s.adc := still_adc (State.still_dropCustody s)
@[simp] theorem State.dropCustody_per : (s.dropCustody).per = s.per := still_per (State.still_dropCustody s)
@[simp] theorem State.dropCustody_ho : (s.dropCustody).ho = s.ho := still_ho (State.still_dropCustody s)
@[simp] theorem State.dropCustody_rtc : (s.dropCustody).rtc = s.rtc := still_rtc (State.still_dropCustody s)
@[simp] theorem State.dropCustody_swc : (s.dropCustody).swc = s.swc := still_swc (State.still_dropCustody s)
@[simp] theorem State.dropCustody_macs : (s.dropCustody).macs = s.macs := still_macs (State.still_dropCustody s)
@[simp] theorem State.dropCustody_mbs : (s.dropCustody).mbs = s.mbs := still_mbs (State.still_dropCustody s)
@[simp] theorem State.dropCustody_sliceOp : (s.dropCustody).sliceOp = s.sliceOp := still_sliceOp (State.still_dropCustody s)
@[simp] theorem State.dropCustody_keys : (s.dropCustody).keys = s.keys := still_keys (State.still_dropCustody s)
@[simp] theorem State.dropCustody_aqe : (s.dropCustody).aqe = s.aqe := still_aqe (State.still_dropCustody s)
@[simp] theorem State.dropCustody_nrg : (s.dropCustody).nrg = s.nrg := still_nrg (State.still_dropCustody s)
@[simp] theorem State.dropCustody_lce : (s.dropCustody).lce = s.lce := still_lce (State.still_dropCustody s)
@[simp] theorem State.dropCustody_rck : (s.dropCustody).rck = s.rck := still_rck (State.still_dropCustody s)
@[simp] theorem State.dropCustody_bank : (s.dropCustody).bank = s.bank := still_bank (State.still_dropCustody s)
@[simp] theorem State.dropCustody_dram : (s.dropCustody).dram = s.dram := still_dram (State.still_dropCustody s)

/-! ### setRing -/

theorem State.still_setRing (x : RingRec) : (s.setRing x).still = s.still := rfl
@[simp] theorem State.setRing_pending (x : RingRec) : (s.setRing x).pending = s.pending := rfl
@[simp] theorem State.setRing_regs (x : RingRec) : (s.setRing x).regs = s.regs := rfl
@[simp] theorem State.setRing_hiLatch (x : RingRec) : (s.setRing x).hiLatch = s.hiLatch := rfl
@[simp] theorem State.setRing_time (x : RingRec) : (s.setRing x).time = s.time := rfl
@[simp] theorem State.setRing_timeRun (x : RingRec) : (s.setRing x).timeRun = s.timeRun := rfl
@[simp] theorem State.setRing_outbox (x : RingRec) : (s.setRing x).outbox = s.outbox := rfl
@[simp] theorem State.setRing_freeCtr (x : RingRec) : (s.setRing x).freeCtr = s.freeCtr := rfl
@[simp] theorem State.setRing_evqPosted (x : RingRec) : (s.setRing x).evqPosted = s.evqPosted := rfl
@[simp] theorem State.setRing_faults (x : RingRec) : (s.setRing x).faults = s.faults := rfl
@[simp] theorem State.setRing_tg (x : RingRec) : (s.setRing x).tg = s.tg := rfl
@[simp] theorem State.setRing_commits (x : RingRec) : (s.setRing x).commits = s.commits := rfl
@[simp] theorem State.setRing_multi (x : RingRec) : (s.setRing x).multi = s.multi := rfl
@[simp] theorem State.setRing_pair (x : RingRec) : (s.setRing x).pair = s.pair := rfl
@[simp] theorem State.setRing_inj (x : RingRec) : (s.setRing x).inj = s.inj := rfl
@[simp] theorem State.setRing_journal (x : RingRec) : (s.setRing x).journal = s.journal := rfl
@[simp] theorem State.setRing_boot (x : RingRec) : (s.setRing x).boot = s.boot := rfl
@[simp] theorem State.setRing_tim (x : RingRec) : (s.setRing x).tim = s.tim := rfl
@[simp] theorem State.setRing_slots (x : RingRec) : (s.setRing x).slots = s.slots := rfl
@[simp] theorem State.setRing_core (x : RingRec) : (s.setRing x).core = s.core := rfl
@[simp] theorem State.setRing_cle (x : RingRec) : (s.setRing x).cle = s.cle := rfl
@[simp] theorem State.setRing_svi (x : RingRec) : (s.setRing x).svi = s.svi := rfl
@[simp] theorem State.setRing_pub (x : RingRec) : (s.setRing x).pub = s.pub := rfl
@[simp] theorem State.setRing_mod (x : RingRec) : (s.setRing x).mod = s.mod := rfl
@[simp] theorem State.setRing_adc (x : RingRec) : (s.setRing x).adc = s.adc := rfl
@[simp] theorem State.setRing_per (x : RingRec) : (s.setRing x).per = s.per := rfl
@[simp] theorem State.setRing_ho (x : RingRec) : (s.setRing x).ho = s.ho := rfl
@[simp] theorem State.setRing_rtc (x : RingRec) : (s.setRing x).rtc = s.rtc := rfl
@[simp] theorem State.setRing_swc (x : RingRec) : (s.setRing x).swc = s.swc := rfl
@[simp] theorem State.setRing_macs (x : RingRec) : (s.setRing x).macs = s.macs := rfl
@[simp] theorem State.setRing_mbs (x : RingRec) : (s.setRing x).mbs = s.mbs := rfl
@[simp] theorem State.setRing_sliceOp (x : RingRec) : (s.setRing x).sliceOp = s.sliceOp := rfl
@[simp] theorem State.setRing_keys (x : RingRec) : (s.setRing x).keys = s.keys := rfl
@[simp] theorem State.setRing_aqe (x : RingRec) : (s.setRing x).aqe = s.aqe := rfl
@[simp] theorem State.setRing_nrg (x : RingRec) : (s.setRing x).nrg = s.nrg := rfl
@[simp] theorem State.setRing_lce (x : RingRec) : (s.setRing x).lce = s.lce := rfl
@[simp] theorem State.setRing_rck (x : RingRec) : (s.setRing x).rck = s.rck := rfl
@[simp] theorem State.setRing_bank (x : RingRec) : (s.setRing x).bank = s.bank := rfl
@[simp] theorem State.setRing_dram (x : RingRec) : (s.setRing x).dram = s.dram := rfl

/-! ### coalesce -/

theorem State.still_coalesce (r k : Nat) : (s.coalesce r k).still = s.still := by
  unfold State.coalesce; (try dsimp only); (repeat' split) <;> simp only [State.still_mk, State.still_setRing, State.still_event]
@[simp] theorem State.coalesce_pending (r k : Nat) : (s.coalesce r k).pending = s.pending := still_pending (State.still_coalesce s r k)
@[simp] theorem State.coalesce_hiLatch (r k : Nat) : (s.coalesce r k).hiLatch = s.hiLatch := still_hiLatch (State.still_coalesce s r k)
@[simp] theorem State.coalesce_time (r k : Nat) : (s.coalesce r k).time = s.time := by
  unfold State.coalesce; (try dsimp only); (repeat' split) <;> first | (simp only [State.setRing_time, State.event_time]; done) | rfl
@[simp] theorem State.coalesce_timeRun (r k : Nat) : (s.coalesce r k).timeRun = s.timeRun := still_timeRun (State.still_coalesce s r k)
@[simp] theorem State.coalesce_freeCtr (r k : Nat) : (s.coalesce r k).freeCtr = s.freeCtr := by
  unfold State.coalesce; (try dsimp only); (repeat' split) <;> first | (simp only [State.setRing_freeCtr, State.event_freeCtr]; done) | rfl
@[simp] theorem State.coalesce_evqPosted (r k : Nat) : (s.coalesce r k).evqPosted = s.evqPosted := by
  unfold State.coalesce; (try dsimp only); (repeat' split) <;> first | (simp only [State.setRing_evqPosted, State.event_evqPosted]; done) | rfl
@[simp] theorem State.coalesce_faults (r k : Nat) : (s.coalesce r k).faults = s.faults := by
  unfold State.coalesce; (try dsimp only); (repeat' split) <;> first | (simp only [State.setRing_faults, State.event_faults]; done) | rfl
@[simp] theorem State.coalesce_tg (r k : Nat) : (s.coalesce r k).tg = s.tg := still_tg (State.still_coalesce s r k)
@[simp] theorem State.coalesce_commits (r k : Nat) : (s.coalesce r k).commits = s.commits := still_commits (State.still_coalesce s r k)
@[simp] theorem State.coalesce_multi (r k : Nat) : (s.coalesce r k).multi = s.multi := still_multi (State.still_coalesce s r k)
@[simp] theorem State.coalesce_pair (r k : Nat) : (s.coalesce r k).pair = s.pair := by
  unfold State.coalesce; (try dsimp only); (repeat' split) <;> first | (simp only [State.setRing_pair, State.event_pair]; done) | rfl
@[simp] theorem State.coalesce_inj (r k : Nat) : (s.coalesce r k).inj = s.inj := still_inj (State.still_coalesce s r k)
@[simp] theorem State.coalesce_journal (r k : Nat) : (s.coalesce r k).journal = s.journal := by
  unfold State.coalesce; (try dsimp only); (repeat' split) <;> first | (simp only [State.setRing_journal, State.event_journal]; done) | rfl
@[simp] theorem State.coalesce_boot (r k : Nat) : (s.coalesce r k).boot = s.boot := still_boot (State.still_coalesce s r k)
@[simp] theorem State.coalesce_tim (r k : Nat) : (s.coalesce r k).tim = s.tim := still_tim (State.still_coalesce s r k)
@[simp] theorem State.coalesce_slots (r k : Nat) : (s.coalesce r k).slots = s.slots := still_slots (State.still_coalesce s r k)
@[simp] theorem State.coalesce_core (r k : Nat) : (s.coalesce r k).core = s.core := still_core (State.still_coalesce s r k)
@[simp] theorem State.coalesce_cle (r k : Nat) : (s.coalesce r k).cle = s.cle := still_cle (State.still_coalesce s r k)
@[simp] theorem State.coalesce_svi (r k : Nat) : (s.coalesce r k).svi = s.svi := still_svi (State.still_coalesce s r k)
@[simp] theorem State.coalesce_pub (r k : Nat) : (s.coalesce r k).pub = s.pub := by
  unfold State.coalesce; (try dsimp only); (repeat' split) <;> first | (simp only [State.setRing_pub, State.event_pub]; done) | rfl
@[simp] theorem State.coalesce_mod (r k : Nat) : (s.coalesce r k).mod = s.mod := still_mod (State.still_coalesce s r k)
@[simp] theorem State.coalesce_adc (r k : Nat) : (s.coalesce r k).adc = s.adc := still_adc (State.still_coalesce s r k)
@[simp] theorem State.coalesce_per (r k : Nat) : (s.coalesce r k).per = s.per := still_per (State.still_coalesce s r k)
@[simp] theorem State.coalesce_ho (r k : Nat) : (s.coalesce r k).ho = s.ho := still_ho (State.still_coalesce s r k)
@[simp] theorem State.coalesce_rtc (r k : Nat) : (s.coalesce r k).rtc = s.rtc := still_rtc (State.still_coalesce s r k)
@[simp] theorem State.coalesce_swc (r k : Nat) : (s.coalesce r k).swc = s.swc := still_swc (State.still_coalesce s r k)
@[simp] theorem State.coalesce_macs (r k : Nat) : (s.coalesce r k).macs = s.macs := still_macs (State.still_coalesce s r k)
@[simp] theorem State.coalesce_mbs (r k : Nat) : (s.coalesce r k).mbs = s.mbs := still_mbs (State.still_coalesce s r k)
@[simp] theorem State.coalesce_sliceOp (r k : Nat) : (s.coalesce r k).sliceOp = s.sliceOp := still_sliceOp (State.still_coalesce s r k)
@[simp] theorem State.coalesce_keys (r k : Nat) : (s.coalesce r k).keys = s.keys := still_keys (State.still_coalesce s r k)
@[simp] theorem State.coalesce_aqe (r k : Nat) : (s.coalesce r k).aqe = s.aqe := still_aqe (State.still_coalesce s r k)
@[simp] theorem State.coalesce_nrg (r k : Nat) : (s.coalesce r k).nrg = s.nrg := still_nrg (State.still_coalesce s r k)
@[simp] theorem State.coalesce_lce (r k : Nat) : (s.coalesce r k).lce = s.lce := still_lce (State.still_coalesce s r k)
@[simp] theorem State.coalesce_rck (r k : Nat) : (s.coalesce r k).rck = s.rck := still_rck (State.still_coalesce s r k)
@[simp] theorem State.coalesce_bank (r k : Nat) : (s.coalesce r k).bank = s.bank := still_bank (State.still_coalesce s r k)
@[simp] theorem State.coalesce_dram (r k : Nat) : (s.coalesce r k).dram = s.dram := still_dram (State.still_coalesce s r k)

/-! ### wroteBack -/

theorem State.still_wroteBack (r k : Nat) : ((s.wroteBack r k).2).still = s.still := by
  unfold State.wroteBack; (try dsimp only); (repeat' split) <;> simp only [State.still_mk, State.still_setRing, State.still_coalesce]
@[simp] theorem State.wroteBack_pending (r k : Nat) : ((s.wroteBack r k).2).pending = s.pending := still_pending (State.still_wroteBack s r k)
@[simp] theorem State.wroteBack_hiLatch (r k : Nat) : ((s.wroteBack r k).2).hiLatch = s.hiLatch := still_hiLatch (State.still_wroteBack s r k)
@[simp] theorem State.wroteBack_time (r k : Nat) : ((s.wroteBack r k).2).time = s.time := by
  unfold State.wroteBack; (try dsimp only); (repeat' split) <;> first | (simp only [State.setRing_time, State.coalesce_time]; done) | rfl
@[simp] theorem State.wroteBack_timeRun (r k : Nat) : ((s.wroteBack r k).2).timeRun = s.timeRun := still_timeRun (State.still_wroteBack s r k)
@[simp] theorem State.wroteBack_freeCtr (r k : Nat) : ((s.wroteBack r k).2).freeCtr = s.freeCtr := by
  unfold State.wroteBack; (try dsimp only); (repeat' split) <;> first | (simp only [State.setRing_freeCtr, State.coalesce_freeCtr]; done) | rfl
@[simp] theorem State.wroteBack_evqPosted (r k : Nat) : ((s.wroteBack r k).2).evqPosted = s.evqPosted := by
  unfold State.wroteBack; (try dsimp only); (repeat' split) <;> first | (simp only [State.setRing_evqPosted, State.coalesce_evqPosted]; done) | rfl
@[simp] theorem State.wroteBack_faults (r k : Nat) : ((s.wroteBack r k).2).faults = s.faults := by
  unfold State.wroteBack; (try dsimp only); (repeat' split) <;> first | (simp only [State.setRing_faults, State.coalesce_faults]; done) | rfl
@[simp] theorem State.wroteBack_tg (r k : Nat) : ((s.wroteBack r k).2).tg = s.tg := still_tg (State.still_wroteBack s r k)
@[simp] theorem State.wroteBack_commits (r k : Nat) : ((s.wroteBack r k).2).commits = s.commits := still_commits (State.still_wroteBack s r k)
@[simp] theorem State.wroteBack_multi (r k : Nat) : ((s.wroteBack r k).2).multi = s.multi := still_multi (State.still_wroteBack s r k)
@[simp] theorem State.wroteBack_pair (r k : Nat) : ((s.wroteBack r k).2).pair = s.pair := by
  unfold State.wroteBack; (try dsimp only); (repeat' split) <;> first | (simp only [State.setRing_pair, State.coalesce_pair]; done) | rfl
@[simp] theorem State.wroteBack_inj (r k : Nat) : ((s.wroteBack r k).2).inj = s.inj := still_inj (State.still_wroteBack s r k)
@[simp] theorem State.wroteBack_journal (r k : Nat) : ((s.wroteBack r k).2).journal = s.journal := by
  unfold State.wroteBack; (try dsimp only); (repeat' split) <;> first | (simp only [State.setRing_journal, State.coalesce_journal]; done) | rfl
@[simp] theorem State.wroteBack_boot (r k : Nat) : ((s.wroteBack r k).2).boot = s.boot := still_boot (State.still_wroteBack s r k)
@[simp] theorem State.wroteBack_tim (r k : Nat) : ((s.wroteBack r k).2).tim = s.tim := still_tim (State.still_wroteBack s r k)
@[simp] theorem State.wroteBack_slots (r k : Nat) : ((s.wroteBack r k).2).slots = s.slots := still_slots (State.still_wroteBack s r k)
@[simp] theorem State.wroteBack_core (r k : Nat) : ((s.wroteBack r k).2).core = s.core := still_core (State.still_wroteBack s r k)
@[simp] theorem State.wroteBack_cle (r k : Nat) : ((s.wroteBack r k).2).cle = s.cle := still_cle (State.still_wroteBack s r k)
@[simp] theorem State.wroteBack_svi (r k : Nat) : ((s.wroteBack r k).2).svi = s.svi := still_svi (State.still_wroteBack s r k)
@[simp] theorem State.wroteBack_pub (r k : Nat) : ((s.wroteBack r k).2).pub = s.pub := by
  unfold State.wroteBack; (try dsimp only); (repeat' split) <;> first | (simp only [State.setRing_pub, State.coalesce_pub]; done) | rfl
@[simp] theorem State.wroteBack_mod (r k : Nat) : ((s.wroteBack r k).2).mod = s.mod := still_mod (State.still_wroteBack s r k)
@[simp] theorem State.wroteBack_adc (r k : Nat) : ((s.wroteBack r k).2).adc = s.adc := still_adc (State.still_wroteBack s r k)
@[simp] theorem State.wroteBack_per (r k : Nat) : ((s.wroteBack r k).2).per = s.per := still_per (State.still_wroteBack s r k)
@[simp] theorem State.wroteBack_ho (r k : Nat) : ((s.wroteBack r k).2).ho = s.ho := still_ho (State.still_wroteBack s r k)
@[simp] theorem State.wroteBack_rtc (r k : Nat) : ((s.wroteBack r k).2).rtc = s.rtc := still_rtc (State.still_wroteBack s r k)
@[simp] theorem State.wroteBack_swc (r k : Nat) : ((s.wroteBack r k).2).swc = s.swc := still_swc (State.still_wroteBack s r k)
@[simp] theorem State.wroteBack_macs (r k : Nat) : ((s.wroteBack r k).2).macs = s.macs := still_macs (State.still_wroteBack s r k)
@[simp] theorem State.wroteBack_mbs (r k : Nat) : ((s.wroteBack r k).2).mbs = s.mbs := still_mbs (State.still_wroteBack s r k)
@[simp] theorem State.wroteBack_sliceOp (r k : Nat) : ((s.wroteBack r k).2).sliceOp = s.sliceOp := still_sliceOp (State.still_wroteBack s r k)
@[simp] theorem State.wroteBack_keys (r k : Nat) : ((s.wroteBack r k).2).keys = s.keys := still_keys (State.still_wroteBack s r k)
@[simp] theorem State.wroteBack_aqe (r k : Nat) : ((s.wroteBack r k).2).aqe = s.aqe := still_aqe (State.still_wroteBack s r k)
@[simp] theorem State.wroteBack_nrg (r k : Nat) : ((s.wroteBack r k).2).nrg = s.nrg := still_nrg (State.still_wroteBack s r k)
@[simp] theorem State.wroteBack_lce (r k : Nat) : ((s.wroteBack r k).2).lce = s.lce := still_lce (State.still_wroteBack s r k)
@[simp] theorem State.wroteBack_rck (r k : Nat) : ((s.wroteBack r k).2).rck = s.rck := still_rck (State.still_wroteBack s r k)
@[simp] theorem State.wroteBack_bank (r k : Nat) : ((s.wroteBack r k).2).bank = s.bank := still_bank (State.still_wroteBack s r k)
@[simp] theorem State.wroteBack_dram (r k : Nat) : ((s.wroteBack r k).2).dram = s.dram := still_dram (State.still_wroteBack s r k)

/-! ### clearCur -/

theorem State.still_clearCur (r : Nat) : (s.clearCur r).still = s.still := by
  unfold State.clearCur; (try dsimp only); (repeat' split) <;> simp only [State.still_mk, State.still_setRing]
@[simp] theorem State.clearCur_pending (r : Nat) : (s.clearCur r).pending = s.pending := still_pending (State.still_clearCur s r)
@[simp] theorem State.clearCur_regs (r : Nat) : (s.clearCur r).regs = s.regs := by
  unfold State.clearCur; (try dsimp only); (repeat' split) <;> first | (simp only [State.setRing_regs]; done) | rfl
@[simp] theorem State.clearCur_hiLatch (r : Nat) : (s.clearCur r).hiLatch = s.hiLatch := still_hiLatch (State.still_clearCur s r)
@[simp] theorem State.clearCur_time (r : Nat) : (s.clearCur r).time = s.time := by
  unfold State.clearCur; (try dsimp only); (repeat' split) <;> first | (simp only [State.setRing_time]; done) | rfl
@[simp] theorem State.clearCur_timeRun (r : Nat) : (s.clearCur r).timeRun = s.timeRun := still_timeRun (State.still_clearCur s r)
@[simp] theorem State.clearCur_outbox (r : Nat) : (s.clearCur r).outbox = s.outbox := by
  unfold State.clearCur; (try dsimp only); (repeat' split) <;> first | (simp only [State.setRing_outbox]; done) | rfl
@[simp] theorem State.clearCur_freeCtr (r : Nat) : (s.clearCur r).freeCtr = s.freeCtr := by
  unfold State.clearCur; (try dsimp only); (repeat' split) <;> first | (simp only [State.setRing_freeCtr]; done) | rfl
@[simp] theorem State.clearCur_evqPosted (r : Nat) : (s.clearCur r).evqPosted = s.evqPosted := by
  unfold State.clearCur; (try dsimp only); (repeat' split) <;> first | (simp only [State.setRing_evqPosted]; done) | rfl
@[simp] theorem State.clearCur_faults (r : Nat) : (s.clearCur r).faults = s.faults := by
  unfold State.clearCur; (try dsimp only); (repeat' split) <;> first | (simp only [State.setRing_faults]; done) | rfl
@[simp] theorem State.clearCur_tg (r : Nat) : (s.clearCur r).tg = s.tg := still_tg (State.still_clearCur s r)
@[simp] theorem State.clearCur_commits (r : Nat) : (s.clearCur r).commits = s.commits := still_commits (State.still_clearCur s r)
@[simp] theorem State.clearCur_multi (r : Nat) : (s.clearCur r).multi = s.multi := still_multi (State.still_clearCur s r)
@[simp] theorem State.clearCur_pair (r : Nat) : (s.clearCur r).pair = s.pair := by
  unfold State.clearCur; (try dsimp only); (repeat' split) <;> first | (simp only [State.setRing_pair]; done) | rfl
@[simp] theorem State.clearCur_inj (r : Nat) : (s.clearCur r).inj = s.inj := still_inj (State.still_clearCur s r)
@[simp] theorem State.clearCur_journal (r : Nat) : (s.clearCur r).journal = s.journal := by
  unfold State.clearCur; (try dsimp only); (repeat' split) <;> first | (simp only [State.setRing_journal]; done) | rfl
@[simp] theorem State.clearCur_boot (r : Nat) : (s.clearCur r).boot = s.boot := still_boot (State.still_clearCur s r)
@[simp] theorem State.clearCur_tim (r : Nat) : (s.clearCur r).tim = s.tim := still_tim (State.still_clearCur s r)
@[simp] theorem State.clearCur_slots (r : Nat) : (s.clearCur r).slots = s.slots := still_slots (State.still_clearCur s r)
@[simp] theorem State.clearCur_core (r : Nat) : (s.clearCur r).core = s.core := still_core (State.still_clearCur s r)
@[simp] theorem State.clearCur_cle (r : Nat) : (s.clearCur r).cle = s.cle := still_cle (State.still_clearCur s r)
@[simp] theorem State.clearCur_svi (r : Nat) : (s.clearCur r).svi = s.svi := still_svi (State.still_clearCur s r)
@[simp] theorem State.clearCur_pub (r : Nat) : (s.clearCur r).pub = s.pub := by
  unfold State.clearCur; (try dsimp only); (repeat' split) <;> first | (simp only [State.setRing_pub]; done) | rfl
@[simp] theorem State.clearCur_mod (r : Nat) : (s.clearCur r).mod = s.mod := still_mod (State.still_clearCur s r)
@[simp] theorem State.clearCur_adc (r : Nat) : (s.clearCur r).adc = s.adc := still_adc (State.still_clearCur s r)
@[simp] theorem State.clearCur_per (r : Nat) : (s.clearCur r).per = s.per := still_per (State.still_clearCur s r)
@[simp] theorem State.clearCur_ho (r : Nat) : (s.clearCur r).ho = s.ho := still_ho (State.still_clearCur s r)
@[simp] theorem State.clearCur_rtc (r : Nat) : (s.clearCur r).rtc = s.rtc := still_rtc (State.still_clearCur s r)
@[simp] theorem State.clearCur_swc (r : Nat) : (s.clearCur r).swc = s.swc := still_swc (State.still_clearCur s r)
@[simp] theorem State.clearCur_macs (r : Nat) : (s.clearCur r).macs = s.macs := still_macs (State.still_clearCur s r)
@[simp] theorem State.clearCur_mbs (r : Nat) : (s.clearCur r).mbs = s.mbs := still_mbs (State.still_clearCur s r)
@[simp] theorem State.clearCur_sliceOp (r : Nat) : (s.clearCur r).sliceOp = s.sliceOp := still_sliceOp (State.still_clearCur s r)
@[simp] theorem State.clearCur_keys (r : Nat) : (s.clearCur r).keys = s.keys := still_keys (State.still_clearCur s r)
@[simp] theorem State.clearCur_aqe (r : Nat) : (s.clearCur r).aqe = s.aqe := still_aqe (State.still_clearCur s r)
@[simp] theorem State.clearCur_nrg (r : Nat) : (s.clearCur r).nrg = s.nrg := still_nrg (State.still_clearCur s r)
@[simp] theorem State.clearCur_lce (r : Nat) : (s.clearCur r).lce = s.lce := still_lce (State.still_clearCur s r)
@[simp] theorem State.clearCur_rck (r : Nat) : (s.clearCur r).rck = s.rck := still_rck (State.still_clearCur s r)
@[simp] theorem State.clearCur_bank (r : Nat) : (s.clearCur r).bank = s.bank := still_bank (State.still_clearCur s r)
@[simp] theorem State.clearCur_dram (r : Nat) : (s.clearCur r).dram = s.dram := still_dram (State.still_clearCur s r)

/-! ### dmaOut -/

theorem State.still_dmaOut (slice : Nat) (d : Dma) : (s.dmaOut slice d).still = s.still := by
  unfold State.dmaOut; (try dsimp only); (repeat' split) <;> simp only [State.still_mk, State.still_emit]
@[simp] theorem State.dmaOut_pending (slice : Nat) (d : Dma) : (s.dmaOut slice d).pending = s.pending := still_pending (State.still_dmaOut s slice d)
@[simp] theorem State.dmaOut_regs (slice : Nat) (d : Dma) : (s.dmaOut slice d).regs = s.regs := by
  unfold State.dmaOut; (try dsimp only); (repeat' split) <;> first | (simp only [State.emit_regs]; done) | rfl
@[simp] theorem State.dmaOut_hiLatch (slice : Nat) (d : Dma) : (s.dmaOut slice d).hiLatch = s.hiLatch := still_hiLatch (State.still_dmaOut s slice d)
@[simp] theorem State.dmaOut_time (slice : Nat) (d : Dma) : (s.dmaOut slice d).time = s.time := by
  unfold State.dmaOut; (try dsimp only); (repeat' split) <;> first | (simp only [State.emit_time]; done) | rfl
@[simp] theorem State.dmaOut_timeRun (slice : Nat) (d : Dma) : (s.dmaOut slice d).timeRun = s.timeRun := still_timeRun (State.still_dmaOut s slice d)
@[simp] theorem State.dmaOut_freeCtr (slice : Nat) (d : Dma) : (s.dmaOut slice d).freeCtr = s.freeCtr := by
  unfold State.dmaOut; (try dsimp only); (repeat' split) <;> first | (simp only [State.emit_freeCtr]; done) | rfl
@[simp] theorem State.dmaOut_evqPosted (slice : Nat) (d : Dma) : (s.dmaOut slice d).evqPosted = s.evqPosted := by
  unfold State.dmaOut; (try dsimp only); (repeat' split) <;> first | (simp only [State.emit_evqPosted]; done) | rfl
@[simp] theorem State.dmaOut_faults (slice : Nat) (d : Dma) : (s.dmaOut slice d).faults = s.faults := by
  unfold State.dmaOut; (try dsimp only); (repeat' split) <;> first | (simp only [State.emit_faults]; done) | rfl
@[simp] theorem State.dmaOut_tg (slice : Nat) (d : Dma) : (s.dmaOut slice d).tg = s.tg := still_tg (State.still_dmaOut s slice d)
@[simp] theorem State.dmaOut_commits (slice : Nat) (d : Dma) : (s.dmaOut slice d).commits = s.commits := still_commits (State.still_dmaOut s slice d)
@[simp] theorem State.dmaOut_rings (slice : Nat) (d : Dma) : (s.dmaOut slice d).rings = s.rings := by
  unfold State.dmaOut; (try dsimp only); (repeat' split) <;> first | (simp only [State.emit_rings]; done) | rfl
@[simp] theorem State.dmaOut_multi (slice : Nat) (d : Dma) : (s.dmaOut slice d).multi = s.multi := still_multi (State.still_dmaOut s slice d)
@[simp] theorem State.dmaOut_pair (slice : Nat) (d : Dma) : (s.dmaOut slice d).pair = s.pair := by
  unfold State.dmaOut; (try dsimp only); (repeat' split) <;> first | (simp only [State.emit_pair]; done) | rfl
@[simp] theorem State.dmaOut_inj (slice : Nat) (d : Dma) : (s.dmaOut slice d).inj = s.inj := still_inj (State.still_dmaOut s slice d)
@[simp] theorem State.dmaOut_journal (slice : Nat) (d : Dma) : (s.dmaOut slice d).journal = s.journal := by
  unfold State.dmaOut; (try dsimp only); (repeat' split) <;> first | (simp only [State.emit_journal]; done) | rfl
@[simp] theorem State.dmaOut_boot (slice : Nat) (d : Dma) : (s.dmaOut slice d).boot = s.boot := still_boot (State.still_dmaOut s slice d)
@[simp] theorem State.dmaOut_tim (slice : Nat) (d : Dma) : (s.dmaOut slice d).tim = s.tim := still_tim (State.still_dmaOut s slice d)
@[simp] theorem State.dmaOut_slots (slice : Nat) (d : Dma) : (s.dmaOut slice d).slots = s.slots := still_slots (State.still_dmaOut s slice d)
@[simp] theorem State.dmaOut_core (slice : Nat) (d : Dma) : (s.dmaOut slice d).core = s.core := still_core (State.still_dmaOut s slice d)
@[simp] theorem State.dmaOut_cle (slice : Nat) (d : Dma) : (s.dmaOut slice d).cle = s.cle := still_cle (State.still_dmaOut s slice d)
@[simp] theorem State.dmaOut_svi (slice : Nat) (d : Dma) : (s.dmaOut slice d).svi = s.svi := still_svi (State.still_dmaOut s slice d)
@[simp] theorem State.dmaOut_pub (slice : Nat) (d : Dma) : (s.dmaOut slice d).pub = s.pub := by
  unfold State.dmaOut; (try dsimp only); (repeat' split) <;> first | (simp only [State.emit_pub]; done) | rfl
@[simp] theorem State.dmaOut_mod (slice : Nat) (d : Dma) : (s.dmaOut slice d).mod = s.mod := still_mod (State.still_dmaOut s slice d)
@[simp] theorem State.dmaOut_adc (slice : Nat) (d : Dma) : (s.dmaOut slice d).adc = s.adc := still_adc (State.still_dmaOut s slice d)
@[simp] theorem State.dmaOut_per (slice : Nat) (d : Dma) : (s.dmaOut slice d).per = s.per := still_per (State.still_dmaOut s slice d)
@[simp] theorem State.dmaOut_ho (slice : Nat) (d : Dma) : (s.dmaOut slice d).ho = s.ho := still_ho (State.still_dmaOut s slice d)
@[simp] theorem State.dmaOut_rtc (slice : Nat) (d : Dma) : (s.dmaOut slice d).rtc = s.rtc := still_rtc (State.still_dmaOut s slice d)
@[simp] theorem State.dmaOut_swc (slice : Nat) (d : Dma) : (s.dmaOut slice d).swc = s.swc := still_swc (State.still_dmaOut s slice d)
@[simp] theorem State.dmaOut_macs (slice : Nat) (d : Dma) : (s.dmaOut slice d).macs = s.macs := still_macs (State.still_dmaOut s slice d)
@[simp] theorem State.dmaOut_mbs (slice : Nat) (d : Dma) : (s.dmaOut slice d).mbs = s.mbs := still_mbs (State.still_dmaOut s slice d)
@[simp] theorem State.dmaOut_sliceOp (slice : Nat) (d : Dma) : (s.dmaOut slice d).sliceOp = s.sliceOp := still_sliceOp (State.still_dmaOut s slice d)
@[simp] theorem State.dmaOut_keys (slice : Nat) (d : Dma) : (s.dmaOut slice d).keys = s.keys := still_keys (State.still_dmaOut s slice d)
@[simp] theorem State.dmaOut_aqe (slice : Nat) (d : Dma) : (s.dmaOut slice d).aqe = s.aqe := still_aqe (State.still_dmaOut s slice d)
@[simp] theorem State.dmaOut_nrg (slice : Nat) (d : Dma) : (s.dmaOut slice d).nrg = s.nrg := still_nrg (State.still_dmaOut s slice d)
@[simp] theorem State.dmaOut_lce (slice : Nat) (d : Dma) : (s.dmaOut slice d).lce = s.lce := still_lce (State.still_dmaOut s slice d)
@[simp] theorem State.dmaOut_rck (slice : Nat) (d : Dma) : (s.dmaOut slice d).rck = s.rck := still_rck (State.still_dmaOut s slice d)
@[simp] theorem State.dmaOut_bank (slice : Nat) (d : Dma) : (s.dmaOut slice d).bank = s.bank := still_bank (State.still_dmaOut s slice d)
@[simp] theorem State.dmaOut_dram (slice : Nat) (d : Dma) : (s.dmaOut slice d).dram = s.dram := still_dram (State.still_dmaOut s slice d)

/-! ### answer -/

theorem State.still_answer (q : Req) (d : Dma) : (s.answer q d).still = s.still := by
  unfold State.answer; (try dsimp only); (repeat' split) <;> simp only [State.still_mk, State.still_emit, State.still_dmaOut]
@[simp] theorem State.answer_pending (q : Req) (d : Dma) : (s.answer q d).pending = s.pending := still_pending (State.still_answer s q d)
@[simp] theorem State.answer_regs (q : Req) (d : Dma) : (s.answer q d).regs = s.regs := by
  unfold State.answer; (try dsimp only); (repeat' split) <;> first | (simp only [State.emit_regs, State.dmaOut_regs]; done) | rfl
@[simp] theorem State.answer_hiLatch (q : Req) (d : Dma) : (s.answer q d).hiLatch = s.hiLatch := still_hiLatch (State.still_answer s q d)
@[simp] theorem State.answer_time (q : Req) (d : Dma) : (s.answer q d).time = s.time := by
  unfold State.answer; (try dsimp only); (repeat' split) <;> first | (simp only [State.emit_time, State.dmaOut_time]; done) | rfl
@[simp] theorem State.answer_timeRun (q : Req) (d : Dma) : (s.answer q d).timeRun = s.timeRun := still_timeRun (State.still_answer s q d)
@[simp] theorem State.answer_freeCtr (q : Req) (d : Dma) : (s.answer q d).freeCtr = s.freeCtr := by
  unfold State.answer; (try dsimp only); (repeat' split) <;> first | (simp only [State.emit_freeCtr, State.dmaOut_freeCtr]; done) | rfl
@[simp] theorem State.answer_evqPosted (q : Req) (d : Dma) : (s.answer q d).evqPosted = s.evqPosted := by
  unfold State.answer; (try dsimp only); (repeat' split) <;> first | (simp only [State.emit_evqPosted, State.dmaOut_evqPosted]; done) | rfl
@[simp] theorem State.answer_faults (q : Req) (d : Dma) : (s.answer q d).faults = s.faults := by
  unfold State.answer; (try dsimp only); (repeat' split) <;> first | (simp only [State.emit_faults, State.dmaOut_faults]; done) | rfl
@[simp] theorem State.answer_tg (q : Req) (d : Dma) : (s.answer q d).tg = s.tg := still_tg (State.still_answer s q d)
@[simp] theorem State.answer_commits (q : Req) (d : Dma) : (s.answer q d).commits = s.commits := still_commits (State.still_answer s q d)
@[simp] theorem State.answer_rings (q : Req) (d : Dma) : (s.answer q d).rings = s.rings := by
  unfold State.answer; (try dsimp only); (repeat' split) <;> first | (simp only [State.emit_rings, State.dmaOut_rings]; done) | rfl
@[simp] theorem State.answer_multi (q : Req) (d : Dma) : (s.answer q d).multi = s.multi := still_multi (State.still_answer s q d)
@[simp] theorem State.answer_pair (q : Req) (d : Dma) : (s.answer q d).pair = s.pair := by
  unfold State.answer; (try dsimp only); (repeat' split) <;> first | (simp only [State.emit_pair, State.dmaOut_pair]; done) | rfl
@[simp] theorem State.answer_inj (q : Req) (d : Dma) : (s.answer q d).inj = s.inj := still_inj (State.still_answer s q d)
@[simp] theorem State.answer_journal (q : Req) (d : Dma) : (s.answer q d).journal = s.journal := by
  unfold State.answer; (try dsimp only); (repeat' split) <;> first | (simp only [State.emit_journal, State.dmaOut_journal]; done) | rfl
@[simp] theorem State.answer_boot (q : Req) (d : Dma) : (s.answer q d).boot = s.boot := still_boot (State.still_answer s q d)
@[simp] theorem State.answer_tim (q : Req) (d : Dma) : (s.answer q d).tim = s.tim := still_tim (State.still_answer s q d)
@[simp] theorem State.answer_slots (q : Req) (d : Dma) : (s.answer q d).slots = s.slots := still_slots (State.still_answer s q d)
@[simp] theorem State.answer_core (q : Req) (d : Dma) : (s.answer q d).core = s.core := still_core (State.still_answer s q d)
@[simp] theorem State.answer_cle (q : Req) (d : Dma) : (s.answer q d).cle = s.cle := still_cle (State.still_answer s q d)
@[simp] theorem State.answer_svi (q : Req) (d : Dma) : (s.answer q d).svi = s.svi := still_svi (State.still_answer s q d)
@[simp] theorem State.answer_pub (q : Req) (d : Dma) : (s.answer q d).pub = s.pub := by
  unfold State.answer; (try dsimp only); (repeat' split) <;> first | (simp only [State.emit_pub, State.dmaOut_pub]; done) | rfl
@[simp] theorem State.answer_mod (q : Req) (d : Dma) : (s.answer q d).mod = s.mod := still_mod (State.still_answer s q d)
@[simp] theorem State.answer_adc (q : Req) (d : Dma) : (s.answer q d).adc = s.adc := still_adc (State.still_answer s q d)
@[simp] theorem State.answer_per (q : Req) (d : Dma) : (s.answer q d).per = s.per := still_per (State.still_answer s q d)
@[simp] theorem State.answer_ho (q : Req) (d : Dma) : (s.answer q d).ho = s.ho := still_ho (State.still_answer s q d)
@[simp] theorem State.answer_rtc (q : Req) (d : Dma) : (s.answer q d).rtc = s.rtc := still_rtc (State.still_answer s q d)
@[simp] theorem State.answer_swc (q : Req) (d : Dma) : (s.answer q d).swc = s.swc := still_swc (State.still_answer s q d)
@[simp] theorem State.answer_macs (q : Req) (d : Dma) : (s.answer q d).macs = s.macs := still_macs (State.still_answer s q d)
@[simp] theorem State.answer_mbs (q : Req) (d : Dma) : (s.answer q d).mbs = s.mbs := still_mbs (State.still_answer s q d)
@[simp] theorem State.answer_sliceOp (q : Req) (d : Dma) : (s.answer q d).sliceOp = s.sliceOp := still_sliceOp (State.still_answer s q d)
@[simp] theorem State.answer_keys (q : Req) (d : Dma) : (s.answer q d).keys = s.keys := still_keys (State.still_answer s q d)
@[simp] theorem State.answer_aqe (q : Req) (d : Dma) : (s.answer q d).aqe = s.aqe := still_aqe (State.still_answer s q d)
@[simp] theorem State.answer_nrg (q : Req) (d : Dma) : (s.answer q d).nrg = s.nrg := still_nrg (State.still_answer s q d)
@[simp] theorem State.answer_lce (q : Req) (d : Dma) : (s.answer q d).lce = s.lce := still_lce (State.still_answer s q d)
@[simp] theorem State.answer_rck (q : Req) (d : Dma) : (s.answer q d).rck = s.rck := still_rck (State.still_answer s q d)
@[simp] theorem State.answer_bank (q : Req) (d : Dma) : (s.answer q d).bank = s.bank := still_bank (State.still_answer s q d)
@[simp] theorem State.answer_dram (q : Req) (d : Dma) : (s.answer q d).dram = s.dram := still_dram (State.still_answer s q d)

/-! ### complete -/

theorem State.still_complete (q : Req) (c : Status) (result rflags : Nat) : (s.complete q c result rflags).still = s.still := by
  unfold State.complete; (try dsimp only); (repeat' split) <;> simp only [State.still_mk, State.still_emit, State.still_dmaOut, State.still_put, State.still_wroteBack, State.still_clearCur]
@[simp] theorem State.complete_pending (q : Req) (c : Status) (result rflags : Nat) : (s.complete q c result rflags).pending = s.pending := still_pending (State.still_complete s q c result rflags)
@[simp] theorem State.complete_hiLatch (q : Req) (c : Status) (result rflags : Nat) : (s.complete q c result rflags).hiLatch = s.hiLatch := still_hiLatch (State.still_complete s q c result rflags)
@[simp] theorem State.complete_time (q : Req) (c : Status) (result rflags : Nat) : (s.complete q c result rflags).time = s.time := by
  unfold State.complete; (try dsimp only); (repeat' split) <;> first | (simp only [State.emit_time, State.dmaOut_time, State.put_time, State.wroteBack_time, State.clearCur_time]; done) | rfl
@[simp] theorem State.complete_timeRun (q : Req) (c : Status) (result rflags : Nat) : (s.complete q c result rflags).timeRun = s.timeRun := still_timeRun (State.still_complete s q c result rflags)
@[simp] theorem State.complete_freeCtr (q : Req) (c : Status) (result rflags : Nat) : (s.complete q c result rflags).freeCtr = s.freeCtr := by
  unfold State.complete; (try dsimp only); (repeat' split) <;> first | (simp only [State.emit_freeCtr, State.dmaOut_freeCtr, State.put_freeCtr, State.wroteBack_freeCtr, State.clearCur_freeCtr]; done) | rfl
@[simp] theorem State.complete_evqPosted (q : Req) (c : Status) (result rflags : Nat) : (s.complete q c result rflags).evqPosted = s.evqPosted := by
  unfold State.complete; (try dsimp only); (repeat' split) <;> first | (simp only [State.emit_evqPosted, State.dmaOut_evqPosted, State.put_evqPosted, State.wroteBack_evqPosted, State.clearCur_evqPosted]; done) | rfl
@[simp] theorem State.complete_faults (q : Req) (c : Status) (result rflags : Nat) : (s.complete q c result rflags).faults = s.faults := by
  unfold State.complete; (try dsimp only); (repeat' split) <;> first | (simp only [State.emit_faults, State.dmaOut_faults, State.put_faults, State.wroteBack_faults, State.clearCur_faults]; done) | rfl
@[simp] theorem State.complete_tg (q : Req) (c : Status) (result rflags : Nat) : (s.complete q c result rflags).tg = s.tg := still_tg (State.still_complete s q c result rflags)
@[simp] theorem State.complete_commits (q : Req) (c : Status) (result rflags : Nat) : (s.complete q c result rflags).commits = s.commits := still_commits (State.still_complete s q c result rflags)
@[simp] theorem State.complete_multi (q : Req) (c : Status) (result rflags : Nat) : (s.complete q c result rflags).multi = s.multi := still_multi (State.still_complete s q c result rflags)
@[simp] theorem State.complete_pair (q : Req) (c : Status) (result rflags : Nat) : (s.complete q c result rflags).pair = s.pair := by
  unfold State.complete; (try dsimp only); (repeat' split) <;> first | (simp only [State.emit_pair, State.dmaOut_pair, State.put_pair, State.wroteBack_pair, State.clearCur_pair]; done) | rfl
@[simp] theorem State.complete_inj (q : Req) (c : Status) (result rflags : Nat) : (s.complete q c result rflags).inj = s.inj := still_inj (State.still_complete s q c result rflags)
@[simp] theorem State.complete_journal (q : Req) (c : Status) (result rflags : Nat) : (s.complete q c result rflags).journal = s.journal := by
  unfold State.complete; (try dsimp only); (repeat' split) <;> first | (simp only [State.emit_journal, State.dmaOut_journal, State.put_journal, State.wroteBack_journal, State.clearCur_journal]; done) | rfl
@[simp] theorem State.complete_boot (q : Req) (c : Status) (result rflags : Nat) : (s.complete q c result rflags).boot = s.boot := still_boot (State.still_complete s q c result rflags)
@[simp] theorem State.complete_tim (q : Req) (c : Status) (result rflags : Nat) : (s.complete q c result rflags).tim = s.tim := still_tim (State.still_complete s q c result rflags)
@[simp] theorem State.complete_slots (q : Req) (c : Status) (result rflags : Nat) : (s.complete q c result rflags).slots = s.slots := still_slots (State.still_complete s q c result rflags)
@[simp] theorem State.complete_core (q : Req) (c : Status) (result rflags : Nat) : (s.complete q c result rflags).core = s.core := still_core (State.still_complete s q c result rflags)
@[simp] theorem State.complete_cle (q : Req) (c : Status) (result rflags : Nat) : (s.complete q c result rflags).cle = s.cle := still_cle (State.still_complete s q c result rflags)
@[simp] theorem State.complete_svi (q : Req) (c : Status) (result rflags : Nat) : (s.complete q c result rflags).svi = s.svi := still_svi (State.still_complete s q c result rflags)
@[simp] theorem State.complete_pub (q : Req) (c : Status) (result rflags : Nat) : (s.complete q c result rflags).pub = s.pub := by
  unfold State.complete; (try dsimp only); (repeat' split) <;> first | (simp only [State.emit_pub, State.dmaOut_pub, State.put_pub, State.wroteBack_pub, State.clearCur_pub]; done) | rfl
@[simp] theorem State.complete_mod (q : Req) (c : Status) (result rflags : Nat) : (s.complete q c result rflags).mod = s.mod := still_mod (State.still_complete s q c result rflags)
@[simp] theorem State.complete_adc (q : Req) (c : Status) (result rflags : Nat) : (s.complete q c result rflags).adc = s.adc := still_adc (State.still_complete s q c result rflags)
@[simp] theorem State.complete_per (q : Req) (c : Status) (result rflags : Nat) : (s.complete q c result rflags).per = s.per := still_per (State.still_complete s q c result rflags)
@[simp] theorem State.complete_ho (q : Req) (c : Status) (result rflags : Nat) : (s.complete q c result rflags).ho = s.ho := still_ho (State.still_complete s q c result rflags)
@[simp] theorem State.complete_rtc (q : Req) (c : Status) (result rflags : Nat) : (s.complete q c result rflags).rtc = s.rtc := still_rtc (State.still_complete s q c result rflags)
@[simp] theorem State.complete_swc (q : Req) (c : Status) (result rflags : Nat) : (s.complete q c result rflags).swc = s.swc := still_swc (State.still_complete s q c result rflags)
@[simp] theorem State.complete_macs (q : Req) (c : Status) (result rflags : Nat) : (s.complete q c result rflags).macs = s.macs := still_macs (State.still_complete s q c result rflags)
@[simp] theorem State.complete_mbs (q : Req) (c : Status) (result rflags : Nat) : (s.complete q c result rflags).mbs = s.mbs := still_mbs (State.still_complete s q c result rflags)
@[simp] theorem State.complete_sliceOp (q : Req) (c : Status) (result rflags : Nat) : (s.complete q c result rflags).sliceOp = s.sliceOp := still_sliceOp (State.still_complete s q c result rflags)
@[simp] theorem State.complete_keys (q : Req) (c : Status) (result rflags : Nat) : (s.complete q c result rflags).keys = s.keys := still_keys (State.still_complete s q c result rflags)
@[simp] theorem State.complete_aqe (q : Req) (c : Status) (result rflags : Nat) : (s.complete q c result rflags).aqe = s.aqe := still_aqe (State.still_complete s q c result rflags)
@[simp] theorem State.complete_nrg (q : Req) (c : Status) (result rflags : Nat) : (s.complete q c result rflags).nrg = s.nrg := still_nrg (State.still_complete s q c result rflags)
@[simp] theorem State.complete_lce (q : Req) (c : Status) (result rflags : Nat) : (s.complete q c result rflags).lce = s.lce := still_lce (State.still_complete s q c result rflags)
@[simp] theorem State.complete_rck (q : Req) (c : Status) (result rflags : Nat) : (s.complete q c result rflags).rck = s.rck := still_rck (State.still_complete s q c result rflags)
@[simp] theorem State.complete_bank (q : Req) (c : Status) (result rflags : Nat) : (s.complete q c result rflags).bank = s.bank := still_bank (State.still_complete s q c result rflags)
@[simp] theorem State.complete_dram (q : Req) (c : Status) (result rflags : Nat) : (s.complete q c result rflags).dram = s.dram := still_dram (State.still_complete s q c result rflags)

/-! ### take -/

theorem State.still_take (f : Field) (n : Nat) : (s.take f n).still = s.still := by
  unfold State.take; (try dsimp only); (repeat' split) <;> simp only [State.still_mk, State.still_put]
@[simp] theorem State.take_pending (f : Field) (n : Nat) : (s.take f n).pending = s.pending := still_pending (State.still_take s f n)
@[simp] theorem State.take_hiLatch (f : Field) (n : Nat) : (s.take f n).hiLatch = s.hiLatch := still_hiLatch (State.still_take s f n)
@[simp] theorem State.take_time (f : Field) (n : Nat) : (s.take f n).time = s.time := by
  unfold State.take; (try dsimp only); (repeat' split) <;> first | (simp only [State.put_time]; done) | rfl
@[simp] theorem State.take_timeRun (f : Field) (n : Nat) : (s.take f n).timeRun = s.timeRun := still_timeRun (State.still_take s f n)
@[simp] theorem State.take_outbox (f : Field) (n : Nat) : (s.take f n).outbox = s.outbox := by
  unfold State.take; (try dsimp only); (repeat' split) <;> first | (simp only [State.put_outbox]; done) | rfl
@[simp] theorem State.take_freeCtr (f : Field) (n : Nat) : (s.take f n).freeCtr = s.freeCtr := by
  unfold State.take; (try dsimp only); (repeat' split) <;> first | (simp only [State.put_freeCtr]; done) | rfl
@[simp] theorem State.take_evqPosted (f : Field) (n : Nat) : (s.take f n).evqPosted = s.evqPosted := by
  unfold State.take; (try dsimp only); (repeat' split) <;> first | (simp only [State.put_evqPosted]; done) | rfl
@[simp] theorem State.take_faults (f : Field) (n : Nat) : (s.take f n).faults = s.faults := by
  unfold State.take; (try dsimp only); (repeat' split) <;> first | (simp only [State.put_faults]; done) | rfl
@[simp] theorem State.take_tg (f : Field) (n : Nat) : (s.take f n).tg = s.tg := still_tg (State.still_take s f n)
@[simp] theorem State.take_commits (f : Field) (n : Nat) : (s.take f n).commits = s.commits := still_commits (State.still_take s f n)
@[simp] theorem State.take_rings (f : Field) (n : Nat) : (s.take f n).rings = s.rings := by
  unfold State.take; (try dsimp only); (repeat' split) <;> first | (simp only [State.put_rings]; done) | rfl
@[simp] theorem State.take_multi (f : Field) (n : Nat) : (s.take f n).multi = s.multi := still_multi (State.still_take s f n)
@[simp] theorem State.take_pair (f : Field) (n : Nat) : (s.take f n).pair = s.pair := by
  unfold State.take; (try dsimp only); (repeat' split) <;> first | (simp only [State.put_pair]; done) | rfl
@[simp] theorem State.take_inj (f : Field) (n : Nat) : (s.take f n).inj = s.inj := still_inj (State.still_take s f n)
@[simp] theorem State.take_journal (f : Field) (n : Nat) : (s.take f n).journal = s.journal := by
  unfold State.take; (try dsimp only); (repeat' split) <;> first | (simp only [State.put_journal]; done) | rfl
@[simp] theorem State.take_boot (f : Field) (n : Nat) : (s.take f n).boot = s.boot := still_boot (State.still_take s f n)
@[simp] theorem State.take_tim (f : Field) (n : Nat) : (s.take f n).tim = s.tim := still_tim (State.still_take s f n)
@[simp] theorem State.take_slots (f : Field) (n : Nat) : (s.take f n).slots = s.slots := still_slots (State.still_take s f n)
@[simp] theorem State.take_core (f : Field) (n : Nat) : (s.take f n).core = s.core := still_core (State.still_take s f n)
@[simp] theorem State.take_cle (f : Field) (n : Nat) : (s.take f n).cle = s.cle := still_cle (State.still_take s f n)
@[simp] theorem State.take_svi (f : Field) (n : Nat) : (s.take f n).svi = s.svi := still_svi (State.still_take s f n)
@[simp] theorem State.take_pub (f : Field) (n : Nat) : (s.take f n).pub = s.pub := by
  unfold State.take; (try dsimp only); (repeat' split) <;> first | (simp only [State.put_pub]; done) | rfl
@[simp] theorem State.take_mod (f : Field) (n : Nat) : (s.take f n).mod = s.mod := still_mod (State.still_take s f n)
@[simp] theorem State.take_adc (f : Field) (n : Nat) : (s.take f n).adc = s.adc := still_adc (State.still_take s f n)
@[simp] theorem State.take_per (f : Field) (n : Nat) : (s.take f n).per = s.per := still_per (State.still_take s f n)
@[simp] theorem State.take_ho (f : Field) (n : Nat) : (s.take f n).ho = s.ho := still_ho (State.still_take s f n)
@[simp] theorem State.take_rtc (f : Field) (n : Nat) : (s.take f n).rtc = s.rtc := still_rtc (State.still_take s f n)
@[simp] theorem State.take_swc (f : Field) (n : Nat) : (s.take f n).swc = s.swc := still_swc (State.still_take s f n)
@[simp] theorem State.take_macs (f : Field) (n : Nat) : (s.take f n).macs = s.macs := still_macs (State.still_take s f n)
@[simp] theorem State.take_mbs (f : Field) (n : Nat) : (s.take f n).mbs = s.mbs := still_mbs (State.still_take s f n)
@[simp] theorem State.take_sliceOp (f : Field) (n : Nat) : (s.take f n).sliceOp = s.sliceOp := still_sliceOp (State.still_take s f n)
@[simp] theorem State.take_keys (f : Field) (n : Nat) : (s.take f n).keys = s.keys := still_keys (State.still_take s f n)
@[simp] theorem State.take_aqe (f : Field) (n : Nat) : (s.take f n).aqe = s.aqe := still_aqe (State.still_take s f n)
@[simp] theorem State.take_nrg (f : Field) (n : Nat) : (s.take f n).nrg = s.nrg := still_nrg (State.still_take s f n)
@[simp] theorem State.take_lce (f : Field) (n : Nat) : (s.take f n).lce = s.lce := still_lce (State.still_take s f n)
@[simp] theorem State.take_rck (f : Field) (n : Nat) : (s.take f n).rck = s.rck := still_rck (State.still_take s f n)
@[simp] theorem State.take_bank (f : Field) (n : Nat) : (s.take f n).bank = s.bank := still_bank (State.still_take s f n)
@[simp] theorem State.take_dram (f : Field) (n : Nat) : (s.take f n).dram = s.dram := still_dram (State.still_take s f n)

/-! ### give -/

theorem State.still_give (f : Field) (n : Nat) : (s.give f n).still = s.still := by
  unfold State.give; (try dsimp only); (repeat' split) <;> simp only [State.still_mk, State.still_put]
@[simp] theorem State.give_pending (f : Field) (n : Nat) : (s.give f n).pending = s.pending := still_pending (State.still_give s f n)
@[simp] theorem State.give_hiLatch (f : Field) (n : Nat) : (s.give f n).hiLatch = s.hiLatch := still_hiLatch (State.still_give s f n)
@[simp] theorem State.give_time (f : Field) (n : Nat) : (s.give f n).time = s.time := by
  unfold State.give; (try dsimp only); (repeat' split) <;> first | (simp only [State.put_time]; done) | rfl
@[simp] theorem State.give_timeRun (f : Field) (n : Nat) : (s.give f n).timeRun = s.timeRun := still_timeRun (State.still_give s f n)
@[simp] theorem State.give_outbox (f : Field) (n : Nat) : (s.give f n).outbox = s.outbox := by
  unfold State.give; (try dsimp only); (repeat' split) <;> first | (simp only [State.put_outbox]; done) | rfl
@[simp] theorem State.give_freeCtr (f : Field) (n : Nat) : (s.give f n).freeCtr = s.freeCtr := by
  unfold State.give; (try dsimp only); (repeat' split) <;> first | (simp only [State.put_freeCtr]; done) | rfl
@[simp] theorem State.give_evqPosted (f : Field) (n : Nat) : (s.give f n).evqPosted = s.evqPosted := by
  unfold State.give; (try dsimp only); (repeat' split) <;> first | (simp only [State.put_evqPosted]; done) | rfl
@[simp] theorem State.give_faults (f : Field) (n : Nat) : (s.give f n).faults = s.faults := by
  unfold State.give; (try dsimp only); (repeat' split) <;> first | (simp only [State.put_faults]; done) | rfl
@[simp] theorem State.give_tg (f : Field) (n : Nat) : (s.give f n).tg = s.tg := still_tg (State.still_give s f n)
@[simp] theorem State.give_commits (f : Field) (n : Nat) : (s.give f n).commits = s.commits := still_commits (State.still_give s f n)
@[simp] theorem State.give_rings (f : Field) (n : Nat) : (s.give f n).rings = s.rings := by
  unfold State.give; (try dsimp only); (repeat' split) <;> first | (simp only [State.put_rings]; done) | rfl
@[simp] theorem State.give_multi (f : Field) (n : Nat) : (s.give f n).multi = s.multi := still_multi (State.still_give s f n)
@[simp] theorem State.give_pair (f : Field) (n : Nat) : (s.give f n).pair = s.pair := by
  unfold State.give; (try dsimp only); (repeat' split) <;> first | (simp only [State.put_pair]; done) | rfl
@[simp] theorem State.give_inj (f : Field) (n : Nat) : (s.give f n).inj = s.inj := still_inj (State.still_give s f n)
@[simp] theorem State.give_journal (f : Field) (n : Nat) : (s.give f n).journal = s.journal := by
  unfold State.give; (try dsimp only); (repeat' split) <;> first | (simp only [State.put_journal]; done) | rfl
@[simp] theorem State.give_boot (f : Field) (n : Nat) : (s.give f n).boot = s.boot := still_boot (State.still_give s f n)
@[simp] theorem State.give_tim (f : Field) (n : Nat) : (s.give f n).tim = s.tim := still_tim (State.still_give s f n)
@[simp] theorem State.give_slots (f : Field) (n : Nat) : (s.give f n).slots = s.slots := still_slots (State.still_give s f n)
@[simp] theorem State.give_core (f : Field) (n : Nat) : (s.give f n).core = s.core := still_core (State.still_give s f n)
@[simp] theorem State.give_cle (f : Field) (n : Nat) : (s.give f n).cle = s.cle := still_cle (State.still_give s f n)
@[simp] theorem State.give_svi (f : Field) (n : Nat) : (s.give f n).svi = s.svi := still_svi (State.still_give s f n)
@[simp] theorem State.give_pub (f : Field) (n : Nat) : (s.give f n).pub = s.pub := by
  unfold State.give; (try dsimp only); (repeat' split) <;> first | (simp only [State.put_pub]; done) | rfl
@[simp] theorem State.give_mod (f : Field) (n : Nat) : (s.give f n).mod = s.mod := still_mod (State.still_give s f n)
@[simp] theorem State.give_adc (f : Field) (n : Nat) : (s.give f n).adc = s.adc := still_adc (State.still_give s f n)
@[simp] theorem State.give_per (f : Field) (n : Nat) : (s.give f n).per = s.per := still_per (State.still_give s f n)
@[simp] theorem State.give_ho (f : Field) (n : Nat) : (s.give f n).ho = s.ho := still_ho (State.still_give s f n)
@[simp] theorem State.give_rtc (f : Field) (n : Nat) : (s.give f n).rtc = s.rtc := still_rtc (State.still_give s f n)
@[simp] theorem State.give_swc (f : Field) (n : Nat) : (s.give f n).swc = s.swc := still_swc (State.still_give s f n)
@[simp] theorem State.give_macs (f : Field) (n : Nat) : (s.give f n).macs = s.macs := still_macs (State.still_give s f n)
@[simp] theorem State.give_mbs (f : Field) (n : Nat) : (s.give f n).mbs = s.mbs := still_mbs (State.still_give s f n)
@[simp] theorem State.give_sliceOp (f : Field) (n : Nat) : (s.give f n).sliceOp = s.sliceOp := still_sliceOp (State.still_give s f n)
@[simp] theorem State.give_keys (f : Field) (n : Nat) : (s.give f n).keys = s.keys := still_keys (State.still_give s f n)
@[simp] theorem State.give_aqe (f : Field) (n : Nat) : (s.give f n).aqe = s.aqe := still_aqe (State.still_give s f n)
@[simp] theorem State.give_nrg (f : Field) (n : Nat) : (s.give f n).nrg = s.nrg := still_nrg (State.still_give s f n)
@[simp] theorem State.give_lce (f : Field) (n : Nat) : (s.give f n).lce = s.lce := still_lce (State.still_give s f n)
@[simp] theorem State.give_rck (f : Field) (n : Nat) : (s.give f n).rck = s.rck := still_rck (State.still_give s f n)
@[simp] theorem State.give_bank (f : Field) (n : Nat) : (s.give f n).bank = s.bank := still_bank (State.still_give s f n)
@[simp] theorem State.give_dram (f : Field) (n : Nat) : (s.give f n).dram = s.dram := still_dram (State.still_give s f n)

/-! ### keyJournal -/

theorem State.still_keyJournal (type cause slot gen slice kid : Nat) : (s.keyJournal type cause slot gen slice kid).still = s.still := (State.still_queueWrite _ _).trans (State.still_put s _ _)
@[simp] theorem State.keyJournal_pending (type cause slot gen slice kid : Nat) : (s.keyJournal type cause slot gen slice kid).pending = s.pending := still_pending (State.still_keyJournal s type cause slot gen slice kid)
@[simp] theorem State.keyJournal_hiLatch (type cause slot gen slice kid : Nat) : (s.keyJournal type cause slot gen slice kid).hiLatch = s.hiLatch := still_hiLatch (State.still_keyJournal s type cause slot gen slice kid)
@[simp] theorem State.keyJournal_time (type cause slot gen slice kid : Nat) : (s.keyJournal type cause slot gen slice kid).time = s.time := (State.queueWrite_time _ _).trans (State.put_time s _ _)
@[simp] theorem State.keyJournal_timeRun (type cause slot gen slice kid : Nat) : (s.keyJournal type cause slot gen slice kid).timeRun = s.timeRun := still_timeRun (State.still_keyJournal s type cause slot gen slice kid)
@[simp] theorem State.keyJournal_outbox (type cause slot gen slice kid : Nat) : (s.keyJournal type cause slot gen slice kid).outbox = s.outbox := (State.queueWrite_outbox _ _).trans (State.put_outbox s _ _)
@[simp] theorem State.keyJournal_freeCtr (type cause slot gen slice kid : Nat) : (s.keyJournal type cause slot gen slice kid).freeCtr = s.freeCtr := (State.queueWrite_freeCtr _ _).trans (State.put_freeCtr s _ _)
@[simp] theorem State.keyJournal_evqPosted (type cause slot gen slice kid : Nat) : (s.keyJournal type cause slot gen slice kid).evqPosted = s.evqPosted := (State.queueWrite_evqPosted _ _).trans (State.put_evqPosted s _ _)
@[simp] theorem State.keyJournal_faults (type cause slot gen slice kid : Nat) : (s.keyJournal type cause slot gen slice kid).faults = s.faults := (State.queueWrite_faults _ _).trans (State.put_faults s _ _)
@[simp] theorem State.keyJournal_tg (type cause slot gen slice kid : Nat) : (s.keyJournal type cause slot gen slice kid).tg = s.tg := still_tg (State.still_keyJournal s type cause slot gen slice kid)
@[simp] theorem State.keyJournal_commits (type cause slot gen slice kid : Nat) : (s.keyJournal type cause slot gen slice kid).commits = s.commits := still_commits (State.still_keyJournal s type cause slot gen slice kid)
@[simp] theorem State.keyJournal_rings (type cause slot gen slice kid : Nat) : (s.keyJournal type cause slot gen slice kid).rings = s.rings := (State.queueWrite_rings _ _).trans (State.put_rings s _ _)
@[simp] theorem State.keyJournal_multi (type cause slot gen slice kid : Nat) : (s.keyJournal type cause slot gen slice kid).multi = s.multi := still_multi (State.still_keyJournal s type cause slot gen slice kid)
@[simp] theorem State.keyJournal_pair (type cause slot gen slice kid : Nat) : (s.keyJournal type cause slot gen slice kid).pair = s.pair := (State.queueWrite_pair _ _).trans (State.put_pair s _ _)
@[simp] theorem State.keyJournal_inj (type cause slot gen slice kid : Nat) : (s.keyJournal type cause slot gen slice kid).inj = s.inj := still_inj (State.still_keyJournal s type cause slot gen slice kid)
@[simp] theorem State.keyJournal_boot (type cause slot gen slice kid : Nat) : (s.keyJournal type cause slot gen slice kid).boot = s.boot := still_boot (State.still_keyJournal s type cause slot gen slice kid)
@[simp] theorem State.keyJournal_tim (type cause slot gen slice kid : Nat) : (s.keyJournal type cause slot gen slice kid).tim = s.tim := still_tim (State.still_keyJournal s type cause slot gen slice kid)
@[simp] theorem State.keyJournal_slots (type cause slot gen slice kid : Nat) : (s.keyJournal type cause slot gen slice kid).slots = s.slots := still_slots (State.still_keyJournal s type cause slot gen slice kid)
@[simp] theorem State.keyJournal_core (type cause slot gen slice kid : Nat) : (s.keyJournal type cause slot gen slice kid).core = s.core := still_core (State.still_keyJournal s type cause slot gen slice kid)
@[simp] theorem State.keyJournal_cle (type cause slot gen slice kid : Nat) : (s.keyJournal type cause slot gen slice kid).cle = s.cle := still_cle (State.still_keyJournal s type cause slot gen slice kid)
@[simp] theorem State.keyJournal_svi (type cause slot gen slice kid : Nat) : (s.keyJournal type cause slot gen slice kid).svi = s.svi := still_svi (State.still_keyJournal s type cause slot gen slice kid)
@[simp] theorem State.keyJournal_pub (type cause slot gen slice kid : Nat) : (s.keyJournal type cause slot gen slice kid).pub = s.pub := (State.queueWrite_pub _ _).trans (State.put_pub s _ _)
@[simp] theorem State.keyJournal_mod (type cause slot gen slice kid : Nat) : (s.keyJournal type cause slot gen slice kid).mod = s.mod := still_mod (State.still_keyJournal s type cause slot gen slice kid)
@[simp] theorem State.keyJournal_adc (type cause slot gen slice kid : Nat) : (s.keyJournal type cause slot gen slice kid).adc = s.adc := still_adc (State.still_keyJournal s type cause slot gen slice kid)
@[simp] theorem State.keyJournal_per (type cause slot gen slice kid : Nat) : (s.keyJournal type cause slot gen slice kid).per = s.per := still_per (State.still_keyJournal s type cause slot gen slice kid)
@[simp] theorem State.keyJournal_ho (type cause slot gen slice kid : Nat) : (s.keyJournal type cause slot gen slice kid).ho = s.ho := still_ho (State.still_keyJournal s type cause slot gen slice kid)
@[simp] theorem State.keyJournal_rtc (type cause slot gen slice kid : Nat) : (s.keyJournal type cause slot gen slice kid).rtc = s.rtc := still_rtc (State.still_keyJournal s type cause slot gen slice kid)
@[simp] theorem State.keyJournal_swc (type cause slot gen slice kid : Nat) : (s.keyJournal type cause slot gen slice kid).swc = s.swc := still_swc (State.still_keyJournal s type cause slot gen slice kid)
@[simp] theorem State.keyJournal_macs (type cause slot gen slice kid : Nat) : (s.keyJournal type cause slot gen slice kid).macs = s.macs := still_macs (State.still_keyJournal s type cause slot gen slice kid)
@[simp] theorem State.keyJournal_mbs (type cause slot gen slice kid : Nat) : (s.keyJournal type cause slot gen slice kid).mbs = s.mbs := still_mbs (State.still_keyJournal s type cause slot gen slice kid)
@[simp] theorem State.keyJournal_sliceOp (type cause slot gen slice kid : Nat) : (s.keyJournal type cause slot gen slice kid).sliceOp = s.sliceOp := still_sliceOp (State.still_keyJournal s type cause slot gen slice kid)
@[simp] theorem State.keyJournal_keys (type cause slot gen slice kid : Nat) : (s.keyJournal type cause slot gen slice kid).keys = s.keys := still_keys (State.still_keyJournal s type cause slot gen slice kid)
@[simp] theorem State.keyJournal_aqe (type cause slot gen slice kid : Nat) : (s.keyJournal type cause slot gen slice kid).aqe = s.aqe := still_aqe (State.still_keyJournal s type cause slot gen slice kid)
@[simp] theorem State.keyJournal_nrg (type cause slot gen slice kid : Nat) : (s.keyJournal type cause slot gen slice kid).nrg = s.nrg := still_nrg (State.still_keyJournal s type cause slot gen slice kid)
@[simp] theorem State.keyJournal_lce (type cause slot gen slice kid : Nat) : (s.keyJournal type cause slot gen slice kid).lce = s.lce := still_lce (State.still_keyJournal s type cause slot gen slice kid)
@[simp] theorem State.keyJournal_rck (type cause slot gen slice kid : Nat) : (s.keyJournal type cause slot gen slice kid).rck = s.rck := still_rck (State.still_keyJournal s type cause slot gen slice kid)
@[simp] theorem State.keyJournal_bank (type cause slot gen slice kid : Nat) : (s.keyJournal type cause slot gen slice kid).bank = s.bank := still_bank (State.still_keyJournal s type cause slot gen slice kid)
@[simp] theorem State.keyJournal_dram (type cause slot gen slice kid : Nat) : (s.keyJournal type cause slot gen slice kid).dram = s.dram := still_dram (State.still_keyJournal s type cause slot gen slice kid)

/-! ### postSlot -/

theorem State.still_postSlot (slice slot old new tick : Nat) : (s.postSlot slice slot old new tick).still = s.still := rfl
@[simp] theorem State.postSlot_pending (slice slot old new tick : Nat) : (s.postSlot slice slot old new tick).pending = s.pending := rfl
@[simp] theorem State.postSlot_regs (slice slot old new tick : Nat) : (s.postSlot slice slot old new tick).regs = s.regs := rfl
@[simp] theorem State.postSlot_hiLatch (slice slot old new tick : Nat) : (s.postSlot slice slot old new tick).hiLatch = s.hiLatch := rfl
@[simp] theorem State.postSlot_time (slice slot old new tick : Nat) : (s.postSlot slice slot old new tick).time = s.time := rfl
@[simp] theorem State.postSlot_timeRun (slice slot old new tick : Nat) : (s.postSlot slice slot old new tick).timeRun = s.timeRun := rfl
@[simp] theorem State.postSlot_outbox (slice slot old new tick : Nat) : (s.postSlot slice slot old new tick).outbox = s.outbox := rfl
@[simp] theorem State.postSlot_freeCtr (slice slot old new tick : Nat) : (s.postSlot slice slot old new tick).freeCtr = s.freeCtr := rfl
@[simp] theorem State.postSlot_faults (slice slot old new tick : Nat) : (s.postSlot slice slot old new tick).faults = s.faults := rfl
@[simp] theorem State.postSlot_tg (slice slot old new tick : Nat) : (s.postSlot slice slot old new tick).tg = s.tg := rfl
@[simp] theorem State.postSlot_commits (slice slot old new tick : Nat) : (s.postSlot slice slot old new tick).commits = s.commits := rfl
@[simp] theorem State.postSlot_rings (slice slot old new tick : Nat) : (s.postSlot slice slot old new tick).rings = s.rings := rfl
@[simp] theorem State.postSlot_multi (slice slot old new tick : Nat) : (s.postSlot slice slot old new tick).multi = s.multi := rfl
@[simp] theorem State.postSlot_pair (slice slot old new tick : Nat) : (s.postSlot slice slot old new tick).pair = s.pair := rfl
@[simp] theorem State.postSlot_inj (slice slot old new tick : Nat) : (s.postSlot slice slot old new tick).inj = s.inj := rfl
@[simp] theorem State.postSlot_journal (slice slot old new tick : Nat) : (s.postSlot slice slot old new tick).journal = s.journal := rfl
@[simp] theorem State.postSlot_boot (slice slot old new tick : Nat) : (s.postSlot slice slot old new tick).boot = s.boot := rfl
@[simp] theorem State.postSlot_tim (slice slot old new tick : Nat) : (s.postSlot slice slot old new tick).tim = s.tim := rfl
@[simp] theorem State.postSlot_slots (slice slot old new tick : Nat) : (s.postSlot slice slot old new tick).slots = s.slots := rfl
@[simp] theorem State.postSlot_core (slice slot old new tick : Nat) : (s.postSlot slice slot old new tick).core = s.core := rfl
@[simp] theorem State.postSlot_cle (slice slot old new tick : Nat) : (s.postSlot slice slot old new tick).cle = s.cle := rfl
@[simp] theorem State.postSlot_svi (slice slot old new tick : Nat) : (s.postSlot slice slot old new tick).svi = s.svi := rfl
@[simp] theorem State.postSlot_pub (slice slot old new tick : Nat) : (s.postSlot slice slot old new tick).pub = s.pub := rfl
@[simp] theorem State.postSlot_mod (slice slot old new tick : Nat) : (s.postSlot slice slot old new tick).mod = s.mod := rfl
@[simp] theorem State.postSlot_adc (slice slot old new tick : Nat) : (s.postSlot slice slot old new tick).adc = s.adc := rfl
@[simp] theorem State.postSlot_per (slice slot old new tick : Nat) : (s.postSlot slice slot old new tick).per = s.per := rfl
@[simp] theorem State.postSlot_ho (slice slot old new tick : Nat) : (s.postSlot slice slot old new tick).ho = s.ho := rfl
@[simp] theorem State.postSlot_rtc (slice slot old new tick : Nat) : (s.postSlot slice slot old new tick).rtc = s.rtc := rfl
@[simp] theorem State.postSlot_swc (slice slot old new tick : Nat) : (s.postSlot slice slot old new tick).swc = s.swc := rfl
@[simp] theorem State.postSlot_macs (slice slot old new tick : Nat) : (s.postSlot slice slot old new tick).macs = s.macs := rfl
@[simp] theorem State.postSlot_mbs (slice slot old new tick : Nat) : (s.postSlot slice slot old new tick).mbs = s.mbs := rfl
@[simp] theorem State.postSlot_sliceOp (slice slot old new tick : Nat) : (s.postSlot slice slot old new tick).sliceOp = s.sliceOp := rfl
@[simp] theorem State.postSlot_keys (slice slot old new tick : Nat) : (s.postSlot slice slot old new tick).keys = s.keys := rfl
@[simp] theorem State.postSlot_aqe (slice slot old new tick : Nat) : (s.postSlot slice slot old new tick).aqe = s.aqe := rfl
@[simp] theorem State.postSlot_nrg (slice slot old new tick : Nat) : (s.postSlot slice slot old new tick).nrg = s.nrg := rfl
@[simp] theorem State.postSlot_lce (slice slot old new tick : Nat) : (s.postSlot slice slot old new tick).lce = s.lce := rfl
@[simp] theorem State.postSlot_rck (slice slot old new tick : Nat) : (s.postSlot slice slot old new tick).rck = s.rck := rfl
@[simp] theorem State.postSlot_bank (slice slot old new tick : Nat) : (s.postSlot slice slot old new tick).bank = s.bank := rfl
@[simp] theorem State.postSlot_dram (slice slot old new tick : Nat) : (s.postSlot slice slot old new tick).dram = s.dram := rfl

end Sys2Proof.Machine
end

