-- ==== Sys2Proof/Laws/Ops.lean ====
section
/-! SUPPORT. What the shared operations can do: the words they leave alone, the faults they raise and clear, and that they keep
the register store canonical. -/

namespace Sys2Proof.Machine

variable (s : State)

/-! ### Words that an operation leaves alone -/

/-- A field of up to 32 bits reads the same where its word does. -/
theorem State.get_congr {s t : State} {f : Field} (hf : f.lo + f.width ≤ 32) (h : t.rd f.addr = s.rd f.addr) : t.get f = s.get f := by
  rw [State.get_eq _ hf, State.get_eq _ hf, h]

theorem State.rd_of_regs {s t : State} (h : t.regs = s.regs) (a : Nat) : t.rd a = s.rd a := by unfold State.rd; rw [h]

@[simp] theorem State.rd_post (slice kind : Nat) (l : List (Nat × Nat × Nat)) (a : Nat) : (s.post slice kind l).rd a = s.rd a := rfl
@[simp] theorem State.rd_emit (o : Output) (a : Nat) : (s.emit o).rd a = s.rd a := rfl
@[simp] theorem State.rd_dmaOut (slice : Nat) (d : Dma) (a : Nat) : (s.dmaOut slice d).rd a = s.rd a := State.rd_of_regs (by simp) a
@[simp] theorem State.rd_answer (q : Req) (d : Dma) (a : Nat) : (s.answer q d).rd a = s.rd a := State.rd_of_regs (by simp) a
@[simp] theorem State.rd_drawn (a : Nat) : s.drawn.rd a = s.rd a := rfl
@[simp] theorem State.rd_setRing (x : RingRec) (a : Nat) : (s.setRing x).rd a = s.rd a := rfl
@[simp] theorem State.rd_clearCur (r a : Nat) : (s.clearCur r).rd a = s.rd a := State.rd_of_regs (by simp) a
@[simp] theorem State.rd_pairSend (tick : Nat) (b : PairBody) (a : Nat) : (s.pairSend tick b).rd a = s.rd a := State.rd_of_regs (by simp) a
@[simp] theorem State.rd_advance (t a : Nat) : (s.advance t).rd a = s.rd a := State.rd_of_regs (by simp) a

theorem State.rd_countFor (slice : Nat) (f : Field) (k a : Nat) (hf : f.lo + f.width ≤ 32) (h : a ≠ f.addr) :
    (s.countFor slice f k).rd a = s.rd a := by
  unfold State.countFor State.postSaturated; dsimp only; (repeat' split) <;> simp [State.rd_put_ne, *]

theorem State.rd_count (f : Field) (a : Nat) (hf : f.lo + f.width ≤ 32) (h : a ≠ f.addr) : (s.count f).rd a = s.rd a :=
  s.rd_countFor 0 f 1 a hf h

theorem msixPend_addr (v : Nat) : 0x400000 ≤ (msixPend v).addr := by unfold msixPend; dsimp only; omega

theorem State.rd_signal (v a : Nat) (h : a < 0x400000) : (s.signal v).rd a = s.rd a := by
  unfold State.signal
  have := msixPend_addr v
  split
  · rfl
  · exact s.rd_put_ne _ (by unfold msixPend; dsimp only; omega) (by omega)

theorem ite_elim {α : Type} {P : α → Prop} {c : Prop} [Decidable c] {a b : α} (ha : c → P a) (hb : ¬c → P b) :
    P (if c then a else b) := by
  by_cases h : c
  · rw [if_pos h]; exact ha h
  · rw [if_neg h]; exact hb h

set_option maxRecDepth 8000 in
theorem srcField_fits (i : Nat) : (srcField i).lo + (srcField i).width ≤ 32 := by
  
  have h : ∀ j, (srcLoc j).2 < 32 := by
    intro j; unfold srcLoc
    repeat' refine ite_elim (P := fun p : Nat × Nat => p.2 < 32) (fun _ => ?_) fun _ => ?_
    all_goals (dsimp only; omega)
  exact h i

/-- An event writes the word of its flag and MSI-X configuration. -/
theorem State.rd_event (i a : Nat) (h : a ≠ (srcLoc i).1) (h4 : a < 0x400000) : (s.event i).rd a = s.rd a := by
  unfold State.event
  have e : (s.put (srcField i) 1).rd a = s.rd a := s.rd_put_ne _ (srcField_fits i) h
  dsimp only; (repeat' split) <;> simp [State.rd_signal, *]

theorem State.rd_eventIf (c : Bool) (i a : Nat) (h : a ≠ (srcLoc i).1) (h4 : a < 0x400000) : (s.eventIf c i).rd a = s.rd a := by
  unfold State.eventIf; split
  · exact s.rd_event i a h h4
  · rfl

/-- The journal writes block PER. -/
theorem State.rd_journalAdd (e : JEntry) (a : Nat) (h : a / 0x10000 ≠ 0x16) (h4 : a < 0x400000) : (s.journalAdd e).rd a = s.rd a := by
  have h1 : a ≠ Reg.PER_QUEUE_BYTES.addr := by intro e; rw [e] at h; exact h (by decide)
  have h2 : a ≠ Reg.PER_QUEUE_HELD_MAX.addr := by intro e; rw [e] at h; exact h (by decide)
  have h3 : a ≠ Reg.PER_STATUS_HELD_FULL.addr := by intro e; rw [e] at h; exact h (by decide)
  have h5 : a ≠ (srcLoc 170).1 := by intro e; rw [e] at h; exact h (by decide)
  have h6 : a ≠ Reg.PER_DROPPED_COUNT.addr := by intro e; rw [e] at h; exact h (by decide)
  unfold State.journalAdd State.queueWrite
  dsimp only
  split
  · exact State.rd_put_ne _ _ (by decide) h1
  · split
    · split
      · rw [State.rd_event _ _ _ h5 h4, State.rd_put_ne _ _ (by decide) h3, State.rd_put_ne _ _ (by decide) h2]; rfl
      · rw [State.rd_put_ne _ _ (by decide) h2]; rfl
    · rw [State.rd_count _ _ _ (by decide) h6]; rfl

theorem State.rd_note (b c d a : Nat) (h : a / 0x10000 ≠ 0x16) (h4 : a < 0x400000) : (s.note b c d).rd a = s.rd a :=
  s.rd_journalAdd _ a h h4

theorem State.rd_noteOpen (b a : Nat) (h : a / 0x10000 ≠ 0x16) (h4 : a < 0x400000) : (s.noteOpen b).rd a = s.rd a :=
  s.rd_note _ _ _ a h h4

theorem State.rd_report (r : FaultRec) (a : Nat) (h : a / 0x10000 ≠ 0x16) (h4 : a < 0x400000) : (s.report r).rd a = s.rd a := by
  unfold State.report; dsimp only; split <;> simp [State.rd_journalAdd, h, h4]

theorem State.rd_refreshHealth (a : Nat) (h : a ≠ 0x10) (h0 : a ≠ 0x40) (h4 : a < 0x400000) : s.refreshHealth.rd a = s.rd a := by
  unfold State.refreshHealth; dsimp only; split
  · rfl
  · rw [State.rd_event _ 1 a h0 h4, State.rd_put_ne _ _ (by decide) h]

/-- Raising a record writes block PER, HEALTH, source flag 1 and MSI-X configuration. -/
theorem State.rd_raiseRecord (code cls inst slice detail a : Nat) (h : a ≠ 0x10) (h0 : a ≠ 0x40) (hp : a / 0x10000 ≠ 0x16)
    (h4 : a < 0x400000) : (s.raiseRecord code cls inst slice detail).rd a = s.rd a := by
  unfold State.raiseRecord; dsimp only; split
  · rfl
  · rw [State.rd_refreshHealth _ _ h h0 h4, State.rd_report _ _ _ hp h4]; split <;> rfl

theorem State.rd_reportClears (l : List ActiveFault) (a : Nat) (hp : a / 0x10000 ≠ 0x16) (h4 : a < 0x400000) :
    (s.reportClears l).rd a = s.rd a := by
  induction l generalizing s with
  | nil => rfl
  | cons x l ih => unfold State.reportClears; rw [ih, State.rd_report _ _ _ hp h4]

theorem State.rd_clearWhere (p : ActiveFault → Bool) (a : Nat) (h : a ≠ 0x10) (h0 : a ≠ 0x40) (hp : a / 0x10000 ≠ 0x16)
    (h4 : a < 0x400000) : (s.clearWhere p).rd a = s.rd a := by
  unfold State.clearWhere; dsimp only
  rw [State.rd_refreshHealth _ _ h h0 h4, State.rd_reportClears _ _ _ hp h4]; rfl

theorem State.rd_clearFault (code inst a : Nat) (h : a ≠ 0x10) (h0 : a ≠ 0x40) (hp : a / 0x10000 ≠ 0x16) (h4 : a < 0x400000) :
    (s.clearFault code inst).rd a = s.rd a := s.rd_clearWhere _ a h h0 hp h4

theorem State.rd_clearCode (code a : Nat) (h : a ≠ 0x10) (h0 : a ≠ 0x40) (hp : a / 0x10000 ≠ 0x16) (h4 : a < 0x400000) :
    (s.clearCode code).rd a = s.rd a := s.rd_clearWhere _ a h h0 hp h4

set_option maxRecDepth 8000 in
theorem srcLoc_ring (i : Nat) (hi : 192 ≤ i) : 0x20100 ≤ (srcLoc i).1 := by
  unfold srcLoc
  repeat' refine ite_elim (P := fun p : Nat × Nat => 0x20100 ≤ p.1) (fun _ => ?_) fun _ => ?_
  all_goals (dsimp only; omega)

/-- A write-back writes the ring flags of block HIF. -/
theorem State.rd_coalesce (r k a : Nat) (h : a < 0x20100) : (s.coalesce r k).rd a = s.rd a := by
  have := srcLoc_ring (192 + r) (by omega)
  unfold State.coalesce; dsimp only; split
  · rfl
  · split
    · rw [State.rd_event _ _ _ (by omega) (by omega)]; rfl
    · rfl

/-- A completion writes the registers of its ring, its ring flag and MSI-X configuration. -/
theorem State.rd_complete (q : Req) (c : Status) (result rflags a : Nat) (h : a < 0x20100) :
    (s.complete q c result rflags).rd a = s.rd a := by
  unfold State.complete State.wroteBack; dsimp only; split
  · rfl
  · next r _ =>
    split
    · rfl
    · rw [State.rd_dmaOut, State.rd_clearCur, State.rd_put_ne _ _ (by unfold Reg.HIF_RING_RSTAT_CMDBUSY; dsimp only; omega)
        (by unfold Reg.HIF_RING_RSTAT_CMDBUSY; dsimp only; omega),
        State.rd_put_ne _ _ (by unfold Reg.HIF_RING_RSTAT_INFLIGHT; dsimp only; omega)
        (by unfold Reg.HIF_RING_RSTAT_INFLIGHT; dsimp only; omega)]
      split
      · rfl
      · rw [State.rd_coalesce _ _ _ _ h]; rfl

theorem State.rd_gateBits (b : Bool) (a : Nat) (hp : a ≠ 0xB0018) (hb : a ≠ 0xC0018) (h1 : a ≠ 0xB0020) (h2 : a ≠ 0xC001C)
    (h4 : a < 0x400000) : (s.gateBits b).rd a = s.rd a := by
  unfold State.gateBits State.putFlag; dsimp only
  rw [State.rd_eventIf _ _ 98 _ h2 h4, State.rd_eventIf _ _ 90 _ h1 h4, State.rd_put_ne _ _ (by decide) hb,
    State.rd_put_ne _ _ (by decide) hp]
  rfl

theorem State.rd_endSafeMode (a : Nat) (h : a ≠ 0x10) (hb : a ≠ 0xC0018) (h2 : a ≠ 0xC001C) (h4 : a < 0x400000) :
    s.endSafeMode.rd a = s.rd a := by
  unfold State.endSafeMode; dsimp only
  rw [State.rd_eventIf _ _ 99 _ h2 h4, State.rd_put_ne _ _ (by decide) hb, State.rd_put_ne _ _ (by decide) hb,
    State.rd_put_ne _ _ (by decide) h]
  rfl

/-- The gate writes PAIR.STATUS, PUB.STATUS, STATE, the event words of both blocks and MSI-X configuration. -/
theorem State.rd_setGate (b : Bool) (a : Nat) (h : a ≠ 0x10) (hp : a ≠ 0xB0018) (hb : a ≠ 0xC0018) (h1 : a ≠ 0xB0020) (h2 : a ≠ 0xC001C)
    (h4 : a < 0x400000) : (s.setGate b).rd a = s.rd a := by
  unfold State.setGate; split
  · exact s.rd_gateBits b a hp hb h1 h2 h4
  · rw [State.rd_endSafeMode _ _ h hb h2 h4, s.rd_gateBits b a hp hb h1 h2 h4]

/-! ### Fields that an operation leaves alone -/

theorem State.get_countFor (slice : Nat) {f g : Field} (k : Nat) (hf : f.lo + f.width ≤ 32) (hg : g.lo + g.width ≤ 32)
    (h : g.addr ≠ f.addr ∨ g.lo + g.width ≤ f.lo ∨ f.lo + f.width ≤ g.lo) : (s.countFor slice f k).get g = s.get g := by
  have e : ∀ v, (s.put f v).get g = s.get g := fun v => h.elim (s.get_put_addr v hf hg) (s.get_put_apart v hf hg)
  unfold State.countFor State.postSaturated; dsimp only; (repeat' split) <;> simp only [State.post, State.get_of_fields, e]

theorem State.get_count {f g : Field} (hf : f.lo + f.width ≤ 32) (hg : g.lo + g.width ≤ 32)
    (h : g.addr ≠ f.addr ∨ g.lo + g.width ≤ f.lo ∨ f.lo + f.width ≤ g.lo) : (s.count f).get g = s.get g :=
  s.get_countFor 0 1 hf hg h

theorem State.get_event (i : Nat) {f : Field} (hf : f.lo + f.width ≤ 32) (h : f.addr ≠ (srcLoc i).1) (h4 : f.addr < 0x400000) :
    (s.event i).get f = s.get f := State.get_congr hf (s.rd_event i _ h h4)

theorem State.get_eventIf (c : Bool) (i : Nat) {f : Field} (hf : f.lo + f.width ≤ 32) (h : f.addr ≠ (srcLoc i).1)
    (h4 : f.addr < 0x400000) : (s.eventIf c i).get f = s.get f := State.get_congr hf (s.rd_eventIf c i _ h h4)

theorem State.get_journalAdd (e : JEntry) {f : Field} (hf : f.lo + f.width ≤ 32) (h : f.addr / 0x10000 ≠ 0x16)
    (h4 : f.addr < 0x400000) : (s.journalAdd e).get f = s.get f := State.get_congr hf (s.rd_journalAdd e _ h h4)

theorem State.get_note (b c d : Nat) {f : Field} (hf : f.lo + f.width ≤ 32) (h : f.addr / 0x10000 ≠ 0x16)
    (h4 : f.addr < 0x400000) : (s.note b c d).get f = s.get f := State.get_congr hf (s.rd_note b c d _ h h4)

theorem State.get_noteOpen (b : Nat) {f : Field} (hf : f.lo + f.width ≤ 32) (h : f.addr / 0x10000 ≠ 0x16)
    (h4 : f.addr < 0x400000) : (s.noteOpen b).get f = s.get f := State.get_congr hf (s.rd_noteOpen b _ h h4)

theorem State.get_complete (q : Req) (c : Status) (result rflags : Nat) {f : Field} (hf : f.lo + f.width ≤ 32)
    (h : f.addr < 0x20100) : (s.complete q c result rflags).get f = s.get f :=
  State.get_congr hf (s.rd_complete q c result rflags _ h)

theorem State.get_refreshHealth {f : Field} (hf : f.lo + f.width ≤ 32) (h : f.addr ≠ 0x10 ∨ f.lo + f.width ≤ 4 ∨ 7 ≤ f.lo)
    (h0 : f.addr ≠ 0x40) (h4 : f.addr < 0x400000) : s.refreshHealth.get f = s.get f := by
  unfold State.refreshHealth; dsimp only; split
  · rfl
  · rw [State.get_event _ 1 hf h0 h4]
    exact h.elim (s.get_put_addr (f := Reg.GLB_STATE_HEALTH) _ (by decide) hf) (s.get_put_apart (f := Reg.GLB_STATE_HEALTH) _ (by decide) hf)

theorem State.get_raiseRecord (code cls inst slice detail : Nat) {f : Field} (hf : f.lo + f.width ≤ 32)
    (h : f.addr ≠ 0x10 ∨ f.lo + f.width ≤ 4 ∨ 7 ≤ f.lo) (h0 : f.addr ≠ 0x40) (hp : f.addr / 0x10000 ≠ 0x16)
    (h4 : f.addr < 0x400000) : (s.raiseRecord code cls inst slice detail).get f = s.get f := by
  unfold State.raiseRecord; dsimp only; split
  · rfl
  · rw [State.get_refreshHealth _ hf h h0 h4, State.get_congr hf (State.rd_report _ _ _ hp h4)]; split <;> rfl

theorem State.get_clearWhere (p : ActiveFault → Bool) {f : Field} (hf : f.lo + f.width ≤ 32)
    (h : f.addr ≠ 0x10 ∨ f.lo + f.width ≤ 4 ∨ 7 ≤ f.lo) (h0 : f.addr ≠ 0x40) (hp : f.addr / 0x10000 ≠ 0x16)
    (h4 : f.addr < 0x400000) : (s.clearWhere p).get f = s.get f := by
  unfold State.clearWhere; dsimp only
  rw [State.get_refreshHealth _ hf h h0 h4, State.get_congr hf (State.rd_reportClears _ _ _ hp h4)]; rfl

theorem State.get_clearFault (code inst : Nat) {f : Field} (hf : f.lo + f.width ≤ 32)
    (h : f.addr ≠ 0x10 ∨ f.lo + f.width ≤ 4 ∨ 7 ≤ f.lo) (h0 : f.addr ≠ 0x40) (hp : f.addr / 0x10000 ≠ 0x16)
    (h4 : f.addr < 0x400000) : (s.clearFault code inst).get f = s.get f := s.get_clearWhere _ hf h h0 hp h4

theorem State.get_clearCode (code : Nat) {f : Field} (hf : f.lo + f.width ≤ 32)
    (h : f.addr ≠ 0x10 ∨ f.lo + f.width ≤ 4 ∨ 7 ≤ f.lo) (h0 : f.addr ≠ 0x40) (hp : f.addr / 0x10000 ≠ 0x16)
    (h4 : f.addr < 0x400000) : (s.clearCode code).get f = s.get f := s.get_clearWhere _ hf h h0 hp h4

/-- F1, F2 and F0 have no class response: the raise leaves what its record leaves. -/
theorem State.raise_low (code cls inst slice detail : Nat) (h : cls ≠ 3) (h' : cls ≠ 4) :
    s.raise code cls inst slice detail = s.raiseRecord code cls inst slice detail := by
  have e4 : ∀ t : State, t.classResponse code cls = t := fun t => by unfold State.classResponse; rw [if_neg h, if_neg h']
  unfold State.raise
  rw [e4]
  split
  · next e => unfold State.raiseRecord; rw [if_pos e]
  · rfl

/-! ### Event flags -/

set_option maxRecDepth 8000 in
theorem srcLoc_lt (i : Nat) (hi : i < 1472) : (srcLoc i).1 < 0x400000 := by
  unfold srcLoc
  repeat' refine ite_elim (P := fun p : Nat × Nat => p.1 < 0x400000) (fun _ => ?_) fun _ => ?_
  all_goals (dsimp only; omega)

/-- An occurrence leaves the flag of its source set (R62). -/
theorem State.srcFlag_event (i : Nat) (hi : i < 1472) : (s.event i).srcFlag i = true := by
  have e1 : ∀ v, ((s.put (srcField i) 1).signal v).get (srcField i) = (s.put (srcField i) 1).get (srcField i) := fun v =>
    State.get_congr (srcField_fits i) (State.rd_signal _ _ _ (srcLoc_lt i hi))
  have e2 : (s.put (srcField i) 1).get (srcField i) = 1 := by rw [State.get_put _ _ (srcField_fits i)]; rfl
  unfold State.event; dsimp only
  split
  · assumption
  · split <;> simp [State.srcFlag, State.flag, e1, e2]

/-- An occurrence whose flag is set changes nothing (R62). -/
theorem State.event_set (i : Nat) (h : s.srcFlag i = true) : s.event i = s := by unfold State.event; simp [h]

/-! ### Faults -/

theorem State.raiseRecord_faults (code cls inst slice detail : Nat) : (s.raiseRecord code cls inst slice detail).faults =
    if cls = 0 || s.isActive code inst then s.faults
    else s.faults ++ [⟨inst, ⟨code, cls, true, false, s.ns, slice, detail, s.tickNow⟩⟩] := by
  unfold State.raiseRecord
  by_cases h : cls = 0 <;> by_cases h2 : s.isActive code inst <;> simp [h, h2]

theorem State.raiseRecord_active (code cls inst slice detail : Nat) (h : cls ≠ 0) :
    (s.raiseRecord code cls inst slice detail).isActive code inst = true := by
  unfold State.isActive
  rw [State.raiseRecord_faults]
  by_cases h2 : s.isActive code inst
  · simp only [h2, Bool.or_true, if_true]; exact h2
  · simp [h, h2]

@[simp] theorem State.clearWhere_faults (p : ActiveFault → Bool) : (s.clearWhere p).faults = s.faults.filter fun a => !p a := by
  unfold State.clearWhere; dsimp only; simp

/-- A fault that has been cleared is not active (R705). -/
theorem State.clearFault_active (code inst : Nat) : (s.clearFault code inst).isActive code inst = false := by
  unfold State.isActive State.clearFault
  rw [State.clearWhere_faults]
  simp only [List.any_filter, List.any_eq_false]
  intro x _; cases (x.record.code == code && x.inst == inst) <;> decide

theorem State.clearCode_active (code inst : Nat) : (s.clearCode code).isActive code inst = false := by
  unfold State.isActive State.clearCode
  rw [State.clearWhere_faults]
  simp only [List.any_filter, List.any_eq_false]
  intro x _; cases x.record.code == code <;> simp

/-! ### Requests (R70) -/

theorem firstFail_none {l : List (Status × Bool)} (h : ∀ x ∈ l, x.2 = false) : firstFail l = none := by
  induction l with
  | nil => rfl
  | cons x l ih =>
    obtain ⟨c, b⟩ := x
    have e : b = false := h (c, b) (by simp)
    simp only [firstFail, e, Bool.false_eq_true, if_false]
    exact ih fun y hy => h y (List.mem_cons_of_mem _ hy)

/-- A request none of whose conditions fails has its effect, and its command holds the ring while it is not complete. -/
theorem State.command_taken {s : State} {op : Nat} {q : Req} {l : List (Status × Bool)} {quota : Bool} {ok : State → State}
    {r : Status → Nat} (ht : s.takes op q) (hl : ∀ x ∈ l, x.2 = false) : s.command op q l quota ok r = (ok s).holdRing op q := by
  obtain ⟨hr, hv, hc⟩ := ht
  have h2 : (q.ring.isNone && !s.keys.console) = false := by
    rcases hc with h | h
    · cases e : q.ring <;> simp_all
    · simp [h]
  have h1 : firstFail ((.version, decide (q.version ≠ 1)) :: s.consoleCheck q l) = none := by
    apply firstFail_none
    intro x hx
    unfold State.consoleCheck at hx
    simp only [List.mem_cons, List.mem_append, List.append_assoc] at hx
    rcases hx with rfl | hx | hx | hx
    · simp [hv]
    · exact hl x (List.takeWhile_subset _ hx)
    · rcases hx with rfl | hx
      · exact h2
      · cases hx
    · exact hl x (List.dropWhile_subset _ hx)
  simp only [State.command, State.commandAny, hr, h1]
  rfl

/-- A command that does not ask for a console proof has its effect when none of its conditions fails. -/
theorem State.commandAny_taken {s : State} {op : Nat} {q : Req} {l : List (Status × Bool)} {quota : Bool} {ok : State → State}
    {r : Status → Nat} (hr : s.reaches op q = true) (hv : q.version = 1) (hl : ∀ x ∈ l, x.2 = false) :
    s.commandAny op q l quota ok r = (ok s).holdRing op q := by
  have h1 : firstFail ((.version, decide (q.version ≠ 1)) :: l) = none :=
    firstFail_none fun x hx => by
      rcases List.mem_cons.mp hx with rfl | hx
      · simp [hv]
      · exact hl x hx
  simp only [State.commandAny, hr, h1]
  rfl

/-- A command that does not ask for a console proof completes with its first failing condition. -/
theorem State.commandAny_failed {s : State} {op : Nat} {q : Req} {l : List (Status × Bool)} {quota : Bool} {ok : State → State}
    {r : Status → Nat} {c : Status} (hr : s.reaches op q = true) (hv : q.version = 1) (hf : firstFail l = some c) :
    s.commandAny op q l quota ok r = (s.eventIf (c == .nores && quota) 184).complete q c (r c) 0 := by
  have h : firstFail ((.version, decide (q.version ≠ 1)) :: l) = some c := by simp [firstFail, hv, hf]
  simp only [State.commandAny, hr, h]
  rfl

theorem firstFail_split (p : Status × Bool → Bool) (c : Status) (l : List (Status × Bool)) :
    firstFail (l.takeWhile p ++ [(c, false)] ++ l.dropWhile p) = firstFail l := by
  induction l with
  | nil => rfl
  | cons x l ih =>
    obtain ⟨d, b⟩ := x
    by_cases h : p (d, b) = true
    · cases b
      · simpa [h, firstFail] using ih
      · simp [h, firstFail]
    · simp [h, firstFail]

/-- A request completes with its first failing condition (R70). -/
theorem State.command_failed {s : State} {op : Nat} {q : Req} {l : List (Status × Bool)} {quota : Bool} {ok : State → State}
    {r : Status → Nat} {c : Status} (ht : s.takes op q) (hf : firstFail l = some c) :
    s.command op q l quota ok r = (s.eventIf (c == .nores && quota) 184).complete q c (r c) 0 := by
  obtain ⟨hr, hv, hc⟩ := ht
  have h2 : (q.ring.isNone && !s.keys.console) = false := by
    rcases hc with h | h
    · cases e : q.ring <;> simp_all
    · simp [h]
  refine State.commandAny_failed hr hv ?_
  rw [State.consoleCheck, h2, firstFail_split, hf]

/-! ### The canonical form -/

section Canonical

variable {s : State}

theorem State.putFlag_wf (f : Field) (b : Bool) (h : s.wf) : (s.putFlag f b).wf := State.put_wf _ _ h
theorem State.countMod_wf (f : Field) (k : Nat) (h : s.wf) : (s.countMod f k).wf := State.put_wf _ _ h
theorem State.reject_wf (blk off reason : Nat) (h : s.wf) : (s.reject blk off reason).wf := State.wr_wf _ _ h

theorem State.countFor_wf (slice : Nat) (f : Field) (k : Nat) (h : s.wf) : (s.countFor slice f k).wf := by
  unfold State.countFor State.postSaturated; dsimp only; (repeat' split) <;> first | exact h | exact State.put_wf _ _ h

theorem State.countBy_wf (f : Field) (k : Nat) (h : s.wf) : (s.countBy f k).wf := State.countFor_wf _ _ _ h
theorem State.count_wf (f : Field) (h : s.wf) : (s.count f).wf := State.countFor_wf _ _ _ h

theorem State.badAccess_wf (kind a : Nat) (h : s.wf) : (s.badAccess kind a).wf :=
  State.count_wf _ (State.put_wf _ _ (State.put_wf _ _ (State.put_wf _ _ h)))

theorem State.signal_wf (v : Nat) (h : s.wf) : (s.signal v).wf := by
  unfold State.signal; split
  · exact h
  · exact State.put_wf _ _ h

theorem State.event_wf (i : Nat) (h : s.wf) : (s.event i).wf := by
  unfold State.event; dsimp only; (repeat' split)
  · exact h
  · exact State.signal_wf _ (State.put_wf _ _ h)
  · exact State.put_wf _ _ h

theorem State.eventIf_wf (c : Bool) (i : Nat) (h : s.wf) : (s.eventIf c i).wf := by
  unfold State.eventIf; split
  · exact State.event_wf _ h
  · exact h

theorem State.journalAdd_wf (e : JEntry) (h : s.wf) : (s.journalAdd e).wf := by
  unfold State.journalAdd State.queueWrite; dsimp only; (repeat' split)
  · exact State.put_wf _ _ h
  · exact State.event_wf _ (State.put_wf _ _ (State.put_wf _ _ h))
  · exact State.put_wf _ _ h
  · exact State.count_wf _ h

theorem State.pairSend_wf (tick : Nat) (b : PairBody) (h : s.wf) : (s.pairSend tick b).wf := by
  have e : (s.pairSend tick b).regs = s.regs := by simp
  unfold State.wf; rw [e]; exact h

theorem State.refreshHealth_wf (h : s.wf) : s.refreshHealth.wf := by
  unfold State.refreshHealth; dsimp only; split
  · exact h
  · exact State.event_wf _ (State.put_wf _ _ h)

theorem State.report_wf (r : FaultRec) (h : s.wf) : (s.report r).wf := by
  unfold State.report; dsimp only; split
  · exact State.pairSend_wf _ _ (State.journalAdd_wf _ h)
  · exact State.journalAdd_wf _ h

theorem State.raiseRecord_wf (code cls inst slice detail : Nat) (h : s.wf) : (s.raiseRecord code cls inst slice detail).wf := by
  unfold State.raiseRecord; dsimp only; split
  · exact h
  · exact State.refreshHealth_wf (State.report_wf _ (by split <;> exact h))

end Canonical

end Sys2Proof.Machine
end

