-- ==== Sys2Proof/Laws/Reset.lean ====
section
/-! SUPPORT. What a module reset and a loss of the main supply leave (R72, R116): one lemma each for the operations they share. -/

namespace Sys2Proof.Machine

variable (s : State)

/-- An update that writes registers only. -/
def RegsOnly (s t : State) : Prop := t = { s with regs := t.regs }

theorem RegsOnly.refl : RegsOnly s s := rfl

theorem RegsOnly.trans {s t u : State} (h : RegsOnly s t) (h' : RegsOnly t u) : RegsOnly s u := by
  unfold RegsOnly at *; rw [h'] ; rw [h]

theorem RegsOnly.wr (a : Nat) (v : Word) : RegsOnly s (s.wr a v) := rfl

theorem RegsOnly.put (f : Field) (v : Nat) : RegsOnly s (s.put f v) := by
  unfold State.put
  split
  · exact RegsOnly.wr _ _ _
  · exact (RegsOnly.wr _ _ _).trans (RegsOnly.wr _ _ _)

theorem RegsOnly.putFlag (f : Field) (b : Bool) : RegsOnly s (s.putFlag f b) := RegsOnly.put _ _ _

theorem RegsOnly.foldl {α : Type} {f : State → α → State} (h : ∀ s x, RegsOnly s (f s x)) (l : List α) (s : State) :
    RegsOnly s (l.foldl f s) := by
  induction l generalizing s with
  | nil => exact RegsOnly.refl s
  | cons x l ih => exact (h s x).trans (ih _)

theorem State.sealKept_only : RegsOnly s s.sealKept := by
  have h1 : ∀ t k, RegsOnly t (((if t.keySt k = keyEmpty then t else t.put (Reg.KEY_SLOT_STATE_STATE k) keySealed).put
      (Reg.KEY_SLOT_STATE_STAGED k) 0).put (Reg.KEY_SLOT_STATE_VERIFIED k) 0) := fun t k => by
    split
    · exact (RegsOnly.put _ _ _).trans (RegsOnly.put _ _ _)
    · exact ((RegsOnly.put _ _ _).trans (RegsOnly.put _ _ _)).trans (RegsOnly.put _ _ _)
  unfold State.sealKept
  generalize List.range 1024 = l
  have h2 := RegsOnly.foldl h1 l s
  refine RegsOnly.trans ?_ (RegsOnly.putFlag _ _ _)
  refine RegsOnly.trans ?_ (RegsOnly.put _ _ _)
  refine RegsOnly.trans ?_ (RegsOnly.wr _ _ _)
  iterate 11 refine RegsOnly.trans ?_ (RegsOnly.put _ _ _)
  exact h2

theorem State.cageLines_only (old : State) : RegsOnly s (s.cageLines old) :=
  RegsOnly.foldl (fun t _ => ((RegsOnly.putFlag t _ _).trans (RegsOnly.putFlag _ _ _)).trans (RegsOnly.putFlag _ _ _)) _ _

theorem RegsOnly.boot {s t : State} (h : RegsOnly s t) : t.boot = s.boot := by rw [h]
theorem RegsOnly.nrg {s t : State} (h : RegsOnly s t) : t.nrg = s.nrg := by rw [h]
theorem RegsOnly.time {s t : State} (h : RegsOnly s t) : t.time = s.time := by rw [h]
theorem RegsOnly.timeRun {s t : State} (h : RegsOnly s t) : t.timeRun = s.timeRun := by rw [h]

/-! ### Pulses cut, the state wiped, the main domain off -/

/-- Cutting the pulses changes the pulse outputs and what is emitted (R96). -/
theorem State.cutPulses_eq : s.cutPulses = { s with
    nrg := { s.nrg with pos := s.nrg.pos.map fun (x : PulseOut) => { x with onUntil := 0 } }, outbox := s.cutPulses.outbox } := by
  have h : ∀ (l : List PulseOut) (t : State),
      l.foldl (fun (t : State) x => t.emit (.pulseEnd x.out)) t =
        { t with outbox := (l.foldl (fun (t : State) x => t.emit (.pulseEnd x.out)) t).outbox } := by
    intro l
    induction l with
    | nil => intro t; rfl
    | cons x l ih => intro t; rw [List.foldl_cons, ih]; rfl
  exact h _ _

/-- The wiped state before its kept words are sealed (R116). -/
theorem State.wiped_boot : s.wiped.boot.vvg = s.boot.vvg ∧ s.wiped.boot.vmain = s.boot.vmain ∧ s.wiped.boot.vigilLost = s.boot.vigilLost ∧
    s.wiped.boot.revs = s.boot.revs ∧ s.wiped.boot.detected = none := by
  unfold State.wiped
  dsimp only
  rw [(State.cageLines_only _ _).boot, (RegsOnly.put _ _ _).boot, (State.sealKept_only _).boot]
  exact ⟨rfl, rfl, rfl, rfl, rfl⟩

theorem State.wiped_timeRun : s.wiped.timeRun = false := by
  unfold State.wiped
  dsimp only
  rw [(State.cageLines_only _ _).timeRun, (RegsOnly.put _ _ _).timeRun, (State.sealKept_only _).timeRun]

theorem State.wiped_nrg : s.wiped.nrg = s.nrg := by
  unfold State.wiped
  dsimp only
  rw [(State.cageLines_only _ _).nrg, (RegsOnly.put _ _ _).nrg, (State.sealKept_only _).nrg]

/-- What two registers written over a state leave: its last state named, its lines and time as they were. -/
theorem offFrom_left (t u : State) (b : BootState) (p n : Nat) (h : n < 16) (hu : u = { t with boot := b }) :
    ((u.put Reg.GLB_STATE_PREV p).put Reg.GLB_STATE_STATE n).st = n ∧
    ((u.put Reg.GLB_STATE_PREV p).put Reg.GLB_STATE_STATE n).timeRun = t.timeRun ∧
    ((u.put Reg.GLB_STATE_PREV p).put Reg.GLB_STATE_STATE n).boot = b := by
  refine ⟨?_, ?_, ?_⟩
  · unfold State.st; rw [State.get_put _ _ (by decide)]; exact Nat.mod_eq_of_lt h
  · rw [(RegsOnly.put _ _ _).timeRun, (RegsOnly.put _ _ _).timeRun, hu]
  · rw [(RegsOnly.put _ _ _).boot, (RegsOnly.put _ _ _).boot, hu]

theorem trailed (b : BootState) (l : List (Nat × Nat)) : ({ b with trail := l } : BootState).detected = b.detected ∧
    ({ b with trail := l } : BootState).vvg = b.vvg ∧ ({ b with trail := l } : BootState).vigilLost = b.vigilLost := ⟨rfl, rfl, rfl⟩

theorem vigilRun (b : BootState) : ({ b with vigilRan := true } : BootState).detected = b.detected ∧
    ({ b with vigilRan := true } : BootState).vvg = b.vvg ∧ ({ b with vigilRan := true } : BootState).vigilRan = true := ⟨rfl, rfl, rfl⟩

theorem heldCleared (b : BootState) : ({ b with nrgHeld := false } : BootState).detected = b.detected ∧
    ({ b with nrgHeld := false } : BootState).vvg = b.vvg ∧ ({ b with nrgHeld := false } : BootState).vigilLost = b.vigilLost := ⟨rfl, rfl, rfl⟩

/-- The main domain off: the state named, time stopped, no failure pending, the supply lines as they were (R72). -/
theorem State.mainOff_left (n : Nat) (h : n < 16) : (s.mainOff n).st = n ∧ (s.mainOff n).timeRun = false ∧
    (s.mainOff n).boot.detected = none ∧ (s.mainOff n).boot.vvg = s.boot.vvg ∧ (s.mainOff n).boot.vigilLost = s.boot.vigilLost := by
  have e := State.wiped_boot s.cutPulses
  have e3 : s.cutPulses.boot = s.boot := by rw [State.cutPulses_eq]
  rw [e3] at e
  obtain ⟨a, _, b, _, c⟩ := e
  have g := offFrom_left s.cutPulses.wiped _ { s.cutPulses.wiped.boot with trail := s.cutPulses.wiped.boot.trail ++ [(s.st, n)] } s.st n h rfl
  have k : s.mainOff n = (({ s.cutPulses.wiped with boot := { s.cutPulses.wiped.boot with trail := s.cutPulses.wiped.boot.trail ++ [(s.st, n)] } } :
    State).put Reg.GLB_STATE_PREV s.st).put Reg.GLB_STATE_STATE n := rfl
  rw [k, g.1, g.2.1, g.2.2, State.wiped_timeRun]
  rw [(trailed _ _).1, (trailed _ _).2.1, (trailed _ _).2.2, c, a, b]
  exact ⟨rfl, rfl, rfl, rfl, rfl⟩

/-- What a change of the boot record and the NRG record leaves of the rest. -/
theorem otherFields (t u : State) (b : BootState) (v : NrgState) (hu : u = { t with boot := b, nrg := v }) :
    u.st = t.st ∧ u.timeRun = t.timeRun ∧ u.boot = b := by
  subst hu; exact ⟨State.get_congr (by decide) (State.rd_of_regs rfl _), rfl, rfl⟩

/-- VIGIL and OFF leave what the loss of the main supply leaves (R113). -/
theorem State.goVigil_left : s.goVigil.st = stVigil ∧ s.goVigil.timeRun = false ∧ s.goVigil.boot.detected = none ∧
    s.goVigil.boot.vvg = s.boot.vvg ∧ s.goVigil.boot.vigilRan = true := by
  obtain ⟨a, b, c, d, _⟩ := s.mainOff_left stVigil (by decide)
  have k := otherFields (s.mainOff stVigil) s.goVigil _ _ rfl
  rw [k.1, k.2.1, k.2.2, a, b]
  rw [(vigilRun _).1, (vigilRun _).2.1, (vigilRun _).2.2, c, d]
  exact ⟨rfl, rfl, rfl, rfl, rfl⟩

theorem State.goOff_left : s.goOff.st = stOff ∧ s.goOff.timeRun = false ∧ s.goOff.boot.detected = none ∧
    s.goOff.boot.vvg = s.boot.vvg ∧ s.goOff.boot.vigilLost = s.boot.vigilLost := by
  obtain ⟨a, b, c, d, e⟩ := s.mainOff_left stOff (by decide)
  have k := otherFields (s.mainOff stOff) s.goOff _ _ rfl
  rw [k.1, k.2.1, k.2.2, a, b]
  rw [(heldCleared _).1, (heldCleared _).2.1, (heldCleared _).2.2, c, d, e]
  exact ⟨rfl, rfl, rfl, rfl, rfl⟩

end Sys2Proof.Machine
end

