-- ==== Sys2Proof/Machine/Pins.lean ====
section
/-! DEFINITION. What the connectors and the front panel show in a state: pin levels, clocks, cage controls, LEDs (R77, R84–R99, R239,
R501, R510). These are views of the state; pulses and strobes leave as outputs of the commands. -/

namespace Sys2Proof.Machine

/-! ### Pins -/

/-- A main-domain output: high impedance while the main domain has no supply, else the level (R87). -/
def State.mainPin (s : State) (level : Bool) : Option Bool := if s.mainAbsent then none else some level

/-- CUST_HOLD is driven push-pull in every main state (R93). -/
def State.pinCustHold (s : State) : Option Bool := s.mainPin (s.flag Reg.GLB_STATUS_HOLD)

/-- DO0–DO7 keep their last levels (R94). -/
def State.pinDo (s : State) (k : Nat) : Option Bool := s.mainPin ((s.pub.driven >>> k) % 2 == 1)

/-- FORCE_IND is asserted while the force table has an entry (R497). -/
def State.pinForceInd (s : State) : Option Bool := s.mainPin (s.flag Reg.GLB_STATUS_FORCED)

/-- PPS_OUT is high during its pulse (R206). -/
def State.pinPpsOut (s : State) : Option Bool := s.mainPin (decide (s.time < s.tim.ppsUntil))

/-- ALERT_N is an open drain that an alert pulls low (R64, R96). -/
def State.pinAlertN (s : State) : Option Bool := if !s.mainAbsent && s.alerted then some false else none

/-- PO0–PO3 are open drains: on during a pulse, off in every state outside SHADOW to SERVICE (R96). -/
def State.pinPo (s : State) (k : Nat) : Option Bool :=
  if stShadow ≤ s.st && s.st ≤ stService && (findKey PulseOut.out k s.nrg.pos).any fun p => decide (s.ns < p.onUntil) then some false else none

/-- PWRON_REQ works in every state (R87, R97, R228). -/
def State.pinPwronReq (s : State) : Bool := s.flag Reg.RTC_STATUS_PWRON

/-- What clocks MOD_CLK0–MOD_CLK3. -/
inductive ModClock where
  | stopped | locked | vigil
  deriving DecidableEq, Repr

/-- MOD_CLKk (R99, R501, R510): from module time while MOD is enabled; MOD_CLK0 and MOD_CLK1 from the vigil oscillator in VIGIL and,
after a hand-over, up to the enable of MOD; stopped otherwise. -/
def State.modClock (s : State) (k : Nat) : ModClock :=
  if s.ready && s.flag Reg.MOD_CTRL_EN && s.timeRun then .locked
  else if k < 2 && (s.nrg.vig.clocks >>> k) % 2 = 1 then .vigil
  else .stopped

/-- MOD_VDD is on wherever the vigil domain has a supply; AREF is off in VIGIL and OFF (R77). -/
def State.modVddOn (s : State) : Bool := s.st != stOff
def State.arefOn (s : State) : Bool := !s.mainAbsent

/-! ### Cages (R88, R239, R240) -/

/-- A cage has its 3.3 V. -/
def State.cagePowered (s : State) (p : Nat) : Bool := !s.mainAbsent && !s.macs.cageOff.contains p

/-- TX_DISABLE is asserted while the port does not operate, until a transceiver is accepted, and for one that failed a check. -/
def State.txDisabled (s : State) (p : Nat) : Bool :=
  let st := s.get (Reg.MACP_STAT_STATE p)
  let why := s.get (Reg.MACP_STAT_REASON p)
  decide (st < 2) || (st == 2 && (why == 3 || why == 4))

/-- The speed that the rate selects name, from the acceptance of a transceiver on. -/
def State.rateSelect (s : State) (p : Nat) : Option Nat :=
  if s.mainAbsent || s.txDisabled p then none else some (s.get (Reg.MACP_CFG_SPEED p))

/-- The transmitter of a port is on (R240). -/
def State.transmitterOn (s : State) (p : Nat) : Bool := !s.mainAbsent && decide (3 ≤ s.get (Reg.MACP_STAT_STATE p))

/-! ### LEDs (R90) -/

/-- Colours of the LEDs. -/
inductive Colour where
  | green | amber | red | blue
  deriving DecidableEq, Repr

/-- What an LED shows: flashing is 1 Hz, fast 4 Hz, both at half duty. -/
inductive Led where
  | off
  | steady (c : Colour)
  | flashing (c : Colour)
  | fast (c : Colour)
  deriving DecidableEq, Repr

/-- RUN. -/
def State.ledRun (s : State) : Led :=
  if s.st = stBoot || s.st = stSync then .flashing .green
  else if s.st = stShadow || s.st = stActive || s.st = stSolo || s.st = stService then .steady .green
  else if s.st = stSafe then .fast .green
  else .off

/-- CUSTODY: both lines asserted shows before the state (assumption 75). -/
def State.ledCustody (s : State) : Led :=
  if s.mainAbsent then .off
  else if s.flag Reg.GLB_STATUS_HOLD && s.flag Reg.GLB_STATUS_PEER then .fast .green
  else if s.st = stActive then .steady .green
  else if s.st = stSolo then .flashing .green
  else .off

/-- TIME. -/
def State.ledTime (s : State) : Led :=
  let c := s.get Reg.TIM_STATUS_CLASS
  if s.mainAbsent || !s.timeRun then .off
  else if c = clsLocked then .steady .green
  else if c = clsHoldover then .steady .amber
  else if c = clsSeeded then .flashing .amber
  else if c = clsFreeRun then .steady .red
  else .off

/-- FAULT. -/
def State.ledFault (s : State) : Led :=
  let h := s.get Reg.GLB_STATE_HEALTH
  if s.mainAbsent || h = 0 then .off
  else if h = 1 then .steady .amber
  else if h = 2 then .flashing .amber
  else if h = 3 then .steady .red
  else .flashing .red

/-- FORCE. -/
def State.ledForce (s : State) : Led := if s.pinForceInd = some true then .steady .amber else .off

/-- SERVICE. -/
def State.ledService (s : State) : Led :=
  if s.mainAbsent then .off
  else if s.flag Reg.GLB_STATUS_INJECT then .flashing .blue
  else if s.st = stService then .steady .blue
  else .off

end Sys2Proof.Machine
end

