-- ==== Sys2Proof/WellFormed.lean ====
section
/-! DEFINITION. Which commands are well formed: every operand that names a unit names one that the part has (R44, R61, R130,
R158, R291, R331). The meanings are total: a command that is not well formed has the effect its meaning gives. A request with a
field out of range is well formed: it completes with PARAM (R70). -/

namespace Sys2Proof

/-- A number below a bound. -/
def below (n i : Nat) : Bool := decide (i < n)

/-- Units by number: ports P0–P11, the ports of the switch core, the cages P0–P7, the 10BASE-T1S ports P10 and P11. -/
def isPort (p : Nat) : Bool := below 12 p
def inCore (p : Nat) : Bool := below 17 p
def isFront (p : Nat) : Bool := below 8 p
def isT1s (p : Nat) : Bool := p == 10 || p == 11

/-- Port pairs, rods, function and key slots, slices, rings, own SV streams, lanes and planes, traffic classes. -/
def isPair (k : Nat) : Bool := below 4 k
def isRod (r : Nat) : Bool := below 3 r
def isSlot (i : Nat) : Bool := below 1024 i
def isSlice (k : Nat) : Bool := below 256 k
def isRing (r : Nat) : Bool := below 1024 r
def isStream (k : Nat) : Bool := below 4 k
def isLane (l : Nat) : Bool := below 2 l
def isTc (c : Nat) : Bool := below 8 c

/-- Event sources, tamper sources, MSI-X vectors, blocks, control blocks. -/
def isSource (i : Nat) : Bool := below 1472 i
def isTamper (i : Nat) : Bool := decide (0 < i) && below 8 i
def isVector (v : Nat) : Bool := below 2048 v
def isBlock (k : Nat) : Bool := below 26 k
def isGcb (b : Nat) : Bool := below 512 b

/-- 32-bit data, and an address of the three BARs and of configuration space laid out one after the other. -/
def isWord (d : Nat) : Bool := below (2 ^ 32) d
def isAddr (a : Nat) : Bool := below 0x501000 a

/-- A request names a slice, and a ring unless the console sent it. -/
def reqOk (q : Req) : Bool := isSlice q.slice && q.ring.all isRing

/-- Whether every operand of a command names a unit of the part. -/
def Instr.wf : Instr → Bool
  | .bootTamper source => isTamper source
  | .rodResultsDelivered rod _ _ _ => isRod rod
  | .sramUncorrectable rod _ => isRod rod
  | .rodSelftestDone rod _ => isRod rod
  | .rodCopyRoundEnd rod _ _ => isRod rod
  | .rodCopyFinalRound rod _ _ => isRod rod
  | .macFrameRx port _ _ _ _ => isPort port
  | .pauseRx port _ _ => isPort port
  | .pfcRx port _ _ _ => isPort port
  | .pauseRefresh port => isPort port
  | .supervisionRx pair _ _ => isPair pair
  | .supervisionTx pair => isPair pair
  | .dupEntryForget pair _ => isPair pair
  | .nodeEntryAge pair _ => isPair pair
  | .modAbsLow port _ => isFront port
  | .modAbsHigh port => isFront port
  | .txFaultAssert port => isFront port
  | .txFaultClear port => isFront port
  | .txDisablePulse port => isFront port
  | .cageOvercurrent port => isFront port
  | .cageRetry port => isFront port
  | .ddmRead port _ _ _ _ => isFront port
  | .linkUp port _ _ => isPort port
  | .linkDown port _ => isPort port
  | .linkHoldEnd port => isPort port
  | .portNotUpTimer port => isPort port
  | .plcaStatusLost port => isT1s port
  | .t1sCollision port _ _ => isT1s port
  | .mkaPeerLost port => isPort port
  | .pnExhausted port => isPort port
  | .egressAdmit _ port _ => inCore port
  | .reseqTimeout port _ tc _ => inCore port && isTc tc
  | .planeError plane _ => isLane plane
  | .frameExpiry _ port => inCore port
  | .frameTransmit port _ _ => inCore port
  | .frameTxDone port _ => inCore port
  | .pfcRequestChange tc => isTc tc
  | .gclSwitch port => isPort port
  | .ownSvBuild stream => isStream stream
  | .gooseRetransmit block => isGcb block
  | .helloRx lane _ _ => isLane lane
  | .digestRx lane _ _ _ => isLane lane
  | .resyncReqRx lane _ => isLane lane
  | .resyncNakRx lane _ _ => isLane lane
  | .resyncCopyRx lane _ _ _ _ => isLane lane
  | .resyncEndRx lane _ _ _ _ => isLane lane
  | .takeoverReqRx lane _ => isLane lane
  | .pairFaultRx lane _ _ => isLane lane
  | .releaseNoteRx lane _ => isLane lane
  | .tokenMsgRx lane _ _ _ => isLane lane
  | .statusRead q _ => reqOk q
  | .journalRead q _ _ _ => reqOk q
  | .counterRead q _ _ _ => reqOk q
  | .cfgStage q _ => reqOk q
  | .cfgActivate q _ => reqOk q
  | .cfgCancel q _ => reqOk q
  | .fwStage q _ => reqOk q
  | .moduleReset q => reqOk q
  | .custodyRelease q _ => reqOk q
  | .serviceEnter q _ _ _ => reqOk q
  | .serviceLeave q => reqOk q
  | .forceSet q _ _ => reqOk q
  | .forceClear q _ => reqOk q
  | .injectStart q _ _ => reqOk q
  | .injectStop q _ => reqOk q
  | .slotLoad q _ _ _ _ => reqOk q
  | .slotAdmit q _ => reqOk q
  | .slotUnload q _ => reqOk q
  | .slotShadow q _ => reqOk q
  | .slotRun q _ => reqOk q
  | .slotStop q _ => reqOk q
  | .slotGroup q _ _ _ _ => reqOk q
  | .cleLoad q _ _ _ => reqOk q
  | .cleStart q _ => reqOk q
  | .cleStop q => reqOk q
  | .cleWrite q _ _ _ => reqOk q
  | .sliceFreeze q _ _ _ => reqOk q
  | .sliceRestore q _ _ _ => reqOk q
  | .handoverBegin q _ _ _ _ _ => reqOk q
  | .handoverAbort q _ => reqOk q
  | .keyStage q _ => reqOk q
  | .keyVerify q _ _ _ _ => reqOk q
  | .keyPeerProof slot _ _ => isSlot slot
  | .keyCommit q _ _ => reqOk q
  | .keyStageExpiry slot _ => isSlot slot
  | .lifecycleAdvance q _ _ => reqOk q
  | .rckModelLoad q _ _ _ => reqOk q
  | .rckSolveNow q _ _ => reqOk q
  | .rckRulesLoad q _ _ => reqOk q
  | .recFetch q _ _ _ _ _ => reqOk q
  | .mailboxRelay slice _ => isSlice slice
  | .mbCtrlWrite slice data => isSlice slice && isWord data
  | .mbOutDb slice data => isSlice slice && isWord data
  | .mbInDb slice data => isSlice slice && isWord data
  | .mbEvclr slice data => isSlice slice && isWord data
  | .mailboxDmaError slice => isSlice slice
  | .doorbell slice k data => isSlice slice && below 64 k && isWord data
  | .evclr slice k data => isSlice slice && below 64 k && isWord data
  | .ringEnable ring data => isRing ring && isWord data
  | .ringDisable ring data => isRing ring && isWord data
  | .ringStopDone ring => isRing ring
  | .txFetch ring _ _ _ _ => isRing ring
  | .cmdFetch ring _ _ => isRing ring
  | .ringDmaError ring _ _ => isRing ring
  | .coalTimerExpiry ring => isRing ring
  | .evtSrcWrite source _ => isSource source
  | .msixSignal source => isSource source
  | .blockCommitWrite block _ => isBlock block
  | .blockDiscardWrite block => isBlock block
  | .sliceValidWrite slice _ => isSlice slice
  | .portEnableChange port _ => isPort port
  | .gclChangeWrite port _ => isPort port
  | .gclDisable port => isPort port
  | .ptpPdelay port _ => isFront port
  | .diEdge input _ _ => below 8 input
  | .tamperActive source _ => isTamper source
  | .tamperInactive source => isTamper source
  | .rodRearm rod => isRod rod
  | .fdbInstall index => below 4096 index
  | .fdbRead index => below 4096 index
  | .gsubInstall index => below 1024 index
  | .gsubRead index => below 1024 index
  | .gcbInstall index => below 512 index
  | .gcbRead index => below 512 index
  | .chInstall _ index => below 8192 index
  | .chRead _ index => below 8192 index
  | .mptInstall index => below 1024 index
  | .mptRead index => below 1024 index
  | .nrgWindowEnd point => below 130 point
  | .nrgTick point _ => below 130 point
  | .pulseStart out _ => below 4 out
  | .heatStep meter _ => below 64 meter
  | .heatReportWrite meter lph => below 64 meter && isWord lph
  | .accSnapshot _ index => below 256 index
  | .loopExecute loop _ => below 128 loop
  | .loopOpClose loop => below 128 loop
  | .loopOpOpen loop => below 128 loop
  | .loopOpOff loop => below 128 loop
  | .deviceReportStale dev _ _ => below 32 dev
  | .modChannelFault chan _ => below 16 chan
  | .registerWrite addr _ bytes => isAddr addr && below 16 bytes
  | .sramScrub rod _ => isRod rod
  | .ptpSyncTx x => isFront x.port
  | .msixVectorUnmask vector => isVector vector
  | .registerRead a _ =>
    isAddr a.addr && (a.width == 1 || (a.width == 2 && a.addr % 2 == 0) || (a.width == 4 && a.addr % 4 == 0))
  | .plcaStatusUp port => isT1s port
  | .destroyRetry slot _ _ => isSlot slot
  | .vmainValid | .vvgInRange | .vvgLow _ | .pfwAssert _ _ _ | .pfwHoldTimeout | .pfwDeassert | .vmainDetect _ _ _ | .holdupEnd
  | .rstNReset | .rstNGlitch | .resetExit _ _ | .bootStepComplete _ | .watchdogExpiry | .lockstepError | .heartbeatExpiry
  | .heartbeatLatchFound | .perst | .flrD3hot | .busMasterDisable | .pasidDisable | .pcieLinkDown | .custPeerRise _
  | .custodyCollision | .custodySample | .peerLineDisagree | .tickBoundary _ _ _ | .vote _ | .beamSelftest _
  | .diagSelftest _ _ | .gateChannelDisagree _ | .timeCounterMismatch | .mkpduRx _ | .beadAudit _ _ | .svIntake _
  | .gooseIntake _ | .publishRelease _ | .helloTx | .handshakeLoss | .digestSettleTimeout _ | .resyncReqRepeat | .resyncRetry
  | .resyncFailLimit _ | .takeoverReqTx | .tokenResend | .soloWaitExpiry | .orphanTimeout | .safeHoldExpiry
  | .serviceLimitReached | .faultF3Raise _ _ _ _ | .hoCopyRx _ _ | .hoDigestRx _ | .hoDigestMissing | .hoCopyDeadline
  | .hoCompareTimeout | .hoReadyRx _ | .hoGrantRx _ | .hoAcceptRx _ | .hoReleaseTx | .hoReleaseRx _ _ | .hoTakenRx _
  | .hoNotTakenRx _ | .hoCancelRx _ | .hoDoubt | .hoQueryRx _ _ | .injectEnd _ _ | .freezeComplete | .rxPlace _ _ _ | .evqWrite
  | .resetCtrlWrite _ | .sviEnable | .sviDisable | .rodEnableChange _ | .incrHiWrite _ | .stepHiWrite _ | .stepApply _
  | .diedgePop | .timeLatchRead _ | .ptpSyncRx _ | .ptpAnnounceRx _ | .ptpSourceLoss | .holdoverMaxExpiry | .refMeasure _
  | .refLoss _ | .ppsOutPulse | .ppsInEdge _ | .rtcWriteCross _ | .rtcQueueFull | .calSet _ | .dstAdd | .dstSubtract
  | .calShift _ _ | .osfClear | .calSecondEdge _ | .oscStop | .wakeFire | .pwronReqAssert | .pwronTimeout | .tamperClear
  | .nonceRead _ | .keepRecord | .releaseRecord | .deleteRecord | .recFire | .recArm | .recDisarm | .recorderRow _
  | .settlementEnd | .recordClose | .rearmTimeout | .flashSegmentCommit _ _ _ | .groupArmRx _ | .groupFireRx _ _
  | .waveTsRx _ _ | .wavefrontDetect _ | .farArrivalTimeout | .waveCaptureClose | .vigilSecond _ _ _ | .ledgerCommit _ _ _
  | .tallyAudit _ | .perWriteDone _ _ | .deviceReportRx _ _ _ _ _ _ _ | .solveStart _ | .solveEnd _ | .setpointRelease _ _
  | .headroomRead _ _ | .adcTrigger _ _ _ | .adcCmdTrig _ _ | .adcCmdStop | .adcResult _ | .adcMonitorPair _ | .modTempEval
  | .modVddLimit | .tempFault _ _ | .sampleInstant _ _ | .mkaHelloTx | .backupDomainPowerUp | .pcieLinkChange _ _
  | .busMasterEnable _ | .custPeerFall _ | .faultTimerExpiry _ _ _ _ _ | .hardwareParityError _ _ _ | .tamperLoopTest _ _ _ _ => true

end Sys2Proof
end

