-- ==== Sys2Proof/Tests/Slice0.lean ====
section
/-! SUPPORT. Tests of single steps: the checks of WellFormed, results that the spec states, and a state for every set of hypotheses
of a statement. -/

set_option linter.unusedVariables false

namespace Sys2Proof.Tests
open Sys2Proof Sys2Proof.Machine

/-- The reset state with a list of register words, in rising order. -/
def st (l : List (Nat × Word)) : State := { State.reset with regs := l }

/-- A request of slice 0 on ring 0. -/
def req : Req := ⟨0, some 0, 1⟩

/-- Ill-formed commands: a port, pair, class, lane, rod, slot, slice, ring, stream or source that the part does not have. -/
theorem test_wf_port : (Instr.pauseRx 12 0 0).wf = false := by decide
theorem test_wf_pair : (Instr.supervisionTx 4).wf = false := by decide
theorem test_wf_core_port : (Instr.egressAdmit 0 17 []).wf = false := by decide
theorem test_wf_front_port : (Instr.modAbsHigh 8).wf = false := by decide
theorem test_wf_t1s_port : (Instr.plcaStatusLost 9).wf = false := by decide
theorem test_wf_class : (Instr.pfcRequestChange 8).wf = false := by decide
theorem test_wf_lane : (Instr.planeError 2 0).wf = false := by decide
theorem test_wf_rod : (Instr.rodRearm 3).wf = false := by decide
theorem test_wf_slot : (Instr.keyPeerProof 1024 true 0).wf = false := by decide
theorem test_wf_slice : (Instr.mailboxDmaError 256).wf = false := by decide
theorem test_wf_ring : (Instr.ringStopDone 1024).wf = false := by decide
theorem test_wf_stream : (Instr.ownSvBuild 4).wf = false := by decide
theorem test_wf_control_block : (Instr.gooseRetransmit 512).wf = false := by decide
theorem test_wf_source : (Instr.msixSignal 1472).wf = false := by decide
theorem test_wf_vector : (Instr.msixVectorUnmask 2048).wf = false := by decide
theorem test_wf_block : (Instr.blockDiscardWrite 26).wf = false := by decide
theorem test_wf_tamper_low : (Instr.tamperInactive 0).wf = false := by decide
theorem test_wf_tamper_high : (Instr.tamperInactive 8).wf = false := by decide
theorem test_wf_word : (Instr.mbInDb 0 (2 ^ 32)).wf = false := by decide
theorem test_wf_address : (Instr.registerRead ⟨0x600000, 4⟩ 0).wf = false := by decide
theorem test_wf_index : (Instr.fdbRead 4096).wf = false := by decide
theorem test_wf_request : (Instr.sliceFreeze { req with slice := 256 } 0 0 0).wf = false := by decide

/-- The worked example after R507: g and δ at 41.5 °C between two points. -/
theorem test_correction_between_points :
    correctionAt 5312 [(3200, 1073956572, -150), (6400, 1074386069, -250)] = (1074240040, -216) := by decide

/-- The worked example of the architecture chapter: d_n is t_n + 628.333 µs and v_n is t_n + 620.333 µs at 4,800 samples/s. -/
theorem test_decision_instant : instantOf 1 4800 420 / nsUnit = 628333 := by decide
theorem test_vote_instant : (instantOf 1 4800 420 - 8000 * nsUnit) / nsUnit = 620333 := by decide

/-- The worked example of the recorder chapter: Δ of −71,164.9 ns on a line of 42.7 km gives 15,301.0 m. -/
theorem test_fault_distance :
    ((st [(0x10, 5), (0x100038, 427000), (0x10003C, 170000000)]).locate 65536000000 (65536000000 + 4663862886)).get
      Reg.AQE_TWL_RESULT_DIST = 153010 := by decide

/-- The published check value of the CRC of R313 over the digits 1 to 9. -/
theorem test_crc32c : crc32c [0x31, 0x32, 0x33, 0x34, 0x35, 0x36, 0x37, 0x38, 0x39] = 0xE3069283 := by decide +kernel

/-- An image without elements. -/
def img0 : FnImage := ⟨1, 320, 0, 0, 1, 0, 8, 0, 0, 0, [], [], [], [], [], [], [], 7, true, true, 0, []⟩

/-- Slot 3 of slice 0 in a state. -/
def slotAt (k : Nat) : Slot := { slot := 3, slice := 0, state := k, img := img0 }

/-- A ring, a frame and its copy, for the states below. -/
def ring0 : RingRec := { ring := 0, slice := 0, type := 0, log2size := 6, local' := 0, tc := 0, mark := 0 }
def frame0 : CoreFrame := { id := 1, src := 0, tc := 5, len := 100 }
def copy0 : CoreCopy := { frame := 1, port := 2, src := 0, tc := 5, seq := 0, plane := 0 }

/-- The requests of a slice's command ring and of the console, a state in which the command ring 0 of slice 0 has taken an entry of an
opcode, and one in which a port operates. -/
def con : Req := ⟨0, none, 1⟩
def cmdRing (op : Nat) : RingRec := { ring0 with type := 2, cur := some op }
def cmdOn (op : Nat) (s : State) : State := { s with rings := cmdRing op :: s.rings }
def portOn (p : Nat) (s : State) : State := (s.put Reg.MAC_CTRL_EN 1).put (Reg.MACP_ENABLE_EN p) 1

/-- Key slot k committed by slice 0 with a mask of uses. -/
def keyOn (k : Nat) (uses : Word) (s : State) : State :=
  ((s.wr (0x141000 + 16 * k) 0x100000).wr (0x141004 + 16 * k) uses).wr (0x141008 + 16 * k) 2

/-- Operands of the commands, for the states below. -/
def bootRep0 : BootRep := ⟨true, 0x1FF, 0, 0, [], [], 3000⟩
def injDesc0 : InjDesc := ⟨1, 1, 0, 0, 0, 0, 0, 0, 0, 0, 0, 0, 0⟩
def inj0 : Injection := ⟨0, 1, 0, 0, 0, 0, 0, 0, 0, 0, 0, 0, true, 0, 0, 0, 0, false⟩
def sliceImg0 : SliceImg := { slice := 1, length := 128 }
def sliceOp0 : SliceOp := { slice := 1, restore := false, thaw := false }
def mbMsg0 : MbMsg := ⟨1, 0, 0, []⟩
def token0 : TokenEntry := ⟨7, 1, 9, 0, 0, 0⟩
def hello0 : Hello := ⟨0, 1, 1, 1, 0, 0, 320, 5, 0, 0, 0, 0⟩
def digest0 : Digest := ⟨0, 0, 0, 0, 0, 0, 5, 0, 0, 0⟩
def fault0 : FaultRec := ⟨0x0101, 1, true, false, 0, 0, 0, 0⟩
def evq0 : EvqItem := ⟨0, 1, []⟩
def keyRec0 : KeyRecord := ⟨1, 2, 5, 0, 4, 0, true, [1]⟩
def staged0 : KeyStaged := { slot := 5, mode := 2, policy := 0, uses := 4, kid := 0, slice := 0, at' := 0 }
def multi0 : MultiCmd := ⟨req, 0x10, 0, 0⟩
def cleImg0 : CleImage := ⟨1, 256, 264, 0, 0, 0, 0, 0, 0, 0, [0, 0x4F000000], [], [], [], [], 7, true, true⟩
def report0 : DevReport := { key := 3, at' := 0, fault := false, position := 0, value := 0 }
def servo0 : ServoSample := ⟨false, 0, 0, 0, 0, 0⟩
def announce0 : Announce := ⟨0, 0, true, [1], 0, 37⟩
def rtcWrite0 : RtcWrite := { off := 0x30, data := 0 }
def rec0 : StoredRec := { id := 1, type := 0, f := 4800, chans := [], t0 := 0, e := 100, first := 0 }
def grp0 : GrpMsg := ⟨1, 0, 2, 1, 0, 0, 0, 0, true⟩
def wire0 : RxWire := ⟨[], true, 0, [], 0, 0⟩
def dup0 : DupEntry := { src := 1, high := 5 }
def optics0 : OptIdent := ⟨true, 10, true⟩
def mkPdu0 : MkPdu := ⟨0, 4, true, 0, false, false⟩
def asdu0 : Asdu := ⟨[65], some 3, 1, 2, 64, []⟩
def svFrame0 : SvFrame := ⟨0, false, 1, 0, 0x4000, false, true, 1, [asdu0], false⟩
def gooseFrame0 : GooseFrame := ⟨0, 1, 0, 0, [65], 0, false, false, false, false, 1, 0, 1000, []⟩
def gsub0 : Gsub := { idx := 4, words := [1, 0x80000000, 1, 0, 0] }
def gcb0 : Gcb := { idx := 4, words := [0, 0x80000000, 1, 0, 0x000A0001, 0, 3], tpl := [] }
def pubHead0 : PubHead := ⟨1, 0, 4, 1, 1, [65], 0, false, none⟩
def pubFrame0 : PubFrame := ⟨4, 1, 0, 5000, 3000, 20, 0, 0, [], 0, 0, pubHead0⟩
def result0 : SolveResult := ⟨5000, 0, []⟩
def solve0 : RckSolve := ⟨1, 0, 0, 1000000000, true, 1, ⟨0, 0, [], [], [], []⟩, [], [], [], []⟩
def revision0 : Revision := ⟨3, 0, true, true, 2, [], [], none, none⟩
def image0 : TickImage := ⟨0, 1, false, false, 0, 0, 0, 0, 0, [], [], []⟩
def settled0 : Settled :=
  { tick := 0, decided := true, voters := 0, idle := false, noImage := false, stream := [], layout := [], shadow := [], sdig := 0, rdig := 0 }
def work0 : Work := ⟨image0, [], { boundary := 0 }⟩

/-- The smallest image that R330 lets through: 320 bytes of header, then state, group, bindings and output map. -/
def img1 : FnImage :=
  { img0 with length := 392, sections := [(0x20, 8), (0x30, 0), (0x40, 0), (0x50, 0)] }
def run0 : Delivery := ⟨0, [], [], none, none, 0⟩

/-- A state in which a handover of slice 0 stands at a phase, as its source. -/
def source (phase : Nat) : State :=
  { st [(0x10, 6), (0x30018, BitVec.ofNat 32 (phase * 2 ^ 20))] with
    ho.dsid := 7, ho.serial := 1, ho.m := 1000, per.ledger := [{ token0 with serial := 1 }] }

/-- A state in which a handover of slice 0 stands at a phase, as its destination. -/
def dest (phase : Nat) : State :=
  { st [(0x10, 6), (0x30018, BitVec.ofNat 32 (phase * 2 ^ 20))] with ho.dsid := 7, ho.serial := 1, ho.m := 1000, ho.role := 1 }
def ready0 : HoMsg := ⟨7, 1, 1000, .ready, true⟩

/-- An installed CLE program with one bit of M and K and one word of KW. -/
def cleImg1 : CleImage := { cleImg0 with nm := 32, nk := 32, nkw := 1, m := [0], k := [0], kw := [0] }

/-- A record of the recorder that is the current one, and the recorder in POST with it. -/
def recN : StoredRec := { rec0 with type := 1, segs := 1 }
def stRec : State := { st [(0x10, 5), (0x100010, 1), (0x100044, 2), (0x1000b0, 100)] with aqe := { State.reset.aqe with recs := [recN], cur := some 1, settled := true } }

/-- A state whose first sampled value subscription and first GOOSE subscription match `svFrame0` and `gooseFrame0`. -/
def stSv : State :=
  { st [(0x10, 5), (0x89000, 1), (0x89004, 0x80000000), (0x89008, 0x40000001), (0x8900C, BitVec.ofNat 32 (crc32c [65]))] with
    svi := { State.reset.svi with gsubs := [{ gsub0 with words := [1, 0x80000000, 1, crc32c [65], 0] }] } }

/-- A register of a table, for the accesses below. -/
def specAt (blk off : Nat) : RegSpec := ((findSpec off (blockSpecs blk)).getD (⟨0, [], 1, []⟩, 0)).1

/-- A reckoner with a plan in its first step. -/
def stPlan : State :=
  { st [(0x10, 5), (0x130010, 0x3C001), (0x130014, 0x0F000000)] with
    rck := { State.reset.rck with plan := some { id := 1, t0 := 0, delta := 900000000000, ns := 0, steps := 96, rowCount := 0, layout := [], x := [], rho := 1, init := [] } } }
def stSolve : State := { stPlan with rck := { stPlan.rck with cur := some solve0 } }

theorem filter_room {α : Type} (p : Nat → Bool) (l : List α) (h : l.length = 0) :
    16 * ((((List.range 16384).map fun i => 4 * i).filter p).length + l.length) ≤ 300000 := by
  have := List.length_filter_le p ((List.range 16384).map fun i => 4 * i)
  simp only [List.length_map, List.length_range] at this
  omega

theorem imageLength_pos (i : SliceImg) : 0 < imageLength i := by
  unfold imageLength; omega

theorem sliceImage_op (s : State) (o : Option SliceOp) (k t i : Nat) :
    ({ s with sliceOp := o }).sliceImage k t i = s.sliceImage k t i := rfl

theorem triple {α β γ : Type} (x : α × β × γ) : x = (x.1, x.2.1, x.2.2) := rfl

theorem peer_same (x a : State) (h : a.pair.peerHello = some { hello0 with slotTab := x.slotTab }) (e : x.slotTable = a.slotTable) :
    (a.pair.peerHello.any fun h => h.slotTab == a.slotTab) = true := by
  simp [h, State.slotTab, e]

/-- The worked example of the time-base chapter (R197): P4 with its latencies and asymmetry. Connector to connector both ways take
117,517.30 ns, so the mean link delay is 58,758.65 ns; the Sync stamped at s + 500,058,827.41 ns then has an offset of 0.00 ns. -/
def stFibre : State :=
  (((st [(0x10, 5)]).put (Reg.TIM_PORT_LAT_TX_LAT 4) 0x00294000).put (Reg.TIM_PORT_LAT_RX_LAT 4) 0x003AC000).put
    (Reg.TIM_PORT_ASYM_ASYM 4) 0x000A01C4
theorem test_link_delay : stFibre.pdelay 4 ⟨0, 0, 0, 7701613773 + 0x00294000 + 0x003AC000⟩ = 3850806887 := by decide
theorem test_servo_offset :
    (per256 (({ stFibre with tim.delays := [(4, 3850806886)] }).servoOffset ⟨false, 4, 0, 500000000 * 65536, 500000000 * 65536 + 3855313142, 0⟩)).natAbs ≤ 2 := by
  decide

theorem test_hyp_StepRunsTheFrontCommand :
∃ (s : State), s.pending = [] :=
⟨st [(0x10, 0x5)], by decide⟩

theorem test_hyp_ResetLeavesResetValues :
∃ (k : Nat), k < 26 :=
⟨0, by decide⟩

theorem test_hyp_StepKeepsRegistersCanonical :
∃ (s : State) (t : State), s.wf ∧ step s = .next t :=
⟨st [(0x10, 0x5)], st [(0x10, 0x5)], by rfl, by rfl⟩

theorem test_hyp_SupplyEventsMoveTheModule :
(∃ (s : State), s.mainAbsent = true) ∧
(∃ (s : State) (a : State), s.st = stOff ∧ a = { s with boot := { s.boot with vvg := true } }) ∧
(∃ (s : State) (a : State) (lost : Nat), s.st = stVigil ∧ a = { s with boot := { s.boot with vvg := false } }) ∧
(∃ (s : State) (a : State), s.boot.detected.isSome = true ∧ a = { s with boot := { s.boot with detected := none, pfw := false }, timeRun := false }) ∧
(∃ (s : State), s.boot.pfw = true ∧ s.boot.vmain = true) ∧
(∃ (s : State), s.boot.pfw = true ∧ s.boot.vmain = true) :=
  ⟨⟨st [(0x10, 0x0)], by decide⟩,
  ⟨(st [(0x10, 0)]), _, by decide, rfl⟩,
  ⟨(st [(0x10, 1)]), _, 0, by decide, rfl⟩,
  ⟨{ (st [(0x10, 5)]) with boot.detected := some 0 }, _, by decide, rfl⟩,
  ⟨{ st [(0x10, 0x5)] with boot.pfw := true, boot.vmain := true }, by decide, by decide⟩,
  ⟨{ st [(0x10, 0x5)] with boot.pfw := true, boot.vmain := true }, by decide, by decide⟩⟩

theorem test_hyp_PowerFailureCommitsAndDropsCustody :
(∃ (s : State) (dur : Nat) (now : Nat) (ok : Bool), s.mainAbsent = false ∧ s.boot.pfw = false ∧ s.boot.detected = none) ∧
(∃ (s : State) (dur : Nat) (now : Nat) (ok : Bool), s.mainAbsent = false ∧ s.boot.detected = none) :=
  ⟨⟨st [(0x10, 0x5)], 0, 0, true, by decide, by decide, by decide⟩,
  ⟨st [(0x10, 0x5)], 0, 0, true, by decide, by decide⟩⟩

theorem test_hyp_ResetRequestsLeadToReset :
(∃ (s : State), s.mayReset = true) ∧
(∃ (s : State), s.mayReset = true) ∧
(∃ (s : State), s.mayReset = true) ∧
(∃ (s : State), s.mainAbsent = false) ∧
(∃ (s : State) (q : Req), s.takes 0x20 q ∧ q.slice = 0 ∧ s.resetBarred = false ∧ s.mayReset = true) ∧
(∃ (s : State) (data : Word), s.ready = true ∧ s.st ≠ stBoot ∧ s.resetBarred = false ∧ s.mayReset = true ∧ data.field 16 16 = 0xA5C3
    ∧ data.field 0 1 = 1) ∧
(∃ (s : State) (data : Word), s.ready = true ∧ s.resetBarred = true ∧ data.field 16 16 = 0xA5C3 ∧ data.field 0 1 = 1) :=
  ⟨⟨st [(0x10, 0x5)], by decide⟩,
  ⟨st [(0x10, 0x5)], by decide⟩,
  ⟨st [(0x10, 0x5)], by decide⟩,
  ⟨st [(0x10, 0x5)], by decide⟩,
  ⟨cmdOn 0x20 ((st [(0x10, 5)])), req, by decide, by decide, by decide, by decide⟩,
  ⟨st [(0x10, 0x5)], 0xA5C30001, by decide, by decide, by decide, by decide, by decide, by decide⟩,
  ⟨(st [(0x10, 6)]), 0xA5C30001, by decide, by decide, by decide, by decide⟩⟩

theorem test_hyp_BootRunsItsSteps :
(∃ (s : State) (a : State) (pos : Nat) (slot : Nat), s.st = stReset ∧ s.boot.vmain = true ∧ s.boot.detected = none ∧ a = (s.put
    Reg.GLB_STRAPS_PAIR_POS (pos % 2)).put Reg.GLB_STRAPS_SLOT_ID (slot % 32)) ∧
(∃ (s : State) (r : BootRep), s.st = stBoot ∧ s.get Reg.KPR_BOOT_STAGE = 0) ∧
(∃ (s : State) (r : BootRep), s.st = stBoot ∧ s.get Reg.KPR_BOOT_STAGE = 1 ∧ r.ok = true ∧ s.get Reg.TMP_LATCHSRC_SRC &&& (127 -
    (s.boot.handled &&& 127)) = 0) ∧
(∃ (s : State) (r : BootRep), s.st = stBoot ∧ s.get Reg.KPR_BOOT_STAGE = 1) ∧
(∃ (s : State) (r : BootRep), s.st = stBoot ∧ s.get Reg.KPR_BOOT_STAGE = 2 ∧ s.get Reg.TMP_STATUS_ACTIVE = 0) ∧
(∃ (s : State) (r : BootRep) (i : Nat), s.st = stBoot ∧ s.get Reg.KPR_BOOT_STAGE = 2 ∧ (List.range 7).find? (fun i => (s.get
    Reg.TMP_STATUS_ACTIVE >>> (i + 1)) % 2 == 1) = some i) ∧
(∃ (s : State) (r : BootRep), s.st = stBoot ∧ s.get Reg.KPR_BOOT_STAGE = 3 ∧ r.ok = true) ∧
(∃ (s : State) (r : BootRep) (b : Nat) (i : FwImage), s.st = stBoot ∧ s.get Reg.KPR_BOOT_STAGE = 4 ∧ s.goodBank = some (b, i)) ∧
(∃ (s : State) (r : BootRep), s.st = stBoot ∧ s.get Reg.KPR_BOOT_STAGE = 4 ∧ s.goodBank = none) ∧
(∃ (s : State) (r : BootRep), s.st = stBoot ∧ s.get Reg.KPR_BOOT_STAGE = 5 ∧ r.ok = true) ∧
(∃ (s : State) (r : BootRep), s.st = stBoot ∧ s.get Reg.KPR_BOOT_STAGE = 6 ∧ r.ok = true ∧ s.boot.micro.all s.imageAccepted = true) ∧
(∃ (s : State) (a : State) (r : BootRep) (rev : Option Revision), s.st = stBoot ∧ s.get Reg.KPR_BOOT_STAGE = 7 ∧ s.configSelect =
    (a, rev)) ∧
(∃ (s : State) (r : BootRep), s.st = stBoot ∧ s.get Reg.KPR_BOOT_STAGE = 8 ∧ r.ok = true ∧ s.get Reg.KEY_STATUS_LIFECYCLE ≠ 4) ∧
(∃ (s : State) (r : BootRep), s.st = stBoot ∧ s.get Reg.KPR_BOOT_STAGE = 9) ∧
(∃ (s : State) (a : State) (r : BootRep) (tests : Nat), s.st = stBoot ∧ r.ok = false ∧ ((s.get Reg.KPR_BOOT_STAGE = 3 ∧ tests = 7) ∨
    (s.get Reg.KPR_BOOT_STAGE = 5 ∧ tests = 0x1F8)) ∧ a = s.selfPass (r.pass &&& tests)) ∧
(∃ (s : State) (r : BootRep), s.st = stBoot ∧ s.get Reg.KPR_BOOT_STAGE = 8 ∧ r.ok = false) ∧
(∃ (s : State) (r : BootRep), s.st = stBoot ∧ r.ok = false ∧ s.get Reg.KPR_BOOT_STAGE = 6) ∧
(∃ (s : State) (src : Nat), s.st = stBoot ∧ 1 ≤ src ∧ src ≤ 7) :=
  ⟨⟨{ (st [(0x10, 2)]) with boot.vmain := true, boot.detected := none }, _, 0, 0, by decide, by decide, by decide, rfl⟩,
  ⟨st [(0x10, 0x3)], bootRep0, by decide, by decide⟩,
  ⟨(st [(0x10, 3)]).put Reg.KPR_BOOT_STAGE 1, { bootRep0 with ok := true }, by decide, by decide, by decide, by decide⟩,
  ⟨(st [(0x10, 3)]).put Reg.KPR_BOOT_STAGE 1, bootRep0, by decide, by decide⟩,
  ⟨(st [(0x10, 3)]).put Reg.KPR_BOOT_STAGE 2, bootRep0, by decide, by decide, by decide⟩,
  ⟨((st [(0x10, 3)]).put Reg.KPR_BOOT_STAGE 2).put Reg.TMP_STATUS_ACTIVE 2, bootRep0, 0, by decide, by decide, by decide⟩,
  ⟨(st [(0x10, 3)]).put Reg.KPR_BOOT_STAGE 3, { bootRep0 with ok := true }, by decide, by decide, by decide⟩,
  ⟨(st [(0x10, 3)]).put Reg.KPR_BOOT_STAGE 4, bootRep0, 0, ({} : FwImage), by decide, by decide, by decide⟩,
  ⟨{ (st [(0x10, 3)]).put Reg.KPR_BOOT_STAGE 4 with boot.banks := [] }, bootRep0, by decide, by decide, by decide⟩,
  ⟨(st [(0x10, 3)]).put Reg.KPR_BOOT_STAGE 5, { bootRep0 with ok := true }, by decide, by decide, by decide⟩,
  ⟨(st [(0x10, 3)]).put Reg.KPR_BOOT_STAGE 6, { bootRep0 with ok := true }, by decide, by decide, by decide, by decide⟩,
  ⟨(st [(0x10, 3)]).put Reg.KPR_BOOT_STAGE 7, _, bootRep0, _, by decide, by decide, rfl⟩,
  ⟨(st [(0x10, 3)]).put Reg.KPR_BOOT_STAGE 8, { bootRep0 with ok := true }, by decide, by decide, by decide, by decide⟩,
  ⟨(st [(0x10, 3)]).put Reg.KPR_BOOT_STAGE 9, bootRep0, by decide, by decide⟩,
  ⟨(st [(0x10, 3)]).put Reg.KPR_BOOT_STAGE 3, _, { bootRep0 with ok := false }, 7, by decide, by decide, by decide, rfl⟩,
  ⟨(st [(0x10, 3)]).put Reg.KPR_BOOT_STAGE 8, { bootRep0 with ok := false }, by decide, by decide, by decide⟩,
  ⟨st [(0x10, 0x3), (0x10018, 0x6)], { bootRep0 with ok := false }, by decide, by decide, by decide⟩,
  ⟨st [(0x10, 0x3)], 1, by decide, by decide, by decide⟩⟩

theorem test_hyp_BootFailuresEndInSafe :
(∃ (s : State) (reason : Nat) (source : Nat) (code : Nat) (detail : Nat), reason < 256 ∧ source < 256 ∧ code < 65536 ∧ s.get
    Reg.KPR_BOOT_STAGE < 15 ∧ s.st = stBoot) ∧
(∃ (s : State) (src : Nat), 1 ≤ src ∧ src ≤ 7 ∧ s.get Reg.KPR_BOOT_STAGE < 15 ∧ s.st = stBoot) :=
  ⟨⟨st [(0x10, 0x3)], 0, 0, 0, 0, by decide, by decide, by decide, by decide, by decide⟩,
  ⟨st [(0x10, 0x3)], 1, by decide, by decide, by decide, by decide⟩⟩

theorem test_hyp_CustodyLinesAndHeartbeat :
(∃ (s : State) (a : State) (stamp : Nat), a = (s.advance (stamp * nsUnit)).put Reg.GLB_STATUS_PEER 1) ∧
(∃ (s : State) (a : State) (stamp : Nat), a = (s.advance (stamp * nsUnit)).put Reg.GLB_STATUS_PEER 0) ∧
(∃ (s : State), s.flag Reg.GLB_STATUS_HOLD = true ∧ s.flag Reg.GLB_STATUS_PEER = true) ∧
(∃ (s : State) (a : State), s.mainAbsent = false ∧ a = (s.put Reg.GLB_STATUS_HOLD 0).setGate false) ∧
(∃ (s : State), s.mainAbsent = false) ∧
(∃ (s : State), s.pair.heartbeatLatch = true) ∧
(∃ (s : State), s.flag Reg.GLB_STATUS_HOLD = false ∧ s.flag Reg.GLB_STATUS_PEER = true ∧ s.pair.peerHello.isSome = true ∧
    s.pair.peerFlags % 2 = 0) ∧
(∃ (s : State) (code : Nat) (cls : Nat) (inst : Nat) (d : Nat), (cls = 3 ∨ cls = 4)) ∧
(∃ (s : State) (a : State) (code : Nat) (inst : Nat) (d : Nat), s.isActive code inst = false ∧ a = s.raiseRecord code 3 inst 0xFFFF
    d) ∧
(∃ (s : State) (a : State) (code : Nat) (inst : Nat) (d : Nat), s.isActive code inst = false ∧ a = s.raiseRecord code 4 inst 0xFFFF
    d ∧ a.ready = true ∧ a.st ≠ stSafe) :=
  ⟨⟨(st [(0x10, 5)]), _, 0, rfl⟩,
  ⟨(st [(0x10, 5)]), _, 0, rfl⟩,
  ⟨st [(0x10, 0x5), (0x14, 0x30)], by decide, by decide⟩,
  ⟨(st [(0x10, 5)]), _, by decide, rfl⟩,
  ⟨st [(0x10, 0x5)], by decide⟩,
  ⟨{ st [(0x10, 0x5)] with pair.heartbeatLatch := true }, by decide⟩,
  ⟨{ (st [(0x10, 5)]).put Reg.GLB_STATUS_PEER 1 with pair.peerHello := some hello0 }, by decide, by decide, by decide, by decide⟩,
  ⟨st [(0x10, 0x5)], 0, 3, 0, 0, by decide⟩,
  ⟨(st [(0x10, 5)]), _, 0, 0, 0, by decide, rfl⟩,
  ⟨(st [(0x10, 5)]), _, 0, 0, 0, by decide, rfl, by decide, by decide⟩⟩

theorem test_hyp_CustodyReleasedAndTried :
(∃ (s : State) (q : Req) (force : Bool), s.takes 0x21 q ∧ q.slice = 0 ∧ s.st = stActive ∧ (force = true ∨ (s.flag
    Reg.PAIR_STATUS_PARTNER = true ∧ s.flag Reg.PAIR_STATUS_PEER_READY = true ∧ (s.pair.peerDigests.head?.any fun d => decide
    (d.health ≤ 1)) = true))) ∧
(∃ (s : State) (s1 : State), s.tg.running = true ∧ s1 = s.advance (s.decisionInstant s.tg.next - (if s.roleA then 6000 else 3000) *
    nsUnit) ∧ s1.wantCustody = none) ∧
(∃ (s : State) (s1 : State) (k : _), s.tg.running = true ∧ s1 = s.advance (s.decisionInstant s.tg.next - (if s.roleA then 6000 else
    3000) * nsUnit) ∧ s1.wantCustody = some k ∧ (s1.flag Reg.GLB_STATUS_PEER = true ∨ s1.time < s1.pair.peerFellAt + 2000 * nsUnit)) ∧
(∃ (s : State) (s1 : State) (k : _), s.tg.running = true ∧ s1 = s.advance (s.decisionInstant s.tg.next - (if s.roleA then 6000 else
    3000) * nsUnit) ∧ s1.wantCustody = some k ∧ s1.flag Reg.GLB_STATUS_PEER = false ∧ s1.pair.peerFellAt + 2000 * nsUnit ≤ s1.time) ∧
(∃ (s : State), (s.flag Reg.GLB_STATUS_HOLD = true ∨ s.pair.waitBoundaries ≠ 0)) ∧
(∃ (s : State), s.flag Reg.PAIR_STATUS_PARTNER = false ∧ s.st = stShadow) ∧
(∃ (s : State), s.flag Reg.PAIR_STATUS_PARTNER = false ∧ s.st = stActive) ∧
(∃ (s : State) (a : State), s.flag Reg.PAIR_STATUS_PARTNER = false ∧ s.st = stSync ∧ a = s.raise1 0x0B01 1 0) ∧
(∃ (s : State) (a : State), s.st = stShadow ∧ s.flag Reg.GLB_STATUS_HOLD = false ∧ s.flag Reg.GLB_STATUS_PEER = false ∧ (a =
    s.advance (max s.pair.holderLostAt s.pair.handshakeAt + (if (s.pair.heldSinceHandshake = true ∨ s.flag Reg.PAIR_STATUS_PARTNER =
    false) ∧ s.roleA = false then 2 else 1) * s.get Reg.PAIR_CFG2_ORPHAN_MS * 1000000 * nsUnit))) ∧
(∃ (s : State), s.st = stSafe ∧ s.flag Reg.GLB_STATUS_PEER = false) :=
  ⟨⟨cmdOn 0x21 ((st [(0x10, 6)])), req, true, by decide, by decide, by decide, by decide⟩,
  ⟨{ (st [(0x10, 5)]) with tg.running := true }, _, by decide, rfl, by decide⟩,
  ⟨{ (st [(0x10, 7)]).put Reg.GLB_STATUS_PEER 1 with tg.running := true }, _, 7, by decide, rfl, by decide, by decide⟩,
  ⟨{ (st [(0x10, 7)]) with tg.running := true }, _, 7, by decide, rfl, by decide, by decide, by decide⟩,
  ⟨(st [(0x10, 5)]).put Reg.GLB_STATUS_HOLD 1, by decide⟩,
  ⟨st [(0x10, 0x5)], by decide, by decide⟩,
  ⟨st [(0x10, 0x6)], by decide, by decide⟩,
  ⟨(st [(0x10, 4)]), _, by decide, by decide, rfl⟩,
  ⟨(st [(0x10, 5)]), _, by decide, by decide, by decide, rfl⟩,
  ⟨st [(0x10, 0x8)], by decide, by decide⟩⟩

theorem test_hyp_ServiceEnds :
(∃ (s : State), s.st = stService) ∧
(∃ (s : State) (q : Req), s.takes 0x23 q ∧ q.slice = 0 ∧ s.st = stService) :=
  ⟨⟨st [(0x10, 0x9)], by decide⟩,
  ⟨cmdOn 0x23 ((st [(0x10, 9)])), req, by decide, by decide, by decide⟩⟩

theorem test_hyp_TickBoundaryRunsFiveActions :
(∃ (s : State) (d : Nat) (m : Bool) (c : Nat), s.tg.running = true) ∧
(∃ (s : State) (a : State) (now : Nat) (v : Int), a = s.advance (now * nsUnit) ∧ a.tim.armed = some v ∧ a.stepMay a.time = true) ∧
(∃ (s : State) (t : Nat), s.tg.running = false) :=
  ⟨⟨{ st [(0x10, 0x5)] with tg.running := true }, 0, true, 0, by decide⟩,
  ⟨{ (st [(0x10, 5)]) with tim.armed := some 0 }, _, 0, (0 : Int), rfl, rfl, by decide⟩,
  ⟨{ (st [(0x10, 5)]) with tg.running := false }, 0, by decide⟩⟩

theorem test_hyp_BlockCommitActs :
(∃ (s : State) (blk : Nat), s.st ≠ stBoot ∧ s.ready = true ∧ blk ∈ tBlocks) ∧
(∃ (s : State) (blk : Nat), s.st ≠ stBoot ∧ s.ready = true ∧ blk ∈ tBlocks) ∧
(∃ (s : State) (blk : Nat), s.st ≠ stBoot ∧ s.ready = true ∧ blk ∈ tBlocks) ∧
(∃ (s : State) (blk : Nat) (a : Nat), a ∈ s.shadowsOf blk) :=
  ⟨⟨st [(0x10, 0x5)], 6, by decide, by decide, by decide⟩,
  ⟨st [(0x10, 0x5)], 6, by decide, by decide, by decide⟩,
  ⟨st [(0x10, 0x5)], 6, by decide, by decide, by decide⟩,
  ⟨st [(0x10, 5), (0x80200, 1)], 8, 0x80200, by decide⟩⟩

theorem test_hyp_SlotCommandsActOrWait :
(∃ (s : State) (q : Req) (slot : Nat) (len : Nat) (key : Nat) (img : FnImage), s.takes 0x40 q ∧ img.version = 1 ∧ slot ≤ 1023 ∧
    imageOk img len = true ∧ s.isProt q.slice = true ∧ s.keyOwn key q.slice = true ∧ s.keyHasUse key 3 = true ∧ s.notIn stLoad =
    false ∧ s.slotState slot = slEmpty ∧ s.overQuota (Reg.SLC_SLICE_QA_SLOTS q.slice) 1 = false ∧ s.memoryShort img = false ∧
    img.digestOk = true ∧ img.sigOk = true ∧ s.keyUsable key q.slice 3 = true) ∧
(∃ (s : State) (q : Req) (slot : Nat) (x : Slot), s.takes 0x41 q ∧ slot ≤ 1023 ∧ s.findSlot slot = some x ∧ x.slice = q.slice ∧
    s.notIn stLoad = false ∧ s.slotState slot = slLoaded ∧ s.admitBad x = false) ∧
(∃ (s : State) (q : Req) (slot : Nat) (x : Slot), s.takes 0x42 q ∧ slot ≤ 1023 ∧ s.findSlot slot = some x ∧ (x.slice = q.slice ∨
    q.slice = 0) ∧ s.notIn stLoad = false ∧ (s.slotState slot = slLoaded ∨ s.slotState slot = slAdmitted ∨ s.slotState slot =
    slQuarantined)) ∧
(∃ (s : State) (q : Req) (slot : Nat) (group : Nat) (mode : Nat) (clear : Bool) (x : Slot), s.takes 0x46 q ∧ slot ≤ 1023 ∧
    s.findSlot slot = some x ∧ x.slice = q.slice ∧ (group = 0xFF ∨ group < x.img.ngroups) ∧ (mode = 0 ∨ mode = 0xFF ∨ (mode = 1 ∧
    x.img.elems.any isTopo = true)) ∧ (x.auto = false ∨ group = 0xFF ∨ mode = 0) ∧ s.notIn stRun = false ∧ slLoaded ≤ x.state ∧
    x.state ≤ slAdmitted) ∧
(∃ (s : State) (q : Req) (slot : Nat) (x : Slot), s.takes 0x43 q ∧ slot ≤ 1023 ∧ s.findSlot slot = some x ∧ x.slice = q.slice ∧
    s.notIn stRun = false ∧ (s.slotState slot = slAdmitted ∨ s.slotState slot = slRunning)) ∧
(∃ (s : State) (q : Req) (slot : Nat) (x : Slot), s.takes 0x44 q ∧ slot ≤ 1023 ∧ s.findSlot slot = some x ∧ x.slice = q.slice ∧
    s.notIn stRun = false ∧ s.slotState slot = slShadow ∧ s.agreeShort slot = false ∧ s.frozen x.slice = false) ∧
(∃ (s : State) (q : Req) (slot : Nat) (x : Slot), s.takes 0x45 q ∧ slot ≤ 1023 ∧ s.findSlot slot = some x ∧ (x.slice = q.slice ∨
    q.slice = 0) ∧ s.notIn stRun = false ∧ (s.slotState slot = slShadow ∨ s.slotState slot = slRunning)) ∧
(∃ (s : State) (q : Req) (slot : Nat) (group : Nat) (mode : Nat) (clear : Bool) (x : Slot), s.takes 0x46 q ∧ slot ≤ 1023 ∧
    s.findSlot slot = some x ∧ x.slice = q.slice ∧ (group = 0xFF ∨ group < x.img.ngroups) ∧ (mode = 0 ∨ mode = 0xFF ∨ (mode = 1 ∧
    x.img.elems.any isTopo = true)) ∧ (x.auto = false ∨ group = 0xFF ∨ mode = 0) ∧ s.notIn stRun = false ∧ (x.state = slShadow ∨
    x.state = slRunning)) ∧
(∃ (s : State) (n : Nat) (slot : Nat) (q : Req) (x : Slot), s.findSlot slot = some x ∧ x.state = slRunning) ∧
(∃ (s : State) (n : Nat) (slot : Nat) (q : Req) (x : Slot), s.findSlot slot = some x ∧ x.state = slAdmitted) ∧
(∃ (s : State) (n : Nat) (slot : Nat) (q : Req) (x : Slot), s.findSlot slot = some x ∧ x.state = slShadow ∧ s.agreeShort slot =
    false ∧ s.frozen x.slice = false) ∧
(∃ (s : State) (n : Nat) (slot : Nat) (q : Req) (x : Slot), s.findSlot slot = some x ∧ (x.state = slShadow ∨ x.state = slRunning)) :=
  ⟨⟨keyOn 0 8 (cmdOn 0x40 (((((st [(0x10, 5)]).put (Reg.SLC_SLICE_ID_VALID 0) 1).put (Reg.SLC_SLICE_ID_PROT 0) 1).wr 0x31004 0x80).wr
  0x90054 0x1000)), req, 0, 392, 0, img1, by decide, by decide, by decide, by decide, by decide, by decide, by decide, by decide,
  by decide, by decide, by decide, by decide, by decide, by decide⟩,
  ⟨cmdOn 0x41 { (st [(0x10, 5)]).wr 0x80014 0 with slots := [slotAt slLoaded] }, req, 3, slotAt slLoaded, by decide, by decide,
  by decide, by decide, by decide, by decide, by decide⟩,
  ⟨cmdOn 0x42 { (st [(0x10, 5)]) with slots := [slotAt slLoaded] }, req, 3, slotAt slLoaded, by decide, by decide, by decide,
  by decide, by decide, by decide⟩,
  ⟨cmdOn 0x46 { (st [(0x10, 5)]) with slots := [slotAt slLoaded] }, req, 3, 0xFF, 0, true, slotAt slLoaded, by decide, by decide,
  by decide, by decide, by decide, by decide, by decide, by decide, by decide, by decide⟩,
  ⟨cmdOn 0x43 { (st [(0x10, 5)]) with slots := [slotAt slAdmitted] }, req, 3, slotAt slAdmitted, by decide, by decide, by decide,
  by decide, by decide, by decide⟩,
  ⟨cmdOn 0x44 { (st [(0x10, 5)]).wr 0x9005c 0 with slots := [slotAt slShadow] }, req, 3, slotAt slShadow, by decide, by decide,
  by decide, by decide, by decide, by decide, by decide, by decide⟩,
  ⟨cmdOn 0x45 { (st [(0x10, 5)]) with slots := [slotAt slShadow] }, req, 3, slotAt slShadow, by decide, by decide, by decide,
  by decide, by decide, by decide⟩,
  ⟨cmdOn 0x46 { (st [(0x10, 5)]) with slots := [slotAt slShadow] }, req, 3, 0xFF, 0, true, slotAt slShadow, by decide, by decide,
  by decide, by decide, by decide, by decide, by decide, by decide, by decide⟩,
  ⟨{ (st [(0x10, 5)]) with slots := [slotAt slRunning] }, 0, 3, req, slotAt slRunning, by decide, by decide⟩,
  ⟨{ (st [(0x10, 5)]) with slots := [slotAt slAdmitted] }, 0, 3, req, slotAt slAdmitted, by decide, by decide⟩,
  ⟨{ (st [(0x10, 5)]).wr 0x9005c 0 with slots := [slotAt slShadow] }, 0, 3, req, slotAt slShadow, by decide, by decide, by decide,
  by decide⟩,
  ⟨{ (st [(0x10, 5)]) with slots := [slotAt slShadow] }, 0, 3, req, slotAt slShadow, by decide, by decide⟩⟩

theorem test_hyp_VoteTakesTheMajority :
(∃ (a : List Nat) (b : List Nat) (c : List Nat) (i : Nat), a.length = b.length ∧ b.length = c.length ∧ i < a.length) ∧
(∃ (a : List Nat) (b : List Nat) (c : List Nat), a.length = b.length ∧ b.length = c.length) :=
  ⟨⟨[1, 2], [1, 3], [2, 3], 1, by decide, by decide, by decide⟩,
  ⟨[1, 2], [1, 3], [2, 3], by decide, by decide⟩⟩

theorem test_hyp_VoteSettlesTheTick :
(∃ (s : State) (a : State) (b : State) (d : Option Nat) (l : List (Nat × Nat)), s.tg.running = true ∧ s.isSettled s.tg.next = false
    ∧ a = s.advance (s.voteInstant s.tg.next) ∧ b = a.benchesAt s.tg.next ∧ b.svi.enabled = true ∧ b.core.noImage ≠ some s.tg.next ∧
    b.layoutOf s.tg.next = some l ∧ b.flag Reg.ROD_CTRL_EN = true ∧ b.resyncTick = false) ∧
(∃ (s : State) (a : State) (b : State) (c : State) (d : Option Nat) (x : Settled), s.tg.running = true ∧ s.isSettled s.tg.next =
    false ∧ a = s.advance (s.voteInstant s.tg.next) ∧ b = a.benchesAt s.tg.next ∧ b.svi.enabled = true ∧ b.core.noImage = some
    s.tg.next ∧ x = { tick := s.tg.next, decided := false, voters := 0, idle := false, noImage := true, stream := [], layout := [], shadow := [], sdig := 0, rdig := 0 }
    ∧ c = { b with core := { b.core with settled := some x } }) ∧
(∃ (s : State) (a : State) (b : State) (d : Option Nat), s.tg.running = true ∧ s.isSettled s.tg.next = false ∧ a = s.advance
    (s.voteInstant s.tg.next) ∧ b = a.benchesAt s.tg.next ∧ (b.svi.enabled = false ∨ (b.core.noImage ≠ some s.tg.next ∧ b.layoutOf
    s.tg.next = none))) ∧
(∃ (s : State) (a : State) (b : State) (d : Option Nat) (l : List (Nat × Nat)), s.tg.running = true ∧ s.isSettled s.tg.next = false
    ∧ a = s.advance (s.voteInstant s.tg.next) ∧ b = a.benchesAt s.tg.next ∧ b.svi.enabled = true ∧ b.core.noImage ≠ some s.tg.next ∧
    b.layoutOf s.tg.next = some l ∧ (b.flag Reg.ROD_CTRL_EN = false ∨ b.resyncTick = true)) ∧
(∃ (s : State) (a : State) (r : Nat) (corr : Nat) (overs : List Nat) (upset : List (Nat × Nat)) (w : Work) (l : List Work) (c :
    RodState × Delivery), r ≤ 2 ∧ (s.rodSt r = rodVoting ∨ s.rodSt r = rodVerifying) ∧ (s.rod r).todo = w :: l ∧ c = computeRod
    s.tg.f s.cle.prog w overs upset (s.rod r) ∧ a = ((s.countBy (Reg.ROD_RODSTAT_ECC_CORR r) corr).noteOver w.image.tick r
    overs).donorStream r w.image.tick c.2.sdig (s.rod r) c.1 ∧ a.isSettled w.image.tick = false) ∧
(∃ (s : State) (a : State) (r : Nat) (corr : Nat) (overs : List Nat) (voted : List Nat) (upset : List (Nat × Nat)) (w : Work) (l :
    List Work) (c : RodState × Delivery), r ≤ 2 ∧ (s.rodSt r = rodVoting ∨ s.rodSt r = rodVerifying) ∧ (s.rod r).todo = w :: l ∧ c =
    computeRod s.tg.f s.cle.prog w overs upset (s.rod r) ∧ a = ((s.countBy (Reg.ROD_RODSTAT_ECC_CORR r) corr).noteOver w.image.tick
    r overs).donorStream r w.image.tick c.2.sdig (s.rod r) c.1 ∧ a.isSettled w.image.tick = true ∧ findKey Prod.fst w.image.tick
    a.core.retained = some (w.image.tick, voted)) ∧
(∃ (s : State) (r : Nat), r ≤ 2 ∧ s.rodSt r = rodResetting) ∧
(∃ (s : State) (r : Nat), r ≤ 2 ∧ s.rodSt r = rodResetting) ∧
(∃ (s : State) (r : Nat) (corr : Nat), r ≤ 2 ∧ s.mainAbsent = false) ∧
(∃ (s : State) (a : State) (r : Nat) (word : Nat), r ≤ 2 ∧ s.mainAbsent = false ∧ a = (s.count (Reg.ROD_RODSTAT_ECC_UNCORR r)).event
    79) :=
  ⟨⟨{ (st [(0x10, 5)]).put Reg.ROD_CTRL_EN 1 with tg.running := true, svi.enabled := true, core.layout := [(0, [])] }, _, _, none, [],
  by decide, by decide, rfl, rfl, by decide, by decide, by decide, by decide, by decide⟩,
  ⟨{ (st [(0x10, 5)]) with tg.running := true, svi.enabled := true, core.noImage := some 0 }, _, _, _, none, _, by decide, by decide,
  rfl, rfl, by decide, by decide, rfl, rfl⟩,
  ⟨{ (st [(0x10, 5)]) with tg.running := true }, _, _, none, by decide, by decide, rfl, rfl, by decide⟩,
  ⟨{ (st [(0x10, 5)]) with tg.running := true, svi.enabled := true, core.layout := [(0, [])] }, _, _, none, [], by decide, by decide,
  rfl, rfl, by decide, by decide, by decide, by decide⟩,
  ⟨{ (st [(0x10, 5)]).put (Reg.BEAM_ROD_STATE_STATE 0) rodVoting with core.rods := [({ todo := [work0] } : RodState), {}, {}] }, _, 0,
  0, [], [], work0, [], _, by decide, by decide, by decide, rfl, rfl, by decide⟩,
  ⟨{ (st [(0x10, 5)]).put (Reg.BEAM_ROD_STATE_STATE 0) rodVoting with core.rods := [({ todo := [work0] } : RodState), {}, {}], core.settled := some settled0, core.retained := [(0, [])] },
  _, 0, 0, [], [], [], work0, [], _, by decide, by decide, by decide, rfl, rfl, by decide, by decide⟩,
  ⟨st [(0x10, 0x5), (0xa0040, 0x2)], 0, by decide, by decide⟩,
  ⟨st [(0x10, 0x5), (0xa0040, 0x2)], 0, by decide, by decide⟩,
  ⟨(st [(0x10, 5)]), 0, 0, by decide, by decide⟩,
  ⟨(st [(0x10, 5)]), _, 0, 0, by decide, by decide, rfl⟩⟩

theorem test_hyp_RodsRejoin :
(∃ (s : State) (r : Nat) (written : Nat), r ≤ 2 ∧ s.rodSt r = rodCopying ∧ (s.rod r).finalDue = false ∧ s.donor ≠ none ∧ written ≤
    262144) ∧
(∃ (s : State) (r : Nat) (written : Nat), r ≤ 2 ∧ s.rodSt r = rodCopying ∧ (s.rod r).finalDue = false ∧ s.donor ≠ none ∧ 262144 <
    written ∧ s.get (Reg.BEAM_ROD_COPY_ROUNDS r) < 64) ∧
(∃ (s : State) (r : Nat) (written : Nat), r ≤ 2 ∧ s.rodSt r = rodCopying ∧ (s.rod r).finalDue = false) ∧
(∃ (s : State) (r : Nat) (written : Nat) (dn : Nat), r ≤ 2 ∧ s.rodSt r = rodCopying ∧ (s.rod r).finalDue = true ∧ s.isSettled
    s.tg.next = true ∧ s.donor = some dn ∧ (resultFor (s.rod dn) s.tg.next).isSome = true ∧ written ≤ 262144) ∧
(∃ (s : State), s.st ≠ stBoot ∧ s.flag Reg.ROD_CTRL_EN = false) ∧
(∃ (s : State), s.st ≠ stBoot ∧ s.flag Reg.ROD_CTRL_EN = true) ∧
(∃ (s : State) (en : Bool), s.st ≠ stBoot ∧ s.flag Reg.ROD_CTRL_EN = en) ∧
(∃ (s : State) (en : Bool), s.st = stBoot) ∧
(∃ (s : State) (r : Nat), r ≤ 2 ∧ s.st ≠ stService) ∧
(∃ (s : State) (r : Nat), r ≤ 2 ∧ s.st = stService ∧ s.rodSt r = rodLockedOut) ∧
(∃ (s : State) (a : State), s.mainAbsent = false ∧ (s.tg.running = false ∨ s.isSettled s.tg.next = false) ∧ a = (s.countMod
    Reg.BEAM_SELFTEST_RUNS 1).putFlag Reg.BEAM_STATUS_ST_FAIL false) ∧
(∃ (s : State) (a : State) (b : State) (v : Nat), s.mainAbsent = false ∧ (s.tg.running = false ∨ s.isSettled s.tg.next = false) ∧ a
    = (s.countMod Reg.BEAM_SELFTEST_RUNS 1).putFlag Reg.BEAM_STATUS_ST_FAIL true ∧ b = { (a.count Reg.BEAM_SELFTEST_FAIL).event 86 with core := { a.core with stFails := a.core.stFails + 1, stDue := true } }) :=
  ⟨⟨((st [(0x10, 5)]).put (Reg.BEAM_ROD_STATE_STATE 0) rodCopying).put (Reg.BEAM_ROD_STATE_STATE 1) rodVoting, 0, 0, by decide,
  by decide, by decide, by decide, by decide⟩,
  ⟨((st [(0x10, 5)]).put (Reg.BEAM_ROD_STATE_STATE 0) rodCopying).put (Reg.BEAM_ROD_STATE_STATE 1) rodVoting, 0, 262145, by decide,
  by decide, by decide, by decide, by decide, by decide⟩,
  ⟨(st [(0x10, 5)]).put (Reg.BEAM_ROD_STATE_STATE 0) rodCopying, 0, 0, by decide, by decide, by decide⟩,
  ⟨{ ((st [(0x10, 5)]).put (Reg.BEAM_ROD_STATE_STATE 0) rodCopying).put (Reg.BEAM_ROD_STATE_STATE 1) rodVoting with core.rods := [({ finalDue := true } : RodState), { result := some run0 }, {}], core.settled := some settled0 },
  0, 0, 1, by decide, by decide, by decide, by decide, by decide, by decide, by decide⟩,
  ⟨st [(0x10, 0x5)], by decide, by decide⟩,
  ⟨st [(0x10, 0x5), (0x90010, 0x1)], by decide, by decide⟩,
  ⟨(st [(0x10, 5)]), false, by decide, by decide⟩,
  ⟨st [(0x10, 0x3)], true, by decide⟩,
  ⟨st [(0x10, 0x5)], 0, by decide, by decide⟩,
  ⟨st [(0x10, 0x9), (0xa0040, 0x6)], 0, by decide, by decide, by decide⟩,
  ⟨(st [(0x10, 5)]), _, by decide, by decide, rfl⟩,
  ⟨(st [(0x10, 5)]), _, _, 0, by decide, by decide, rfl, rfl⟩⟩

theorem test_hyp_ReadoutsAnswer :
(∃ (s : State) (q : Req) (len : Nat), s.reaches 0x1 q = true ∧ q.version = 1 ∧ 128 + 24 * (s.faultsFor q.slice).length ≤ len) ∧
(∃ (s : State) (q : Req) (len : Nat), s.reaches 0x1 q = true ∧ q.version = 1 ∧ len < 128 + 24 * (s.faultsFor q.slice).length) ∧
(∃ (s : State) (q : Req) (start : Nat) (len : Nat) (l : List (Nat × Nat × JEntry)), s.reaches 0x2 q = true ∧ q.version = 1 ∧ q.slice
    = 0 ∧ 56 ≤ len ∧ l = (s.journal.log.filter fun x => decide (start ≤ x.1)).take ((len - 8) / 48)) ∧
(∃ (s : State) (q : Req) (start : Nat) (len : Nat) (l : List (Nat × List Nat)), s.reaches 0x2 q = true ∧ q.version = 1 ∧ q.slice = 0
    ∧ 56 ≤ len ∧ l = (s.keyEntries.filter fun x => decide (start ≤ x.1)).take ((len - 8) / 48)) ∧
(∃ (s : State) (a : State) (q : Req) (block : Nat) (len : Nat) (clear : Bool) (offs : List Nat), s.reaches 0x3 q = true ∧ q.version
    = 1 ∧ q.slice = 0 ∧ block ≤ 0x19 ∧ offs = (((List.range 16384).map fun i => 4 * i).filter fun off => isCounter block off) ∧ 16 *
    (offs.length + (s.nodeTables block).length) ≤ len ∧ a = (if clear then offs.foldl (fun s off => s.clearRc block off) s else s)) ∧
(∃ (s : State) (q : Req) (block : Nat) (len : Nat) (clear : Bool) (offs : List Nat), s.reaches 0x3 q = true ∧ q.version = 1 ∧
    q.slice = 0 ∧ block ≤ 0x19 ∧ offs = (((List.range 16384).map fun i => 4 * i).filter fun off => isCounter block off) ∧ len < 16 *
    (offs.length + (s.nodeTables block).length)) :=
  ⟨⟨cmdOn 0x1 ((st [(0x10, 5)])), req, 4096, by decide, by decide, by decide⟩,
  ⟨cmdOn 0x1 ((st [(0x10, 5)])), req, 0, by decide, by decide, by decide⟩,
  ⟨cmdOn 0x2 ((st [(0x10, 5)])), req, 0, 56, _, by decide, by decide, by decide, by decide, rfl⟩,
  ⟨cmdOn 0x2 ((st [(0x10, 5)])), req, 0, 56, _, by decide, by decide, by decide, by decide, rfl⟩,
  ⟨cmdOn 0x3 ((st [(0x10, 5)])), _, req, 0, 300000, false, _, by decide, by decide, by decide, by decide, rfl, filter_room (fun off =>
  isCounter 0 off) ((cmdOn 0x3 (st [(0x10, 5)])).nodeTables 0) rfl, rfl⟩,
  ⟨cmdOn 0x3 { (st [(0x10, 5)]) with macs.nodes := [(0, [(1, 0)])] }, req, 6, 0, true, _, by decide, by decide, by decide, by decide,
  rfl, Nat.mul_pos (by decide) (Nat.add_pos_right _ (by decide))⟩⟩

theorem test_hyp_InjectionsAndSelfTests :
(∃ (s : State) (q : Req) (d : InjDesc) (i : Injection), s.takes 0x38 q ∧ d.version = 1 ∧ descBad d = false ∧ s.injPriv q d = false ∧
    stRun.contains s.st = true ∧ (d.kind ≠ 5 ∨ d.target ∈ [1, 2, 4] ∨ s.flag Reg.GLB_STATUS_KEEPCUST = false) ∧ s.inj.length < 8 ∧
    (s.inj.any fun i => i.id == s.injId d) = false ∧ i = { id := s.injId d, kind := d.kind, slice := q.slice, flags := d.flags, target := d.target, tcmask := d.tcmask, ring := d.ring, n := d.n, param := d.param, mask := d.mask, limit := d.limit, durationMs := d.duration, active := false, startTick := 0, endsAt := 0 }) ∧
(∃ (s : State) (q : Req) (id : Nat), s.takes 0x39 q ∧ (id ≤ 7 ∨ id = 0xFF) ∧ (q.slice = 0 ∨ (s.inj.any fun i => i.id == id &&
    i.slice ≠ q.slice) = false)) ∧
(∃ (s : State) (a : State) (id : Nat) (now : Nat) (i : Injection), a = s.advance (now * nsUnit) ∧ (a.inj.find? fun i => i.id == id
    && i.active) = some i ∧ a.injEndReason i (a.tg.next - 1) ≠ 0) ∧
(∃ (s : State) (test : Nat), s.mainAbsent = false ∧ test ≤ 8 ∧ test ≠ 5) ∧
(∃ (s : State) (a : State) (test : Nat), s.mainAbsent = false ∧ test ≤ 8 ∧ test ≠ 5 ∧ a = (s.event 8).raiseAt 0x0106 2 test test) ∧
(∃ (s : State) (unit : Nat) (addr : Nat), s.mainAbsent = false) ∧
(∃ (s : State) (a : State) (code : Nat) (unit : Nat) (d : Nat) (now : Nat), a = s.advance (now * nsUnit) ∧ code ∈ timedClears ∧
    a.isActive code unit = true ∧ a.causeSeen code unit = false) ∧
(∃ (s : State) (a : State) (b : State) (plate : Int) (die : Int), s.mainAbsent = false ∧ a = (s.put Reg.GLB_TEMP_PLATE (unsigned 16
    (saturate 16 plate))).put Reg.GLB_TEMP_DIE (unsigned 16 (saturate 16 die)) ∧ b = (if 85 * 128 < plate ∧ a.isActive 0x0002 0 =
    false then (a.event 4).raise1 0x0002 1 (a.get Reg.GLB_TEMP_PLATE) else a)) :=
  ⟨⟨cmdOn 0x38 ((st [(0x10, 9)])), req, { injDesc0 with id := 2, tcmask := 255, target := 2, duration := 100 }, _, by decide,
  by decide, by decide, by decide, by decide, by decide, by decide, by decide, rfl⟩,
  ⟨cmdOn 0x39 ((st [(0x10, 5)])), req, 0, by decide, by decide, by decide⟩,
  ⟨{ (st [(0x10, 5)]) with inj := [inj0] }, _, 0, 0, inj0, rfl, by decide, by decide⟩,
  ⟨(st [(0x10, 5)]), 0, by decide, by decide, by decide⟩,
  ⟨(st [(0x10, 5)]), _, 0, by decide, by decide, by decide, rfl⟩,
  ⟨(st [(0x10, 5)]), 0, 0, by decide⟩,
  ⟨{ (st [(0x10, 5)]) with faults := [⟨0, { fault0 with code := 0x0C01 }⟩] }, _, 0x0C01, 0, 0, 0, rfl, by decide, by decide,
  by decide⟩,
  ⟨(st [(0x10, 5)]), _, _, (0 : Int), (0 : Int), by decide, rfl, rfl⟩⟩

theorem test_hyp_SlicesAreMadeFrozenRestored :
(∃ (s : State) (k : Nat) (data : Word), k ≤ 255 ∧ s.st = stBoot) ∧
(∃ (s : State) (s1 : State) (k : Nat) (data : Word), 1 ≤ k ∧ k ≤ 255 ∧ s.st ≠ stBoot ∧ s.sliceValid k = false ∧ data.field 31 1 = 1
    ∧ s.validOk k data = true ∧ s1 = s.wr (0x31000 + 0x40 * k) (BitVec.ofNat 32 (data.toNat / 2 ^ 28 * 2 ^ 28 + data.field 0 20))) ∧
(∃ (s : State) (k : Nat) (data : Word), 1 ≤ k ∧ k ≤ 255 ∧ s.st ≠ stBoot ∧ s.sliceValid k = true ∧ data.field 31 1 = 0 ∧
    s.usesNothing k = false) ∧
(∃ (s : State) (data : Word), s.st ≠ stBoot ∧ data.field 0 20 = s.get (Reg.SLC_SLICE_ID_PASID 0)) ∧
(∃ (s : State) (q : Req) (k : Nat) (len : Nat) (buf : Nat), s.takes 0x60 q ∧ 1 ≤ k ∧ k ≤ 255 ∧ s.isProt k = false ∧ q.slice = 0 ∧
    s.notIn stRun = false ∧ s.sliceValid k = true ∧ s.get (Reg.SLC_SLICE_STATE_MIG k) = 0 ∧ (s.sliceImage k s.tg.next s.ns).length ≤
    len ∧ s.sliceOp = none) ∧
(∃ (s : State) (q : Req) (k : Nat) (len : Nat) (buf : Nat), s.takes 0x60 q ∧ 1 ≤ k ∧ k ≤ 255 ∧ s.isProt k = false ∧ q.slice = 0 ∧
    s.notIn stRun = false ∧ s.sliceValid k = true ∧ s.get (Reg.SLC_SLICE_STATE_MIG k) = 0 ∧ len < (s.sliceImage k s.tg.next
    s.ns).length) ∧
(∃ (s : State) (o : SliceOp) (i : SliceImg), s.sliceOp = some o ∧ o.restore = false ∧ o.started = true ∧ (s.rings.any fun x =>
    x.slice == o.slice && (!x.taken.isEmpty || x.cur.isSome)) = false ∧ i = s.sliceImage o.slice o.tick o.at' ∧ i.length ≤ o.buflen) ∧
(∃ (s : State) (q : Req) (k : Nat) (len : Nat) (img : SliceImg), s.takes 0x61 q ∧ 1 ≤ k ∧ k ≤ 255 ∧ s.isProt k = false ∧ q.slice = 0
    ∧ s.notIn stRun = false ∧ s.sliceValid k = true ∧ s.get (Reg.SLC_SLICE_STATE_MIG k) = 2 ∧ s.sliceOp = none) ∧
(∃ (s : State) (a : State) (q : Req) (k : Nat) (len : Nat) (img : SliceImg), s.takes 0x61 q ∧ img.version = 1 ∧ 1 ≤ k ∧ k ≤ 255 ∧
    s.isProt k = false ∧ s.missingKey k img = none ∧ q.slice = 0 ∧ s.notIn stRun = false ∧ s.sliceValid k = true ∧ s.get
    (Reg.SLC_SLICE_STATE_MIG k) = 0 ∧ s.holdsNothing k = true ∧ img.length ≤ len ∧ s.quotaShort k img = false ∧ img.rings.length ≤
    s.freeRings.length ∧ img.dramMiB ≤ s.get (Reg.SLC_SLICE_DRAMW_SIZE k) ∧ img.blocks.all s.blockFree = true ∧ (img.rings = [] ∨
    s.flag Reg.HIF_LINK_PASID_EN = true) ∧ s.sliceOp = none ∧ img.digest = imageDigest img ∧ imageFormed img = true ∧ a = { s with sliceOp := some { slice := k, restore := true, thaw := false, img := some img, alloc := s.freeRings.take img.rings.length }, multi := s.multi ++ [⟨q, 0x61, k, 0⟩] }) :=
  ⟨⟨st [(0x10, 0x3)], 0, (0 : Word), by decide, by decide⟩,
  ⟨(st [(0x10, 5)]).wr 0x31010 0, _, 1, 0x80000001, by decide, by decide, by decide, by decide, by decide, by decide, rfl⟩,
  ⟨st [(0x10, 0x5), (0x31040, 0x80000000), (0x3106c, 0x1)], 1, (0 : Word), by decide, by decide, by decide, by decide, by decide,
  by decide⟩,
  ⟨(st [(0x10, 5)]), (0 : Word), by decide, by decide⟩,
  ⟨cmdOn 0x60 ((st [(0x10, 5)]).put (Reg.SLC_SLICE_ID_VALID 1) 1), req, 1, ((cmdOn 0x60 ((st [(0x10, 5)]).put (Reg.SLC_SLICE_ID_VALID
  1) 1)).sliceImage 1 (cmdOn 0x60 ((st [(0x10, 5)]).put (Reg.SLC_SLICE_ID_VALID 1) 1)).tg.next (cmdOn 0x60 ((st [(0x10, 5)]).put
  (Reg.SLC_SLICE_ID_VALID 1) 1)).ns).length, 0, by decide, by decide, by decide, by decide, by decide, by decide, by decide,
  by decide, Nat.le_refl _, by decide⟩,
  ⟨cmdOn 0x60 ((st [(0x10, 5)]).put (Reg.SLC_SLICE_ID_VALID 1) 1), req, 1, 0, 0, by decide, by decide, by decide, by decide,
  by decide, by decide, by decide, by decide, imageLength_pos _⟩,
  ⟨{ st [(0x10, 5)] with sliceOp := some { sliceOp0 with started := true, buflen := ((st [(0x10, 5)]).sliceImage 1 0 0).length } }, { sliceOp0 with started := true, buflen := ((st [(0x10, 5)]).sliceImage 1 0 0).length },
  _, rfl, by decide, by decide, by decide, rfl, Nat.le_of_eq (congrArg SliceImg.length (sliceImage_op _ _ _ _ _))⟩,
  ⟨cmdOn 0x61 (((st [(0x10, 5)]).put (Reg.SLC_SLICE_ID_VALID 1) 1).put (Reg.SLC_SLICE_STATE_MIG 1) 2), req, 1, 0, sliceImg0,
  by decide, by decide, by decide, by decide, by decide, by decide, by decide, by decide, by decide⟩,
  ⟨cmdOn 0x61 ((st [(0x10, 5)]).put (Reg.SLC_SLICE_ID_VALID 1) 1), _, req, 1, 208, { sliceImg0 with length := 208, sections := 1, digest := imageDigest { sliceImg0 with length := 208, sections := 1 } },
  by decide, by decide, by decide, by decide, by decide, by decide, by decide, by decide, by decide, by decide, by decide,
  by decide, by decide, Nat.zero_le _, by decide, by decide, by decide, by decide, rfl, by decide +kernel, rfl⟩⟩

theorem test_hyp_MailboxWritesAndRelay :
(∃ (s : State) (a : State) (k : Nat) (data : Nat), s.pageOpen k = true ∧ s.flag (mbEn k) = false ∧ data % 2 = 1 ∧ a = (((s.put (mbEn
    k) 1).put (mbActive k) 1).put (mbErr k) 0).wr (0x200214 + 0x1000 * k) 0) ∧
(∃ (s : State) (k : Nat) (data : Nat), s.pageOpen k = true ∧ s.flag (mbEn k) = true ∧ data % 2 = 0) ∧
(∃ (s : State) (k : Nat) (data : Nat), s.pageOpen k = true ∧ s.flag (mbEn k) = true ∧ idx16 (data % 65536) (s.get (mbOutMod k)) ≤ 64
    ∧ idx16 (data % 65536) (s.get (mbOutHost k)) ≤ idx16 (data % 65536) (s.get (mbOutMod k))) ∧
(∃ (s : State) (k : Nat) (data : Nat), s.pageOpen k = true ∧ s.flag (mbEn k) = true ∧ (64 < idx16 (data % 65536) (s.get (mbOutMod
    k)) ∨ idx16 (data % 65536) (s.get (mbOutMod k)) < idx16 (data % 65536) (s.get (mbOutHost k)))) ∧
(∃ (s : State) (k : Nat) (data : Nat), s.pageOpen k = true ∧ s.flag (mbEn k) = true ∧ idx16 (data % 65536) (s.get (mbInHost k)) ≤
    idx16 (s.get (mbInMod k)) (s.get (mbInHost k))) ∧
(∃ (s : State) (k : Nat) (data : Nat), s.pageOpen k = true ∧ s.flag (mbEn k) = true ∧ idx16 (s.get (mbInMod k)) (s.get (mbInHost k))
    < idx16 (data % 65536) (s.get (mbInHost k))) ∧
(∃ (s : State) (k : Nat) (m : MbMsg), s.mbMoves k = true) ∧
(∃ (s : State) (a : State) (k : Nat) (next : Option MbMsg) (x : MbMsg) (w : List MbMsg), s.mbMoves k = true ∧ a = next.elim s
    (s.mbTake k) ∧ (a.mbOf k).waiting = x :: w ∧ a.mbStatus k x = .ok) ∧
(∃ (s : State) (a : State) (k : Nat) (next : Option MbMsg) (x : MbMsg) (w : List MbMsg), s.mbMoves k = true ∧ a = next.elim s
    (s.mbTake k) ∧ (a.mbOf k).waiting = x :: w ∧ a.mbStatus k x ≠ .ok) ∧
(∃ (s : State) (k : Nat) (data : Nat), k ≤ 255 ∧ data % 2 = 1) ∧
(∃ (s : State) (k : Nat), k ≤ 255 ∧ s.flag (mbEn k) = true) :=
  ⟨⟨(st [(0x10, 5)]).wr 0x31000 0x80000000, _, 0, 1, by decide, by decide, by decide, rfl⟩,
  ⟨st [(0x10, 0x5), (0x200210, 0x1)], 0, 0, by decide, by decide, by decide⟩,
  ⟨st [(0x10, 0x5), (0x200210, 0x1)], 0, 0, by decide, by decide, by decide, by decide⟩,
  ⟨(st [(0x10, 5)]).put (mbEn 0) 1, 0, 65, by decide, by decide, by decide⟩,
  ⟨st [(0x10, 0x5), (0x200210, 0x1)], 0, 0, by decide, by decide, by decide⟩,
  ⟨(st [(0x10, 5)]).put (mbEn 0) 1, 0, 1, by decide, by decide, by decide⟩,
  ⟨(((st [(0x10, 5)]).wr 0x20010 0x100).wr 0x31000 0x80000000).wr 0x200210 3, 0, mbMsg0, by decide⟩,
  ⟨{ (((((st [(0x10, 5)]).wr 0x20010 0x100).wr 0x31000 0x80000000).wr 0x200210 3).wr 0x31040 0x80000000).wr 0x201210 3 with mbs := [{ slice := 0, waiting := [{ mbMsg0 with peer := 1 }] }] },
  _, 0, none, { mbMsg0 with peer := 1 }, [], by decide, rfl, by decide, by decide⟩,
  ⟨{ (((st [(0x10, 5)]).wr 0x20010 0x100).wr 0x31000 0x80000000).wr 0x200210 3 with mbs := [{ slice := 0, waiting := [mbMsg0] }] }, _,
  0, none, mbMsg0, [], by decide, rfl, by decide, by decide⟩,
  ⟨st [(0x10, 0x5)], 0, 1, by decide, by decide⟩,
  ⟨st [(0x10, 0x5), (0x200210, 0x1)], 0, by decide, by decide⟩⟩

theorem test_hyp_HandoverBeginsAndMoves :
(∃ (s : State) (a : State) (q : Req) (slice : Nat) (peer : Nat) (path : Nat) (ps : Nat) (e : TokenEntry) (h : HoState), s.takes 0x62
    q ∧ slice ≤ 255 ∧ peer ≤ 4095 ∧ path ≤ 4 ∧ ps ≤ 255 ∧ q.slice = 0 ∧ s.notIn [6, 7] = false ∧ s.sliceValid slice = true ∧
    s.isProt slice = true ∧ s.tokenOf (s.get (Reg.SLC_SLICE_DSID_DSID slice)) = some e ∧ (e.status = 1 ∨ e.status = 4) ∧ s.hoPhase =
    0 ∧ h = { slice := slice, peer := peer, role := 0, path := path, peerSlice := ps, dsid := s.get (Reg.SLC_SLICE_DSID_DSID slice), serial := e.serial, copyDue := true, shut := s.ho.shut, openTo := s.ho.openTo, notTaken := s.ho.notTaken, resolving := s.ho.resolving, moves := s.ho.moves, tokSync := s.ho.tokSync }
    ∧ a = { s with ho := h, core := { s.core with hoLoad := [] } }) ∧
(∃ (s : State) (a : State) (q : Req) (slice : Nat) (peer : Nat) (path : Nat) (ps : Nat) (dsid : Nat) (h : HoState), s.takes 0x62 q ∧
    slice ≤ 255 ∧ peer ≤ 4095 ∧ path ≤ 4 ∧ ps ≤ 255 ∧ q.slice = 0 ∧ s.notIn [6, 7] = false ∧ s.sliceValid slice = true ∧ s.isProt
    slice = true ∧ dsid = s.get (Reg.SLC_SLICE_DSID_DSID slice) ∧ (∀ e, s.tokenOf dsid = some e → e.status ≠ 1 ∧ e.status ≠ 4) ∧ (∀
    x ∈ s.sliceSlots slice, slAdmitted ≤ x.state ∧ x.state ≤ slRunning) ∧ s.ledgerRoom dsid = true ∧ (∀ g ∈ s.sliceEngines slice,
    engLoad s.slots [] g + s.copyCycles slice path ≤ admissionLimit (s.get Reg.SVI_CFG_RATE)) ∧ s.hoPhase = 0 ∧ h = { slice := slice, peer := peer, role := 1, path := path, peerSlice := ps, dsid := dsid, serial := (s.tokenOf dsid).elim 0 TokenEntry.serial, copyDue := false, shut := s.ho.shut, openTo := s.ho.openTo, notTaken := s.ho.notTaken, resolving := s.ho.resolving, moves := s.ho.moves, tokSync := s.ho.tokSync }
    ∧ a = { s with ho := h, core := { s.core with hoLoad := (s.sliceEngines slice).map fun g => (g, s.copyCycles slice path) } }) ∧
(∃ (s : State) (q : Req) (slice : Nat), s.takes 0x63 q ∧ slice ≤ 255 ∧ q.slice = 0 ∧ s.notIn [6, 7] = false ∧ s.hoPhase ≠ 0 ∧
    s.ho.slice = slice ∧ s.hoReleased = false) ∧
(∃ (s : State) (q : Req) (slice : Nat), s.takes 0x63 q ∧ slice ≤ 255 ∧ q.slice = 0 ∧ s.hoReleased = true) ∧
(∃ (s : State) (m : HoMsg), s.hoAccepts m = true ∧ s.ho.role = 0 ∧ s.hoPhase = 2) ∧
(∃ (s : State) (m : HoMsg), s.hoAccepts m = true ∧ s.ho.role = 1 ∧ s.ho.readySent = true) ∧
(∃ (s : State) (a : State) (m : HoMsg), s.hoAccepts m = true ∧ s.ho.role = 0 ∧ s.hoPhase = 3 ∧ m.tick = s.ho.m ∧ a = { s with ho := { s.ho with accepted := true, openTo := setKey Prod.fst (s.ho.slice, s.ho.m) s.ho.openTo } }
    ∧ s.time + 1000000 * nsUnit ≤ s.decisionInstant (s.ho.m - 1)) ∧
(∃ (s : State) (a : State) (m : HoMsg), s.hoAccepts m = true ∧ s.ho.role = 0 ∧ s.hoPhase = 3 ∧ m.tick = s.ho.m ∧ a = { s with ho := { s.ho with accepted := true, openTo := setKey Prod.fst (s.ho.slice, s.ho.m) s.ho.openTo } }
    ∧ s.decisionInstant (s.ho.m - 1) < s.time + 1000000 * nsUnit) ∧
(∃ (s : State) (a : State) (x : Nat × Nat) (y : Nat × Nat), s.hoPhase = 3 ∧ s.ho.role = 0 ∧ s.ho.accepted = true ∧ s.ho.durable =
    true ∧ findKey Prod.fst (s.ho.m - 2) s.ho.mine = some x ∧ findKey Prod.fst (s.ho.m - 2) s.ho.theirs = some y ∧ a = s.hoSend
    s.ho.m .release ∧ x.2 = y.2) ∧
(∃ (s : State) (a : State) (x : Nat × Nat) (y : Nat × Nat), s.hoPhase = 3 ∧ s.ho.role = 0 ∧ s.ho.accepted = true ∧ s.ho.durable =
    true ∧ findKey Prod.fst (s.ho.m - 2) s.ho.mine = some x ∧ findKey Prod.fst (s.ho.m - 2) s.ho.theirs = some y ∧ a = s.hoSend
    s.ho.m .release ∧ x.2 ≠ y.2) ∧
(∃ (s : State), s.hoPhase = 3 ∧ s.ho.role = 0 ∧ (s.ho.accepted = false ∨ s.ho.durable = false)) ∧
(∃ (s : State), s.hoPhase = 3 ∧ s.ho.role = 0 ∧ s.ho.accepted = true ∧ s.ho.durable = true ∧ (findKey Prod.fst (s.ho.m - 2)
    s.ho.mine = none ∨ findKey Prod.fst (s.ho.m - 2) s.ho.theirs = none)) ∧
(∃ (s : State) (a : State) (m : HoMsg) (stamp : Nat), s.hoAccepts m = true ∧ s.ho.role = 1 ∧ s.hoPhase = 3 ∧ m.tick = s.ho.m ∧ a =
    s.advance (stamp * nsUnit) ∧ stamp * nsUnit < a.voteInstant a.ho.m) ∧
(∃ (s : State) (a : State) (m : HoMsg) (stamp : Nat), s.hoAccepts m = true ∧ s.ho.role = 1 ∧ s.hoPhase = 3 ∧ m.tick = s.ho.m ∧ a =
    s.advance (stamp * nsUnit) ∧ a.voteInstant a.ho.m ≤ stamp * nsUnit) ∧
(∃ (s : State) (m : HoMsg), s.resolves m = false ∧ s.hoAccepts m = true ∧ s.ho.role = 0 ∧ 4 ≤ s.hoPhase) ∧
(∃ (s : State) (m : HoMsg), s.resolves m = true) :=
  ⟨⟨cmdOn 0x62 { (((st [(0x10, 6)]).put (Reg.SLC_SLICE_ID_VALID 0) 1).put Reg.SLC_HO_STATUS_PHASE 0).put (Reg.SLC_SLICE_ID_PROT 0) 1 with per.ledger := [{ token0 with dsid := 0 }] },
  _, req, 0, 0, 0, 0, { token0 with dsid := 0 }, _, by decide, by decide, by decide, by decide, by decide, by decide, by decide,
  by decide, by decide, by decide, by decide, by decide, rfl, rfl⟩,
  ⟨cmdOn 0x62 ((((st [(0x10, 6)]).put (Reg.SLC_SLICE_ID_VALID 0) 1).put Reg.SLC_HO_STATUS_PHASE 0).put (Reg.SLC_SLICE_ID_PROT 0) 1),
  _, req, 0, 0, 0, 0, _, _, by decide, by decide, by decide, by decide, by decide, by decide, by decide, by decide, by decide, rfl,
  by decide, by decide, by decide, by decide, by decide, rfl, rfl⟩,
  ⟨cmdOn 0x63 (source 2), req, 0, by decide, by decide, by decide, by decide, by decide, by decide, by decide⟩,
  ⟨cmdOn 0x63 (source 4), req, 0, by decide, by decide, by decide, by decide⟩,
  ⟨source 2, (⟨7, 1, 100, .ready, true⟩ : HoMsg), by decide, by decide, by decide⟩,
  ⟨{ st [(0x10, 0x5), (0x30018, 0x200000)] with ho.dsid := 7, ho.serial := 1, ho.role := 1, ho.readySent := true }, (⟨7, 1, 100,
  .ready, true⟩ : HoMsg), by decide, by decide, by decide⟩,
  ⟨source 3, _, ready0, by decide, by decide, by decide, by decide, rfl, by decide⟩,
  ⟨{ source 3 with time := 2 ^ 80 }, _, ready0, by decide, by decide, by decide, by decide, rfl, by decide⟩,
  ⟨{ source 3 with ho.accepted := true, ho.durable := true, ho.mine := [(998, 1)], ho.theirs := [(998, 1)] }, _, _, _, by decide,
  by decide, by decide, by decide, rfl, rfl, rfl, by decide⟩,
  ⟨{ source 3 with ho.accepted := true, ho.durable := true, ho.mine := [(998, 1)], ho.theirs := [(998, 2)] }, _, _, _, by decide,
  by decide, by decide, by decide, rfl, rfl, rfl, by decide⟩,
  ⟨{ (st [(0x10, 5)]).put Reg.SLC_HO_STATUS_PHASE 3 with ho.role := 0 }, by decide, by decide, by decide⟩,
  ⟨{ (st [(0x10, 5)]).put Reg.SLC_HO_STATUS_PHASE 3 with ho.role := 0, ho.accepted := true, ho.durable := true }, by decide,
  by decide, by decide, by decide, by decide⟩,
  ⟨dest 3, _, ready0, 0, by decide, by decide, by decide, by decide, rfl, by decide⟩,
  ⟨dest 3, _, ready0, 10 ^ 15, by decide, by decide, by decide, by decide, rfl, by decide⟩,
  ⟨source 4, (⟨7, 1, 100, .ready, true⟩ : HoMsg), by decide, by decide, by decide, by decide⟩,
  ⟨{ (st [(0x10, 5)]) with ho.resolving := [(7, 1, 0)] }, (⟨7, 1, 100, .ready, true⟩ : HoMsg), by decide⟩⟩

theorem test_hyp_HandoverCopiesAndCompares :
(∃ (s : State) (a : State) (m : HoMsg) (stamp : Nat) (rate : Nat) (rho : Nat) (digests : List Nat) (state : List (Nat × Nat)) (seqs
    : List (List Nat)), m.body = .copy rate rho digests state seqs ∧ s.hoAccepts m = true ∧ s.ho.role = 1 ∧ s.hoPhase = 1 ∧ a =
    s.copyHere m stamp ∧ a.copyFits rate rho digests = true ∧ a.copyLate m.tick stamp = false) ∧
(∃ (s : State) (a : State) (m : HoMsg) (stamp : Nat) (rate : Nat) (rho : Nat) (digests : List Nat) (state : List (Nat × Nat)) (seqs
    : List (List Nat)), m.body = .copy rate rho digests state seqs ∧ s.hoAccepts m = true ∧ s.ho.role = 1 ∧ s.hoPhase = 1 ∧ a =
    s.copyHere m stamp ∧ a.copyFits rate rho digests = true ∧ a.copyLate m.tick stamp = true) ∧
(∃ (s : State) (a : State) (m : HoMsg) (stamp : Nat) (rate : Nat) (rho : Nat) (digests : List Nat) (state : List (Nat × Nat)) (seqs
    : List (List Nat)), m.body = .copy rate rho digests state seqs ∧ s.hoAccepts m = true ∧ s.ho.role = 1 ∧ s.hoPhase = 1 ∧ a =
    s.copyHere m stamp ∧ a.copyFits rate rho digests = false) ∧
(∃ (s : State), s.hoPhase = 1 ∧ s.ho.role = 1) ∧
(∃ (s : State) (m : HoMsg) (d : Nat), m.body = .digest d ∧ s.hoAccepts m = true) ∧
(∃ (s : State) (a : State), 2 ≤ s.hoPhase ∧ a = s.put Reg.SLC_HO_STATUS_MATCHED 0 ∧ s.ho.role = 1) ∧
(∃ (s : State) (a : State), 2 ≤ s.hoPhase ∧ a = s.put Reg.SLC_HO_STATUS_MATCHED 0 ∧ a.ho.role = 0 ∧ a.hoPhase = 2 ∧ a.ho.theirs =
    []) ∧
(∃ (s : State), (s.hoPhase = 1 ∨ s.hoPhase = 2) ∧ s.ho.readySent = false) ∧
(∃ (s : State) (m : HoMsg), s.hoAccepts m = true ∧ s.hoReleased = false) ∧
(∃ (s : State) (m : HoMsg), s.hoAccepts m = true ∧ s.hoReleased = true) ∧
(∃ (s : State) (m : HoMsg), s.ho.role = 0 ∧ m = { dsid := s.ho.dsid, serial := s.ho.serial, tick := s.ho.m, body := .query } ∧
    s.ho.resolving = [] ∧ (s.hoPhase = 4 ∨ s.hoPhase = 5)) ∧
(∃ (s : State) (d : Nat) (serial : Nat) (tick : Nat), (s.ho.role ≠ 0 ∨ s.hoPhase < 4) ∧ s.ho.resolving = [(d, serial, tick)]) ∧
(∃ (s : State) (m : HoMsg) (path : Nat) (e : TokenEntry), m.tagOk = true ∧ s.tokenOf m.dsid = some e ∧ e.status = 1 ∧ e.serial =
    m.serial + 1) ∧
(∃ (s : State) (m : HoMsg) (path : Nat) (tick : Nat), m.tagOk = true ∧ s.tokenOf m.dsid = none ∧ (m.dsid, m.serial, tick) ∈
    s.ho.notTaken) ∧
(∃ (s : State) (a : State) (b : State) (lane : Nat) (seq : Nat) (ack : Nat) (e : TokenEntry), s.pairAccept lane seq = some a ∧ b = { a with ho := { a.ho with tokSync := a.ho.tokSync.map fun l => e.dsid :: l } }
    ∧ b.ledgerRoom e.dsid = true) ∧
(∃ (s : State) (a : State) (b : State) (lane : Nat) (seq : Nat) (ack : Nat) (e : TokenEntry), s.pairAccept lane seq = some a ∧ b = { a with ho := { a.ho with tokSync := a.ho.tokSync.map fun l => e.dsid :: l } }
    ∧ b.ledgerRoom e.dsid = false) ∧
(∃ (s : State) (a : State) (b : State) (lane : Nat) (seq : Nat) (ack : Nat), s.pairAccept lane seq = some a ∧ b = { a with pair := { a.pair with unacked := a.pair.unacked.filter fun x => x.1 ≠ ack } }) ∧
(∃ (s : State) (a : State), a = { s with pair := { s.pair with unacked := [] } } ∧ s.flag Reg.PAIR_STATUS_PARTNER = false) ∧
(∃ (s : State) (a : State), a = { s with pair := { s.pair with unacked := [] } } ∧ s.flag Reg.PAIR_STATUS_PARTNER = true) :=
  ⟨⟨dest 1, _, (⟨7, 1, 100, .copy 1 420 [] [] [], true⟩ : HoMsg), 0, 1, 420, [], [], [], by decide, by decide, by decide, by decide,
  rfl, by decide, by decide⟩,
  ⟨dest 1, _, (⟨7, 1, 100, .copy 1 420 [] [] [], true⟩ : HoMsg), 10 ^ 15, 1, 420, [], [], [], by decide, by decide, by decide,
  by decide, rfl, by decide, by decide⟩,
  ⟨dest 1, _, (⟨7, 1, 100, .copy 1 0 [] [] [], true⟩ : HoMsg), 0, 1, 0, [], [], [], by decide, by decide, by decide, by decide, rfl,
  by decide⟩,
  ⟨{ st [(0x10, 0x5), (0x30018, 0x100000)] with ho.role := 1 }, by decide, by decide⟩,
  ⟨source 2, { (⟨7, 1, 100, .ready, true⟩ : HoMsg) with body := .digest 0 }, 0, by decide, by decide⟩,
  ⟨dest 2, _, by decide, rfl, by decide⟩,
  ⟨{ (st [(0x10, 5)]).put Reg.SLC_HO_STATUS_PHASE 2 with ho.role := 0, ho.theirs := [] }, _, by decide, rfl, by decide, by decide,
  by decide⟩,
  ⟨st [(0x10, 0x5), (0x30018, 0x100000)], by decide, by decide⟩,
  ⟨source 2, ready0, by decide, by decide⟩,
  ⟨source 4, ready0, by decide, by decide⟩,
  ⟨{ (st [(0x10, 5)]).put Reg.SLC_HO_STATUS_PHASE 4 with ho.role := 0, ho.resolving := [] }, _, by decide, rfl, by decide, by decide⟩,
  ⟨{ (st [(0x10, 5)]) with ho.resolving := [(0, 0, 0)] }, 0, 0, 0, by decide, by decide⟩,
  ⟨{ (st [(0x10, 5)]) with per.ledger := [{ token0 with serial := 2 }] }, ready0, 0, { token0 with serial := 2 }, by decide,
  by decide, by decide, by decide⟩,
  ⟨{ (st [(0x10, 5)]) with ho.notTaken := [(7, 1, 0)] }, ready0, 0, 0, by decide, by decide, by decide⟩,
  ⟨(st [(0x10, 5)]), _, _, 0, 1, 0, token0, rfl, rfl, by decide⟩,
  ⟨{ (st [(0x10, 5)]) with per.ledger := (List.range 256).map fun k => { token0 with dsid := k + 8 } }, _, _, 0, 1, 0, token0, rfl,
  rfl, by decide +kernel⟩,
  ⟨(st [(0x10, 5)]), _, _, 0, 1, 0, rfl, rfl⟩,
  ⟨(st [(0x10, 5)]), _, rfl, by decide⟩,
  ⟨(st [(0x10, 5)]).put Reg.PAIR_STATUS_PARTNER 1, _, rfl, by decide⟩⟩

theorem test_hyp_PairMessagesKeepTheHandshake :
(∃ (s : State), s.ready = true) ∧
(∃ (s : State) (a : State) (lane : Nat) (seq : Nat) (h : Hello), (s.helloMeets h).pairAccept lane seq = some a) ∧
(∃ (s : State) (a : State), s.flag Reg.PAIR_STATUS_PARTNER = true ∧ a = s.partnerGone ∧ (a.rs = rsIdle ∨ a.rs = rsWait)) ∧
(∃ (s : State) (a : State), s.flag Reg.PAIR_STATUS_PARTNER = true ∧ a = s.partnerGone ∧ rsRequested ≤ a.rs ∧ a.rs ≤ rsJoin) ∧
(∃ (s : State) (a : State), s.flag Reg.PAIR_STATUS_PARTNER = true ∧ a = s.partnerGone ∧ a.rs = rsDonor) ∧
(∃ (s : State) (a : State) (lane : Nat) (seq : Nat) (delay : Nat) (d : Digest), s.pairAccept lane seq = some a ∧ a.flag
    Reg.PAIR_STATUS_PARTNER = true) ∧
(∃ (s : State) (a : State) (lane : Nat) (seq : Nat) (r : FaultRec), s.pairAccept lane seq = some a ∧ r.raised = true ∧ 3 ≤ r.cls) ∧
(∃ (s : State) (a : State) (lane : Nat) (seq : Nat) (r : FaultRec), s.pairAccept lane seq = some a ∧ (r.raised = false ∨ r.cls < 3)) ∧
(∃ (s : State) (a : State) (b : State) (lane : Nat) (seq : Nat), s.pairAccept lane seq = some a ∧ b = { a with pair := { a.pair with peerFlags := a.pair.peerFlags - a.pair.peerFlags % 4 } }) ∧
(∃ (s : State) (a : State), s.st = stShadow ∧ s.healthy = true ∧ s.flag Reg.PAIR_STATUS_PEER_SAFECUST = true ∧ a = { s with pair := { s.pair with takeoverAsked := true } }) ∧
(∃ (s : State) (a : State) (lane : Nat) (seq : Nat), s.pairAccept lane seq = some a ∧ a.st = stSafe ∧ a.pair.safeMode = true ∧
    a.flag Reg.GLB_STATUS_HOLD = true) :=
  ⟨⟨st [(0x10, 0x5)], by decide⟩,
  ⟨st [(0x10, 0x5)], (((st [(0x10, 0x5)]).helloMeets hello0).pairAccept 0 1).getD (st [(0x10, 0x5)]), 0, 1, hello0, rfl⟩,
  ⟨((st [(0x10, 5)]).put Reg.PAIR_STATUS_PARTNER 1).put Reg.PAIR_STATUS_RESYNC rsIdle, _, by decide, rfl, by decide⟩,
  ⟨((st [(0x10, 5)]).put Reg.PAIR_STATUS_PARTNER 1).put Reg.PAIR_STATUS_RESYNC rsRequested, _, by decide, rfl, by decide, by decide⟩,
  ⟨((st [(0x10, 5)]).put Reg.PAIR_STATUS_PARTNER 1).put Reg.PAIR_STATUS_RESYNC rsDonor, _, by decide, rfl, by decide⟩,
  ⟨(st [(0x10, 5)]).put Reg.PAIR_STATUS_PARTNER 1, _, 0, 1, 0, digest0, rfl, by decide⟩,
  ⟨st [(0x10, 0x5)], ((st [(0x10, 0x5)]).pairAccept 0 1).getD (st [(0x10, 0x5)]), 0, 1, { fault0 with cls := 3 }, rfl, by decide,
  by decide⟩,
  ⟨(st [(0x10, 5)]), _, 0, 1, { fault0 with raised := false }, rfl, by decide⟩,
  ⟨(st [(0x10, 5)]), _, _, 0, 1, rfl, rfl⟩,
  ⟨(st [(0x10, 5)]).put Reg.PAIR_STATUS_PEER_SAFECUST 1, _, by decide, by decide, by decide, rfl⟩,
  ⟨{ st [(0x10, 0x8), (0x14, 0x10)] with pair.safeMode := true }, (({ st [(0x10, 0x8), (0x14, 0x10)] with pair.safeMode := true }).pairAccept
  0 1).getD ({ st [(0x10, 0x8), (0x14, 0x10)] with pair.safeMode := true }), 0, 1, rfl, by decide, by decide, by decide⟩⟩

theorem test_hyp_ResyncCopiesAState :
(∃ (s : State) (a : State) (lane : Nat) (seq : Nat), s.pairAccept lane seq = some a ∧ a.flag Reg.PAIR_STATUS_PARTNER = true ∧ a.rs ≠
    rsDonor ∧ (a.rodsIn rodVoting).length < 2) ∧
(∃ (s : State) (a : State) (lane : Nat) (seq : Nat), s.pairAccept lane seq = some a ∧ a.flag Reg.PAIR_STATUS_PARTNER = true ∧ a.rs ≠
    rsDonor ∧ 2 ≤ (a.rodsIn rodVoting).length ∧ rsRequested ≤ a.rs ∧ a.rs ≤ rsJoin) ∧
(∃ (s : State) (a : State) (lane : Nat) (seq : Nat), s.pairAccept lane seq = some a ∧ a.flag Reg.PAIR_STATUS_PARTNER = true ∧ a.rs ≠
    rsDonor ∧ 2 ≤ (a.rodsIn rodVoting).length ∧ (a.rs = rsIdle ∨ a.rs = rsWait) ∧ (a.pair.peerHello.any fun h => h.slotTab ==
    a.slotTab) = false) ∧
(∃ (s : State) (a : State) (b : State) (lane : Nat) (seq : Nat), s.pairAccept lane seq = some a ∧ a.flag Reg.PAIR_STATUS_PARTNER =
    true ∧ (a.rs = rsIdle ∨ a.rs = rsWait) ∧ 2 ≤ (a.rodsIn rodVoting).length ∧ (a.pair.peerHello.any fun h => h.slotTab ==
    a.slotTab) = true ∧ b = { a with pair := { a.pair with donorOn := false } }) ∧
(∃ (s : State), s.rs = rsRequested) ∧
(∃ (s : State) (a : State) (lane : Nat) (seq : Nat) (reason : Nat), s.pairAccept lane seq = some a ∧ (a.rs = rsRequested ∨ a.rs =
    rsCopying ∨ a.rs = rsJoin)) ∧
(∃ (s : State) (a : State) (b : State) (c : State) (lane : Nat) (seq : Nat) (entries : List (Nat × Nat)) (seqs : List (List Nat))
    (all : Bool), s.pairAccept lane seq = some a ∧ a.rs = rsRequested ∧ b = (a.rodsIn rodVoting).foldl (fun s r => s.setRod r
    (applyWords s.cle.prog entries { s.rod r with todo := [], result := none, carryFrom := none })) a ∧ c = { b with pair := { b.pair with copyWords := entries.foldl (fun l e => setKey Prod.fst e l) b.pair.copyWords, copySeqs := seqs.foldl (fun l w => setKey (fun (x : List Nat) => x.headD 0) w l) [] } }) ∧
(∃ (s : State) (a : State) (b : State) (c : State) (lane : Nat) (seq : Nat) (entries : List (Nat × Nat)) (seqs : List (List Nat))
    (all : Bool), s.pairAccept lane seq = some a ∧ (a.rs = rsCopying ∨ a.rs = rsJoin) ∧ b = (a.rodsIn rodVoting).foldl (fun s r =>
    s.setRod r (applyWords s.cle.prog entries (s.rod r))) a ∧ c = { b with pair := { b.pair with copyWords := entries.foldl (fun l e => setKey Prod.fst e l) b.pair.copyWords, copySeqs := seqs.foldl (fun l w => setKey (fun (x : List Nat) => x.headD 0) w l) b.pair.copySeqs } }) ∧
(∃ (s : State) (a : State) (b : State) (lane : Nat) (seq : Nat) (n : Nat) (sdig : Nat) (stamp : Nat), s.pairAccept lane seq = some a
    ∧ b = a.advance (stamp * nsUnit) ∧ (b.rs = rsCopying ∨ b.rs = rsJoin) ∧ stamp * nsUnit + 1000 * nsUnit ≤ b.decisionInstant n) ∧
(∃ (s : State) (a : State) (b : State) (lane : Nat) (seq : Nat) (n : Nat) (sdig : Nat) (stamp : Nat), s.pairAccept lane seq = some a
    ∧ b = a.advance (stamp * nsUnit) ∧ (b.rs = rsCopying ∨ b.rs = rsJoin) ∧ b.decisionInstant n < stamp * nsUnit + 1000 * nsUnit) ∧
(∃ (s : State) (a : State), s.rs = rsWait ∧ a = (s.advance (s.pair.resyncAt + 1000000000 * nsUnit)).put Reg.PAIR_STATUS_RESYNC
    rsIdle) ∧
(∃ (s : State), (s.rs = rsCopying ∨ s.rs = rsJoin)) ∧
(∃ (s : State), s.rs = rsJoin) :=
  ⟨⟨(st [(0x10, 5)]).put Reg.PAIR_STATUS_PARTNER 1, _, 0, 1, rfl, by decide, by decide, by decide⟩,
  ⟨((((st [(0x10, 5)]).put Reg.PAIR_STATUS_PARTNER 1).put (Reg.BEAM_ROD_STATE_STATE 0) rodVoting).put (Reg.BEAM_ROD_STATE_STATE 1)
  rodVoting).put Reg.PAIR_STATUS_RESYNC rsRequested, _, 0, 1, rfl, by decide, by decide, by decide, by decide, by decide⟩,
  ⟨((((st [(0x10, 5)]).put Reg.PAIR_STATUS_PARTNER 1).put (Reg.BEAM_ROD_STATE_STATE 0) rodVoting).put (Reg.BEAM_ROD_STATE_STATE 1)
  rodVoting).put Reg.PAIR_STATUS_RESYNC rsIdle, _, 0, 1, rfl, by decide, by decide, by decide, by decide, by decide⟩,
  ⟨{ ((((st [(0x10, 5)]).put Reg.PAIR_STATUS_PARTNER 1).put Reg.PAIR_STATUS_RESYNC rsIdle).put (Reg.BEAM_ROD_STATE_STATE 0) rodVoting).put (Reg.BEAM_ROD_STATE_STATE 1) rodVoting with pair.peerHello := some { hello0 with slotTab := (st [(0x10, 5)]).slotTab } },
  _, _, 0, 1, rfl, by decide, by decide, by decide, peer_same (st [(0x10, 5)]) _ rfl (by decide), rfl⟩,
  ⟨st [(0x10, 0x5), (0xb0018, 0x40000)], by decide⟩,
  ⟨st [(0x10, 0x5), (0xb0018, 0x40000)], ((st [(0x10, 0x5), (0xb0018, 0x40000)]).pairAccept 0 1).getD (st [(0x10, 0x5), (0xb0018,
  0x40000)]), 0, 1, 0, rfl, by decide⟩,
  ⟨(st [(0x10, 5)]).put Reg.PAIR_STATUS_RESYNC rsRequested, _, _, _, 0, 1, [], [], true, rfl, by decide, rfl, rfl⟩,
  ⟨(st [(0x10, 5)]).put Reg.PAIR_STATUS_RESYNC rsCopying, _, _, _, 0, 1, [], [], true, rfl, by decide, rfl, rfl⟩,
  ⟨(st [(0x10, 5)]).put Reg.PAIR_STATUS_RESYNC rsCopying, _, _, 0, 1, 0, 0, 0, rfl, rfl, by decide, by decide⟩,
  ⟨(st [(0x10, 5)]).put Reg.PAIR_STATUS_RESYNC rsCopying, _, _, 0, 1, 0, 0, 10 ^ 15, rfl, rfl, by decide, by decide⟩,
  ⟨(st [(0x10, 5)]).put Reg.PAIR_STATUS_RESYNC rsWait, _, by decide, rfl⟩,
  ⟨(st [(0x10, 5)]).put Reg.PAIR_STATUS_RESYNC rsCopying, by decide⟩,
  ⟨st [(0x10, 0x5), (0xb0018, 0xc0000)], by decide⟩⟩

theorem test_hyp_DoorbellIndicesAreChecked :
(∃ (s : State) (slice : Nat) (k : Nat) (new : Nat) (x : RingRec), s.ready = true ∧ new < 65536 ∧ s.localRing slice k = some x ∧
    x.ring ≤ 1023 ∧ x.type ≠ 3) ∧
(∃ (s : State) (slice : Nat) (k : Nat) (new : Nat) (x : RingRec), s.ready = true ∧ new < 65536 ∧ s.localRing slice k = some x ∧
    x.ring ≤ 1023 ∧ x.type = 3) :=
  ⟨⟨{ st [(0x10, 0x5), (0x21008, 0x80000000)] with rings := [ring0] }, 0, 0, 0, ring0, by decide, by decide, by decide, by decide,
  by decide⟩,
  ⟨{ (st [(0x10, 5)]).put (Reg.HIF_RING_CFG_EN 0) 1 with rings := [{ ring0 with type := 3 }] }, 0, 0, 0, { ring0 with type := 3 },
  by decide, by decide, by decide, by decide, by decide⟩⟩

theorem test_hyp_SourceFlagsSignalVectors :
(∃ (s : State) (i : Nat), i < 1472 ∧ s.srcFlag i = true) ∧
(∃ (s : State) (i : Nat), i < 1472 ∧ s.srcFlag i = false ∧ s.flag (Reg.EVT_SRC_MSIX_EN i) = false) ∧
(∃ (s : State) (i : Nat), i < 1472 ∧ s.srcFlag i = false ∧ s.flag (Reg.EVT_SRC_MSIX_EN i) = true ∧ s.msixOpen (s.get
    (Reg.EVT_SRC_VECTOR i)) = true) ∧
(∃ (s : State) (i : Nat), i < 1472 ∧ s.srcFlag i = false ∧ s.flag (Reg.EVT_SRC_MSIX_EN i) = true ∧ s.msixOpen (s.get
    (Reg.EVT_SRC_VECTOR i)) = false) ∧
(∃ (s : State) (i : Nat) (data : Word), i < 1472 ∧ s.st = stBoot) ∧
(∃ (s : State) (i : Nat) (data : Word), 192 ≤ i ∧ i < 1472 ∧ s.st ≠ stBoot ∧ data.field 11 1 = 1 ∧ s.vectorOk (s.srcOwner i)
    (data.field 0 11) = false) ∧
(∃ (s : State) (a : State) (i : Nat) (data : Word), i < 1472 ∧ s.st ≠ stBoot ∧ (i < 192 ∨ data.field 11 1 = 0 ∨ s.vectorOk
    (s.srcOwner i) (data.field 0 11) = true) ∧ a = ((s.put (Reg.EVT_SRC_ALERT_EN i) (data.field 12 1)).put (Reg.EVT_SRC_MSIX_EN i)
    (data.field 11 1)).put (Reg.EVT_SRC_VECTOR i) (data.field 0 11)) ∧
(∃ (s : State) (a : State) (v : Nat), v ≤ 2047 ∧ a = s.put (msixMask v) 0) :=
  ⟨⟨st [(0x10, 0x5), (0x40, 0x1)], 0, by decide, by decide⟩,
  ⟨(st [(0x10, 5)]), 0, by decide, by decide, by decide⟩,
  ⟨((((st [(0x10, 5)]).put (Reg.EVT_SRC_MSIX_EN 0) 1).put msixEnable 1).put Reg.HIF_LINK_BME 1).put (msixMask 0) 0, 0, by decide,
  by decide, by decide, by decide⟩,
  ⟨(st [(0x10, 5)]).put (Reg.EVT_SRC_MSIX_EN 0) 1, 0, by decide, by decide, by decide, by decide⟩,
  ⟨(st [(0x10, 3)]), 0, (0 : Word), by decide, by decide⟩,
  ⟨st [(0x10, 0x5), (0x21008, 0x10000)], 192, 0xFFF, by decide, by decide, by decide, by decide, by decide⟩,
  ⟨(st [(0x10, 5)]), _, 0, (0 : Word), by decide, by decide, by decide, rfl⟩,
  ⟨(st [(0x10, 5)]), _, 0, by decide, rfl⟩⟩

theorem test_hyp_RingsStartAndStop :
(∃ (s : State) (r : Nat) (data : Nat), r ≤ 1023 ∧ s.flag (Reg.HIF_RING_CFG_EN r) = false ∧ (s.enableReason r data = 1 ∨
    s.enableReason r data = 3)) ∧
(∃ (s : State) (r : Nat) (data : Nat) (k : Nat), r ≤ 1023 ∧ s.flag (Reg.HIF_RING_CFG_EN r) = false ∧ s.enableReason r data = 2 ∧ k =
    data / 2 ^ 16 % 256) ∧
(∃ (s : State) (a : State) (r : Nat) (data : Nat) (x : RingRec), r ≤ 1023 ∧ s.flag (Reg.HIF_RING_CFG_EN r) = false ∧ s.enableReason
    r data = 0xFF ∧ x = { ring := r, slice := data / 2 ^ 16 % 256, type := data / 2 ^ 28 % 8, log2size := data / 2 ^ 24 % 16, local' := s.get (Reg.HIF_RING_BASE_LO_LOCAL r), tc := data / 2 ^ 13 % 8, mark := data % 4096 }
    ∧ a = (((s.ringOf r).elim s s.haltRing).wr (0x21008 + 0x10 * r) (BitVec.ofNat 32 ((data % 2 ^ 31 - data % 2 ^ 13 + data % 2 ^
    12) + 2 ^ 31))).startRing x) ∧
(∃ (s : State) (r : Nat) (data : Nat), r ≤ 1023 ∧ s.flag (Reg.HIF_RING_CFG_EN r) = true ∧ s.st ≠ stBoot ∧ cfgBad data = false) ∧
(∃ (s : State) (r : Nat) (data : Nat), r ≤ 1023 ∧ s.st = stBoot) ∧
(∃ (s : State) (r : Nat) (data : Nat), r ≤ 1023 ∧ s.st ≠ stBoot ∧ cfgBad data = true) ∧
(∃ (s : State) (r : Nat) (data : Nat) (x : RingRec) (y : RingRec) (s1 : State) (s2 : State), r ≤ 1023 ∧ s.st ≠ stBoot ∧ cfgBad data
    = false ∧ s.flag (Reg.HIF_RING_CFG_EN r) = true ∧ s1 = s.wr (0x21008 + 0x10 * r) (BitVec.ofNat 32 (data % 2 ^ 31 - data % 2 ^ 13
    + data % 2 ^ 12)) ∧ s1.ringOf r = some x ∧ s2 = (((s1.give (Reg.SLC_SLICE_QA_RINGS x.slice) 1).poolRings (-1)).put
    Reg.HIF_RINGS_ENABLED (s1.get Reg.HIF_RINGS_ENABLED - 1)).setRing { x with stopping := true } ∧ s2.ringOf r = some y) ∧
(∃ (s : State) (a : State) (r : Nat) (x : RingRec), s.ringOf r = some x ∧ x.stopping = true ∧ s.flag (Reg.HIF_RING_CFG_EN r) = false
    ∧ x.taken = [] ∧ x.cur = none ∧ a = { s with rings := dropKey RingRec.ring r s.rings }) ∧
(∃ (s : State) (r : Nat) (kind : Nat) (addr : Nat) (x : RingRec), s.ringOf r = some x ∧ s.ringRuns r = true) ∧
(∃ (s : State) (r : Nat) (x : RingRec), s.ringOf r = some x ∧ 0 < x.coal ∧ s.get (Reg.HIF_RING_COAL_USEC r) ≠ 0 ∧ s.srcFlag (192 +
    r) = false) :=
  ⟨⟨st [(0x10, 0x5)], 0, 0, by decide, by decide, by decide⟩,
  ⟨(st [(0x10, 5)]), 0, 0x06010000, _, by decide, by decide, by decide, rfl⟩,
  ⟨(st [(0x10, 5)]).put (Reg.SLC_SLICE_QA_RINGS 0) 4, _, 0, 0x06000000, _, by decide, by decide, by decide, rfl, rfl⟩,
  ⟨(st [(0x10, 5)]).put (Reg.HIF_RING_CFG_EN 0) 1, 0, 0x06000000, by decide, by decide, by decide, by decide⟩,
  ⟨st [(0x10, 0x3)], 0, 0, by decide, by decide⟩,
  ⟨(st [(0x10, 5)]), 0, 0, by decide, by decide, by decide⟩,
  ⟨{ (st [(0x10, 5)]).put (Reg.HIF_RING_CFG_EN 0) 1 with rings := [ring0] }, 0, 0x06000000, ring0, { ring0 with stopping := true }, _,
  _, by decide, by decide, by decide, by decide, rfl, by decide, rfl, by decide⟩,
  ⟨{ (st [(0x10, 5)]) with rings := [{ ring0 with stopping := true, taken := [], cur := none }] }, _, 0, { ring0 with stopping := true, taken := [], cur := none },
  by decide, by decide, by decide, by decide, by decide, rfl⟩,
  ⟨{ st [(0x10, 0x5), (0x25004, 0x1)] with rings := [ring0] }, 0, 0, 0, ring0, by decide, by decide⟩,
  ⟨{ st [(0x10, 0x5), (0x2100c, 0x10000)] with rings := [({ ring0 with coal := 1 })] }, 0, { ring0 with coal := 1 }, by decide,
  by decide, by decide, by decide⟩⟩

theorem test_hyp_RingEntriesAreServed :
(∃ (s : State) (a : State) (r : Nat) (now : Nat) (given : List TxEntry) (es : List TxEntry) (b : List Nat) (luck : List Nat) (x :
    RingRec), s.ringOf r = some x ∧ es = txEntries given ∧ s.txReady x es.length = true ∧ a = s.advance (now * nsUnit) ∧ a.txRefused
    x es = none) ∧
(∃ (s : State) (a : State) (r : Nat) (now : Nat) (given : List TxEntry) (es : List TxEntry) (b : List Nat) (luck : List Nat) (x :
    RingRec) (st : _), s.ringOf r = some x ∧ es = txEntries given ∧ s.txReady x es.length = true ∧ a = s.advance (now * nsUnit) ∧
    a.txRefused x es = some st) ∧
(∃ (s : State) (a : State) (s1 : State) (lens : List Nat) (luck : List Nat) (now : Nat) (c : CoreCopy) (f : CoreFrame) (x : _), a =
    s.advance (now * nsUnit) ∧ a.swc.fij.find? (fijHost now) = none ∧ a.nextCopy 12 now = some (c, s1) ∧ s1.coreFrame c.frame = some
    f ∧ s1.rxRing f.slice f.tc = some x) ∧
(∃ (s : State) (a : State) (s1 : State) (lens : List Nat) (luck : List Nat) (now : Nat) (c : CoreCopy) (f : CoreFrame), a =
    s.advance (now * nsUnit) ∧ a.swc.fij.find? (fijHost now) = none ∧ a.nextCopy 12 now = some (c, s1) ∧ s1.coreFrame c.frame = some
    f ∧ s1.rxRing f.slice f.tc = none) ∧
(∃ (s : State) (a : State) (lens : List Nat) (luck : List Nat) (now : Nat) (h : FijHeld), a = s.advance (now * nsUnit) ∧
    a.swc.fij.find? (fijHost now) = some h) ∧
(∃ (s : State) (a : State) (r : Nat) (opcode : Nat) (version : Nat) (m : Nat) (x : RingRec), s.ringOf r = some x ∧ (x.type = 2 ∨
    x.type = 4) ∧ s.ringRuns r = true ∧ x.stopping = false ∧ x.frozen = false ∧ x.cur = none ∧ s.outstanding x ≠ 0 ∧ s.ready = true
    ∧ m = s.get (Reg.HIF_RING_PTR_MOD r) ∧ a = ((s.setRing { x with cur := some opcode }).put (Reg.HIF_RING_PTR_MOD r) ((m + 1) %
    65536)).put (Reg.HIF_RING_RSTAT_INFLIGHT r) (s.get (Reg.HIF_RING_RSTAT_INFLIGHT r) + 1) ∧ version = 1 ∧ opcodes.contains opcode
    = true ∧ (opcode = 0x90 ↔ x.type = 4)) ∧
(∃ (s : State) (a : State) (r : Nat) (opcode : Nat) (version : Nat) (m : Nat) (x : RingRec), s.ringOf r = some x ∧ (x.type = 2 ∨
    x.type = 4) ∧ s.ringRuns r = true ∧ x.stopping = false ∧ x.frozen = false ∧ x.cur = none ∧ s.outstanding x ≠ 0 ∧ s.ready = true
    ∧ m = s.get (Reg.HIF_RING_PTR_MOD r) ∧ a = ((s.setRing { x with cur := some opcode }).put (Reg.HIF_RING_PTR_MOD r) ((m + 1) %
    65536)).put (Reg.HIF_RING_RSTAT_INFLIGHT r) (s.get (Reg.HIF_RING_RSTAT_INFLIGHT r) + 1) ∧ version ≠ 1) ∧
(∃ (s : State) (a : State) (r : Nat) (opcode : Nat) (version : Nat) (m : Nat) (x : RingRec), s.ringOf r = some x ∧ (x.type = 2 ∨
    x.type = 4) ∧ s.ringRuns r = true ∧ x.stopping = false ∧ x.frozen = false ∧ x.cur = none ∧ s.outstanding x ≠ 0 ∧ s.ready = true
    ∧ m = s.get (Reg.HIF_RING_PTR_MOD r) ∧ a = ((s.setRing { x with cur := some opcode }).put (Reg.HIF_RING_PTR_MOD r) ((m + 1) %
    65536)).put (Reg.HIF_RING_RSTAT_INFLIGHT r) (s.get (Reg.HIF_RING_RSTAT_INFLIGHT r) + 1) ∧ version = 1 ∧ (opcodes.contains opcode
    = false ∨ ¬(opcode = 0x90 ↔ x.type = 4))) ∧
(∃ (s : State) (a : State) (i : EvqItem) (l : List EvqItem), s.evqPosted = i :: l ∧ a = { s with evqPosted := l }) :=
  ⟨⟨{ (((st [(0x10, 5)]).put (Reg.HIF_RING_RSTAT_ACTIVE 0) 1).put (Reg.HIF_RING_PTR_HOST 0) 1).put Reg.SWC_CTRL_EN 1 with rings := [ring0] },
  _, 0, 0, [⟨100, 3, 0, 1, 0, 0⟩], _, [], [], ring0, by decide, rfl, by decide, rfl, by decide⟩,
  ⟨{ (((st [(0x10, 5)]).put (Reg.HIF_RING_RSTAT_ACTIVE 0) 1).put (Reg.HIF_RING_PTR_HOST 0) 1).put Reg.SWC_CTRL_EN 1 with rings := [ring0] },
  _, 0, 0, [⟨10, 3, 0, 1, 0, 0⟩], _, [], [], ring0, _, by decide, rfl, by decide, rfl, rfl⟩,
  ⟨{ st [(0x10, 0x5), (0x25004, 0x1)] with swc.copies := [{ copy0 with port := 12, stage := 2 }], swc.frames := [frame0], rings := [{ ring0 with type := 1, tc := 5 }] },
  _, ({ st [(0x10, 0x5), (0x25004, 0x1)] with swc.copies := [{ copy0 with port := 12, stage := 2 }], swc.frames := [frame0], rings := [{ ring0 with type := 1, tc := 5 }] }).advance
  (0 * nsUnit), [], [], 0, { copy0 with port := 12, stage := 2 }, frame0, _, rfl, by decide, by decide, by decide, rfl⟩,
  ⟨{ st [(0x10, 0x5)] with swc.copies := [{ copy0 with port := 12, stage := 2 }], swc.frames := [frame0] }, _, ({ st [(0x10, 0x5)] with swc.copies := [{ copy0 with port := 12, stage := 2 }], swc.frames := [frame0] }).advance
  (0 * nsUnit), [], [], 0, { copy0 with port := 12, stage := 2 }, frame0, rfl, by decide, by decide, by decide, by decide⟩,
  ⟨{ st [(0x10, 0x5)] with swc.fij := [⟨0, 12, false, 5, none, none, some (frame0, 12), some 0⟩] }, _, [], [], 0, _, rfl, rfl⟩,
  ⟨{ ((st [(0x10, 5)]).put (Reg.HIF_RING_RSTAT_ACTIVE 0) 1).put (Reg.HIF_RING_PTR_HOST 0) 1 with rings := [{ ring0 with type := 2, stopping := false, frozen := false, cur := none }] },
  _, 0, 0x10, 1, _, { ring0 with type := 2, stopping := false, frozen := false, cur := none }, by decide, by decide, by decide,
  by decide, by decide, by decide, by decide, by decide, rfl, rfl, by decide, by decide, by decide⟩,
  ⟨{ ((st [(0x10, 5)]).put (Reg.HIF_RING_RSTAT_ACTIVE 0) 1).put (Reg.HIF_RING_PTR_HOST 0) 1 with rings := [{ ring0 with type := 2, stopping := false, frozen := false, cur := none }] },
  _, 0, 0x10, 0, _, { ring0 with type := 2, stopping := false, frozen := false, cur := none }, by decide, by decide, by decide,
  by decide, by decide, by decide, by decide, by decide, rfl, rfl, by decide⟩,
  ⟨{ ((st [(0x10, 5)]).put (Reg.HIF_RING_RSTAT_ACTIVE 0) 1).put (Reg.HIF_RING_PTR_HOST 0) 1 with rings := [{ ring0 with type := 2, stopping := false, frozen := false, cur := none }] },
  _, 0, 0x90, 1, _, { ring0 with type := 2, stopping := false, frozen := false, cur := none }, by decide, by decide, by decide,
  by decide, by decide, by decide, by decide, by decide, rfl, rfl, by decide, by decide⟩,
  ⟨{ (st [(0x10, 5)]) with evqPosted := [evq0] }, _, evq0, [], by decide, rfl⟩⟩

theorem test_hyp_HostLinkEvents :
(∃ (s : State) (a : State) (b : State), s.st ≠ stOff ∧ s.st ≠ stVigil ∧ a = s.rings.foldl (fun s x => ((if s.flag
    (Reg.HIF_RING_CFG_EN x.ring) then (s.give (Reg.SLC_SLICE_QA_RINGS x.slice) 1).poolRings (-1) else s).haltRing x).put
    (Reg.HIF_RING_CFG_EN x.ring) 0) s ∧ b = ((((a.ringsCleared.msixReset.put Reg.HIF_RINGS_ENABLED 0).put Reg.HIF_LINK_BME 0).put
    Reg.HIF_LINK_PASID_EN 0).event 183).put Reg.GLB_RESET_CAUSE_HOST 1) ∧
(∃ (s : State) (a : State) (b : State), a = s.put Reg.HIF_LINK_BME 0 ∧ b = a.runningRings.foldl (fun s x => (s.dmaStop x s.free
    s.free).drawn) a) ∧
(∃ (s : State) (a : State) (b : State), s.flag Reg.HIF_LINK_PASID_EN = true ∧ a = s.put Reg.HIF_LINK_PASID_EN 0 ∧ b =
    (a.runningRings.filter fun x => x.slice ≠ 0).foldl (fun s x => (s.dmaStop x 5 s.free).drawn) a) ∧
(∃ (s : State), s.get Reg.HIF_LINK_WIDTH = 0 ∧ s.st ≠ stOff ∧ s.st ≠ stVigil) ∧
(∃ (s : State) (a : State) (width : Nat) (speed : Nat), width ≤ 15 ∧ speed ≤ 15 ∧ a = (s.put Reg.HIF_LINK_WIDTH width).put
    Reg.HIF_LINK_SPEED speed ∧ (s.get Reg.HIF_LINK_WIDTH ≠ width ∨ s.get Reg.HIF_LINK_SPEED ≠ speed) ∧ width ≠ 0) ∧
(∃ (s : State) (a : State) (width : Nat) (speed : Nat), width ≤ 15 ∧ speed ≤ 15 ∧ a = (s.put Reg.HIF_LINK_WIDTH width).put
    Reg.HIF_LINK_SPEED speed ∧ (s.get Reg.HIF_LINK_WIDTH ≠ width ∨ s.get Reg.HIF_LINK_SPEED ≠ speed) ∧ width = 0) :=
  ⟨⟨(st [(0x10, 5)]), _, _, by decide, by decide, rfl, rfl⟩,
  ⟨(st [(0x10, 5)]), _, _, rfl, rfl⟩,
  ⟨(st [(0x10, 5)]).put Reg.HIF_LINK_PASID_EN 1, _, _, by decide, rfl, rfl⟩,
  ⟨st [(0x10, 0x5)], by decide, by decide, by decide⟩,
  ⟨(st [(0x10, 5)]), _, 4, 0, by decide, by decide, rfl, by decide, by decide⟩,
  ⟨(st [(0x10, 5)]).put Reg.HIF_LINK_WIDTH 4, _, 0, 0, by decide, by decide, rfl, by decide, by decide⟩⟩

theorem test_hyp_KeysStageVerifyCommit :
(∃ (s : State) (a : State) (b : State) (c : State) (q : Req) (r : KeyRecord) (gen : Nat) (kid : Nat) (g : KeyStaged), s.takes 0x70 q
    ∧ r.version = 1 ∧ stageParam r = false ∧ q.slice = polOwner r.policy ∧ (s.keySt r.slot = keyEmpty ∨ s.get
    (Reg.KEY_SLOT_POLICY_OWNER r.slot) = q.slice) ∧ (∀ h, s.stageOf r.slot = some h → h.slice = q.slice) ∧ (16 ≤ r.slot ∨ q.slice =
    0) ∧ (r.mode ≠ 2 ∨ (s.keyOwn r.wrapSlot q.slice = true ∧ s.keyUsable r.wrapSlot q.slice 6 = true)) ∧ s.notIn stRun = false ∧
    (s.get Reg.KEY_STATUS_LOCKGRP >>> (if s.keySt r.slot = keyEmpty then polGroup r.policy else s.get (Reg.KEY_SLOT_POLICY_GROUP
    r.slot))) % 2 = 0 ∧ (s.stageOf r.slot ≠ none ∨ ((s.keySt r.slot ≠ keyEmpty ∨ r.slot < 16 ∨ s.overQuota (Reg.SLC_SLICE_QD_KEYS
    q.slice) 1 = false) ∧ s.keys.stages.length < 16)) ∧ s.keyBusy = false ∧ (r.mode < 2 ∨ r.engineOk = true) ∧ gen = s.get
    (Reg.KEY_SLOT_STATE_GEN r.slot) + 1 ∧ kid = s.keyId r.slot gen r.policy r.uses r.material ∧ g = { slot := r.slot, mode := r.mode, policy := r.policy, uses := r.uses, kid := kid, slice := q.slice, at' := s.ns }
    ∧ a = (if s.stageOf r.slot = none ∧ s.keySt r.slot = keyEmpty then s.keyTake r.slot q.slice else s) ∧ b = { a with keys := { a.keys with stages := setKey KeyStaged.slot g a.keys.stages } }
    ∧ c = ((b.put (Reg.KEY_SLOT_STATE_STAGED r.slot) 1).put (Reg.KEY_SLOT_STATE_VERIFIED r.slot) 0).put Reg.KEY_STATUS_STAGED
    b.keys.stages.length) ∧
(∃ (s : State) (q : Req) (k : Nat) (len : Nat) (ok : Bool) (g : KeyStaged), s.takes 0x71 q ∧ k ≤ 1023 ∧ s.stageOf k = some g ∧
    g.slice = q.slice ∧ len = (if polType g.policy = 1 then 160 else 112) ∧ s.notIn stRun = false ∧ s.keyBusy = false ∧ (s.multi.any
    fun m => m.opcode == opVerify) = false) ∧
(∃ (s : State) (a : State) (q : Req) (k : Nat) (len : Nat) (ok : Bool) (g : KeyStaged), s.takes 0x71 q ∧ k ≤ 1023 ∧ s.stageOf k =
    some g ∧ g.slice = q.slice ∧ useMask g.uses % 2 = 1 ∧ s.notIn stRun = false ∧ s.keyBusy = false ∧ (s.multi.any fun m => m.opcode
    == opVerify) = false ∧ a = { s with multi := s.multi ++ [⟨q, opVerify, k, s.ns + 60000000000⟩] }) ∧
(∃ (s : State) (a : State) (k : Nat) (now : Nat) (m : MultiCmd), (s.multi.find? fun m => m.opcode == opVerify && m.arg == k) = some
    m ∧ a = s.advance (now * nsUnit)) ∧
(∃ (s : State) (a : State) (k : Nat) (now : Nat) (m : MultiCmd), (s.multi.find? fun m => m.opcode == opVerify && m.arg == k) = some
    m ∧ a = s.advance (now * nsUnit) ∧ m.deadline ≤ now) ∧
(∃ (s : State) (a : State) (q : Req) (k : Nat) (gen : Nat) (g : KeyStaged), s.takes 0x72 q ∧ k ≤ 1023 ∧ s.stageOf k = some g ∧
    g.slice = q.slice ∧ g.verified = true ∧ (s.keySt k = keyEmpty ∨ s.get (Reg.KEY_SLOT_POLICY_OWNER k) = q.slice) ∧ s.notIn stRun =
    false ∧ s.keyBusy = false ∧ gen = s.get (Reg.KEY_SLOT_STATE_GEN k) ∧ a = s.queueWrite (.keyBlob k (gen + 1) [g.policy, g.uses,
    g.kid] 1)) ∧
(∃ (s : State) (a : State) (q : Req) (k : Nat) (gen : Nat), s.takes 0x72 q ∧ 2 ≤ k ∧ k ≤ 1023 ∧ s.keySt k ≠ keyEmpty ∧ (q.slice = 0
    ∨ ((∀ g, s.stageOf k = some g → g.slice = q.slice) ∧ s.get (Reg.KEY_SLOT_POLICY_OWNER k) = q.slice)) ∧ s.notIn stRun = false ∧
    s.keyBusy = false ∧ gen = s.get (Reg.KEY_SLOT_STATE_GEN k) ∧ a = (s.discardStage k 0).destroyBlob k gen 6) ∧
(∃ (s : State) (k : Nat) (now : Nat) (g : KeyStaged), s.stageOf k = some g ∧ g.at' + s.get Reg.KEY_CFG_STAGE_TTL_S * 1000000000 ≤
    now ∧ (s.keys.op.any fun o => o.slot == k && o.kind == 1) = false) ∧
(∃ (s : State) (a : State) (b : State) (k : Nat) (gen : Nat) (step : Nat), s.keys.retry.contains (k, gen) = true ∧ a = { s with keys := { s.keys with retry := s.keys.retry.filter fun (x : Nat × Nat) => !(x.1 == k && x.2 == gen) } }
    ∧ step = (if a.keys.op.any fun o => o.kind == 4 && o.slot == k && o.gen == gen then 6 else if a.keys.zero.contains (k, gen) then
    8 else 5) ∧ b = a.destroyed k gen step) :=
  ⟨⟨cmdOn 0x70 ((st [(0x10, 5)]).put (Reg.SLC_SLICE_QD_KEYS 0) 9), _, _, _, req, ⟨1, 0, 20, 0x140000, 8, 0, true, List.replicate 97 4⟩,
  _, _, _, by decide, by decide, by decide, by decide, by decide, by decide, by decide, by decide, by decide, by decide, by decide,
  by decide, by decide, rfl, rfl, rfl, rfl, rfl, rfl⟩,
  ⟨cmdOn 0x71 { (st [(0x10, 5)]) with keys.stages := [staged0] }, req, 5, _, true, staged0, by decide, by decide, by decide,
  by decide, rfl, by decide, by decide, by decide⟩,
  ⟨cmdOn 0x71 { (st [(0x10, 5)]) with keys.stages := [{ staged0 with uses := 1 }] }, _, req, 5, 0, true, { staged0 with uses := 1 },
  by decide, by decide, by decide, by decide, by decide, by decide, by decide, by decide, rfl⟩,
  ⟨{ (st [(0x10, 5)]) with multi := [{ multi0 with opcode := 0x71 }] }, _, 0, 0, { multi0 with opcode := 0x71 }, by decide, rfl⟩,
  ⟨{ (st [(0x10, 5)]) with multi := [{ multi0 with opcode := 0x71 }] }, _, 0, 0, { multi0 with opcode := 0x71 }, by decide, rfl,
  by decide⟩,
  ⟨cmdOn 0x72 { (st [(0x10, 5)]) with keys.stages := [{ staged0 with verified := true }] }, _, req, 5, _, { staged0 with verified := true },
  by decide, by decide, by decide, by decide, by decide, by decide, by decide, by decide, rfl, rfl⟩,
  ⟨keyOn 2 8 (cmdOn 0x72 ((st [(0x10, 5)]))), _, req, 2, _, by decide, by decide, by decide, by decide, by decide, by decide,
  by decide, rfl, rfl⟩,
  ⟨{ (st [(0x10, 5)]) with keys.stages := [staged0] }, 5, 10 ^ 13, staged0, by decide, by decide, by decide⟩,
  ⟨{ (st [(0x10, 5)]) with keys.retry := [(0, 0)] }, _, _, 0, 0, _, by decide, rfl, rfl, rfl⟩⟩

theorem test_hyp_ServiceLifecycleAndTamper :
(∃ (s : State) (a : State) (now : Nat), a = (s.advance (now * nsUnit)).drawNonce) ∧
(∃ (s : State) (a : State) (q : Req) (t0 : Nat) (keep : Bool), s.reaches 0x22 q = true ∧ q.version = 1 ∧ q.slice = 0 ∧ (s.st =
    stShadow ∨ s.st = stSolo) ∧ s.get Reg.KEY_STATUS_LIFECYCLE ≠ 0 ∧ s.keyUsable 3 0 7 = true ∧ s.keys.nonceAt = some t0 ∧ s.ns < t0
    + 300000000000 ∧ a = { s with keys := { s.keys with nonceAt := none, console := q.ring.isNone } }) ∧
(∃ (s : State) (a : State) (q : Req) (keep : Bool) (ok : Bool), s.reaches 0x22 q = true ∧ q.version = 1 ∧ q.slice = 0 ∧ s.st =
    stShadow ∧ s.get Reg.KEY_STATUS_LIFECYCLE = 0 ∧ a = { s with keys := { s.keys with nonceAt := none, console := q.ring.isNone } }) ∧
(∃ (s : State) (a : State) (q : Req) (target : Nat), s.takes 0x73 q ∧ q.slice = 0 ∧ s.st = stService ∧ ((target ≤ 4 ∧ target = s.get
    Reg.KEY_STATUS_LIFECYCLE + 1) ∨ target = 4) ∧ s.keyBusy = false ∧ a = { s with keys := { s.keys with op := some { req := q, kind := 3, slot := target, gen := 0 } } }) ∧
(∃ (s : State) (a : State) (b : State) (src : Nat) (sub : Nat), 1 ≤ src ∧ src ≤ 7 ∧ (src ≤ 5 ∨ s.mainAbsent = false) ∧ (s.get
    Reg.TMP_STATUS_ACTIVE >>> src) % 2 = 0 ∧ a = (((s.put Reg.TMP_STATUS_ACTIVE (s.get Reg.TMP_STATUS_ACTIVE + 2 ^ src)).count
    Reg.TMP_EVENTS_COUNT).event 160).event (tampEvent src) ∧ b = a.tampLatch src sub) ∧
(∃ (s : State) (src : Nat), 1 ≤ src ∧ src ≤ 7 ∧ (s.get Reg.TMP_STATUS_ACTIVE >>> src) % 2 = 1) ∧
(∃ (s : State), s.st ≠ stService) ∧
(∃ (s : State), s.st = stService ∧ s.get Reg.TMP_STATUS_ACTIVE ≠ 0) ∧
(∃ (s : State) (a : State) (b : State), s.st = stService ∧ s.get Reg.TMP_STATUS_ACTIVE = 0 ∧ a = (((s.put Reg.TMP_LATCHSRC_SRC
    0).put Reg.RTC_TAMPER_VALID 0).put Reg.TMP_STATUS_LATCHED 0).put Reg.KEY_STATUS_LOCKGRP 0 ∧ b = { a with boot := { a.boot with handled := 0 } }) ∧
(∃ (s : State) (a : State) (b : State) (c : State) (bad0 : Bool) (bad1 : Bool) (caseOpen : Bool) (temp : Int) (sub : Nat) (failed :
    List Nat), a = (if bad0 then s.count Reg.TMP_LOOPERR_LOOP0 else s) ∧ b = (if bad1 then a.count Reg.TMP_LOOPERR_LOOP1 else a).put
    Reg.TMP_DIE_TEMP (unsigned 16 temp) ∧ c = [1, 2, 3].foldl (fun s i => if failed.contains i then s.raiseAt 0x1503 2 i i else
    s.clearFault 0x1503 i) b) :=
  ⟨⟨(st [(0x10, 5)]), _, 0, rfl⟩,
  ⟨keyOn 3 0x80 (cmdOn 0x22 { (st [(0x10, 5)]).put Reg.KEY_STATUS_LIFECYCLE 1 with keys.nonceAt := some 0 }), _, req, 0, true,
  by decide, by decide, by decide, by decide, by decide, by decide, by decide, by decide, rfl⟩,
  ⟨cmdOn 0x22 ((st [(0x10, 5)])), _, req, true, true, by decide, by decide, by decide, by decide, by decide, rfl⟩,
  ⟨cmdOn 0x73 ((st [(0x10, 9)])), _, req, 4, by decide, by decide, by decide, by decide, by decide, rfl⟩,
  ⟨(st [(0x10, 5)]), _, _, 1, 0, by decide, by decide, by decide, by decide, rfl, rfl⟩,
  ⟨st [(0x10, 0x5), (0x150014, 0x2)], 1, by decide, by decide, by decide⟩,
  ⟨st [(0x10, 0x5)], by decide⟩,
  ⟨st [(0x10, 0x9), (0x150014, 0x1)], by decide, by decide⟩,
  ⟨(st [(0x10, 9)]), _, _, by decide, by decide, rfl, rfl⟩,
  ⟨(st [(0x10, 5)]), _, _, _, true, true, true, (0 : Int), 0, [], rfl, rfl, rfl⟩⟩

theorem test_hyp_LogicEngineCommands :
(∃ (s : State) (q : Req) (len : Nat) (key : Nat) (img : CleImage), s.takes 0x50 q ∧ img.version = 1 ∧ cleSizesOk img = true ∧
    img.length = len ∧ img.code.all (cleInstrOk img) = true ∧ s.clePriv q.slice = false ∧ s.keyOwn key q.slice = true ∧ s.keyHasUse
    key 3 = true ∧ s.notIn stRun = false ∧ s.cleSt = cleStop ∧ img.digestOk = true ∧ img.sigOk = true ∧ s.keyUsable key q.slice 3 =
    true) ∧
(∃ (s : State) (q : Req) (cold : Bool), s.takes 0x51 q ∧ s.clePriv q.slice = false ∧ s.notIn stRun = false ∧ s.cleSt = cleStop ∧
    s.cle.prog ≠ none ∧ s.flag Reg.CLE_CTRL_EN = true) ∧
(∃ (s : State) (q : Req), s.takes 0x52 q ∧ s.clePriv q.slice = false ∧ s.notIn stRun = false ∧ s.cleSt = cleStop ∧ s.cle.bound = []) ∧
(∃ (s : State) (q : Req), s.takes 0x52 q ∧ s.clePriv q.slice = false ∧ s.notIn stRun = false ∧ (s.cleSt ≠ cleStop ∨ s.cle.bound ≠
    [])) ∧
(∃ (s : State) (q : Req) (target : Nat) (value : Nat) (at' : Nat), s.takes 0x53 q ∧ s.writeTarget target = true ∧ s.clePriv q.slice
    = false ∧ s.notIn stRun = false ∧ s.cleSt ≠ cleFaulted ∧ s.cle.write = none) ∧
(∃ (s : State) (q : Req) (addr : Nat) (value : Bool) (l : List (Nat × Bool)), s.takes 0x30 q ∧ (addr < 8 ∨ (0x100 ≤ addr ∧ addr <
    0x2100) ∨ (0x4000 ≤ addr ∧ addr < 0xC000) ∨ (2 ^ 20 ≤ addr ∧ addr < 2 ^ 20 + 8192)) ∧ q.slice = 0 ∧ s.st = stService ∧ l =
    forcesAfter s.cle.forces s.cle.forceOps ∧ (l.length < 256 ∨ (l.any fun x => x.1 == addr) = true)) ∧
(∃ (s : State) (q : Req) (addr : Nat), s.takes 0x31 q ∧ q.slice = 0 ∧ s.st = stService) :=
  ⟨⟨keyOn 5 8 (cmdOn 0x50 ((st [(0x10, 5)]).put Reg.CLE_STATUS_STATE cleStop)), req, 264, 5, { cleImg0 with version := 1, digestOk := true, sigOk := true },
  by decide, by decide, by decide, by decide, by decide, by decide, by decide, by decide, by decide, by decide, by decide,
  by decide, by decide⟩,
  ⟨cmdOn 0x51 { ((st [(0x10, 5)]).put Reg.CLE_STATUS_STATE cleStop).put Reg.CLE_CTRL_EN 1 with cle.prog := some cleImg1 }, req, true,
  by decide, by decide, by decide, by decide, by decide, by decide⟩,
  ⟨cmdOn 0x52 { (st [(0x10, 5)]).put Reg.CLE_STATUS_STATE cleStop with cle.bound := [] }, req, by decide, by decide, by decide,
  by decide, by decide⟩,
  ⟨cmdOn 0x52 ((st [(0x10, 5)]).put Reg.CLE_STATUS_STATE cleFaulted), req, by decide, by decide, by decide, by decide⟩,
  ⟨cmdOn 0x53 { (st [(0x10, 5)]) with cle.write := none, cle.prog := some cleImg1 }, req, 0x200000, 0, 0, by decide, by decide,
  by decide, by decide, by decide, by decide⟩,
  ⟨cmdOn 0x30 ((st [(0x10, 9)])), req, 0, true, _, by decide, by decide, by decide, by decide, rfl, by decide⟩,
  ⟨cmdOn 0x31 ((st [(0x10, 9)])), req, 0, by decide, by decide, by decide⟩⟩

theorem test_hyp_LogicInstructionsCompute :
(∃ (c : Cle) (f : Nat) (fs : List (Nat × Bool)) (x : Nat) (op : Nat), 1 ≤ op ∧ op ≤ 0xB) ∧
(∃ (c : Cle) (f : Nat) (fs : List (Nat × Bool)) (a : Nat) (j : Nat), a < 32 * c.wq.length ∧ a < 2 ^ 20) ∧
(∃ (c : Cle) (f : Nat) (fs : List (Nat × Bool)) (x : Nat) (op : Nat), 0x10 ≤ op ∧ op ≤ 0x14 ∧ 16 ≤ c.stack.length) ∧
(∃ (c : Cle) (f : Nat) (fs : List (Nat × Bool)) (x : Nat) (op : Nat), 0x10 ≤ op ∧ op ≤ 0x14 ∧ c.stack.length < 16) ∧
(∃ (c : Cle) (f : Nat) (fs : List (Nat × Bool)) (x : Nat), c.stack = []) ∧
(∃ (c : Cle) (f : Nat) (fs : List (Nat × Bool)) (x : Nat) (k : Nat) (b : Bool) (l : List (Bool × Nat)), c.stack = (b, k) :: l) :=
  ⟨⟨({} : Cle), 0, [], 0, 1, by decide, by decide⟩,
  ⟨{ ({} : Cle) with wq := [0] }, 0, [], 0, 0, by decide, by decide⟩,
  ⟨{ ({} : Cle) with stack := List.replicate 16 (true, 0) }, 0, [], 0, 16, by decide, by decide, by decide⟩,
  ⟨({} : Cle), 0, [], 0, 16, by decide, by decide, by decide⟩,
  ⟨{ ({} : Cle) with stack := [] }, 0, [], 0, by decide⟩,
  ⟨{ ({} : Cle) with stack := (true, 0) :: ([]) }, 0, [], 0, 0, true, [], by decide⟩⟩

theorem test_hyp_TotalsAreTheSumsOfTheirPhases :
(∃ (s : State) (p : Nat) (φ : Nat) (r : Nat) (x : Nat), 1 ≤ φ ∧ φ ≤ 3 ∧ r < 7 ∧ pointSums (s.point p)) ∧
(∃ (s : State) (p : Nat) (k : Nat) (φ : Nat) (r : Nat) (x : Nat), 1 ≤ φ ∧ φ ≤ 3 ∧ r < 7 ∧ k ≠ p) ∧
(∃ (x : NrgPoint), pointSums x) :=
  ⟨⟨st [(0x10, 0x5)], 0, 1, 0, 5, by decide, by decide, by decide, (by unfold pointSums; decide)⟩,
  ⟨st [(0x10, 0x5)], 0, 1, 1, 0, 0, by decide, by decide, by decide, by decide⟩,
  ⟨{ point := 0 }, (by unfold pointSums; decide)⟩⟩

theorem test_hyp_EnergyWindowsAndTicks :
(∃ (s : State) (p : Nat), s.flag Reg.NRG_CTRL_EN = true ∧ (s.point p).due = true) ∧
(∃ (s : State) (a : State) (p : Nat) (n : Nat), s.flag Reg.NRG_CTRL_EN = true ∧ s.tg.running = true ∧ p ≤ 129 ∧ (∀ k, (s.point
    p).last = some k → k < n) ∧ a = (if (s.point p).due then s.windowEnd p else s).ptLoad p n) ∧
(∃ (s : State) (a : State) (b : State) (p : Nat), s.st ≠ stBoot ∧ p ≤ 129 ∧ a = (s.putFlag Reg.NRG_ACC_SEL_HEAT false).put
    Reg.NRG_ACC_SEL_INDEX p ∧ b = (a.putAcc (s.point p).regs).put Reg.NRG_ACC_WIN_TICK (s.point p).winEnd) ∧
(∃ (s : State) (a : State) (b : State) (h : Nat) (x : HeatMeter), s.st ≠ stBoot ∧ h ≤ 63 ∧ x = s.heatMeter h ∧ a = (s.putFlag
    Reg.NRG_ACC_SEL_HEAT true).put Reg.NRG_ACC_SEL_INDEX h ∧ b = (a.putAcc [x.heat, x.cold, x.vol, x.errS]).put Reg.NRG_ACC_WIN_TICK
    x.step) ∧
(∃ (s : State) (i : Nat) (heat : Bool), s.st ≠ stBoot ∧ (130 ≤ i ∨ (heat = true ∧ 64 ≤ i))) ∧
(∃ (s : State) (i : Nat) (heat : Bool), s.st = stBoot) ∧
    (∃ (s : State) (a : State) (second : Nat) (n : Nat) (calm : Nat) (sums : List (Nat × Nat × Nat × Nat)) (on : List (Nat × Nat × Nat × Nat)) (v : VigilState) (chans : List VigChan) (overs : Bool) (rms : List (Nat × Nat)) (top : Nat × Nat) (flow : Option (Nat × Option Nat × Nat × Nat)), s.st = stVigil ∧ 1 ≤ n ∧ v = s.nrg.vig ∧ on = sums.filter (fun x => decide (x.1 < 8) && (v.mask >>> x.1) % 2 == 1) ∧ chans = on.foldl (fun l x => setKey VigChan.chan (vigAdd (v.ks.getD x.1 0) n ((findKey VigChan.chan x.1 l).getD { chan := x.1 }) x.2.1 x.2.2.1) l) v.chans ∧ overs = on.any (fun x => decide (v.thresh * v.thresh * 2 ^ 32 * n < x.2.2.2 * v.ks.getD x.1 0 ^ 2)) ∧ rms = on.map (fun x => (isqrtWide (x.2.2.2 * v.ks.getD x.1 0 ^ 2 / (2 ^ 32 * n)), x.1)) ∧ top = rms.foldl (fun b x => if b.1 < x.1 then x else b) (0, 0) ∧ calm = (if overs then 0 else v.calm + 1) ∧ flow = (match v.flow with | none => if overs then some (second, none, top.1, top.2) else none | some (f, e, pk, c) => if pk < top.1 then some (f, if e.isNone && calm = 10 then some (second + 1) else e, top.1, top.2) else some (f, if e.isNone && calm = 10 then some (second + 1) else e, pk, c)) ∧ a = { s with nrg := { s.nrg with vig := { v with chans := chans, flow := flow, calm := calm } } }) :=
  ⟨⟨{ st [(0x10, 0x5), (0x110010, 0x1)] with nrg.pts := [{ point := 0, due := true }] }, 0, by decide, by decide⟩,
  ⟨{ (st [(0x10, 5)]).put Reg.NRG_CTRL_EN 1 with tg.running := true }, _, 0, 0, by decide, by decide, by decide, by decide, rfl⟩,
  ⟨(st [(0x10, 5)]), _, _, 0, by decide, by decide, rfl, rfl⟩,
  ⟨(st [(0x10, 5)]), _, _, 0, _, by decide, by decide, rfl, rfl, rfl⟩,
  ⟨(st [(0x10, 5)]), 130, true, by decide, by decide⟩,
  ⟨(st [(0x10, 3)]), 0, true, by decide⟩,
  ⟨(st [(0x10, 1)]), _, 0, 1, _, [], _, _, _, _, _, _, _, by decide, by decide, rfl, rfl, rfl, rfl, rfl, rfl, rfl, rfl, rfl⟩⟩

theorem test_hyp_PulsesAndHeat :
(∃ (s : State) (a : State) (b : State) (c : State) (k : Nat) (now : Nat) (n : Nat) (r : Nat) (w : Nat) (width : Nat) (x : PulseOut),
    k ≤ 3 ∧ a = s.advance (now * nsUnit) ∧ a.flag Reg.NRG_CTRL_EN = true ∧ a.poMay = true ∧ a.getA (Reg.NRG_PO_CFG_EN k) = 1 ∧ n =
    a.get (Reg.NRG_PO_BACKLOG_COUNT k) ∧ 1 ≤ n ∧ x = a.po k ∧ x.busyUntil ≤ now ∧ r = ((x.moved.filter fun e => decide (now < e.1 +
    1000000000)).map Prod.snd).sum + n ∧ w = a.get Reg.NRG_PULSE_WIDTH_MS ∧ width = (if r * w ≤ 500 then w else max 2 (500 / r)) ∧ b
    = a.setPo { x with onUntil := now + width * 1000000, busyUntil := now + 2 * width * 1000000 } ∧ c = ((b.put
    (Reg.NRG_PO_BACKLOG_COUNT k) (n - 1)).countMod (Reg.NRG_PO_EMITTED_COUNT k) 1).put (Reg.NRG_PO_WIDTH_MS k) width) ∧
(∃ (s : State) (a : State) (b : State) (h : Nat) (now : Nat) (ts : Int × Bool) (tr : Int × Bool) (v : Int × Bool), s.flag
    Reg.NRG_CTRL_EN = true ∧ h ≤ 63 ∧ s.getA (Reg.NRG_HM_CFG_EN h) = 1 ∧ now % (s.get Reg.NRG_HEAT_PERIOD_MS * 1000000) = 0 ∧ s.ns ≤
    now ∧ a = s.advance (now * nsUnit) ∧ b = a.putFlag (Reg.NRG_HM_STAT_STALE h) (a.heatStale h) ∧ b.heatIn h = [ts, tr, v] ∧ ts.2 =
    true ∧ tr.2 = true ∧ v.2 = true) ∧
(∃ (s : State) (a : State) (b : State) (h : Nat) (now : Nat) (ts : Int × Bool) (tr : Int × Bool) (v : Int × Bool), s.flag
    Reg.NRG_CTRL_EN = true ∧ h ≤ 63 ∧ s.getA (Reg.NRG_HM_CFG_EN h) = 1 ∧ now % (s.get Reg.NRG_HEAT_PERIOD_MS * 1000000) = 0 ∧ s.ns ≤
    now ∧ a = s.advance (now * nsUnit) ∧ b = a.putFlag (Reg.NRG_HM_STAT_STALE h) (a.heatStale h) ∧ b.heatIn h = [ts, tr, v] ∧ (ts.2
    = false ∨ tr.2 = false ∨ v.2 = false)) ∧
(∃ (s : State) (a : State) (h : Nat) (lph : Nat), h ≤ 63 ∧ s.st ≠ stBoot ∧ lph < 2 ^ 32 ∧ a = s.setMeter { s.heatMeter h with report := some (s.getS (Reg.NRG_HM_REP_T_TS h), s.getS (Reg.NRG_HM_REP_T_TR h), lph, s.ns) }) ∧
(∃ (s : State) (h : Nat) (lph : Nat), h ≤ 63 ∧ s.st = stBoot) :=
  ⟨⟨(((st [(0x10, 5)]).put Reg.NRG_CTRL_EN 1).put (Reg.NRG_PO_CFG_EN 0).active 1).put (Reg.NRG_PO_BACKLOG_COUNT 0) 1, _, _, _, 0, 0, _,
  _, _, _, _, by decide, rfl, by decide, by decide, by decide, rfl, by decide, rfl, by decide, rfl, rfl, rfl, rfl, rfl⟩,
  ⟨{ st [(0x10, 0x5), (0x110010, 0x1), (0x118400, 0xb0000000), (0x118410, 0xffff0000)] with nrg.hms := [{ meter := 0, report := some (0, 0, 0, 0) }] },
  _, _, 0, 0, (0, true), (0, true), (0, true), by decide, by decide, by decide, by decide, by decide, rfl, rfl, by decide,
  by decide, by decide, by decide⟩,
  ⟨st [(0x10, 0x5), (0x110010, 0x1), (0x118400, 0xb0000000), (0x118410, 0xffff0000)], _, _, 0, 0, (0, false), (0, false), (0, false),
  by decide, by decide, by decide, by decide, by decide, rfl, rfl, by decide, by decide⟩,
  ⟨(st [(0x10, 5)]), _, 0, 0, by decide, by decide, by decide, rfl⟩,
  ⟨(st [(0x10, 3)]), 0, 0, by decide, by decide⟩⟩

theorem test_hyp_LoopsRunAndTakeOrders :
(∃ (s : State) (a : State) (b : State) (n : Nat) (k : Nat) (close : Option Int) (runs : Bool), n ≤ 127 ∧ s.flag Reg.LCE_CTRL_EN =
    true ∧ s.tg.running = true ∧ s.loopWaits n k = true ∧ (∀ m, m < n → s.loopWaits m k = false) ∧ a = (s.advance (s.loopStart n
    k)).setLoop { s.loopRec n with last := some k } ∧ a.loopApplyOp n = (b, close, runs)) ∧
(∃ (s : State) (n : Nat), n ≤ 127 ∧ s.st ≠ stBoot ∧ s.loopSt n ≠ loOff) ∧
(∃ (s : State) (n : Nat), n ≤ 127 ∧ s.st ≠ stBoot) ∧
(∃ (s : State) (n : Nat), n ≤ 127 ∧ s.st ≠ stBoot ∧ s.loopSt n = loOff ∧ (s.loopRec n).op ≠ 1 ∧ (s.loopRec n).op ≠ 2 ∧ s.loopsOut <
    loopCap s.tg.f) ∧
(∃ (s : State) (n : Nat), n ≤ 127 ∧ s.st ≠ stBoot ∧ s.loopSt n = loOff ∧ (s.loopRec n).op ≠ 1 ∧ (s.loopRec n).op ≠ 2 ∧ loopCap
    s.tg.f ≤ s.loopsOut) ∧
(∃ (s : State) (n : Nat), n ≤ 127 ∧ s.st = stBoot) ∧
(∃ (s : State) (a : State) (b : State) (src : Nat) (ch : Nat) (status : Nat) (position : Nat) (value : Nat) (now : Nat) (d : Nat) (r
    : DevReport), s.flag Reg.LCE_CTRL_EN = true ∧ a = s.advance (now * nsUnit) ∧ a.reportMatch src ch = some d ∧ status % 2 = 0 ∧ r
    = { key := 256 * d + ch, at' := a.ns, fault := false, position := signed 32 position, value := signed 32 value, seen := false, good := some (signed 32 position) }
    ∧ b = { a with lce := { a.lce with reports := setKey DevReport.key r a.lce.reports } }) ∧
(∃ (s : State) (a : State) (b : State) (c : State) (src : Nat) (ch : Nat) (status : Nat) (position : Nat) (value : Nat) (now : Nat)
    (d : Nat) (r : DevReport), s.flag Reg.LCE_CTRL_EN = true ∧ a = s.advance (now * nsUnit) ∧ a.reportMatch src ch = some d ∧ status
    % 2 = 1 ∧ r = { key := 256 * d + ch, at' := a.ns, fault := true, position := signed 32 position, value := signed 32 value, seen := true, good := (a.reportOf d ch).bind DevReport.good }
    ∧ b = { a with lce := { a.lce with reports := setKey DevReport.key r a.lce.reports } } ∧ c = b.count Reg.LCE_REPORT_RX_COUNT) ∧
(∃ (s : State) (a : State) (src : Nat) (type : Nat) (ch : Nat) (status : Nat) (position : Nat) (value : Nat) (now : Nat), s.flag
    Reg.LCE_CTRL_EN = true ∧ a = s.advance (now * nsUnit) ∧ (a.reportMatch src ch = none ∨ type ≠ 0x41)) ∧
(∃ (s : State) (a : State) (b : State) (d : Nat) (ch : Nat) (now : Nat) (r : DevReport), s.flag Reg.LCE_CTRL_EN = true ∧ d ≤ 31 ∧ a
    = s.advance (now * nsUnit) ∧ a.reportOf d ch = some r ∧ r.seen = false ∧ a.reportStale d (some r) = true ∧ b = { a with lce := { a.lce with reports := setKey DevReport.key { r with seen := true } a.lce.reports } }) :=
  ⟨⟨{ (st [(0x10, 5)]).put Reg.LCE_CTRL_EN 1 with tg.running := true, lce.loops := [{ loop := 0, op := 1 }] }, _, _, 0, 0, _, true,
  by decide, by decide, by decide, by decide, by decide, rfl, rfl⟩,
  ⟨st [(0x10, 0x6), (0x121050, 0x1)], 0, by decide, by decide, by decide⟩,
  ⟨(st [(0x10, 5)]), 0, by decide, by decide⟩,
  ⟨(st [(0x10, 5)]).put (Reg.LCE_LOOP_STATE_STATE 0) loOff, 0, by decide, by decide, by decide, by decide, by decide, by decide⟩,
  ⟨((st [(0x10, 5)]).put (Reg.LCE_LOOP_STATE_STATE 0) loOff).put Reg.LCE_STATUS_ACTIVE 128, 0, by decide, by decide, by decide,
  by decide, by decide, by decide⟩,
  ⟨(st [(0x10, 3)]), 0, by decide, by decide⟩,
  ⟨((st [(0x10, 5)]).put Reg.LCE_CTRL_EN 1).put (Reg.LCE_DEV_CFG_EN 0) 1, _, _, 0, 0, 0, 0, 0, 0, 0, _, by decide, rfl, by decide,
  by decide, rfl, rfl⟩,
  ⟨((st [(0x10, 5)]).put Reg.LCE_CTRL_EN 1).put (Reg.LCE_DEV_CFG_EN 0) 1, _, _, _, 0, 0, 1, 0, 0, 0, 0, _, by decide, rfl, by decide,
  by decide, rfl, rfl, rfl⟩,
  ⟨(st [(0x10, 5)]).put Reg.LCE_CTRL_EN 1, _, 0, 0, 0, 0, 0, 0, 0, by decide, rfl, by decide⟩,
  ⟨{ (st [(0x10, 5)]).put Reg.LCE_CTRL_EN 1 with lce.reports := [{ report0 with key := 0, seen := false }] }, _, _, 0, 0, 10 ^ 13, { report0 with key := 0, seen := false },
  by decide, by decide, rfl, by decide, by decide, by decide, rfl⟩⟩

theorem test_hyp_IncrementStaysPermitted :
(∃ (s : State) (data : Word), s.st ≠ stBoot) ∧
(∃ (s : State) (a : State) (b : State) (data : Word), s.st ≠ stBoot ∧ data = 0 ∧ s.get Reg.TIM_STEP_LO_NS = 0 ∧ a = s.put
    Reg.TIM_STEP_HI_NS 0 ∧ b = { a with tim := { a.tim with armed := none } }) ∧
(∃ (s : State) (data : Word) (v : Int), s.st ≠ stBoot ∧ v = signed 64 (data.toNat * 2 ^ 32 + s.get Reg.TIM_STEP_LO_NS) ∧ v ≠ 0 ∧
    s.computing = true ∧ 1000 < v.natAbs) ∧
(∃ (s : State) (data : Word) (v : Int), s.st ≠ stBoot ∧ v = signed 64 (data.toNat * 2 ^ 32 + s.get Reg.TIM_STEP_LO_NS) ∧ v ≠ 0 ∧
    (s.computing = false ∨ v.natAbs ≤ 1000)) ∧
(∃ (s : State) (data : Word), s.st = stBoot) :=
  ⟨⟨(st [(0x10, 5)]), (0 : Word), by decide⟩,
  ⟨(st [(0x10, 5)]), _, _, 0, by decide, by decide, by decide, rfl, rfl⟩,
  ⟨{ (st [(0x10, 5)]) with slots := [slotAt slRunning] }, 1, _, by decide, rfl, by decide, by decide, by decide⟩,
  ⟨(st [(0x10, 5)]), 1, _, by decide, rfl, by decide, by decide⟩,
  ⟨(st [(0x10, 3)]), (0 : Word), by decide⟩⟩

theorem test_hyp_TimeSourcesLockAndFail :
(∃ (s : State) (m : ServoSample), (s.timeRun = false ∨ s.servoTakes m = false)) ∧
(∃ (s : State) (a : State) (b : State) (c : State) (m : ServoSample) (ofs : Int), s.timeRun = true ∧ s.servoTakes m = true ∧ ofs =
    s.servoOffset m ∧ a = (s.put Reg.TIM_SERVO_OFS_OFS (unsigned 32 (saturate 32 (per256 ofs)))).put Reg.TIM_SERVO_MPD_MPD (if m.pps
    then 0 else min (per256 (s.linkDelay m.port)).toNat (2 ^ 32 - 1)) ∧ b = { a with tim := { a.tim with lockRun := if ofs.natAbs ≤ 250 * 65536 then a.tim.lockRun + 1 else 0, unlockRun := if 1000 * 65536 < ofs.natAbs then a.tim.unlockRun + 1 else 0, lastSync := a.time } }
    ∧ c = b.applyIncr m.incr) ∧
(∃ (s : State) (m : Announce), (s.get Reg.TIM_PTP_CFG_DOMAIN ≠ m.domain ∨ (s.get Reg.TIM_PTP_CFG_PORTS >>> m.port) % 2 = 0)) ∧
(∃ (s : State) (a : State) (m : Announce) (l : List Announce), s.get Reg.TIM_PTP_CFG_DOMAIN = m.domain ∧ (s.get
    Reg.TIM_PTP_CFG_PORTS >>> m.port) % 2 = 1 ∧ l = (if m.ptpTimescale then setKey Announce.port m s.tim.announces else dropKey
    Announce.port m.port s.tim.announces) ∧ a = { s with tim := { s.tim with announces := l } }) ∧
(∃ (s : State) (a : State) (port : Nat) (x : PdelayTimes), port ≤ 7 ∧ (s.get Reg.TIM_PTP_CFG_PORTS >>> port) % 2 = 1 ∧ a = { s with tim := { s.tim with delays := setKey Prod.fst (port, s.pdelay port x) s.tim.delays } }) ∧
(∃ (s : State) (port : Nat) (pcs : Nat) (cls : Nat) (x : Announce), portState s s.ptpParent port = 3 ∧ s.portUp port = true ∧
    s.peerPaused port 7 s.ns = false ∧ ((s.get Reg.TIM_STATUS_CLASS = clsLocked ∧ bestAnnounce s.tim.announces = some x ∧ cls =
    x.rank.getD 1 0) ∨ (s.get Reg.TIM_STATUS_CLASS = clsHoldover ∧ cls = 187))) ∧
(∃ (s : State) (a : State), s.timeRun = true ∧ a = s.advance s.sourceDue) ∧
(∃ (s : State), s.get Reg.TIM_STATUS_CLASS = clsHoldover) ∧
(∃ (s : State) (a : State) (d : Int), s.mainAbsent = false ∧ s.flag Reg.TIM_CTRL_REF_EN = false ∧ a = { s with tim := { s.tim with refRun := 0 } }) ∧
(∃ (s : State) (a : State) (b : State) (d : Int), s.mainAbsent = false ∧ s.flag Reg.TIM_CTRL_REF_EN = true ∧ a = { s with tim := { s.tim with refRun := if d.natAbs ≤ 400 then s.tim.refRun + 1 else 0 } }
    ∧ b = a.put Reg.TIM_STATUS_REF_OK 1 ∧ 500 < d.natAbs) ∧
(∃ (s : State) (a : State) (b : State) (d : Int), s.mainAbsent = false ∧ s.flag Reg.TIM_CTRL_REF_EN = true ∧ a = { s with tim := { s.tim with refRun := if d.natAbs ≤ 400 then s.tim.refRun + 1 else 0 } }
    ∧ b = a.put Reg.TIM_STATUS_REF_OK 1 ∧ d.natAbs ≤ 500) ∧
(∃ (s : State) (a : State) (b : State) (d : Int), s.mainAbsent = false ∧ a = { s with tim := { s.tim with refRun := 0 } } ∧ b =
    (a.put Reg.TIM_STATUS_REF_OK 0).toTcxo) :=
  ⟨⟨{ st [(0x10, 0x5)] with timeRun := true }, servo0, by decide⟩,
  ⟨{ (st [(0x10, 5)]).put Reg.TIM_PTP_STATE_PARENT 0 with timeRun := true }, _, _, _, servo0, _, by decide, by decide, rfl, rfl, rfl,
  rfl⟩,
  ⟨(st [(0x10, 5)]), announce0, by decide⟩,
  ⟨((st [(0x10, 5)]).put Reg.TIM_PTP_CFG_PORTS 5).put Reg.TIM_PTP_STATE_PARENT 0, _, announce0, _, by decide, by decide, rfl, rfl⟩,
  ⟨((st [(0x10, 5)]).put Reg.TIM_PTP_CFG_PORTS 5).put Reg.TIM_PTP_STATE_PARENT 0, _, 0, ⟨0, 1, 2, 3⟩, by decide, by decide, rfl⟩,
  ⟨(((((st [(0x10, 5)]).put Reg.TIM_PTP_CFG_PORTS 5).put Reg.TIM_PTP_STATE_PARENT 2).put Reg.TIM_PTP_CFG_BC 1).put
  (Reg.MACP_STAT_STATE 0) stUp).put Reg.TIM_STATUS_CLASS clsHoldover, 0, 0, 187, announce0, by decide, by decide, by decide,
  by decide⟩,
  ⟨{ (st [(0x10, 5)]) with timeRun := true }, _, by decide, rfl⟩,
  ⟨{ st [(0x10, 0x5), (0x40014, 0x3)] with timeRun := true }, by decide⟩,
  ⟨(st [(0x10, 5)]).put Reg.TIM_CTRL_REF_EN 0, _, (0 : Int), by decide, by decide, rfl⟩,
  ⟨(st [(0x10, 5)]).put Reg.TIM_CTRL_REF_EN 1, _, _, 501, by decide, by decide, rfl, rfl, by decide⟩,
  ⟨(st [(0x10, 5)]).put Reg.TIM_CTRL_REF_EN 1, _, _, (0 : Int), by decide, by decide, rfl, rfl, by decide⟩,
  ⟨(st [(0x10, 5)]), _, _, (0 : Int), by decide, rfl, rfl⟩⟩

theorem test_hyp_StampsEdgesAndGates :
(∃ (s : State) (a : State) (b : State) (k : Nat) (sec : Nat), s.timeRun = true ∧ k = (s.time + 1000000000 * nsUnit - 1) /
    (1000000000 * nsUnit) ∧ sec = (if s.tim.ppsLast = some k then k + 1 else k) ∧ a = s.advance (sec * 1000000000 * nsUnit) ∧ b = { a with tim := { a.tim with ppsLast := some sec } }) ∧
(∃ (s : State) (a : State) (b : State) (stamp : Nat) (t : Nat), s.timeRun = true ∧ a = s.advance stamp ∧ t = stamp - 32 * nsUnit /
    10 ∧ b = { a with tim := { a.tim with lastPps := t, ppsSeen := true } } ∧ (a.tim.ppsSeen = false ∨ a.tim.lastPps + 900000000 *
    nsUnit ≤ t)) ∧
(∃ (s : State) (a : State) (b : State) (stamp : Nat) (t : Nat), s.timeRun = true ∧ a = s.advance stamp ∧ t = stamp - 32 * nsUnit /
    10 ∧ b = { a with tim := { a.tim with lastPps := t, ppsSeen := true } } ∧ a.tim.ppsSeen = true ∧ t < a.tim.lastPps + 900000000 *
    nsUnit) ∧
(∃ (s : State) (a : State) (b : State) (input : Nat) (stamp : Nat) (falling : Bool) (e : List (Nat × Nat × Bool)), s.timeRun = true
    ∧ a = s.advance stamp ∧ input ≤ 7 ∧ ((if falling then a.get Reg.TIM_DIEDGE_EN_FALL else a.get Reg.TIM_DIEDGE_EN_RISE) >>> input)
    % 2 = 1 ∧ e = insertEdge ((stamp - 32 * nsUnit / 10) / nsUnit, input, falling) a.tim.edges ∧ b = { a with tim := { a.tim with edges := e } }) ∧
(∃ (s : State) (a : State) (input : Nat) (stamp : Nat) (falling : Bool), s.timeRun = true ∧ a = s.advance stamp ∧ ((if falling then
    a.get Reg.TIM_DIEDGE_EN_FALL else a.get Reg.TIM_DIEDGE_EN_RISE) >>> input) % 2 = 0) ∧
(∃ (s : State) (a : State) (t : Nat) (i : Nat) (f : Bool) (l : List (Nat × Nat × Bool)), s.tim.edges = (t, i, f) :: l ∧ i ≤ 7 ∧ a =
    { s with tim := { s.tim with edges := l } }) ∧
(∃ (s : State) (x : Nat), x ∈ [0x40040, 0x40058, 0x50070]) ∧
(∃ (s : State) (p : Nat) (data : Word), p ≤ 11 ∧ s.st ≠ stBoot ∧ s.flag (Reg.TIM_PORT_GCL_CTRL_PEND p) = false ∧ 1 ≤ data.field 16 9
    ∧ data.field 16 9 ≤ 256 ∧ data.field 0 1 = 1 ∧ data.field 1 1 = 1) ∧
(∃ (s : State) (a : State) (p : Nat), p ≤ 11 ∧ s.st ≠ stBoot ∧ a = { s with tim := { s.tim with gclPend := dropKey Prod.fst p s.tim.gclPend } }) ∧
(∃ (s : State) (a : State) (b : State) (c : State) (p : Nat) (w : Nat), findKey Prod.fst p s.tim.gclPend = some (p, w) ∧ a =
    s.advance (w * nsUnit) ∧ b = { a with tim := { a.tim with gclPend := dropKey Prod.fst p a.tim.gclPend, gclLen := setKey Prod.fst (p, a.get (Reg.TIM_PORT_GCL_CTRL_ADMIN_LEN p)) a.tim.gclLen } }
    ∧ c = ((b.put (Reg.TIM_PORT_GCL_CTRL_PEND p) 0).put (Reg.TIM_PORT_GCL_CTRL_OPER p) (1 - s.get (Reg.TIM_PORT_GCL_CTRL_OPER
    p))).put (Reg.TIM_PORT_GCL_OPER_CYCLE_NS p) (s.get (Reg.TIM_PORT_GCL_CYCLE_NS p))) :=
  ⟨⟨{ (st [(0x10, 5)]) with timeRun := true }, _, _, _, _, by decide, rfl, rfl, rfl, rfl⟩,
  ⟨{ (st [(0x10, 5)]) with timeRun := true }, _, _, 0, _, by decide, rfl, rfl, rfl, by decide⟩,
  ⟨{ (st [(0x10, 5)]) with timeRun := true, tim.ppsSeen := true }, _, _, 0, _, by decide, rfl, rfl, rfl, by decide, by decide⟩,
  ⟨{ (st [(0x10, 5)]).put Reg.TIM_DIEDGE_EN_FALL 1 with timeRun := true }, _, _, 0, 0, true, _, by decide, rfl, by decide, by decide,
  rfl, rfl⟩,
  ⟨{ (st [(0x10, 5)]) with timeRun := true }, _, 0, 0, true, by decide, rfl, by decide⟩,
  ⟨{ (st [(0x10, 5)]) with tim.edges := [(0, 0, true)] }, _, 0, 0, true, _, rfl, by decide, rfl⟩,
  ⟨(st [(0x10, 5)]), 0x40040, by decide⟩,
  ⟨(st [(0x10, 5)]), 0, 0x00010003, by decide, by decide, by decide, by decide, by decide, by decide, by decide⟩,
  ⟨(st [(0x10, 5)]), _, 0, by decide, by decide, rfl⟩,
  ⟨{ (st [(0x10, 5)]) with tim.gclPend := [(0, 0)] }, _, _, _, 0, 0, by decide, rfl, rfl, rfl⟩⟩

theorem test_hyp_DatesConvertBothWays :
(∃ (d : Nat) (w : Nat), d < calDays ∧ 1 ≤ w ∧ w ≤ 7) ∧
(∃ (x : Nat), x < 86400) :=
  ⟨⟨73048, 7, by decide, by decide, by decide⟩,
  ⟨0, by decide⟩⟩

theorem test_hyp_CalendarIsWrittenAndRuns :
(∃ (s : State) (sub : Nat), s.st ≠ stBoot ∧ stagedOk s.rtc.date s.rtc.time = true) ∧
(∃ (s : State) (sub : Nat), s.st ≠ stBoot ∧ stagedOk s.rtc.date s.rtc.time = false) ∧
(∃ (s : State), s.st ≠ stBoot ∧ s.flag Reg.RTC_STATUS_DST = false ∧ s.flag Reg.RTC_CAL_MODE_DST_EN = true ∧ s.calSecs + 3601 <
    calEnd) ∧
(∃ (s : State), s.st ≠ stBoot ∧ (s.flag Reg.RTC_STATUS_DST = true ∨ s.flag Reg.RTC_CAL_MODE_DST_EN = false ∨ calEnd ≤ s.calSecs +
    3601)) ∧
(∃ (s : State), s.st ≠ stBoot ∧ s.flag Reg.RTC_STATUS_DST = true ∧ s.flag Reg.RTC_CAL_MODE_DST_EN = true ∧ 3600 ≤ s.calSecs + 1) ∧
(∃ (s : State), s.st ≠ stBoot ∧ (s.flag Reg.RTC_STATUS_DST = false ∨ s.flag Reg.RTC_CAL_MODE_DST_EN = false ∨ s.calSecs + 1 < 3600)) ∧
(∃ (s : State) (k : Nat) (pos : Nat), s.st ≠ stBoot ∧ 1 ≤ k ∧ k < 2 ^ 15 ∧ pos = s.calSecs * 32768 + s.get Reg.RTC_CAL_SUB_SUBSEC) ∧
(∃ (s : State) (back : Bool), s.st ≠ stBoot) ∧
(∃ (s : State), s.st ≠ stBoot) ∧
(∃ (s : State) (sub : Nat) (k : Nat) (back : Bool), s.st = stBoot) ∧
(∃ (s : State) (a : State) (b : State) (counts : Nat) (w : RtcWrite) (l : List RtcWrite), s.rtc.queue = w :: l ∧ a = s.passCounts
    counts ∧ b = { a with rtc := { a.rtc with queue := l } }) ∧
(∃ (s : State), 4 ≤ s.rtc.queue.length) ∧
(∃ (s : State) (a : State) (b : State) (stamp : Nat), a = (if s.timeRun then s.advance (stamp * nsUnit) else s).passCounts (32767 -
    s.get Reg.RTC_CAL_SUB_SUBSEC) ∧ b = { a with rtc := { a.rtc with wakeLeft := a.rtc.wakeLeft - 1 } }) ∧
(∃ (s : State) (a : State) (b : State), s.flag Reg.RTC_WAKE_EN = true ∧ a = s.passCounts s.rtc.wakeLeft.toNat ∧ b = { a with rtc := { a.rtc with wakeLeft := min a.rtc.wakeLeft 0 } }) ∧
(∃ (s : State) (a : State), s.mainAbsent = true ∧ s.rtc.pwrDue ≠ 0 ∧ a = { s with rtc := { s.rtc with pwrDue := 0, pwrSrc := s.rtc.pwrSrc ||| s.rtc.pwrDue } }) ∧
(∃ (s : State) (a : State), s.flag Reg.RTC_STATUS_PWRON = true ∧ s.get Reg.RTC_PWRON_TIMEOUT_SECS ≠ 0 ∧ a = { s with rtc := { s.rtc with pwrLost := s.rtc.pwrLost ||| s.rtc.pwrSrc, pwrSrc := 0 } }) ∧
(∃ (s : State) (a : State), a = { s with regs := s.regs.filter (fun x => x.1 / 0x10000 ≠ 5), rtc := {} }) :=
  ⟨⟨{ st [(0x10, 5)] with rtc := { State.reset.rtc with date := 2000 * 65536 + 6 * 4096 + 256 + 1 } }, 0, by decide, by decide⟩,
  ⟨{ (st [(0x10, 5)]) with rtc.date := 0 }, 0, by decide, by decide⟩,
  ⟨st [(0x10, 0x5), (0x50010, 0x1)], by decide, by decide, by decide, by decide⟩,
  ⟨(st [(0x10, 5)]).put Reg.RTC_STATUS_DST 1, by decide, by decide⟩,
  ⟨st [(0x10, 0x5), (0x50010, 0x1), (0x50014, 0x4), (0x50018, 0x07D06102)], by decide, by decide, by decide, by decide⟩,
  ⟨(st [(0x10, 5)]), by decide, by decide⟩,
  ⟨(st [(0x10, 5)]), 1, _, by decide, by decide, by decide, rfl⟩,
  ⟨(st [(0x10, 5)]), true, by decide⟩,
  ⟨(st [(0x10, 5)]), by decide⟩,
  ⟨(st [(0x10, 3)]), 0, 0, true, by decide⟩,
  ⟨{ (st [(0x10, 5)]) with rtc.queue := [rtcWrite0] }, _, _, 0, rtcWrite0, [], by decide, rfl, rfl⟩,
  ⟨{ st [] with rtc := { State.reset.rtc with queue := [rtcWrite0, rtcWrite0, rtcWrite0, rtcWrite0] } }, by decide⟩,
  ⟨(st [(0x10, 5)]), _, _, 0, rfl, rfl⟩,
  ⟨(st [(0x10, 5)]).put Reg.RTC_WAKE_EN 1, _, _, by decide, rfl, rfl⟩,
  ⟨{ (st [(0x10, 0)]) with rtc.pwrDue := 1 }, _, by decide, by decide, rfl⟩,
  ⟨((st [(0x10, 5)]).put Reg.RTC_STATUS_PWRON 1).put Reg.RTC_PWRON_TIMEOUT_SECS 1, _, by decide, by decide, rfl⟩,
  ⟨(st [(0x10, 5)]), _, rfl⟩⟩

theorem test_hyp_RecorderChannelsAndMasks :
    (∃ (s : State) (a : State) (b : State) (bin : Bool) (gain : Bool) (i : Nat) (w0 : Nat) (w1 : Nat) (k : Nat) (old : Option RecChan) (quota : Nat → Field) (l : List RecChan), s.st ≠ stBoot ∧ s.recState = 0 ∧ w0 = s.get Reg.AQE_CH_W0_WORD ∧ w1 = s.get Reg.AQE_CH_W1_WORD ∧ k = chSlice w0 ∧ quota = (if bin then Reg.SLC_SLICE_QC_RECB else Reg.SLC_SLICE_QC_RECA) ∧ old = (s.chanNow bin i).filter (fun x => chEn x.w0) ∧ gain = (chEn w0 && !(old.any fun x => chSlice x.w0 == k)) ∧ l = (if chEn w0 then setKey recKey ⟨bin, i, w0, w1⟩ s.chansNow else dropKey recKey (recKey ⟨bin, i, w0, w1⟩) s.chansNow) ∧ i ≤ (if bin then 8191 else 4095) ∧ chRangeOk (capOf (s.get Reg.SVI_CFG_RATE)) bin w0 = true ∧ w1 ≤ (if bin then 3 else 0) ∧ s.sliceValid k = true ∧ (gain = false ∨ s.overQuota (quota k) 1 = false) ∧ s.recFits l = true ∧ a = (match old with | some x => s.give (quota (chSlice x.w0)) 1 | none => s) ∧ b = (if chEn w0 then a.take (quota k) 1 else a)) ∧
(∃ (s : State) (bin : Bool) (overs : Bool) (i : Nat) (w0 : Nat) (w1 : Nat) (k : Nat) (l : List RecChan), s.st ≠ stBoot ∧ s.recState
    = 0 ∧ w0 = s.get Reg.AQE_CH_W0_WORD ∧ w1 = s.get Reg.AQE_CH_W1_WORD ∧ k = chSlice w0 ∧ l = (if chEn w0 then setKey recKey ⟨bin,
    i, w0, w1⟩ s.chansNow else dropKey recKey (recKey ⟨bin, i, w0, w1⟩) s.chansNow) ∧ overs = (chEn w0 && !((s.chanNow bin i).any
    fun x => chEn x.w0 && chSlice x.w0 == k) && s.overQuota (if bin then Reg.SLC_SLICE_QC_RECB k else Reg.SLC_SLICE_QC_RECA k) 1) ∧
    ((if bin then 8191 else 4095) < i ∨ chRangeOk (capOf (s.get Reg.SVI_CFG_RATE)) bin w0 = false ∨ (if bin then 3 else 0) < w1 ∨
    s.sliceValid k = false ∨ overs = true ∨ s.recFits l = false)) ∧
(∃ (s : State) (bin : Bool) (i : Nat), s.st ≠ stBoot ∧ s.recState ≠ 0) ∧
(∃ (s : State) (bin : Bool) (i : Nat), s.st = stBoot) ∧
(∃ (s : State) (bin : Bool) (i : Nat) (c : RecChan), s.st ≠ stBoot ∧ c = (s.aqe.chans.find? (fun c => c.bin == bin && c.idx ==
    i)).getD ⟨bin, i, 0, 0⟩) ∧
(∃ (s : State) (i : Nat) (l : List (Nat × Int × Int × Int)), s.st ≠ stBoot ∧ s.recState = 0 ∧ l = setKey Prod.fst (i % 1024, s.getS
    Reg.AQE_MPT_OFS_O, s.getS Reg.AQE_MPT_UP_U, s.getS Reg.AQE_MPT_LO_L) s.aqe.mpts ∧ s.masksOk l = true) ∧
(∃ (s : State) (i : Nat) (l : List (Nat × Int × Int × Int)), s.st ≠ stBoot ∧ s.recState = 0 ∧ l = setKey Prod.fst (i % 1024, s.getS
    Reg.AQE_MPT_OFS_O, s.getS Reg.AQE_MPT_UP_U, s.getS Reg.AQE_MPT_LO_L) s.aqe.mpts ∧ s.masksOk l = false) ∧
(∃ (s : State) (i : Nat) (j : Nat) (o : Int) (u : Int) (l : Int), s.st ≠ stBoot ∧ (findKey Prod.fst (i % 1024) s.aqe.mpts).getD (0,
    0, 0, 0) = (j, o, u, l)) :=
  ⟨⟨((st [(0x10, 5)]).put (Reg.SLC_SLICE_ID_VALID 0) 1).put (Reg.SLC_SLICE_ID_VALID 0) 1, _, _, true, false, 0, _, _, 0, _, _, _,
  by decide, by decide, rfl, rfl, by decide, rfl, rfl, rfl, rfl, by decide, by decide, by decide, by decide, by decide, by decide,
  rfl, rfl⟩,
  ⟨(st [(0x10, 5)]), true, _, 8192, _, _, _, _, by decide, by decide, rfl, rfl, rfl, rfl, rfl, by decide⟩,
  ⟨st [(0x10, 5), (0x100044, 1)], true, 0, by decide, by decide⟩,
  ⟨(st [(0x10, 3)]), true, 0, by decide⟩,
  ⟨(st [(0x10, 5)]), true, 0, _, by decide, rfl⟩,
  ⟨st [(0x10, 0x5)], 0, [(0, 0, 0, 0)], by decide, by decide, by decide, by decide⟩,
  ⟨(st [(0x10, 5)]).put (Reg.AQE_MASK_CTRL_EN 0) 1, 0, _, by decide, by decide, rfl, by decide⟩,
  ⟨(st [(0x10, 5)]), 0, 0, (0 : Int), (0 : Int), (0 : Int), by decide, by decide⟩⟩

theorem test_hyp_RecorderTriggersAndArms :
(∃ (s : State), s.st ≠ stBoot ∧ s.flag Reg.AQE_CTRL_EN = true) ∧
(∃ (s : State), s.st ≠ stBoot ∧ s.flag Reg.AQE_CTRL_EN = true ∧ s.recState = 0) ∧
(∃ (s : State) (a : State) (r : StoredRec), s.st ≠ stBoot ∧ s.flag Reg.AQE_CTRL_EN = true ∧ s.recState = 1 ∧ r = { id := s.get Reg.AQE_REC_ID_ID, type := 0, f := s.tg.f, chans := s.aqe.chans, t0 := s.ns, e := 0, first := 0, trigs := [⟨2, 0, s.ns, 0⟩], env := s.recEnv }
    ∧ a = { s with aqe := { s.aqe with recs := r :: s.aqe.recs, cur := some r.id, postAt := s.ns, settled := false } }) ∧
(∃ (s : State), s.st ≠ stBoot ∧ (s.flag Reg.AQE_GRP_EN = false ∨ s.flag Reg.AQE_GRP_MASTER = true) ∧ s.flag Reg.AQE_CTRL_EN = true ∧
    (s.recState = 0 ∨ s.recState = 3)) ∧
(∃ (s : State), s.st ≠ stBoot ∧ (s.flag Reg.AQE_GRP_EN = false ∨ s.flag Reg.AQE_GRP_MASTER = true) ∧ s.flag Reg.AQE_CTRL_EN = true ∧
    s.recState = 2) ∧
(∃ (s : State), (s.st = stBoot ∨ (s.flag Reg.AQE_GRP_EN = true ∧ s.flag Reg.AQE_GRP_MASTER = false))) ∧
(∃ (s : State), s.st ≠ stBoot ∧ (s.recState = 1 ∨ s.recState = 3)) ∧
(∃ (s : State), s.st ≠ stBoot ∧ s.recState = 2) ∧
(∃ (s : State) (a : State), s.recState = 3 ∧ a = s.advance ((s.aqe.rearmAt + 1000000 * s.get Reg.AQE_REARM_REARM_MS) * nsUnit) ∧
    a.recState = 3 ∧ a.flag Reg.AQE_CTRL_AUTO_REARM = true ∧ (a.flag Reg.AQE_GRP_EN = false ∨ a.flag Reg.AQE_GRP_MASTER = true)) ∧
(∃ (s : State) (a : State) (m : GrpMsg), s.flag Reg.AQE_GRP_EN = true ∧ s.flag Reg.AQE_CTRL_EN = true ∧ s.grpCheck m = some true ∧
    s.flag Reg.AQE_GRP_MASTER = false ∧ a = ((s.grpSeen m).event 127).clearCode 0x1004 ∧ (a.recState = 0 ∨ a.recState = 3)) ∧
(∃ (s : State) (a : State) (m : GrpMsg), s.flag Reg.AQE_GRP_EN = true ∧ s.flag Reg.AQE_CTRL_EN = true ∧ s.grpCheck m = some true ∧
    s.flag Reg.AQE_GRP_MASTER = false ∧ a = ((s.grpSeen m).event 127).clearCode 0x1004 ∧ a.recState = 2) ∧
(∃ (s : State) (a : State) (b : State) (m : GrpMsg) (now : Nat), s.flag Reg.AQE_GRP_EN = true ∧ s.flag Reg.AQE_CTRL_EN = true ∧ a =
    s.advance (now * nsUnit) ∧ a.grpCheck m = some true ∧ b = (a.grpSeen m).count Reg.AQE_FIRE_RX_COUNT ∧ m.id = a.get
    Reg.AQE_REC_ID_ID ∧ now ≤ m.inst + 10000000) ∧
(∃ (s : State) (a : State) (b : State) (m : GrpMsg) (now : Nat), s.flag Reg.AQE_GRP_EN = true ∧ s.flag Reg.AQE_CTRL_EN = true ∧ a =
    s.advance (now * nsUnit) ∧ a.grpCheck m = some true ∧ b = (a.grpSeen m).count Reg.AQE_FIRE_RX_COUNT ∧ m.id = a.get
    Reg.AQE_REC_ID_ID ∧ m.inst + 10000000 < now) ∧
(∃ (s : State) (a : State) (b : State) (m : GrpMsg) (now : Nat), s.flag Reg.AQE_GRP_EN = true ∧ s.flag Reg.AQE_CTRL_EN = true ∧ a =
    s.advance (now * nsUnit) ∧ a.grpCheck m = some true ∧ b = (a.grpSeen m).count Reg.AQE_FIRE_RX_COUNT ∧ m.id ≠ a.get
    Reg.AQE_REC_ID_ID) :=
  ⟨⟨st [(0x10, 5), (0x100010, 1)], by decide, by decide⟩,
  ⟨st [(0x10, 5), (0x100010, 1)], by decide, by decide, by decide⟩,
  ⟨((st [(0x10, 5)]).put Reg.AQE_CTRL_EN 1).put Reg.AQE_STATUS_STATE 1, _, _, by decide, by decide, by decide, rfl, rfl⟩,
  ⟨(st [(0x10, 5)]).put Reg.AQE_CTRL_EN 1, by decide, by decide, by decide, by decide⟩,
  ⟨((st [(0x10, 5)]).put Reg.AQE_CTRL_EN 1).put Reg.AQE_STATUS_STATE 2, by decide, by decide, by decide, by decide⟩,
  ⟨(st [(0x10, 3)]), by decide⟩,
  ⟨st [(0x10, 5), (0x100044, 1)], by decide, by decide⟩,
  ⟨st [(0x10, 5), (0x100044, 2)], by decide, by decide⟩,
  ⟨(((st [(0x10, 5)]).put Reg.AQE_STATUS_STATE 3).put Reg.AQE_STATUS_STATE 3).put Reg.AQE_CTRL_AUTO_REARM 1, _, by decide, rfl,
  by decide, by decide, by decide⟩,
  ⟨((st [(0x10, 5)]).put Reg.AQE_GRP_EN 1).put Reg.AQE_CTRL_EN 1, _, grp0, by decide, by decide, by decide, by decide, rfl, by decide⟩,
  ⟨(((st [(0x10, 5)]).put Reg.AQE_GRP_EN 1).put Reg.AQE_CTRL_EN 1).put Reg.AQE_STATUS_STATE 2, _, grp0, by decide, by decide,
  by decide, by decide, rfl, by decide⟩,
  ⟨(((st [(0x10, 5)]).put Reg.AQE_GRP_EN 1).put Reg.AQE_CTRL_EN 1).put Reg.AQE_REC_ID_ID grp0.id, _, _, grp0, 0, by decide, by decide,
  rfl, by decide, rfl, by decide, by decide⟩,
  ⟨(((st [(0x10, 5)]).put Reg.AQE_GRP_EN 1).put Reg.AQE_CTRL_EN 1).put Reg.AQE_REC_ID_ID grp0.id, _, _, grp0, grp0.inst + 10000001,
  by decide, by decide, rfl, by decide, rfl, by decide, by decide⟩,
  ⟨((st [(0x10, 5)]).put Reg.AQE_GRP_EN 1).put Reg.AQE_CTRL_EN 1, _, _, grp0, 0, by decide, by decide, rfl, by decide, rfl, by decide⟩⟩

theorem test_hyp_RecordsAndWavesAreKept :
    (∃ (s : State) (n : Nat) (full : Bool) (pinned : Bool), s.flag Reg.AQE_CTRL_EN = true ∧ s.tg.running = true ∧ (∀ r ∈ s.aqe.rows.head?, r.tick < n) ∧ full = decide (2 ^ 33 / rowBytes s.aqe.chans ≤ s.aqe.rows.length) ∧ pinned = (full && (match s.pinFrom, s.aqe.rows.getLast? with | some p, some r => decide (p ≤ r.tick) | _, _ => false))) ∧
(∃ (s : State) (r : StoredRec), s.aqe.cur.bind s.recOf = some r ∧ s.aqe.settled = false) ∧
(∃ (s : State) (a : State) (id : Nat) (wear : Nat) (wave : List WaveRow) (r : StoredRec) (b : _), s.recOf id = some r ∧ r.state = 0
    ∧ hasFlag r 4 = false ∧ (r.type ≠ 0 ∨ s.aqe.settled = true) ∧ a = (if 800 ≤ wear ∧ (s.put Reg.AQE_FLASH_WEAR wear).isActive
    0x1002 0 = false then ((s.put Reg.AQE_FLASH_WEAR wear).raise1 0x1002 1 wear).event 126 else s.put Reg.AQE_FLASH_WEAR wear) ∧
    wear < 1000 ∧ a.flashRoom (a.segMib r) a.aqe.recs.reverse = some b) ∧
(∃ (s : State) (a : State) (id : Nat) (wear : Nat) (wave : List WaveRow) (r : StoredRec), s.recOf id = some r ∧ r.state = 0 ∧
    hasFlag r 4 = false ∧ (r.type ≠ 0 ∨ s.aqe.settled = true) ∧ a = (if 800 ≤ wear ∧ (s.put Reg.AQE_FLASH_WEAR wear).isActive 0x1002
    0 = false then ((s.put Reg.AQE_FLASH_WEAR wear).raise1 0x1002 1 wear).event 126 else s.put Reg.AQE_FLASH_WEAR wear) ∧ wear <
    1000 ∧ a.flashRoom (a.segMib r) a.aqe.recs.reverse = none) ∧
(∃ (s : State) (a : State) (id : Nat) (wear : Nat) (wave : List WaveRow) (r : StoredRec), s.recOf id = some r ∧ r.state = 0 ∧
    hasFlag r 4 = false ∧ (r.type ≠ 0 ∨ s.aqe.settled = true) ∧ a = (if 800 ≤ wear ∧ (s.put Reg.AQE_FLASH_WEAR wear).isActive 0x1002
    0 = false then ((s.put Reg.AQE_FLASH_WEAR wear).raise1 0x1002 1 wear).event 126 else s.put Reg.AQE_FLASH_WEAR wear) ∧ 1000 ≤
    wear) ∧
(∃ (s : State) (a : State) (id : Nat) (wear : Nat) (wave : List WaveRow) (r : StoredRec), s.recOf id = some r ∧ r.state = 0 ∧
    hasFlag r 4 = false ∧ (r.type ≠ 0 ∨ s.aqe.settled = true) ∧ a = (if 800 ≤ wear ∧ (s.put Reg.AQE_FLASH_WEAR wear).isActive 0x1002
    0 = false then ((s.put Reg.AQE_FLASH_WEAR wear).raise1 0x1002 1 wear).event 126 else s.put Reg.AQE_FLASH_WEAR wear)) ∧
(∃ (s : State) (a : State) (b : State) (c : State) (r : StoredRec), s.aqe.cur.bind s.recOf = some r ∧ s.aqe.settled = true ∧
    recComplete r = true ∧ a = (if hasFlag r 1 then s else s.advance ((r.e + 1000000) * nsUnit)) ∧ b = (a.recIndexed { r with state := 1 }).recKept
    r ∧ c = { b with aqe := { b.aqe with cur := none, settled := false, heldArm := none, disarm := false, rearmAt := b.ns } }) ∧
(∃ (s : State) (a : State) (r : StoredRec), s.st ≠ stBoot ∧ s.keepRec = some r ∧ a = { s with aqe := { s.aqe with recs := s.aqe.recs.filter fun (x : StoredRec) => x.id ≠ r.id } }) ∧
(∃ (s : State), s.st = stBoot) ∧
(∃ (s : State) (q : Req) (id : Nat) (part : Nat) (len : Nat) (off : Nat) (buf : Nat) (r : StoredRec) (all : List Nat) (chunk : List
    Nat), s.takes 0x90 q ∧ s.recOf id = some r ∧ part ≤ 3 ∧ 1 ≤ len ∧ len ≤ 16777216 ∧ (q.slice = 0 ∨ (r.chans.any fun c => chSlice
    c.w0 == q.slice) = true) ∧ r.state ≠ 0 ∧ all = partBytes r q.slice part ∧ chunk = (all.drop (4096 * off)).take len) ∧
(∃ (s : State) (b : State) (dets : List WaveDet) (a : Nat) (chan : Nat) (l : List Nat), s.waveOn = true ∧ s.firstArrival dets = some
    (a, chan) ∧ l = (s.eventDets dets).map WaveDet.chan ∧ b = { s with aqe := { s.aqe with blocked := s.aqe.blocked.filter (fun c => !l.contains c) ++ l } }) ∧
(∃ (s : State) (b : State) (m : GrpMsg) (now : Nat) (a : Nat), b = s.advance (now * nsUnit) ∧ b.flag Reg.AQE_CTRL_EN = true ∧
    b.grpCheck m = some true ∧ m.node = b.get Reg.AQE_NODE_FAR_NODE ∧ m.dest = b.get Reg.AQE_NODE_NODE ∧ b.aqe.farPend = some a ∧
    now ≤ a / 65536 + 20000000) ∧
(∃ (s : State) (b : State) (c : State) (m : GrpMsg) (now : Nat), b = s.advance (now * nsUnit) ∧ b.flag Reg.AQE_CTRL_EN = true ∧
    b.grpCheck m = some true ∧ m.node = b.get Reg.AQE_NODE_FAR_NODE ∧ m.dest = b.get Reg.AQE_NODE_NODE ∧ b.aqe.farPend = none ∧ c =
    b.grpSeen m) ∧
(∃ (s : State) (a : Nat), s.aqe.farPend = some a) ∧
(∃ (s : State) (b : State) (c : State) (r : StoredRec), s.aqe.wave.bind s.recOf = some r ∧ recComplete r = true ∧ b = ((s.advance
    (r.e * nsUnit)).recIndexed { r with state := 1 }).recKept r ∧ c = { b with aqe := { b.aqe with wave := none } }) :=
  ⟨⟨{ (st [(0x10, 5)]).put Reg.AQE_CTRL_EN 1 with tg.running := true }, 0, _, _, by decide, by decide, by decide, rfl, rfl⟩,
  ⟨{ stRec with aqe.settled := false }, recN, by decide, by decide⟩,
  ⟨{ st [(0x10, 5), (0x1000b0, 100)] with aqe.recs := [rec0], aqe.settled := true }, _, 1, 0, [], rec0, _, by decide, by decide,
  by decide, by decide, rfl, by decide, (Option.some_get (by decide)).symm⟩,
  ⟨{ st [(0x10, 5), (0x1000b0, 0)] with aqe.recs := [recN], aqe.settled := true }, _, 1, 0, [], recN, by decide, by decide, by decide,
  by decide, rfl, by decide, by decide⟩,
  ⟨{ st [(0x10, 5), (0x1000b0, 100)] with aqe.recs := [rec0], aqe.settled := true }, _, 1, 1000, [], rec0, by decide, by decide,
  by decide, by decide, rfl, by decide⟩,
  ⟨{ st [(0x10, 5), (0x1000b0, 100)] with aqe.recs := [rec0], aqe.settled := true }, _, 1, 0, [], rec0, by decide, by decide,
  by decide, by decide, rfl⟩,
  ⟨stRec, _, _, _, recN, by decide, by decide, by decide, rfl, rfl, rfl⟩,
  ⟨{ (st [(0x10, 5)]).put Reg.AQE_KEEP_ID_ID 1 with aqe.recs := [{ rec0 with state := 1 }] }, _, { rec0 with state := 1 }, by decide,
  by decide, rfl⟩,
  ⟨(st [(0x10, 3)]), by decide⟩,
  ⟨cmdOn 0x90 { (st [(0x10, 5)]) with aqe.recs := [{ rec0 with state := 1 }] }, req, 1, 0, 5000, 0, 0, { rec0 with state := 1 }, _, _,
  by decide, by decide, by decide, by decide, by decide, by decide, by decide, rfl, rfl⟩,
  ⟨(((((st [(0x10, 5)]).put Reg.AQE_CTRL_EN 1).put Reg.AQE_CTRL_WAVE_EN 1).put Reg.MOD_CTRL_WAVE_EN 1).put Reg.AQE_WDET_WTH 100).put
  Reg.AQE_WDET_MASK 1, _, [⟨0, 100, 0, 100, true, true⟩], 100 * 65536 + 1024 * 400 * 64, 0, _, by decide, by decide, rfl, rfl⟩,
  ⟨{ st [(0x10, 5), (0x100010, 1), (0x10002c, 0x00010000)] with aqe := { State.reset.aqe with farPend := some 5 } }, ({ st [(0x10, 5), (0x100010, 1), (0x10002c, 0x00010000)] with aqe := { State.reset.aqe with farPend := some 5 } }).advance
  (0 * nsUnit), { grp0 with node := 1, dest := 0, group := 0 }, 0, 5, rfl, by decide, by decide, by decide, by decide, by decide,
  by decide⟩,
  ⟨{ (((st [(0x10, 5)]).put Reg.AQE_CTRL_EN 1).put Reg.AQE_NODE_FAR_NODE grp0.node).put Reg.AQE_NODE_NODE grp0.dest with aqe.farPend := none },
  _, _, grp0, 0, rfl, by decide, by decide, by decide, by decide, by decide, rfl⟩,
  ⟨{ st [(0x10, 5)] with aqe := { State.reset.aqe with farPend := some 5 } }, 5, by decide⟩,
  ⟨{ stRec with aqe.wave := some 1 }, _, _, recN, by decide, by decide, rfl, rfl⟩⟩

theorem test_hyp_DuplicatesAreTakenOnce :
(∃ (e : DupEntry) (w : Nat) (q : Nat), w ≤ 2 ∧ q < 65536 ∧ e.high < 65536 ∧ dupWindow e w < 2 ^ 128 ∧ (dupTest e w q).2.1 = true ∧
    (dupTest e w q).2.2 = false) ∧
(∃ (e : DupEntry) (w : Nat) (q : Nat), (dupTest e w q).2.2 = true) :=
  ⟨⟨{ src := 0, high := 0, dlv := 1, fw0 := 0, fw1 := 0, last := 0 }, 0, 1, by decide, by decide, by decide, by decide, by decide,
  by decide⟩,
  ⟨{ src := 0, high := 0, dlv := 1, fw0 := 0, fw1 := 0, last := 0 }, 0, 40000, by decide⟩⟩

theorem test_hyp_MacFramesAndPairs :
(∃ (s : State) (p : Nat) (c : Nat) (u : Nat) (w : RxWire) (luck : List Nat), s.operates p = true ∧ 3 ≤ s.get (Reg.MACP_STAT_STATE
    p)) ∧
(∃ (s : State) (p : Nat) (q : Nat) (now : Nat), s.operates p = true) ∧
(∃ (s : State) (p : Nat) (c : Nat) (now : Nat) (q : List Nat), s.operates p = true) ∧
(∃ (s : State) (p : Nat), p ≤ 7 ∧ s.portUp p = true ∧ s.pauseMode p = true ∧ s.pausing p / 256 % 2 = 1) ∧
(∃ (s : State) (p : Nat), p ≤ 7 ∧ s.portUp p = true ∧ s.pauseMode p = false ∧ s.get (Reg.MACP_FC_MODE p) = 2 ∧ s.pausing p % 16 ≠ 0) ∧
(∃ (s : State) (k : Nat) (node : Nat) (now : Nat), k ≤ 3 ∧ s.redundant (2 * k) = true) ∧
(∃ (s : State) (a : State) (k : Nat) (seqs : List (Nat × Nat)), k ≤ 3 ∧ s.redundant (2 * k) = true ∧ (s.operates (2 * k) = true ∨
    s.operates (2 * k + 1) = true) ∧ s.numberPairs [2 * k] = (a, seqs)) ∧
(∃ (s : State) (k : Nat) (src : Nat) (e : DupEntry), k ≤ 3 ∧ findKey DupEntry.src src (s.dupTable k) = some e) ∧
(∃ (s : State) (k : Nat) (node : Nat) (t0 : Nat), k ≤ 3 ∧ findKey Prod.fst node (s.nodeTable k) = some (node, t0)) :=
  ⟨⟨st [(0x10, 5), (0x60014, 1), (0x61000, 1), (0x61008, 4)], 0, 0, 0, wire0, [], by decide, by decide⟩,
  ⟨st [(0x10, 5), (0x60014, 1), (0x61000, 1)], 0, 0, 0, by decide⟩,
  ⟨st [(0x10, 5), (0x60014, 1), (0x61000, 1)], 0, 0, 0, [], by decide⟩,
  ⟨{ st [(0x10, 5), (0x61008, 4), (0x61004, 1), (0x61014, 1)] with macs := { State.reset.macs with pausing := [(0, 256)] } }, 0,
  by decide, by decide, by decide, by decide⟩,
  ⟨{ ((st [(0x10, 5)]).put (Reg.MACP_FC_MODE 0) 2).put (Reg.MACP_STAT_STATE 0) stUp with macs.pausing := [(0, 1)] }, 0, by decide,
  by decide, by decide, by decide, by decide⟩,
  ⟨st [(0x10, 5), (0x60040, 1)], 0, 0, 0, by decide, by decide⟩,
  ⟨portOn 0 ((st [(0x10, 5)]).put (Reg.MAC_PAIR_CFG_MODE 0) 1), _, 0, [(0, 0)], by decide, by decide, by decide, rfl⟩,
  ⟨{ st [(0x10, 5)] with macs := { State.reset.macs with dup := [(0, [dup0])] } }, 0, 1, dup0, by decide, by decide⟩,
  ⟨{ st [(0x10, 5)] with macs := { State.reset.macs with nodes := [(0, [(7, 3)])] } }, 0, 7, 3, by decide, by decide⟩⟩

theorem test_hyp_PortsFollowTheirLines :
(∃ (s : State) (p : Nat) (i : OptIdent), p ≤ 11 ∧ s.operates p = false) ∧
(∃ (s : State) (p : Nat) (i : OptIdent), p ≤ 11 ∧ s.operates p = true ∧ s.get (Reg.MACP_STAT_STATE p) = 0) ∧
(∃ (s : State) (a : State) (p : Nat) (i : OptIdent), p ≤ 7 ∧ s.mainAbsent = false ∧ a = s.put (Reg.MACP_STAT_MOD_ABS p) 0) ∧
(∃ (s : State) (a : State) (p : Nat), p ≤ 7 ∧ s.mainAbsent = false ∧ a = (s.put (Reg.MACP_STAT_MOD_ABS p) 1).macCause p 3) ∧
(∃ (s : State) (a : State) (p : Nat), p ≤ 7 ∧ s.mainAbsent = false ∧ a = s.put (Reg.MACP_STAT_TX_FAULT p) 1) ∧
(∃ (s : State) (a : State) (p : Nat), p ≤ 7 ∧ s.mainAbsent = false ∧ a = s.put (Reg.MACP_STAT_TX_FAULT p) 0) ∧
(∃ (s : State) (p : Nat), p ≤ 7 ∧ s.get (Reg.MACP_STAT_STATE p) = 2 ∧ s.optRefused p = false) ∧
(∃ (s : State) (a : State) (p : Nat), p ≤ 7 ∧ s.mainAbsent = false ∧ a = { s with macs := { s.macs with cageOff := p :: s.macs.cageOff.filter (· ≠ p) } }) ∧
(∃ (s : State) (a : State) (p : Nat) (temp : Nat) (tx : Nat) (rx : Nat) (alarm : Bool), p ≤ 7 ∧ s.flag (Reg.MACP_OPTICS_DDM p) =
    true ∧ s.flag (Reg.MACP_STAT_MOD_ABS p) = false ∧ a = ((s.put (Reg.MACP_OPTICS_TEMP p) temp).put (Reg.MACP_OPT_PWR_TX p) tx).put
    (Reg.MACP_OPT_PWR_RX p) rx) ∧
(∃ (s : State) (a : State) (p : Nat) (an : Bool) (res : Bool) (done : Bool), p ≤ 11 ∧ s.operates p = true ∧ done = (an && s.flag
    (Reg.MACP_CFG_AN p)) ∧ a = (((s.put (Reg.MACP_STAT_SYNC p) 1).put (Reg.MACP_STAT_LOS p) 0).putFlag (Reg.MACP_STAT_AN_DONE p)
    done)) ∧
(∃ (s : State) (a : State) (p : Nat) (why : Nat) (los : Bool), p ≤ 11 ∧ s.mainAbsent = false ∧ a = (if los then s.put
    (Reg.MACP_STAT_LOS p) 1 else s).portIdle p ∧ why = (if 9 < p then 9 else if los then 8 else 7) ∧ a.portUp p = true) ∧
(∃ (s : State) (a : State) (p : Nat) (why : Nat) (los : Bool), p ≤ 11 ∧ s.mainAbsent = false ∧ a = (if los then s.put
    (Reg.MACP_STAT_LOS p) 1 else s).portIdle p ∧ why = (if 9 < p then 9 else if los then 8 else 7) ∧ a.portUp p = false ∧ a.get
    (Reg.MACP_STAT_STATE p) = 3) ∧
(∃ (s : State) (p : Nat), p ≤ 9 ∧ s.portUp p = false) :=
  ⟨⟨st [(0x10, 0x5)], 0, optics0, by decide, by decide⟩,
  ⟨st [(0x10, 5), (0x60014, 1), (0x61000, 1)], 0, optics0, by decide, by decide, by decide⟩,
  ⟨(st [(0x10, 5)]), _, 0, optics0, by decide, by decide, rfl⟩,
  ⟨(st [(0x10, 5)]), _, 0, by decide, by decide, rfl⟩,
  ⟨(st [(0x10, 5)]), _, 0, by decide, by decide, rfl⟩,
  ⟨(st [(0x10, 5)]), _, 0, by decide, by decide, rfl⟩,
  ⟨(st [(0x10, 5)]).put (Reg.MACP_STAT_STATE 0) 2, 0, by decide, by decide, by decide⟩,
  ⟨(st [(0x10, 5)]), _, 0, by decide, by decide, rfl⟩,
  ⟨((st [(0x10, 5)]).put (Reg.MACP_OPTICS_DDM 0) 1).put (Reg.MACP_STAT_MOD_ABS 0) 0, _, 0, 0, 0, 0, true, by decide, by decide,
  by decide, rfl⟩,
  ⟨portOn 0 ((st [(0x10, 5)])), _, 0, true, true, _, by decide, by decide, rfl, rfl⟩,
  ⟨(st [(0x10, 5)]).put (Reg.MACP_STAT_STATE 0) stUp, _, 0, _, true, by decide, by decide, rfl, rfl, by decide⟩,
  ⟨(st [(0x10, 5)]).put (Reg.MACP_STAT_STATE 0) 3, _, 0, _, true, by decide, by decide, rfl, rfl, by decide, by decide⟩,
  ⟨(st [(0x10, 5)]), 0, by decide, by decide⟩⟩

theorem test_hyp_PortsOfOtherKinds :
(∃ (s : State) (a : State) (b : State) (p : Nat) (now : Nat) (n : Nat) (late : Bool) (c : CoreCopy), (p = 10 ∨ p = 11) ∧
    s.swc.copies.find? (fun c => c.port == p && c.stage == 3) = some c ∧ a = (s.advance (now * nsUnit)).count (Reg.MACP_COLL_COLL p)
    ∧ b = (if late then a.count (Reg.MACP_COLL_LATE p) else a) ∧ n = (findKey Prod.fst p b.macs.attempts).elim 0 Prod.snd + 1 ∧ n <
    16) ∧
(∃ (s : State) (a : State) (b : State) (p : Nat) (now : Nat) (n : Nat) (late : Bool) (c : CoreCopy) (d : _), (p = 10 ∨ p = 11) ∧
    s.swc.copies.find? (fun c => c.port == p && c.stage == 3) = some c ∧ a = (s.advance (now * nsUnit)).count (Reg.MACP_COLL_COLL p)
    ∧ b = (if late then a.count (Reg.MACP_COLL_LATE p) else a) ∧ n = (findKey Prod.fst p b.macs.attempts).elim 0 Prod.snd + 1 ∧ 16 ≤
    n ∧ d = { b with macs := { b.macs with attempts := dropKey Prod.fst p b.macs.attempts } }) ∧
(∃ (s : State) (p : Nat), (p = 10 ∨ p = 11) ∧ s.flag (Reg.MACP_STAT_PLCA_ST p) = true) ∧
(∃ (s : State) (a : State) (p : Nat), (p = 10 ∨ p = 11) ∧ s.operates p = true ∧ s.flag (Reg.MACP_T1S_PLCA_EN p) = true ∧ a = s.put
    (Reg.MACP_STAT_PLCA_ST p) 1) ∧
(∃ (s : State) (a : State) (m : MkPdu), m.port ≤ 9 ∧ s.operates m.port = true ∧ s.flag (Reg.MACP_MACSEC_EN m.port) = true ∧
    s.keyUsable (s.get (Reg.MACP_MACSEC_CAK_SLOT m.port)) 0 0 = true ∧ m.icvOk = true ∧ findKey Prod.fst m.port s.macs.peers = none
    ∧ a = { s with macs := { s.macs with peers := setKey Prod.fst (m.port, m.peer) s.macs.peers } } ∧ (s.ksPrio m.port < m.prio ∨
    (s.ksPrio m.port = m.prio ∧ m.lower = false))) ∧
(∃ (s : State) (a : State) (m : MkPdu), m.port ≤ 9 ∧ s.operates m.port = true ∧ s.flag (Reg.MACP_MACSEC_EN m.port) = true ∧
    s.keyUsable (s.get (Reg.MACP_MACSEC_CAK_SLOT m.port)) 0 0 = true ∧ m.icvOk = true ∧ findKey Prod.fst m.port s.macs.peers = none
    ∧ a = { s with macs := { s.macs with peers := setKey Prod.fst (m.port, m.peer) s.macs.peers } } ∧ (m.prio < s.ksPrio m.port ∨
    (s.ksPrio m.port = m.prio ∧ m.lower = true))) ∧
(∃ (s : State) (m : MkPdu) (q : Nat), m.port ≤ 9 ∧ s.operates m.port = true ∧ s.flag (Reg.MACP_MACSEC_EN m.port) = true ∧
    s.keyUsable (s.get (Reg.MACP_MACSEC_CAK_SLOT m.port)) 0 0 = true ∧ m.icvOk = true ∧ findKey Prod.fst m.port s.macs.peers = some
    (m.port, q) ∧ q ≠ m.peer) ∧
(∃ (s : State) (m : MkPdu), m.port ≤ 9 ∧ s.operates m.port = true ∧ s.flag (Reg.MACP_MACSEC_EN m.port) = true ∧ s.keyUsable (s.get
    (Reg.MACP_MACSEC_CAK_SLOT m.port)) 0 0 = false) ∧
(∃ (s : State) (a : State) (b : State) (p : Nat) (q : Nat), p ≤ 9 ∧ findKey Prod.fst p s.macs.peers = some (p, q) ∧ a = { s with macs := { s.macs with peers := dropKey Prod.fst p s.macs.peers } }
    ∧ b = (((a.put (Reg.MACP_STAT_MKA p) 0).macCause p 9).raiseAt 0x0606 1 p p)) ∧
(∃ (s : State) (p : Nat) (q : Nat), p ≤ 9 ∧ s.flag (Reg.MACP_STAT_MKA p) = true ∧ findKey Prod.fst p s.macs.peers = some (p, q)) :=
  ⟨⟨{ (st [(0x10, 5)]) with swc.copies := [{ copy0 with port := 10, stage := 3 }] }, _, _, 10, 0, _, true, { copy0 with port := 10, stage := 3 },
  by decide, by decide, rfl, rfl, rfl, by decide⟩,
  ⟨{ (st [(0x10, 5)]) with swc.copies := [{ copy0 with port := 10, stage := 3 }], macs.attempts := [(10, 15)] }, _, _, 10, 0, _, true,
  { copy0 with port := 10, stage := 3 }, _, by decide, by decide, rfl, rfl, rfl, by decide, rfl⟩,
  ⟨st [(0x10, 0x5), (0x6b008, 0x4000)], 10, by decide, by decide⟩,
  ⟨portOn 10 ((st [(0x10, 5)]).put (Reg.MACP_T1S_PLCA_EN 10) 1), _, 10, by decide, by decide, by decide, rfl⟩,
  ⟨portOn 0 ((keyOn 0 1 (((st [(0x10, 5)]).put (Reg.MACP_MACSEC_EN 0) 1).put (Reg.MACP_MACSEC_CAK_SLOT 0) 0)).wr 0x141000 0), _, { mkPdu0 with prio := 200 },
  by decide, by decide, by decide, by decide, by decide, by decide, rfl, by decide⟩,
  ⟨portOn 0 ((keyOn 0 1 (((st [(0x10, 5)]).put (Reg.MACP_MACSEC_EN 0) 1).put (Reg.MACP_MACSEC_CAK_SLOT 0) 0)).wr 0x141000 0), _, { mkPdu0 with prio := 0, lower := true },
  by decide, by decide, by decide, by decide, by decide, by decide, rfl, by decide⟩,
  ⟨{ portOn 0 ((keyOn 0 1 (((st [(0x10, 5)]).put (Reg.MACP_MACSEC_EN 0) 1).put (Reg.MACP_MACSEC_CAK_SLOT 0) 0)).wr 0x141000 0) with macs.peers := [(0, 9)] },
  { mkPdu0 with icvOk := true }, 9, by decide, by decide, by decide, by decide, by decide, by decide, by decide⟩,
  ⟨portOn mkPdu0.port ((st [(0x10, 5)]).put (Reg.MACP_MACSEC_EN mkPdu0.port) 1), mkPdu0, by decide, by decide, by decide, by decide⟩,
  ⟨{ (st [(0x10, 5)]) with macs.peers := [(0, 0)] }, _, _, 0, 0, by decide, by decide, rfl, rfl⟩,
  ⟨{ st [(0x10, 5), (0x61008, 0x10000)] with macs := { State.reset.macs with peers := [(0, 2)] } }, 0, 2, by decide, by decide,
  by decide⟩⟩

theorem test_hyp_SwitchMovesFrames :
(∃ (s : State) (frame : Nat) (port : Nat) (draws : List Nat) (c : CoreCopy) (fl : Flow) (d : Nat), s.copyOf frame port = some c ∧
    c.stage = 0 ∧ fl = s.flowOf (flowKey c.src c.port c.tc) ∧ d = idx16 c.seq fl.expect ∧ d = 0) ∧
(∃ (s : State) (frame : Nat) (port : Nat) (draws : List Nat) (c : CoreCopy) (fl : Flow) (d : Nat), s.copyOf frame port = some c ∧
    c.stage = 0 ∧ fl = s.flowOf (flowKey c.src c.port c.tc) ∧ d = idx16 c.seq fl.expect ∧ 0 < d ∧ d < 32768) ∧
(∃ (s : State) (frame : Nat) (port : Nat) (draws : List Nat) (c : CoreCopy) (fl : Flow) (d : Nat), s.copyOf frame port = some c ∧
    c.stage = 0 ∧ fl = s.flowOf (flowKey c.src c.port c.tc) ∧ d = idx16 c.seq fl.expect ∧ 32768 ≤ d) ∧
(∃ (s : State) (c : CoreCopy) (f : CoreFrame) (draw : Nat), s.coreFrame c.frame = some f ∧ s.egressTakes c.port f.eth = false) ∧
(∃ (s : State) (c : CoreCopy) (f : CoreFrame) (draw : Nat) (t : Nat) (late : Bool), s.coreFrame c.frame = some f ∧ s.egressTakes
    c.port f.eth = true ∧ s.expiryOf f c.port = some (t, late) ∧ t < s.ns) ∧
(∃ (s : State) (c : CoreCopy) (f : CoreFrame) (draw : Nat), s.coreFrame c.frame = some f ∧ s.egressTakes c.port f.eth = true ∧ (∀ t
    late, s.expiryOf f c.port = some (t, late) → s.ns ≤ t) ∧ 4 ≤ c.tc) ∧
(∃ (s : State) (a : State) (c : CoreCopy) (f : CoreFrame) (draw : Nat) (depth : Nat) (i : Nat) (key : Nat) (num : Nat) (e : Nat),
    s.coreFrame c.frame = some f ∧ s.egressTakes c.port f.eth = true ∧ (∀ t late, s.expiryOf f c.port = some (t, late) → s.ns ≤ t) ∧
    c.tc < 4 ∧ depth = s.queueDepth c.port c.tc ∧ i = 3 * c.tc + f.colour ∧ key = 16 * c.port + c.tc ∧ (num, e) = avgStep ((findKey
    Prod.fst key s.swc.avgs).elim 0 fun x => x.2.1) ((findKey Prod.fst key s.swc.avgs).elim 0 fun x => x.2.2) depth (s.getA
    (Reg.SWC_WRED_P_W i)) ∧ a = { s with swc := { s.swc with avgs := setKey Prod.fst (key, num, e) s.swc.avgs } }) ∧
(∃ (s : State) (port : Nat) (src : Nat) (tc : Nat) (draws : List Nat) (held : List CoreCopy) (fl : Flow) (d : Nat), held =
    (s.swc.copies.filter fun c => c.stage == 1 && flowKey c.src c.port c.tc == flowKey src port tc) ∧ fl = s.flowOf (flowKey src
    port tc) ∧ (held.map fun c => idx16 c.seq fl.expect).min? = some d) ∧
(∃ (s : State) (a : State) (plane : Nat) (frame : Nat), plane ≤ 1 ∧ ((∀ q t, findKey Prod.fst plane s.swc.planeErr = some (q, t) → t
    + 1000000000 * nsUnit ≤ s.time) ∨ s.get Reg.SWC_PLANES_UP ≠ 3) ∧ a = { s with swc := { s.swc with planeErr := setKey Prod.fst (plane, s.time) s.swc.planeErr } }) ∧
(∃ (s : State) (a : State) (plane : Nat) (frame : Nat) (q : Nat) (t : Nat), plane ≤ 1 ∧ findKey Prod.fst plane s.swc.planeErr = some
    (q, t) ∧ s.time < t + 1000000000 * nsUnit ∧ s.get Reg.SWC_PLANES_UP = 3 ∧ a = { s with swc := { s.swc with planeErr := setKey Prod.fst (plane, s.time) s.swc.planeErr } }.put
    Reg.SWC_PLANES_UP (3 - 2 ^ plane)) ∧
(∃ (s : State) (a : State) (frame : Nat) (port : Nat) (t : Nat) (late : Bool) (c : CoreCopy) (f : CoreFrame), s.copyOf frame port =
    some c ∧ s.coreFrame frame = some f ∧ c.stage ≠ 3 ∧ s.expiryOf f port = some (t, late) ∧ a = (s.advance (t *
    nsUnit)).lateCounted f port late) ∧
(∃ (s : State) (a : State) (p : Nat) (now : Nat) (luck : List Nat), p ≤ 16 ∧ p ≠ 12 ∧ s.swc.copies.any (fun c => c.port == p &&
    c.stage == 3) = false ∧ a = (s.advance (now * nsUnit)).dropOversize p ∧ a.nextCopy p now = none) ∧
(∃ (s : State) (a : State) (p : Nat) (now : Nat) (luck : List Nat) (b : _) (c : _) (f : _), p ≤ 16 ∧ p ≠ 12 ∧ s.swc.copies.any (fun
    c => c.port == p && c.stage == 3) = false ∧ a = (s.advance (now * nsUnit)).dropOversize p ∧ a.nextCopy p now = some (c, b) ∧
    b.coreFrame c.frame = some f) ∧
(∃ (s : State) (a : State) (b : State) (p : Nat) (now : Nat) (c : CoreCopy) (f : CoreFrame), s.swc.copies.find? (fun c => c.port ==
    p && c.stage == 3) = some c ∧ a = s.advance (now * nsUnit) ∧ a.coreFrame c.frame = some f ∧ b = (a.countMod
    (Reg.MACP_TX_FRAMES_COUNT (macWindow p)) 1).countMod (Reg.MACP_TX_OCTETS_COUNT (macWindow p)) (if p < 12 then a.macBytes f p
    else f.len + 4)) ∧
(∃ (s : State) (p : Nat), p < 12 ∧ s.flag (Reg.SWC_PORT_EGR_HOLD p) = true) ∧
(∃ (s : State) (tc : Nat) (m : Nat), tc ≤ 3 ∧ m = withBit s.swc.pfc tc (s.rings.any fun x => x.type == 1 && x.tc == tc && s.flag
    (Reg.HIF_RING_RSTAT_BP x.ring)) ∧ m ≠ s.swc.pfc) ∧
(∃ (s : State) (a : State) (b : State) (lost : List Nat) (doubled : List Nat) (q : Nat) (i : Nat) (run : Nat) (again : List (Nat ×
    Nat)) (c : State) (d : State) (e : State), a = { s with swc := { s.swc with leaked := s.swc.leaked ++ lost.map fun b => (b % 65536, 0) } }
    ∧ a.beadCounts = (q, i) ∧ b = ((a.put Reg.SWC_BEADS_FREE_COUNT (65536 - q - i)).put Reg.SWC_BEADS_QUEUED_COUNT q).put
    Reg.SWC_BEADS_INFLIGHT_COUNT i ∧ b.swc.leaked.filter (fun x => x.2 ≠ 0) = again ∧ run = (if again.isEmpty then b.swc.cleanRun +
    1 else 0) ∧ c = { b with swc := { b.swc with leaked := ((b.swc.leaked.filter fun x => x.2 = 0).map fun x => (x.1, 1)), cleanRun := run } }
    ∧ d = again.foldl (fun s x => ((((s.count Reg.SWC_AUDIT_LEAK_CNT).put Reg.SWC_LAST_LEAK_BEAD x.1).event 56).raise1 0x0701 1
    x.1).count Reg.TLY_REPAIRS_BEAD |>.event 174) c ∧ e = doubled.foldl (fun s b => ((s.count Reg.SWC_AUDIT_DOUBLE).event 57).raise1
    0x0702 2 (b % 65536)) d) ∧
(∃ (s : State) (index : Nat), index ≤ 4095 ∧ s.st ≠ stBoot) ∧
(∃ (s : State) (index : Nat) (lo : Nat) (hi : Nat) (dest : Nat), index ≤ 4095 ∧ s.st ≠ stBoot ∧ (lo, hi, dest) = (findKey Prod.fst
    index s.swc.fdb).elim (0, 0, 0) Prod.snd) ∧
(∃ (s : State) (index : Nat), s.st = stBoot) :=
  ⟨⟨{ (st [(0x10, 5)]) with swc.copies := [{ copy0 with seq := 0 }] }, 1, 2, [], { copy0 with seq := 0 }, _, _, by decide, by decide,
  rfl, rfl, rfl⟩,
  ⟨{ (st [(0x10, 5)]) with swc.copies := [{ copy0 with seq := 3 }] }, 1, 2, [], { copy0 with seq := 3 }, _, _, by decide, by decide,
  rfl, rfl, by decide, by decide⟩,
  ⟨{ (st [(0x10, 5)]) with swc.copies := [{ copy0 with seq := 40000 }] }, 1, 2, [], { copy0 with seq := 40000 }, _, _, by decide,
  by decide, rfl, rfl, by decide⟩,
  ⟨{ (st [(0x10, 5)]) with swc.frames := [frame0] }, copy0, frame0, 0, by decide, by decide⟩,
  ⟨{ (st [(0x10, 5)]) with swc.frames := [{ frame0 with age := some 0 }], time := 2 ^ 80 }, { copy0 with port := 12 }, { frame0 with age := some 0 },
  0, 0, false, by decide, by decide, by decide, by decide⟩,
  ⟨{ (st [(0x10, 5)]) with swc.frames := [frame0] }, { copy0 with port := 13 }, frame0, 0, by decide, by decide, (fun _ _ h => by
  cases h), by decide⟩,
  ⟨{ (st [(0x10, 5)]) with swc.frames := [frame0] }, _, { copy0 with port := 13, tc := 0 }, frame0, 0, _, _, _, _, _, by decide,
  by decide, (fun _ _ h => by cases h), by decide, rfl, rfl, rfl, rfl, rfl⟩,
  ⟨{ (st [(0x10, 5)]) with swc.copies := [{ copy0 with seq := 3, stage := 1 }] }, 2, 0, 5, [], _, _, 3, rfl, rfl, by decide⟩,
  ⟨(st [(0x10, 5)]), _, 0, 0, by decide, (Or.inl (fun _ _ h => by cases h)), rfl⟩,
  ⟨{ (st [(0x10, 5)]).put Reg.SWC_PLANES_UP 3 with swc.planeErr := [(0, 0)] }, _, 0, 0, 0, 0, by decide, by decide, by decide,
  by decide, rfl⟩,
  ⟨{ (st [(0x10, 5)]) with swc.copies := [copy0], swc.frames := [{ frame0 with age := some 0 }] }, _, 1, 2, 0, false, copy0, { frame0 with age := some 0 },
  by decide, by decide, by decide, by decide, rfl⟩,
  ⟨(st [(0x10, 5)]), _, 0, 0, [], by decide, by decide, by decide, rfl, by decide⟩,
  ⟨{ st [(0x10, 5)] with swc.copies := [{ copy0 with port := 13, stage := 2 }], swc.frames := [frame0] }, _, 13, 0, [], (({ st [(0x10, 5)] with swc.copies := [{ copy0 with port := 13, stage := 2 }], swc.frames := [frame0] }).advance
  (0 * nsUnit)).dropOversize 13, { copy0 with port := 13, stage := 2 }, frame0, by decide, by decide, by decide, rfl, by decide,
  by decide⟩,
  ⟨{ (st [(0x10, 5)]) with swc.copies := [{ copy0 with stage := 3 }], swc.frames := [frame0] }, _, _, 2, 0, { copy0 with stage := 3 },
  frame0, by decide, rfl, by decide, rfl⟩,
  ⟨st [(0x10, 0x5), (0x71004, 0x10000)], 0, by decide, by decide⟩,
  ⟨{ st [(0x10, 5), (0x25004, 4)] with rings := [{ ring0 with type := 1 }] }, 0, withBit ({ st [(0x10, 5), (0x25004, 4)] with rings := [{ ring0 with type := 1 }] }).swc.pfc
  0 (({ st [(0x10, 5), (0x25004, 4)] with rings := [{ ring0 with type := 1 }] }).rings.any fun x => x.type == 1 && x.tc == 0 && ({ st [(0x10, 5), (0x25004, 4)] with rings := [{ ring0 with type := 1 }] }).flag
  (Reg.HIF_RING_RSTAT_BP x.ring)), by decide, rfl, by decide⟩,
  ⟨(st [(0x10, 5)]), _, _, [], [], 0, 0, _, [], _, _, _, rfl, by decide, rfl, by decide, rfl, rfl, rfl, rfl⟩,
  ⟨(st [(0x10, 5)]), 0, by decide, by decide⟩,
  ⟨(st [(0x10, 5)]), 0, 0, 0, 0, by decide, by decide, by decide⟩,
  ⟨(st [(0x10, 3)]), 0, by decide⟩⟩

theorem test_hyp_SamplesComeInAndFramesGoOut :
(∃ (s : State) (fr : SvFrame) (x : Asdu) (l : List Asdu), fr.asdus = x :: l ∧ s.svSub fr = none) ∧
(∃ (s : State) (a : State) (fr : SvFrame) (k : Nat) (nch : Nat) (no : Nat), s.svSub fr = some k ∧ nch = s.getA
    (Reg.SVI_SUB_LAYOUT_NCH k) ∧ no = s.getA (Reg.SVI_SUB_LAYOUT_NOASDU k) ∧ a = s.svReceived (no * nch) ∧ a.svi.enabled = false) ∧
(∃ (s : State) (a : State) (fr : SvFrame) (k : Nat) (nch : Nat) (no : Nat), s.svSub fr = some k ∧ nch = s.getA
    (Reg.SVI_SUB_LAYOUT_NCH k) ∧ no = s.getA (Reg.SVI_SUB_LAYOUT_NOASDU k) ∧ a = s.svReceived (no * nch) ∧ a.svi.enabled = true) ∧
(∃ (s : State) (fr : SvFrame) (k : Nat) (reason : Nat) (nch : Nat) (x : Asdu) (r : Nat), r = (if reason ≠ 0 then reason else
    s.asduReason fr x k) ∧ x.smpCnt = none) ∧
(∃ (s : State) (fr : SvFrame) (k : Nat) (reason : Nat) (nch : Nat) (x : Asdu) (r : Nat) (c : _), r = (if reason ≠ 0 then reason else
    s.asduReason fr x k) ∧ x.smpCnt = some c ∧ s.tg.f ≤ c) ∧
(∃ (s : State) (a : State) (fr : SvFrame) (k : Nat) (reason : Nat) (nch : Nat) (c : Nat) (t : Nat) (r : Nat) (x : Asdu), r = (if
    reason ≠ 0 then reason else s.asduReason fr x k) ∧ x.smpCnt = some c ∧ c < s.tg.f ∧ t = tickOf c fr.stamp s.tg.f ∧ a = (if r = 0
    then s.svArrive k (arrival t fr.stamp s.tg.f) else s) ∧ (a.viewAt k t = none ∨ t < a.svi.firstTick) ∧ 0 < nch) ∧
(∃ (s : State) (a : State) (fr : SvFrame) (k : Nat) (reason : Nat) (nch : Nat) (c : Nat) (t : Nat) (r : Nat) (x : Asdu) (b : _) (v :
    _) (here : _), r = (if reason ≠ 0 then reason else s.asduReason fr x k) ∧ x.smpCnt = some c ∧ c < s.tg.f ∧ t = tickOf c fr.stamp
    s.tg.f ∧ a = (if r = 0 then s.svArrive k (arrival t fr.stamp s.tg.f) else s) ∧ a.viewAt k t = some v ∧ a.svi.firstTick ≤ t ∧
    here = min v.nch nch ∧ 0 < here ∧ b = (if here < nch then a.svUnexpected (nch - here) else a) ∧ fr.dup = true) ∧
(∃ (s : State) (a : State) (fr : SvFrame) (k : Nat) (reason : Nat) (nch : Nat) (c : Nat) (t : Nat) (r : Nat) (x : Asdu) (b : _) (v :
    _) (here : _), r = (if reason ≠ 0 then reason else s.asduReason fr x k) ∧ x.smpCnt = some c ∧ c < s.tg.f ∧ t = tickOf c fr.stamp
    s.tg.f ∧ a = (if r = 0 then s.svArrive k (arrival t fr.stamp s.tg.f) else s) ∧ a.viewAt k t = some v ∧ a.svi.firstTick ≤ t ∧
    here = min v.nch nch ∧ 0 < here ∧ b = (if here < nch then a.svUnexpected (nch - here) else a) ∧ fr.dup = false ∧ r ≠ 0) ∧
(∃ (s : State) (a : State) (fr : SvFrame) (k : Nat) (reason : Nat) (nch : Nat) (c : Nat) (t : Nat) (r : Nat) (x : Asdu) (b : _) (v :
    _) (here : _), r = (if reason ≠ 0 then reason else s.asduReason fr x k) ∧ x.smpCnt = some c ∧ c < s.tg.f ∧ t = tickOf c fr.stamp
    s.tg.f ∧ a = (if r = 0 then s.svArrive k (arrival t fr.stamp s.tg.f) else s) ∧ a.viewAt k t = some v ∧ a.svi.firstTick ≤ t ∧
    here = min v.nch nch ∧ 0 < here ∧ b = (if here < nch then a.svUnexpected (nch - here) else a) ∧ fr.dup = false ∧ r = 0) ∧
(∃ (s : State) (a : State) (sub : Nat) (k : Nat) (base : Nat) (q : Nat) (q0 : Nat) (q1 : Nat) (v : Int) (sync : Bool) (testOk :
    Bool) (img : OpenImage), q0 = q % 2 ^ 14 ∧ q1 = (if sync then (if q0 % 4 = 0 then q0 + 3 else q0) + 2 ^ 19 else q0) ∧ img = { s.openImage k with samples := ⟨base, v, q1, sub⟩ :: (s.openImage k).samples }
    ∧ a = { s with svi := { s.svi with open' := setKey OpenImage.tick img s.svi.open' } }) ∧
(∃ (s : State) (a : State) (fr : GooseFrame), a = s.advance fr.stamp ∧ (a.svi.gsubs.any fun g => gEn g.words && gMatch g.words ==
    [fr.dst, fr.vid, fr.appid, fr.ref.length, crc32c fr.ref]) = false) ∧
(∃ (s : State) (a : State) (b : State) (fr : GooseFrame) (g : Gsub) (g1 : Gsub) (bad : Bool), a = s.advance fr.stamp ∧
    a.svi.gsubs.find? (fun g => gEn g.words && gMatch g.words == [fr.dst, fr.vid, fr.appid, fr.ref.length, crc32c fr.ref]) = some g
    ∧ b = a.keyRefused (!gAuth g.words || a.keyUsable (gKey g.words) (gSlice g.words) 2) ∧ (bad = decide (fr.confRev ≠ g.words.getD
    4 0 ∨ (gAuth g.words = true ∧ (fr.tagOk && a.keyUsable (gKey g.words) (gSlice g.words) 2) = false) ∨ fr.nds = true ∨ ((fr.test =
    true ∨ fr.sim = true) ∧ gTestOk g.words = false) ∨ (gMembers g.words).all (memberFits fr.data) = false)) ∧ g1 = { g with never := false, st := fr.st, sq := fr.sq, expiry := fr.stamp + fr.tal * 1000000 * nsUnit, test := fr.test, vals := memberValues g.words fr.data, age := 0, stale := false }) ∧
(∃ (s : State), s.st ≠ stBoot ∧ s.flag Reg.SVI_CTRL_EN = false) ∧
(∃ (s : State), s.st ≠ stBoot ∧ s.flag Reg.SVI_CTRL_EN = true) ∧
(∃ (s : State) (g : Nat), s.st ≠ stBoot) ∧
(∃ (s : State) (k : Nat) (words : List Nat), s.st ≠ stBoot ∧ words = (findKey Gsub.idx k s.svi.gsubs).elim [] Gsub.words) ∧
(∃ (s : State) (b : Nat), s.st ≠ stBoot) ∧
(∃ (s : State) (a : State) (c : State) (g : Gcb) (b : Nat), s.st ≠ stBoot ∧ g = (findKey Gcb.idx b s.pub.gcbs).getD { idx := b, words := [], tpl := [] }
    ∧ a = (List.range 8).foldl (fun s w => s.put (Reg.PUB_GCB_W_WORD w) (g.words.getD w 0)) s ∧ c = (List.range 96).foldl (fun s w
    => s.put (Reg.PUB_GCB_TPL_BYTES w) (g.tpl.getD w 0)) a ∧ b ≤ 511) ∧
(∃ (s : State) (a : State) (c : State) (g : Gcb) (b : Nat), s.st ≠ stBoot ∧ g = (findKey Gcb.idx b s.pub.gcbs).getD { idx := b, words := [], tpl := [] }
    ∧ a = (List.range 8).foldl (fun s w => s.put (Reg.PUB_GCB_W_WORD w) (g.words.getD w 0)) s ∧ c = (List.range 96).foldl (fun s w
    => s.put (Reg.PUB_GCB_TPL_BYTES w) (g.tpl.getD w 0)) a ∧ 511 < b) ∧
(∃ (s : State) (n : Nat), s.st = stBoot) ∧
(∃ (s : State) (k : Nat) (last : Nat) (x : List (Int × Bool)) (l : List (Nat × List (Int × Bool))), s.mainAbsent = false ∧ k ≤ 3 ∧
    s.getA (Reg.SVI_OWN_CTRL_EN k) = 1 ∧ s.tg.running = true ∧ s.mod.fine = (last, x) :: l ∧ 0 < s.getA (Reg.SVI_OWN_CTRL_NOASDU k)
    ∧ s.getA (Reg.SVI_OWN_CTRL_NOASDU k) ≤ last + 1) ∧
(∃ (s : State) (a : State) (b : Nat) (iv : Nat) (g : Gcb) (g1 : Gcb), s.mainAbsent = false ∧ findKey Gcb.idx b s.pub.gcbs = some g ∧
    s.flag Reg.PUB_CTRL_EN = true ∧ gcbEn g.words = true ∧ g.fresh = false ∧ g.st ≠ 0 ∧ a = s.advance ((g.next - 2000) * nsUnit) ∧
    iv = min (2 * g.interval) (gcbTmax g.words * 1000) ∧ g1 = { g with sq := if g.sq = 2 ^ 32 - 1 then 1 else g.sq + 1, interval := iv, next := g.next + iv * 1000 }) ∧
(∃ (s : State) (a : State) (len : Nat) (f : PubFrame) (l : List PubFrame), s.mainAbsent = false ∧ s.pub.frames = f :: l ∧ a = { s.advance (f.release * nsUnit) with pub := { s.pub with frames := l } }
    ∧ f.src < 0x1000) ∧
(∃ (s : State) (a : State) (len : Nat) (f : PubFrame) (l : List PubFrame) (k : _), s.mainAbsent = false ∧ s.pub.frames = f :: l ∧ a
    = { s.advance (f.release * nsUnit) with pub := { s.pub with frames := l } } ∧ f.src = 0x1000 + k ∧ (a.pair.gateOpen = false ∨
    a.pair.safeMode = true)) ∧
(∃ (s : State) (a : State) (len : Nat) (f : PubFrame) (l : List PubFrame) (k : _) (mark : _) (g : _) (b : _), s.mainAbsent = false ∧
    s.pub.frames = f :: l ∧ a = { s.advance (f.release * nsUnit) with pub := { s.pub with frames := l } } ∧ f.src = 0x1000 + k ∧
    a.pair.gateOpen = true ∧ a.pair.safeMode = false ∧ mark = a.svi.ownMark.contains k ∧ g = (if mark then { f with data := markFirst f.nch f.data }
    else f) ∧ b = { a with svi := { a.svi with ownMark := a.svi.ownMark.filter fun x => x ≠ k } }) :=
  ⟨⟨(st [(0x10, 5)]), svFrame0, asdu0, [], by decide, by decide +kernel⟩,
  ⟨stSv, _, svFrame0, 0, _, _, by decide +kernel, rfl, rfl, rfl, by decide⟩,
  ⟨{ stSv with svi.enabled := true }, _, svFrame0, 0, _, _, by decide +kernel, rfl, rfl, rfl, by decide⟩,
  ⟨(st [(0x10, 5)]), svFrame0, 0, 0, 0, { asdu0 with smpCnt := none }, _, rfl, by decide⟩,
  ⟨(st [(0x10, 5)]), svFrame0, 0, 0, 0, { asdu0 with smpCnt := some 9999 }, _, 9999, rfl, by decide, by decide⟩,
  ⟨(st [(0x10, 5)]), _, svFrame0, 0, 0, 1, 3, _, _, asdu0, rfl, by decide, by decide, rfl, rfl, by decide, by decide⟩,
  ⟨{ (st [(0x10, 5)]) with svi.views := [(0, [⟨0, 0, 1, 0⟩])] }, _, { svFrame0 with dup := true }, 0, 0, 1, 3, _, _, asdu0, _, _, _,
  rfl, by decide, by decide, rfl, rfl, rfl, by decide, rfl, by decide, rfl, by decide⟩,
  ⟨{ (st [(0x10, 5)]) with svi.views := [(0, [⟨0, 0, 1, 0⟩])] }, _, { svFrame0 with dup := false }, 0, 2, 1, 3, _, _, asdu0, _, _, _,
  rfl, by decide, by decide, rfl, rfl, rfl, by decide, rfl, by decide, rfl, by decide, by decide⟩,
  ⟨{ (st [(0x10, 5)]) with svi.views := [(0, [⟨0, 0, 1, 0⟩])] }, _, { svFrame0 with dup := false }, 0, 0, 1, 3, _, 0, asdu0, _, _, _,
  by decide +kernel, by decide, by decide, rfl, rfl, rfl, by decide, rfl, by decide, rfl, by decide, by decide⟩,
  ⟨(st [(0x10, 5)]), _, 0, 0, 0, 0, _, _, (0 : Int), true, true, _, rfl, rfl, rfl, rfl⟩,
  ⟨(st [(0x10, 5)]), _, gooseFrame0, rfl, by decide⟩,
  ⟨stSv, _, _, gooseFrame0, { gsub0 with words := [1, 0x80000000, 1, crc32c [65], 0] }, _, _, rfl, by decide +kernel, rfl, rfl, rfl⟩,
  ⟨st [(0x10, 0x5)], by decide, by decide⟩,
  ⟨st [(0x10, 0x5), (0x80010, 0x1)], by decide, by decide⟩,
  ⟨st [(0x10, 0x5)], 0, by decide⟩,
  ⟨(st [(0x10, 5)]), 0, _, by decide, rfl⟩,
  ⟨st [(0x10, 0x5)], 0, by decide⟩,
  ⟨(st [(0x10, 5)]), _, _, _, 0, by decide, rfl, rfl, rfl, by decide⟩,
  ⟨(st [(0x10, 5)]), _, _, _, 512, by decide, rfl, rfl, rfl, by decide⟩,
  ⟨(st [(0x10, 3)]), 0, by decide⟩,
  ⟨{ st [(0x10, 5), (0x88200, 0x84400000)] with tg.running := true, mod.fine := [(0, [])] }, 0, 0, [], [], by decide, by decide,
  by decide, by decide, by decide, by decide, by decide⟩,
  ⟨{ (st [(0x10, 5)]).put Reg.PUB_CTRL_EN 1 with pub.gcbs := [{ gcb0 with fresh := false, st := 1 }] }, _, 4, _, { gcb0 with fresh := false, st := 1 },
  _, by decide, by decide, by decide, by decide, by decide, by decide, rfl, rfl, rfl⟩,
  ⟨{ (st [(0x10, 5)]) with pub.frames := [pubFrame0] }, _, 0, pubFrame0, [], by decide, by decide, rfl, by decide⟩,
  ⟨{ (st [(0x10, 5)]) with pub.frames := [{ pubFrame0 with src := 0x1000 }] }, _, 0, { pubFrame0 with src := 0x1000 }, [], 0,
  by decide, by decide, rfl, by decide, by decide⟩,
  ⟨{ (st [(0x10, 6)]) with pair.gateOpen := true, pair.safeMode := false, pub.frames := [{ pubFrame0 with src := 0x1000 }] }, _, 0, { pubFrame0 with src := 0x1000 },
  [], 0, _, _, _, by decide, by decide, rfl, by decide, by decide, by decide, rfl, rfl, rfl⟩⟩

theorem test_hyp_ModulatorsAndConverters :
(∃ (s : State) (a : State) (b : State) (di : Nat) (fine : List FineIn), s.tg.running = true ∧ a = s.advance (instantOf s.tg.sample
    s.tg.f 0) ∧ b = { a with tg := { a.tg with sample := s.tg.sample + 1 }, svi := { a.svi with di := (s.tg.sample, di % 256) :: a.svi.di.take 127 } }) ∧
(∃ (s : State) (c : Nat), s.mainAbsent = false ∧ s.flag Reg.MOD_CTRL_EN = true ∧ c < 16 ∧ s.modOn c = true ∧ (s.get
    Reg.MOD_STATUS_STUCK >>> c) % 2 = 0) ∧
(∃ (s : State) (c : Nat), s.mainAbsent = false ∧ s.flag Reg.MOD_CTRL_EN = true ∧ c < 16 ∧ s.modOn c = true ∧ (s.get
    Reg.MOD_STATUS_OVR >>> c) % 2 = 0) ∧
(∃ (s : State) (c : Nat), s.mainAbsent = false ∧ s.flag Reg.MOD_CTRL_EN = true ∧ c < 16 ∧ s.modOn c = true ∧ (s.get
    Reg.MOD_STATUS_STUCK >>> c) % 2 = 1) ∧
(∃ (s : State) (c : Nat), s.mainAbsent = false ∧ s.flag Reg.MOD_CTRL_EN = true ∧ c < 16 ∧ s.modOn c = true ∧ (s.get
    Reg.MOD_STATUS_OVR >>> c) % 2 = 1) ∧
(∃ (s : State) (c : Nat), s.mainAbsent = false ∧ s.flag Reg.MOD_CTRL_EN = true ∧ c < 16 ∧ s.modOn c = true ∧ c < 4) ∧
(∃ (s : State) (c : Nat), c < 16) ∧
(∃ (s : State), s.mainAbsent = false) ∧
(∃ (s : State) (c : Nat), s.mainAbsent = true) ∧
(∃ (s : State) (a : State), s.mainAbsent = false ∧ s.tempUnusable = true ∧ a = (if s.mod.held then s else s.event 115)) ∧
(∃ (s : State) (a : State) (l : List (Nat × Int)), s.mainAbsent = false ∧ s.tempUnusable = false ∧ l = ((List.range 16).map fun c =>
    correctionAt s.theta (s.calPoints c)) ∧ a = (({ s with mod := { s.mod with held := false } }.put Reg.MOD_TEMP_NOW_HELD 0).put
    Reg.MOD_TEMP_NOW_TEMP (unsigned 16 s.theta)).clearCode 0x0E03) ∧
(∃ (s : State) (a : State) (start : Nat) (d : Bool), (s.flag Reg.ADC_STATUS_BUSY || s.flag Reg.ADC_STATUS_RUN) = false ∧ a = (if d
    then s.count Reg.ADC_MON_DELAY_COUNT else s)) ∧
(∃ (s : State) (start : Nat) (d : Bool), (s.flag Reg.ADC_STATUS_BUSY || s.flag Reg.ADC_STATUS_RUN) = true) ∧
(∃ (s : State) (trig : AdcTrig) (start : Nat) (n : Nat) (d : Bool), s.flag Reg.ADC_CTRL_EN = true ∧ s.adcTakes trig = true ∧ (trig =
    .tick n ∨ trig = .period n)) ∧
(∃ (s : State) (trig : AdcTrig) (start : Nat) (n : Nat) (d : Bool) (i : _) (f : _), s.flag Reg.ADC_CTRL_EN = true ∧ s.adcTakes trig
    = true ∧ trig = .edge i f n) ∧
(∃ (s : State) (start : Nat) (d : Bool), s.st ≠ stBoot ∧ s.flag Reg.ADC_CTRL_EN = true ∧ s.get Reg.ADC_CFG_TRIG_SRC = 0) ∧
(∃ (s : State), s.st ≠ stBoot ∧ s.flag Reg.ADC_STATUS_RUN = true) ∧
(∃ (s : State) (start : Nat) (d : Bool), s.st = stBoot) ∧
(∃ (s : State) (a : State) (b : State) (codes : List (Nat × List Int)) (e : Nat), s.flag Reg.ADC_STATUS_BUSY = true ∧ e = s.adc.tau
    + s.adcSpan + s.adc.ext ∧ a = (s.advance (e * nsUnit)).countMod Reg.ADC_STATUS_RESCNT 1 ∧ b = ((a.adcInputs.foldl (fun t i =>
    t.adcInput (a.get Reg.ADC_STATUS_RESCNT % 256) codes i) a).put Reg.ADC_RES_TS_NS (s.adc.tau + 40)).event 116) ∧
(∃ (s : State) (a : State) (l : List (Nat × Int)), (stBoot < s.st ∨ (s.st = stBoot ∧ 5 ≤ s.get Reg.KPR_BOOT_STAGE)) ∧ a = l.foldl
    (fun t x => if x.1 < 8 then t.monitor x.1 x.2 else t) s) ∧
(∃ (s : State) (a : State) (b : State) (m : Nat) (bad : Nat) (good : Nat) (v : Int) (c : _), a = (s.put (Reg.ADC_MON_VALUE m)
    (unsigned 16 v)).putFlag (Reg.ADC_MON_OUT m) (monOut m v) ∧ b = (if m = 7 then a.put Reg.GLB_TEMP_PLATE (unsigned 16 v) else a)
    ∧ bad = (if monOut m v then (findKey Prod.fst m b.adc.bad).elim 0 Prod.snd + 1 else 0) ∧ good = (if monOut m v then 0 else
    (findKey Prod.fst m b.adc.good).elim 0 Prod.snd + 1) ∧ c = { b with adc := { b.adc with bad := setKey Prod.fst (m, min bad 10) b.adc.bad, good := setKey Prod.fst (m, min good 10) b.adc.good } }) :=
  ⟨⟨{ (st [(0x10, 5)]) with tg.running := true }, _, _, 0, [], by decide, rfl, rfl⟩,
  ⟨(st [(0x10, 5)]).put Reg.MOD_CTRL_EN 1, 0, by decide, by decide, by decide, by decide, by decide⟩,
  ⟨(st [(0x10, 5)]).put Reg.MOD_CTRL_EN 1, 0, by decide, by decide, by decide, by decide, by decide⟩,
  ⟨((st [(0x10, 5)]).put Reg.MOD_CTRL_EN 1).put Reg.MOD_STATUS_STUCK 1, 0, by decide, by decide, by decide, by decide, by decide⟩,
  ⟨((st [(0x10, 5)]).put Reg.MOD_CTRL_EN 1).put Reg.MOD_STATUS_OVR 1, 0, by decide, by decide, by decide, by decide, by decide⟩,
  ⟨(st [(0x10, 5)]).put Reg.MOD_CTRL_EN 1, 0, by decide, by decide, by decide, by decide, by decide⟩,
  ⟨st [(0x10, 0x5)], 0, by decide⟩,
  ⟨st [(0x10, 0x5)], by decide⟩,
  ⟨(st [(0x10, 0)]), 0, by decide⟩,
  ⟨(st [(0x10, 5)]).put Reg.MOD_TEMP_CFG_SRC 1, _, by decide, by decide, rfl⟩,
  ⟨(st [(0x10, 5)]), _, _, by decide, by decide, rfl, rfl⟩,
  ⟨(st [(0x10, 5)]), _, 0, true, by decide, rfl⟩,
  ⟨(st [(0x10, 5)]).put Reg.ADC_STATUS_BUSY 1, 0, true, by decide⟩,
  ⟨((st [(0x10, 5)]).put Reg.ADC_CTRL_EN 1).put Reg.ADC_CFG_TRIG_SRC 2, .period 0, 0, 0, true, by decide, by decide, by decide⟩,
  ⟨((st [(0x10, 5)]).put Reg.ADC_CTRL_EN 1).put Reg.ADC_CFG_TRIG_SRC 3, .edge 0 false 0, 0, 0, true, 0, false, by decide, by decide,
  by decide⟩,
  ⟨(st [(0x10, 5)]).put Reg.ADC_CTRL_EN 1, 0, true, by decide, by decide, by decide⟩,
  ⟨st [(0x10, 0x5), (0xf0028, 0x2)], by decide, by decide⟩,
  ⟨(st [(0x10, 3)]), 0, true, by decide⟩,
  ⟨st [(0x10, 0x5), (0xf0028, 0x1)], ((st [(0x10, 0x5), (0xf0028, 0x1)]).advance (((st [(0x10, 0x5), (0xf0028, 0x1)]).adc.tau + (st
  [(0x10, 0x5), (0xf0028, 0x1)]).adcSpan + (st [(0x10, 0x5), (0xf0028, 0x1)]).adc.ext) * nsUnit)).countMod Reg.ADC_STATUS_RESCNT 1,
  (((((st [(0x10, 0x5), (0xf0028, 0x1)]).advance (((st [(0x10, 0x5), (0xf0028, 0x1)]).adc.tau + (st [(0x10, 0x5), (0xf0028,
  0x1)]).adcSpan + (st [(0x10, 0x5), (0xf0028, 0x1)]).adc.ext) * nsUnit)).countMod Reg.ADC_STATUS_RESCNT 1).adcInputs.foldl (fun t i
  => t.adcInput ((((st [(0x10, 0x5), (0xf0028, 0x1)]).advance (((st [(0x10, 0x5), (0xf0028, 0x1)]).adc.tau + (st [(0x10, 0x5),
  (0xf0028, 0x1)]).adcSpan + (st [(0x10, 0x5), (0xf0028, 0x1)]).adc.ext) * nsUnit)).countMod Reg.ADC_STATUS_RESCNT 1).get
  Reg.ADC_STATUS_RESCNT % 256) ([]) i) (((st [(0x10, 0x5), (0xf0028, 0x1)]).advance (((st [(0x10, 0x5), (0xf0028, 0x1)]).adc.tau +
  (st [(0x10, 0x5), (0xf0028, 0x1)]).adcSpan + (st [(0x10, 0x5), (0xf0028, 0x1)]).adc.ext) * nsUnit)).countMod Reg.ADC_STATUS_RESCNT
  1)).put Reg.ADC_RES_TS_NS ((st [(0x10, 0x5), (0xf0028, 0x1)]).adc.tau + 40)).event 116, [], (st [(0x10, 0x5), (0xf0028,
  0x1)]).adc.tau + (st [(0x10, 0x5), (0xf0028, 0x1)]).adcSpan + (st [(0x10, 0x5), (0xf0028, 0x1)]).adc.ext, by decide, rfl, rfl,
  rfl⟩,
  ⟨(st [(0x10, 5)]), _, [], by decide, rfl⟩,
  ⟨(st [(0x10, 5)]), _, _, 0, _, _, (0 : Int), _, rfl, rfl, rfl, rfl, rfl⟩⟩

theorem test_hyp_ReckonerLoadsSolvesReleases :
(∃ (s : State) (q : Req) (len : Nat) (mode : Nat) (buf : List Nat) (rs : List RckRec) (b : State), s.reaches 0x80 q = true ∧
    q.version = 1 ∧ (s.loadCheck (q.ring.isNone && !s.keys.console) q.slice len mode buf).1 = .ok ∧ rs = (cutRecs (len / 16 + 1)
    (buf.take len)).1.map rckRecOf ∧ b = (if mode = 0 then s.rckClear q.slice else s)) ∧
(∃ (s : State) (q : Req) (len : Nat) (mode : Nat) (res : Nat) (st : Status) (buf : List Nat), s.reaches 0x80 q = true ∧ q.version =
    1 ∧ s.loadCheck (q.ring.isNone && !s.keys.console) q.slice len mode buf = (st, res) ∧ st ≠ .ok) ∧
(∃ (s : State) (q : Req) (len : Nat) (mode : Nat) (buf : List Nat), q.version ≠ 1 ∧ s.reaches 0x80 q = true) ∧
(∃ (s : State) (q : Req) (len : Nat) (mode : Nat) (buf : List Nat), q.version ≠ 1 ∧ s.reaches 0x82 q = true) ∧
(∃ (s : State) (q : Req) (len : Nat) (buf : List Nat) (l : List (List Nat)) (i : _), s.reaches 0x82 q = true ∧ q.version = 1 ∧ l =
    cutRules len buf ∧ l.findIdx? (fun b => !ruleOk s.rck.model b) = some i) ∧
(∃ (s : State) (q : Req) (len : Nat) (buf : List Nat) (l : List (List Nat)), s.reaches 0x82 q = true ∧ q.version = 1 ∧ l = cutRules
    len buf ∧ l.all (ruleOk s.rck.model) = true ∧ (len % 40 ≠ 0 ∨ buf.length < len)) ∧
(∃ (s : State) (q : Req) (len : Nat) (buf : List Nat) (l : List (List Nat)) (priv : _), s.reaches 0x82 q = true ∧ q.version = 1 ∧ l
    = cutRules len buf ∧ l.all (ruleOk s.rck.model) = true ∧ len % 40 = 0 ∧ len ≤ buf.length ∧ priv = ((q.ring.isNone &&
    !s.keys.console) || (l.map ruleOf).any (fun r => !s.rckOwns q.slice r.node))) ∧
(∃ (s : State) (a : State) (b : State) (q : Req) (cold : Bool) (now : Nat), a = s.advance (now * nsUnit) ∧ a.takes 0x81 q ∧
    stRun.contains a.st = true ∧ a.flag Reg.RCK_CTRL_EN = true ∧ a.flag Reg.RCK_STATUS_SOLVING = false ∧ b = a.solveStart cold a.ns) ∧
(∃ (s : State) (a : State) (q : Req) (cold : Bool) (now : Nat), a = s.advance (now * nsUnit) ∧ a.takes 0x81 q ∧ (stRun.contains a.st
    = false ∨ a.flag Reg.RCK_CTRL_EN = false)) ∧
(∃ (s : State) (a : State) (q : Req) (cold : Bool) (now : Nat), a = s.advance (now * nsUnit) ∧ a.takes 0x81 q ∧ stRun.contains a.st
    = true ∧ a.flag Reg.RCK_CTRL_EN = true ∧ a.flag Reg.RCK_STATUS_SOLVING = true) ∧
(∃ (s : State) (a : State) (now : Nat), s.flag Reg.RCK_CTRL_EN = true ∧ s.flag Reg.RCK_CTRL_SOLVE_EN = true ∧ s.solveStates = true ∧
    now % (s.get Reg.RCK_CTRL_SOLVE_PERIOD * 1000000000) = 0 ∧ s.ns ≤ now ∧ a = s.advance (now * nsUnit)) ∧
(∃ (s : State) (a : State) (b : State) (r : SolveResult) (c : RckSolve) (o : Nat) (g : Qp) (t : Solver), s.rck.cur = some c ∧ a =
    s.advance (r.now * nsUnit) ∧ a.solveRun c r = (o, g, t) ∧ b = a.solveShown c r.now g t ∧ o ≠ 0) ∧
(∃ (s : State) (a : State) (b : State) (r : SolveResult) (c : RckSolve) (o : Nat) (g : Qp) (t : Solver) (d : _), s.rck.cur = some c
    ∧ a = s.advance (r.now * nsUnit) ∧ a.solveRun c r = (o, g, t) ∧ b = a.solveShown c r.now g t ∧ o = 0 ∧ d = b.solvePlan c g t) ∧
(∃ (s : State) (now : Nat) (fail : List Nat), s.mayRelease = true ∧ now % s.rckDelta = 0 ∧ s.ns ≤ now) ∧
    (∃ (s : State) (a : State) (b : State) (now : Nat) (fail : List Nat) (low : List RckRec), s.mayRelease = true ∧ (s.releaseMode now).1 ≠ 3 ∧ s.ns ≤ now ∧ a = (gridsOf s.rck.model).foldl (fun s r => s.headroomFault r) (s.advance (now * nsUnit)) ∧ low = ((gridsOf a.rck.model).filter fun n => match a.headroom n, findKey Prod.fst n.id a.rck.released with | some (hr, _), some (_, x, m) => decide (hr + f32v (a.get Reg.RCK_HR_HYST_KW) < x + m) | _, _ => false) ∧ b = low.foldl (fun s n => s.partialRelease now fail n) a) ∧
(∃ (s : State) (slice : Nat) (b : RckBatch) (fail : Bool), s.get (Reg.RCK_BATCH_CTRL_KIB slice) * 512 < 48 + 16 * b.entries.length) ∧
(∃ (s : State) (slice : Nat) (b : RckBatch) (fail : Bool), 48 + 16 * b.entries.length ≤ s.get (Reg.RCK_BATCH_CTRL_KIB slice) * 512 ∧
    (fail = true ∨ s.flag Reg.HIF_LINK_BME = false)) ∧
(∃ (s : State) (a : State) (slice : Nat) (seq : Nat) (half : Nat) (b : RckBatch) (c : RckBatch), 48 + 16 * b.entries.length ≤ s.get
    (Reg.RCK_BATCH_CTRL_KIB slice) * 512 ∧ s.flag Reg.HIF_LINK_BME = true ∧ seq = (findKey Prod.fst slice s.rck.seqs).elim 1 (fun x
    => x.2 % (2 ^ 32 - 1) + 1) ∧ half = (if seq = 1 then 0 else 1 - s.get (Reg.RCK_BATCH_STAT_HALF slice)) ∧ c = { b with slice := slice, half := half, seq := seq }
    ∧ a = ((({ s with rck := { s.rck with seqs := setKey Prod.fst (slice, seq) s.rck.seqs } }.put (Reg.RCK_BATCH_STAT_SEQ slice)
    (seq % 65536)).put (Reg.RCK_BATCH_STAT_HALF slice) half).clearFault 0x1307 slice)) :=
  ⟨⟨cmdOn 0x80 ((st [(0x10, 5)])), req, 0, 0, [], _, _, by decide, by decide, by decide, rfl, rfl⟩,
  ⟨cmdOn 0x80 ((st [(0x10, 5)])), req, 0, 2, 4294967295, .param, [], by decide, by decide, by decide +kernel, by decide⟩,
  ⟨cmdOn 0x80 ((st [(0x10, 5)])), { req with version := 2 }, 0, 0, [], by decide, by decide⟩,
  ⟨cmdOn 0x82 ((st [(0x10, 5)])), { req with version := 2 }, 0, 0, [], by decide, by decide⟩,
  ⟨cmdOn 0x82 ((st [(0x10, 5)])), req, 40, List.replicate 40 0, _, 0, by decide, by decide, rfl, by decide +kernel⟩,
  ⟨cmdOn 0x82 ((st [(0x10, 5)])), req, 1, [], _, by decide, by decide, rfl, by decide, by decide⟩,
  ⟨cmdOn 0x82 ((st [(0x10, 5)])), req, 0, [], _, _, by decide, by decide, rfl, by decide, by decide, by decide, rfl⟩,
  ⟨cmdOn 0x81 ((st [(0x10, 5)]).put Reg.RCK_CTRL_EN 1), _, _, req, true, 0, rfl, by decide, by decide, by decide, by decide, rfl⟩,
  ⟨cmdOn 0x81 ((st [(0x10, 5)])), _, req, true, 0, rfl, by decide, by decide⟩,
  ⟨cmdOn 0x81 (((st [(0x10, 5)]).put Reg.RCK_CTRL_EN 1).put Reg.RCK_STATUS_SOLVING 1), _, req, true, 0, rfl, by decide, by decide,
  by decide, by decide⟩,
  ⟨st [(0x10, 0x5), (0x130010, 0x3)], (st [(0x10, 0x5), (0x130010, 0x3)]).advance (0 * nsUnit), 0, by decide, by decide, by decide,
  by decide, by decide, rfl⟩,
  ⟨stSolve.put Reg.RCK_CFG2_ITER_MAX 0, _, _, result0, solve0, (((stSolve.put Reg.RCK_CFG2_ITER_MAX 0).advance (result0.now *
  nsUnit)).solveRun solve0 result0).1, (((stSolve.put Reg.RCK_CFG2_ITER_MAX 0).advance (result0.now * nsUnit)).solveRun solve0
  result0).2.1, (((stSolve.put Reg.RCK_CFG2_ITER_MAX 0).advance (result0.now * nsUnit)).solveRun solve0 result0).2.2, by decide,
  rfl, triple _, rfl, by decide +kernel⟩,
  ⟨stSolve, _, _, result0, solve0, ((stSolve.advance ((result0).now * nsUnit)).solveRun solve0 (result0)).1, ((stSolve.advance
  ((result0).now * nsUnit)).solveRun solve0 (result0)).2.1, ((stSolve.advance ((result0).now * nsUnit)).solveRun solve0
  (result0)).2.2, _, by decide, rfl, triple _, rfl, by decide +kernel, rfl⟩,
  ⟨stPlan, 0, [], by decide, by decide, by decide⟩,
  ⟨stPlan, stPlan.advance (0 * nsUnit), stPlan.advance (0 * nsUnit), 0, [], [], by decide, by decide, by decide, by decide, by decide,
  by decide⟩,
  ⟨(st [(0x10, 5)]).put (Reg.RCK_BATCH_CTRL_KIB 0) 4, 0, ⟨0, 0, 1, 0, 0, 0, 0, 0, List.replicate 200 (0, 0, 0, 0)⟩, true,
  by decide +kernel⟩,
  ⟨(st [(0x10, 5)]).put (Reg.RCK_BATCH_CTRL_KIB 0) 4, 0, ⟨0, 0, 1, 0, 0, 0, 0, 0, []⟩, true, by decide, by decide⟩,
  ⟨((st [(0x10, 5)]).put Reg.HIF_LINK_BME 1).put (Reg.RCK_BATCH_CTRL_KIB 0) 4, _, 0, _, _, ⟨0, 0, 1, 0, 0, 0, 0, 0, []⟩, _, by decide,
  by decide, rfl, rfl, rfl, rfl⟩⟩

theorem test_hyp_StoreAndTally :
(∃ (s : State) (q : Req) (rev : Revision), s.takes 0x10 q ∧ rev.num ≠ 0 ∧ (q.slice ≠ 0 ∨ s.keyOwn rev.keySlot 0 = false ∨
    s.keyHasUse rev.keySlot useConfig = false)) ∧
(∃ (s : State) (q : Req) (rev : Revision), s.takes 0x10 q ∧ rev.num ≠ 0 ∧ q.slice = 0 ∧ s.keyOwn rev.keySlot 0 = true ∧ s.keyHasUse
    rev.keySlot useConfig = true ∧ ((s.boot.revs.any fun r => r.num == rev.num) = true ∨ 8 ≤ s.boot.revs.length)) ∧
(∃ (s : State) (q : Req) (rev : Revision), s.takes 0x10 q ∧ rev.num ≠ 0 ∧ q.slice = 0 ∧ s.keyOwn rev.keySlot 0 = true ∧ s.keyHasUse
    rev.keySlot useConfig = true ∧ (s.boot.revs.any fun r => r.num == rev.num) = false ∧ s.boot.revs.length < 8) ∧
(∃ (s : State) (q : Req) (rev : Revision), s.takes 0x10 q ∧ rev.num = 0) ∧
(∃ (s : State) (q : Req) (num : Nat), s.takes 0x11 q ∧ (s.boot.revs.any fun r => r.num == num) = false) ∧
(∃ (s : State) (q : Req) (num : Nat), s.takes 0x11 q ∧ (s.boot.revs.any fun r => r.num == num) = true ∧ q.slice ≠ 0) ∧
(∃ (s : State) (q : Req) (num : Nat), s.takes 0x11 q ∧ (s.boot.revs.any fun r => r.num == num) = true ∧ q.slice = 0) ∧
(∃ (s : State) (q : Req) (num : Nat), s.takes 0x12 q ∧ (s.boot.revs.any fun r => r.num == num) = false) ∧
(∃ (s : State) (q : Req) (num : Nat), s.takes 0x12 q ∧ (s.boot.revs.any fun r => r.num == num) = true ∧ q.slice ≠ 0) ∧
(∃ (s : State) (q : Req) (num : Nat), s.takes 0x12 q ∧ (s.boot.revs.any fun r => r.num == num) = true ∧ q.slice = 0) ∧
(∃ (s : State) (q : Req) (i : FwImage), s.takes 0x13 q ∧ i.kind ≠ 1 ∧ i.kind ≠ 3 ∧ i.kind ≠ 4) ∧
(∃ (s : State) (q : Req) (i : FwImage), s.takes 0x13 q ∧ (i.kind = 1 ∨ i.kind = 3 ∨ i.kind = 4) ∧ q.slice ≠ 0) ∧
(∃ (s : State) (q : Req) (i : FwImage), s.takes 0x13 q ∧ (i.kind = 1 ∨ i.kind = 3 ∨ i.kind = 4) ∧ q.slice = 0 ∧ s.imageAccepted i =
    false) ∧
(∃ (s : State) (q : Req) (i : FwImage) (b : _), s.takes 0x13 q ∧ (i.kind = 1 ∨ i.kind = 3 ∨ i.kind = 4) ∧ q.slice = 0 ∧
    s.imageAccepted i = true ∧ b = s.storeImage i) ∧
(∃ (s : State) (b : State) (ok : Bool) (now : Nat) (w : Immediate) (l : List Immediate), s.journal.queue = w :: l ∧ b = ({ s.advance (now * nsUnit) with journal := { s.journal with queue := l } }.put
    Reg.PER_QUEUE_BYTES (min (queueBytes l) 65535)).writeDone w ok) ∧
(∃ (s : State) (a : State) (dur : Nat) (now : Nat) (ok : Bool), a = s.advance (now * nsUnit) ∧ a.boot.detected = none ∧ (stBoot <
    a.st ∨ (a.st = stBoot ∧ 8 ≤ a.get Reg.KPR_BOOT_STAGE)) ∧ (∀ t, a.per.pfwAt = some t → t + 1000000 ≤ now)) ∧
(∃ (s : State) (a : State) (b : State) (c : State) (dur : Nat) (d : Nat) (ok : Bool) (bad : List Violation) (e : _), bad = (if
    s.boot.nrgHeld then s.ledgerAudit else []) ∧ a = (s.countMod Reg.TLY_LAUDITS_COUNT 1).auditDone [5, 6] bad ∧ b =
    State.stateWritten (if ok then { a with bank := some (s.ledgerBank false false (!bad.isEmpty)) } else a) 1 ok ∧ d = min dur
    65535 ∧ c = ((b.countMod Reg.PER_COMMITS_COUNT 1).put Reg.PER_CTIME_LAST d).put Reg.PER_CTIME_MAX (max d (b.get
    Reg.PER_CTIME_MAX)) ∧ e = { c with per := { c.per with busyUntil := s.ns + dur * 1000 } }) ∧
(∃ (s : State) (final : Bool) (pfw : Bool) (tally : Bool) (seq : Nat), seq = (s.get (Reg.PER_SECT_SEQ_SEQ 1) + 1) % 2 ^ 64 ∧
    s.boot.nrgHeld = true) ∧
(∃ (s : State) (a : State) (b : State) (late : List Nat) (qs : List Nat) (bad : List Violation) (n : Nat) (c : _), s.ready = true ∧
    qs = [1, 2, 3, 4, 7].filter (fun q => !late.contains q) ∧ bad = s.strobeAudit.filter (fun v => qs.contains v.1) ∧ a =
    ((s.countMod Reg.TLY_AUDITS_COUNT 1).putFlag Reg.TLY_STATUS_INJ (s.flag Reg.GLB_STATUS_INJECT)).auditDone qs bad ∧ b =
    late.foldl (fun s q => (s.event 175).raiseAt 0x1703 2 q q) { a with per := { a.per with shutDue := a.per.shutDue ++ ((bad.filter fun v => v.1 == 4 && v.2.2.1 == 1).map fun (v : Violation) => v.2.1).filter (fun k => !a.per.shutDue.contains k), serials := a.per.ledger.map fun (e : TokenEntry) => (e.dsid, e.serial) } }
    ∧ n = (if late.isEmpty then b.per.lates + 1 else 0) ∧ c = { b with per := { b.per with lates := n } }) :=
  ⟨⟨cmdOn 0x10 ((st [(0x10, 5)])), req, revision0, by decide, by decide, by decide⟩,
  ⟨keyOn 2 0x1FF (cmdOn 0x10 { (st [(0x10, 5)]) with boot.revs := [revision0] }), req, revision0, by decide, by decide, by decide,
  by decide, by decide, by decide⟩,
  ⟨keyOn 2 0x1FF (cmdOn 0x10 { (st [(0x10, 5)]) with boot.revs := [] }), req, revision0, by decide, by decide, by decide, by decide,
  by decide, by decide, by decide⟩,
  ⟨cmdOn 0x10 ((st [(0x10, 5)])), req, { revision0 with num := 0 }, by decide, by decide⟩,
  ⟨cmdOn 0x11 ((st [(0x10, 5)])), req, 0, by decide, by decide⟩,
  ⟨{ st [(0x10, 5)] with rings := [{ cmdRing 0x11 with slice := 1 }], boot.revs := [revision0] }, { req with slice := 1 }, 3,
  by decide, by decide, by decide⟩,
  ⟨cmdOn 0x11 { (st [(0x10, 5)]) with boot.revs := [revision0] }, req, 3, by decide, by decide, by decide⟩,
  ⟨cmdOn 0x12 ((st [(0x10, 5)])), req, 0, by decide, by decide⟩,
  ⟨{ st [(0x10, 5)] with rings := [{ cmdRing 0x12 with slice := 1 }], boot.revs := [revision0] }, { req with slice := 1 }, 3,
  by decide, by decide, by decide⟩,
  ⟨cmdOn 0x12 { (st [(0x10, 5)]) with boot.revs := [revision0] }, req, 3, by decide, by decide, by decide⟩,
  ⟨cmdOn 0x13 ((st [(0x10, 5)])), req, { kind := 2 }, by decide, by decide, by decide, by decide⟩,
  ⟨{ st [(0x10, 5)] with rings := [{ cmdRing 0x13 with slice := 1 }] }, { req with slice := 1 }, ({} : FwImage), by decide, by decide,
  by decide⟩,
  ⟨cmdOn 0x13 ((st [(0x10, 5)])), req, { digestOk := false }, by decide, by decide, by decide, by decide⟩,
  ⟨cmdOn 0x13 ((st [(0x10, 5)])), req, ({} : FwImage), _, by decide, by decide, by decide, by decide, rfl⟩,
  ⟨{ st [(0x10, 5)] with journal := { State.reset.journal with queue := [.keyLog []] } }, ({ ({ st [(0x10, 5)] with journal := { State.reset.journal with queue := [.keyLog []] } }).advance (0 * nsUnit) with journal := { ({ st [(0x10, 5)] with journal := { State.reset.journal with queue := [.keyLog []] } }).journal with queue := ([]) } }.put
  Reg.PER_QUEUE_BYTES (min (queueBytes ([])) 65535)).writeDone (.keyLog []) true, true, 0, .keyLog [], [], by decide, rfl⟩,
  ⟨{ (st [(0x10, 5)]) with boot.detected := none }, _, 0, 0, true, rfl, by decide, by decide, by decide⟩,
  ⟨(st [(0x10, 5)]), _, _, _, 0, _, true, _, _, rfl, rfl, rfl, rfl, rfl, rfl⟩,
  ⟨{ (st [(0x10, 5)]) with boot.nrgHeld := true }, true, true, true, _, rfl, by decide⟩,
  ⟨(st [(0x10, 5)]), _, _, [], _, _, _, _, by decide, rfl, rfl, rfl, rfl, rfl, rfl⟩⟩

theorem test_hyp_RegisterAccessesAreServed :
(∃ (s : State) (addr : Nat) (bytes : Nat) (data : Word), s.barServed = true ∧ s.mainAbsent = false ∧ addr < 0x200000 ∧ (addr % 4 ≠ 0
    ∨ bytes ≠ 15)) ∧
(∃ (s : State) (addr : Nat) (data : Word), s.barServed = true ∧ s.mainAbsent = false ∧ addr < 0x200000 ∧ addr % 4 = 0 ∧ 0x1A0000 ≤
    addr) ∧
(∃ (s : State) (blk : Nat) (off : Nat) (data : Word), s.barServed = true ∧ s.mainAbsent = false ∧ blk ≤ 25 ∧ (off = 0 ∨ off = 4)) ∧
(∃ (s : State) (blk : Nat) (off : Nat) (k : Nat) (data : Word) (r : RegSpec), s.barServed = true ∧ s.mainAbsent = false ∧ blk ≤ 25 ∧
    0x10 ≤ off ∧ off < 0x10000 ∧ off % 4 = 0 ∧ findSpec off (blockSpecs blk) = some (r, k)) ∧
(∃ (s : State) (blk : Nat) (off : Nat) (k : Nat) (data : Word) (r : RegSpec), (r.fields.any fun f => f.inWord k && f.writable) =
    false ∧ blk ≠ 5) ∧
(∃ (s : State) (blk : Nat) (off : Nat) (k : Nat) (data : Word) (r : RegSpec), (r.fields.any fun f => f.inWord k && f.writable) =
    true ∧ s.placeRo blk off = true) ∧
(∃ (s : State) (blk : Nat) (off : Nat) (k : Nat) (data : Word) (r : RegSpec), (r.fields.any fun f => f.inWord k && f.writable) =
    true ∧ s.placeRo blk off = false ∧ s.st = stBoot) ∧
(∃ (s : State) (blk : Nat) (off : Nat) (k : Nat) (data : Word) (r : RegSpec) (t : _), (r.fields.any fun f => f.inWord k &&
    f.writable) = true ∧ s.placeRo blk off = false ∧ s.st ≠ stBoot ∧ rowWrite blk off data r.fields s = some t) ∧
(∃ (s : State) (blk : Nat) (off : Nat) (k : Nat) (data : Word) (r : RegSpec) (n : _), (r.fields.any fun f => f.inWord k &&
    f.writable) = true ∧ s.placeRo blk off = false ∧ s.st ≠ stBoot ∧ rowWrite blk off data r.fields s = none ∧ s.refusal blk off
    data r k = some n) ∧
(∃ (s : State) (blk : Nat) (off : Nat) (k : Nat) (data : Word) (r : RegSpec), (r.fields.any fun f => f.inWord k && f.writable) =
    true ∧ s.placeRo blk off = false ∧ s.st ≠ stBoot ∧ rowWrite blk off data r.fields s = none ∧ s.refusal blk off data r k = none) ∧
(∃ (s : State) (slice : Nat) (k : Nat) (data : Word), s.barServed = true ∧ s.mainAbsent = false ∧ slice ≤ 255 ∧ k ≤ 63) ∧
(∃ (s : State) (slice : Nat) (k : Nat) (data : Nat) (x : RingRec), s.ready = true ∧ s.localRing slice k = some x) ∧
(∃ (s : State) (a : State) (addr : Nat) (width : Nat) (counts : Nat) (w : Word), s.barServed = true ∧ s.wordRead (addr - addr % 4)
    counts = (a, w)) ∧
(∃ (s : State) (addr : Nat) (counts : Nat), 0x1A0000 ≤ addr ∧ addr < 0x200000) ∧
(∃ (s : State) (addr : Nat) (counts : Nat), 0x200000 ≤ addr) ∧
(∃ (s : State) (blk : Nat) (off : Nat) (counts : Nat), blk ≤ 25 ∧ off < 0x10) ∧
(∃ (s : State) (blk : Nat) (off : Nat) (o : Nat) (counts : Nat), blk ≤ 25 ∧ blk ≠ 4 ∧ blk ≠ 5 ∧ blk ≠ 20 ∧ 0x10 ≤ off ∧ off <
    0x10000 ∧ o = shadowOf blk off ∧ findSpec o (blockSpecs blk) = none) ∧
(∃ (s : State) (blk : Nat) (off : Nat) (o : Nat) (counts : Nat) (r : _) (k : _), blk ≤ 25 ∧ blk ≠ 4 ∧ blk ≠ 5 ∧ blk ≠ 20 ∧ 0x10 ≤
    off ∧ off < 0x10000 ∧ o = shadowOf blk off ∧ findSpec o (blockSpecs blk) = some (r, k) ∧ o ≠ off ∧ r.isT = false) ∧
(∃ (s : State) (blk : Nat) (off : Nat) (o : Nat) (counts : Nat) (r : _) (k : _), blk ≤ 25 ∧ blk ≠ 4 ∧ blk ≠ 5 ∧ blk ≠ 20 ∧ 0x10 ≤
    off ∧ off < 0x10000 ∧ o = shadowOf blk off ∧ findSpec o (blockSpecs blk) = some (r, k) ∧ (o = off ∨ r.isT = true)) ∧
(∃ (s : State) (a : Nat) (o : Nat) (k : Nat) (b : Nat) (v : Word) (r : RegSpec), findKey Prod.fst a s.hiLatch = some (b, v)) ∧
(∃ (s : State) (t : State) (a : Nat) (o : Nat) (k : Nat) (r : RegSpec), findKey Prod.fst a s.hiLatch = none ∧ (t = (if (r.words = 2
    ∧ k = 0) ∨ lowOfPair (a / 0x10000) o = true then { s with hiLatch := setKey Prod.fst (a + 4, s.view (a + 4)) s.hiLatch } else
    s))) :=
  ⟨⟨(st [(0x10, 5)]), 0, 0, (0 : Word), by decide, by decide, by decide, by decide⟩,
  ⟨(st [(0x10, 5)]), 1703936, (0 : Word), by decide, by decide, by decide, by decide, by decide⟩,
  ⟨(st [(0x10, 5)]), 0, 0, (0 : Word), by decide, by decide, by decide, by decide⟩,
  ⟨(st [(0x10, 5)]), 0, 16, 0, (0 : Word), _, by decide, by decide, by decide, by decide, by decide, by decide, rfl⟩,
  ⟨(st [(0x10, 5)]), 0, 0, 0, (0 : Word), specAt 0 0x10, by decide, by decide⟩,
  ⟨(st [(0x10, 5)]), 3, 0x1004, 0, (0 : Word), specAt 3 0x1004, by decide, by decide⟩,
  ⟨(st [(0x10, 3)]), 14, 0x14, 0, (0 : Word), specAt 14 0x14, by decide, by decide, by decide⟩,
  ⟨(st [(0x10, 5)]), 7, 0x100, 0, 0x40000000, specAt 7 0x100, _, by decide, by decide, by decide, rfl⟩,
  ⟨(st [(0x10, 5)]).wr 0xe0010 1, 14, 0x14, 0, (0 : Word), specAt 14 0x14, 0, by decide, by decide, by decide, by decide, by decide⟩,
  ⟨(st [(0x10, 5)]), 14, 0x14, 0, (0 : Word), specAt 14 0x14, by decide, by decide, by decide, by decide, by decide⟩,
  ⟨(st [(0x10, 5)]), 0, 0, (0 : Word), by decide, by decide, by decide, by decide⟩,
  ⟨{ st [(0x10, 0x5), (0x21008, 0x80000000)] with rings := [ring0] }, 0, 0, 0, ring0, by decide, by decide⟩,
  ⟨(st [(0x10, 5)]), _, 0, 0, 0, _, by decide, rfl⟩,
  ⟨(st [(0x10, 5)]), 1703936, 0, by decide, by decide⟩,
  ⟨(st [(0x10, 5)]), 2097152, 0, by decide⟩,
  ⟨(st [(0x10, 5)]), 0, 0, 0, by decide, by decide⟩,
  ⟨(st [(0x10, 5)]), 0, 0x7000, _, 0, by decide, by decide, by decide, by decide, by decide, by decide, rfl, by decide⟩,
  ⟨(st [(0x10, 5)]), 0, 0x8010, _, 0, specAt 0 0x10, 0, by decide, by decide, by decide, by decide, by decide, by decide, rfl,
  by decide, by decide, by decide⟩,
  ⟨(st [(0x10, 5)]), 0, 16, _, 0, _, _, by decide, by decide, by decide, by decide, by decide, by decide, rfl, rfl, by decide⟩,
  ⟨{ (st [(0x10, 5)]) with hiLatch := [(0x2002c, 7)] }, 0x2002c, 0, 0, 0x2002c, 7, specAt 2 0x2c, by decide⟩,
  ⟨(st [(0x10, 5)]), _, 0x20028, 0x28, 0, specAt 2 0x28, by decide, rfl⟩⟩

end Sys2Proof.Tests
end

/-! SUPPORT. Commits of T-class fields: where the shadows of a block stand, and what a discard reads and leaves (R46, R56, R58). -/

namespace Sys2Proof.Machine

/-! ### Where shadows stand (R46) -/

/-- The largest distance on a grid of index dimensions. -/
def gridSpan : List (Nat × Nat) → Nat
  | [] => 0
  | (c, st) :: ds => (c - 1) * st + gridSpan ds

theorem le_gridSpan {ds : List (Nat × Nat)} {d : Nat} (h : onGrid ds d = true) : d ≤ gridSpan ds := by
  induction ds generalizing d with
  | nil => simpa [onGrid, gridSpan] using h
  | cons x ds ih =>
    obtain ⟨c, st⟩ := x
    simp only [onGrid, Bool.and_eq_true, decide_eq_true_eq] at h
    obtain ⟨hlt, hrest⟩ := h
    have hidx : st * (d / st) ≤ (c - 1) * st := by
      rw [Nat.mul_comm]; exact Nat.mul_le_mul_right _ (by omega)
    calc d = st * (d / st) + d % st := (Nat.div_add_mod d st).symm
      _ ≤ (c - 1) * st + gridSpan ds := Nat.add_le_add hidx (ih hrest)

/-- The register found at an offset is listed, and its word k stands there: on the register's grid, 4 k bytes after its offset. -/
theorem findSpec_some {off : Nat} {rs : List RegSpec} {r : RegSpec} {k : Nat} (h : findSpec off rs = some (r, k)) :
    r ∈ rs ∧ (k = 0 ∨ k = 1 ∧ r.words = 2) ∧ r.off + 4 * k ≤ off ∧ onGrid r.dims (off - r.off - 4 * k) = true := by
  induction rs with
  | nil => cases h
  | cons x rs ih =>
    simp only [findSpec, Bool.and_eq_true, decide_eq_true_eq] at h
    split at h
    · next hx =>
      obtain ⟨rfl, rfl⟩ := Prod.mk.inj (Option.some.inj h)
      exact ⟨List.mem_cons_self, .inl rfl, hx⟩
    · split at h
      · next hx =>
        obtain ⟨⟨hw, hle⟩, hg⟩ := hx
        obtain ⟨rfl, rfl⟩ := Prod.mk.inj (Option.some.inj h)
        exact ⟨List.mem_cons_self, .inr ⟨rfl, hw⟩, hle, hg⟩
      · exact (ih h).imp_left (List.mem_cons_of_mem _)

/-- A shadow address is a word of a T-class register of its block. -/
theorem isShadowAddr_iff (a : Nat) :
    isShadowAddr a = true ↔ ∃ r k, findSpec (a % 0x10000) (blockSpecs (a / 0x10000)) = some (r, k) ∧ r.isT = true := by
  simp [isShadowAddr, Option.any_eq_true]

/-- MAC has one T-class register, FC_MARK of each port. -/
theorem isT_mac : ∀ r ∈ blockSpecs 6, r.isT = true → r.off = 0x1018 ∧ r.dims = [(12, 0x1000)] ∧ r.words = 1 := by
  decide

/-- The T-class registers of the other blocks stand in the lower half of their block. -/
theorem isT_below_half {blk : Nat} (hb : blk ≠ 6) : ∀ r ∈ blockSpecs blk, r.isT = true → r.off + gridSpan r.dims + 4 < 0x8000 := by
  have hlisted : ∀ b < 26, b ≠ 6 → ∀ r ∈ blockSpecs b, r.isT = true → r.off + gridSpan r.dims + 4 < 0x8000 := by decide
  by_cases h : blk < 26
  · exact hlisted blk h hb
  · obtain ⟨n, rfl⟩ := Nat.exists_eq_add_of_le' (Nat.not_lt.1 h)
    have hnone : blockSpecs (n + 26) = [] := rfl
    simp [hnone]

theorem isShadowAddr_mac {a : Nat} (hb : a / 0x10000 = 6) (h : isShadowAddr a = true) : a % 0x1000 = 0x18 := by
  obtain ⟨r, k, hf, ht⟩ := (isShadowAddr_iff a).1 h
  obtain ⟨hr, hk, hle, hg⟩ := findSpec_some hf
  obtain ⟨hoff, hdims, hwords⟩ := isT_mac r (hb ▸ hr) ht
  simp only [hdims, onGrid, Bool.and_eq_true, beq_iff_eq] at hg
  omega

theorem isShadowAddr_below_half {a : Nat} (hb : a / 0x10000 ≠ 6) (h : isShadowAddr a = true) : a % 0x10000 < 0x8000 := by
  obtain ⟨r, k, hf, ht⟩ := (isShadowAddr_iff a).1 h
  obtain ⟨hr, hk, hle, hg⟩ := findSpec_some hf
  have hspan := le_gridSpan hg
  have htop := isT_below_half hb r hr ht
  omega

/-- The active view of a shadow is no shadow. -/
theorem isShadowAddr_activeAddr {a : Nat} (h : isShadowAddr a = true) : isShadowAddr (activeAddr a) = false := by
  rw [← Bool.not_eq_true]
  intro hact
  unfold activeAddr at hact
  split at hact
  · next hb =>
    have := isShadowAddr_mac hb h
    have := isShadowAddr_mac (by omega) hact
    omega
  · next hb =>
    have := isShadowAddr_below_half hb h
    have := isShadowAddr_below_half (by omega) hact
    omega

/-! ### The shadows that a state lists (R56) -/

/-- A write lists no address but its own. -/
theorem State.mem_regs_wr {s : State} {a : Nat} {w : Word} {p : Nat × Word} (h : p ∈ (s.wr a w).regs) : p.1 = a ∨ p ∈ s.regs := by
  simp only [State.wr, wrList] at h
  split at h
  · exact .inr (List.mem_filter.1 h).1
  · exact (mem_insList h).imp_left (congrArg Prod.fst)

/-- The shadow that an address stands for: itself, or the shadow of an active view. -/
def shadowFor (a : Nat) : Option Nat := if isShadowAddr a then some a else shadowAddr a

theorem isShadowAddr_of_shadowAddr {a b : Nat} (h : shadowAddr a = some b) : isShadowAddr b = true := by
  simp only [shadowAddr, Option.ite_none_right_eq_some, Bool.and_eq_true] at h
  obtain ⟨⟨-, hb⟩, he⟩ := h
  exact Option.some.inj he ▸ hb

theorem isShadowAddr_of_shadowFor {a b : Nat} (h : shadowFor a = some b) : isShadowAddr b = true := by
  unfold shadowFor at h
  split at h
  · next ha => exact Option.some.inj h ▸ ha
  · exact isShadowAddr_of_shadowAddr h

/-- A block's shadows are those that a listed word of the block or a word of a captured commit of the block stands for. -/
theorem State.mem_shadowsOf (s : State) (blk a : Nat) : a ∈ s.shadowsOf blk ↔
    (∃ p ∈ s.regs, p.1 / 0x10000 = blk ∧ shadowFor p.1 = some a) ∨
      ∃ c ∈ s.commits, c.block = blk ∧ ∃ x ∈ c.words, shadowAddr x.1 = some a := by
  simp [State.shadowsOf, shadowFor, and_assoc]

theorem State.isShadowAddr_of_mem_shadowsOf {s : State} {blk a : Nat} (h : a ∈ s.shadowsOf blk) : isShadowAddr a = true := by
  rcases (s.mem_shadowsOf blk a).1 h with ⟨_, _, _, hp⟩ | ⟨_, _, _, _, _, hx⟩
  · exact isShadowAddr_of_shadowFor hp
  · exact isShadowAddr_of_shadowAddr hx

/-- A write to a shadow lists no shadow but its own. -/
theorem State.mem_shadowsOf_wr {s : State} {blk a c : Nat} {w : Word} (hc : isShadowAddr c = true) (h : a ∈ (s.wr c w).shadowsOf blk) :
    a = c ∨ a ∈ s.shadowsOf blk := by
  rw [State.mem_shadowsOf] at h ⊢
  rcases h with ⟨p, hp, hblk, hfor⟩ | hheld
  · rcases State.mem_regs_wr hp with hpc | hp
    · simp only [shadowFor, hpc, hc, if_true, Option.some.injEq] at hfor
      exact .inl hfor.symm
    · exact .inr (.inl ⟨p, hp, hblk, hfor⟩)
  · exact .inr (.inr hheld)

/-! ### A reload of shadows from their active views (R58) -/

/-- Each address of a list takes the word of its active view. -/
def State.reload (s : State) (l : List Nat) : State := l.foldl (fun (s : State) a => s.wr a (s.rd (activeAddr a))) s

theorem State.discardBlock_eq_reload (s : State) (blk : Nat) : s.discardBlock blk = s.reload (s.shadowsOf blk) := rfl

theorem State.reload_cons (s : State) (x : Nat) (l : List Nat) : s.reload (x :: l) = (s.wr x (s.rd (activeAddr x))).reload l := rfl

theorem State.reload_commits (s : State) (l : List Nat) : (s.reload l).commits = s.commits := by
  induction l generalizing s with
  | nil => rfl
  | cons x l ih => rw [s.reload_cons, ih, State.wr_commits]

theorem State.rd_reload_of_notMem (s : State) {l : List Nat} {a : Nat} (h : a ∉ l) : (s.reload l).rd a = s.rd a := by
  induction l generalizing s with
  | nil => rfl
  | cons x l ih =>
    obtain ⟨hx, hl⟩ := not_or.1 (mt List.mem_cons.2 h)
    rw [s.reload_cons, ih _ hl, s.rd_wr_ne _ hx]

/-- A shadow reloaded reads its active view as it was: no write of the reload meets an active view. -/
theorem State.rd_reload_of_mem (s : State) {l : List Nat} {a : Nat} (hl : ∀ c ∈ l, isShadowAddr c = true) (h : a ∈ l) :
    (s.reload l).rd a = s.rd (activeAddr a) := by
  induction l generalizing s with
  | nil => cases h
  | cons x l ih =>
    obtain ⟨hx, hrest⟩ := List.forall_mem_cons.1 hl
    rw [s.reload_cons]
    by_cases ha : a ∈ l
    · have hne : activeAddr a ≠ x := by
        intro e
        have := isShadowAddr_activeAddr (hl a h)
        rw [e, hx] at this
        cases this
      rw [ih _ hrest ha, s.rd_wr_ne _ hne]
    · obtain rfl : a = x := (List.mem_cons.1 h).resolve_right ha
      rw [State.rd_reload_of_notMem _ ha, State.rd_wr]

theorem State.mem_shadowsOf_reload {s : State} {l : List Nat} {blk a : Nat} (hl : ∀ c ∈ l, isShadowAddr c = true)
    (h : a ∈ (s.reload l).shadowsOf blk) : a ∈ l ∨ a ∈ s.shadowsOf blk := by
  induction l generalizing s with
  | nil => exact .inr h
  | cons x l ih =>
    obtain ⟨hx, hrest⟩ := List.forall_mem_cons.1 hl
    rcases ih hrest h with hmem | hmem
    · exact .inl (List.mem_cons_of_mem _ hmem)
    · exact (State.mem_shadowsOf_wr hx hmem).imp_left fun e => List.mem_cons.2 (.inl e)

/-! ### BLOCK_COMMIT (R56, R58) -/

theorem State.discardBlock_commits (s : State) (blk : Nat) : (s.discardBlock blk).commits = s.commits := s.reload_commits _

theorem State.rd_discardBlock {s : State} {blk a : Nat} (h : a ∈ s.shadowsOf blk) : (s.discardBlock blk).rd a = s.rd (activeAddr a) :=
  s.rd_reload_of_mem (fun _ => State.isShadowAddr_of_mem_shadowsOf) h

/-- A discard lists no new shadow. -/
theorem State.mem_shadowsOf_discardBlock {s : State} {blk a : Nat} (h : a ∈ (s.discardBlock blk).shadowsOf blk) : a ∈ s.shadowsOf blk :=
  or_self_iff.1 (State.mem_shadowsOf_reload (fun _ => State.isShadowAddr_of_mem_shadowsOf) h)

/-- After a discard a block's set is its active values. -/
theorem State.captureWords_discardBlock {s : State} {blk : Nat} {p : Nat × Word} (h : p ∈ (s.discardBlock blk).captureWords blk) :
    p.2 = s.rd p.1 := by
  obtain ⟨a, ha, rfl⟩ := List.mem_map.1 h
  exact State.rd_discardBlock (State.mem_shadowsOf_discardBlock ha)

/-- Outside BOOT a write to BLOCK_COMMIT of a block with T-class fields acts. -/
theorem State.commitWrite_acts {s : State} {blk : Nat} (act : State → State) (hst : s.st ≠ stBoot) (hready : s.ready = true)
    (hblk : blk ∈ tBlocks) : s.commitWrite blk act = act s := by
  simp [State.commitWrite, hst, hready, hblk]

/-- Settles O17: no active view of a shadow is itself a shadow, so the reload of a block's shadows reads only words it does not write. -/
theorem blockCommitActs : Obligations.BlockCommitActs := by
  unfold Obligations.BlockCommitActs
  refine ⟨fun s blk hst hready hblk => ?discard, fun s blk hst hready hblk => ?both, fun s blk hst hready hblk => ?commit,
    State.discardBlock_commits, fun _ _ _ => State.rd_discardBlock, fun _ _ _ => State.captureWords_discardBlock⟩
  case discard => rw [exec_blockDiscardWrite, blockDiscardWrite, State.commitWrite_acts _ hst hready hblk]
  case both => rw [exec_blockCommitWrite, blockCommitWrite, State.commitWrite_acts _ hst hready hblk, if_pos rfl]
  case commit =>
    rw [exec_blockCommitWrite, blockCommitWrite, State.commitWrite_acts _ hst hready hblk, if_neg Bool.false_ne_true]

end Sys2Proof.Machine

/-! SUPPORT. Doorbells: what a saturating counter, an ignored doorbell and back-pressure leave in the registers, and what a doorbell
does on each kind of ring (R135, R152). -/

namespace Sys2Proof.Machine

/-! ### Counters and index differences -/

theorem State.get_lt (s : State) {f : Field} (hf : f.lo + f.width ≤ 32) : s.get f < 2 ^ f.width := by
  rw [s.get_eq hf]; exact Word.field_lt _ _ _

/-- A saturating counter reads its sum, cut off at its top. -/
theorem State.get_countFor_same (s : State) (slice k : Nat) {f : Field} (hf : f.lo + f.width ≤ 32) :
    (s.countFor slice f k).get f = min (s.get f + k) (2 ^ f.width - 1) := by
  have hlt := s.get_lt hf
  unfold State.countFor State.postSaturated
  dsimp only
  split
  · next htop => omega
  · split
    · next hbelow => rw [State.get_put _ _ hf, Nat.mod_eq_of_lt (by omega)]; omega
    · next hreach =>
      rw [State.post, State.get_of_fields, State.get_put _ _ hf, Nat.mod_eq_of_lt (by omega)]; omega

theorem State.get_count_same (s : State) {f : Field} (hf : f.lo + f.width ≤ 32) :
    (s.count f).get f = min (s.get f + 1) (2 ^ f.width - 1) := s.get_countFor_same 0 1 hf

/-- The subtrahend of an index difference is a 16-bit index as it stands. -/
theorem idx16_of_lt (a : Nat) {b : Nat} (hb : b < 65536) : idx16 a b = (a + 65536 - b) % 65536 := by
  rw [idx16, Nat.mod_eq_of_lt hb]

theorem ringPtrMod_fits (r : Nat) : (Reg.HIF_RING_PTR_MOD r).lo + (Reg.HIF_RING_PTR_MOD r).width ≤ 32 := Nat.le_refl 32

theorem ringPtrHost_fits (r : Nat) : (Reg.HIF_RING_PTR_HOST r).lo + (Reg.HIF_RING_PTR_HOST r).width ≤ 32 := Nat.le_add_left 16 16

theorem ringRstatBp_fits (r : Nat) : (Reg.HIF_RING_RSTAT_BP r).lo + (Reg.HIF_RING_RSTAT_BP r).width ≤ 32 := Nat.le_add_left 3 29

theorem State.ringPtrMod_lt (s : State) (r : Nat) : s.get (Reg.HIF_RING_PTR_MOD r) < 65536 := s.get_lt (ringPtrMod_fits r)

theorem State.ringPtrHost_lt (s : State) (r : Nat) : s.get (Reg.HIF_RING_PTR_HOST r) < 65536 := s.get_lt (ringPtrHost_fits r)

/-! ### An ignored doorbell -/

@[simp] theorem State.dbBad_rings (s : State) (r : Nat) : (s.dbBad r).rings = s.rings := by simp [State.dbBad]

/-- An ignored doorbell writes HIF.DB_BAD, the flag of source 182 and MSI-X state. -/
theorem State.get_dbBad (s : State) (r : Nat) {f : Field} (hf : f.lo + f.width ≤ 32) (hbad : f.addr ≠ 0x2001C)
    (hflag : f.addr ≠ 0x20014) (h4 : f.addr < 0x400000) : (s.dbBad r).get f = s.get f := by
  rw [State.dbBad, State.get_eventIf _ _ 182 hf hflag h4, State.get_count _ (by decide) hf (.inl hbad),
    s.get_put_addr _ (by decide) hf hbad]

theorem State.get_dbBad_ring (s : State) {r : Nat} (hr : r ≤ 1023) : (s.dbBad r).get Reg.HIF_DB_BAD_RING = r := by
  rw [State.dbBad, State.get_eventIf _ _ _ (by decide) (by decide) (by decide),
    State.get_count _ (by decide) (by decide) (by decide), s.get_put _ (by decide)]
  exact Nat.mod_eq_of_lt (Nat.lt_succ_of_le hr)

theorem State.get_dbBad_count (s : State) (r : Nat) :
    (s.dbBad r).get Reg.HIF_DB_BAD_COUNT = min (s.get Reg.HIF_DB_BAD_COUNT + 1) 65535 := by
  rw [State.dbBad, State.get_eventIf _ _ _ (by decide) (by decide) (by decide), State.get_count_same _ (by decide),
    s.get_put_apart _ (by decide) (by decide) (by decide)]
  rfl

/-! ### An accepted doorbell -/

/-- Back-pressure stays, or its bit of the ring's status is written. -/
theorem State.backPressure_cases (s : State) (x : RingRec) :
    s.backPressure x = s ∨ ∃ v, s.backPressure x = s.put (Reg.HIF_RING_RSTAT_BP x.ring) v := by
  unfold State.backPressure
  dsimp only
  split
  · exact .inl rfl
  · split
    · exact .inr ⟨1, rfl⟩
    · split
      · exact .inr ⟨0, rfl⟩
      · exact .inl rfl

@[simp] theorem State.backPressure_rings (s : State) (x : RingRec) : (s.backPressure x).rings = s.rings := by
  obtain h | ⟨v, h⟩ := s.backPressure_cases x <;> simp [h]

theorem State.get_backPressure (s : State) (x : RingRec) {f : Field} (hf : f.lo + f.width ≤ 32)
    (h : f.addr ≠ (Reg.HIF_RING_RSTAT_BP x.ring).addr) : (s.backPressure x).get f = s.get f := by
  obtain e | ⟨v, e⟩ := s.backPressure_cases x
  · rw [e]
  · rw [e, s.get_put_addr v (ringRstatBp_fits x.ring) hf h]

/-- A doorbell of 16 bits on an enabled ring of a module that takes commands. -/
theorem doorbell_eq {s : State} {slice k new : Nat} {x : RingRec} (hready : s.ready = true) (hnew : new < 65536)
    (hring : s.localRing slice k = some x) :
    doorbell slice k new s =
      if new = s.get (Reg.HIF_RING_PTR_HOST x.ring) then s
      else if x.type = 3 then
        if (new + 65536 - s.get (Reg.HIF_RING_PTR_HOST x.ring)) % 65536 ≤
            (s.get (Reg.HIF_RING_PTR_MOD x.ring) + 65536 - s.get (Reg.HIF_RING_PTR_HOST x.ring)) % 65536
        then (s.put (Reg.HIF_RING_PTR_HOST x.ring) new).evqFlush x.ring 18
        else s.dbBad x.ring
      else if (new + 65536 - s.get (Reg.HIF_RING_PTR_MOD x.ring)) % 65536 ≤ 2 ^ x.log2size ∧
          (new + 65536 - s.get (Reg.HIF_RING_PTR_HOST x.ring)) % 65536 ≤
            (new + 65536 - s.get (Reg.HIF_RING_PTR_MOD x.ring)) % 65536
      then (s.put (Reg.HIF_RING_PTR_HOST x.ring) new).backPressure x
      else s.dbBad x.ring := by
  have hhi : new / 65536 = 0 := Nat.div_eq_of_lt hnew
  simp [doorbell, hring, hready, hhi, Nat.mod_eq_of_lt hnew, idx16_of_lt _ (s.ringPtrMod_lt x.ring),
    idx16_of_lt _ (s.ringPtrHost_lt x.ring)]

/-- An accepted producer index stands in the ring's pointer word, beside the module's own index. -/
theorem State.get_acceptProducer (s : State) (x : RingRec) {new : Nat} (hnew : new < 65536) :
    ((s.put (Reg.HIF_RING_PTR_HOST x.ring) new).backPressure x).get (Reg.HIF_RING_PTR_HOST x.ring) = new ∧
      ((s.put (Reg.HIF_RING_PTR_HOST x.ring) new).backPressure x).get (Reg.HIF_RING_PTR_MOD x.ring) =
        s.get (Reg.HIF_RING_PTR_MOD x.ring) := by
  have hne : 0x25000 + 8 * x.ring ≠ 0x25004 + 8 * x.ring := by omega
  constructor
  · rw [State.get_backPressure _ x (ringPtrHost_fits x.ring) hne, s.get_put new (ringPtrHost_fits x.ring)]
    exact Nat.mod_eq_of_lt hnew
  · rw [State.get_backPressure _ x (ringPtrMod_fits x.ring) hne,
      s.get_put_apart new (ringPtrHost_fits x.ring) (ringPtrMod_fits x.ring) (.inr (Nat.le_refl 16))]

theorem State.dbBadCount_acceptProducer (s : State) (x : RingRec) (new : Nat) :
    ((s.put (Reg.HIF_RING_PTR_HOST x.ring) new).backPressure x).get Reg.HIF_DB_BAD_COUNT = s.get Reg.HIF_DB_BAD_COUNT := by
  have hstat : 0x2001C ≠ 0x25004 + 8 * x.ring := by omega
  have hptr : 0x2001C ≠ 0x25000 + 8 * x.ring := by omega
  have hf : Reg.HIF_DB_BAD_COUNT.lo + Reg.HIF_DB_BAD_COUNT.width ≤ 32 := by decide
  rw [State.get_backPressure _ x hf hstat, s.get_put_addr new (ringPtrHost_fits x.ring) hf hptr]

/-- Settles O30: a doorbell's three outcomes on a host-produced ring write the ring's pointer and status words or HIF.DB_BAD, which
stand apart; on an EVQ ring the statement is `doorbell_eq`. -/
theorem doorbellIndicesAreChecked : Obligations.DoorbellIndicesAreChecked := by
  unfold Obligations.DoorbellIndicesAreChecked
  refine ⟨fun s slice k new x hready hnew hring hr htype => ?producer, fun s slice k new x hready hnew hring _ htype => ?consumer⟩
  case consumer => rw [exec_doorbell, doorbell_eq hready hnew hring, if_pos htype]
  case producer =>
    rw [exec_doorbell, doorbell_eq hready hnew hring, if_neg htype]
    refine ⟨_, rfl, ?_⟩
    dsimp only
    split
    · exact ⟨rfl, rfl, rfl⟩
    · split
      · obtain ⟨hhost, hmod⟩ := s.get_acceptProducer x hnew
        exact ⟨by simp, hmod, hhost, s.dbBadCount_acceptProducer x new⟩
      · have hbad : 0x25000 + 8 * x.ring ≠ 0x2001C := by omega
        have hflag : 0x25000 + 8 * x.ring ≠ 0x20014 := by omega
        have h4 : 0x25000 + 8 * x.ring < 0x400000 := by omega
        exact ⟨s.dbBad_rings x.ring, s.get_dbBad x.ring (ringPtrMod_fits x.ring) hbad hflag h4,
          s.get_dbBad x.ring (ringPtrHost_fits x.ring) hbad hflag h4, s.get_dbBad_count x.ring, s.get_dbBad_ring hr⟩

end Sys2Proof.Machine

/-! SUPPORT. The register store stays canonical: each operation of the model writes registers only through `State.wr` or drops listed
words, so it keeps the canonical form; the operations stand in the order of the model, and after them every command. -/

namespace Sys2Proof.Machine

/-! ### The canonical form as a predicate of the state -/

/-- The register store is canonical (`State.wf`), as a definition that the lemmas below do not unfold. -/
def State.Canon (s : State) : Prop := s.wf

/-- Fields beside the registers do not matter. -/
theorem canon_of_fields {s : State} {b0 b1 b2 b3 b4 b5 b6 b7 b8 b9 b10 b11 b12 b13 b14 b15 b16 b17 b18 b19 b20 b21 b22 b23 b24 b25 b26 b27 b28 b29 b30 b31 b32 b33 b34 b35 b36 b37} (h : s.Canon) :
    ({ s with pending := b0, hiLatch := b1, time := b2, timeRun := b3, outbox := b4, freeCtr := b5, evqPosted := b6, faults := b7, tg := b8, commits := b9, rings := b10, multi := b11, pair := b12, inj := b13, journal := b14, boot := b15, tim := b16, slots := b17, core := b18, cle := b19, svi := b20, pub := b21, mod := b22, adc := b23, per := b24, ho := b25, rtc := b26, swc := b27, macs := b28, mbs := b29, sliceOp := b30, keys := b31, aqe := b32, nrg := b33, lce := b34, rck := b35, bank := b36, dram := b37 } : State).Canon := h

theorem canon_of_filter {s t : State} {p : Nat × Word → Bool} (e : t.regs = s.regs.filter p) (h : s.Canon) : t.Canon := by
  unfold State.Canon State.wf; rw [e]; exact filter_wf p h

theorem ite_canon {c : Prop} [Decidable c] {a b : State} (ha : a.Canon) (hb : b.Canon) : (if c then a else b).Canon := by
  split
  · exact ha
  · exact hb

theorem elim_canon {α : Type} {x : Option α} {s : State} {f : α → State} (h : s.Canon) (hf : ∀ a, (f a).Canon) : (x.elim s f).Canon := by
  cases x with
  | none => exact h
  | some a => exact hf a

theorem foldl_canon {α : Type} {f : State → α → State} {l : List α} {s : State} (h : s.Canon) (hf : ∀ s, s.Canon → ∀ x, (f s x).Canon) :
    (l.foldl f s).Canon := by
  induction l generalizing s with
  | nil => exact h
  | cons x l ih => exact ih (hf s h x)

/-- A fold that carries a value beside the state. -/
theorem foldl_fst_canon {α β : Type} {f : State × β → α → State × β} {l : List α} {p : State × β} (h : p.1.Canon)
    (hf : ∀ p, p.1.Canon → ∀ x, (f p x).1.Canon) : (l.foldl f p).1.Canon := by
  induction l generalizing p with
  | nil => exact h
  | cons x l ih => exact ih (hf p h x)

theorem canon_fst {α : Type} {p : State × α} {s : State} {a : α} (e : p = (s, a)) (h : p.1.Canon) : s.Canon := by rw [e] at h; exact h

theorem canon_snd {α : Type} {p : α × State} {s : State} {a : α} (e : p = (a, s)) (h : p.2.Canon) : s.Canon := by rw [e] at h; exact h

theorem none_canon : ∀ t, (none : Option State) = some t → t.Canon := fun _ e => nomatch e

theorem some_canon {s : State} (h : s.Canon) : ∀ t, some s = some t → t.Canon := fun _ e => Option.some.inj e ▸ h

theorem ite_some_canon {c : Prop} [Decidable c] {a b : Option State} (ha : ∀ t, a = some t → t.Canon) (hb : ∀ t, b = some t → t.Canon) :
    ∀ t, (if c then a else b) = some t → t.Canon := by
  split
  · exact ha
  · exact hb

/-! ### The operations -/

section
variable {s : State} (h : s.Canon)
include h

theorem State.wr_canon {a : Nat} {w : Word} : (s.wr a w).Canon := State.wr_wf a w h
theorem State.put_canon {f : Field} {v : Nat} : (s.put f v).Canon := State.put_wf f v h
theorem State.putFlag_canon {f : Field} {b : Bool} : (s.putFlag f b).Canon := State.putFlag_wf f b h
theorem State.countMod_canon {f : Field} {k : Nat} : (s.countMod f k).Canon := State.countMod_wf f k h
theorem State.reject_canon {blk off reason : Nat} : (s.reject blk off reason).Canon := State.reject_wf blk off reason h
theorem State.countFor_canon {slice : Nat} {f : Field} {k : Nat} : (s.countFor slice f k).Canon := State.countFor_wf slice f k h
theorem State.countBy_canon {f : Field} {k : Nat} : (s.countBy f k).Canon := State.countBy_wf f k h
theorem State.count_canon {f : Field} : (s.count f).Canon := State.count_wf f h
theorem State.badAccess_canon {kind a : Nat} : (s.badAccess kind a).Canon := State.badAccess_wf kind a h
theorem State.signal_canon {v : Nat} : (s.signal v).Canon := State.signal_wf v h
theorem State.event_canon {i : Nat} : (s.event i).Canon := State.event_wf i h
theorem State.eventIf_canon {c : Bool} {i : Nat} : (s.eventIf c i).Canon := State.eventIf_wf c i h
theorem State.journalAdd_canon {e : JEntry} : (s.journalAdd e).Canon := State.journalAdd_wf e h
theorem State.pairSend_canon {tick : Nat} {b : PairBody} : (s.pairSend tick b).Canon := State.pairSend_wf tick b h
theorem State.refreshHealth_canon : s.refreshHealth.Canon := State.refreshHealth_wf h
theorem State.report_canon {r : FaultRec} : (s.report r).Canon := State.report_wf r h
theorem State.raiseRecord_canon {code cls inst slice detail : Nat} : (s.raiseRecord code cls inst slice detail).Canon :=
  State.raiseRecord_wf code cls inst slice detail h

end

theorem State.emit_canon {s : State} {o : Output} (h : s.Canon) : (s.emit o).Canon := by
  unfold State.emit
  exact canon_of_fields h

theorem State.dmaOut_canon {s : State} {slice : Nat} {d : Dma} (h : s.Canon) : (s.dmaOut slice d).Canon := by
  unfold State.dmaOut
  exact ite_canon (State.emit_canon h) h

theorem State.answer_canon {s : State} {q : Req} {d : Dma} (h : s.Canon) : (s.answer q d).Canon := by
  unfold State.answer
  exact ite_canon (State.dmaOut_canon h) (State.emit_canon h)

theorem State.drawn_canon {s : State} (h : s.Canon) : (s.drawn).Canon := by
  unfold State.drawn
  exact canon_of_fields h

theorem State.advance_canon {s : State} {t : Nat} (h : s.Canon) : (s.advance t).Canon := by
  unfold State.advance
  exact ite_canon (canon_of_fields h) h

theorem State.counterCycle_canon {s : State} (h : s.Canon) : (s.counterCycle).Canon := by
  unfold State.counterCycle
  exact ite_canon (canon_of_fields h) h

theorem State.post_canon {s : State} {slice kind : Nat} {payload : List (Nat × Nat × Nat)} (h : s.Canon) : (s.post slice kind payload).Canon := by
  unfold State.post
  exact canon_of_fields h

theorem State.postSaturated_canon {s : State} {slice : Nat} {f : Field} (h : s.Canon) : (s.postSaturated slice f).Canon := by
  unfold State.postSaturated
  exact State.post_canon h

theorem State.queueWrite_canon {s : State} {w : Immediate} (h : s.Canon) : (s.queueWrite w).Canon := by
  unfold State.queueWrite
  extract_lets
  exact State.put_canon (canon_of_fields h)

theorem State.note_canon {s : State} {block code detail : Nat} (h : s.Canon) : (s.note block code detail).Canon := by
  unfold State.note
  exact State.journalAdd_canon h

theorem State.noteOpen_canon {s : State} {block : Nat} (h : s.Canon) : (s.noteOpen block).Canon := by
  unfold State.noteOpen
  exact State.drawn_canon (State.drawn_canon (State.note_canon h))

theorem State.streamAdd_canon {s : State} {n : Nat} {l : List PairBody} (h : s.Canon) : (s.streamAdd n l).Canon := by
  unfold State.streamAdd
  exact canon_of_fields h

theorem State.streamOut_canon {s : State} {x : Nat} (h : s.Canon) : (s.streamOut x).Canon := by
  induction x generalizing s with
  | zero => exact h
  | succ k ih =>
    rw [State.streamOut]
    split
    · exact h
    · refine ite_canon h ?_
      extract_lets _ s1
      have hs1 : s1.Canon := canon_of_fields h
      exact ih (State.pairSend_canon hs1)

theorem State.streamNow_canon {s : State} (h : s.Canon) : (s.streamNow).Canon := by
  unfold State.streamNow
  exact State.streamOut_canon h

theorem State.reportClears_canon {s : State} {x : List ActiveFault} (h : s.Canon) : (s.reportClears x).Canon := by
  induction x generalizing s with
  | nil => exact h
  | cons x l ih =>
    rw [State.reportClears]
    exact ih (State.report_canon h)

theorem State.clearWhere_canon {s : State} {p : ActiveFault → Bool} (h : s.Canon) : (s.clearWhere p).Canon := by
  unfold State.clearWhere
  extract_lets _ s1
  have hs1 : s1.Canon := canon_of_fields h
  exact State.refreshHealth_canon (State.reportClears_canon hs1)

theorem State.clearFault_canon {s : State} {code inst : Nat} (h : s.Canon) : (s.clearFault code inst).Canon := by
  unfold State.clearFault
  exact State.clearWhere_canon h

theorem State.clearCode_canon {s : State} {code : Nat} (h : s.Canon) : (s.clearCode code).Canon := by
  unfold State.clearCode
  exact State.clearWhere_canon h

theorem State.gateBits_canon {s : State} {b : Bool} (h : s.Canon) : (s.gateBits b).Canon := by
  unfold State.gateBits
  extract_lets
  exact State.eventIf_canon (State.eventIf_canon (State.putFlag_canon (State.putFlag_canon (canon_of_fields h))))

theorem State.endSafeMode_canon {s : State} (h : s.Canon) : (s.endSafeMode).Canon := by
  unfold State.endSafeMode
  extract_lets _ _ _ s1
  have hs1 : s1.Canon := canon_of_fields h
  exact State.eventIf_canon (State.put_canon (State.put_canon (State.put_canon hs1)))

theorem State.setGate_canon {s : State} {b : Bool} (h : s.Canon) : (s.setGate b).Canon := by
  unfold State.setGate
  exact ite_canon (State.gateBits_canon h) (State.endSafeMode_canon (State.gateBits_canon h))

theorem State.dropCustody_canon {s : State} (h : s.Canon) : (s.dropCustody).Canon := by
  unfold State.dropCustody
  extract_lets _ s1 _ s2
  have hs1 : s1.Canon := State.setGate_canon (State.put_canon h)
  have hs2 : s2.Canon := canon_of_fields hs1
  exact ite_canon (State.pairSend_canon hs2) hs2

theorem State.setRing_canon {s : State} {x : RingRec} (h : s.Canon) : (s.setRing x).Canon := by
  unfold State.setRing
  exact canon_of_fields h

theorem State.coalesce_canon {s : State} {r k : Nat} (h : s.Canon) : (s.coalesce r k).Canon := by
  unfold State.coalesce
  split
  · exact h
  · extract_lets
    exact ite_canon (State.event_canon (State.setRing_canon h)) (State.setRing_canon h)

theorem State.wroteBack_canon {s : State} {r k : Nat} (h : s.Canon) : (s.wroteBack r k).2.Canon := by
  unfold State.wroteBack
  split
  · exact h
  · exact State.coalesce_canon (State.setRing_canon h)

theorem State.orphan_canon {s : State} {r : Nat} (h : s.Canon) : (s.orphan r).Canon := by
  unfold State.orphan
  exact canon_of_fields h

theorem State.clearCur_canon {s : State} {r : Nat} (h : s.Canon) : (s.clearCur r).Canon := by
  unfold State.clearCur
  split
  · exact State.setRing_canon h
  · exact h

theorem State.complete_canon {s : State} {q : Req} {st : Status} {result rflags : Nat} (h : s.Canon) : (s.complete q st result rflags).Canon := by
  unfold State.complete
  split
  · exact State.emit_canon h
  · refine ite_canon h ?_
    extract_lets w s1
    have hw : w.2.Canon := State.wroteBack_canon h
    have hs1 : s1.Canon := State.put_canon (State.put_canon hw)
    exact State.dmaOut_canon (State.clearCur_canon hs1)

theorem State.cancelSliceOp_canon {s : State} (h : s.Canon) : (s.cancelSliceOp).Canon := by
  unfold State.cancelSliceOp
  split
  · exact h
  · extract_lets
    exact State.put_canon (canon_of_fields h)

theorem State.abortMulti_canon {s : State} {x : List MultiCmd} (h : s.Canon) : (s.abortMulti x).Canon := by
  induction x generalizing s with
  | nil => exact h
  | cons x l ih =>
    rw [State.abortMulti]
    exact ih (State.complete_canon h)

theorem State.setState_canon {s : State} {new reason : Nat} (h : s.Canon) : (s.setState new reason).Canon := by
  unfold State.setState
  extract_lets _ s1 s2 s3 src s4
  have hs1 : s1.Canon := State.put_canon (State.put_canon h)
  have hs2 : s2.Canon := State.journalAdd_canon (State.event_canon hs1)
  have hs3 : s3.Canon := State.post_canon hs2
  have hsrc : src.Canon := State.cancelSliceOp_canon (State.abortMulti_canon hs3)
  have hs4 : s4.Canon := canon_of_fields hsrc
  exact ite_canon h (ite_canon (State.put_canon hs4) hs4)

theorem State.serviceEvent_canon {s : State} (h : s.Canon) : (s.serviceEvent).Canon := by
  unfold State.serviceEvent
  exact State.event_canon h

theorem State.injGone_canon {s : State} {i : Injection} (h : s.Canon) : (s.injGone i).Canon := by
  unfold State.injGone
  extract_lets _ s1 s2
  have hs1 : s1.Canon := canon_of_fields h
  have hs2 : s2.Canon := State.put_canon (State.put_canon hs1)
  exact State.putFlag_canon hs2

theorem State.endInj_canon {s : State} {i : Injection} {reason : Nat} (h : s.Canon) : (s.endInj i reason).Canon := by
  unfold State.endInj
  exact ite_canon (State.event_canon (State.raiseRecord_canon (State.injGone_canon h))) (State.injGone_canon h)

theorem State.endInjections_canon {s : State} {reason : Nat} {l : List Injection} (h : s.Canon) : (s.endInjections reason l).Canon := by
  unfold State.endInjections
  exact foldl_canon h (fun _ ht _ => State.endInj_canon ht)

theorem State.abortSolve_canon {s : State} (h : s.Canon) : (s.abortSolve).Canon := by
  unfold State.abortSolve
  refine ite_canon ?_ h
  extract_lets s1 s2 _ s3
  have hs1 : s1.Canon := State.put_canon (State.put_canon (State.put_canon h))
  have hs2 : s2.Canon := State.event_canon (State.count_canon (State.count_canon hs1))
  have hs3 : s3.Canon := canon_of_fields hs2
  exact ite_canon hs3 (State.raiseRecord_canon hs3)

theorem State.enterSafe_canon {s : State} {reason source fcode : Nat} (h : s.Canon) : (s.enterSafe reason source fcode).Canon := by
  unfold State.enterSafe
  extract_lets s1 s2 s3 _ s4 s5 src _ s6
  have hs1 : s1.Canon := State.dropCustody_canon h
  have hs2 : s2.Canon := State.put_canon (State.put_canon (State.put_canon hs1))
  have hs3 : s3.Canon := State.abortSolve_canon (State.endInjections_canon hs2)
  have hs4 : s4.Canon := State.put_canon (canon_of_fields hs3)
  have hs5 : s5.Canon := ite_canon (State.serviceEvent_canon hs4) hs4
  have hsrc : src.Canon := State.put_canon hs5
  have hs6 : s6.Canon := ite_canon (canon_of_fields hsrc) hs5
  exact State.setState_canon hs6

theorem State.classResponse_canon {s : State} {code cls : Nat} (h : s.Canon) : (s.classResponse code cls).Canon := by
  unfold State.classResponse
  refine ite_canon ?_ (ite_canon (ite_canon (State.enterSafe_canon h) (State.dropCustody_canon h)) h)
  extract_lets s1
  have hs1 : s1.Canon := State.dropCustody_canon h
  exact ite_canon (State.setState_canon hs1) (ite_canon (State.put_canon hs1) hs1)

theorem State.raise_canon {s : State} {code cls inst slice detail : Nat} (h : s.Canon) : (s.raise code cls inst slice detail).Canon := by
  unfold State.raise
  exact ite_canon h (State.classResponse_canon (State.raiseRecord_canon h))

theorem State.raise1_canon {s : State} {code cls detail : Nat} (h : s.Canon) : (s.raise1 code cls detail).Canon := by
  unfold State.raise1
  exact State.raise_canon h

theorem State.raiseAt_canon {s : State} {code cls inst detail : Nat} (h : s.Canon) : (s.raiseAt code cls inst detail).Canon := by
  unfold State.raiseAt
  exact State.raise_canon h

theorem State.holdRing_canon {s : State} {op : Nat} {q : Req} (h : s.Canon) : (s.holdRing op q).Canon := by
  unfold State.holdRing
  split
  · exact h
  · exact ite_canon (State.put_canon h) h

theorem State.commandAny_canon {s : State} {op : Nat} {q : Req} {fails : List (Status × Bool)} {quota : Bool} {ok : State → State} {result : Status → Nat}
    (h : s.Canon) (hok : ∀ t, t.Canon → (ok t).Canon) : (s.commandAny op q fails quota ok result).Canon := by
  unfold State.commandAny
  refine ite_canon h ?_
  split
  · exact State.complete_canon (State.eventIf_canon h)
  · exact State.holdRing_canon (hok _ h)

theorem State.command_canon {s : State} {op : Nat} {q : Req} {fails : List (Status × Bool)} {quota : Bool} {ok : State → State} {result : Status → Nat}
    (h : s.Canon) (hok : ∀ t, t.Canon → (ok t).Canon) : (s.command op q fails quota ok result).Canon := by
  unfold State.command
  exact State.commandAny_canon h hok

theorem State.take_canon {s : State} {f : Field} {n : Nat} (h : s.Canon) : (s.take f n).Canon := by
  unfold State.take
  exact State.put_canon h

theorem State.give_canon {s : State} {f : Field} {n : Nat} (h : s.Canon) : (s.give f n).Canon := by
  unfold State.give
  exact State.put_canon h

theorem State.keyRefused_canon {s : State} {ok : Bool} (h : s.Canon) : (s.keyRefused ok).Canon := by
  unfold State.keyRefused
  exact State.eventIf_canon h

theorem State.keyJournal_canon {s : State} {type cause slot gen slice kid : Nat}
    (h : s.Canon) : (s.keyJournal type cause slot gen slice kid).Canon := by
  unfold State.keyJournal
  extract_lets
  exact State.queueWrite_canon (State.put_canon h)

theorem State.adoptImage_canon {s : State} (h : s.Canon) : (s.adoptImage).Canon := by
  unfold State.adoptImage
  extract_lets _ _ _ s1 _ s2
  have hs1 : s1.Canon := ite_canon (State.put_canon (State.put_canon h)) (ite_canon (State.raise1_canon h) h)
  have hs2 : s2.Canon := State.put_canon hs1
  exact ite_canon h (State.keyJournal_canon hs2)

theorem State.postSlot_canon {s : State} {slice slot old new tick : Nat} (h : s.Canon) : (s.postSlot slice slot old new tick).Canon := by
  unfold State.postSlot
  exact State.post_canon h

theorem State.putCal_canon {s : State} {secs wday : Nat} (h : s.Canon) : (s.putCal secs wday).Canon := by
  unfold State.putCal
  exact State.wr_canon (State.wr_canon h)

theorem State.rtcQueue_canon {s : State} {w : RtcWrite} (h : s.Canon) : (s.rtcQueue w).Canon := by
  unfold State.rtcQueue
  exact ite_canon (State.event_canon (State.put_canon h)) (State.put_canon (canon_of_fields h))

theorem State.keepUtcOffset_canon {s : State} {v : Nat} (h : s.Canon) : (s.keepUtcOffset v).Canon := by
  unfold State.keepUtcOffset
  extract_lets
  exact ite_canon h (State.rtcQueue_canon h)

theorem State.calFromTime_canon {s : State} (h : s.Canon) : (s.calFromTime).Canon := by
  unfold State.calFromTime
  exact ite_canon h (ite_canon h (State.rtcQueue_canon h))

theorem State.setClass_canon {s : State} {c : Nat} (h : s.Canon) : (s.setClass c).Canon := by
  unfold State.setClass
  exact ite_canon h (State.event_canon (State.put_canon h))

theorem State.applyIncr_canon {s : State} {v : Nat} (h : s.Canon) : (s.applyIncr v).Canon := by
  unfold State.applyIncr
  split
  · extract_lets _ _ s1
    have hs1 : s1.Canon := canon_of_fields h
    exact ite_canon hs1 (State.put_canon hs1)

theorem State.clampIncr_canon {s : State} (h : s.Canon) : (s.clampIncr).Canon := by
  unfold State.clampIncr
  split
  · exact ite_canon (State.applyIncr_canon h) h

theorem incrHiWrite_canon {data : Word} {s : State} (h : s.Canon) : (incrHiWrite data s).Canon := by
  unfold incrHiWrite
  refine ite_canon (State.reject_canon h) ?_
  extract_lets s1
  have hs1 : s1.Canon := State.put_canon h
  exact State.applyIncr_canon hs1

theorem stepHiWrite_canon {data : Word} {s : State} (h : s.Canon) : (stepHiWrite data s).Canon := by
  unfold stepHiWrite
  refine ite_canon (State.reject_canon h) ?_
  extract_lets s1 _ _ s2
  have hs1 : s1.Canon := State.put_canon h
  have hs2 : s2.Canon := State.put_canon (canon_of_fields hs1)
  refine ite_canon (State.event_canon (State.put_canon (canon_of_fields hs1))) ?_
  exact ite_canon (State.raise1_canon (State.event_canon (State.put_canon hs2))) (State.put_canon (canon_of_fields hs1))

theorem State.enterHoldover_canon {s : State} (h : s.Canon) : (s.enterHoldover).Canon := by
  unfold State.enterHoldover
  extract_lets _ s1
  have hs1 : s1.Canon := canon_of_fields h
  exact State.raise1_canon (State.setClass_canon hs1)

theorem State.enterLocked_canon {s : State} (h : s.Canon) : (s.enterLocked).Canon := by
  unfold State.enterLocked
  extract_lets _ s1
  have hs1 : s1.Canon := State.calFromTime_canon (State.setClass_canon h)
  exact ite_canon (State.clearFault_canon hs1) (State.clearFault_canon (State.clearFault_canon (State.put_canon hs1)))

theorem ptpSyncRx_canon {m : ServoSample} {s : State} (h : s.Canon) : (ptpSyncRx m s).Canon := by
  unfold ptpSyncRx
  refine ite_canon (canon_of_fields h) ?_
  extract_lets _ _ s1 _ _ _ s2 s3
  have hs1 : s1.Canon := State.put_canon (State.put_canon h)
  have hs2 : s2.Canon := canon_of_fields hs1
  have hs3 : s3.Canon := State.applyIncr_canon hs2
  exact ite_canon (State.enterLocked_canon hs3) (ite_canon (State.enterHoldover_canon hs3) hs3)

theorem ptpSourceLoss_canon {s : State} (h : s.Canon) : (ptpSourceLoss s).Canon := by
  unfold ptpSourceLoss
  refine ite_canon h ?_
  extract_lets s1
  have hs1 : s1.Canon := State.advance_canon h
  exact ite_canon (State.enterHoldover_canon hs1) hs1

theorem holdoverMaxExpiry_canon {s : State} (h : s.Canon) : (holdoverMaxExpiry s).Canon := by
  unfold holdoverMaxExpiry
  exact ite_canon (State.raise1_canon (State.setClass_canon (State.clearFault_canon (State.advance_canon h)))) h

theorem State.holdMaxWritten_canon {s : State} (h : s.Canon) : (s.holdMaxWritten).Canon := by
  unfold State.holdMaxWritten
  exact ite_canon (holdoverMaxExpiry_canon h) h

theorem State.runBmca_canon {s : State} (h : s.Canon) : (s.runBmca).Canon := by
  unfold State.runBmca
  extract_lets
  exact State.put_canon (State.put_canon h)

theorem ptpAnnounceRx_canon {m : Announce} {s : State} (h : s.Canon) : (ptpAnnounceRx m s).Canon := by
  unfold ptpAnnounceRx
  refine ite_canon (canon_of_fields h) ?_
  refine ite_canon (State.runBmca_canon (canon_of_fields h)) ?_
  extract_lets _ s1
  have hs1 : s1.Canon := State.runBmca_canon (canon_of_fields h)
  exact ite_canon (State.keepUtcOffset_canon hs1) hs1

theorem ptpPdelay_canon {port : Nat} {x : PdelayTimes} {s : State} (h : s.Canon) : (ptpPdelay port x s).Canon := by
  unfold ptpPdelay
  refine ite_canon h ?_
  extract_lets _ _ s1
  have hs1 : s1.Canon := canon_of_fields h
  exact ite_canon (State.put_canon hs1) hs1

theorem ptpSyncTx_canon {port pcs : Nat} {s : State} (h : s.Canon) : (ptpSyncTx port pcs s).Canon := by
  unfold ptpSyncTx
  extract_lets
  refine ite_canon h ?_
  refine ite_canon ?_ (ite_canon (State.emit_canon h) h)
  split
  · exact State.emit_canon h
  · exact h

theorem State.toTcxo_canon {s : State} (h : s.Canon) : (s.toTcxo).Canon := by
  unfold State.toTcxo
  exact ite_canon (State.event_canon (State.put_canon h)) h

theorem refMeasure_canon {deviation : Int} {s : State} (h : s.Canon) : (refMeasure deviation s).Canon := by
  unfold refMeasure
  refine ite_canon h ?_
  refine ite_canon (State.toTcxo_canon (canon_of_fields h)) ?_
  extract_lets _ _ s1 s2
  have hs1 : s1.Canon := canon_of_fields h
  have hs2 : s2.Canon := State.put_canon hs1
  refine ite_canon (State.raise1_canon (State.toTcxo_canon (State.put_canon hs1))) ?_
  exact ite_canon (State.clearFault_canon (State.event_canon (State.put_canon hs2))) hs2

theorem refLoss_canon {deviation : Int} {s : State} (h : s.Canon) : (refLoss deviation s).Canon := by
  unfold refLoss
  refine ite_canon h ?_
  extract_lets _ s1
  have hs1 : s1.Canon := State.toTcxo_canon (State.put_canon (canon_of_fields h))
  exact ite_canon (State.raise1_canon hs1) hs1

theorem State.gclSchedule_canon {s : State} {p : Nat} (h : s.Canon) : (s.gclSchedule p).Canon := by
  unfold State.gclSchedule
  exact ite_canon h (State.put_canon (canon_of_fields h))

theorem gclDisable_canon {p : Nat} {s : State} (h : s.Canon) : (gclDisable p s).Canon := by
  unfold gclDisable
  exact ite_canon h (ite_canon (State.reject_canon h) (State.put_canon (State.put_canon (canon_of_fields h))))

theorem gclChangeWrite_canon {p : Nat} {data : Word} {s : State} (h : s.Canon) : (gclChangeWrite p data s).Canon := by
  unfold gclChangeWrite
  refine ite_canon h ?_
  refine ite_canon (State.reject_canon h) ?_
  extract_lets _ _ _ s0 s1 _ s2
  have hs0 : s0.Canon := ite_canon (State.badAccess_canon h) h
  have hs1 : s1.Canon := ite_canon hs0 (State.put_canon hs0)
  have hs2 : s2.Canon := State.put_canon hs1
  refine ite_canon (State.reject_canon h) ?_
  exact ite_canon (gclDisable_canon hs1) (ite_canon (State.gclSchedule_canon hs2) hs2)

theorem gclSwitch_canon {p : Nat} {s : State} (h : s.Canon) : (gclSwitch p s).Canon := by
  unfold gclSwitch
  split
  · exact h
  · extract_lets s1 _ _ s2 s3 s4
    have hs1 : s1.Canon := State.advance_canon h
    have hs2 : s2.Canon := canon_of_fields hs1
    have hs3 : s3.Canon := State.put_canon (State.put_canon hs2)
    have hs4 : s4.Canon := State.put_canon hs3
    exact State.event_canon (State.put_canon (State.put_canon hs4))

theorem ppsOutPulse_canon {s : State} (h : s.Canon) : (ppsOutPulse s).Canon := by
  unfold ppsOutPulse
  refine ite_canon h ?_
  extract_lets _ _ s0 _ s1
  have hs0 : s0.Canon := State.advance_canon h
  have hs1 : s1.Canon := canon_of_fields hs0
  exact ite_canon hs1 (State.emit_canon (canon_of_fields hs1))

theorem State.putStamp_canon {s : State} {a ns : Nat} (h : s.Canon) : (s.putStamp a ns).Canon := by
  unfold State.putStamp
  exact State.put_canon (State.put_canon (State.put_canon h))

theorem ppsInEdge_canon {stamp : Nat} {s : State} (h : s.Canon) : (ppsInEdge stamp s).Canon := by
  unfold ppsInEdge
  refine ite_canon h ?_
  extract_lets s0 _ _ s1
  have hs0 : s0.Canon := State.advance_canon h
  have hs1 : s1.Canon := canon_of_fields hs0
  refine ite_canon (State.count_canon hs0) ?_
  exact State.event_canon (State.put_canon (State.countMod_canon (State.putStamp_canon hs1)))

theorem diEdge_canon {input : Nat} {falling : Bool} {stamp : Nat} {s : State} (h : s.Canon) : (diEdge input falling stamp s).Canon := by
  unfold diEdge
  refine ite_canon h ?_
  extract_lets s0
  have hs0 : s0.Canon := State.advance_canon h
  exact ite_canon hs0 (ite_canon (State.count_canon hs0) (State.event_canon (State.put_canon (canon_of_fields hs0))))

theorem State.popEdge_canon {s : State} (h : s.Canon) : (s.popEdge).1.Canon := by
  unfold State.popEdge
  split
  · exact h
  · exact State.putStamp_canon (State.put_canon (canon_of_fields h))

theorem diedgePop_canon {s : State} (h : s.Canon) : (diedgePop s).Canon := by
  unfold diedgePop
  exact State.emit_canon (State.popEdge_canon h)

theorem State.latchSeconds_canon {s : State} {a sec : Nat} (h : s.Canon) : (s.latchSeconds a sec).Canon := by
  unfold State.latchSeconds
  exact canon_of_fields h

theorem State.timeLatch_canon {s : State} {a : Nat} (h : s.Canon) : (s.timeLatch a).1.Canon := by
  unfold State.timeLatch
  split
  · exact State.latchSeconds_canon h
  · exact State.latchSeconds_canon h

theorem timeLatchRead_canon {addr : Nat} {s : State} (h : s.Canon) : (timeLatchRead addr s).Canon := by
  unfold timeLatchRead
  exact ite_canon (State.emit_canon (State.timeLatch_canon h)) h

theorem State.syncSlots_canon {s : State} (h : s.Canon) : (s.syncSlots).Canon := by
  unfold State.syncSlots
  extract_lets _ s1 s2 s3 s4
  have hs1 : s1.Canon := State.put_canon (State.put_canon h)
  have hs2 : s2.Canon := State.put_canon (State.put_canon hs1)
  have hs3 : s3.Canon := foldl_canon hs2 (fun _ ht _ => State.put_canon ht)
  have hs4 : s4.Canon := foldl_canon hs3 (fun _ ht _ => State.put_canon ht)
  exact State.putFlag_canon hs4

theorem State.showSlot_canon {s : State} {x : Slot} (h : s.Canon) : (s.showSlot x).Canon := by
  unfold State.showSlot
  extract_lets
  exact State.put_canon (State.putFlag_canon (State.put_canon (State.put_canon (State.put_canon h))))

theorem State.putSlot_canon {s : State} {x : Slot} (h : s.Canon) : (s.putSlot x).Canon := by
  unfold State.putSlot
  exact State.syncSlots_canon (State.showSlot_canon (canon_of_fields h))

theorem State.freeSlot_canon {s : State} {x : Slot} (h : s.Canon) : (s.freeSlot x).Canon := by
  unfold State.freeSlot
  extract_lets _ s1 s2
  have hs1 : s1.Canon := canon_of_fields h
  have hs2 : s2.Canon := State.wr_canon (State.wr_canon (State.wr_canon (State.wr_canon hs1)))
  exact State.syncSlots_canon (State.give_canon hs2)

theorem State.moveSlot_canon {s : State} {x : Slot} {new tick : Nat} (h : s.Canon) : (s.moveSlot x new tick).Canon := by
  unfold State.moveSlot
  extract_lets s1 s2
  have hs1 : s1.Canon := State.event_canon (State.putSlot_canon h)
  have hs2 : s2.Canon := State.postSlot_canon (State.eventIf_canon hs1)
  exact ite_canon (State.clampIncr_canon (State.put_canon hs2)) hs2

theorem State.loadSlot_canon {s : State} {slice slot : Nat} {img : FnImage} (h : s.Canon) : (s.loadSlot slice slot img).Canon := by
  unfold State.loadSlot
  extract_lets
  exact State.clearFault_canon (State.moveSlot_canon (State.take_canon h))

theorem slotLoad_canon {q : Req} {slot len key : Nat} {img : FnImage} {s : State} (h : s.Canon) : (slotLoad q slot len key img s).Canon := by
  unfold slotLoad
  extract_lets
  exact State.command_canon h (fun _ ht => State.complete_canon (State.loadSlot_canon ht))

theorem slotAdmit_canon {q : Req} {slot : Nat} {s : State} (h : s.Canon) : (slotAdmit q slot s).Canon := by
  unfold slotAdmit
  extract_lets x
  exact State.command_canon h (fun _ ht => (by
    clear_value x
    split
    · exact ht
    · split
      · exact State.complete_canon ht
      · extract_lets s1
        have hs1 : s1.Canon := State.moveSlot_canon ht
        exact State.complete_canon hs1))

theorem slotUnload_canon {q : Req} {slot : Nat} {s : State} (h : s.Canon) : (slotUnload q slot s).Canon := by
  unfold slotUnload
  extract_lets
  exact State.command_canon h (fun _ ht => (by
    split
    · exact ht
    · extract_lets s1 s2 _ s3
      have hs1 : s1.Canon := State.postSlot_canon (State.event_canon (State.freeSlot_canon ht))
      have hs2 : s2.Canon := State.clearFault_canon (State.clearFault_canon hs1)
      have hs3 : s3.Canon := ite_canon (State.event_canon (canon_of_fields hs2)) hs2
      exact State.complete_canon hs3))

theorem State.atBoundary_canon {s : State} {c : BoundCmd} (h : s.Canon) : (s.atBoundary c).Canon := by
  unfold State.atBoundary
  exact canon_of_fields h

theorem slotBound_canon {q : Req} {opcode slot : Nat} {from' : List Nat} {mgr busy state : Bool} {s : State}
    (h : s.Canon) : (slotBound q opcode slot from' mgr busy state s).Canon := by
  unfold slotBound
  exact State.command_canon h (fun _ ht => State.atBoundary_canon ht)

theorem slotShadow_canon {q : Req} {slot : Nat} {s : State} (h : s.Canon) : (slotShadow q slot s).Canon := by
  unfold slotShadow
  exact slotBound_canon h

theorem slotRun_canon {q : Req} {slot : Nat} {s : State} (h : s.Canon) : (slotRun q slot s).Canon := by
  unfold slotRun
  exact slotBound_canon h

theorem slotStop_canon {q : Req} {slot : Nat} {s : State} (h : s.Canon) : (slotStop q slot s).Canon := by
  unfold slotStop
  exact slotBound_canon h

theorem State.showFlags_canon {s : State} {slot fl : Nat} (h : s.Canon) : (s.showFlags slot fl).Canon := by
  unfold State.showFlags
  exact State.put_canon (State.put_canon (State.put_canon h))

theorem State.applyGroup_canon {s : State} {q : Req} {x : Slot} {group mode : Nat} {clear : Bool}
    (h : s.Canon) : (s.applyGroup q x group mode clear).Canon := by
  unfold State.applyGroup
  extract_lets _ _ _ _ _ s1 s2
  have hs1 : s1.Canon := State.putSlot_canon h
  have hs2 : s2.Canon := ite_canon (State.showFlags_canon hs1) hs1
  exact State.complete_canon hs2

theorem slotGroup_canon {q : Req} {slot group mode : Nat} {clear : Bool} {s : State} (h : s.Canon) : (slotGroup q slot group mode clear s).Canon := by
  unfold slotGroup
  extract_lets x
  exact State.command_canon h (fun _ ht => (by
    clear_value x
    split
    · exact ht
    · exact ite_canon (State.applyGroup_canon ht) (State.atBoundary_canon ht)))

theorem State.groupChanged_canon {s : State} {x : Slot} {old new n : Nat} (h : s.Canon) : (s.groupChanged x old new n).Canon := by
  unfold State.groupChanged
  refine ite_canon h ?_
  extract_lets s1
  have hs1 : s1.Canon := by
    unfold s1
    split
    · exact State.putSlot_canon h
    · exact h
  exact State.journalAdd_canon (State.event_canon hs1)

theorem State.applyBound_canon {s : State} {n : Nat} {c : BoundCmd} (h : s.Canon) : (s.applyBound n c).Canon := by
  unfold State.applyBound
  extract_lets _ abort
  have habort : abort.Canon := State.complete_canon h
  split
  · exact habort
  · refine ite_canon ?_ ?_
    · refine ite_canon (State.complete_canon (State.moveSlot_canon h)) ?_
      exact ite_canon (State.complete_canon (State.moveSlot_canon h)) habort
    · refine ite_canon (ite_canon (State.complete_canon (State.moveSlot_canon h)) habort) ?_
      refine ite_canon (ite_canon (State.complete_canon (State.moveSlot_canon h)) habort) ?_
      refine ite_canon ?_ (ite_canon (State.applyGroup_canon h) habort)
      extract_lets s1
      have hs1 : s1.Canon := State.applyGroup_canon h
      split
      · exact State.groupChanged_canon hs1
      · exact hs1

theorem State.applyQuarantine_canon {s : State} {n : Nat} {x : Slot} (h : s.Canon) : (s.applyQuarantine n x).Canon := by
  unfold State.applyQuarantine
  split
  · exact h
  · refine ite_canon ?_ h
    extract_lets s1 s2 src
    have hs1 : s1.Canon := State.moveSlot_canon h
    have hs2 : s2.Canon := State.raise_canon hs1
    have hsrc : src.Canon := State.event_canon (State.raise_canon hs2)
    exact canon_of_fields hsrc

theorem State.applyRequest_canon {s : State} {n : Nat} {x : Slot} (h : s.Canon) : (s.applyRequest n x).Canon := by
  unfold State.applyRequest
  refine ite_canon h ?_
  split
  · exact h
  · split
    · exact h
    · split
      · exact State.groupChanged_canon h
      · exact h

theorem State.slotBoundary_canon {s : State} {n : Nat} (h : s.Canon) : (s.slotBoundary n).Canon := by
  unfold State.slotBoundary
  extract_lets s1 _ s2
  have hs1 : s1.Canon := foldl_canon h (fun _ ht _ => State.applyQuarantine_canon ht)
  have hs2 : s2.Canon := foldl_canon (canon_of_fields hs1) (fun _ ht _ => State.applyBound_canon ht)
  exact foldl_canon hs2 (fun _ ht _ => State.applyRequest_canon ht)

theorem State.setRod_canon {s : State} {r : Nat} {d : RodState} (h : s.Canon) : (s.setRod r d).Canon := by
  unfold State.setRod
  exact canon_of_fields h

theorem State.noteOver_canon {s : State} {tick r : Nat} {overs : List Nat} (h : s.Canon) : (s.noteOver tick r overs).Canon := by
  unfold State.noteOver
  exact foldl_canon h (fun _ ht _ => (by
    extract_lets s1 _ _ s2
    have hs1 : s1.Canon := State.put_canon ht
    have hs2 : s2.Canon := canon_of_fields hs1
    refine ite_canon ?_ hs2
    split
    · exact canon_of_fields hs2
    · exact hs2))

theorem State.syncBeam_canon {s : State} (h : s.Canon) : (s.syncBeam).Canon := by
  unfold State.syncBeam
  extract_lets
  exact State.putFlag_canon (State.put_canon h)

theorem State.donorStop_canon {s : State} (h : s.Canon) : (s.donorStop).Canon := by
  unfold State.donorStop
  exact State.put_canon (canon_of_fields h)

theorem State.donorLeft_canon {s : State} {r : Nat} (h : s.Canon) : (s.donorLeft r).Canon := by
  unfold State.donorLeft
  exact ite_canon (State.pairSend_canon (State.donorStop_canon h)) h

theorem State.moveRod_canon {s0 : State} {r new : Nat} (h : s0.Canon) : (s0.moveRod r new).Canon := by
  unfold State.moveRod
  extract_lets _ s
  have hs : s.Canon := State.donorLeft_canon h
  exact ite_canon h (State.syncBeam_canon (State.setRod_canon (State.post_canon (State.put_canon hs))))

theorem State.checkRestart_canon {s : State} (h : s.Canon) : (s.checkRestart).Canon := by
  unfold State.checkRestart
  extract_lets
  exact ite_canon (State.raise1_canon (State.event_canon h)) h

theorem State.resetRod_canon {s : State} {r cause : Nat} (h : s.Canon) : (s.resetRod r cause).Canon := by
  unfold State.resetRod
  extract_lets _ _ _ s1
  have hs1 : s1.Canon := State.put_canon (State.setRod_canon h)
  refine ite_canon (State.checkRestart_canon (State.raiseAt_canon (State.event_canon (State.moveRod_canon hs1)))) ?_
  exact State.moveRod_canon (State.count_canon (State.put_canon (State.setRod_canon hs1)))

theorem State.coldRestart_canon {s : State} (h : s.Canon) : (s.coldRestart).Canon := by
  unfold State.coldRestart
  refine ite_canon h ?_
  extract_lets s1 s2
  have hs1 : s1.Canon := State.put_canon h
  have hs2 : s2.Canon := by
    unfold s2
    exact foldl_canon hs1 (fun _ ht _ => ite_canon (State.resetRod_canon ht) (ite_canon (State.moveRod_canon (State.setRod_canon ht)) ht))
  exact State.checkRestart_canon hs2

theorem State.restartIfShort_canon {s : State} (h : s.Canon) : (s.restartIfShort).Canon := by
  unfold State.restartIfShort
  exact ite_canon (State.coldRestart_canon h) h

theorem State.reintFail_canon {s : State} {r phase cause : Nat} (h : s.Canon) : (s.reintFail r phase cause).Canon := by
  unfold State.reintFail
  exact State.resetRod_canon (State.raiseAt_canon (State.event_canon h))

theorem State.bench_canon {s : State} {r cause : Nat} (h : s.Canon) : (s.bench r cause).Canon := by
  unfold State.bench
  exact ite_canon (State.resetRod_canon h) (ite_canon (State.reintFail_canon h) h)

theorem State.rejoin_canon {s : State} {r : Nat} (h : s.Canon) : (s.rejoin r).Canon := by
  unfold State.rejoin
  extract_lets s1
  have hs1 : s1.Canon := State.event_canon (State.moveRod_canon h)
  exact foldl_canon hs1 (fun _ ht _ => State.clearFault_canon ht)

theorem State.donorStream_canon {s : State} {r n sdig : Nat} {d d1 : RodState} (h : s.Canon) : (s.donorStream r n sdig d d1).Canon := by
  unfold State.donorStream
  exact ite_canon (State.streamNow_canon (State.streamAdd_canon (State.streamNow_canon h))) h

theorem rodResultsDelivered_canon {r : Nat} {overs : List Nat} {corr : Nat} {upset : List (Nat × Nat)} {s : State}
    (h : s.Canon) : (rodResultsDelivered r overs corr upset s).Canon := by
  unfold rodResultsDelivered
  extract_lets
  refine ite_canon h ?_
  split
  · exact h
  · split
    · extract_lets s1 s2
      have hs1 : s1.Canon := State.donorStream_canon (State.noteOver_canon (State.countBy_canon h))
      have hs2 : s2.Canon := State.count_canon (State.event_canon (State.setRod_canon hs1))
      refine ite_canon ?_ (State.setRod_canon hs1)
      split
      · exact State.setRod_canon hs1
      · exact ite_canon (State.setRod_canon hs1) (State.restartIfShort_canon (State.raiseAt_canon (State.bench_canon hs2)))

theorem sramScrub_canon {rod corr : Nat} {s : State} (h : s.Canon) : (sramScrub rod corr s).Canon := by
  unfold sramScrub
  exact ite_canon h (State.countBy_canon h)

theorem sramUncorrectable_canon {rod word : Nat} {s : State} (h : s.Canon) : (sramUncorrectable rod word s).Canon := by
  unfold sramUncorrectable
  refine ite_canon h ?_
  extract_lets s1 _ s2
  have hs1 : s1.Canon := State.event_canon (State.count_canon h)
  have hs2 : s2.Canon := canon_of_fields hs1
  exact State.raiseAt_canon hs2

theorem State.missed_canon {s : State} {voters : Nat} (h : s.Canon) : (s.missed voters).Canon := by
  unfold State.missed
  extract_lets _ s1 _ s2
  have hs1 : s1.Canon := State.event_canon (State.put_canon (State.count_canon h))
  have hs2 : s2.Canon := State.raiseRecord_canon (canon_of_fields hs1)
  exact ite_canon (State.raise1_canon hs2) hs2

theorem State.decided_canon {s : State} (h : s.Canon) : (s.decided).Canon := by
  unfold State.decided
  extract_lets _ _ s1 s2
  have hs1 : s1.Canon := State.countMod_canon (State.put_canon (canon_of_fields h))
  have hs2 : s2.Canon := State.clearFault_canon hs1
  exact ite_canon (ite_canon (State.clearFault_canon hs2) hs2) hs1

theorem State.noteDissent_canon {s : State} {r slot : Nat} (h : s.Canon) : (s.noteDissent r slot).Canon := by
  unfold State.noteDissent
  extract_lets _ _ _ _ s1
  have hs1 : s1.Canon := canon_of_fields h
  refine ite_canon ?_ hs1
  split
  · exact canon_of_fields hs1
  · exact hs1

theorem State.benchVote_canon {s : State} {wq : Nat} {layout : List (Nat × Nat)} {x : Nat × Nat} (h : s.Canon) : (s.benchVote wq layout x).Canon := by
  unfold State.benchVote
  extract_lets _ _ s1 s2
  have hs1 : s1.Canon := State.bench_canon (State.event_canon (State.put_canon h))
  have hs2 : s2.Canon := State.raiseAt_canon hs1
  exact ite_canon (State.noteDissent_canon hs2) hs2

theorem State.noteSlot_canon {s : State} {bad : List Nat} {decided : Bool} {p : Nat × List Nat} (h : s.Canon) : (s.noteSlot bad decided p).Canon := by
  unfold State.noteSlot
  extract_lets s1
  have hs1 : s1.Canon := ite_canon (State.showFlags_canon h) h
  exact ite_canon hs1 (ite_canon (State.put_canon hs1) (ite_canon (State.put_canon hs1) hs1))

theorem State.cleFault_canon {s : State} {cause pc : Nat} (h : s.Canon) : (s.cleFault cause pc).Canon := by
  unfold State.cleFault
  extract_lets _ s1
  have hs1 : s1.Canon := State.put_canon (State.put_canon (State.put_canon h))
  exact State.raise1_canon (State.event_canon (State.event_canon hs1))

theorem State.cleCommitted_canon {s : State} {c : Nat} {overs : Bool} {window : Nat} (h : s.Canon) : (s.cleCommitted c overs window).Canon := by
  unfold State.cleCommitted
  extract_lets s1 s2 s3
  have hs1 : s1.Canon := State.put_canon (State.put_canon h)
  have hs2 : s2.Canon := State.put_canon (State.countMod_canon hs1)
  have hs3 : s3.Canon := State.eventIf_canon hs2
  exact ite_canon (State.raiseRecord_canon (State.event_canon (State.count_canon hs3))) hs3

theorem State.noteCle_canon {s : State} {rods : List (RodState × Delivery)} {stream : List Nat} {wq : Nat}
    (h : s.Canon) : (s.noteCle rods stream wq).Canon := by
  unfold State.noteCle
  extract_lets s1 faults
  have hs1 : s1.Canon := foldl_canon h (fun _ ht _ => State.put_canon ht)
  clear_value faults
  split
  · exact ite_canon (State.cleFault_canon hs1) hs1
  · split
    · split
      · exact State.cleCommitted_canon hs1
      · exact hs1
    · exact hs1

theorem State.noteInjected_canon {s : State} {r : Nat} {l : List (Nat × Nat)} (h : s.Canon) : (s.noteInjected r l).Canon := by
  unfold State.noteInjected
  exact foldl_canon h (fun _ ht _ => (by
    extract_lets _ _ s1
    have hs1 : s1.Canon := canon_of_fields ht
    exact State.note_canon (State.eventIf_canon (State.countMod_canon hs1))))

theorem State.settleIdle_canon {s : State} {n : Nat} {noImage : Bool} (h : s.Canon) : (s.settleIdle n noImage).Canon := by
  unfold State.settleIdle
  extract_lets
  exact canon_of_fields h

theorem State.carryTick_canon {s : State} {n c r : Nat} (h : s.Canon) : (s.carryTick n c r).Canon := by
  unfold State.carryTick
  extract_lets
  split
  · rename_i _ s1 e
    have hs1 : s1.Canon := canon_snd e (by
    split
    · exact h
    · exact State.event_canon (State.setRod_canon h))
    extract_lets s2 s3
    have hs2 : s2.Canon := State.count_canon hs1
    have hs3 : s3.Canon := State.bench_canon (State.count_canon (State.event_canon hs2))
    exact ite_canon (State.raiseAt_canon hs3) hs2

theorem State.forgive_canon {s : State} {n r : Nat} (h : s.Canon) : (s.forgive n r).Canon := by
  unfold State.forgive
  extract_lets _ s1
  have hs1 : s1.Canon := State.event_canon (State.setRod_canon h)
  split
  · exact h
  · exact State.raiseRecord_canon (State.count_canon hs1)

theorem State.verify_canon {s : State} {n c : Nat} {voted : Option (List Nat)} {r : Nat} (h : s.Canon) : (s.verify n c voted r).Canon := by
  unfold State.verify
  refine ite_canon h ?_
  split
  · exact State.carryTick_canon h
  · extract_lets s0 _ s1
    have hs0 : s0.Canon := State.forgive_canon h
    have hs1 : s1.Canon := State.put_canon hs0
    split
    · exact hs0
    · exact ite_canon (ite_canon (canon_of_fields hs1) hs1) (State.bench_canon hs0)

theorem State.dueBenches_canon {s : State} {n : Nat} (h : s.Canon) : (s.dueBenches n).Canon := by
  unfold State.dueBenches
  extract_lets s1 s2
  have hs1 : s1.Canon := foldl_canon h (fun _ ht _ => ite_canon (State.raiseAt_canon (State.bench_canon ht)) ht)
  have hs2 : s2.Canon := foldl_canon hs1 (fun _ ht _ => State.bench_canon ht)
  exact canon_of_fields hs2

theorem State.decide'_canon {s0 : State} {n : Nat} {layout : List (Nat × Nat)} {differ : Option Nat}
    (h : s0.Canon) : (s0.decide' n layout differ).Canon := by
  unfold State.decide'
  extract_lets _ _ _ _ _ s1 s2 s3
  have hs1 : s1.Canon := foldl_canon h (fun _ ht _ => State.noteInjected_canon ht)
  clear_value s1
  have hs2 : s2.Canon := foldl_canon hs1 (fun _ ht _ => State.forgive_canon ht)
  clear_value s2
  have hs3 : s3.Canon := State.put_canon (foldl_canon hs2 (fun _ ht _ => State.carryTick_canon ht))
  clear_value s3
  split
  · extract_lets voted _ _ _ s4 _ _ s5 s6 _ s7
    have hs4 : s4.Canon := canon_of_fields hs3
    clear_value s4
    have hs5 : s5.Canon := foldl_canon hs4 (fun _ ht _ => State.noteSlot_canon ht)
    clear_value s5
    have hs6 : s6.Canon := State.missed_canon hs5
    clear_value s6
    have hs7 : s7.Canon := by
      unfold s7
      split
      · extract_lets src
        have hsrc : src.Canon := State.raise1_canon (State.event_canon (State.count_canon hs6))
        clear_value src
        exact canon_of_fields hsrc
      · exact ite_canon (State.coldRestart_canon (State.raise1_canon (State.event_canon (State.count_canon hs6)))) hs6
    clear_value s7
    clear_value voted
    split
    · extract_lets s5'1 s6'1 s7'1 s8
      have hs5'1 : s5'1.Canon := State.decided_canon (canon_of_fields hs4)
      clear_value s5'1
      have hs6'1 : s6'1.Canon := foldl_canon hs5'1 (fun _ ht _ => State.benchVote_canon ht)
      clear_value s6'1
      have hs7'1 : s7'1.Canon := foldl_canon hs6'1 (fun _ ht _ => State.noteSlot_canon ht)
      clear_value s7'1
      have hs8 : s8.Canon := State.noteCle_canon hs7'1
      clear_value s8
      exact State.restartIfShort_canon (foldl_canon hs8 (fun _ ht _ => State.verify_canon ht))
    · exact State.restartIfShort_canon (foldl_canon hs7 (fun _ ht _ => State.verify_canon ht))

theorem State.benchesAt_canon {s : State} {n : Nat} (h : s.Canon) : (s.benchesAt n).Canon := by
  unfold State.benchesAt
  exact ite_canon (State.dueBenches_canon h) h

theorem State.settleNone_canon {s : State} {n : Nat} (h : s.Canon) : (s.settleNone n).Canon := by
  unfold State.settleNone
  extract_lets
  exact canon_of_fields h

theorem State.settleVote_canon {s : State} {n : Nat} {differ : Option Nat} (h : s.Canon) : (s.settleVote n differ).Canon := by
  unfold State.settleVote
  refine ite_canon (State.restartIfShort_canon (State.settleIdle_canon h)) ?_
  refine ite_canon ?_ ?_
  · exact State.restartIfShort_canon (ite_canon (State.missed_canon (State.settleNone_canon h)) (State.settleNone_canon h))
  · split
    · exact State.restartIfShort_canon (State.settleIdle_canon h)
    · exact ite_canon (State.restartIfShort_canon (State.settleIdle_canon h)) (State.decide'_canon h)

theorem vote_canon {differ : Option Nat} {s : State} (h : s.Canon) : (vote differ s).Canon := by
  unfold vote
  extract_lets
  exact ite_canon h (State.settleVote_canon (State.benchesAt_canon (State.advance_canon h)))

theorem rodSelftestDone_canon {r : Nat} {pass : Bool} {s : State} (h : s.Canon) : (rodSelftestDone r pass s).Canon := by
  unfold rodSelftestDone
  refine ite_canon h ?_
  refine ite_canon (State.moveRod_canon h) ?_
  exact State.checkRestart_canon (State.raiseAt_canon (State.event_canon (State.moveRod_canon (State.raiseAt_canon (State.event_canon h)))))

theorem rodCopyRoundEnd_canon {r written : Nat} {uncorr : Bool} {s : State} (h : s.Canon) : (rodCopyRoundEnd r written uncorr s).Canon := by
  unfold rodCopyRoundEnd
  refine ite_canon h ?_
  extract_lets _ s1
  have hs1 : s1.Canon := State.put_canon h
  refine ite_canon (State.reintFail_canon hs1) ?_
  exact ite_canon (State.setRod_canon hs1) (ite_canon (State.reintFail_canon hs1) (State.put_canon hs1))

theorem rodCopyFinalRound_canon {r written : Nat} {uncorr : Bool} {s : State} (h : s.Canon) : (rodCopyFinalRound r written uncorr s).Canon := by
  unfold rodCopyFinalRound
  refine ite_canon h ?_
  split
  · exact State.reintFail_canon h
  · extract_lets _ _ _ _ s1
    have hs1 : s1.Canon := State.setRod_canon h
    refine ite_canon (State.reintFail_canon h) ?_
    refine ite_canon h ?_
    refine ite_canon (ite_canon (State.reintFail_canon h) (State.put_canon (State.setRod_canon h))) ?_
    exact State.moveRod_canon (State.put_canon (State.put_canon hs1))

theorem State.startRods_canon {s : State} {rods : List Nat} {start : RodState} {fresh : Bool}
    (h : s.Canon) : (s.startRods rods start fresh).Canon := by
  unfold State.startRods
  extract_lets s1
  have hs1 : s1.Canon := foldl_canon h (fun _ ht _ => State.moveRod_canon (State.setRod_canon ht))
  exact canon_of_fields hs1

theorem State.restartRods_canon {s : State} {fromPartner : Option RodState} (h : s.Canon) : (s.restartRods fromPartner).Canon := by
  unfold State.restartRods
  extract_lets
  exact ite_canon h (State.clearFault_canon (State.event_canon (State.put_canon (State.startRods_canon h))))

theorem State.enableRodsAt_canon {s : State} (h : s.Canon) : (s.enableRodsAt).Canon := by
  unfold State.enableRodsAt
  extract_lets _ _ s1 s2
  have hs1 : s1.Canon := canon_of_fields h
  have hs2 : s2.Canon := foldl_canon hs1 (fun _ ht _ => State.raiseAt_canon (State.event_canon (State.moveRod_canon ht)))
  exact State.startRods_canon hs2

theorem State.rodBoundary_canon {s : State} {fromPartner : Option RodState} (h : s.Canon) : (s.rodBoundary fromPartner).Canon := by
  unfold State.rodBoundary
  extract_lets s1 _ s2 s3
  have hs1 : s1.Canon := ite_canon (State.enableRodsAt_canon h) h
  have hs2 : s2.Canon := foldl_canon (canon_of_fields hs1) (fun _ ht _ => ite_canon (State.rejoin_canon ht) ht)
  have hs3 : s3.Canon := State.restartRods_canon hs2
  refine ite_canon ?_ hs3
  exact foldl_canon hs3 (fun _ ht _ => State.setRod_canon (State.put_canon (State.put_canon (State.event_canon (State.moveRod_canon ht)))))

theorem rodEnableChange_canon {en : Bool} {s : State} (h : s.Canon) : (rodEnableChange en s).Canon := by
  unfold rodEnableChange
  extract_lets _ s1 _ s2 src
  have hs1 : s1.Canon := State.putFlag_canon h
  have hs2 : s2.Canon := foldl_canon hs1 (fun _ ht _ => State.moveRod_canon (State.setRod_canon ht))
  have hsrc : src.Canon := State.put_canon hs2
  exact ite_canon (State.reject_canon h) (ite_canon (canon_of_fields hs1) (ite_canon (canon_of_fields hsrc) hs1))

theorem rodRearm_canon {r : Nat} {s : State} (h : s.Canon) : (rodRearm r s).Canon := by
  unfold rodRearm
  refine ite_canon h ?_
  refine ite_canon (State.reject_canon h) ?_
  refine ite_canon h ?_
  exact State.moveRod_canon (State.count_canon (State.clearFault_canon (State.put_canon (State.setRod_canon h))))

theorem beamSelftest_canon {failed : Option Nat} {s : State} (h : s.Canon) : (beamSelftest failed s).Canon := by
  unfold beamSelftest
  refine ite_canon h ?_
  extract_lets s1 _ _ src s2 s3
  have hs1 : s1.Canon := State.putFlag_canon (State.countMod_canon h)
  have hsrc : src.Canon := State.event_canon (State.count_canon hs1)
  have hs2 : s2.Canon := canon_of_fields hsrc
  have hs3 : s3.Canon := State.raiseAt_canon (State.event_canon hs2)
  split
  · exact State.clearFault_canon (canon_of_fields hs1)
  · exact ite_canon (State.raise1_canon hs3) hs3

theorem State.setWatch_canon {s : State} {w : SubWatch} (h : s.Canon) : (s.setWatch w).Canon := by
  unfold State.setWatch
  exact canon_of_fields h

theorem State.watchNew_canon {s : State} {old new : List SubView} (h : s.Canon) : (s.watchNew old new).Canon := by
  unfold State.watchNew
  exact foldl_canon h (fun _ ht _ => State.setWatch_canon ht)

theorem State.applySubs_canon {s : State} (h : s.Canon) : (s.applySubs).Canon := by
  unfold State.applySubs
  extract_lets _ _ _ _ s1 s2
  have hs1 : s1.Canon := State.watchNew_canon (canon_of_fields h)
  have hs2 : s2.Canon := State.put_canon (State.put_canon hs1)
  exact foldl_canon hs2 (fun _ ht _ => ite_canon ht (State.put_canon ht))

theorem State.svUnexpected_canon {s : State} {n : Nat} (h : s.Canon) : (s.svUnexpected n).Canon := by
  unfold State.svUnexpected
  exact State.eventIf_canon (State.countMod_canon h)

theorem State.svDuplicate_canon {s : State} {n : Nat} (h : s.Canon) : (s.svDuplicate n).Canon := by
  unfold State.svDuplicate
  exact State.countMod_canon h

theorem State.svInvalid_canon {s : State} {k reason n : Nat} (h : s.Canon) : (s.svInvalid k reason n).Canon := by
  unfold State.svInvalid
  refine ite_canon h ?_
  extract_lets s1 _ _ s2
  have hs1 : s1.Canon := State.put_canon (State.countBy_canon (State.countMod_canon h))
  have hs2 : s2.Canon := State.setWatch_canon (State.eventIf_canon hs1)
  exact ite_canon (State.raiseAt_canon hs2) hs2

theorem State.svLate_canon {s : State} {k n : Nat} (h : s.Canon) : (s.svLate k n).Canon := by
  unfold State.svLate
  refine ite_canon h ?_
  extract_lets s1 _ _ s2
  have hs1 : s1.Canon := State.event_canon (State.countMod_canon h)
  have hs2 : s2.Canon := State.setWatch_canon hs1
  exact ite_canon (State.raiseAt_canon hs2) hs2

theorem State.svHold_canon {s : State} {sub k base : Nat} {syncq testOk : Bool} {x : List (Int × Nat)}
    (h : s.Canon) : (s.svHold sub k base syncq testOk x).Canon := by
  induction x generalizing s sub k base syncq testOk with
  | nil => exact h
  | cons x l ih =>
    obtain ⟨v, q⟩ := x
    rw [State.svHold]
    refine ite_canon (ih (State.svInvalid_canon h)) ?_
    refine ite_canon (ih (State.svDuplicate_canon h)) ?_
    exact ih (State.setWatch_canon (State.countMod_canon (canon_of_fields h)))

theorem State.svLateAsdu_canon {s : State} {sub : Nat} {testOk : Bool} {data : List (Int × Nat)}
    (h : s.Canon) : (s.svLateAsdu sub testOk data).Canon := by
  unfold State.svLateAsdu
  extract_lets
  exact State.svLate_canon (State.svInvalid_canon h)

theorem State.svArrive_canon {s : State} {k a : Nat} (h : s.Canon) : (s.svArrive k a).Canon := by
  unfold State.svArrive
  extract_lets
  exact State.put_canon (State.put_canon h)

theorem State.svAsdu_canon {s : State} {fr : SvFrame} {k reason nch : Nat} {a : Option Asdu} (h : s.Canon) : (s.svAsdu fr k reason nch a).Canon := by
  unfold State.svAsdu
  extract_lets smp
  clear_value smp
  split
  · exact ite_canon (State.svDuplicate_canon h) (State.svInvalid_canon h)
  · refine ite_canon (ite_canon (State.svDuplicate_canon h) (State.svInvalid_canon h)) ?_
    extract_lets _ s1 _ _ s1'1
    have hs1 : s1.Canon := ite_canon (State.svArrive_canon h) h
    have hs1'1 : s1'1.Canon := ite_canon (State.svUnexpected_canon hs1) hs1
    refine ite_canon hs1'1 ?_
    refine ite_canon (State.svDuplicate_canon hs1'1) ?_
    exact ite_canon (State.svInvalid_canon hs1'1) (ite_canon (State.svLateAsdu_canon hs1'1) (State.svHold_canon hs1'1))

theorem State.svReceived_canon {s : State} {n : Nat} (h : s.Canon) : (s.svReceived n).Canon := by
  unfold State.svReceived
  exact canon_of_fields h

theorem State.dupTaken_canon {s : State} {dup : Bool} (h : s.Canon) : (s.dupTaken dup).Canon := by
  unfold State.dupTaken
  exact ite_canon (canon_of_fields h) h

theorem State.svTake_canon {s0 : State} {fr : SvFrame} (h : s0.Canon) : (s0.svTake fr).Canon := by
  unfold State.svTake
  split
  · extract_lets
    exact State.svUnexpected_canon (State.svReceived_canon h)
  · extract_lets _ _ s0'1 _ s1
    have hs0'1 : s0'1.Canon := State.svReceived_canon h
    have hs1 : s1.Canon := State.keyRefused_canon hs0'1
    exact ite_canon (State.svUnexpected_canon hs0'1) (foldl_canon hs1 (fun _ ht _ => State.svAsdu_canon ht))

theorem svIntake_canon {fr : SvFrame} {s : State} (h : s.Canon) : (svIntake fr s).Canon := by
  unfold svIntake
  exact State.svTake_canon (State.dupTaken_canon (State.advance_canon h))

theorem gooseIntake_canon {fr : GooseFrame} {s : State} (h : s.Canon) : (gooseIntake fr s).Canon := by
  unfold gooseIntake
  extract_lets s0
  have hs0 : s0.Canon := State.advance_canon h
  split
  · exact State.count_canon hs0
  · extract_lets _ _ s1
    have hs1 : s1.Canon := State.keyRefused_canon hs0
    refine ite_canon (State.count_canon hs1) ?_
    exact ite_canon (State.count_canon hs1) (State.clearFault_canon (State.count_canon (canon_of_fields hs1)))

theorem gsubInstall_canon {index : Nat} {s : State} (h : s.Canon) : (gsubInstall index s).Canon := by
  unfold gsubInstall
  extract_lets
  refine ite_canon (State.reject_canon h) ?_
  refine ite_canon (State.reject_canon h) ?_
  exact ite_canon (State.reject_canon (State.event_canon h)) (State.clearFault_canon (canon_of_fields h))

theorem gsubRead_canon {index : Nat} {s : State} (h : s.Canon) : (gsubRead index s).Canon := by
  unfold gsubRead
  extract_lets
  exact ite_canon (State.reject_canon h) (foldl_canon h (fun _ ht _ => State.put_canon ht))

theorem State.applyGsubs_canon {s : State} (h : s.Canon) : (s.applyGsubs).Canon := by
  unfold State.applyGsubs
  extract_lets _ _ _ s1
  have hs1 : s1.Canon := canon_of_fields h
  exact foldl_canon hs1 (fun _ ht _ => State.put_canon ht)

theorem State.showOpen_canon {s : State} (h : s.Canon) : (s.showOpen).Canon := by
  unfold State.showOpen
  extract_lets
  exact State.put_canon h

theorem State.countSub_canon {s : State} {v : SubView} {l : List (ImgChan × Option ChanHist × Bool)} (h : s.Canon) : (s.countSub v l).Canon := by
  unfold State.countSub
  extract_lets _ _ s1 s2 s3 _ s4
  have hs1 : s1.Canon := State.countMod_canon (State.countMod_canon (State.countMod_canon h))
  have hs2 : s2.Canon := State.put_canon hs1
  have hs3 : s3.Canon := ite_canon hs2 (State.eventIf_canon (State.countBy_canon hs2))
  have hs4 : s4.Canon := State.setWatch_canon hs3
  exact ite_canon hs3 (State.clearFault_canon (State.clearFault_canon hs4))

theorem State.release_canon {s : State} {n : Nat} (h : s.Canon) : (s.release n).1.Canon := by
  unfold State.release
  extract_lets _ _ _ _ _ _ s1 _ _ _ _ _ _ s2 s3
  have hs1 : s1.Canon := foldl_canon h (fun _ ht _ => State.countSub_canon ht)
  have hs2 : s2.Canon := State.put_canon (State.put_canon (canon_of_fields hs1))
  have hs3 : s3.Canon := State.showOpen_canon (State.put_canon hs2)
  exact foldl_canon hs3 (fun _ ht _ => State.raiseAt_canon (State.event_canon ht))

theorem State.discardOpen_canon {s : State} (h : s.Canon) : (s.discardOpen).Canon := by
  unfold State.discardOpen
  extract_lets _ _ s1 s2
  have hs1 : s1.Canon := State.put_canon (State.eventIf_canon (State.countMod_canon h))
  have hs2 : s2.Canon := State.eventIf_canon (State.countBy_canon hs1)
  exact canon_of_fields hs2

theorem sviEnable_canon {s : State} (h : s.Canon) : (sviEnable s).Canon := by
  unfold sviEnable
  refine ite_canon (State.reject_canon h) ?_
  exact ite_canon h (ite_canon (State.reject_canon h) (State.put_canon (canon_of_fields h)))

theorem sviDisable_canon {s : State} (h : s.Canon) : (sviDisable s).Canon := by
  unfold sviDisable
  refine ite_canon (State.reject_canon h) ?_
  refine ite_canon h ?_
  refine ite_canon (State.reject_canon h) ?_
  extract_lets s1
  have hs1 : s1.Canon := ite_canon (State.discardOpen_canon h) h
  exact State.showOpen_canon (State.put_canon (canon_of_fields hs1))

theorem State.applyEnable_canon {s : State} {e : Nat} (h : s.Canon) : (s.applyEnable e).1.Canon := by
  unfold State.applyEnable
  extract_lets _ _ _ _ _ _ s0 s1
  have hs0 : s0.Canon := State.watchNew_canon h
  have hs1 : s1.Canon := ite_canon hs0 (foldl_canon hs0 (fun _ ht _ => State.moveSlot_canon ht))
  exact canon_of_fields hs1

theorem State.emptyHistories_canon {s : State} (h : s.Canon) : (s.emptyHistories).Canon := by
  unfold State.emptyHistories
  exact canon_of_fields h

theorem State.modEnabled_canon {s : State} (h : s.Canon) : (s.modEnabled).Canon := by
  unfold State.modEnabled
  extract_lets src
  have hsrc : src.Canon := State.emptyHistories_canon h
  exact canon_of_fields hsrc

theorem State.applyCorr_canon {s : State} {l : List (Nat × Int)} (h : s.Canon) : (s.applyCorr l).Canon := by
  unfold State.applyCorr
  exact foldl_canon h (fun _ ht _ => State.put_canon (State.put_canon ht))

theorem State.placeFine_canon {s : State} {n : Nat} {ins : List FineIn} (h : s.Canon) : (s.placeFine n ins).Canon := by
  unfold State.placeFine
  extract_lets _ s1 _ s2
  have hs1 : s1.Canon := by
    unfold s1
    split
    · refine ite_canon ?_ h
      extract_lets src
      have hsrc : src.Canon := State.applyCorr_canon h
      exact canon_of_fields hsrc
    · exact h
  have hs2 : s2.Canon := foldl_canon hs1 (fun _ ht _ => State.putFlag_canon (State.putFlag_canon (State.put_canon ht)))
  exact State.eventIf_canon (canon_of_fields hs2)

theorem sampleInstant_canon {di : Nat} {fine : List FineIn} {s : State} (h : s.Canon) : (sampleInstant di fine s).Canon := by
  unfold sampleInstant
  refine ite_canon h ?_
  extract_lets _ s1 _ s2 _ s3
  have hs1 : s1.Canon := State.advance_canon h
  have hs2 : s2.Canon := canon_of_fields hs1
  have hs3 : s3.Canon := State.showOpen_canon (canon_of_fields hs2)
  exact ite_canon (State.placeFine_canon hs3) hs3

theorem modTempEval_canon {s : State} (h : s.Canon) : (modTempEval s).Canon := by
  unfold modTempEval
  refine ite_canon h ?_
  refine ite_canon ?_ ?_
  · extract_lets s1
    have hs1 : s1.Canon := ite_canon h (State.event_canon h)
    exact State.raise1_canon (State.put_canon (canon_of_fields hs1))
  · extract_lets _ _ _ s1 s2
    have hs1 : s1.Canon := canon_of_fields h
    have hs2 : s2.Canon := State.clearCode_canon (State.put_canon (State.put_canon hs1))
    exact ite_canon (canon_of_fields hs2) (State.applyCorr_canon hs2)

theorem modChannelFault_canon {c : Nat} {ev : ModEvent} {s : State} (h : s.Canon) : (modChannelFault c ev s).Canon := by
  unfold modChannelFault
  extract_lets
  split
  · exact ite_canon (State.event_canon (State.count_canon (State.put_canon h))) h
  · exact ite_canon (State.put_canon h) h
  · exact ite_canon (State.event_canon (State.count_canon (State.put_canon h))) h
  · exact ite_canon (State.put_canon h) h
  · exact ite_canon (State.raiseAt_canon h) h
  · exact ite_canon (State.raiseAt_canon h) h
  · exact ite_canon (State.raiseAt_canon h) h

theorem State.adcStart_canon {s : State} {tau : Nat} {delayed : Bool} (h : s.Canon) : (s.adcStart tau delayed).Canon := by
  unfold State.adcStart
  refine ite_canon (State.event_canon (State.count_canon h)) ?_
  extract_lets s1
  have hs1 : s1.Canon := ite_canon (State.count_canon h) h
  exact State.put_canon (State.put_canon (canon_of_fields hs1))

theorem adcTrigger_canon {trig : AdcTrig} {start : Nat} {delayed : Bool} {s : State} (h : s.Canon) : (adcTrigger trig start delayed s).Canon := by
  unfold adcTrigger
  exact ite_canon (State.adcStart_canon h) h

theorem adcCmdTrig_canon {start : Nat} {delayed : Bool} {s : State} (h : s.Canon) : (adcCmdTrig start delayed s).Canon := by
  unfold adcCmdTrig
  exact ite_canon (State.reject_canon h) (ite_canon (State.adcStart_canon h) h)

theorem adcCmdStop_canon {s : State} (h : s.Canon) : (adcCmdStop s).Canon := by
  unfold adcCmdStop
  exact ite_canon (State.reject_canon h) (ite_canon (canon_of_fields h) h)

theorem State.adcInput_canon {s : State} {seq : Nat} {codes : List (Nat × List Int)} {i : Nat} (h : s.Canon) : (s.adcInput seq codes i).Canon := by
  unfold State.adcInput
  extract_lets _ _ _ s1 _ _ s2
  have hs1 : s1.Canon := State.put_canon (State.putFlag_canon (State.put_canon h))
  have hs2 : s2.Canon := canon_of_fields hs1
  exact ite_canon (State.event_canon (ite_canon (State.raiseAt_canon hs2) hs2)) (State.clearFault_canon hs2)

theorem adcResult_canon {codes : List (Nat × List Int)} {s : State} (h : s.Canon) : (adcResult codes s).Canon := by
  unfold adcResult
  refine ite_canon h ?_
  extract_lets _ s1 _ s2 s3
  have hs1 : s1.Canon := State.countMod_canon (State.advance_canon h)
  have hs2 : s2.Canon := State.put_canon (foldl_canon hs1 (fun _ ht _ => State.adcInput_canon ht))
  have hs3 : s3.Canon := State.event_canon hs2
  exact ite_canon (canon_of_fields hs3) (State.put_canon (State.put_canon (canon_of_fields hs3)))

theorem State.monitor_canon {s : State} {m : Nat} {v : Int} (h : s.Canon) : (s.monitor m v).Canon := by
  unfold State.monitor
  extract_lets _ s1 s2 _ _ _ _ s3
  have hs1 : s1.Canon := State.putFlag_canon (State.put_canon h)
  have hs2 : s2.Canon := ite_canon (State.put_canon hs1) hs1
  have hs3 : s3.Canon := canon_of_fields hs2
  exact ite_canon (State.raiseAt_canon (State.eventIf_canon hs3)) (ite_canon (State.clearFault_canon hs3) hs3)

theorem adcMonitorPair_canon {readings : List (Nat × Int)} {s : State} (h : s.Canon) : (adcMonitorPair readings s).Canon := by
  unfold adcMonitorPair
  refine ite_canon h ?_
  extract_lets s1
  have hs1 : s1.Canon := foldl_canon h (fun _ ht _ => ite_canon (State.monitor_canon ht) ht)
  exact ite_canon (canon_of_fields hs1) hs1

theorem State.stray_canon {s : State} {slice : Nat} (h : s.Canon) : (s.stray slice).Canon := by
  unfold State.stray
  exact State.count_canon (State.put_canon h)

theorem State.dbBad_canon {s : State} {r : Nat} (h : s.Canon) : (s.dbBad r).Canon := by
  unfold State.dbBad
  exact State.eventIf_canon (State.count_canon (State.put_canon h))

theorem State.backPressure_canon {s : State} {x : RingRec} (h : s.Canon) : (s.backPressure x).Canon := by
  unfold State.backPressure
  extract_lets
  exact ite_canon h (ite_canon (State.put_canon h) (ite_canon (State.put_canon h) h))

theorem State.evqPut_canon {s : State} {r : Nat} {i : EvqItem} (h : s.Canon) : (s.evqPut r i).Canon := by
  unfold State.evqPut
  split
  · exact h
  · extract_lets _ s1
    have hs1 : s1.Canon := State.put_canon (State.setRing_canon h)
    split
    · rename_i _ s2 e
      have hs2 : s2.Canon := canon_snd e (State.wroteBack_canon hs1)
      exact State.dmaOut_canon hs2

theorem State.evqFlush_canon {s : State} {r x : Nat} (h : s.Canon) : (s.evqFlush r x).Canon := by
  induction x generalizing s r with
  | zero => exact h
  | succ k ih =>
    rw [State.evqFlush]
    split
    · exact h
    · refine ite_canon h ?_
      split
      · exact ih (State.evqPut_canon (State.setRing_canon h))
      · exact ite_canon h (State.evqPut_canon (State.setRing_canon h))

theorem State.evqOffer_canon {s : State} {r : Nat} {i : EvqItem} (h : s.Canon) : (s.evqOffer r i).Canon := by
  unfold State.evqOffer
  split
  · exact h
  · extract_lets _ s1
    have hs1 : s1.Canon := State.setRing_canon h
    refine ite_canon (State.evqPut_canon hs1) ?_
    exact ite_canon (State.setRing_canon hs1) (State.countFor_canon (State.setRing_canon hs1))

theorem evqWrite_canon {s : State} (h : s.Canon) : (evqWrite s).Canon := by
  unfold evqWrite
  split
  · exact h
  · extract_lets s0
    have hs0 : s0.Canon := canon_of_fields h
    exact foldl_canon hs0 (fun _ ht _ => State.evqOffer_canon ht)

theorem doorbell_canon {slice k data : Nat} {s : State} (h : s.Canon) : (doorbell slice k data s).Canon := by
  unfold doorbell
  split
  · exact State.stray_canon h
  · extract_lets
    refine ite_canon (State.stray_canon h) ?_
    refine ite_canon (State.dbBad_canon h) ?_
    refine ite_canon h ?_
    refine ite_canon (ite_canon (State.evqFlush_canon (State.put_canon h)) (State.dbBad_canon h)) ?_
    exact ite_canon (State.backPressure_canon (State.put_canon h)) (State.dbBad_canon h)

theorem evclr_canon {slice k data : Nat} {s : State} (h : s.Canon) : (evclr slice k data s).Canon := by
  unfold evclr
  split
  · exact State.stray_canon h
  · exact ite_canon (State.stray_canon h) (ite_canon (State.put_canon h) h)

theorem evtSrcWrite_canon {i : Nat} {data : Word} {s : State} (h : s.Canon) : (evtSrcWrite i data s).Canon := by
  unfold evtSrcWrite
  refine ite_canon h ?_
  refine ite_canon (State.reject_canon h) ?_
  refine ite_canon (State.reject_canon h) ?_
  extract_lets _ s1
  have hs1 : s1.Canon := State.put_canon (State.put_canon (State.put_canon h))
  exact ite_canon (State.signal_canon hs1) hs1

theorem State.flushMsix_canon {s : State} {v : Nat} (h : s.Canon) : (s.flushMsix v).Canon := by
  unfold State.flushMsix
  exact ite_canon (State.emit_canon (State.put_canon h)) h

theorem State.flushAll_canon {s : State} (h : s.Canon) : (s.flushAll).Canon := by
  unfold State.flushAll
  exact foldl_canon h (fun _ ht _ => State.flushMsix_canon ht)

theorem msixVectorUnmask_canon {v : Nat} {s : State} (h : s.Canon) : (msixVectorUnmask v s).Canon := by
  unfold msixVectorUnmask
  exact ite_canon h (State.flushMsix_canon (State.put_canon h))

theorem State.poolRings_canon {s : State} {d : Int} (h : s.Canon) : (s.poolRings d).Canon := by
  unfold State.poolRings
  exact State.put_canon h

theorem State.startRing_canon {s : State} {x : RingRec} (h : s.Canon) : (s.startRing x).Canon := by
  unfold State.startRing
  extract_lets _ s1 s2
  have hs1 : s1.Canon := State.setRing_canon (State.wr_canon (State.wr_canon h))
  have hs2 : s2.Canon := State.put_canon (State.poolRings_canon (State.take_canon hs1))
  exact State.clearFault_canon (State.clearFault_canon hs2)

theorem State.haltRing_canon {s : State} {x : RingRec} (h : s.Canon) : (s.haltRing x).Canon := by
  unfold State.haltRing
  extract_lets _ _ s1
  have hs1 : s1.Canon := State.setRing_canon (canon_of_fields h)
  exact State.wr_canon (State.orphan_canon hs1)

theorem State.dmaStop_canon {s : State} {x : RingRec} {kind addr : Nat} (h : s.Canon) : (s.dmaStop x kind addr).Canon := by
  unfold State.dmaStop
  extract_lets s1 s2
  have hs1 : s1.Canon := State.haltRing_canon h
  have hs2 : s2.Canon := State.event_canon (State.put_canon (State.put_canon (State.put_canon (State.put_canon hs1))))
  exact State.post_canon (State.raise_canon hs2)

theorem State.dmaStopAll_canon {s : State} {p : RingRec → Bool} {kind : Option Nat} (h : s.Canon) : (s.dmaStopAll p kind).Canon := by
  unfold State.dmaStopAll
  exact foldl_canon h (fun _ ht _ => State.drawn_canon (State.dmaStop_canon ht))

theorem ringEnable_canon {r data : Nat} {s : State} (h : s.Canon) : (ringEnable r data s).Canon := by
  unfold ringEnable
  refine ite_canon h ?_
  extract_lets _ _ _ _ s0 s1
  have hs0 : s0.Canon := elim_canon h (fun _ => State.haltRing_canon h)
  have hs1 : s1.Canon := State.startRing_canon (State.wr_canon hs0)
  refine ite_canon (ite_canon (State.reject_canon h) (ite_canon (State.reject_canon h) (State.wr_canon h))) ?_
  refine ite_canon (State.eventIf_canon (State.reject_canon h)) ?_
  exact ite_canon hs1 (State.drawn_canon (State.dmaStop_canon hs1))

theorem ringStopDone_canon {r : Nat} {s : State} (h : s.Canon) : (ringStopDone r s).Canon := by
  unfold ringStopDone
  split
  · exact h
  · refine ite_canon h ?_
    extract_lets s1
    have hs1 : s1.Canon := canon_of_fields h
    exact State.event_canon (State.wr_canon hs1)

theorem coalTimerExpiry_canon {r : Nat} {s : State} (h : s.Canon) : (coalTimerExpiry r s).Canon := by
  unfold coalTimerExpiry
  split
  · exact h
  · exact ite_canon (State.event_canon (State.setRing_canon h)) h

theorem cmdFetch_canon {r opcode version : Nat} {s : State} (h : s.Canon) : (cmdFetch r opcode version s).Canon := by
  unfold cmdFetch
  split
  · exact h
  · refine ite_canon h ?_
    extract_lets _ s1
    have hs1 : s1.Canon := State.put_canon (State.put_canon (State.setRing_canon h))
    exact ite_canon (State.complete_canon hs1) (ite_canon (State.complete_canon hs1) hs1)

theorem ringDmaError_canon {r kind addr : Nat} {s : State} (h : s.Canon) : (ringDmaError r kind addr s).Canon := by
  unfold ringDmaError
  split
  · exact h
  · exact ite_canon (State.dmaStop_canon h) h

theorem State.msixReset_canon {s : State} (h : s.Canon) : (s.msixReset).Canon := by
  unfold State.msixReset
  exact canon_of_filter rfl h

theorem State.ringsCleared_canon {s : State} (h : s.Canon) : (s.ringsCleared).Canon := by
  unfold State.ringsCleared
  exact canon_of_filter rfl h

theorem State.hostReset_canon {s : State} (h : s.Canon) : (s.hostReset).Canon := by
  unfold State.hostReset
  refine ite_canon h ?_
  extract_lets s1 s2
  have hs1 : s1.Canon := by
    unfold s1
    exact foldl_canon h (fun _ ht _ => (by
      extract_lets s1'1
      have hs1'1 : s1'1.Canon := ite_canon (State.poolRings_canon (State.give_canon ht)) ht
      exact State.put_canon (State.haltRing_canon hs1'1)))
  have hs2 : s2.Canon := State.msixReset_canon (State.ringsCleared_canon hs1)
  exact State.put_canon (State.event_canon (State.put_canon (State.put_canon (State.put_canon hs2))))

theorem busMasterDisable_canon {s : State} (h : s.Canon) : (busMasterDisable s).Canon := by
  unfold busMasterDisable
  extract_lets s1
  have hs1 : s1.Canon := State.dmaStopAll_canon (State.put_canon h)
  exact foldl_canon hs1 (fun _ ht _ => State.haltRing_canon ht)

theorem busMasterEnable_canon {pasid : Bool} {s : State} (h : s.Canon) : (busMasterEnable pasid s).Canon := by
  unfold busMasterEnable
  extract_lets s1
  have hs1 : s1.Canon := State.put_canon h
  exact State.flushAll_canon (ite_canon (State.put_canon hs1) hs1)

theorem State.setMb_canon {s : State} {m : MbRec} (h : s.Canon) : (s.setMb m).Canon := by
  unfold State.setMb
  exact canon_of_fields h

theorem State.mbBack_canon {s : State} {k : Nat} {st : Status} (h : s.Canon) : (s.mbBack k st).Canon := by
  unfold State.mbBack
  extract_lets _ _ _ s1
  have hs1 : s1.Canon := State.setMb_canon h
  exact State.eventIf_canon (State.eventIf_canon (State.dmaOut_canon hs1))

theorem State.mbAbort_canon {s : State} {k : Nat} (h : s.Canon) : (s.mbAbort k).Canon := by
  unfold State.mbAbort
  exact foldl_canon h (fun _ ht _ => State.mbBack_canon ht)

theorem State.mbStop_canon {s : State} {k : Nat} (h : s.Canon) : (s.mbStop k).Canon := by
  unfold State.mbStop
  exact ite_canon (State.mbAbort_canon (State.put_canon (State.put_canon h))) h

theorem pasidDisable_canon {s : State} (h : s.Canon) : (pasidDisable s).Canon := by
  unfold pasidDisable
  refine ite_canon h ?_
  extract_lets s1
  have hs1 : s1.Canon := State.dmaStopAll_canon (State.put_canon h)
  exact foldl_canon hs1 (fun _ ht _ => ite_canon ht (State.mbStop_canon ht))

theorem State.pciWrite_canon {s : State} {off : Nat} {w : Word} (h : s.Canon) : (s.pciWrite off w).Canon := by
  unfold State.pciWrite
  extract_lets _ s1
  have hs1 : s1.Canon := State.wr_canon h
  refine ite_canon (ite_canon hs1 (ite_canon (busMasterEnable_canon hs1) (busMasterDisable_canon hs1))) ?_
  refine ite_canon (State.wr_canon h) ?_
  refine ite_canon (State.flushAll_canon (State.wr_canon h)) ?_
  exact ite_canon (State.wr_canon h) (ite_canon (ite_canon h (ite_canon (State.put_canon h) (pasidDisable_canon h))) h)

theorem pcieLinkChange_canon {width speed : Nat} {s : State} (h : s.Canon) : (pcieLinkChange width speed s).Canon := by
  unfold pcieLinkChange
  extract_lets _ s1
  have hs1 : s1.Canon := State.eventIf_canon (State.put_canon (State.put_canon h))
  exact ite_canon (State.clearFault_canon hs1) hs1

theorem pcieLinkDown_canon {s : State} (h : s.Canon) : (pcieLinkDown s).Canon := by
  unfold pcieLinkDown
  exact ite_canon (State.raise1_canon h) h

theorem State.setFrame_canon {s : State} {f : CoreFrame} (h : s.Canon) : (s.setFrame f).Canon := by
  unfold State.setFrame
  exact canon_of_fields h

theorem State.dropFrame_canon {s : State} {id : Nat} (h : s.Canon) : (s.dropFrame id).Canon := by
  unfold State.dropFrame
  exact canon_of_fields h

theorem State.setCopies_canon {s : State} {l : List CoreCopy} (h : s.Canon) : (s.setCopies l).Canon := by
  unfold State.setCopies
  exact canon_of_fields h

theorem State.putCopy_canon {s : State} {c : CoreCopy} (h : s.Canon) : (s.putCopy c).Canon := by
  unfold State.putCopy
  exact State.setCopies_canon h

theorem State.removeCopy_canon {s : State} {c : CoreCopy} (h : s.Canon) : (s.removeCopy c).Canon := by
  unfold State.removeCopy
  exact State.setCopies_canon h

theorem State.setFlow_canon {s : State} {f : Machine.Flow} (h : s.Canon) : (s.setFlow f).Canon := by
  unfold State.setFlow
  exact canon_of_fields h

theorem State.setPausing_canon {s : State} {p m : Nat} (h : s.Canon) : (s.setPausing p m).Canon := by
  unfold State.setPausing
  exact canon_of_fields h

theorem State.macSend_canon {s : State} {p : Nat} {m : MacTx} (h : s.Canon) : (s.macSend p m).Canon := by
  unfold State.macSend
  exact ite_canon (canon_of_fields h) (State.emit_canon h)

theorem State.macFlush_canon {s : State} {p : Nat} (h : s.Canon) : (s.macFlush p).Canon := by
  unfold State.macFlush
  exact foldl_canon (canon_of_fields h) (fun _ ht _ => State.emit_canon ht)

theorem State.sendPause_canon {s : State} {p quanta : Nat} (h : s.Canon) : (s.sendPause p quanta).Canon := by
  unfold State.sendPause
  exact State.macSend_canon (State.count_canon h)

theorem State.sendPfc_canon {s : State} {p classes freed : Nat} (h : s.Canon) : (s.sendPfc p classes freed).Canon := by
  unfold State.sendPfc
  exact State.macSend_canon (State.count_canon h)

theorem State.flowControl_canon {s : State} {p : Nat} (h : s.Canon) : (s.flowControl p).Canon := by
  unfold State.flowControl
  refine ite_canon h ?_
  extract_lets
  refine ite_canon ?_ (ite_canon (ite_canon h (State.sendPfc_canon (State.setPausing_canon h))) h)
  refine ite_canon (State.sendPause_canon (State.setPausing_canon h)) ?_
  exact ite_canon (State.sendPause_canon (State.setPausing_canon h)) h

theorem State.occChanged_canon {s : State} {p : Nat} (h : s.Canon) : (s.occChanged p).Canon := by
  unfold State.occChanged
  exact State.flowControl_canon (State.put_canon h)

theorem State.txFlush_canon {s : State} {r x : Nat} (h : s.Canon) : (s.txFlush r x).Canon := by
  induction x generalizing s r with
  | zero => exact h
  | succ k ih =>
    rw [State.txFlush]
    split
    · exact h
    · split
      · exact h
      · split
        · exact h
        · split
          · rename_i _ s1 e
            have hs1 : s1.Canon := canon_snd e (State.wroteBack_canon (State.setRing_canon h))
            extract_lets s2
            have hs2 : s2.Canon := State.put_canon hs1
            exact ih (State.dmaOut_canon hs2)

theorem State.txComplete_canon {s : State} {r id : Nat} {st : Status} {ts : Option Nat} (h : s.Canon) : (s.txComplete r id st ts).Canon := by
  unfold State.txComplete
  split
  · exact h
  · extract_lets
    exact State.txFlush_canon (State.setRing_canon h)

theorem State.settleFrame_canon {s : State} {id : Nat} (h : s.Canon) : (s.settleFrame id).Canon := by
  unfold State.settleFrame
  split
  · exact h
  · refine ite_canon h ?_
    extract_lets s1
    have hs1 : s1.Canon := State.occChanged_canon (State.dropFrame_canon h)
    split
    · exact hs1
    · refine ite_canon (State.txComplete_canon hs1) ?_
      split
      · exact State.txComplete_canon hs1
      · exact State.txComplete_canon (State.drawn_canon hs1)

theorem State.refuseCopy_canon {s : State} {c : CoreCopy} {why : Option Status} (h : s.Canon) : (s.refuseCopy c why).Canon := by
  unfold State.refuseCopy
  extract_lets s1
  have hs1 : s1.Canon := State.removeCopy_canon h
  split
  · exact hs1
  · extract_lets
    exact State.settleFrame_canon (State.setFrame_canon hs1)

theorem State.releaseCopy_canon {s : State} {c : CoreCopy} {why : Option Status} (h : s.Canon) : (s.releaseCopy c why).Canon := by
  unfold State.releaseCopy
  extract_lets s1
  have hs1 : s1.Canon := State.removeCopy_canon h
  split
  · exact hs1
  · extract_lets
    exact State.settleFrame_canon (State.setFrame_canon hs1)

theorem State.discardCopy_canon {s : State} {c : CoreCopy} {why : Option Status} (h : s.Canon) : (s.discardCopy c why).Canon := by
  unfold State.discardCopy
  exact ite_canon (State.releaseCopy_canon h) (State.refuseCopy_canon h)

theorem State.pubExpired_canon {s : State} {src : Nat} (h : s.Canon) : (s.pubExpired src).Canon := by
  unfold State.pubExpired
  extract_lets _ _ s1 s2
  have hs1 : s1.Canon := canon_of_fields h
  have hs2 : s2.Canon := State.eventIf_canon (State.event_canon (State.count_canon hs1))
  exact ite_canon (State.raiseAt_canon hs2) hs2

theorem State.lateCounted_canon {s : State} {f : CoreFrame} {port : Nat} {late : Bool} (h : s.Canon) : (s.lateCounted f port late).Canon := by
  unfold State.lateCounted
  extract_lets s1
  have hs1 : s1.Canon := ite_canon (State.event_canon (State.count_canon h)) h
  split
  · exact State.pubExpired_canon hs1
  · exact hs1

theorem frameExpiry_canon {frame port : Nat} {s : State} (h : s.Canon) : (frameExpiry frame port s).Canon := by
  unfold frameExpiry
  split
  · refine ite_canon h ?_
    split
    · exact h
    · extract_lets s2 s3
      have hs2 : s2.Canon := State.lateCounted_canon (State.advance_canon h)
      have hs3 : s3.Canon := ite_canon (State.count_canon hs2) hs2
      exact State.discardCopy_canon hs3
  · exact h

theorem State.ingressDrop_canon {s : State} {f : CoreFrame} (h : s.Canon) : (s.ingressDrop f).Canon := by
  unfold State.ingressDrop
  extract_lets s1
  have hs1 : s1.Canon := State.count_canon h
  exact ite_canon (State.raiseAt_canon (State.event_canon hs1)) hs1

theorem State.coreIn_canon {s : State} {f : CoreFrame} {ports : List Nat} (h : s.Canon) : (s.coreIn f ports).1.Canon := by
  unfold State.coreIn
  split
  · exact State.ingressDrop_canon h
  · extract_lets _ _ _ _ s1 s2
    have hs1 : s1.Canon := canon_of_fields h
    have hs2 : s2.Canon := by
      unfold s2
      exact foldl_canon hs1 (fun _ ht _ => (by
        extract_lets _ s1'1
        have hs1'1 : s1'1.Canon := State.setFlow_canon ht
        exact State.setCopies_canon hs1'1))
    exact State.occChanged_canon hs2

theorem State.coreEnter_canon {s : State} {f : CoreFrame} {ports : List Nat} (h : s.Canon) : (s.coreEnter f ports).1.Canon := by
  unfold State.coreEnter
  split
  · rename_i s1 _ e
    have hs1 : s1.Canon := canon_fst e (State.coreIn_canon h)
    split
    · exact ite_canon (State.settleFrame_canon hs1) hs1
    · exact hs1

theorem State.meter_canon {s : State} {p tc len now : Nat} (h : s.Canon) : (s.meter p tc len now).1.Canon := by
  unfold State.meter
  extract_lets
  split
  · exact h
  · split
    · exact canon_of_fields h

theorem State.numberPairs_canon {s : State} {ports : List Nat} (h : s.Canon) : (s.numberPairs ports).1.Canon := by
  unfold State.numberPairs
  exact foldl_fst_canon h (fun _ ht _ => (by
    extract_lets _ src
    have hsrc : src.Canon := ht
    exact canon_of_fields hsrc))

theorem State.admitCopy_canon {s : State} {c : CoreCopy} {draw : Nat} (h : s.Canon) : (s.admitCopy c draw).Canon := by
  unfold State.admitCopy
  split
  · exact State.removeCopy_canon h
  · extract_lets
    refine ite_canon (State.refuseCopy_canon (State.count_canon h)) ?_
    refine ite_canon (State.refuseCopy_canon (State.lateCounted_canon (State.count_canon h))) ?_
    split
    · extract_lets s1 _ _ s2
      have hs1 : s1.Canon := ite_canon (canon_of_fields h) h
      have hs2 : s2.Canon := State.putCopy_canon (canon_of_fields hs1)
      refine ite_canon (State.refuseCopy_canon (State.count_canon hs1)) ?_
      exact ite_canon (State.refuseCopy_canon (State.count_canon hs1)) (State.setFrame_canon hs2)

theorem State.releaseHeld_canon {s : State} {key x : Nat} {x1 : List Nat} (h : s.Canon) : (s.releaseHeld key x x1).Canon := by
  induction x generalizing s key x1 with
  | zero => exact h
  | succ k ih =>
    rw [State.releaseHeld]
    split
    · exact h
    · exact ih (State.admitCopy_canon (State.setFlow_canon h))

theorem egressAdmit_canon {frame port : Nat} {draws : List Nat} {s : State} (h : s.Canon) : (egressAdmit frame port draws s).Canon := by
  unfold egressAdmit
  split
  · exact h
  · refine ite_canon h ?_
    extract_lets _ _ _ s1
    have hs1 : s1.Canon := State.setFlow_canon h
    refine ite_canon (State.releaseHeld_canon (State.admitCopy_canon hs1)) ?_
    exact ite_canon (State.putCopy_canon h) (State.refuseCopy_canon (State.count_canon h))

theorem reseqTimeout_canon {port src tc : Nat} {draws : List Nat} {s : State} (h : s.Canon) : (reseqTimeout port src tc draws s).Canon := by
  unfold reseqTimeout
  extract_lets
  split
  · exact h
  · extract_lets s1
    have hs1 : s1.Canon := State.eventIf_canon (State.countBy_canon h)
    exact State.releaseHeld_canon (State.setFlow_canon hs1)

theorem planeError_canon {plane frame : Nat} {s : State} (h : s.Canon) : (planeError plane frame s).Canon := by
  unfold planeError
  refine ite_canon h ?_
  extract_lets _ _ _ _ s1 s2 _ s3
  have hs1 : s1.Canon := canon_of_fields h
  have hs2 : s2.Canon := ite_canon (State.put_canon hs1) hs1
  have hs3 : s3.Canon := foldl_canon hs2 (fun _ ht _ => State.refuseCopy_canon ht)
  exact State.raiseAt_canon (State.event_canon hs3)

theorem State.flushPort_canon {s : State} {p : Nat} (h : s.Canon) : (s.flushPort p).Canon := by
  unfold State.flushPort
  extract_lets _ s1
  have hs1 : s1.Canon := State.countBy_canon (State.put_canon h)
  exact State.event_canon (foldl_canon hs1 (fun _ ht _ => State.releaseCopy_canon ht))

theorem State.cutTransmission_canon {s : State} {p : Nat} (h : s.Canon) : (s.cutTransmission p).Canon := by
  unfold State.cutTransmission
  exact foldl_canon (canon_of_fields h) (fun _ ht _ => State.releaseCopy_canon (State.count_canon ht))

theorem State.linkHold_canon {s : State} {p : Nat} (h : s.Canon) : (s.linkHold p).Canon := by
  unfold State.linkHold
  extract_lets s1
  have hs1 : s1.Canon := State.cutTransmission_canon h
  exact ite_canon (State.flushPort_canon hs1) (State.event_canon (State.put_canon hs1))

theorem State.stopQueues_canon {s : State} {p : Nat} (h : s.Canon) : (s.stopQueues p).Canon := by
  unfold State.stopQueues
  exact State.flushPort_canon (State.cutTransmission_canon h)

theorem linkHoldEnd_canon {port : Nat} {s : State} (h : s.Canon) : (linkHoldEnd port s).Canon := by
  unfold linkHoldEnd
  exact ite_canon (State.flushPort_canon h) h

theorem State.injSelect_canon {s : State} {tx : Bool} {port tc slice ring : Nat} {luck : List Nat}
    (h : s.Canon) : (s.injSelect tx port tc slice ring luck).1.Canon := by
  unfold State.injSelect
  extract_lets
  exact canon_of_fields h

theorem State.injHit_canon {s : State} {id : Nat} (h : s.Canon) : (s.injHit id).Canon := by
  unfold State.injHit
  extract_lets
  exact State.eventIf_canon (State.countMod_canon (canon_of_fields h))

theorem State.nextCopy_canon {s : State} {p now : Nat} (h : s.Canon) : ∀ t, s.nextCopy p now = some t → t.2.Canon := by
  unfold State.nextCopy
  intro t e
  split at e
  · cases e
    exact h
  · extract_lets at e
    split at e
    · cases e
    · obtain ⟨x, _, rfl⟩ := Option.map_eq_some_iff.1 e
      exact canon_of_fields h

theorem State.dropOversize_canon {s : State} {p : Nat} (h : s.Canon) : (s.dropOversize p).Canon := by
  unfold State.dropOversize
  refine ite_canon h ?_
  exact foldl_canon h (fun _ ht _ => (by
    extract_lets q
    clear_value q
    split
    · exact ht
    · split
      · exact ht
      · exact ite_canon (State.releaseCopy_canon (State.count_canon ht)) ht))

theorem State.fijDue_canon {s : State} {now : Nat} {passed : Option (Bool × Nat × Nat)} (h : s.Canon) : (s.fijDue now passed).1.Canon := by
  unfold State.fijDue
  extract_lets
  exact canon_of_fields h

theorem State.txEnter_canon {s : State} {f : CoreFrame} {port : Nat} (h : s.Canon) : (s.txEnter f port).Canon := by
  unfold State.txEnter
  split
  · extract_lets
    split
    · rename_i s1 _ e
      have hs1 : s1.Canon := canon_fst e (State.numberPairs_canon h)
      extract_lets _ s2
      have hs2 : s2.Canon := by
        unfold s2
        split
        · exact State.setRing_canon hs1
        · exact hs1
      split
      · rename_i s3 _ e1
        have hs3 : s3.Canon := canon_fst e1 (State.coreEnter_canon hs2)
        split
        · exact State.txComplete_canon (canon_of_fields hs3)
        · exact hs3

theorem State.fijSend_canon {s : State} {l : List FijHeld} (h : s.Canon) : (s.fijSend l).Canon := by
  unfold State.fijSend
  exact foldl_canon h (fun _ ht _ => (by
    split
    · exact State.emit_canon ht
    · exact State.txEnter_canon ht
    · exact ht))

theorem State.injTx_canon {s : State} {w : WireTx} {tc now : Nat} {x : List Injection} (h : s.Canon) : (s.injTx w tc now x).1.Canon := by
  induction x generalizing s w tc now with
  | nil => exact h
  | cons x l ih =>
    rw [State.injTx]
    split
    · exact State.injHit_canon h
    · split
      · extract_lets s1
        have hs1 : s1.Canon := State.injHit_canon h
        exact ih hs1
      · split
        · exact ih h
        · extract_lets _ s1
          have hs1 : s1.Canon := State.injHit_canon h
          exact canon_of_fields hs1

theorem State.txStart_canon {s1 : State} {c : CoreCopy} {f : CoreFrame} {p now : Nat} {luck : List Nat}
    (h : s1.Canon) : (s1.txStart c f p now luck).Canon := by
  unfold State.txStart
  refine ite_canon (State.putCopy_canon h) ?_
  extract_lets
  split
  · rename_i s2 _ e
    have hs2 : s2.Canon := canon_fst e (State.fijDue_canon h)
    split
    · rename_i s3 _ e1
      have hs3 : s3.Canon := canon_fst e1 (State.injSelect_canon (State.fijSend_canon hs2))
      split
      · rename_i s4 _ e2
        have hs4 : s4.Canon := canon_fst e2 (State.injTx_canon hs3)
        extract_lets _ s5
        have hs5 : s5.Canon := by
          unfold s5
          split
          · split
            · rename_i s' _ e3
              have hs' : s'.Canon := canon_fst e3 (State.fijDue_canon (State.emit_canon hs4))
              exact State.fijSend_canon hs'
          · exact hs4
        exact ite_canon (State.releaseCopy_canon hs5) (State.putCopy_canon hs5)

theorem frameTransmit_canon {p now : Nat} {luck : List Nat} {s : State} (h : s.Canon) : (frameTransmit p now luck s).Canon := by
  unfold frameTransmit
  refine ite_canon h ?_
  extract_lets s0
  have hs0 : s0.Canon := State.dropOversize_canon (State.advance_canon h)
  split
  · exact hs0
  · rename_i _ s1 e
    have hs1 : s1.Canon := State.nextCopy_canon hs0 _ e
    split
    · exact hs1
    · exact State.txStart_canon hs1

theorem frameTxDone_canon {p now : Nat} {s : State} (h : s.Canon) : (frameTxDone p now s).Canon := by
  obtain ⟨s0, e, hs0⟩ : ∃ t, s.advance (now * nsUnit) = t ∧ t.Canon := ⟨_, rfl, State.advance_canon h⟩
  unfold frameTxDone
  rw [e]
  split
  · exact h
  next c _ =>
    extract_lets
    split
    · exact State.removeCopy_canon hs0
    · exact State.macFlush_canon (State.releaseCopy_canon (State.setFrame_canon
        (canon_of_fields (State.countMod_canon (State.countMod_canon hs0)))))

theorem pfcRequestChange_canon {tc : Nat} {s : State} (h : s.Canon) : (pfcRequestChange tc s).Canon := by
  unfold pfcRequestChange
  refine ite_canon h ?_
  extract_lets _ _ _ s1
  have hs1 : s1.Canon := State.event_canon (canon_of_fields h)
  exact ite_canon h (foldl_canon hs1 (fun _ ht _ => State.flowControl_canon (State.putFlag_canon ht)))

theorem beadAudit_canon {lost doubled : List Nat} {s : State} (h : s.Canon) : (beadAudit lost doubled s).Canon := by
  unfold beadAudit
  extract_lets _ s0
  have hs0 : s0.Canon := canon_of_fields h
  split
  · extract_lets s1 _ _ _ _ s2 s3 s4
    have hs1 : s1.Canon := State.put_canon (State.put_canon (State.put_canon hs0))
    have hs2 : s2.Canon := canon_of_fields hs1
    have hs3 : s3.Canon := by
      unfold s3
      exact foldl_canon hs2 (fun _ ht _ => State.event_canon (State.count_canon (State.raise1_canon (State.event_canon (State.put_canon (State.count_canon ht))))))
    have hs4 : s4.Canon := foldl_canon hs3 (fun _ ht _ => State.raise1_canon (State.event_canon (State.count_canon ht)))
    exact ite_canon (State.clearFault_canon hs4) hs4

theorem fdbInstall_canon {index : Nat} {s : State} (h : s.Canon) : (fdbInstall index s).Canon := by
  unfold fdbInstall
  extract_lets
  split
  · extract_lets
    exact ite_canon (State.reject_canon h) (ite_canon (State.reject_canon h) (State.clearFault_canon (canon_of_fields h)))

theorem fdbRead_canon {index : Nat} {s : State} (h : s.Canon) : (fdbRead index s).Canon := by
  unfold fdbRead
  refine ite_canon (State.reject_canon h) ?_
  split
  · exact State.wr_canon (State.wr_canon (State.put_canon h))

theorem State.enqueue_canon {s : State} {f : PubFrame} (h : s.Canon) : (s.enqueue f).Canon := by
  unfold State.enqueue
  exact canon_of_fields h

theorem State.buildGoose_canon {s : State} {g : Gcb} {launch dn : Nat} {data : List Nat} (h : s.Canon) : (s.buildGoose g launch dn data).Canon := by
  unfold State.buildGoose
  extract_lets _ s1
  have hs1 : s1.Canon := ite_canon (State.clearFault_canon h) h
  refine ite_canon (State.enqueue_canon hs1) ?_
  exact State.raise_canon (State.event_canon (State.count_canon (State.keyRefused_canon h)))

theorem State.setGcb_canon {s : State} {g : Gcb} (h : s.Canon) : (s.setGcb g).Canon := by
  unfold State.setGcb
  exact canon_of_fields h

theorem State.gooseChange_canon {s : State} {g : Gcb} {dn crc : Nat} {data : List Nat} (h : s.Canon) : (s.gooseChange g dn crc data).Canon := by
  unfold State.gooseChange
  extract_lets _ _ _ _ _ s1
  have hs1 : s1.Canon := canon_of_fields h
  exact State.buildGoose_canon (State.event_canon (State.eventIf_canon (State.setGcb_canon hs1)))

theorem gooseRetransmit_canon {block : Nat} {s : State} (h : s.Canon) : (gooseRetransmit block s).Canon := by
  unfold gooseRetransmit
  split
  · exact h
  · refine ite_canon h ?_
    extract_lets s1
    have hs1 : s1.Canon := State.advance_canon h
    exact State.buildGoose_canon (State.setGcb_canon hs1)

theorem State.decideGcb_canon {s : State} {parts : List (Nat × List Nat)} {dn : Nat} {g : Gcb} (h : s.Canon) : (s.decideGcb parts dn g).Canon := by
  unfold State.decideGcb
  refine ite_canon h ?_
  extract_lets _ _ _ _ _ s1
  have hs1 : s1.Canon := State.eventIf_canon (State.setGcb_canon h)
  exact ite_canon (State.gooseChange_canon hs1) hs1

theorem State.strobe_canon {s : State} {levels : Nat} (h : s.Canon) : (s.strobe levels).Canon := by
  unfold State.strobe
  exact State.count_canon (State.emit_canon (canon_of_fields h))

theorem State.issue_canon {s : State} {n : Nat} {x : Settled} (h : s.Canon) : (s.issue n x).Canon := by
  unfold State.issue
  extract_lets _ _ _ _ s1 s2
  have hs1 : s1.Canon := State.put_canon h
  have hs2 : s2.Canon := foldl_canon hs1 (fun _ ht _ => State.decideGcb_canon ht)
  exact ite_canon (State.strobe_canon hs2) hs2

theorem State.issueSafe_canon {s : State} {n : Nat} (h : s.Canon) : (s.issueSafe n).Canon := by
  unfold State.issueSafe
  extract_lets _ _ _ _ s1
  have hs1 : s1.Canon := ite_canon h (foldl_canon (canon_of_fields h) (fun _ ht _ => ite_canon ht (State.gooseChange_canon ht)))
  exact State.strobe_canon hs1

theorem State.publish_canon {s : State} {n : Nat} (h : s.Canon) : (s.publish n).Canon := by
  unfold State.publish
  refine ite_canon h ?_
  refine ite_canon (State.issueSafe_canon h) ?_
  refine ite_canon h ?_
  split
  · exact ite_canon (State.issue_canon h) h
  · exact h

theorem State.doReadback_canon {s : State} {lines : Nat} (h : s.Canon) : (s.doReadback lines).Canon := by
  unfold State.doReadback
  extract_lets _ _ _ s1 _ s1'1
  have hs1 : s1.Canon := canon_of_fields h
  have hs1'1 : s1'1.Canon := canon_of_fields h
  exact ite_canon (ite_canon (State.clearFault_canon hs1) hs1) (ite_canon (State.raise1_canon hs1'1) hs1'1)

theorem ownSvBuild_canon {k : Nat} {s : State} (h : s.Canon) : (ownSvBuild k s).Canon := by
  unfold ownSvBuild
  refine ite_canon h ?_
  extract_lets
  split
  · exact h
  · exact ite_canon h (ite_canon (State.enqueue_canon h) (State.keyRefused_canon h))

theorem State.pubCore_canon {s : State} {f : PubFrame} {len : Nat} (h : s.Canon) : (s.pubCore f len).Canon := by
  unfold State.pubCore
  extract_lets
  split
  · extract_lets
    refine ite_canon h ?_
    split
    · rename_i s1 _ e
      have hs1 : s1.Canon := canon_fst e (State.numberPairs_canon h)
      exact State.coreEnter_canon hs1

theorem publishRelease_canon {len : Nat} {s : State} (h : s.Canon) : (publishRelease len s).Canon := by
  unfold publishRelease
  split
  · exact h
  · refine ite_canon h ?_
    extract_lets src _ s1 _ _ _ _ s2
    have hsrc : src.Canon := State.advance_canon h
    have hs1 : s1.Canon := canon_of_fields hsrc
    have hs2 : s2.Canon := canon_of_fields hs1
    refine ite_canon ?_ (ite_canon (State.pubCore_canon (State.emit_canon (State.count_canon hs1))) (State.count_canon hs1))
    refine ite_canon (State.svTake_canon (State.pubCore_canon (State.emit_canon (State.count_canon (State.eventIf_canon hs2))))) ?_
    exact State.count_canon hs1

theorem gcbInstall_canon {b : Nat} {s : State} (h : s.Canon) : (gcbInstall b s).Canon := by
  unfold gcbInstall
  split
  · extract_lets
    refine ite_canon (State.reject_canon h) ?_
    exact ite_canon (State.reject_canon h) (ite_canon (State.reject_canon (State.event_canon h)) (canon_of_fields h))

theorem gcbRead_canon {b : Nat} {s : State} (h : s.Canon) : (gcbRead b s).Canon := by
  unfold gcbRead
  refine ite_canon (State.reject_canon h) ?_
  refine ite_canon (State.reject_canon h) ?_
  extract_lets _ s1 s2
  have hs1 : s1.Canon := foldl_canon h (fun _ ht _ => State.put_canon ht)
  have hs2 : s2.Canon := foldl_canon hs1 (fun _ ht _ => State.put_canon ht)
  exact State.put_canon (State.put_canon hs2)

theorem State.applyGcbs_canon {s : State} (h : s.Canon) : (s.applyGcbs).Canon := by
  unfold State.applyGcbs
  refine ite_canon h ?_
  extract_lets _ _ _ s1
  have hs1 : s1.Canon := State.event_canon (canon_of_fields h)
  exact foldl_canon hs1 (fun _ ht _ => State.put_canon ht)

theorem State.refreshReady_canon {s : State} (h : s.Canon) : (s.refreshReady).Canon := by
  unfold State.refreshReady
  extract_lets _ s1
  have hs1 : s1.Canon := State.event_canon (State.putFlag_canon h)
  exact ite_canon h (ite_canon (State.clearFault_canon (State.clearFault_canon hs1)) hs1)

theorem State.refreshLanes_canon {s : State} (h : s.Canon) : (s.refreshLanes).Canon := by
  unfold State.refreshLanes
  exact State.put_canon h

theorem State.pairAccept_canon {s : State} {lane seq : Nat} (h : s.Canon) : ∀ t, s.pairAccept lane seq = some t → t.Canon := by
  unfold State.pairAccept
  exact ite_some_canon none_canon (some_canon (State.refreshLanes_canon (canon_of_fields h)))

theorem State.onAccept_canon {s : State} {lane seq : Nat} {f : State → State}
    (h : s.Canon) (hf : ∀ t, t.Canon → (f t).Canon) : (s.onAccept lane seq f).Canon := by
  unfold State.onAccept
  split
  · rename_i s1 e
    have hs1 : s1.Canon := State.pairAccept_canon h _ e
    exact hf _ hs1
  · exact h

theorem State.resyncFail_canon {s : State} {reason : Nat} (h : s.Canon) : (s.resyncFail reason).Canon := by
  unfold State.resyncFail
  extract_lets s1 _ s2
  have hs1 : s1.Canon := State.count_canon (State.put_canon h)
  have hs2 : s2.Canon := canon_of_fields hs1
  exact State.refreshReady_canon (State.raise1_canon (State.event_canon hs2))

theorem State.resyncStart_canon {s : State} (h : s.Canon) : (s.resyncStart).Canon := by
  unfold State.resyncStart
  exact ite_canon (State.refreshReady_canon (State.pairSend_canon (State.put_canon h))) h

theorem State.refreshRole_canon {s : State} (h : s.Canon) : (s.refreshRole).Canon := by
  unfold State.refreshRole
  exact State.putFlag_canon h

theorem State.sendToken_canon {s : State} {e : TokenEntry} (h : s.Canon) : (s.sendToken e).Canon := by
  unfold State.sendToken
  refine ite_canon ?_ h
  extract_lets s1
  have hs1 : s1.Canon := State.pairSend_canon h
  exact canon_of_fields hs1

theorem State.syncTokens_canon {s : State} (h : s.Canon) : (s.syncTokens).Canon := by
  unfold State.syncTokens
  extract_lets
  exact ite_canon (foldl_canon h (fun _ ht _ => State.sendToken_canon ht)) (canon_of_fields h)

theorem State.reachedRun_canon {s0 : State} (h : s0.Canon) : (s0.reachedRun).Canon := by
  unfold State.reachedRun
  extract_lets s s1 _ _ s2
  have hs : s.Canon := State.adoptImage_canon h
  have hs1 : s1.Canon := ite_canon (State.put_canon hs) hs
  have hs2 : s2.Canon := State.put_canon (State.put_canon (State.put_canon hs1))
  exact ite_canon (State.queueWrite_canon (State.event_canon (State.put_canon hs2))) hs1

theorem State.partnerGone_canon {s : State} (h : s.Canon) : (s.partnerGone).Canon := by
  unfold State.partnerGone
  extract_lets s1
  have hs1 : s1.Canon := State.event_canon (State.put_canon (State.put_canon h))
  exact State.raise1_canon (canon_of_fields hs1)

theorem State.handshakeLost_canon {s : State} (h : s.Canon) : (s.handshakeLost).Canon := by
  unfold State.handshakeLost
  refine ite_canon h ?_
  extract_lets s1 s2
  have hs1 : s1.Canon := State.partnerGone_canon h
  have hs2 : s2.Canon := ite_canon (State.resyncFail_canon hs1) (ite_canon (State.put_canon hs1) hs1)
  exact State.refreshReady_canon hs2

theorem State.cutPulses_canon {s : State} (h : s.Canon) : (s.cutPulses).Canon := by
  unfold State.cutPulses
  extract_lets _ _ s1
  have hs1 : s1.Canon := canon_of_fields h
  exact foldl_canon hs1 (fun _ ht _ => State.emit_canon ht)

theorem State.enterSync_canon {s : State} {reason : Nat} (h : s.Canon) : (s.enterSync reason).Canon := by
  unfold State.enterSync
  extract_lets s1 _ s2
  have hs1 : s1.Canon := State.handshakeLost_canon (State.cutPulses_canon h)
  have hs2 : s2.Canon := canon_of_fields hs1
  exact State.setState_canon (State.refreshRole_canon (canon_of_fields hs2))

theorem State.handshakeDone_canon {s : State} {h : Hello} (hs : s.Canon) : (s.handshakeDone h).Canon := by
  unfold State.handshakeDone
  extract_lets _ _ _ s1 _ s2 s3 s4 s5 s6
  have hs1 : s1.Canon := State.event_canon (State.put_canon (State.put_canon hs))
  have hs2 : s2.Canon := canon_of_fields hs1
  have hs3 : s3.Canon := State.clearFault_canon (State.clearFault_canon (State.refreshRole_canon hs2))
  have hs4 : s4.Canon := ite_canon (State.raise1_canon hs3) hs3
  have hs5 : s5.Canon := ite_canon (State.reachedRun_canon (State.setState_canon hs4)) (ite_canon (State.setState_canon hs4) hs4)
  have hs6 : s6.Canon := State.syncTokens_canon hs5
  exact ite_canon (State.refreshReady_canon (State.resyncStart_canon hs6)) (State.refreshReady_canon hs6)

theorem State.tryHandshake_canon {s : State} (h : s.Canon) : (s.tryHandshake).Canon := by
  unfold State.tryHandshake
  split
  · exact h
  · exact ite_canon h (ite_canon (State.raise1_canon h) (State.handshakeDone_canon h))

theorem State.helloSent_canon {s : State} (h : s.Canon) : (s.helloSent).Canon := by
  unfold State.helloSent
  extract_lets s1 _ s2
  have hs1 : s1.Canon := State.refreshLanes_canon (State.pairSend_canon h)
  have hs2 : s2.Canon := canon_of_fields hs1
  split
  · extract_lets src
    have hsrc : src.Canon := foldl_canon hs2 (fun _ ht _ => State.sendToken_canon ht)
    exact canon_of_fields hsrc
  · exact hs2

theorem helloTx_canon {s : State} (h : s.Canon) : (helloTx s).Canon := by
  unfold helloTx
  refine ite_canon h ?_
  exact State.refreshReady_canon (State.tryHandshake_canon (State.helloSent_canon (State.streamNow_canon h)))

theorem State.peerReport_canon {s : State} {state health flags : Nat} (h : s.Canon) : (s.peerReport state health flags).Canon := by
  unfold State.peerReport
  extract_lets _ s1
  have hs1 : s1.Canon := canon_of_fields h
  exact State.put_canon (State.put_canon (State.put_canon (State.put_canon hs1)))

theorem State.helloMeets_canon {s : State} {h : Hello} (hs : s.Canon) : (s.helloMeets h).Canon := by
  unfold State.helloMeets
  exact ite_canon (canon_of_fields hs) hs

theorem State.helloTaken_canon {s : State} {h : Hello} (hs : s.Canon) : (s.helloTaken h).Canon := by
  unfold State.helloTaken
  extract_lets s1 _ _ s2 s3 s4
  have hs1 : s1.Canon := ite_canon (State.handshakeLost_canon hs) hs
  have hs2 : s2.Canon := canon_of_fields hs1
  have hs3 : s3.Canon := State.putFlag_canon (State.peerReport_canon hs2)
  have hs4 : s4.Canon := State.put_canon (State.put_canon hs3)
  exact State.put_canon (State.put_canon (State.put_canon (State.put_canon hs4)))

theorem helloRx_canon {lane seq : Nat} {h : Hello} {s : State} (hs : s.Canon) : (helloRx lane seq h s).Canon := by
  unfold helloRx
  exact State.onAccept_canon (State.helloMeets_canon hs) (fun _ ht => State.refreshReady_canon (State.tryHandshake_canon (State.helloTaken_canon ht)))

theorem State.settleSkip_canon {s : State} (h : s.Canon) : (s.settleSkip).Canon := by
  unfold State.settleSkip
  extract_lets _ s1
  have hs1 : s1.Canon := State.count_canon (State.put_canon h)
  exact ite_canon (State.put_canon hs1) hs1

theorem State.settleMismatch_canon {s : State} {n : Nat} (h : s.Canon) : (s.settleMismatch n).Canon := by
  unfold State.settleMismatch
  extract_lets s1 s2
  have hs1 : s1.Canon := State.count_canon (State.put_canon (State.put_canon h))
  have hs2 : s2.Canon := State.event_canon (State.put_canon (State.put_canon hs1))
  exact ite_canon (State.resyncStart_canon hs2) hs2

theorem State.settlePair_canon {s : State} {n : Nat} (h : s.Canon) : (s.settlePair n).Canon := by
  unfold State.settlePair
  split
  · exact h
  · refine ite_canon h ?_
    extract_lets _ s0 s2 s1
    have hs0 : s0.Canon := canon_of_fields h
    have hs2 : s2.Canon := State.put_canon (State.put_canon hs0)
    have hs1 : s1.Canon := by
      unfold s1
      split
      · exact State.settleSkip_canon hs0
      · refine ite_canon (State.settleSkip_canon hs0) ?_
        exact ite_canon (ite_canon hs2 (State.count_canon hs2)) (State.settleMismatch_canon hs0)
    exact State.refreshReady_canon hs1

theorem State.sendDigest_canon {s : State} {n : Nat} (h : s.Canon) : (s.sendDigest n).Canon := by
  unfold State.sendDigest
  extract_lets _ s1 _ s2
  have hs1 : s1.Canon := State.pairSend_canon h
  have hs2 : s2.Canon := canon_of_fields hs1
  exact ite_canon (State.settlePair_canon hs2) hs2

theorem State.donorEnds_canon {s : State} {flags : Nat} (h : s.Canon) : (s.donorEnds flags).Canon := by
  unfold State.donorEnds
  exact ite_canon (State.syncTokens_canon (State.donorStop_canon h)) h

theorem State.digestTaken_canon {s : State} {d : Digest} {delay : Nat} (h : s.Canon) : (s.digestTaken d delay).Canon := by
  unfold State.digestTaken
  extract_lets s0 _ s1
  have hs0 : s0.Canon := State.advance_canon h
  have hs1 : s1.Canon := State.put_canon (State.put_canon (State.peerReport_canon hs0))
  exact canon_of_fields hs1

theorem digestRx_canon {lane seq : Nat} {d : Digest} {delay : Nat} {s : State} (h : s.Canon) : (digestRx lane seq d delay s).Canon := by
  unfold digestRx
  exact State.onAccept_canon h (fun _ ht => ite_canon (State.peerReport_canon ht) (State.refreshReady_canon (State.settlePair_canon (State.donorEnds_canon (State.digestTaken_canon ht)))))

theorem digestSettleTimeout_canon {n : Nat} {s : State} (h : s.Canon) : (digestSettleTimeout n s).Canon := by
  unfold digestSettleTimeout
  exact State.settlePair_canon (State.advance_canon h)

theorem resyncReqRx_canon {lane seq : Nat} {s : State} (h : s.Canon) : (resyncReqRx lane seq s).Canon := by
  unfold resyncReqRx
  exact State.onAccept_canon h (fun _ ht => ite_canon ht (ite_canon (State.pairSend_canon ht) (ite_canon (State.pairSend_canon ht) (ite_canon (State.pairSend_canon ht) (State.refreshReady_canon (State.put_canon (canon_of_fields ht)))))))

theorem State.donorBoundary_canon {s : State} {n : Nat} (h : s.Canon) : (s.donorBoundary n).Canon := by
  unfold State.donorBoundary
  refine ite_canon h ?_
  extract_lets _ _ s1
  have hs1 : s1.Canon := canon_of_fields h
  refine ite_canon ?_ (State.streamNow_canon (State.streamAdd_canon hs1))
  split
  · exact State.pairSend_canon (State.put_canon h)
  · extract_lets s1'1
    have hs1'1 : s1'1.Canon := canon_of_fields h
    exact State.streamNow_canon (State.streamAdd_canon hs1'1)

theorem resyncReqRepeat_canon {s : State} (h : s.Canon) : (resyncReqRepeat s).Canon := by
  unfold resyncReqRepeat
  exact ite_canon (State.pairSend_canon h) h

theorem resyncNakRx_canon {lane seq _reason : Nat} {s : State} (h : s.Canon) : (resyncNakRx lane seq _reason s).Canon := by
  unfold resyncNakRx
  exact State.onAccept_canon h (fun _ ht => ite_canon (State.resyncFail_canon ht) ht)

theorem resyncCopyRx_canon {lane seq : Nat} {entries : List (Nat × Nat)} {seqs : List (List Nat)} {all : Bool} {s : State}
    (h : s.Canon) : (resyncCopyRx lane seq entries seqs all s).Canon := by
  unfold resyncCopyRx
  exact State.onAccept_canon h (fun _ ht => ite_canon ht (by
    extract_lets _ s1
    have hs1 : s1.Canon := foldl_canon ht (fun _ ht1 _ => State.setRod_canon ht1)
    exact State.refreshReady_canon (State.put_canon (canon_of_fields hs1))))

theorem resyncEndRx_canon {lane seq n sdig stamp : Nat} {s : State} (h : s.Canon) : (resyncEndRx lane seq n sdig stamp s).Canon := by
  unfold resyncEndRx
  exact State.onAccept_canon h (fun _ ht => (by
    extract_lets s1
    have hs1 : s1.Canon := State.advance_canon ht
    exact ite_canon (canon_of_fields hs1) hs1))

theorem State.joinBoundary_canon {s : State} {n : Nat} (h : s.Canon) : (s.joinBoundary n).1.Canon := by
  unfold State.joinBoundary
  split
  · split
    · exact h
    · split
      · exact State.resyncFail_canon h
      · extract_lets _ _ _ s1 _ s2 s3 s4
        have hs1 : s1.Canon := canon_of_fields h
        have hs2 : s2.Canon := canon_of_fields hs1
        have hs3 : s3.Canon := State.event_canon (State.count_canon (State.put_canon hs2))
        have hs4 : s4.Canon := State.clearCode_canon (State.clearFault_canon hs3)
        exact State.refreshReady_canon (canon_of_fields hs4)
  · exact h

theorem resyncRetry_canon {s : State} (h : s.Canon) : (resyncRetry s).Canon := by
  unfold resyncRetry
  refine ite_canon h ?_
  extract_lets s1 s2
  have hs1 : s1.Canon := State.advance_canon h
  have hs2 : s2.Canon := State.put_canon hs1
  exact ite_canon (State.resyncStart_canon hs2) hs2

theorem resyncFailLimit_canon {backlog : Bool} {s : State} (h : s.Canon) : (resyncFailLimit backlog s).Canon := by
  unfold resyncFailLimit
  exact ite_canon (State.resyncFail_canon h) (ite_canon (State.resyncFail_canon h) h)

theorem pairFaultRx_canon {lane seq : Nat} {r : FaultRec} {s : State} (h : s.Canon) : (pairFaultRx lane seq r s).Canon := by
  unfold pairFaultRx
  exact State.onAccept_canon h (fun _ ht => State.eventIf_canon (State.journalAdd_canon ht))

theorem releaseNoteRx_canon {lane seq : Nat} {s : State} (h : s.Canon) : (releaseNoteRx lane seq s).Canon := by
  unfold releaseNoteRx
  exact State.onAccept_canon h (fun _ ht => State.put_canon (canon_of_fields ht))

theorem takeoverReqTx_canon {s : State} (h : s.Canon) : (takeoverReqTx s).Canon := by
  unfold takeoverReqTx
  exact ite_canon (State.pairSend_canon (canon_of_fields h)) h

theorem takeoverReqRx_canon {lane seq : Nat} {s : State} (h : s.Canon) : (takeoverReqRx lane seq s).Canon := by
  unfold takeoverReqRx
  exact State.onAccept_canon h (fun _ ht => ite_canon (canon_of_fields ht) ht)

theorem State.hoGo_canon {s : State} {p : Nat} (h : s.Canon) : (s.hoGo p).Canon := by
  unfold State.hoGo
  exact State.put_canon h

theorem State.hoEmit_canon {s : State} {path : Nat} {m : HoMsg} (h : s.Canon) : (s.hoEmit path m).Canon := by
  unfold State.hoEmit
  exact foldl_canon h (fun _ ht _ => State.emit_canon ht)

theorem State.hoEveryPath_canon {s : State} {m : HoMsg} (h : s.Canon) : (s.hoEveryPath m).Canon := by
  unfold State.hoEveryPath
  exact foldl_canon h (fun _ ht _ => State.hoEmit_canon ht)

theorem State.hoSend_canon {s : State} {tick : Nat} {b : HoBody} (h : s.Canon) : (s.hoSend tick b).Canon := by
  unfold State.hoSend
  exact State.hoEmit_canon h

theorem State.commitToken_canon {s : State} {status serial m step : Nat} (h : s.Canon) : (s.commitToken status serial m step).Canon := by
  unfold State.commitToken
  exact State.queueWrite_canon h

theorem State.hoIdle_canon {s : State} (h : s.Canon) : (s.hoIdle).Canon := by
  unfold State.hoIdle
  extract_lets s1
  have hs1 : s1.Canon := State.put_canon (State.hoGo_canon h)
  exact canon_of_fields hs1

theorem State.hoNotTaken_canon {s : State} (h : s.Canon) : (s.hoNotTaken).Canon := by
  unfold State.hoNotTaken
  exact ite_canon (State.noteOpen_canon (canon_of_fields h)) h

theorem State.hoFail_canon {s : State} {reason : Nat} (h : s.Canon) : (s.hoFail reason).Canon := by
  unfold State.hoFail
  exact State.raise1_canon (State.event_canon (State.hoIdle_canon (State.put_canon (State.hoNotTaken_canon h))))

theorem State.hoCancel_canon {s : State} {reason : Nat} (h : s.Canon) : (s.hoCancel reason).Canon := by
  unfold State.hoCancel
  exact State.hoFail_canon (State.hoSend_canon h)

theorem State.hoDiscard_canon {s : State} {m : HoMsg} (h : s.Canon) : (s.hoDiscard m).Canon := by
  unfold State.hoDiscard
  exact ite_canon (State.noteOpen_canon h) h

theorem handoverBegin_canon {q : Req} {slice peer role path peerSlice : Nat} {s : State}
    (h : s.Canon) : (handoverBegin q slice peer role path peerSlice s).Canon := by
  unfold handoverBegin
  extract_lets
  exact State.command_canon h (fun _ ht => (by
    extract_lets _ _ s1 s2
    have hs1 : s1.Canon := canon_of_fields ht
    have hs2 : s2.Canon := State.put_canon (State.hoGo_canon (State.put_canon (State.put_canon hs1)))
    exact State.complete_canon (State.clearFault_canon hs2)))

theorem State.hoKeep_canon {s : State} (h : s.Canon) : (s.hoKeep).Canon := by
  unfold State.hoKeep
  exact ite_canon (State.commitToken_canon (canon_of_fields h)) h

theorem handoverAbort_canon {q : Req} {slice : Nat} {s : State} (h : s.Canon) : (handoverAbort q slice s).Canon := by
  unfold handoverAbort
  exact State.command_canon h (fun _ ht => State.complete_canon (State.hoKeep_canon (State.hoCancel_canon ht)))

theorem State.hoCapture_canon {s : State} {n : Nat} (h : s.Canon) : (s.hoCapture n).Canon := by
  unfold State.hoCapture
  split
  · exact h
  · extract_lets _ _ _ _ _ s1
    have hs1 : s1.Canon := canon_of_fields h
    exact State.hoGo_canon (State.hoSend_canon (State.put_canon hs1))

theorem State.hoCopyFailed_canon {s : State} {reason : Nat} (h : s.Canon) : (s.hoCopyFailed reason).Canon := by
  unfold State.hoCopyFailed
  extract_lets _ _ s1 s2
  have hs1 : s1.Canon := canon_of_fields h
  have hs2 : s2.Canon := State.hoGo_canon (State.put_canon hs1)
  exact ite_canon (State.hoCancel_canon hs2) hs2

theorem State.hoSeqs_canon {s : State} {seqs : List (List Nat)} (h : s.Canon) : (s.hoSeqs seqs).Canon := by
  unfold State.hoSeqs
  extract_lets
  exact canon_of_fields h

theorem State.hoInstall_canon {s : State} {k0 : Nat} {state : List (Nat × Nat)} {seqs : List (List Nat)}
    (h : s.Canon) : (s.hoInstall k0 state seqs).Canon := by
  unfold State.hoInstall
  extract_lets _ _ s1
  have hs1 : s1.Canon := foldl_canon h (fun _ ht _ => State.moveSlot_canon ht)
  exact State.hoGo_canon (State.hoSeqs_canon (canon_of_fields hs1))

theorem State.copyHere_canon {s : State} {m : HoMsg} {stamp : Nat} (h : s.Canon) : (s.copyHere m stamp).Canon := by
  unfold State.copyHere
  extract_lets src _ s1
  have hsrc : src.Canon := State.advance_canon h
  have hs1 : s1.Canon := canon_of_fields hsrc
  exact canon_of_fields hs1

theorem hoCopyRx_canon {m : HoMsg} {stamp : Nat} {s : State} (h : s.Canon) : (hoCopyRx m stamp s).Canon := by
  unfold hoCopyRx
  split
  · refine ite_canon (State.hoDiscard_canon h) ?_
    extract_lets s1
    have hs1 : s1.Canon := State.copyHere_canon h
    exact ite_canon (State.hoCopyFailed_canon hs1) (ite_canon (State.hoCopyFailed_canon hs1) (State.hoInstall_canon hs1))
  · exact h

theorem hoCopyDeadline_canon {s : State} (h : s.Canon) : (hoCopyDeadline s).Canon := by
  unfold hoCopyDeadline
  exact ite_canon (State.hoCopyFailed_canon h) h

theorem State.hoCompare_canon {s : State} {n : Nat} (h : s.Canon) : (s.hoCompare n).Canon := by
  unfold State.hoCompare
  split
  · refine ite_canon ?_ ?_
    · extract_lets _ s1
      have hs1 : s1.Canon := State.put_canon h
      exact ite_canon (State.event_canon (State.hoSend_canon (canon_of_fields hs1))) hs1
    · refine ite_canon (ite_canon h (ite_canon (State.hoCancel_canon h) (State.hoCopyFailed_canon h))) ?_
      exact ite_canon (canon_of_fields h) h
  · exact h

theorem State.hoDigest_canon {s : State} {n : Nat} (h : s.Canon) : (s.hoDigest n).Canon := by
  unfold State.hoDigest
  refine ite_canon h ?_
  split
  · exact ite_canon (State.hoCompare_canon (State.hoSend_canon (canon_of_fields h))) h
  · exact h

theorem hoDigestRx_canon {m : HoMsg} {s : State} (h : s.Canon) : (hoDigestRx m s).Canon := by
  unfold hoDigestRx
  split
  · exact ite_canon (State.hoDiscard_canon h) (State.hoCompare_canon (canon_of_fields h))
  · exact h

theorem hoDigestMissing_canon {s : State} (h : s.Canon) : (hoDigestMissing s).Canon := by
  unfold hoDigestMissing
  refine ite_canon h ?_
  extract_lets s1
  have hs1 : s1.Canon := State.put_canon h
  exact ite_canon (canon_of_fields hs1) hs1

theorem hoCompareTimeout_canon {s : State} (h : s.Canon) : (hoCompareTimeout s).Canon := by
  unfold hoCompareTimeout
  exact ite_canon (State.hoCancel_canon h) h

theorem hoReadyRx_canon {m : HoMsg} {s : State} (h : s.Canon) : (hoReadyRx m s).Canon := by
  unfold hoReadyRx
  exact ite_canon (State.hoDiscard_canon h) (State.hoGo_canon (State.hoSend_canon (canon_of_fields h)))

theorem hoGrantRx_canon {m : HoMsg} {s : State} (h : s.Canon) : (hoGrantRx m s).Canon := by
  unfold hoGrantRx
  exact ite_canon (State.hoDiscard_canon h) (State.hoGo_canon (State.hoSend_canon (canon_of_fields h)))

theorem hoAcceptRx_canon {m : HoMsg} {s : State} (h : s.Canon) : (hoAcceptRx m s).Canon := by
  unfold hoAcceptRx
  refine ite_canon (State.hoDiscard_canon h) ?_
  refine ite_canon ?_ (State.hoCancel_canon h)
  extract_lets _ s1
  have hs1 : s1.Canon := canon_of_fields h
  exact State.commitToken_canon hs1

theorem hoReleaseTx_canon {s : State} (h : s.Canon) : (hoReleaseTx s).Canon := by
  unfold hoReleaseTx
  refine ite_canon h ?_
  extract_lets _ _ s1
  have hs1 : s1.Canon := State.hoSend_canon h
  refine ite_canon (State.hoKeep_canon (State.hoCancel_canon h)) ?_
  exact ite_canon (State.hoKeep_canon (State.hoCancel_canon h)) (State.hoGo_canon (canon_of_fields hs1))

theorem hoReleaseRx_canon {m : HoMsg} {stamp : Nat} {s : State} (h : s.Canon) : (hoReleaseRx m stamp s).Canon := by
  unfold hoReleaseRx
  refine ite_canon (State.hoDiscard_canon h) ?_
  extract_lets s1
  have hs1 : s1.Canon := State.advance_canon h
  exact ite_canon (canon_of_fields hs1) hs1

theorem State.moveSlice_canon {s : State} {slice from' new n : Nat} (h : s.Canon) : (s.moveSlice slice from' new n).Canon := by
  unfold State.moveSlice
  exact foldl_canon h (fun _ ht _ => State.moveSlot_canon ht)

theorem State.tokenBoundary_canon {s : State} {n : Nat} (h : s.Canon) : (s.tokenBoundary n).Canon := by
  unfold State.tokenBoundary
  extract_lets _ _ s1 s2
  have hs1 : s1.Canon := by
    unfold s1
    exact foldl_canon (canon_of_fields h) (fun _ ht _ => (by
      split
      · exact ht
      · refine ite_canon ?_ ?_
        · extract_lets src
          have hsrc : src.Canon := State.moveSlice_canon ht
          exact canon_of_fields hsrc
        · extract_lets src
          have hsrc : src.Canon := State.moveSlice_canon ht
          exact canon_of_fields hsrc))
  have hs2 : s2.Canon := State.moveSlice_canon hs1
  refine ite_canon ?_ hs1
  refine ite_canon (State.hoGo_canon (State.commitToken_canon (canon_of_fields hs2))) ?_
  exact State.hoFail_canon (State.hoSend_canon hs1)

theorem State.hoBoundary_canon {s : State} {n : Nat} (h : s.Canon) : (s.hoBoundary n).Canon := by
  unfold State.hoBoundary
  extract_lets s1
  have hs1 : s1.Canon := State.hoDigest_canon h
  exact ite_canon (State.hoCapture_canon hs1) hs1

theorem State.tokenStep_canon {s : State} {step : Nat} (h : s.Canon) : (s.tokenStep step).Canon := by
  unfold State.tokenStep
  extract_lets
  refine ite_canon (canon_of_fields h) ?_
  refine ite_canon (State.event_canon (State.hoIdle_canon (State.hoSend_canon (canon_of_fields h)))) ?_
  refine ite_canon (State.event_canon (State.hoIdle_canon (canon_of_fields h))) ?_
  exact ite_canon (State.hoFail_canon (canon_of_fields h)) (ite_canon (canon_of_fields h) h)

theorem State.stepAcked_canon {s : State} {ack : Option Nat} (h : s.Canon) : (s.stepAcked ack).Canon := by
  unfold State.stepAcked
  split
  · exact h
  · exact ite_canon (State.tokenStep_canon (canon_of_fields h)) h

theorem State.resolveToken_canon {s : State} {m : HoMsg} {taken : Bool} (h : s.Canon) : (s.resolveToken m taken).Canon := by
  unfold State.resolveToken
  split
  · exact h
  · extract_lets _ s1
    have hs1 : s1.Canon := canon_of_fields h
    exact State.clearFault_canon (State.queueWrite_canon hs1)

theorem hoTakenRx_canon {m : HoMsg} {s : State} (h : s.Canon) : (hoTakenRx m s).Canon := by
  unfold hoTakenRx
  refine ite_canon (State.resolveToken_canon h) ?_
  exact ite_canon (State.hoDiscard_canon h) (State.clearFault_canon (State.commitToken_canon h))

theorem hoNotTakenRx_canon {m : HoMsg} {s : State} (h : s.Canon) : (hoNotTakenRx m s).Canon := by
  unfold hoNotTakenRx
  refine ite_canon (State.resolveToken_canon h) ?_
  exact ite_canon (State.hoDiscard_canon h) (State.clearFault_canon (State.commitToken_canon h))

theorem hoCancelRx_canon {m : HoMsg} {s : State} (h : s.Canon) : (hoCancelRx m s).Canon := by
  unfold hoCancelRx
  exact ite_canon (State.hoDiscard_canon h) (ite_canon h (State.hoKeep_canon (State.hoFail_canon h)))

theorem hoDoubt_canon {s : State} (h : s.Canon) : (hoDoubt s).Canon := by
  unfold hoDoubt
  extract_lets _ s1
  have hs1 : s1.Canon := ite_canon (State.hoEveryPath_canon (State.eventIf_canon (State.raise_canon (State.hoGo_canon h)))) h
  exact foldl_canon hs1 (fun _ ht _ => State.hoEveryPath_canon (State.raise_canon ht))

theorem hoQueryRx_canon {m : HoMsg} {path : Nat} {s : State} (h : s.Canon) : (hoQueryRx m path s).Canon := by
  unfold hoQueryRx
  extract_lets
  refine ite_canon h ?_
  exact ite_canon (State.hoEmit_canon h) (ite_canon (State.hoEmit_canon h) (ite_canon h (State.hoDiscard_canon h)))

theorem tokenMsgRx_canon {lane seq : Nat} {e : Option TokenEntry} {ack : Nat} {s : State} (h : s.Canon) : (tokenMsgRx lane seq e ack s).Canon := by
  unfold tokenMsgRx
  exact State.onAccept_canon h (fun _ ht => (by
    split
    · exact State.stepAcked_canon (canon_of_fields ht)
    · extract_lets _ s1
      have hs1 : s1.Canon := canon_of_fields ht
      exact ite_canon (State.queueWrite_canon hs1) (State.raiseAt_canon hs1)))

theorem tokenResend_canon {s : State} (h : s.Canon) : (tokenResend s).Canon := by
  unfold tokenResend
  refine ite_canon (State.stepAcked_canon (canon_of_fields h)) ?_
  exact State.stepAcked_canon (foldl_canon (canon_of_fields h) (fun _ ht _ => State.sendToken_canon ht))

theorem custPeerRise_canon {stamp : Nat} {s : State} (h : s.Canon) : (custPeerRise stamp s).Canon := by
  unfold custPeerRise
  extract_lets s1 _ s2
  have hs1 : s1.Canon := State.put_canon (State.advance_canon h)
  have hs2 : s2.Canon := canon_of_fields hs1
  exact ite_canon (State.setGate_canon hs2) hs2

theorem custPeerFall_canon {stamp : Nat} {s : State} (h : s.Canon) : (custPeerFall stamp s).Canon := by
  unfold custPeerFall
  extract_lets s1
  have hs1 : s1.Canon := State.put_canon (State.advance_canon h)
  exact State.put_canon (canon_of_fields hs1)

theorem State.collided_canon {s : State} (h : s.Canon) : (s.collided).Canon := by
  unfold State.collided
  extract_lets s1
  have hs1 : s1.Canon := State.count_canon h
  exact ite_canon (State.drawn_canon (canon_of_fields hs1)) hs1

theorem custodyCollision_canon {s : State} (h : s.Canon) : (custodyCollision s).Canon := by
  unfold custodyCollision
  refine ite_canon ?_ h
  extract_lets s1 s2
  have hs1 : s1.Canon := State.raise1_canon (State.event_canon (State.put_canon (State.collided_canon h)))
  have hs2 : s2.Canon := State.put_canon (State.put_canon (State.dropCustody_canon hs1))
  exact ite_canon (State.setState_canon hs2) hs2

theorem peerLineDisagree_canon {s : State} (h : s.Canon) : (peerLineDisagree s).Canon := by
  unfold peerLineDisagree
  exact ite_canon (State.raise1_canon h) h

theorem heartbeatExpiry_canon {s : State} (h : s.Canon) : (heartbeatExpiry s).Canon := by
  unfold heartbeatExpiry
  refine ite_canon h ?_
  extract_lets _ s1
  have hs1 : s1.Canon := State.setGate_canon (State.put_canon h)
  exact canon_of_fields hs1

theorem heartbeatLatchFound_canon {s : State} (h : s.Canon) : (heartbeatLatchFound s).Canon := by
  unfold heartbeatLatchFound
  exact ite_canon (State.raise1_canon (State.event_canon (canon_of_fields h))) h

theorem faultF3Raise_canon {code cls inst detail : Nat} {s : State} (h : s.Canon) : (faultF3Raise code cls inst detail s).Canon := by
  unfold faultF3Raise
  exact ite_canon (State.raiseAt_canon h) h

theorem custodyRelease_canon {q : Req} {force : Bool} {s : State} (h : s.Canon) : (custodyRelease q force s).Canon := by
  unfold custodyRelease
  extract_lets
  exact State.command_canon h (fun _ ht => canon_of_fields ht)

theorem State.releaseBoundary_canon {s : State} {n : Nat} (h : s.Canon) : (s.releaseBoundary n).Canon := by
  unfold State.releaseBoundary
  extract_lets _ _ src s1 _ s2 s3 s0 _ s1'1
  have hsrc : src.Canon := State.dropCustody_canon h
  have hs1 : s1.Canon := canon_of_fields hsrc
  have hs2 : s2.Canon := canon_of_fields hs1
  have hs3 : s3.Canon := ite_canon (State.setState_canon hs2) hs2
  have hs0 : s0.Canon := foldl_canon (canon_of_fields h) (fun _ ht _ => State.complete_canon ht)
  have hs1'1 : s1'1.Canon := canon_of_fields hs0
  refine ite_canon (foldl_canon hs3 (fun _ ht _ => State.complete_canon ht)) ?_
  exact ite_canon (State.dropCustody_canon hs1'1) hs1'1

theorem State.tryCustody_canon {s : State} {n : Nat} (h : s.Canon) : (s.tryCustody n).Canon := by
  unfold State.tryCustody
  split
  · exact canon_of_fields h
  · exact ite_canon h (State.put_canon (canon_of_fields h))

theorem custodySample_canon {s : State} (h : s.Canon) : (custodySample s).Canon := by
  unfold custodySample
  exact ite_canon h (State.tryCustody_canon (State.advance_canon h))

theorem State.queryTokens_canon {s : State} (h : s.Canon) : (s.queryTokens).Canon := by
  unfold State.queryTokens
  extract_lets _ _ s1
  have hs1 : s1.Canon := canon_of_fields h
  exact foldl_canon hs1 (fun _ ht _ => State.hoEveryPath_canon ht)

theorem State.takeCustody_canon {s : State} {kind : Nat} (h : s.Canon) : (s.takeCustody kind).Canon := by
  unfold State.takeCustody
  extract_lets _ s1 _ _ s2 s3 s4 _ _ s5
  have hs1 : s1.Canon := State.count_canon (State.setGate_canon h)
  have hs2 : s2.Canon := canon_of_fields hs1
  have hs3 : s3.Canon := ite_canon (State.raise1_canon (State.count_canon hs2)) hs2
  have hs4 : s4.Canon := State.queryTokens_canon hs3
  have hs5 : s5.Canon := canon_of_fields hs4
  refine ite_canon (State.event_canon (State.put_canon (State.put_canon (State.put_canon hs5)))) ?_
  exact ite_canon (State.reachedRun_canon (State.setState_canon hs4)) (ite_canon hs4 (State.setState_canon hs4))

theorem State.custodyBoundary_canon {s : State} {n : Nat} (h : s.Canon) : (s.custodyBoundary n).Canon := by
  unfold State.custodyBoundary
  split
  · exact h
  · refine ite_canon h ?_
    extract_lets _ s1
    have hs1 : s1.Canon := canon_of_fields h
    refine ite_canon (State.dropCustody_canon (State.collided_canon hs1)) ?_
    exact ite_canon (State.takeCustody_canon hs1) (State.dropCustody_canon hs1)

theorem soloWaitExpiry_canon {s : State} (h : s.Canon) : (soloWaitExpiry s).Canon := by
  unfold soloWaitExpiry
  refine ite_canon h ?_
  refine ite_canon ?_ (ite_canon (canon_of_fields h) (ite_canon (State.reachedRun_canon (State.setState_canon h)) h))
  extract_lets src
  have hsrc : src.Canon := State.raise1_canon h
  exact canon_of_fields hsrc

theorem orphanTimeout_canon {s : State} (h : s.Canon) : (orphanTimeout s).Canon := by
  unfold orphanTimeout
  refine ite_canon h ?_
  extract_lets _ _ s1
  have hs1 : s1.Canon := State.advance_canon h
  exact canon_of_fields hs1

theorem safeHoldExpiry_canon {s : State} (h : s.Canon) : (safeHoldExpiry s).Canon := by
  unfold safeHoldExpiry
  exact ite_canon (canon_of_fields h) h

theorem State.showForced_canon {s : State} (h : s.Canon) : (s.showForced).Canon := by
  unfold State.showForced
  extract_lets _ s1
  have hs1 : s1.Canon := State.putFlag_canon h
  exact ite_canon hs1 (State.event_canon (State.putFlag_canon hs1))

theorem State.showForceRegs_canon {s : State} (h : s.Canon) : (s.showForceRegs).Canon := by
  unfold State.showForceRegs
  extract_lets _ s1
  have hs1 : s1.Canon := State.put_canon h
  exact foldl_canon hs1 (fun _ ht _ => (by
    split
    · exact State.put_canon (State.putFlag_canon (State.put_canon ht))
    · exact ite_canon (State.put_canon (State.put_canon (State.put_canon ht))) ht))

theorem State.leaveService_canon {s : State} (h : s.Canon) : (s.leaveService).Canon := by
  unfold State.leaveService
  extract_lets s1 _ s2 s3 _ s4
  have hs1 : s1.Canon := foldl_canon h (fun _ ht _ => State.complete_canon ht)
  have hs2 : s2.Canon := State.eventIf_canon (State.showForced_canon (State.showForceRegs_canon (canon_of_fields hs1)))
  have hs3 : s3.Canon := State.dropCustody_canon (State.endInjections_canon hs2)
  have hs4 : s4.Canon := canon_of_fields hs3
  exact State.enterSync_canon (State.put_canon (State.put_canon (State.serviceEvent_canon (State.put_canon hs4))))

theorem serviceLimitReached_canon {s : State} (h : s.Canon) : (serviceLimitReached s).Canon := by
  unfold serviceLimitReached
  exact ite_canon (State.leaveService_canon h) h

theorem serviceLeave_canon {q : Req} {s : State} (h : s.Canon) : (serviceLeave q s).Canon := by
  unfold serviceLeave
  exact State.command_canon h (fun _ ht => State.complete_canon (State.leaveService_canon ht))

theorem State.cleGo_canon {s : State} {st : Nat} (h : s.Canon) : (s.cleGo st).Canon := by
  unfold State.cleGo
  exact ite_canon h (State.event_canon (State.put_canon h))

theorem State.loadProgram_canon {s : State} {img : CleImage} (h : s.Canon) : (s.loadProgram img).Canon := by
  unfold State.loadProgram
  extract_lets _ _ _ s1
  have hs1 : s1.Canon := canon_of_fields h
  exact State.put_canon (State.put_canon (State.put_canon (State.put_canon hs1)))

theorem cleLoad_canon {q : Req} {len key : Nat} {img : CleImage} {s : State} (h : s.Canon) : (cleLoad q len key img s).Canon := by
  unfold cleLoad
  exact State.command_canon h (fun _ ht => State.complete_canon (State.event_canon (State.loadProgram_canon ht)))

theorem cleStart_canon {q : Req} {cold : Bool} {s : State} (h : s.Canon) : (cleStart q cold s).Canon := by
  unfold cleStart
  exact State.command_canon h (fun _ ht => canon_of_fields ht)

theorem cleStopCmd_canon {q : Req} {s : State} (h : s.Canon) : (cleStopCmd q s).Canon := by
  unfold cleStopCmd
  exact State.command_canon h (fun _ ht => ite_canon (State.complete_canon ht) (canon_of_fields ht))

theorem cleWrite_canon {q : Req} {target value at' : Nat} {s : State} (h : s.Canon) : (cleWrite q target value at' s).Canon := by
  unfold cleWrite
  exact State.command_canon h (fun _ ht => canon_of_fields ht)

theorem forceSet_canon {q : Req} {addr : Nat} {value : Bool} {s : State} (h : s.Canon) : (forceSet q addr value s).Canon := by
  unfold forceSet
  extract_lets
  exact State.command_canon h (fun _ ht => canon_of_fields ht)

theorem forceClear_canon {q : Req} {addr : Nat} {s : State} (h : s.Canon) : (forceClear q addr s).Canon := by
  unfold forceClear
  exact State.command_canon h (fun _ ht => canon_of_fields ht)

theorem State.applyForces_canon {s : State} {n : Nat} (h : s.Canon) : (s.applyForces n).Canon := by
  unfold State.applyForces
  refine ite_canon h ?_
  extract_lets _ _ _ s1 s2
  have hs1 : s1.Canon := canon_of_fields h
  have hs2 : s2.Canon := State.event_canon (State.showForced_canon (State.showForceRegs_canon hs1))
  exact foldl_canon hs2 (fun _ ht _ => State.complete_canon ht)

theorem State.showDepend_canon {s : State} (h : s.Canon) : (s.showDepend).Canon := by
  unfold State.showDepend
  exact State.putFlag_canon h

theorem State.cleToStop_canon {s : State} (h : s.Canon) : (s.cleToStop).Canon := by
  unfold State.cleToStop
  exact State.clearFault_canon (by
    extract_lets src
    have hsrc : src.Canon := State.cleGo_canon h
    exact canon_of_fields hsrc)

theorem State.cleRun_canon {s : State} {n : Nat} {cold : Bool} (h : s.Canon) : (s.cleRun n cold).Canon := by
  unfold State.cleRun
  extract_lets
  exact State.cleGo_canon (canon_of_fields h)

theorem State.cleBound_canon {s : State} {n : Nat} {c : Req × Bool × Bool} (h : s.Canon) : (s.cleBound n c).Canon := by
  unfold State.cleBound
  split
  · refine ite_canon (ite_canon (State.complete_canon (State.cleRun_canon h)) (State.complete_canon h)) ?_
    exact State.complete_canon (ite_canon h (State.cleToStop_canon h))

theorem State.cleWriteDue_canon {s : State} {n : Nat} (h : s.Canon) : (s.cleWriteDue n).Canon := by
  unfold State.cleWriteDue
  split
  · extract_lets
    refine ite_canon (State.complete_canon (canon_of_fields h)) ?_
    exact ite_canon (State.complete_canon (State.event_canon (canon_of_fields h))) h
  · exact State.complete_canon (canon_of_fields h)
  · exact h

theorem State.cleBoundary_canon {s : State} {n : Nat} (h : s.Canon) : (s.cleBoundary n).Canon := by
  unfold State.cleBoundary
  extract_lets _ _ _ s0 s1 _ s1a s1b s2 s3 _ _ s4 s5 s6
  have hs0 : s0.Canon := canon_of_fields h
  have hs1 : s1.Canon := ite_canon (ite_canon hs0 (State.cleToStop_canon hs0)) hs0
  have hs1a : s1a.Canon := canon_of_fields hs1
  have hs1b : s1b.Canon := ite_canon (State.cleRun_canon hs1a) hs1a
  have hs2 : s2.Canon := foldl_canon hs1b (fun _ ht _ => State.cleBound_canon ht)
  have hs3 : s3.Canon := State.applyForces_canon hs2
  have hs4 : s4.Canon := canon_of_fields hs3
  have hs5 : s5.Canon := State.cleWriteDue_canon hs4
  have hs6 : s6.Canon := State.showDepend_canon hs5
  split
  · exact ite_canon (State.put_canon (State.put_canon hs6)) hs6
  · exact hs6

theorem State.cleNoImage_canon {s : State} (h : s.Canon) : (s.cleNoImage).Canon := by
  unfold State.cleNoImage
  split
  · extract_lets _ _ s1
    have hs1 : s1.Canon := canon_of_fields h
    exact State.eventIf_canon hs1
  · exact h

theorem State.setRecState_canon {s : State} {v : Nat} (h : s.Canon) : (s.setRecState v).Canon := by
  unfold State.setRecState
  exact State.put_canon h

theorem State.refreshAvail_canon {s : State} (h : s.Canon) : (s.refreshAvail).Canon := by
  unfold State.refreshAvail
  exact State.put_canon h

theorem State.emptyRing_canon {s : State} (h : s.Canon) : (s.emptyRing).Canon := by
  unfold State.emptyRing
  exact State.refreshAvail_canon (canon_of_fields h)

theorem chInstall_canon {bin : Bool} {i : Nat} {s : State} (h : s.Canon) : (chInstall bin i s).Canon := by
  unfold chInstall
  extract_lets _ _ _ _ _ old _ _ _ s1 s2
  have hs1 : s1.Canon := by
    unfold s1
    clear_value old
    split
    · exact State.give_canon h
    · exact h
  have hs2 : s2.Canon := ite_canon (State.take_canon hs1) hs1
  refine ite_canon (State.reject_canon h) ?_
  exact ite_canon (State.reject_canon h) (ite_canon (State.eventIf_canon (State.reject_canon h)) (canon_of_fields hs2))

theorem chRead_canon {bin : Bool} {i : Nat} {s : State} (h : s.Canon) : (chRead bin i s).Canon := by
  unfold chRead
  exact ite_canon (State.reject_canon h) (State.put_canon (State.put_canon h))

theorem State.chanBoundary_canon {s : State} (h : s.Canon) : (s.chanBoundary).Canon := by
  unfold State.chanBoundary
  exact ite_canon h (State.emptyRing_canon (canon_of_fields h))

theorem mptInstall_canon {i : Nat} {s : State} (h : s.Canon) : (mptInstall i s).Canon := by
  unfold mptInstall
  extract_lets
  refine ite_canon (State.reject_canon h) ?_
  exact ite_canon (State.reject_canon h) (ite_canon (State.reject_canon h) (canon_of_fields h))

theorem mptRead_canon {i : Nat} {s : State} (h : s.Canon) : (mptRead i s).Canon := by
  unfold mptRead
  refine ite_canon (State.reject_canon h) ?_
  split
  · exact State.put_canon (State.put_canon (State.put_canon h))

theorem State.setRec_canon {s : State} {r : StoredRec} (h : s.Canon) : (s.setRec r).Canon := by
  unfold State.setRec
  extract_lets
  exact canon_of_fields h

theorem State.newRecId_canon {s : State} (h : s.Canon) : (s.newRecId).2.Canon := by
  unfold State.newRecId
  extract_lets
  exact State.queueWrite_canon (canon_of_fields h)

theorem State.grpSend_canon {s : State} {type id inst frac chan dest : Nat} (h : s.Canon) : (s.grpSend type id inst frac chan dest).Canon := by
  unfold State.grpSend
  extract_lets
  exact foldl_canon h (fun _ ht _ => State.emit_canon ht)

theorem State.recArm_canon {s : State} {given : Option Nat} (h : s.Canon) : (s.recArm given).Canon := by
  unfold State.recArm
  split
  · rename_i _ s1 e
    have hs1 : s1.Canon := canon_snd e (by
    split
    · exact h
    · exact State.newRecId_canon h)
    extract_lets s2
    have hs2 : s2.Canon := State.setRecState_canon (State.put_canon hs1)
    exact ite_canon (State.event_canon (State.grpSend_canon hs2)) hs2

theorem State.recIndexed_canon {s : State} {r : StoredRec} (h : s.Canon) : (s.recIndexed r).Canon := by
  unfold State.recIndexed
  extract_lets s1
  have hs1 : s1.Canon := State.event_canon (State.count_canon (State.setRec_canon h))
  exact foldl_canon hs1 (fun _ ht _ => State.post_canon ht)

theorem State.recTruncate_canon {s : State} (h : s.Canon) : (s.recTruncate).Canon := by
  unfold State.recTruncate
  extract_lets s1 s2 _ s3
  have hs1 : s1.Canon := by
    unfold s1
    split
    · exact State.recIndexed_canon h
    · exact h
  have hs2 : s2.Canon := by
    unfold s2
    split
    · exact State.recIndexed_canon hs1
    · exact hs1
  have hs3 : s3.Canon := canon_of_fields hs2
  exact State.put_canon (State.put_canon (State.put_canon hs3))

theorem State.recStop_canon {s : State} (h : s.Canon) : (s.recStop).Canon := by
  unfold State.recStop
  exact State.emptyRing_canon (State.setRecState_canon (State.recTruncate_canon h))

theorem State.sendFire_canon {s : State} {t : RecTrig} (h : s.Canon) : (s.sendFire t).Canon := by
  unfold State.sendFire
  exact ite_canon (State.count_canon (State.grpSend_canon h)) h

theorem State.recTrigger_canon {s : State} {t : RecTrig} (h : s.Canon) : (s.recTrigger t).Canon := by
  unfold State.recTrigger
  split
  · exact State.count_canon h
  · extract_lets _ _ _ s1
    have hs1 : s1.Canon := canon_of_fields h
    exact State.sendFire_canon (State.event_canon (State.put_canon (State.put_canon (State.setRecState_canon hs1))))
  · split
    · exact h
    · refine ite_canon (State.sendFire_canon (State.setRec_canon h)) ?_
      exact ite_canon (State.put_canon (State.setRec_canon h)) (State.setRec_canon h)
  · exact State.event_canon (State.count_canon (State.journalAdd_canon h))

theorem recFire_canon {s : State} (h : s.Canon) : (recFire s).Canon := by
  unfold recFire
  exact ite_canon (State.reject_canon h) (State.recTrigger_canon h)

theorem recArmCmd_canon {s : State} (h : s.Canon) : (recArmCmd s).Canon := by
  unfold recArmCmd
  refine ite_canon (State.reject_canon h) ?_
  exact ite_canon h (ite_canon (State.recArm_canon h) (ite_canon (canon_of_fields h) h))

theorem recDisarm_canon {s : State} (h : s.Canon) : (recDisarm s).Canon := by
  unfold recDisarm
  exact ite_canon (State.reject_canon h) (ite_canon (State.setRecState_canon h) (ite_canon (canon_of_fields h) h))

theorem rearmTimeout_canon {s : State} (h : s.Canon) : (rearmTimeout s).Canon := by
  unfold rearmTimeout
  extract_lets s0
  have hs0 : s0.Canon := ite_canon (State.advance_canon h) h
  exact ite_canon (State.recArm_canon hs0) hs0

theorem State.fireBad_canon {s : State} (h : s.Canon) : (s.fireBad).Canon := by
  unfold State.fireBad
  exact State.event_canon (State.count_canon h)

theorem State.grpSeen_canon {s : State} {m : GrpMsg} (h : s.Canon) : (s.grpSeen m).Canon := by
  unfold State.grpSeen
  exact canon_of_fields h

theorem groupArmRx_canon {m : GrpMsg} {s : State} (h : s.Canon) : (groupArmRx m s).Canon := by
  unfold groupArmRx
  refine ite_canon h ?_
  split
  · exact h
  · exact State.fireBad_canon h
  · extract_lets s1
    have hs1 : s1.Canon := State.clearCode_canon (State.event_canon (State.grpSeen_canon h))
    exact ite_canon hs1 (ite_canon (State.recArm_canon hs1) (ite_canon (canon_of_fields hs1) hs1))

theorem groupFireRx_canon {m : GrpMsg} {now : Nat} {s : State} (h : s.Canon) : (groupFireRx m now s).Canon := by
  unfold groupFireRx
  refine ite_canon h ?_
  extract_lets s0 s1 s2
  have hs0 : s0.Canon := State.advance_canon h
  have hs1 : s1.Canon := State.count_canon (State.grpSeen_canon hs0)
  have hs2 : s2.Canon := ite_canon (State.count_canon hs1) hs1
  split
  · exact hs0
  · exact State.fireBad_canon hs0
  · exact ite_canon (State.fireBad_canon hs0) (State.recTrigger_canon hs2)

theorem State.runUnit_canon {s : State} {n t : Nat} (h : s.Canon) : (s.runUnit n t).Canon := by
  unfold State.runUnit
  refine ite_canon h ?_
  split
  · exact h
  · split
    · exact h
    · split
      · exact ite_canon (ite_canon (canon_of_fields h) h) (ite_canon (State.recTrigger_canon (canon_of_fields h)) h)

theorem State.runEdges_canon {s : State} {new : RecRow} {old : Option RecRow} (h : s.Canon) : (s.runEdges new old).Canon := by
  unfold State.runEdges
  split
  · exact h
  · exact ite_canon h (foldl_canon h (fun _ ht _ => ite_canon (State.recTrigger_canon ht) ht))

theorem State.maskRow_canon {s : State} {id : Nat} {row : RecRow} (h : s.Canon) : (s.maskRow id row).Canon := by
  unfold State.maskRow
  refine ite_canon h ?_
  exact foldl_canon h (fun _ ht _ => (by
    split
    · exact ht
    · refine ite_canon ?_ ht
      extract_lets
      refine ite_canon (State.setRec_canon ht) ?_
      exact State.event_canon (State.put_canon (State.put_canon (State.put_canon (State.put_canon (State.setRec_canon ht)))))))

theorem State.recLoss_canon {s : State} {k : Nat} (h : s.Canon) : (s.recLoss k).Canon := by
  unfold State.recLoss
  refine ite_canon h ?_
  extract_lets _ _ s1
  have hs1 : s1.Canon := canon_of_fields h
  exact ite_canon (State.raise1_canon hs1) hs1

theorem State.recEnter_canon {s : State} {n : Nat} {full : Bool} (h : s.Canon) : (s.recEnter n full).Canon := by
  unfold State.recEnter
  extract_lets _ _ _ _ s1 _ s2 s3 s4
  have hs1 : s1.Canon := State.refreshAvail_canon (canon_of_fields h)
  have hs2 : s2.Canon := State.eventIf_canon (ite_canon (State.count_canon hs1) hs1)
  have hs3 : s3.Canon := State.recLoss_canon hs2
  have hs4 : s4.Canon := State.runEdges_canon (foldl_canon hs3 (fun _ ht _ => State.runUnit_canon ht))
  split
  · exact ite_canon (State.maskRow_canon hs4) hs4
  · exact hs4

theorem State.recNoRoom_canon {s : State} {n : Nat} (h : s.Canon) : (s.recNoRoom n).Canon := by
  unfold State.recNoRoom
  extract_lets _ s1 s2
  have hs1 : s1.Canon := canon_of_fields h
  have hs2 : s2.Canon := by
    unfold s2
    split
    · exact State.setRec_canon hs1
    · exact hs1
  exact State.raise1_canon (State.event_canon hs2)

theorem recorderRow_canon {n : Nat} {s : State} (h : s.Canon) : (recorderRow n s).Canon := by
  unfold recorderRow
  exact ite_canon h (ite_canon (State.recNoRoom_canon h) (State.recEnter_canon h))

theorem State.openWave_canon {s : State} {arrival chan : Nat} (h : s.Canon) : (s.openWave arrival chan).Canon := by
  unfold State.openWave
  split
  · rename_i _ s1 e
    have hs1 : s1.Canon := canon_snd e (State.newRecId_canon h)
    extract_lets _ _ _ s2
    have hs2 : s2.Canon := State.put_canon (canon_of_fields hs1)
    split
    · exact State.setRec_canon hs2
    · exact hs2

theorem State.locate_canon {s : State} {own far : Nat} (h : s.Canon) : (s.locate own far).Canon := by
  unfold State.locate
  extract_lets _ _ _ _ _ s1 _ _ s2
  have hs1 : s1.Canon := State.put_canon (canon_of_fields h)
  have hs2 : s2.Canon := by
    unfold s2
    split
    · exact State.setRec_canon hs1
    · exact hs1
  refine ite_canon (State.event_canon (State.put_canon (State.put_canon (State.put_canon hs2)))) ?_
  exact State.event_canon (State.drawn_canon (State.put_canon (State.put_canon hs1)))

theorem State.waveOpened_canon {s : State} {a chan : Nat} (h : s.Canon) : (s.waveOpened a chan).Canon := by
  unfold State.waveOpened
  split
  · exact State.openWave_canon h
  · split
    · exact State.setRec_canon h
    · exact h

theorem State.waveFar_canon {s : State} {a chan : Nat} (h : s.Canon) : (s.waveFar a chan).Canon := by
  unfold State.waveFar
  extract_lets _ s1
  have hs1 : s1.Canon := State.grpSend_canon h
  refine ite_canon h ?_
  split
  · exact ite_canon (State.locate_canon hs1) (canon_of_fields hs1)
  · exact canon_of_fields hs1

theorem State.waveSeen_canon {s : State} {a chan : Nat} (h : s.Canon) : (s.waveSeen a chan).Canon := by
  unfold State.waveSeen
  extract_lets s0 s1
  have hs0 : s0.Canon := State.event_canon (State.advance_canon h)
  have hs1 : s1.Canon := ite_canon (State.recTrigger_canon hs0) hs0
  exact State.waveFar_canon (State.waveOpened_canon hs1)

theorem wavefrontDetect_canon {dets : List WaveDet} {s : State} (h : s.Canon) : (wavefrontDetect dets s).Canon := by
  unfold wavefrontDetect
  refine ite_canon h ?_
  split
  · exact h
  · extract_lets
    exact State.waveSeen_canon (canon_of_fields h)

theorem waveTsRx_canon {m : GrpMsg} {now : Nat} {s : State} (h : s.Canon) : (waveTsRx m now s).Canon := by
  obtain ⟨s0, e, hs0⟩ : ∃ t, s.advance (now * nsUnit) = t ∧ t.Canon := ⟨_, rfl, State.advance_canon h⟩
  unfold waveTsRx
  rw [e]
  extract_lets s1
  refine ite_canon hs0 ?_
  have hseen : (s1.grpSeen m).Canon := State.grpSeen_canon hs0
  split
  · exact hs0
  · exact State.fireBad_canon hs0
  · refine ite_canon hseen ?_
    extract_lets
    split
    · exact ite_canon (State.locate_canon hseen) hseen
    · exact canon_of_fields hseen

theorem farArrivalTimeout_canon {s : State} (h : s.Canon) : (farArrivalTimeout s).Canon := by
  unfold farArrivalTimeout
  split
  · exact h
  · extract_lets src _ s1
    have hsrc : src.Canon := State.advance_canon h
    have hs1 : s1.Canon := canon_of_fields hsrc
    exact State.event_canon (State.drawn_canon (State.put_canon (State.put_canon (State.put_canon hs1))))

theorem State.settle_canon {s0 : State} {r : StoredRec} (h : s0.Canon) : (s0.settle r).Canon := by
  unfold State.settle
  extract_lets _ _ _ _ _ _ s1 s2
  have hs1 : s1.Canon := State.put_canon (State.setRec_canon (canon_of_fields h))
  have hs2 : s2.Canon := foldl_canon hs1 (fun _ ht _ => State.maskRow_canon ht)
  exact ite_canon (State.openWave_canon hs2) hs2

theorem settlementEnd_canon {s : State} (h : s.Canon) : (settlementEnd s).Canon := by
  unfold settlementEnd
  split
  · exact h
  · exact ite_canon h (State.settle_canon (State.advance_canon h))

theorem State.flashRoom_canon {s : State} {mib : Nat} {x : List StoredRec} (h : s.Canon) : ∀ t, s.flashRoom mib x = some t → t.Canon := by
  induction x generalizing s mib with
  | nil => exact ite_some_canon (some_canon h) none_canon
  | cons x l ih =>
    rw [State.flashRoom]
    exact ite_some_canon (some_canon h) (ite_some_canon (ih (State.put_canon (canon_of_fields h))) (ih h))

theorem State.notStored_canon {s : State} {r : StoredRec} {code cls detail : Nat} (h : s.Canon) : (s.notStored r code cls detail).Canon := by
  unfold State.notStored
  exact State.raise1_canon (State.event_canon (State.setRec_canon h))

theorem State.segStored_canon {s2 : State} {r : StoredRec} {rows : List RecRow} {mib : Nat} {wave : List WaveRow}
    (h : s2.Canon) : (s2.segStored r rows mib wave).Canon := by
  unfold State.segStored
  exact State.setRec_canon (State.put_canon h)

theorem State.recKept_canon {s : State} {r : StoredRec} (h : s.Canon) : (s.recKept r).Canon := by
  unfold State.recKept
  exact ite_canon (canon_of_fields h) (State.clearFault_canon (State.clearFault_canon h))

theorem flashSegmentCommit_canon {id wear : Nat} {failed : Option Nat} {wave : List WaveRow} {s : State}
    (h : s.Canon) : (flashSegmentCommit id wear failed wave s).Canon := by
  unfold flashSegmentCommit
  split
  · exact h
  · refine ite_canon h ?_
    extract_lets s0 s1
    have hs0 : s0.Canon := State.put_canon h
    have hs1 : s1.Canon := ite_canon (State.event_canon (State.raise1_canon hs0)) hs0
    split
    · exact State.notStored_canon hs1
    · refine ite_canon (State.notStored_canon hs1) ?_
      split
      · exact State.notStored_canon hs1
      · rename_i s2 e
        have hs2 : s2.Canon := State.flashRoom_canon hs1 _ e
        exact State.segStored_canon hs2

theorem recordClose_canon {s : State} (h : s.Canon) : (recordClose s).Canon := by
  unfold recordClose
  split
  · exact h
  · refine ite_canon h ?_
    extract_lets s0 s1 held _ _ s2 s3
    have hs0 : s0.Canon := ite_canon h (State.advance_canon h)
    have hs1 : s1.Canon := State.recKept_canon (State.recIndexed_canon hs0)
    have hs2 : s2.Canon := canon_of_fields hs1
    have hs3 : s3.Canon := State.put_canon hs2
    refine ite_canon (State.setRecState_canon hs3) ?_
    clear_value held
    split
    · exact State.recArm_canon hs3
    · exact State.setRecState_canon hs3

theorem waveCaptureClose_canon {s : State} (h : s.Canon) : (waveCaptureClose s).Canon := by
  unfold waveCaptureClose
  split
  · exact h
  · refine ite_canon h ?_
    extract_lets s0 s1
    have hs0 : s0.Canon := State.advance_canon h
    have hs1 : s1.Canon := State.recKept_canon (State.recIndexed_canon hs0)
    exact State.put_canon (canon_of_fields hs1)

theorem deleteRecord_canon {s : State} (h : s.Canon) : (deleteRecord s).Canon := by
  unfold deleteRecord
  refine ite_canon (State.reject_canon h) ?_
  split
  · exact h
  · extract_lets
    exact State.put_canon (canon_of_fields h)

theorem recFetch_canon {q : Req} {id part len off buf : Nat} {s : State} (h : s.Canon) : (recFetch q id part len off buf s).Canon := by
  unfold recFetch
  split
  · exact State.command_canon h (fun _ ht => ht)
  · extract_lets
    exact State.command_canon h (fun _ ht => State.complete_canon (State.answer_canon ht))

theorem State.setOsf_canon {s : State} (h : s.Canon) : (s.setOsf).Canon := by
  unfold State.setOsf
  exact State.event_canon (State.put_canon (State.put_canon h))

theorem State.pwrEvent_canon {s : State} {b : Nat} (h : s.Canon) : (s.pwrEvent b).Canon := by
  unfold State.pwrEvent
  exact ite_canon (canon_of_fields h) h

theorem State.almFire_canon {s : State} {i inst : Nat} {late : Bool} (h : s.Canon) : (s.almFire i inst late).Canon := by
  unfold State.almFire
  extract_lets _ s1 s2 s3
  have hs1 : s1.Canon := canon_of_fields h
  have hs2 : s2.Canon := State.put_canon hs1
  have hs3 : s3.Canon := ite_canon (State.put_canon hs2) hs2
  exact State.pwrEvent_canon (State.event_canon hs3)

theorem State.almEval_canon {s : State} (h : s.Canon) : (s.almEval).Canon := by
  unfold State.almEval
  exact foldl_canon h (fun _ ht _ => ite_canon (State.almFire_canon ht) ht)

theorem State.almJump_canon {s : State} {lo hi : Nat} (h : s.Canon) : (s.almJump lo hi).Canon := by
  unfold State.almJump
  refine ite_canon h ?_
  extract_lets
  exact foldl_canon h (fun _ ht _ => (by
    split
    · exact ite_canon (State.almFire_canon ht) ht
    · exact ht))

theorem State.moveCal_canon {s : State} {new : Nat} (h : s.Canon) : (s.moveCal new).Canon := by
  unfold State.moveCal
  extract_lets
  exact ite_canon (State.putCal_canon h) (State.setOsf_canon (State.putCal_canon h))

theorem State.passCounts_canon {s : State} {k : Nat} (h : s.Canon) : (s.passCounts k).Canon := by
  unfold State.passCounts
  extract_lets _ _ _ s1
  have hs1 : s1.Canon := State.put_canon (canon_of_fields h)
  exact ite_canon (State.put_canon (canon_of_fields hs1)) hs1

theorem State.repeatDown_canon {s : State} (h : s.Canon) : (s.repeatDown).Canon := by
  unfold State.repeatDown
  extract_lets _ _ s1
  have hs1 : s1.Canon := canon_of_fields h
  exact ite_canon (State.put_canon hs1) hs1

theorem State.applyDst_canon {s : State} (h : s.Canon) : (s.applyDst).Canon := by
  unfold State.applyDst
  extract_lets _ _ s0 _ s1 _ _ _ s1'1
  have hs0 : s0.Canon := canon_of_fields h
  have hs1 : s1.Canon := State.almJump_canon hs0
  have hs1'1 : s1'1.Canon := State.putCal_canon (canon_of_fields hs0)
  refine ite_canon (State.event_canon (State.put_canon (State.moveCal_canon hs1))) ?_
  exact ite_canon (State.event_canon (State.put_canon (State.put_canon hs1'1))) hs0

theorem State.stampEdge_canon {s : State} (h : s.Canon) : (s.stampEdge).Canon := by
  unfold State.stampEdge
  exact ite_canon (State.putStamp_canon h) h

theorem State.secondEdge_canon {s : State} (h : s.Canon) : (s.secondEdge).Canon := by
  unfold State.secondEdge
  extract_lets s0 _ _ _ _ s1
  have hs0 : s0.Canon := State.repeatDown_canon (State.put_canon (State.stampEdge_canon h))
  have hs1 : s1.Canon := by
    unfold s1
    refine ite_canon (State.event_canon (canon_of_fields hs0)) ?_
    refine ite_canon (State.moveCal_canon (State.put_canon (State.put_canon (canon_of_fields hs0)))) ?_
    refine ite_canon (State.event_canon (State.put_canon (State.put_canon (State.moveCal_canon (State.almJump_canon hs0))))) ?_
    exact State.moveCal_canon hs0
  exact State.almEval_canon (State.applyDst_canon hs1)

theorem calSecondEdge_canon {stamp : Nat} {s : State} (h : s.Canon) : (calSecondEdge stamp s).Canon := by
  unfold calSecondEdge
  extract_lets _ s1
  have hs1 : s1.Canon := State.passCounts_canon (ite_canon (State.advance_canon h) h)
  exact State.secondEdge_canon (canon_of_fields hs1)

theorem State.wakeFires_canon {s : State} (h : s.Canon) : (s.wakeFires).Canon := by
  unfold State.wakeFires
  extract_lets
  exact State.pwrEvent_canon (State.event_canon (canon_of_fields h))

theorem State.crossSet_canon {s : State} {w : RtcWrite} (h : s.Canon) : (s.crossSet w).Canon := by
  unfold State.crossSet
  extract_lets _ _ s1 _ src _ s2
  have hs1 : s1.Canon := State.almJump_canon h
  have hsrc : src.Canon := State.putCal_canon hs1
  have hs2 : s2.Canon := canon_of_fields hsrc
  exact State.event_canon (State.put_canon (State.put_canon hs2))

theorem State.crossShift_canon {s : State} {back : Bool} {k : Nat} (h : s.Canon) : (s.crossShift back k).Canon := by
  unfold State.crossShift
  extract_lets _ _ _ s1 _ _ s1'1 s2 s3
  have hs1 : s1.Canon := canon_of_fields h
  have hs1'1 : s1'1.Canon := canon_of_fields h
  have hs2 : s2.Canon := ite_canon (State.put_canon hs1'1) (State.put_canon (State.secondEdge_canon hs1'1))
  have hs3 : s3.Canon := State.event_canon hs2
  refine ite_canon (ite_canon h (State.event_canon (State.put_canon (State.putCal_canon hs1)))) ?_
  exact ite_canon (State.wakeFires_canon hs3) hs3

theorem State.crossStatus_canon {s : State} {d : Nat} (h : s.Canon) : (s.crossStatus d).Canon := by
  unfold State.crossStatus
  extract_lets _ s1 s2 s3
  have hs1 : s1.Canon := ite_canon (State.put_canon (ite_canon (State.put_canon h) h)) (ite_canon (State.put_canon h) h)
  have hs2 : s2.Canon := State.put_canon hs1
  have hs3 : s3.Canon := State.put_canon hs2
  exact ite_canon (State.clearFault_canon (State.put_canon hs3)) hs3

theorem State.crossWrite_canon {s : State} {w : RtcWrite} (h : s.Canon) : (s.crossWrite w).Canon := by
  unfold State.crossWrite
  extract_lets plain _ s1
  have hplain : plain.Canon := State.wr_canon h
  have hs1 : s1.Canon := State.put_canon (State.put_canon h)
  refine ite_canon (ite_canon (canon_of_fields hs1) hs1) ?_
  refine ite_canon (State.crossStatus_canon h) ?_
  refine ite_canon (State.crossSet_canon h) ?_
  refine ite_canon (canon_of_fields h) ?_
  refine ite_canon (State.crossShift_canon h) ?_
  exact ite_canon (canon_of_fields hplain) (ite_canon (ite_canon (canon_of_fields hplain) hplain) hplain)

theorem rtcWriteCross_canon {counts : Nat} {s : State} (h : s.Canon) : (rtcWriteCross counts s).Canon := by
  unfold rtcWriteCross
  split
  · exact h
  · extract_lets s1 _ s2
    have hs1 : s1.Canon := State.passCounts_canon h
    have hs2 : s2.Canon := State.crossWrite_canon (canon_of_fields hs1)
    exact State.clearFault_canon (State.putFlag_canon hs2)

theorem rtcQueueFull_canon {s : State} (h : s.Canon) : (rtcQueueFull s).Canon := by
  unfold rtcQueueFull
  exact ite_canon (State.event_canon (State.put_canon h)) h

theorem State.rtcWrite_canon {s : State} {off : Nat} {bad : Bool} {w : RtcWrite} (h : s.Canon) : (s.rtcWrite off bad w).Canon := by
  unfold State.rtcWrite
  exact ite_canon (State.reject_canon h) (ite_canon (State.reject_canon h) (State.rtcQueue_canon h))

theorem calSet_canon {sub : Nat} {s : State} (h : s.Canon) : (calSet sub s).Canon := by
  unfold calSet
  exact State.rtcWrite_canon h

theorem dstAdd_canon {s : State} (h : s.Canon) : (dstAdd s).Canon := by
  unfold dstAdd
  exact State.rtcWrite_canon h

theorem dstSubtract_canon {s : State} (h : s.Canon) : (dstSubtract s).Canon := by
  unfold dstSubtract
  exact State.rtcWrite_canon h

theorem calShift_canon {back : Bool} {count : Nat} {s : State} (h : s.Canon) : (calShift back count s).Canon := by
  unfold calShift
  extract_lets
  exact ite_canon (ite_canon (State.reject_canon h) h) (State.rtcWrite_canon h)

theorem osfClear_canon {s : State} (h : s.Canon) : (osfClear s).Canon := by
  unfold osfClear
  exact State.rtcWrite_canon h

theorem backupDomainPowerUp_canon {s : State} (h : s.Canon) : (backupDomainPowerUp s).Canon := by
  unfold backupDomainPowerUp
  exact State.setOsf_canon (canon_of_filter rfl h)

theorem wakeFire_canon {s : State} (h : s.Canon) : (wakeFire s).Canon := by
  unfold wakeFire
  refine ite_canon h ?_
  extract_lets s1
  have hs1 : s1.Canon := State.passCounts_canon h
  exact State.wakeFires_canon (canon_of_fields hs1)

theorem pwronReqAssert_canon {s : State} (h : s.Canon) : (pwronReqAssert s).Canon := by
  unfold pwronReqAssert
  exact ite_canon (State.event_canon (State.put_canon (canon_of_fields h))) h

theorem pwronTimeout_canon {s : State} (h : s.Canon) : (pwronTimeout s).Canon := by
  unfold pwronTimeout
  refine ite_canon ?_ h
  extract_lets _ s1
  have hs1 : s1.Canon := canon_of_fields h
  exact State.event_canon (State.put_canon (State.put_canon hs1))

theorem State.setPoint_canon {s : State} {x : NrgPoint} (h : s.Canon) : (s.setPoint x).Canon := by
  unfold State.setPoint
  exact canon_of_fields h

theorem State.nrgEmpty_canon {s : State} (h : s.Canon) : (s.nrgEmpty).Canon := by
  unfold State.nrgEmpty
  exact canon_of_fields h

theorem State.setPo_canon {s : State} {x : PulseOut} (h : s.Canon) : (s.setPo x).Canon := by
  unfold State.setPo
  exact canon_of_fields h

theorem State.poFeed_canon {s : State} {k units : Nat} (h : s.Canon) : (s.poFeed k units).Canon := by
  unfold State.poFeed
  extract_lets _ _ _ _ _ _ s1 s2
  have hs1 : s1.Canon := State.setPo_canon h
  have hs2 : s2.Canon := State.put_canon (State.put_canon hs1)
  exact ite_canon (State.raiseAt_canon hs2) hs2

theorem State.poRestart_canon {s : State} {k : Nat} (h : s.Canon) : (s.poRestart k).Canon := by
  unfold State.poRestart
  extract_lets
  exact State.setPo_canon h

theorem State.poBoundary_canon {s : State} (h : s.Canon) : (s.poBoundary).Canon := by
  unfold State.poBoundary
  exact foldl_canon h (fun _ ht _ => State.poFeed_canon (State.poRestart_canon ht))

theorem State.poUnits_canon {s : State} {p φ r units : Nat} (h : s.Canon) : (s.poUnits p φ r units).Canon := by
  unfold State.poUnits
  exact foldl_canon h (fun _ ht _ => ite_canon (State.poFeed_canon ht) ht)

theorem pulseStart_canon {k now : Nat} {s : State} (h : s.Canon) : (pulseStart k now s).Canon := by
  unfold pulseStart
  extract_lets s0 _ _ _ _ _ _ s1 s2 s3
  have hs0 : s0.Canon := State.advance_canon h
  have hs1 : s1.Canon := State.setPo_canon hs0
  have hs2 : s2.Canon := State.put_canon (State.countMod_canon (State.put_canon hs1))
  have hs3 : s3.Canon := State.eventIf_canon (State.eventIf_canon (State.emit_canon hs2))
  exact ite_canon hs0 (ite_canon (State.clearFault_canon hs3) hs3)

theorem State.addUnits_canon {s : State} {p φ r x : Nat} (h : s.Canon) : (s.addUnits p φ r x).Canon := by
  unfold State.addUnits
  extract_lets
  exact State.poUnits_canon (State.setPoint_canon h)

theorem State.windowEnd_canon {s : State} {p : Nat} (h : s.Canon) : (s.windowEnd p).Canon := by
  unfold State.windowEnd
  extract_lets _ s1
  have hs1 : s1.Canon := foldl_canon h (fun _ ht _ => foldl_canon ht (fun _ ht1 _ => State.addUnits_canon ht1))
  split
  · extract_lets s2
    have hs2 : s2.Canon := State.setPoint_canon hs1
    exact State.eventIf_canon (State.putFlag_canon (State.put_canon hs2))

theorem nrgWindowEnd_canon {p : Nat} {s : State} (h : s.Canon) : (nrgWindowEnd p s).Canon := by
  unfold nrgWindowEnd
  exact ite_canon (State.windowEnd_canon h) h

theorem State.ptLoad_canon {s : State} {p n : Nat} (h : s.Canon) : (s.ptLoad p n).Canon := by
  unfold State.ptLoad
  extract_lets _ _ s1
  have hs1 : s1.Canon := ite_canon (State.windowEnd_canon h) h
  exact ite_canon h (State.setPoint_canon hs1)

theorem State.ptTick_canon {s : State} {p n : Nat} (h : s.Canon) : (s.ptTick p n).Canon := by
  unfold State.ptTick
  extract_lets _ _ _ _ _ _ _ _ _ _ s1 s2
  have hs1 : s1.Canon := State.setPoint_canon h
  have hs2 : s2.Canon := ite_canon (State.event_canon (State.count_canon hs1)) hs1
  exact ite_canon (State.event_canon (State.count_canon hs2)) hs2

theorem nrgTick_canon {p n : Nat} {s : State} (h : s.Canon) : (nrgTick p n s).Canon := by
  unfold nrgTick
  refine ite_canon h ?_
  extract_lets s1
  have hs1 : s1.Canon := State.ptLoad_canon (ite_canon (State.windowEnd_canon h) h)
  exact ite_canon (State.ptTick_canon hs1) hs1

theorem State.setMeter_canon {s : State} {x : HeatMeter} (h : s.Canon) : (s.setMeter x).Canon := by
  unfold State.setMeter
  exact canon_of_fields h

theorem State.heatAdd_canon {s : State} {h : Nat} {ts tr v : Int} (hs : s.Canon) : (s.heatAdd h ts tr v).Canon := by
  unfold State.heatAdd
  extract_lets
  exact State.put_canon (State.put_canon (State.setMeter_canon hs))

theorem State.heatError_canon {s : State} {h : Nat} {oks : List Bool} (hs : s.Canon) : (s.heatError h oks).Canon := by
  unfold State.heatError
  extract_lets _ _ _ s1 s2
  have hs1 : s1.Canon := State.setMeter_canon hs
  have hs2 : s2.Canon := State.event_canon (State.put_canon (State.put_canon hs1))
  exact ite_canon (State.raiseAt_canon hs2) hs2

theorem heatStep_canon {h now : Nat} {s : State} (hs : s.Canon) : (heatStep h now s).Canon := by
  unfold heatStep
  refine ite_canon hs ?_
  extract_lets s0 s1
  have hs0 : s0.Canon := State.advance_canon hs
  have hs1 : s1.Canon := State.putFlag_canon hs0
  split
  · exact ite_canon (State.clearFault_canon (State.heatAdd_canon hs1)) (State.heatError_canon hs1)
  · exact hs1

theorem heatReportWrite_canon {h lph : Nat} {s : State} (hs : s.Canon) : (heatReportWrite h lph s).Canon := by
  unfold heatReportWrite
  refine ite_canon hs ?_
  refine ite_canon (State.reject_canon hs) ?_
  extract_lets _ _ s1
  have hs1 : s1.Canon := State.setMeter_canon hs
  exact State.put_canon (State.put_canon hs1)

theorem State.putAcc_canon {s : State} {l : List Nat} (h : s.Canon) : (s.putAcc l).Canon := by
  unfold State.putAcc
  exact foldl_canon h (fun _ ht _ => State.put_canon ht)

theorem accSnapshot_canon {heat : Bool} {i : Nat} {s : State} (h : s.Canon) : (accSnapshot heat i s).Canon := by
  unfold accSnapshot
  refine ite_canon (State.reject_canon h) ?_
  refine ite_canon (State.reject_canon h) ?_
  extract_lets s1 _ _ s2
  have hs1 : s1.Canon := State.put_canon (State.putFlag_canon h)
  have hs2 : s2.Canon := ite_canon (State.put_canon (State.putAcc_canon hs1)) (State.put_canon (State.putAcc_canon hs1))
  exact State.put_canon hs2

theorem vigilSecond_canon {second n : Nat} {sums : List (Nat × Nat × Nat × Nat)} {s : State} (h : s.Canon) : (vigilSecond second n sums s).Canon := by
  unfold vigilSecond
  refine ite_canon h ?_
  extract_lets _ _ _ _ _ _ _ _ _ _ _ s1
  have hs1 : s1.Canon := canon_of_fields h
  exact ite_canon (State.pwrEvent_canon hs1) hs1

theorem State.macCause_canon {s : State} {p b : Nat} (h : s.Canon) : (s.macCause p b).Canon := by
  unfold State.macCause
  exact State.event_canon (State.put_canon h)

theorem State.portIdle_canon {s : State} {p : Nat} (h : s.Canon) : (s.portIdle p).Canon := by
  unfold State.portIdle
  exact State.put_canon (State.put_canon (State.put_canon h))

theorem State.portState_canon {s : State} {p st reason : Nat} (h : s.Canon) : (s.portState p st reason).Canon := by
  unfold State.portState
  extract_lets _ s0 s1 s2
  have hs0 : s0.Canon := ite_canon (State.portIdle_canon h) h
  have hs1 : s1.Canon := State.put_canon (State.put_canon hs0)
  have hs2 : s2.Canon := by
    unfold s2
    refine ite_canon ?_ (ite_canon (State.stopQueues_canon hs1) hs1)
    exact State.setPausing_canon (State.macCause_canon (ite_canon (State.stopQueues_canon hs1) (State.linkHold_canon hs1)))
  exact ite_canon (State.clearFault_canon hs2) hs2

theorem State.portFault_canon {s : State} {p reason : Nat} (h : s.Canon) : (s.portFault p reason).Canon := by
  unfold State.portFault
  exact State.raiseAt_canon (State.macCause_canon (State.portState_canon h))

theorem State.portIdent_canon {s : State} {p : Nat} {i : OptIdent} (h : s.Canon) : (s.portIdent p i).Canon := by
  unfold State.portIdent
  extract_lets s1
  have hs1 : s1.Canon := State.putFlag_canon (State.put_canon h)
  refine ite_canon (State.portFault_canon hs1) ?_
  exact ite_canon (State.portFault_canon hs1) (State.portState_canon (State.macCause_canon hs1))

theorem State.portStop_canon {s : State} {p : Nat} (h : s.Canon) : (s.portStop p).Canon := by
  unfold State.portStop
  exact ite_canon h (State.portState_canon h)

theorem State.portStart_canon {s : State} {p : Nat} {i : OptIdent} (h : s.Canon) : (s.portStart p i).Canon := by
  unfold State.portStart
  extract_lets _ s0 _ s1
  have hs0 : s0.Canon := State.clearFault_canon h
  have hs1 : s1.Canon := ite_canon (canon_of_fields hs0) hs0
  refine ite_canon (State.portState_canon hs1) ?_
  exact ite_canon (State.portState_canon hs1) (ite_canon (State.portFault_canon hs1) (State.portIdent_canon hs1))

theorem portEnableChange_canon {p : Nat} {i : OptIdent} {s : State} (h : s.Canon) : (portEnableChange p i s).Canon := by
  unfold portEnableChange
  exact ite_canon h (ite_canon (State.portStop_canon h) (ite_canon (State.portStart_canon h) h))

theorem modAbsLow_canon {p : Nat} {i : OptIdent} {s : State} (h : s.Canon) : (modAbsLow p i s).Canon := by
  unfold modAbsLow
  refine ite_canon h ?_
  extract_lets s1
  have hs1 : s1.Canon := State.put_canon h
  exact ite_canon (State.portIdent_canon hs1) hs1

theorem modAbsHigh_canon {p : Nat} {s : State} (h : s.Canon) : (modAbsHigh p s).Canon := by
  unfold modAbsHigh
  refine ite_canon h ?_
  extract_lets s1
  have hs1 : s1.Canon := State.macCause_canon (State.put_canon h)
  exact ite_canon (State.portState_canon hs1) hs1

theorem txFaultAssert_canon {p : Nat} {s : State} (h : s.Canon) : (txFaultAssert p s).Canon := by
  unfold txFaultAssert
  refine ite_canon h ?_
  extract_lets s1
  have hs1 : s1.Canon := State.put_canon h
  exact ite_canon (State.portFault_canon hs1) hs1

theorem txFaultClear_canon {p : Nat} {s : State} (h : s.Canon) : (txFaultClear p s).Canon := by
  unfold txFaultClear
  refine ite_canon h ?_
  extract_lets s1
  have hs1 : s1.Canon := State.put_canon h
  exact ite_canon (State.portState_canon hs1) hs1

theorem txDisablePulse_canon {p : Nat} {s : State} (h : s.Canon) : (txDisablePulse p s).Canon := by
  unfold txDisablePulse
  exact ite_canon (State.emit_canon h) h

theorem cageOvercurrent_canon {p : Nat} {s : State} (h : s.Canon) : (cageOvercurrent p s).Canon := by
  unfold cageOvercurrent
  refine ite_canon h ?_
  extract_lets _ s1
  have hs1 : s1.Canon := canon_of_fields h
  exact ite_canon (State.portFault_canon hs1) hs1

theorem cageRetry_canon {p : Nat} {s : State} (h : s.Canon) : (cageRetry p s).Canon := by
  unfold cageRetry
  exact canon_of_fields h

theorem ddmRead_canon {p temp tx rx : Nat} {alarm : Bool} {s : State} (h : s.Canon) : (ddmRead p temp tx rx alarm s).Canon := by
  unfold ddmRead
  refine ite_canon h ?_
  extract_lets s1
  have hs1 : s1.Canon := State.put_canon (State.put_canon (State.put_canon h))
  exact ite_canon (State.macCause_canon hs1) hs1

theorem State.enterUp_canon {s : State} {p : Nat} (h : s.Canon) : (s.enterUp p).Canon := by
  unfold State.enterUp
  extract_lets s1 _ s3 s3'1 s2
  have hs1 : s1.Canon := State.put_canon (State.macCause_canon (State.portState_canon h))
  have hs3 : s3.Canon := State.clearFault_canon hs1
  have hs3'1 : s3'1.Canon := State.clearFault_canon hs1
  have hs2 : s2.Canon := by
    unfold s2
    refine ite_canon (ite_canon (State.clearFault_canon (State.clearFault_canon hs3)) hs3) ?_
    exact ite_canon (ite_canon (State.clearFault_canon (State.clearFault_canon hs3'1)) hs3'1) hs1
  exact State.flowControl_canon hs2

theorem linkUp_canon {p : Nat} {an res : Bool} {s : State} (h : s.Canon) : (linkUp p an res s).Canon := by
  unfold linkUp
  refine ite_canon h ?_
  extract_lets _ s1 s2
  have hs1 : s1.Canon := State.putFlag_canon (State.put_canon (State.put_canon h))
  have hs2 : s2.Canon := State.putFlag_canon hs1
  exact ite_canon hs2 (ite_canon (State.enterUp_canon hs2) (State.put_canon hs2))

theorem linkDown_canon {p : Nat} {los : Bool} {s : State} (h : s.Canon) : (linkDown p los s).Canon := by
  unfold linkDown
  refine ite_canon h ?_
  extract_lets s1
  have hs1 : s1.Canon := State.portIdle_canon (ite_canon (State.put_canon h) h)
  exact ite_canon (State.portState_canon (State.count_canon hs1)) (ite_canon (State.put_canon hs1) hs1)

theorem portNotUpTimer_canon {p : Nat} {s : State} (h : s.Canon) : (portNotUpTimer p s).Canon := by
  unfold portNotUpTimer
  extract_lets
  refine ite_canon h ?_
  refine ite_canon (ite_canon h (ite_canon (State.raiseAt_canon h) (State.raiseAt_canon h))) ?_
  exact ite_canon (State.raiseAt_canon h) (State.raise1_canon h)

theorem State.pauseClass_canon {s : State} {p tc q now : Nat} (h : s.Canon) : (s.pauseClass p tc q now).Canon := by
  unfold State.pauseClass
  extract_lets _ _ _ s1
  have hs1 : s1.Canon := canon_of_fields h
  exact State.putFlag_canon hs1

theorem State.pauseFrame_canon {s : State} {p q now : Nat} (h : s.Canon) : (s.pauseFrame p q now).Canon := by
  unfold State.pauseFrame
  extract_lets s1
  have hs1 : s1.Canon := State.count_canon h
  exact ite_canon (foldl_canon hs1 (fun _ ht _ => State.pauseClass_canon ht)) hs1

theorem State.pfcFrame_canon {s : State} {p classes : Nat} {q : List Nat} {now : Nat} (h : s.Canon) : (s.pfcFrame p classes q now).Canon := by
  unfold State.pfcFrame
  extract_lets s1
  have hs1 : s1.Canon := State.count_canon h
  exact ite_canon (foldl_canon hs1 (fun _ ht _ => ite_canon (State.pauseClass_canon ht) ht)) hs1

theorem pauseRefresh_canon {p : Nat} {s : State} (h : s.Canon) : (pauseRefresh p s).Canon := by
  unfold pauseRefresh
  extract_lets
  exact ite_canon h (ite_canon (State.sendPause_canon h) (ite_canon (State.sendPfc_canon h) h))

theorem State.setDupTable_canon {s : State} {k : Nat} {l : List DupEntry} (h : s.Canon) : (s.setDupTable k l).Canon := by
  unfold State.setDupTable
  exact State.putFlag_canon (State.put_canon (canon_of_fields h))

theorem State.dupCheck_canon {s : State} {k src q now : Nat} {ws : List Nat} (h : s.Canon) : (s.dupCheck k src q now ws).1.Canon := by
  unfold State.dupCheck
  extract_lets
  split
  · split
    · exact State.raiseAt_canon (State.count_canon h)
    · exact State.setDupTable_canon h
  · split
    · exact State.setDupTable_canon (State.countBy_canon h)

theorem dupEntryForget_canon {k src : Nat} {s : State} (h : s.Canon) : (dupEntryForget k src s).Canon := by
  unfold dupEntryForget
  refine ite_canon h ?_
  split
  · exact h
  · exact State.setDupTable_canon (State.advance_canon h)

theorem State.setNodeTable_canon {s : State} {k : Nat} {l : List (Nat × Nat)} (h : s.Canon) : (s.setNodeTable k l).Canon := by
  unfold State.setNodeTable
  exact State.put_canon (canon_of_fields h)

theorem State.supervised_canon {s : State} {k node now : Nat} (h : s.Canon) : (s.supervised k node now).Canon := by
  unfold State.supervised
  extract_lets
  exact ite_canon h (State.setNodeTable_canon h)

theorem State.unitSend_canon {s : State} {src tc eth dst len : Nat} {seqs : List (Nat × Nat)} {ports : List Nat}
    (h : s.Canon) : (s.unitSend src tc eth dst len seqs ports).Canon := by
  unfold State.unitSend
  exact ite_canon (State.coreEnter_canon h) h

theorem State.keeperSend_canon {s : State} {tc eth dst len : Nat} {seqs : List (Nat × Nat)} {ports : List Nat}
    (h : s.Canon) : (s.keeperSend tc eth dst len seqs ports).Canon := by
  unfold State.keeperSend
  exact State.unitSend_canon h

theorem supervisionTx_canon {k : Nat} {s : State} (h : s.Canon) : (supervisionTx k s).Canon := by
  unfold supervisionTx
  refine ite_canon h ?_
  split
  · rename_i s1 _ e
    have hs1 : s1.Canon := canon_fst e (State.numberPairs_canon h)
    exact State.keeperSend_canon hs1

theorem nodeEntryAge_canon {k node : Nat} {s : State} (h : s.Canon) : (nodeEntryAge k node s).Canon := by
  unfold nodeEntryAge
  refine ite_canon h ?_
  split
  · exact h
  · exact State.setNodeTable_canon (State.advance_canon h)

theorem State.rxCore_canon {s : State} {p : Nat} {b : List Nat} {stamp flags : Nat} {deliver : Bool} {extra : Option (Nat × Nat)}
    (h : s.Canon) : (s.rxCore p b stamp flags deliver extra).Canon := by
  unfold State.rxCore
  refine ite_canon h ?_
  extract_lets
  split
  · rename_i s1 _ _ e
    have hs1 : s1.Canon := canon_fst e (State.meter_canon h)
    refine ite_canon (State.count_canon hs1) ?_
    split
    · extract_lets
      split
      · rename_i s2 _ e1
        have hs2 : s2.Canon := canon_fst e1 (State.numberPairs_canon hs1)
        split
        · extract_lets
          exact State.coreEnter_canon hs2

theorem State.rxCounted_canon {s : State} {p n : Nat} (h : s.Canon) : (s.rxCounted p n).Canon := by
  unfold State.rxCounted
  exact State.countMod_canon (State.countMod_canon h)

theorem State.rxPrp_canon {s : State} {p : Nat} {b : List Nat} {stamp flags n : Nat} (h : s.Canon) : (s.rxPrp p b stamp flags n).Canon := by
  unfold State.rxPrp
  split
  · exact State.rxCore_canon (State.rxCounted_canon h)
  · extract_lets s1
    have hs1 : s1.Canon := ite_canon (State.count_canon h) h
    split
    · rename_i s2 _ e
      have hs2 : s2.Canon := canon_fst e (State.dupCheck_canon hs1)
      split
      · exact State.rxCore_canon (State.rxCounted_canon hs2)
      · refine ite_canon (State.rxCore_canon (State.rxCounted_canon hs2)) ?_
        extract_lets s3
        have hs3 : s3.Canon := State.count_canon hs2
        exact ite_canon (canon_of_fields hs3) hs3

theorem State.rxHsr_canon {s : State} {p : Nat} {b : List Nat} {stamp flags n : Nat} (h : s.Canon) : (s.rxHsr p b stamp flags n).Canon := by
  unfold State.rxHsr
  extract_lets
  refine ite_canon (State.count_canon h) ?_
  refine ite_canon (State.count_canon h) ?_
  split
  · rename_i s1 _ e
    have hs1 : s1.Canon := canon_fst e (State.dupCheck_canon h)
    extract_lets
    exact ite_canon (State.count_canon hs1) (State.rxCore_canon (State.rxCounted_canon hs1))

theorem State.fcsError_canon {s : State} {p : Nat} (h : s.Canon) : (s.fcsError p).Canon := by
  unfold State.fcsError
  extract_lets _ _ _ s1
  have hs1 : s1.Canon := State.count_canon (canon_of_fields h)
  exact ite_canon (State.macCause_canon hs1) hs1

theorem State.macsecDrop_canon {s : State} {p : Nat} {f : Field} (h : s.Canon) : (s.macsecDrop p f).Canon := by
  unfold State.macsecDrop
  extract_lets s1
  have hs1 : s1.Canon := State.count_canon h
  exact ite_canon hs1 (State.macCause_canon hs1)

theorem State.rxPtp_canon {s : State} {p : Nat} {b : List Nat} {stamp flags n : Nat} (h : s.Canon) : (s.rxPtp p b stamp flags n).Canon := by
  unfold State.rxPtp
  extract_lets _ _ s1
  have hs1 : s1.Canon := ite_canon (canon_of_fields h) h
  refine ite_canon ?_ (State.rxCounted_canon hs1)
  refine ite_canon (State.count_canon hs1) ?_
  split
  · rename_i s2 _ e
    have hs2 : s2.Canon := canon_fst e (State.dupCheck_canon hs1)
    extract_lets s3
    have hs3 : s3.Canon := State.rxCounted_canon hs2
    exact ite_canon (State.rxCore_canon hs3) hs3

theorem State.rxMac_canon {s : State} {p : Nat} {w : RxWire} (h : s.Canon) : (s.rxMac p w).Canon := by
  unfold State.rxMac
  extract_lets _ _ _ _ _ _ s1 _ _ _ _ s1'1
  have hs1 : s1.Canon := ite_canon (canon_of_fields h) h
  have hs1'1 : s1'1.Canon := State.rxCounted_canon hs1
  refine ite_canon (State.fcsError_canon h) ?_
  refine ite_canon (State.count_canon h) ?_
  refine ite_canon (State.macsecDrop_canon h) ?_
  refine ite_canon (State.macsecDrop_canon h) ?_
  refine ite_canon (State.macsecDrop_canon h) ?_
  refine ite_canon h ?_
  refine ite_canon (ite_canon (State.pauseFrame_canon hs1'1) (ite_canon (State.pfcFrame_canon hs1'1) (State.count_canon hs1))) ?_
  refine ite_canon (State.rxCounted_canon hs1) ?_
  refine ite_canon (State.supervised_canon (State.rxCounted_canon hs1)) ?_
  refine ite_canon (State.rxPtp_canon hs1) ?_
  refine ite_canon (State.rxPrp_canon hs1) ?_
  exact ite_canon (State.rxHsr_canon hs1) (State.rxCore_canon (State.rxCounted_canon hs1))

theorem State.injRx_canon {s : State} {w : RxWire} {p tc : Nat} {x : List Injection} (h : s.Canon) : (s.injRx w p tc x).1.Canon := by
  induction x generalizing s w p tc with
  | nil => exact h
  | cons x l ih =>
    rw [State.injRx]
    split
    · exact State.injHit_canon h
    · split
      · extract_lets
        exact ih (State.injHit_canon h)
      · split
        · exact ih h
        · extract_lets _ s1
          have hs1 : s1.Canon := State.injHit_canon h
          exact canon_of_fields hs1

theorem State.fijGive_canon {s : State} {l : List FijHeld} (h : s.Canon) : (s.fijGive l).Canon := by
  unfold State.fijGive
  exact foldl_canon h (fun _ ht _ => (by
    split
    · exact State.rxMac_canon ht
    · exact State.fijSend_canon ht))

theorem State.macArrived_canon {s : State} {p : Nat} {w : RxWire} {fecCorr fecUncorr : Nat}
    (h : s.Canon) : (s.macArrived p w fecCorr fecUncorr).Canon := by
  unfold State.macArrived
  extract_lets s0
  have hs0 : s0.Canon := State.countBy_canon (State.advance_canon h)
  exact ite_canon hs0 (State.macCause_canon (State.countBy_canon hs0))

theorem State.macTake_canon {s1 : State} {p : Nat} {w : RxWire} {luck : List Nat} (h : s1.Canon) : (s1.macTake p w luck).Canon := by
  unfold State.macTake
  extract_lets
  split
  · rename_i s2 _ e
    have hs2 : s2.Canon := canon_fst e (State.fijDue_canon h)
    split
    · rename_i s3 _ e1
      have hs3 : s3.Canon := canon_fst e1 (State.injSelect_canon (State.fijGive_canon hs2))
      split
      · rename_i s4 _ e2
        have hs4 : s4.Canon := canon_fst e2 (State.injRx_canon hs3)
        split
        · exact hs4
        · split
          · rename_i s5 _ e3
            have hs5 : s5.Canon := canon_fst e3 (State.fijDue_canon (State.rxMac_canon hs4))
            exact State.fijGive_canon hs5

theorem macFrameRx_canon {p : Nat} {w : RxWire} {fecCorr fecUncorr : Nat} {luck : List Nat} {s : State}
    (h : s.Canon) : (macFrameRx p w fecCorr fecUncorr luck s).Canon := by
  unfold macFrameRx
  exact ite_canon h (State.macTake_canon (State.macArrived_canon h))

theorem t1sCollision_canon {p now : Nat} {late : Bool} {s : State} (h : s.Canon) : (t1sCollision p now late s).Canon := by
  unfold t1sCollision
  refine ite_canon h ?_
  split
  · exact h
  · extract_lets s0 s1 _ _ s2 _ s2'1
    have hs0 : s0.Canon := State.count_canon (State.advance_canon h)
    have hs1 : s1.Canon := ite_canon (State.count_canon hs0) hs0
    have hs2 : s2.Canon := canon_of_fields hs1
    have hs2'1 : s2'1.Canon := canon_of_fields hs1
    refine ite_canon (State.releaseCopy_canon (State.macCause_canon (State.count_canon hs2))) ?_
    exact State.putCopy_canon (State.drawn_canon hs2'1)

theorem plcaStatusLost_canon {p : Nat} {s : State} (h : s.Canon) : (plcaStatusLost p s).Canon := by
  unfold plcaStatusLost
  exact ite_canon (State.macCause_canon (State.put_canon h)) h

theorem plcaStatusUp_canon {p : Nat} {s : State} (h : s.Canon) : (plcaStatusUp p s).Canon := by
  unfold plcaStatusUp
  refine ite_canon ?_ h
  extract_lets s1
  have hs1 : s1.Canon := State.put_canon h
  exact ite_canon (State.emit_canon hs1) hs1

theorem State.sakInstalled_canon {s : State} {p : Nat} (h : s.Canon) : (s.sakInstalled p).Canon := by
  unfold State.sakInstalled
  extract_lets _ _ s1
  have hs1 : s1.Canon := State.clearFault_canon (State.put_canon (canon_of_fields h))
  exact ite_canon (State.enterUp_canon hs1) hs1

theorem State.sakDistribute_canon {s : State} {p : Nat} (h : s.Canon) : (s.sakDistribute p).Canon := by
  unfold State.sakDistribute
  extract_lets s1
  have hs1 : s1.Canon := State.sakInstalled_canon h
  exact State.emit_canon hs1

theorem mkpduRx_canon {m : MkPdu} {s : State} (h : s.Canon) : (mkpduRx m s).Canon := by
  unfold mkpduRx
  extract_lets _ _ _ s1
  have hs1 : s1.Canon := canon_of_fields h
  refine ite_canon h ?_
  refine ite_canon (State.event_canon h) ?_
  refine ite_canon h ?_
  split
  · exact ite_canon (State.noteOpen_canon h) (ite_canon (State.sakInstalled_canon h) h)
  · exact ite_canon (State.sakDistribute_canon hs1) (ite_canon (State.sakInstalled_canon hs1) hs1)

theorem mkaPeerLost_canon {p : Nat} {s : State} (h : s.Canon) : (mkaPeerLost p s).Canon := by
  unfold mkaPeerLost
  refine ite_canon h ?_
  extract_lets _ s1 s2
  have hs1 : s1.Canon := State.put_canon (canon_of_fields h)
  have hs2 : s2.Canon := State.raiseAt_canon (State.macCause_canon hs1)
  exact ite_canon (State.portState_canon hs2) hs2

theorem pnExhausted_canon {p : Nat} {s : State} (h : s.Canon) : (pnExhausted p s).Canon := by
  unfold pnExhausted
  exact ite_canon (State.sakDistribute_canon h) h

theorem mkaHelloTx_canon {s : State} (h : s.Canon) : (mkaHelloTx s).Canon := by
  unfold mkaHelloTx
  exact foldl_canon h (fun _ ht _ => ite_canon (State.keeperSend_canon ht) ht)

theorem State.keyTake_canon {s : State} {k slice : Nat} (h : s.Canon) : (s.keyTake k slice).Canon := by
  unfold State.keyTake
  exact ite_canon (State.take_canon h) h

theorem State.keyGive_canon {s : State} {k slice : Nat} (h : s.Canon) : (s.keyGive k slice).Canon := by
  unfold State.keyGive
  exact ite_canon (State.give_canon h) h

theorem State.dropStage_canon {s : State} {k : Nat} (h : s.Canon) : (s.dropStage k).Canon := by
  unfold State.dropStage
  split
  · exact h
  · extract_lets _ s1 s2
    have hs1 : s1.Canon := canon_of_fields h
    have hs2 : s2.Canon := State.put_canon (State.put_canon (State.put_canon hs1))
    exact ite_canon (State.keyGive_canon hs2) hs2

theorem State.discardStage_canon {s : State} {k cause : Nat} (h : s.Canon) : (s.discardStage k cause).Canon := by
  unfold State.discardStage
  split
  · exact h
  · extract_lets s1
    have hs1 : s1.Canon := State.raiseRecord_canon (State.event_canon (State.dropStage_canon h))
    exact State.keyJournal_canon hs1

theorem State.emptySlot_canon {s : State} {k : Nat} (h : s.Canon) : (s.emptySlot k).Canon := by
  unfold State.emptySlot
  refine ite_canon h ?_
  extract_lets s1 s2 _ s3
  have hs1 : s1.Canon := State.put_canon (State.keyGive_canon h)
  have hs2 : s2.Canon := State.put_canon (State.wr_canon (State.wr_canon hs1))
  have hs3 : s3.Canon := canon_of_fields hs2
  exact State.clearFault_canon (State.event_canon (State.put_canon hs3))

theorem State.destroyBlob_canon {s : State} {k gen step : Nat} (h : s.Canon) : (s.destroyBlob k gen step).Canon := by
  unfold State.destroyBlob
  exact State.queueWrite_canon h

theorem keyStage_canon {q : Req} {r : KeyRecord} {s : State} (h : s.Canon) : (keyStage q r s).Canon := by
  unfold keyStage
  extract_lets _ _ _ _ _ _ _ s0
  have hs0 : s0.Canon := ite_canon (State.keyRefused_canon h) h
  exact State.command_canon hs0 (fun _ ht => (by
    extract_lets _ _ _ s1 _ s2 s3
    have hs1 : s1.Canon := ite_canon (State.keyTake_canon ht) ht
    have hs2 : s2.Canon := canon_of_fields hs1
    have hs3 : s3.Canon := State.put_canon (State.put_canon (State.put_canon hs2))
    exact State.complete_canon (State.event_canon (State.keyJournal_canon hs3))))

theorem State.stageVerified_canon {s : State} {k : Nat} (h : s.Canon) : (s.stageVerified k).Canon := by
  unfold State.stageVerified
  split
  · exact h
  · extract_lets _ s1
    have hs1 : s1.Canon := canon_of_fields h
    exact State.event_canon (State.keyJournal_canon (State.put_canon hs1))

theorem keyVerify_canon {q : Req} {k method len : Nat} {proofOk : Bool} {s : State} (h : s.Canon) : (keyVerify q k method len proofOk s).Canon := by
  unfold keyVerify
  extract_lets
  exact State.command_canon h (fun _ ht => ite_canon (State.put_canon (canon_of_fields ht)) (ite_canon (State.complete_canon (State.stageVerified_canon ht)) (State.complete_canon (State.discardStage_canon ht))))

theorem State.endPeer_canon {s : State} {k : Nat} {st : Status} (h : s.Canon) : (s.endPeer k st).Canon := by
  unfold State.endPeer
  split
  · exact h
  · exact State.complete_canon (State.put_canon (canon_of_fields h))

theorem keyPeerProof_canon {k : Nat} {arrived : Bool} {now : Nat} {s : State} (h : s.Canon) : (keyPeerProof k arrived now s).Canon := by
  unfold keyPeerProof
  split
  · exact h
  · extract_lets s0
    have hs0 : s0.Canon := State.advance_canon h
    refine ite_canon (State.endPeer_canon (State.stageVerified_canon hs0)) ?_
    exact ite_canon (State.endPeer_canon (State.discardStage_canon hs0)) hs0

theorem keyStageExpiry_canon {k now : Nat} {s : State} (h : s.Canon) : (keyStageExpiry k now s).Canon := by
  unfold keyStageExpiry
  split
  · exact h
  · exact ite_canon (State.endPeer_canon (State.discardStage_canon (State.advance_canon h))) h

theorem keyCommit_canon {q : Req} {k : Nat} {destroy : Bool} {s : State} (h : s.Canon) : (keyCommit q k destroy s).Canon := by
  unfold keyCommit
  extract_lets g
  exact State.command_canon h (fun _ ht => ite_canon (by
    extract_lets s1
    have hs1 : s1.Canon := State.destroyBlob_canon (State.discardStage_canon ht)
    exact State.put_canon (canon_of_fields hs1)) (by
    clear_value g
    split
    · exact ht
    · extract_lets s1
      have hs1 : s1.Canon := State.queueWrite_canon ht
      exact State.put_canon (canon_of_fields hs1)))

theorem State.endKeyOp_canon {s : State} {st : Status} {res : Nat} (h : s.Canon) : (s.endKeyOp st res).Canon := by
  unfold State.endKeyOp
  split
  · exact h
  · exact State.complete_canon (State.put_canon (canon_of_fields h))

theorem State.rekeyPorts_canon {s : State} {k : Nat} (h : s.Canon) : (s.rekeyPorts k).Canon := by
  unfold State.rekeyPorts
  exact foldl_canon h (fun _ ht _ => ite_canon (State.sakDistribute_canon ht) ht)

theorem State.keySwap_canon {s : State} {o : KeyOp} (h : s.Canon) : (s.keySwap o).Canon := by
  unfold State.keySwap
  split
  · exact h
  · extract_lets _ _ _ _ s1 s2 s3 s4 s5 s6 s7
    have hs1 : s1.Canon := canon_of_fields h
    have hs2 : s2.Canon := State.wr_canon (State.wr_canon hs1)
    have hs3 : s3.Canon := State.put_canon (State.put_canon (State.put_canon hs2))
    have hs4 : s4.Canon := State.put_canon (State.put_canon (State.put_canon hs3))
    have hs5 : s5.Canon := ite_canon (State.put_canon hs4) hs4
    have hs6 : s6.Canon := State.endKeyOp_canon (State.clearFault_canon (State.event_canon hs5))
    have hs7 : s7.Canon := ite_canon hs6 (State.destroyBlob_canon hs6)
    exact ite_canon (State.rekeyPorts_canon hs7) hs7

theorem State.dropBlob_canon {s : State} {k gen : Nat} (h : s.Canon) : (s.dropBlob k gen).Canon := by
  unfold State.dropBlob
  exact canon_of_fields h

theorem State.destroyed_canon {s : State} {k gen step : Nat} (h : s.Canon) : (s.destroyed k gen step).Canon := by
  unfold State.destroyed
  extract_lets s1 _ _ s2
  have hs1 : s1.Canon := State.keyJournal_canon (State.dropBlob_canon h)
  have hs2 : s2.Canon := canon_of_fields hs1
  exact ite_canon (State.endKeyOp_canon (State.emptySlot_canon hs1)) (ite_canon (State.eventIf_canon hs2) hs1)

theorem State.destroyFailed_canon {s : State} {k gen : Nat} (h : s.Canon) : (s.destroyFailed k gen).Canon := by
  unfold State.destroyFailed
  extract_lets s1
  have hs1 : s1.Canon := ite_canon h (State.put_canon h)
  exact State.raiseAt_canon (canon_of_fields hs1)

theorem destroyRetry_canon {k gen : Nat} {ok : Bool} {s : State} (h : s.Canon) : (destroyRetry k gen ok s).Canon := by
  unfold destroyRetry
  refine ite_canon h ?_
  extract_lets _ s1 _ s2
  have hs1 : s1.Canon := canon_of_fields h
  have hs2 : s2.Canon := State.destroyed_canon hs1
  exact ite_canon hs2 (State.clearFault_canon hs2)

theorem lifecycleAdvance_canon {q : Req} {target serialByte : Nat} {s : State} (h : s.Canon) : (lifecycleAdvance q target serialByte s).Canon := by
  unfold lifecycleAdvance
  extract_lets
  exact State.command_canon h (fun _ ht => (by
    extract_lets _ s1
    have hs1 : s1.Canon := State.put_canon (canon_of_fields ht)
    exact State.keyJournal_canon hs1))

theorem State.advanceGen_canon {s : State} {k : Nat} (h : s.Canon) : (s.advanceGen k).Canon := by
  unfold State.advanceGen
  extract_lets
  exact State.queueWrite_canon (State.put_canon (State.put_canon h))

theorem State.lifecycleDone_canon {s : State} {target : Nat} (h : s.Canon) : (s.lifecycleDone target).Canon := by
  unfold State.lifecycleDone
  extract_lets s1
  have hs1 : s1.Canon := State.put_canon (State.put_canon h)
  exact State.keyJournal_canon hs1

theorem State.lifecycleDestroy_canon {s : State} {o : KeyOp} (h : s.Canon) : (s.lifecycleDestroy o).Canon := by
  unfold State.lifecycleDestroy
  extract_lets _ _ s1 _ s2
  have hs1 : s1.Canon := by
    unfold s1
    exact foldl_canon h (fun _ ht _ => ite_canon (State.advanceGen_canon ht) (State.emptySlot_canon (State.destroyBlob_canon (State.dropStage_canon ht))))
  have hs2 : s2.Canon := canon_of_fields hs1
  exact ite_canon (State.lifecycleDone_canon hs2) hs2

theorem State.keyBlobDone_canon {s : State} {k gen : Nat} {words : List Nat} {step : Nat} {ok : Bool}
    (h : s.Canon) : (s.keyBlobDone k gen words step ok).Canon := by
  unfold State.keyBlobDone
  refine ite_canon ?_ ?_
  · extract_lets s1
    have hs1 : s1.Canon := ite_canon (State.destroyed_canon h) (State.destroyFailed_canon h)
    refine ite_canon ?_ hs1
    split
    · extract_lets s2
      have hs2 : s2.Canon := canon_of_fields hs1
      exact ite_canon (State.lifecycleDone_canon hs2) hs2
    · exact hs1
  · refine ite_canon (ite_canon (State.endKeyOp_canon h) h) ?_
    extract_lets _ _ s1
    have hs1 : s1.Canon := canon_of_fields h
    exact ite_canon (State.keyJournal_canon hs1) hs1

theorem State.blobStands_canon {s : State} {k gen : Nat} (h : s.Canon) : (s.blobStands k gen).Canon := by
  unfold State.blobStands
  split
  · exact h
  · refine ite_canon h ?_
    extract_lets _ s1 _ s2
    have hs1 : s1.Canon := State.wr_canon (State.wr_canon h)
    have hs2 : s2.Canon := canon_of_fields hs1
    exact State.destroyBlob_canon (State.event_canon (State.put_canon (State.put_canon hs2)))

theorem State.keyLogDone_canon {s : State} {words : List Nat} (h : s.Canon) : (s.keyLogDone words).Canon := by
  unfold State.keyLogDone
  extract_lets
  split
  · exact ite_canon (State.blobStands_canon h) h
  · refine ite_canon (State.keySwap_canon h) ?_
    exact ite_canon (State.lifecycleDestroy_canon h) (ite_canon (State.endKeyOp_canon (State.event_canon h)) h)

theorem State.drawNonce_canon {s : State} (h : s.Canon) : (s.drawNonce).Canon := by
  unfold State.drawNonce
  extract_lets s1
  have hs1 : s1.Canon := foldl_canon h (fun _ ht _ => State.drawn_canon (State.put_canon ht))
  exact canon_of_fields hs1

theorem nonceRead_canon {now : Nat} {s : State} (h : s.Canon) : (nonceRead now s).Canon := by
  unfold nonceRead
  extract_lets s1
  have hs1 : s1.Canon := State.drawNonce_canon (State.advance_canon h)
  exact State.emit_canon hs1

theorem serviceEnter_canon {q : Req} {len : Nat} {keep proofOk : Bool} {s : State} (h : s.Canon) : (serviceEnter q len keep proofOk s).Canon := by
  unfold serviceEnter
  extract_lets _ _ _ _ _ _ s0
  have hs0 : s0.Canon := ite_canon (canon_of_fields h) (ite_canon (State.keyRefused_canon h) h)
  exact State.commandAny_canon hs0 (fun _ ht => (by
    extract_lets _ _ s1 s2 s3
    have hs1 : s1.Canon := canon_of_fields ht
    have hs2 : s2.Canon := ite_canon (State.dropCustody_canon hs1) hs1
    have hs3 : s3.Canon := State.serviceEvent_canon (State.putFlag_canon hs2)
    exact State.complete_canon (State.setState_canon hs3)))

theorem State.lockGroups_canon {s : State} {mask : Nat} (h : s.Canon) : (s.lockGroups mask).Canon := by
  unfold State.lockGroups
  exact ite_canon h (State.event_canon (State.put_canon (State.put_canon h)))

theorem State.dropCommit_canon {s : State} {k gen : Nat} (h : s.Canon) : (s.dropCommit k gen).Canon := by
  unfold State.dropCommit
  extract_lets
  split
  · exact h
  · exact canon_of_fields h

theorem State.tampAbort_canon {s : State} (h : s.Canon) : (s.tampAbort).Canon := by
  unfold State.tampAbort
  extract_lets s1
  have hs1 : s1.Canon := by
    unfold s1
    split
    · exact h
    · exact State.endKeyOp_canon (ite_canon (State.dropCommit_canon (State.discardStage_canon h)) h)
  split
  · exact hs1
  · exact State.endPeer_canon (State.discardStage_canon hs1)

theorem State.withdrawSaks_canon {s : State} {k : Nat} (h : s.Canon) : (s.withdrawSaks k).Canon := by
  unfold State.withdrawSaks
  exact foldl_canon h (fun _ ht _ => ite_canon (mkaPeerLost_canon ht) ht)

theorem State.zeroSlot_canon {s : State} {k : Nat} (h : s.Canon) : (s.zeroSlot k).Canon := by
  unfold State.zeroSlot
  extract_lets _ _ s0 _ s1
  have hs0 : s0.Canon := ite_canon (State.withdrawSaks_canon h) h
  have hs1 : s1.Canon := State.emptySlot_canon (foldl_canon hs0 (fun _ ht _ => State.destroyBlob_canon ht))
  exact ite_canon hs0 (ite_canon (State.advanceGen_canon hs0) (canon_of_fields hs1))

theorem State.zeroGroups_canon {s : State} {mask : Nat} (h : s.Canon) : (s.zeroGroups mask).Canon := by
  unfold State.zeroGroups
  extract_lets _ _ _ s1 s2
  have hs1 : s1.Canon := foldl_canon h (fun _ ht _ => State.discardStage_canon ht)
  have hs2 : s2.Canon := foldl_canon hs1 (fun _ ht _ => State.zeroSlot_canon ht)
  exact ite_canon h (State.eventIf_canon hs2)

theorem State.tampRespond_canon {s : State} {src : Nat} (h : s.Canon) : (s.tampRespond src).Canon := by
  unfold State.tampRespond
  extract_lets _ _ s1 s2
  have hs1 : s1.Canon := State.lockGroups_canon (State.zeroGroups_canon (State.tampAbort_canon h))
  have hs2 : s2.Canon := State.put_canon (State.put_canon hs1)
  exact State.raiseAt_canon hs2

theorem State.tampLatch_canon {s : State} {src sub : Nat} (h : s.Canon) : (s.tampLatch src sub).Canon := by
  unfold State.tampLatch
  extract_lets s1 t s2
  have hs1 : s1.Canon := State.put_canon h
  have ht : t.Canon := State.put_canon (State.put_canon (State.put_canon hs1))
  have hs2 : s2.Canon := ite_canon hs1 (State.event_canon (State.put_canon (State.wr_canon (State.wr_canon ht))))
  exact State.pwrEvent_canon (canon_of_fields hs2)

theorem State.bootFail_canon {s : State} {reason source code detail : Nat} (h : s.Canon) : (s.bootFail reason source code detail).Canon := by
  unfold State.bootFail
  extract_lets _ s1
  have hs1 : s1.Canon := State.put_canon (State.put_canon h)
  exact State.enterSafe_canon (State.raiseRecord_canon hs1)

theorem State.bootZero_canon {s : State} {groups : Nat} (h : s.Canon) : (s.bootZero groups).Canon := by
  unfold State.bootZero
  extract_lets
  exact foldl_canon h (fun _ ht _ => ite_canon (State.advanceGen_canon ht) (State.emptySlot_canon (State.keyJournal_canon (State.dropBlob_canon (State.dropStage_canon ht)))))

theorem State.tamperBoot_canon {s : State} {src : Nat} (h : s.Canon) : (s.tamperBoot src).Canon := by
  unfold State.tamperBoot
  extract_lets s1
  have hs1 : s1.Canon := State.bootZero_canon h
  exact State.bootFail_canon (canon_of_fields hs1)

theorem tamperActive_canon {src sub : Nat} {s : State} (h : s.Canon) : (tamperActive src sub s).Canon := by
  unfold tamperActive
  refine ite_canon h ?_
  extract_lets s1 s2 s3
  have hs1 : s1.Canon := State.count_canon (State.put_canon h)
  have hs2 : s2.Canon := State.event_canon (State.event_canon hs1)
  have hs3 : s3.Canon := State.tampLatch_canon hs2
  refine ite_canon (State.noteOpen_canon hs2) ?_
  exact ite_canon (State.tampRespond_canon hs3) (ite_canon (State.tamperBoot_canon hs3) hs3)

theorem tamperInactive_canon {src : Nat} {s : State} (h : s.Canon) : (tamperInactive src s).Canon := by
  unfold tamperInactive
  exact ite_canon h (State.eventIf_canon (State.put_canon h))

theorem tamperClear_canon {s : State} (h : s.Canon) : (tamperClear s).Canon := by
  unfold tamperClear
  refine ite_canon (State.reject_canon h) ?_
  refine ite_canon (State.reject_canon h) ?_
  extract_lets s1 _ s2
  have hs1 : s1.Canon := State.put_canon (State.put_canon (State.put_canon (State.put_canon h)))
  have hs2 : s2.Canon := State.put_canon (canon_of_fields hs1)
  exact State.clearCode_canon (State.clearCode_canon (State.event_canon hs2))

theorem State.tampTest_canon {s : State} {src : Nat} {bad : Bool} {sub : Nat} (h : s.Canon) : (s.tampTest src bad sub).Canon := by
  unfold State.tampTest
  extract_lets _ _ s1
  have hs1 : s1.Canon := canon_of_fields h
  exact ite_canon (tamperActive_canon hs1) hs1

theorem tamperLoopTest_canon {bad0 bad1 caseOpen : Bool} {temp : Int} {sub : Nat} {failed : List Nat} {s : State}
    (h : s.Canon) : (tamperLoopTest bad0 bad1 caseOpen temp sub failed s).Canon := by
  unfold tamperLoopTest
  extract_lets s1 s2 s3
  have hs1 : s1.Canon := ite_canon (State.count_canon h) h
  have hs2 : s2.Canon := State.put_canon (ite_canon (State.count_canon hs1) hs1)
  have hs3 : s3.Canon := foldl_canon hs2 (fun _ ht _ => ite_canon (State.raiseAt_canon ht) (State.clearFault_canon ht))
  exact foldl_canon hs3 (fun _ ht _ => State.tampTest_canon ht)

theorem State.sectBad_canon {s : State} {id : Nat} (h : s.Canon) : (s.sectBad id).Canon := by
  unfold State.sectBad
  exact State.raiseAt_canon (State.event_canon (State.count_canon h))

theorem State.sectGood_canon {s : State} {id : Nat} (h : s.Canon) : (s.sectGood id).Canon := by
  unfold State.sectGood
  extract_lets s1
  have hs1 : s1.Canon := State.countMod_canon h
  exact State.clearFault_canon (State.clearFault_canon (State.clearFault_canon hs1))

theorem State.putValid_canon {s : State} {id bank : Nat} {b : Bool} (h : s.Canon) : (s.putValid id bank b).Canon := by
  unfold State.putValid
  exact State.putFlag_canon h

theorem State.stateWritten_canon {s : State} {id : Nat} {ok : Bool} (h : s.Canon) : (s.stateWritten id ok).Canon := by
  unfold State.stateWritten
  extract_lets
  refine ite_canon (State.sectGood_canon (State.put_canon (State.put_canon (State.putValid_canon h)))) ?_
  exact State.sectBad_canon (State.putValid_canon h)

theorem State.logWritten_canon {s : State} {id n : Nat} (h : s.Canon) : (s.logWritten id n).Canon := by
  unfold State.logWritten
  extract_lets
  exact State.sectGood_canon (State.put_canon (State.putValid_canon (State.put_canon h)))

theorem State.rewriteSections_canon {s : State} (h : s.Canon) : (s.rewriteSections).Canon := by
  unfold State.rewriteSections
  exact foldl_canon (foldl_canon h (fun _ ht _ => State.stateWritten_canon ht)) (fun _ ht _ => State.countMod_canon ht)

theorem State.violate_canon {s : State} {v : Violation} (h : s.Canon) : (s.violate v).Canon := by
  unfold State.violate
  split
  · extract_lets s1 _ _ _ _ s2 s3 s4 s5
    have hs1 : s1.Canon := State.count_canon h
    have hs2 : s2.Canon := State.journalAdd_canon (canon_of_fields hs1)
    have hs3 : s3.Canon := State.event_canon (State.put_canon hs2)
    have hs4 : s4.Canon := State.put_canon (State.putFlag_canon (State.put_canon hs3))
    have hs5 : s5.Canon := State.put_canon (State.put_canon hs4)
    exact ite_canon (canon_of_fields hs1) (ite_canon (State.raiseAt_canon hs5) (State.raiseAt_canon hs5))

theorem State.endRun_canon {s : State} {key : Nat} (h : s.Canon) : (s.endRun key).Canon := by
  unfold State.endRun
  extract_lets _ _ s1
  have hs1 : s1.Canon := canon_of_fields h
  exact State.clearFault_canon (State.event_canon (ite_canon hs1 (State.put_canon hs1)))

theorem State.auditDone_canon {s : State} {qs : List Nat} {bad : List Violation} (h : s.Canon) : (s.auditDone qs bad).Canon := by
  unfold State.auditDone
  extract_lets s1
  have hs1 : s1.Canon := foldl_canon h (fun _ ht _ => State.violate_canon ht)
  exact foldl_canon hs1 (fun _ ht _ => ite_canon (State.endRun_canon ht) (canon_of_fields ht))

theorem tallyAudit_canon {late : List Nat} {s : State} (h : s.Canon) : (tallyAudit late s).Canon := by
  unfold tallyAudit
  refine ite_canon h ?_
  extract_lets _ _ s0 s1 _ _ s2 s3 _ _ s4
  have hs0 : s0.Canon := State.putFlag_canon (State.countMod_canon h)
  have hs1 : s1.Canon := State.auditDone_canon hs0
  have hs2 : s2.Canon := canon_of_fields hs1
  have hs3 : s3.Canon := foldl_canon hs2 (fun _ ht _ => State.raiseAt_canon (State.event_canon ht))
  have hs4 : s4.Canon := canon_of_fields hs3
  exact ite_canon (State.clearCode_canon hs4) hs4

theorem State.tallyBoundary_canon {s : State} (h : s.Canon) : (s.tallyBoundary).Canon := by
  unfold State.tallyBoundary
  extract_lets _ _ s1
  have hs1 : s1.Canon := canon_of_fields h
  exact foldl_canon hs1 (fun _ ht _ => State.event_canon (State.count_canon (canon_of_fields ht)))

theorem State.ledgerCommit_canon {s : State} {final pfw : Bool} {dur : Nat} {ok : Bool} (h : s.Canon) : (s.ledgerCommit final pfw dur ok).Canon := by
  unfold State.ledgerCommit
  extract_lets _ s1 _ s2 _ s3 _ s4
  have hs1 : s1.Canon := State.auditDone_canon (State.countMod_canon h)
  have hs2 : s2.Canon := State.stateWritten_canon (ite_canon (canon_of_fields hs1) hs1)
  have hs3 : s3.Canon := State.put_canon (State.put_canon (State.countMod_canon hs2))
  have hs4 : s4.Canon := canon_of_fields hs3
  exact ite_canon (State.raise1_canon (State.event_canon hs4)) hs4

theorem ledgerTick_canon {dur now : Nat} {ok : Bool} {s : State} (h : s.Canon) : (ledgerTick dur now ok s).Canon := by
  unfold ledgerTick
  extract_lets s0
  have hs0 : s0.Canon := State.advance_canon h
  refine ite_canon hs0 ?_
  refine ite_canon hs0 ?_
  exact ite_canon (State.raise1_canon (State.event_canon (State.count_canon hs0))) (State.ledgerCommit_canon hs0)

theorem State.restoreBank_canon {s : State} (h : s.Canon) : (s.restoreBank).Canon := by
  unfold State.restoreBank
  split
  · exact h
  · exact foldl_canon (canon_of_fields h) (fun _ ht _ => State.wr_canon ht)

theorem State.admitWaiting_canon {s : State} {x : Nat} (h : s.Canon) : (s.admitWaiting x).Canon := by
  induction x generalizing s with
  | zero => exact h
  | succ k ih =>
    rw [State.admitWaiting]
    split
    · exact h
    · exact ite_canon (ih (State.queueWrite_canon (canon_of_fields h))) h

theorem State.tokenDurable_canon {s : State} {e : TokenEntry} {ack : Option Nat} {step : Nat} (h : s.Canon) : (s.tokenDurable e ack step).Canon := by
  unfold State.tokenDurable
  split
  · exact ite_canon (State.raiseAt_canon h) h
  · extract_lets _ s1 s2
    have hs1 : s1.Canon := State.clearFault_canon (canon_of_fields h)
    have hs2 : s2.Canon := State.sendToken_canon hs1
    split
    · extract_lets s2'1
      have hs2'1 : s2'1.Canon := State.pairSend_canon hs1
      exact ite_canon (canon_of_fields hs2'1) hs2'1
    · exact ite_canon hs2 (ite_canon (canon_of_fields hs2) (State.tokenStep_canon hs2))

theorem State.keepCommit_canon {s : State} {x : Nat} (h : s.Canon) : (s.keepCommit x).Canon := by
  induction x generalizing s with
  | zero => exact h
  | succ k ih =>
    rw [State.keepCommit]
    split
    · exact h
    · exact ite_canon h (ite_canon (ih (State.logWritten_canon (canon_of_fields h))) (canon_of_fields h))

theorem State.writeDone_canon {s : State} {w : Immediate} {ok : Bool} (h : s.Canon) : (s.writeDone w ok).Canon := by
  unfold State.writeDone
  split
  · refine ite_canon ?_ (State.sectBad_canon h)
    extract_lets s1
    have hs1 : s1.Canon := State.logWritten_canon h
    exact canon_of_fields hs1
  · exact ite_canon (State.tokenDurable_canon (State.stateWritten_canon h)) (State.stateWritten_canon h)
  · exact State.keyBlobDone_canon (ite_canon (State.sectGood_canon h) (State.sectBad_canon h))
  · refine ite_canon ?_ (State.sectBad_canon h)
    extract_lets s1
    have hs1 : s1.Canon := State.logWritten_canon (State.keepCommit_canon h)
    exact State.keyLogDone_canon (canon_of_fields hs1)
  · extract_lets s1
    have hs1 : s1.Canon := State.stateWritten_canon h
    split
    · exact hs1
    · refine ite_canon (State.complete_canon (State.put_canon (State.put_canon (State.put_canon hs1)))) ?_
      exact State.complete_canon hs1
  · extract_lets s1 s2
    have hs1 : s1.Canon := State.stateWritten_canon h
    have hs2 : s2.Canon := ite_canon (State.rewriteSections_canon (State.put_canon hs1)) hs1
    split
    · exact hs2
    · exact ite_canon (State.complete_canon (State.event_canon hs2)) (State.complete_canon hs2)

theorem State.popWrite_canon {s : State} {ok : Bool} (h : s.Canon) : (s.popWrite ok).Canon := by
  unfold State.popWrite
  split
  · exact h
  · extract_lets _ s1 s2
    have hs1 : s1.Canon := State.put_canon (canon_of_fields h)
    have hs2 : s2.Canon := State.writeDone_canon hs1
    exact State.admitWaiting_canon hs2

theorem State.drainQueue_canon {s : State} {x : Nat} (h : s.Canon) : (s.drainQueue x).Canon := by
  induction x generalizing s with
  | zero => exact h
  | succ k ih =>
    rw [State.drainQueue]
    exact ih (State.popWrite_canon h)

theorem State.injHostTx_canon {s : State} {f : CoreFrame} {b : List Nat} {port now : Nat} {x : List Injection}
    (h : s.Canon) : (s.injHostTx f b port now x).1.Canon := by
  induction x generalizing s f b port now with
  | nil => exact h
  | cons x l ih =>
    rw [State.injHostTx]
    split
    · exact State.injHit_canon h
    · split
      · extract_lets
        exact ih (State.injHit_canon h)
      · split
        · exact ih h
        · extract_lets s1
          have hs1 : s1.Canon := State.injHit_canon h
          exact canon_of_fields hs1

theorem State.txTake_canon {s : State} {x : RingRec} {n : Nat} {why : Option Status} (h : s.Canon) : (s.txTake x n why).Canon := by
  unfold State.txTake
  extract_lets _ _ _ _ s1
  have hs1 : s1.Canon := State.put_canon (State.setRing_canon (canon_of_fields h))
  exact State.put_canon hs1

theorem State.txGo_canon {s2 : State} {x : RingRec} {f : CoreFrame} {b : List Nat} {port now : Nat} {luck : List Nat}
    (h : s2.Canon) : (s2.txGo x f b port now luck).Canon := by
  unfold State.txGo
  extract_lets s3
  have hs3 : s3.Canon := State.countMod_canon (State.countMod_canon h)
  split
  · rename_i s4 _ e
    have hs4 : s4.Canon := canon_fst e (State.fijDue_canon hs3)
    split
    · rename_i s5 _ e1
      have hs5 : s5.Canon := canon_fst e1 (State.injSelect_canon (State.fijGive_canon hs4))
      split
      · rename_i s6 _ _ e2
        have hs6 : s6.Canon := canon_fst e2 (State.injHostTx_canon hs5)
        split
        · exact ite_canon hs6 (State.txComplete_canon hs6)
        · extract_lets
          split
          · rename_i s7 _ e3
            have hs7 : s7.Canon := canon_fst e3 (State.fijDue_canon (State.txEnter_canon hs6))
            exact State.fijGive_canon hs7

theorem txFetch_canon {r : Nat} {given : List TxEntry} {b : List Nat} {now : Nat} {luck : List Nat} {s : State}
    (h : s.Canon) : (txFetch r given b now luck s).Canon := by
  unfold txFetch
  split
  · exact h
  · extract_lets _ _ s0 _ s2
    have hs0 : s0.Canon := State.advance_canon h
    have hs2 : s2.Canon := State.txTake_canon hs0
    exact ite_canon h (ite_canon (State.txFlush_canon hs2) (State.txGo_canon hs2))

theorem State.rxWriteBack_canon {s : State} {x : RingRec} {f : CoreFrame} {l : List (Nat × Bool)} {whole : Bool}
    (h : s.Canon) : (s.rxWriteBack x f l whole).Canon := by
  unfold State.rxWriteBack
  split
  · rename_i _ s1 e
    have hs1 : s1.Canon := canon_snd e (State.wroteBack_canon h)
    extract_lets s2 _ s3
    have hs2 : s2.Canon := State.put_canon hs1
    have hs3 : s3.Canon := by
      unfold s3
      exact foldl_canon hs2 (fun _ ht _ => (by
        split
        · extract_lets
          exact State.dmaOut_canon ht))
    exact State.backPressure_canon hs3

theorem State.rxPut_canon {s : State} {x : RingRec} {f : CoreFrame} {lens : List Nat} (h : s.Canon) : (s.rxPut x f lens).Canon := by
  unfold State.rxPut
  extract_lets _ s1
  have hs1 : s1.Canon := State.put_canon h
  split
  · extract_lets _ s2
    have hs2 : s2.Canon := ite_canon hs1 (State.rxWriteBack_canon hs1)
    refine ite_canon (State.countMod_canon (State.countMod_canon (State.rxWriteBack_canon (State.put_canon h)))) ?_
    exact State.countFor_canon hs2

theorem State.rxNoRing_canon {s : State} {slice : Nat} (h : s.Canon) : (s.rxNoRing slice).Canon := by
  unfold State.rxNoRing
  exact State.count_canon (State.put_canon h)

theorem State.injHostRx_canon {s : State} {f : CoreFrame} {now : Nat} {x : List Injection} (h : s.Canon) : (s.injHostRx f now x).1.Canon := by
  induction x generalizing s f now with
  | nil => exact h
  | cons x l ih =>
    rw [State.injHostRx]
    split
    · exact State.injHit_canon h
    · split
      · exact ih (State.injHit_canon h)
      · split
        · exact ih h
        · extract_lets s1
          have hs1 : s1.Canon := State.injHit_canon h
          exact canon_of_fields hs1

theorem State.rxGo_canon {s1 : State} {x : RingRec} {f : CoreFrame} {c : CoreCopy} {lens : List Nat} {now : Nat} {luck : List Nat}
    (h : s1.Canon) : (s1.rxGo x f c lens now luck).Canon := by
  unfold State.rxGo
  split
  · rename_i s2 _ e
    have hs2 : s2.Canon := canon_fst e (State.injSelect_canon h)
    split
    · rename_i s3 _ e1
      have hs3 : s3.Canon := canon_fst e1 (State.injHostRx_canon hs2)
      extract_lets s4 _ _ s5
      have hs4 : s4.Canon := ite_canon (State.rxPut_canon hs3) hs3
      have hs5 : s5.Canon := canon_of_fields hs4
      exact State.releaseCopy_canon (ite_canon (State.setFrame_canon hs5) hs5)

theorem State.rxHeld_canon {s : State} {h : FijHeld} {lens : List Nat} (hs : s.Canon) : (s.rxHeld h lens).Canon := by
  unfold State.rxHeld
  extract_lets _ s1
  have hs1 : s1.Canon := canon_of_fields hs
  split
  · exact hs1
  · split
    · exact State.rxNoRing_canon hs1
    · exact State.rxPut_canon hs1

theorem State.rxCopy_canon {s : State} {c : CoreCopy} {lens : List Nat} {now : Nat} {luck : List Nat}
    (h : s.Canon) : (s.rxCopy c lens now luck).Canon := by
  unfold State.rxCopy
  split
  · exact h
  · split
    · exact State.releaseCopy_canon (State.rxNoRing_canon h)
    · exact State.rxGo_canon h

theorem State.rxNext_canon {s : State} {lens : List Nat} {now : Nat} {luck : List Nat} (h : s.Canon) : (s.rxNext lens now luck).Canon := by
  unfold State.rxNext
  split
  · exact State.rxHeld_canon h
  · split
    · exact h
    · rename_i _ s1 e
      have hs1 : s1.Canon := State.nextCopy_canon h _ e
      exact State.rxCopy_canon hs1

theorem rxPlace_canon {lens : List Nat} {now : Nat} {luck : List Nat} {s : State} (h : s.Canon) : (rxPlace lens now luck s).Canon := by
  unfold rxPlace
  exact State.rxNext_canon (State.advance_canon h)

theorem State.cutTx_canon {s : State} {r : Nat} (h : s.Canon) : (s.cutTx r).Canon := by
  unfold State.cutTx
  extract_lets
  exact foldl_canon h (fun _ ht _ => State.discardCopy_canon ht)

theorem State.abortRing_canon {s : State} {r : Nat} (h : s.Canon) : (s.abortRing r).Canon := by
  unfold State.abortRing
  extract_lets _ s1 s2
  have hs1 : s1.Canon := canon_of_fields h
  have hs2 : s2.Canon := ite_canon (State.cancelSliceOp_canon hs1) hs1
  exact foldl_canon hs2 (fun _ ht _ => State.complete_canon ht)

theorem State.stopTaken_canon {s : State} {x : RingRec} (h : s.Canon) : (s.stopTaken x).Canon := by
  unfold State.stopTaken
  refine ite_canon (State.cutTx_canon h) ?_
  exact ite_canon (State.countFor_canon (State.setRing_canon h)) (State.abortRing_canon h)

theorem ringDisable_canon {r data : Nat} {s : State} (h : s.Canon) : (ringDisable r data s).Canon := by
  unfold ringDisable
  refine ite_canon h ?_
  refine ite_canon (State.reject_canon h) ?_
  refine ite_canon (State.reject_canon h) ?_
  extract_lets _ _ s1
  have hs1 : s1.Canon := State.wr_canon h
  refine ite_canon hs1 ?_
  split
  · exact hs1
  · extract_lets s2
    have hs2 : s2.Canon := State.setRing_canon (State.put_canon (State.poolRings_canon (State.give_canon hs1)))
    split
    · exact State.stopTaken_canon hs2
    · exact hs2

theorem State.mint_canon {s : State} {dsid : Nat} (h : s.Canon) : (s.mint dsid).Canon := by
  unfold State.mint
  exact ite_canon h (State.queueWrite_canon h)

theorem sliceValidWrite_canon {k : Nat} {data : Word} {s : State} (h : s.Canon) : (sliceValidWrite k data s).Canon := by
  unfold sliceValidWrite
  extract_lets _ _ _ _ _ _ _ _ s1
  have hs1 : s1.Canon := State.wr_canon h
  refine ite_canon h ?_
  refine ite_canon (State.reject_canon h) ?_
  refine ite_canon (ite_canon (State.reject_canon h) (State.put_canon (State.put_canon h))) ?_
  refine ite_canon (State.reject_canon h) ?_
  exact ite_canon (State.reject_canon h) (ite_canon (State.reject_canon h) (ite_canon (State.mint_canon hs1) hs1))

theorem mbCtrlWrite_canon {k data : Nat} {s : State} (h : s.Canon) : (mbCtrlWrite k data s).Canon := by
  unfold mbCtrlWrite
  refine ite_canon (State.stray_canon h) ?_
  extract_lets _ s1
  have hs1 : s1.Canon := State.wr_canon (State.put_canon (State.put_canon (State.put_canon h)))
  refine ite_canon (State.setMb_canon (State.wr_canon hs1)) ?_
  exact ite_canon (State.mbAbort_canon (State.put_canon (State.put_canon h))) h

theorem State.mbBad_canon {s : State} (h : s.Canon) : (s.mbBad).Canon := by
  unfold State.mbBad
  exact State.eventIf_canon (State.count_canon h)

theorem mbOutDb_canon {k data : Nat} {s : State} (h : s.Canon) : (mbOutDb k data s).Canon := by
  unfold mbOutDb
  exact ite_canon (State.stray_canon h) (ite_canon (State.put_canon h) (State.mbBad_canon h))

theorem mbInDb_canon {k data : Nat} {s : State} (h : s.Canon) : (mbInDb k data s).Canon := by
  unfold mbInDb
  exact ite_canon (State.stray_canon h) (ite_canon (State.put_canon h) (State.mbBad_canon h))

theorem State.mbTake_canon {s : State} {k : Nat} {m : MbMsg} (h : s.Canon) : (s.mbTake k m).Canon := by
  unfold State.mbTake
  extract_lets
  exact ite_canon h (State.setMb_canon (State.put_canon h))

theorem State.mbDeliver_canon {s : State} {k : Nat} {m : MbMsg} (h : s.Canon) : (s.mbDeliver k m).Canon := by
  unfold State.mbDeliver
  extract_lets _ _ _ _ s1
  have hs1 : s1.Canon := State.setMb_canon (State.put_canon h)
  exact State.event_canon (State.dmaOut_canon hs1)

theorem mailboxRelay_canon {k : Nat} {next : Option MbMsg} {deliver : Bool} {s : State} (h : s.Canon) : (mailboxRelay k next deliver s).Canon := by
  unfold mailboxRelay
  refine ite_canon h ?_
  extract_lets s1
  have hs1 : s1.Canon := elim_canon h (fun _ => State.mbTake_canon h)
  split
  · exact hs1
  · exact ite_canon hs1 (State.mbBack_canon (ite_canon (State.mbDeliver_canon hs1) hs1))

theorem sliceFreeze_canon {q : Req} {k buflen buf : Nat} {s : State} (h : s.Canon) : (sliceFreeze q k buflen buf s).Canon := by
  unfold sliceFreeze
  extract_lets
  exact State.command_canon h (fun _ ht => canon_of_fields ht)

theorem State.finish_canon {s : State} {op : Nat} {st : Status} {result : Nat} (h : s.Canon) : (s.finish op st result).Canon := by
  unfold State.finish
  extract_lets
  exact foldl_canon (canon_of_fields h) (fun _ ht _ => State.complete_canon ht)

theorem freezeComplete_canon {s : State} (h : s.Canon) : (freezeComplete s).Canon := by
  unfold freezeComplete
  split
  · exact h
  · extract_lets _ _ s1
    have hs1 : s1.Canon := State.dmaOut_canon (canon_of_fields h)
    refine ite_canon h ?_
    refine ite_canon (State.finish_canon (State.cancelSliceOp_canon h)) ?_
    exact State.event_canon (State.finish_canon (State.put_canon hs1))

theorem sliceRestore_canon {q : Req} {k mode len : Nat} {img : SliceImg} {s : State} (h : s.Canon) : (sliceRestore q k mode len img s).Canon := by
  unfold sliceRestore
  extract_lets
  exact State.command_canon h (fun _ ht => (by
    extract_lets s1
    have hs1 : s1.Canon := canon_of_fields ht
    exact ite_canon hs1 (State.put_canon hs1)))

theorem State.restoreRing_canon {s : State} {k r : Nat} {i : RingImg} {held : List (Nat × EvqItem)}
    (h : s.Canon) : (s.restoreRing k r i held).Canon := by
  unfold State.restoreRing
  extract_lets _ _ _ _ _ _ _ _ s1 s2 s3 s4
  have hs1 : s1.Canon := State.wr_canon (State.wr_canon (State.wr_canon h))
  have hs2 : s2.Canon := State.startRing_canon (State.wr_canon hs1)
  have hs3 : s3.Canon := ite_canon (State.put_canon (State.put_canon hs2)) (State.put_canon (State.put_canon hs2))
  have hs4 : s4.Canon := State.put_canon (State.put_canon hs3)
  exact ite_canon hs4 (State.drawn_canon (State.dmaStop_canon hs4))

theorem State.restoreMb_canon {s : State} {k : Nat} {l : List Nat} {msgs : List MbMsg} (h : s.Canon) : (s.restoreMb k l msgs).Canon := by
  unfold State.restoreMb
  extract_lets _ _ s1 _ s2
  have hs1 : s1.Canon := State.wr_canon (State.wr_canon (State.wr_canon (State.wr_canon h)))
  have hs2 : s2.Canon := State.put_canon (State.put_canon (State.put_canon (State.put_canon hs1)))
  exact State.setMb_canon (State.drawn_canon (State.put_canon (State.put_canon hs2)))

theorem State.restoreBlock_canon {s : State} {k : Nat} {x : BlockImg} (h : s.Canon) : (s.restoreBlock k x).Canon := by
  unfold State.restoreBlock
  split
  · extract_lets
    exact foldl_canon h (fun _ ht _ => State.wr_canon (State.wr_canon ht))
  · extract_lets
    exact State.take_canon (canon_of_fields h)
  · extract_lets
    exact State.emptyRing_canon (State.take_canon (canon_of_fields h))

theorem State.restoreBlocks_canon {s : State} {k : Nat} {l : List BlockImg} (h : s.Canon) : (s.restoreBlocks k l).Canon := by
  unfold State.restoreBlocks
  extract_lets s1
  have hs1 : s1.Canon := foldl_canon h (fun _ ht _ => State.restoreBlock_canon ht)
  exact ite_canon (State.applySubs_canon hs1) hs1

theorem State.windowWrite_canon {s : State} {k n : Nat} {l : List (Nat × Nat)} (h : s.Canon) : (s.windowWrite k n l).Canon := by
  unfold State.windowWrite
  extract_lets
  exact canon_of_fields h

theorem State.restoreImage_canon {s : State} {k : Nat} {alloc : List Nat} {i : SliceImg} (h : s.Canon) : (s.restoreImage k alloc i).Canon := by
  unfold State.restoreImage
  extract_lets s1 s2
  have hs1 : s1.Canon := foldl_canon h (fun _ ht _ => State.restoreRing_canon ht)
  have hs2 : s2.Canon := elim_canon hs1 (fun _ => State.restoreMb_canon hs1)
  exact State.windowWrite_canon (State.restoreBlocks_canon hs2)

theorem State.sliceBoundary_canon {s : State} {n : Nat} (h : s.Canon) : (s.sliceBoundary n).Canon := by
  unfold State.sliceBoundary
  split
  · exact h
  · extract_lets _ _ s1 r src
    have hs1 : s1.Canon := State.put_canon (canon_of_fields h)
    have hr : r.1.Canon := by
      unfold r
      split
      · exact canon_of_fields h
      · exact State.restoreImage_canon h
    have hsrc : src.Canon := hr
    refine ite_canon ?_ (State.event_canon (State.finish_canon (State.put_canon (canon_of_fields hsrc))))
    refine ite_canon h ?_
    exact foldl_canon hs1 (fun _ ht _ => (by
      split
      · exact ite_canon ht (State.stopTaken_canon ht)
      · exact ht))

theorem State.sealKept_canon {s : State} (h : s.Canon) : (s.sealKept).Canon := by
  unfold State.sealKept
  extract_lets s1 s2 s3 s4
  have hs1 : s1.Canon := by
    unfold s1
    exact foldl_canon h (fun _ ht _ => (by
      extract_lets s1'1
      have hs1'1 : s1'1.Canon := ite_canon ht (State.put_canon ht)
      exact State.put_canon (State.put_canon hs1'1)))
  have hs2 : s2.Canon := State.put_canon (State.put_canon (State.put_canon (State.put_canon hs1)))
  have hs3 : s3.Canon := State.put_canon (State.put_canon (State.put_canon hs2))
  have hs4 : s4.Canon := State.put_canon (State.put_canon (State.put_canon (State.put_canon hs3)))
  exact State.putFlag_canon (State.put_canon (State.wr_canon hs4))

theorem State.cageLines_canon {s old : State} (h : s.Canon) : (s.cageLines old).Canon := by
  unfold State.cageLines
  exact foldl_canon h (fun _ ht _ => State.putFlag_canon (State.putFlag_canon (State.putFlag_canon ht)))

theorem State.wiped_canon {s : State} (h : s.Canon) : (s.wiped).Canon := by
  unfold State.wiped
  extract_lets
  exact State.cageLines_canon (State.put_canon (State.sealKept_canon (canon_of_filter rfl h)))

theorem State.showReint_canon {s : State} (h : s.Canon) : (s.showReint).Canon := by
  unfold State.showReint
  exact foldl_canon h (fun _ ht _ => State.put_canon ht)

theorem State.moduleReset_canon {s : State} {cause : Field} {power wdog : Bool} (h : s.Canon) : (s.moduleReset cause power wdog).Canon := by
  unfold State.moduleReset
  extract_lets _ s0 src _ s1 s2
  have hs0 : s0.Canon := State.journalAdd_canon (ite_canon h (State.endInjections_canon (State.dropCustody_canon h)))
  have hsrc : src.Canon := State.wiped_canon (State.cutPulses_canon hs0)
  have hs1 : s1.Canon := canon_of_fields hsrc
  have hs2 : s2.Canon := ite_canon (State.wr_canon hs1) hs1
  exact State.showReint_canon (State.put_canon (State.put_canon (State.put_canon (State.put_canon hs2))))

theorem rstNReset_canon {s : State} (h : s.Canon) : (rstNReset s).Canon := by
  unfold rstNReset
  exact ite_canon (State.moduleReset_canon h) h

theorem rstNGlitch_canon {s : State} (h : s.Canon) : (rstNGlitch s).Canon := by
  unfold rstNGlitch
  exact ite_canon h (State.count_canon h)

theorem watchdogExpiry_canon {s : State} (h : s.Canon) : (watchdogExpiry s).Canon := by
  unfold watchdogExpiry
  exact ite_canon (State.moduleReset_canon h) h

theorem lockstepError_canon {s : State} (h : s.Canon) : (lockstepError s).Canon := by
  unfold lockstepError
  exact ite_canon (State.moduleReset_canon h) h

theorem moduleResetCmd_canon {q : Req} {s : State} (h : s.Canon) : (moduleResetCmd q s).Canon := by
  unfold moduleResetCmd
  exact State.command_canon h (fun _ ht => ite_canon (State.moduleReset_canon (State.complete_canon ht)) (State.complete_canon ht))

theorem resetCtrlWrite_canon {data : Word} {s : State} (h : s.Canon) : (resetCtrlWrite data s).Canon := by
  unfold resetCtrlWrite
  refine ite_canon (State.reject_canon h) ?_
  exact ite_canon h (ite_canon (State.reject_canon h) (ite_canon (State.moduleReset_canon h) h))

theorem resetExit_canon {pos slot : Nat} {s : State} (h : s.Canon) : (resetExit pos slot s).Canon := by
  unfold resetExit
  refine ite_canon h ?_
  extract_lets s1 s2
  have hs1 : s1.Canon := State.put_canon (State.put_canon h)
  have hs2 : s2.Canon := State.wr_canon (State.note_canon hs1)
  exact State.refreshRole_canon (State.setState_canon hs2)

theorem bootTamper_canon {src : Nat} {s : State} (h : s.Canon) : (bootTamper src s).Canon := by
  unfold bootTamper
  exact ite_canon h (State.tamperBoot_canon h)

theorem State.extend_canon {s : State} {m digest : Nat} (h : s.Canon) : (s.extend m digest).Canon := by
  unfold State.extend
  extract_lets
  exact foldl_canon h (fun _ ht _ => State.put_canon ht)

theorem State.stepDone_canon {s : State} (h : s.Canon) : (s.stepDone).Canon := by
  unfold State.stepDone
  exact State.put_canon h

theorem State.selfPass_canon {s : State} {bits : Nat} (h : s.Canon) : (s.selfPass bits).Canon := by
  unfold State.selfPass
  exact State.put_canon h

theorem State.lifecycleResume_canon {s : State} (h : s.Canon) : (s.lifecycleResume).Canon := by
  unfold State.lifecycleResume
  split
  · refine ite_canon ?_ h
    extract_lets _ s1
    have hs1 : s1.Canon := by
      unfold s1
      exact foldl_canon h (fun _ ht _ => ite_canon (State.advanceGen_canon ht) (State.emptySlot_canon (State.keyJournal_canon (State.dropBlob_canon (State.dropStage_canon ht)))))
    exact State.lifecycleDone_canon hs1
  · exact h

theorem State.ledTest_canon {s : State} (h : s.Canon) : (s.ledTest).Canon := by
  unfold State.ledTest
  exact foldl_canon h (fun _ ht _ => State.emit_canon ht)

theorem State.bootLatch_canon {s : State} {r : BootRep} (h : s.Canon) : (s.bootLatch r).Canon := by
  unfold State.bootLatch
  extract_lets _ t _ s1
  have ht : t.Canon := State.bootZero_canon h
  have hs1 : s1.Canon := ite_canon h (State.keyJournal_canon (canon_of_fields ht))
  refine ite_canon (State.bootFail_canon (State.bootZero_canon h)) ?_
  exact State.stepDone_canon (State.lifecycleResume_canon hs1)

theorem State.bootLive_canon {s : State} (h : s.Canon) : (s.bootLive).Canon := by
  unfold State.bootLive
  split
  · exact State.tamperBoot_canon h
  · exact State.stepDone_canon h

theorem State.bootFirmware_canon {s : State} (h : s.Canon) : (s.bootFirmware).Canon := by
  unfold State.bootFirmware
  split
  · exact State.bootFail_canon h
  · extract_lets _ s1 s2
    have hs1 : s1.Canon := canon_of_fields h
    have hs2 : s2.Canon := State.put_canon (State.put_canon (State.put_canon (State.put_canon hs1)))
    exact State.stepDone_canon (State.extend_canon (State.extend_canon hs2))

theorem State.emptySection_canon {s : State} {id : Nat} (h : s.Canon) : (s.emptySection id).Canon := by
  unfold State.emptySection
  refine ite_canon (canon_of_fields h) ?_
  refine ite_canon (canon_of_fields h) ?_
  refine ite_canon (State.put_canon (State.put_canon (State.put_canon h))) ?_
  exact ite_canon (State.showReint_canon (State.put_canon (canon_of_fields h))) (ite_canon (canon_of_fields h) h)

theorem State.finding_canon {s : State} {f : Nat × Nat × Nat × Nat} (h : s.Canon) : (s.finding f).Canon := by
  unfold State.finding
  split
  · refine ite_canon (State.raiseAt_canon (State.event_canon (State.count_canon h))) ?_
    refine ite_canon (State.raiseAt_canon (State.event_canon (State.count_canon h))) ?_
    refine ite_canon (State.raiseAt_canon (State.event_canon (State.put_canon (State.put_canon (State.emptySection_canon h))))) ?_
    exact ite_canon (State.raise1_canon (State.event_canon (State.count_canon (State.dropBlob_canon h)))) h

theorem State.signerChange_canon {s : State} (h : s.Canon) : (s.signerChange).Canon := by
  unfold State.signerChange
  exact ite_canon (State.put_canon (State.rewriteSections_canon (canon_of_fields h))) h

theorem State.bootSelf_canon {s : State} {r : BootRep} {tests : Nat} {next : State → State}
    (h : s.Canon) (hnext : ∀ t, t.Canon → (next t).Canon) : (s.bootSelf r tests next).Canon := by
  unfold State.bootSelf
  extract_lets s1
  have hs1 : s1.Canon := State.selfPass_canon h
  exact ite_canon (hnext _ hs1) (State.bootFail_canon hs1)

theorem State.bootTests_canon {s : State} {r : BootRep} (h : s.Canon) : (s.bootTests r).Canon := by
  unfold State.bootTests
  exact State.bootSelf_canon h (fun _ ht => State.stepDone_canon (State.signerChange_canon (foldl_canon ht (fun _ ht1 _ => State.finding_canon ht1))))

theorem State.rollback_canon {s : State} {n : Nat} (h : s.Canon) : (s.rollback n).Canon := by
  unfold State.rollback
  exact State.raise1_canon (State.event_canon (State.queueWrite_canon (State.put_canon h)))

theorem State.configSelect_canon {s : State} (h : s.Canon) : (s.configSelect).1.Canon := by
  unfold State.configSelect
  extract_lets _ _ _ s0 s1
  have hs0 : s0.Canon := canon_of_fields h
  have hs1 : s1.Canon := ite_canon (State.rollback_canon hs0) hs0
  split
  · exact State.put_canon hs0
  · split
    · exact hs1
    · split
      · exact State.raise1_canon (State.event_canon hs1)
      · exact State.raise1_canon (State.event_canon hs1)

theorem State.keeperRtc_canon {s : State} {w : RtcWrite} (h : s.Canon) : (s.keeperRtc w).Canon := by
  unfold State.keeperRtc
  exact State.rtcQueue_canon (ite_canon (rtcWriteCross_canon h) h)

theorem State.configReg_canon {s : State} {x : Nat × Nat} (h : s.Canon) : (s.configReg x).Canon := by
  unfold State.configReg
  split
  · exact h
  · extract_lets _ _ _ _ s1
    have hs1 : s1.Canon := State.wr_canon h
    refine ite_canon (ite_canon h (State.keeperRtc_canon h)) ?_
    exact ite_canon (State.signal_canon (ite_canon (State.wr_canon hs1) hs1)) (ite_canon (State.wr_canon hs1) hs1)

theorem State.rateFollows_canon {s : State} (h : s.Canon) : (s.rateFollows).Canon := by
  unfold State.rateFollows
  extract_lets _ s1
  have hs1 : s1.Canon := State.put_canon (State.put_canon (State.put_canon h))
  exact State.put_canon (State.put_canon (State.put_canon hs1))

theorem State.restoreSlot_canon {s : State} {x : RestoreImage} (h : s.Canon) : (s.restoreSlot x).Canon := by
  obtain ⟨s1, e, hs1⟩ : ∃ t, s.loadSlot x.slice x.slot x.img = t ∧ t.Canon := ⟨_, rfl, State.loadSlot_canon h⟩
  unfold State.restoreSlot
  rw [e]
  split
  · exact State.raiseAt_canon h
  · extract_lets
    split
    · exact State.putSlot_canon hs1
    · exact hs1

theorem State.mintAll_canon {s : State} (h : s.Canon) : (s.mintAll).Canon := by
  unfold State.mintAll
  exact foldl_canon h (fun _ ht _ => State.mint_canon ht)

theorem State.useRevision_canon {s : State} {r : Option Revision} (h : s.Canon) : (s.useRevision r).Canon := by
  unfold State.useRevision
  split
  · exact canon_of_fields h
  · extract_lets _ s1 s2 s3
    have hs1 : s1.Canon := foldl_canon (canon_of_fields h) (fun _ ht _ => State.configReg_canon ht)
    have hs2 : s2.Canon := foldl_canon (State.rateFollows_canon hs1) (fun _ ht _ => State.restoreSlot_canon ht)
    have hs3 : s3.Canon := by
      unfold s3
      split
      · extract_lets src
        have hsrc : src.Canon := State.loadProgram_canon hs2
        exact canon_of_fields hsrc
      · exact hs2
    exact State.mintAll_canon hs3

theorem State.bootConfig_canon {s : State} (h : s.Canon) : (s.bootConfig).Canon := by
  unfold State.bootConfig
  split
  · rename_i s1 _ e
    have hs1 : s1.Canon := canon_fst e (State.configSelect_canon h)
    extract_lets s2
    have hs2 : s2.Canon := State.extend_canon (State.useRevision_canon hs1)
    exact State.stepDone_canon (State.extend_canon (State.extend_canon hs2))

theorem State.unseal_canon {s : State} {bad : List Nat} {k : Nat} (h : s.Canon) : (s.unseal bad k).Canon := by
  unfold State.unseal
  extract_lets
  split
  · exact foldl_canon h (fun _ ht _ => State.destroyBlob_canon ht)
  · extract_lets
    split
    · refine ite_canon (foldl_canon h (fun _ ht _ => State.destroyBlob_canon ht)) ?_
      exact foldl_canon (State.raiseAt_canon (State.event_canon (State.put_canon h))) (fun _ ht _ => State.destroyBlob_canon ht)
    · extract_lets s1 _ s2 s3 _ s4
      have hs1 : s1.Canon := State.wr_canon (State.wr_canon h)
      have hs2 : s2.Canon := canon_of_fields hs1
      have hs3 : s3.Canon := State.put_canon (State.put_canon hs2)
      have hs4 : s4.Canon := State.put_canon hs3
      exact foldl_canon (ite_canon hs4 (State.raiseAt_canon (State.event_canon hs4))) (fun _ ht _ => State.destroyBlob_canon ht)

theorem State.countKeys_canon {s : State} (h : s.Canon) : (s.countKeys).Canon := by
  unfold State.countKeys
  extract_lets
  exact foldl_canon (State.put_canon h) (fun _ ht _ => State.keyTake_canon ht)

theorem State.bootKeys_canon {s : State} {r : BootRep} (h : s.Canon) : (s.bootKeys r).Canon := by
  unfold State.bootKeys
  extract_lets s1 s2
  have hs1 : s1.Canon := foldl_canon h (fun _ ht _ => State.discardStage_canon ht)
  have hs2 : s2.Canon := foldl_canon hs1 (fun _ ht _ => State.unseal_canon ht)
  exact State.lockGroups_canon (State.countKeys_canon hs2)

theorem State.handFlow_canon {s : State} (h : s.Canon) : (s.handFlow).Canon := by
  unfold State.handFlow
  split
  · exact h
  · extract_lets _ _ s0 s1 s2
    have hs0 : s0.Canon := canon_of_fields h
    have hs1 : s1.Canon := State.put_canon (State.put_canon hs0)
    have hs2 : s2.Canon := State.put_canon (State.put_canon hs1)
    exact ite_canon (State.noteOpen_canon hs0) (State.raise1_canon (State.event_canon (State.put_canon hs2)))

theorem State.vigilHand_canon {s : State} (h : s.Canon) : (s.vigilHand).Canon := by
  unfold State.vigilHand
  refine ite_canon h ?_
  extract_lets _ s1 _ s2
  have hs1 : s1.Canon := foldl_canon h (fun _ ht _ => State.put_canon (State.put_canon (State.put_canon ht)))
  have hs2 : s2.Canon := State.handFlow_canon (State.event_canon (State.put_canon (canon_of_fields hs1)))
  exact ite_canon (State.clearFault_canon hs2) (State.raise1_canon hs2)

theorem State.bootEnergy_canon {s : State} (h : s.Canon) : (s.bootEnergy).Canon := by
  unfold State.bootEnergy
  extract_lets _ t s1 _ s2
  have ht : t.Canon := State.restoreBank_canon h
  have hs1 : s1.Canon := by
    unfold s1
    refine ite_canon h ?_
    split
    · exact h
    · exact ite_canon (State.put_canon ht) (State.raise1_canon (State.event_canon (State.put_canon (State.put_canon ht))))
  have hs2 : s2.Canon := State.vigilHand_canon (canon_of_fields hs1)
  exact ite_canon hs2 (State.ledgerCommit_canon hs2)

theorem State.bootSecrets_canon {s : State} {r : BootRep} (h : s.Canon) : (s.bootSecrets r).Canon := by
  unfold State.bootSecrets
  exact ite_canon (State.bootFail_canon h) (State.stepDone_canon (State.bootEnergy_canon (State.bootKeys_canon h)))

theorem State.seedTime_canon {s : State} (h : s.Canon) : (s.seedTime).Canon := by
  unfold State.seedTime
  extract_lets _ _ _ s1
  have hs1 : s1.Canon := State.setClass_canon (canon_of_fields h)
  exact ite_canon (State.raise1_canon (State.put_canon hs1)) hs1

theorem State.startTicks_canon {s : State} (h : s.Canon) : (s.startTicks).Canon := by
  unfold State.startTicks
  extract_lets
  exact canon_of_fields h

theorem State.enabled_canon {s : State} {a : Nat} (h : s.Canon) : (s.enabled a).Canon := by
  unfold State.enabled
  exact ite_canon (canon_of_fields h) (ite_canon (canon_of_fields h) (ite_canon (State.modEnabled_canon h) h))

theorem State.enableBlocks_canon {s : State} (h : s.Canon) : (s.enableBlocks).Canon := by
  unfold State.enableBlocks
  exact foldl_canon h (fun _ ht _ => ite_canon (by
    extract_lets t
    have ht1 : t.Canon := State.configReg_canon ht
    exact ite_canon (State.enabled_canon ht1) ht1) ht)

theorem State.bootBackup_canon {s : State} {vbk : Nat} (h : s.Canon) : (s.bootBackup vbk).Canon := by
  unfold State.bootBackup
  extract_lets _ s1 s2 m s3 _ _ s4
  have hs1 : s1.Canon := State.put_canon (canon_of_fields h)
  have hs2 : s2.Canon := ite_canon (State.raise1_canon hs1) hs1
  have hm : m.Canon := State.putFlag_canon hs2
  have hs3 : s3.Canon := ite_canon (State.raise1_canon hm) (ite_canon (State.clearFault_canon hm) hm)
  have hs4 : s4.Canon := ite_canon hs3 (State.raise1_canon (canon_of_fields hs3))
  exact ite_canon hs4 (State.raise1_canon hs4)

theorem State.bootLast_canon {s : State} {r : BootRep} (h : s.Canon) : (s.bootLast r).Canon := by
  unfold State.bootLast
  extract_lets s1 s2
  have hs1 : s1.Canon := State.bootBackup_canon (State.enableBlocks_canon (State.startTicks_canon (State.seedTime_canon h)))
  have hs2 : s2.Canon := ite_canon (State.raise1_canon (State.event_canon hs1)) hs1
  exact heartbeatLatchFound_canon (State.enterSync_canon (State.put_canon (State.event_canon (State.stepDone_canon hs2))))

theorem bootStepComplete_canon {r : BootRep} {s : State} (h : s.Canon) : (bootStepComplete r s).Canon := by
  unfold bootStepComplete
  refine ite_canon h ?_
  extract_lets
  refine ite_canon (State.stepDone_canon (State.ledTest_canon h)) ?_
  refine ite_canon (State.bootLatch_canon h) ?_
  refine ite_canon (State.bootLive_canon h) ?_
  refine ite_canon (State.bootSelf_canon h (fun _ ht => State.stepDone_canon (State.extend_canon ht))) ?_
  refine ite_canon (State.bootFirmware_canon h) ?_
  refine ite_canon (State.bootTests_canon h) ?_
  refine ite_canon (ite_canon (State.stepDone_canon (State.extend_canon (State.extend_canon h))) (State.bootFail_canon h)) ?_
  exact ite_canon (State.bootConfig_canon h) (ite_canon (State.bootSecrets_canon h) (State.bootLast_canon h))

theorem cfgStage_canon {q : Req} {rev : Revision} {s : State} (h : s.Canon) : (cfgStage q rev s).Canon := by
  unfold cfgStage
  extract_lets
  exact State.command_canon h (fun _ ht => State.complete_canon (canon_of_fields ht))

theorem cfgActivate_canon {q : Req} {num : Nat} {s : State} (h : s.Canon) : (cfgActivate q num s).Canon := by
  unfold cfgActivate
  exact State.command_canon h (fun _ ht => State.clearCode_canon (State.queueWrite_canon ht))

theorem cfgCancel_canon {q : Req} {num : Nat} {s : State} (h : s.Canon) : (cfgCancel q num s).Canon := by
  unfold cfgCancel
  exact State.command_canon h (fun _ ht => State.complete_canon (canon_of_fields ht))

theorem State.storeImage_canon {s : State} {i : FwImage} (h : s.Canon) : (s.storeImage i).Canon := by
  unfold State.storeImage
  exact ite_canon (canon_of_fields h) (canon_of_fields h)

theorem fwStage_canon {q : Req} {i : FwImage} {s : State} (h : s.Canon) : (fwStage q i s).Canon := by
  unfold fwStage
  exact State.command_canon h (fun _ ht => (by
    extract_lets s1
    have hs1 : s1.Canon := State.storeImage_canon ht
    exact ite_canon (State.queueWrite_canon (canon_of_fields hs1)) (State.complete_canon (State.event_canon hs1))))

theorem State.wrAll_canon {s : State} {l : List (Nat × Word)} (h : s.Canon) : (s.wrAll l).Canon := by
  unfold State.wrAll
  exact foldl_canon h (fun _ ht _ => State.wr_canon ht)

theorem State.afterSet_canon {s : State} {blk : Nat} (h : s.Canon) : (s.afterSet blk).Canon := by
  unfold State.afterSet
  refine ite_canon (canon_of_fields h) ?_
  refine ite_canon (State.applySubs_canon h) ?_
  exact ite_canon (State.showDepend_canon h) (ite_canon (State.poBoundary_canon h) h)

theorem State.applyCommits_canon {s : State} {n : Nat} (h : s.Canon) : (s.applyCommits n).Canon := by
  unfold State.applyCommits
  extract_lets
  exact foldl_canon (canon_of_fields h) (fun _ ht _ => State.afterSet_canon (State.wrAll_canon ht))

theorem State.commitBlock_canon {s : State} {blk : Nat} (h : s.Canon) : (s.commitBlock blk).Canon := by
  unfold State.commitBlock
  extract_lets _ t
  have ht : t.Canon := State.wrAll_canon h
  exact ite_canon (State.reject_canon (State.eventIf_canon h)) (ite_canon (canon_of_fields h) (State.afterSet_canon ht))

theorem State.discardBlock_canon {s : State} {blk : Nat} (h : s.Canon) : (s.discardBlock blk).Canon := by
  unfold State.discardBlock
  exact foldl_canon h (fun _ ht _ => State.wr_canon ht)

theorem State.commitWrite_canon {s : State} {blk : Nat} {act : State → State}
    (h : s.Canon) (hact : ∀ t, t.Canon → (act t).Canon) : (s.commitWrite blk act).Canon := by
  unfold State.commitWrite
  exact ite_canon (ite_canon (State.reject_canon h) h) (ite_canon (hact _ h) h)

theorem blockCommitWrite_canon {blk : Nat} {discard : Bool} {s : State} (h : s.Canon) : (blockCommitWrite blk discard s).Canon := by
  unfold blockCommitWrite
  exact State.commitWrite_canon h (fun _ ht => State.commitBlock_canon (ite_canon (State.discardBlock_canon ht) ht))

theorem blockDiscardWrite_canon {blk : Nat} {s : State} (h : s.Canon) : (blockDiscardWrite blk s).Canon := by
  unfold blockDiscardWrite
  exact State.commitWrite_canon h (fun _ ht => State.discardBlock_canon ht)

theorem statusRead_canon {q : Req} {len : Nat} {s : State} (h : s.Canon) : (statusRead q len s).Canon := by
  unfold statusRead
  extract_lets
  exact State.commandAny_canon h (fun _ ht => State.complete_canon (State.answer_canon ht))

theorem journalRead_canon {q : Req} {sel start len : Nat} {s : State} (h : s.Canon) : (journalRead q sel start len s).Canon := by
  unfold journalRead
  exact State.commandAny_canon h (fun _ ht => ite_canon (State.complete_canon (State.answer_canon ht)) (State.complete_canon (State.answer_canon ht)))

theorem State.clearRc_canon {s : State} {blk off : Nat} (h : s.Canon) : (s.clearRc blk off).Canon := by
  unfold State.clearRc
  split
  · exact foldl_canon h (fun _ ht _ => State.put_canon ht)
  · exact h

theorem State.countersOut_canon {s : State} {q : Req} {block : Nat} {offs : List Nat} {clear : Bool}
    (h : s.Canon) : (s.countersOut q block offs clear).Canon := by
  unfold State.countersOut
  extract_lets _ s1
  have hs1 : s1.Canon := ite_canon (foldl_canon h (fun _ ht _ => State.clearRc_canon ht)) h
  exact State.complete_canon (State.answer_canon hs1)

theorem counterRead_canon {q : Req} {block : Nat} {clear : Bool} {len : Nat} {s : State} (h : s.Canon) : (counterRead q block clear len s).Canon := by
  unfold counterRead
  extract_lets
  exact State.commandAny_canon h (fun _ ht => State.countersOut_canon ht)

theorem injectStart_canon {q : Req} {len : Nat} {d : InjDesc} {s : State} (h : s.Canon) : (injectStart q len d s).Canon := by
  unfold injectStart
  extract_lets
  exact State.command_canon (ite_canon (State.count_canon h) h) (fun _ ht => State.complete_canon (State.clearFault_canon (canon_of_fields ht)))

theorem injectStop_canon {q : Req} {id : Nat} {s : State} (h : s.Canon) : (injectStop q id s).Canon := by
  unfold injectStop
  extract_lets
  exact State.command_canon h (fun _ ht => (by
    extract_lets s1
    have hs1 : s1.Canon := canon_of_fields ht
    exact State.complete_canon hs1))

theorem State.startInj_canon {s : State} {i : Injection} {n : Nat} (h : s.Canon) : (s.startInj i n).Canon := by
  unfold State.startInj
  extract_lets _ s1 s2 s3 s4 s5 s6
  have hs1 : s1.Canon := State.put_canon (canon_of_fields h)
  have hs2 : s2.Canon := ite_canon (State.put_canon hs1) hs1
  have hs3 : s3.Canon := State.put_canon (State.put_canon (State.put_canon (State.put_canon hs2)))
  have hs4 : s4.Canon := State.put_canon (State.put_canon (State.put_canon (State.put_canon hs3)))
  have hs5 : s5.Canon := State.count_canon (State.put_canon (State.put_canon hs4))
  have hs6 : s6.Canon := State.event_canon (State.raiseRecord_canon hs5)
  exact ite_canon (foldl_canon hs6 (fun _ ht _ => State.injHit_canon (State.note_canon (canon_of_fields ht)))) hs6

theorem State.injBoundary_canon {s : State} {n : Nat} (h : s.Canon) : (s.injBoundary n).Canon := by
  unfold State.injBoundary
  extract_lets s1
  have hs1 : s1.Canon := by
    unfold s1
    exact foldl_canon h (fun _ ht _ => ite_canon (ite_canon ht (State.endInj_canon ht)) (ite_canon (State.endInj_canon ht) ht))
  exact foldl_canon hs1 (fun _ ht _ => State.startInj_canon ht)

theorem State.injOver_canon {s : State} {id : Nat} (h : s.Canon) : (s.injOver id).Canon := by
  unfold State.injOver
  split
  · exact h
  · extract_lets
    exact ite_canon h (State.endInj_canon h)

theorem injectEnd_canon {id now : Nat} {s : State} (h : s.Canon) : (injectEnd id now s).Canon := by
  unfold injectEnd
  exact State.injOver_canon (State.advance_canon h)

theorem diagSelftest_canon {test : Nat} {pass : Bool} {s : State} (h : s.Canon) : (diagSelftest test pass s).Canon := by
  unfold diagSelftest
  refine ite_canon h ?_
  refine ite_canon (State.clearFault_canon h) ?_
  extract_lets s1
  have hs1 : s1.Canon := State.raiseAt_canon (State.event_canon h)
  exact ite_canon (State.raise1_canon (State.setGate_canon hs1)) hs1

theorem State.recallMeter_canon {s : State} {unit : Nat} (h : s.Canon) : (s.recallMeter unit).Canon := by
  unfold State.recallMeter
  split
  · exact h
  · refine ite_canon ?_ ?_
    · split
      · exact State.setPoint_canon h
      · exact h
    · split
      · exact State.setMeter_canon h
      · exact h

theorem hardwareParityError_canon {code unit addr : Nat} {s : State} (h : s.Canon) : (hardwareParityError code unit addr s).Canon := by
  unfold hardwareParityError
  refine ite_canon h ?_
  refine ite_canon (State.raise_canon h) ?_
  refine ite_canon (State.raise_canon h) ?_
  refine ite_canon (State.raiseAt_canon h) ?_
  refine ite_canon (State.raiseAt_canon (canon_of_fields h)) ?_
  refine ite_canon (State.raiseAt_canon h) ?_
  refine ite_canon (State.raiseAt_canon h) ?_
  refine ite_canon (State.raiseAt_canon (State.setRod_canon h)) ?_
  refine ite_canon (State.raiseAt_canon (State.recallMeter_canon h)) ?_
  refine ite_canon (State.raiseAt_canon h) ?_
  refine ite_canon (State.raiseAt_canon h) ?_
  exact ite_canon (State.raise1_canon (State.event_canon (State.endInjections_canon h))) h

theorem State.timedRaise_canon {s : State} {code unit detail : Nat} (h : s.Canon) : (s.timedRaise code unit detail).Canon := by
  unfold State.timedRaise
  refine ite_canon (ite_canon (State.raiseAt_canon h) h) ?_
  refine ite_canon (ite_canon (State.raise1_canon h) h) ?_
  refine ite_canon ?_ (ite_canon (ite_canon (State.raiseAt_canon h) h) h)
  split
  · exact h
  · exact State.raise1_canon h

theorem faultTimerExpiry_canon {code unit detail : Nat} {raised : Bool} {now : Nat} {s : State}
    (h : s.Canon) : (faultTimerExpiry code unit detail raised now s).Canon := by
  unfold faultTimerExpiry
  extract_lets s0
  have hs0 : s0.Canon := State.advance_canon h
  exact ite_canon (State.timedRaise_canon hs0) (ite_canon (State.eventIf_canon (State.clearFault_canon hs0)) hs0)

theorem tempFault_canon {plate die : Int} {s : State} (h : s.Canon) : (tempFault plate die s).Canon := by
  unfold tempFault
  extract_lets s1 _ _ s2
  have hs1 : s1.Canon := State.put_canon (State.put_canon h)
  have hs2 : s2.Canon := ite_canon (State.raise1_canon (State.event_canon hs1)) hs1
  exact ite_canon h (ite_canon (State.raise1_canon (State.event_canon hs2)) hs2)

theorem State.setLoop_canon {s : State} {x : LoopRec} (h : s.Canon) : (s.setLoop x).Canon := by
  unfold State.setLoop
  exact canon_of_fields h

theorem State.loopGo_canon {s : State} {n st : Nat} (h : s.Canon) : (s.loopGo n st).Canon := by
  unfold State.loopGo
  extract_lets _ _ s1 s2 s3
  have hs1 : s1.Canon := State.put_canon (State.put_canon h)
  have hs2 : s2.Canon := State.event_canon hs1
  have hs3 : s3.Canon := ite_canon (State.clearFault_canon hs2) hs2
  exact ite_canon h (ite_canon (State.clearFault_canon hs3) hs3)

theorem State.loopFall_canon {s : State} {n cause : Nat} (h : s.Canon) : (s.loopFall n cause).Canon := by
  unfold State.loopFall
  exact State.raiseAt_canon (State.event_canon (State.put_canon (State.loopGo_canon h)))

theorem State.loopsOff_canon {s : State} (h : s.Canon) : (s.loopsOff).Canon := by
  unfold State.loopsOff
  extract_lets s1
  have hs1 : s1.Canon := foldl_canon h (fun _ ht _ => State.loopGo_canon ht)
  exact canon_of_fields hs1

theorem State.loopOp_canon {s : State} {n op : Nat} (h : s.Canon) : (s.loopOp n op).Canon := by
  unfold State.loopOp
  extract_lets
  exact ite_canon h (ite_canon (State.reject_canon h) (ite_canon (State.reject_canon h) (State.setLoop_canon h)))

theorem State.loopsReclose_canon {s : State} (h : s.Canon) : (s.loopsReclose).Canon := by
  unfold State.loopsReclose
  extract_lets
  exact canon_of_fields h

theorem State.loopTarget_canon {s : State} {n k : Nat} (h : s.Canon) : (s.loopTarget n k).2.Canon := by
  unfold State.loopTarget
  extract_lets
  split
  · split
    · exact h
    · split
      · exact h
      · split
        · exact h
        · exact State.raiseAt_canon (State.event_canon (State.setLoop_canon h))
  · exact State.setLoop_canon h
  · exact h

theorem State.loopSat_canon {s : State} {n : Nat} {p i o f : Bool} (h : s.Canon) : (s.loopSat n p i o f).Canon := by
  unfold State.loopSat
  extract_lets _ _ s1
  have hs1 : s1.Canon := by
    unfold s1
    exact ite_canon (State.put_canon (ite_canon (State.put_canon (ite_canon (State.put_canon (ite_canon (State.put_canon h) h)) (ite_canon (State.put_canon h) h))) (ite_canon (State.put_canon (ite_canon (State.put_canon h) h)) (ite_canon (State.put_canon h) h)))) (ite_canon (State.put_canon (ite_canon (State.put_canon (ite_canon (State.put_canon h) h)) (ite_canon (State.put_canon h) h))) (ite_canon (State.put_canon (ite_canon (State.put_canon h) h)) (ite_canon (State.put_canon h) h)))
  exact State.eventIf_canon hs1

theorem State.loopFf_canon {s : State} {n k : Nat} (h : s.Canon) : (s.loopFf n k).2.Canon := by
  unfold State.loopFf
  split
  · split
    · rename_i _ s1 e
      have hs1 : s1.Canon := canon_snd e (by
      split
      · exact h
      · exact State.drawn_canon h)
      exact hs1

theorem State.loopLaw_canon {s : State} {n k : Nat} {close : Option Int} {bump : Bool} {w pv : Int}
    (h : s.Canon) : (s.loopLaw n k close bump w pv).Canon := by
  unfold State.loopLaw
  extract_lets
  split
  · extract_lets
    split
    · rename_i _ _ s1 e
      have hs1 : s1.Canon := canon_snd e (State.loopFf_canon h)
      extract_lets _ _ _ _ _ _ _ s2
      have hs2 : s2.Canon := State.setLoop_canon hs1
      exact State.loopSat_canon (State.put_canon hs2)

theorem State.loopModel_canon {s : State} {n : Nat} {pv : Int} (h : s.Canon) : (s.loopModel n pv).Canon := by
  unfold State.loopModel
  extract_lets
  exact State.put_canon (State.setLoop_canon h)

theorem State.loopSupervise_canon {s : State} {n : Nat} (h : s.Canon) : (s.loopSupervise n).Canon := by
  unfold State.loopSupervise
  extract_lets _ s1
  have hs1 : s1.Canon := State.setLoop_canon h
  exact ite_canon h (ite_canon (State.setLoop_canon h) (ite_canon (State.loopFall_canon hs1) hs1))

theorem State.loopSend_canon {s : State} {n k : Nat} {y : Option Int} {safe : Bool} {target : Int}
    (h : s.Canon) : (s.loopSend n k y safe target).Canon := by
  unfold State.loopSend
  extract_lets out
  clear_value out
  split
  · exact h
  · refine ite_canon h ?_
    refine ite_canon (State.count_canon h) ?_
    extract_lets s1
    have hs1 : s1.Canon := State.advance_canon (State.count_canon (State.emit_canon h))
    exact State.unitSend_canon hs1

theorem State.loopApplyOp_canon {s : State} {n : Nat} (h : s.Canon) : (s.loopApplyOp n).1.Canon := by
  obtain ⟨f, ef, hf⟩ : ∃ f, State.setLoop = f ∧ ∀ t x, State.Canon t → (f t x).Canon :=
    ⟨_, rfl, fun _ _ ht => State.setLoop_canon ht⟩
  obtain ⟨g, eg, hg⟩ : ∃ g, State.loopGo = g ∧ ∀ t n st, State.Canon t → (g t n st).Canon :=
    ⟨_, rfl, fun _ _ _ ht => State.loopGo_canon ht⟩
  unfold State.loopApplyOp
  rw [ef, eg]
  extract_lets x s0 man y st
  have hs0 : s0.Canon := hf _ _ h
  split
  · exact hg _ _ _ hs0
  split
  · exact hg _ _ _ hs0
  split
  · exact hg _ _ _ hs0
  split
  · exact hg _ _ _ (State.put_canon hs0)
  split
  · exact hs0
  split
  · exact hs0
  · exact hs0

theorem State.loopRun_canon {s : State} {n k : Nat} {close : Option Int} (h : s.Canon) : (s.loopRun n k close).Canon := by
  unfold State.loopRun
  extract_lets _ s1
  have hs1 : s1.Canon := State.eventIf_canon (State.put_canon h)
  clear_value s1
  split
  · rename_i _ s2 e
    have hs2 : s2.Canon := canon_snd e (State.loopTarget_canon hs1)
    split
    · extract_lets _ _ _ _ s3 _ _ _ s4 _ s4'1 s5 s4'2 s5'1 s6 s4'3
      have hs3 : s3.Canon := State.put_canon (State.setLoop_canon hs2)
      clear_value s3
      have hs4 : s4.Canon := State.loopSat_canon (State.put_canon (State.setLoop_canon hs3))
      clear_value s4
      have hs4'1 : s4'1.Canon := State.loopLaw_canon (State.put_canon (State.setLoop_canon hs3))
      clear_value s4'1
      have hs5 : s5.Canon := State.loopSupervise_canon (State.loopModel_canon hs4'1)
      clear_value s5
      have hs4'2 : s4'2.Canon := by
        unfold s4'2
        split
        · exact State.put_canon hs3
        · exact hs3
      clear_value s4'2
      have hs5'1 : s5'1.Canon := State.event_canon (State.setLoop_canon hs4'2)
      clear_value s5'1
      have hs6 : s6.Canon := ite_canon (State.loopFall_canon hs5'1) hs5'1
      clear_value s6
      have hs4'3 : s4'3.Canon := ite_canon (State.loopModel_canon hs3) hs3
      clear_value s4'3
      refine ite_canon (State.loopSend_canon (ite_canon (State.loopModel_canon hs4) hs4)) ?_
      refine ite_canon (ite_canon (State.loopSend_canon hs5) (State.loopSend_canon hs6)) ?_
      split
      · exact State.loopSend_canon hs4'3
      · exact State.loopSend_canon (State.put_canon hs4'3)
      · exact State.loopSend_canon hs4'3

theorem loopExecute_canon {n k : Nat} {s : State} (h : s.Canon) : (loopExecute n k s).Canon := by
  obtain ⟨f, e, hf⟩ : ∃ f, State.loopApplyOp = f ∧ ∀ t, State.Canon t → (f t n).1.Canon :=
    ⟨_, rfl, fun _ ht => State.loopApplyOp_canon ht⟩
  unfold loopExecute
  rw [e]
  refine ite_canon h ?_
  have hs2 := hf _ (State.setLoop_canon (x := { s.loopRec n with last := some k }) (State.advance_canon (t := s.loopStart n k) h))
  extract_lets s1
  split
  next e =>
    rw [e] at hs2
    exact ite_canon (State.loopRun_canon (State.countMod_canon hs2)) hs2

theorem deviceReportRx_canon {src type ch status position value now : Nat} {s : State}
    (h : s.Canon) : (deviceReportRx src type ch status position value now s).Canon := by
  obtain ⟨s0, e, hs0⟩ : ∃ t, s.advance (now * nsUnit) = t ∧ t.Canon := ⟨_, rfl, State.advance_canon h⟩
  unfold deviceReportRx
  rw [e]
  refine ite_canon h ?_
  extract_lets s1
  split
  · extract_lets _ _ _ s2
    have hs2 : s2.Canon := State.count_canon (canon_of_fields hs0)
    exact ite_canon (ite_canon (State.raiseAt_canon (State.event_canon hs2)) hs2) (State.clearFault_canon hs2)
  · exact State.count_canon hs0

theorem deviceReportStale_canon {d ch now : Nat} {s : State} (h : s.Canon) : (deviceReportStale d ch now s).Canon := by
  obtain ⟨s0, e, hs0⟩ : ∃ t, s.advance (now * nsUnit) = t ∧ t.Canon := ⟨_, rfl, State.advance_canon h⟩
  unfold deviceReportStale
  rw [e]
  refine ite_canon h ?_
  extract_lets
  split
  · exact hs0
  · refine ite_canon hs0 ?_
    exact ite_canon (State.raiseAt_canon (State.event_canon (canon_of_fields hs0))) (canon_of_fields hs0)

theorem State.setEst_canon {s : State} {e : RckEst} (h : s.Canon) : (s.setEst e).Canon := by
  unfold State.setEst
  exact canon_of_fields h

theorem State.showEst_canon {s : State} (h : s.Canon) : (s.showEst).Canon := by
  unfold State.showEst
  split
  · exact State.put_canon (State.put_canon (State.put_canon (State.put_canon h)))
  · extract_lets
    exact State.put_canon (State.putFlag_canon (State.put_canon (State.put_canon h)))

theorem State.adapt_canon {s : State} {node old new : RckRec} (h : s.Canon) : (s.adapt node old new).Canon := by
  unfold State.adapt
  split
  · exact h
  · extract_lets
    refine ite_canon h ?_
    refine ite_canon (ite_canon (State.raiseRecord_canon (State.event_canon (State.setEst_canon h))) (State.setEst_canon h)) ?_
    refine ite_canon (ite_canon (State.setEst_canon h) (State.setEst_canon h)) ?_
    exact ite_canon (State.setEst_canon h) (State.setEst_canon h)

theorem State.loadRec_canon {s : State} {r : RckRec} (h : s.Canon) : (s.loadRec r).Canon := by
  unfold State.loadRec
  split
  · refine ite_canon (State.count_canon h) ?_
    extract_lets old _ s1
    have hs1 : s1.Canon := canon_of_fields h
    refine ite_canon (canon_of_fields hs1) ?_
    refine ite_canon ?_ hs1
    clear_value old
    split
    · exact State.adapt_canon hs1
    · exact hs1

theorem State.rckClear_canon {s : State} {slice : Nat} (h : s.Canon) : (s.rckClear slice).Canon := by
  unfold State.rckClear
  exact canon_of_fields h

theorem rckModelLoad_canon {q : Req} {len mode : Nat} {buf : List Nat} {s : State} (h : s.Canon) : (rckModelLoad q len mode buf s).Canon := by
  unfold rckModelLoad
  refine ite_canon h ?_
  refine ite_canon (State.complete_canon h) ?_
  split
  · refine ite_canon (State.complete_canon h) ?_
    extract_lets _ s1 s2
    have hs1 : s1.Canon := ite_canon (State.rckClear_canon h) h
    have hs2 : s2.Canon := foldl_canon hs1 (fun _ ht _ => State.loadRec_canon ht)
    exact State.complete_canon (State.event_canon (State.showEst_canon hs2))

theorem rckRulesLoad_canon {q : Req} {len : Nat} {buf : List Nat} {s : State} (h : s.Canon) : (rckRulesLoad q len buf s).Canon := by
  unfold rckRulesLoad
  refine ite_canon h ?_
  refine ite_canon (State.complete_canon h) ?_
  extract_lets
  split
  · exact State.complete_canon h
  · refine ite_canon (State.complete_canon h) ?_
    refine ite_canon (State.complete_canon h) ?_
    exact ite_canon (State.complete_canon h) (State.complete_canon (State.event_canon (canon_of_fields h)))

theorem State.headroomFault_canon {s : State} {r : RckRec} (h : s.Canon) : (s.headroomFault r).Canon := by
  unfold State.headroomFault
  split
  · exact h
  · exact State.raiseAt_canon (State.event_canon h)
  · exact State.clearFault_canon h

theorem State.solveFail_canon {s : State} {outcome : Nat} (h : s.Canon) : (s.solveFail outcome).Canon := by
  unfold State.solveFail
  extract_lets _ s1
  have hs1 : s1.Canon := State.put_canon (State.put_canon (canon_of_fields h))
  exact State.raise1_canon (State.event_canon (State.count_canon (State.count_canon hs1)))

theorem State.solveStart_canon {s : State} {cold : Bool} {now : Nat} (h : s.Canon) : (s.solveStart cold now).Canon := by
  unfold State.solveStart
  extract_lets _ s0
  have hs0 : s0.Canon := foldl_canon (State.put_canon h) (fun _ ht _ => State.headroomFault_canon ht)
  clear_value s0
  split
  · extract_lets _ _ s1 s2 warm
    have hs1 : s1.Canon := State.countBy_canon (State.countBy_canon (State.put_canon (State.put_canon (State.put_canon hs0))))
    clear_value s1
    have hs2 : s2.Canon := State.clearCode_canon hs1
    clear_value s2
    refine ite_canon (State.solveFail_canon hs2) ?_
    refine ite_canon (State.solveFail_canon hs2) ?_
    split
    · rename_i _ s3 e
      have hs3 : s3.Canon := canon_snd e (by
      clear_value warm
      split
      · exact hs2
      · split
        · exact canon_of_fields hs2)
      exact State.put_canon (canon_of_fields hs3)

theorem solveStartRow_canon {now : Nat} {s : State} (h : s.Canon) : (solveStartRow now s).Canon := by
  unfold solveStartRow
  refine ite_canon h ?_
  extract_lets s0
  have hs0 : s0.Canon := State.advance_canon h
  exact ite_canon (State.count_canon hs0) (State.solveStart_canon hs0)

theorem rckSolveNow_canon {q : Req} {cold : Bool} {now : Nat} {s : State} (h : s.Canon) : (rckSolveNow q cold now s).Canon := by
  unfold rckSolveNow
  extract_lets s0
  have hs0 : s0.Canon := State.advance_canon h
  exact State.command_canon hs0 (fun _ ht => (by
    extract_lets s1
    have hs1 : s1.Canon := State.solveStart_canon ht
    exact State.complete_canon hs1))

theorem State.sendBatch_canon {s : State} {slice : Nat} {b : RckBatch} {fail : Bool} (h : s.Canon) : (s.sendBatch slice b fail).1.Canon := by
  unfold State.sendBatch
  split
  · exact State.raiseAt_canon (State.countFor_canon h)
  · split
    · exact State.raiseAt_canon h
    · extract_lets _ _ _ _ s1 s2
      have hs1 : s1.Canon := canon_of_fields h
      have hs2 : s2.Canon := State.clearFault_canon (State.put_canon (State.put_canon hs1))
      exact State.post_canon (State.dmaOut_canon hs2)

theorem State.sendBatches_canon {s : State} {b : RckBatch} {fail : List Nat} (h : s.Canon) : (s.sendBatches b fail).1.Canon := by
  unfold State.sendBatches
  exact foldl_fst_canon h (fun _ ht _ => (by
    split
    · extract_lets
      split
      · exact ht
      · split
        · rename_i t _ e
          have ht1 : t.Canon := canon_fst e (State.sendBatch_canon ht)
          exact ht1
    · exact ht))

theorem State.loopDeliver_canon {s : State} {valid : Nat} {n : RckRec} {r : Released} (h : s.Canon) : (s.loopDeliver valid n r).1.Canon := by
  unfold State.loopDeliver
  split
  · split
    · exact h
    · extract_lets _ _ s1
      have hs1 : s1.Canon := State.setLoop_canon h
      exact ite_canon (State.clearFault_canon hs1) hs1

theorem State.noteRelease_canon {s : State} {j : Nat} {l : List Released} (h : s.Canon) : (s.noteRelease j l).Canon := by
  unfold State.noteRelease
  split
  · exact h
  · extract_lets
    exact canon_of_fields h

theorem State.countClamps_canon {s : State} {l : List Released} (h : s.Canon) : (s.countClamps l).Canon := by
  unfold State.countClamps
  extract_lets
  exact ite_canon h (State.event_canon (State.countBy_canon h))

theorem State.rckMode_canon {s : State} {mode j : Nat} (h : s.Canon) : (s.rckMode mode j).Canon := by
  unfold State.rckMode
  extract_lets _ s1
  have hs1 : s1.Canon := State.put_canon (State.put_canon h)
  refine ite_canon (State.clearCode_canon (State.clearCode_canon hs1)) ?_
  refine ite_canon hs1 ?_
  exact ite_canon (State.raise1_canon (State.event_canon hs1)) (State.raise1_canon (State.event_canon hs1))

theorem State.rckRelease_canon {s : State} {now : Nat} {fail : List Nat} (h : s.Canon) : (s.rckRelease now fail).Canon := by
  unfold State.rckRelease
  split
  · extract_lets s0 _ _ _ _ _ _ s1
    have hs0 : s0.Canon := foldl_canon (State.rckMode_canon h) (fun _ ht _ => State.headroomFault_canon ht)
    have hs1 : s1.Canon := State.countClamps_canon (ite_canon hs0 (State.noteRelease_canon hs0))
    split
    · rename_i s2 _ e
      have hs2 : s2.Canon := canon_fst e (foldl_fst_canon hs1 (fun _ ht _ => (by
      split
      · split
        · rename_i t _ e1
          have ht1 : t.Canon := canon_fst e1 (State.loopDeliver_canon ht)
          exact ht1
      · exact ht)))
      split
      · rename_i s3 _ e1
        have hs3 : s3.Canon := canon_fst e1 (State.sendBatches_canon hs2)
        exact State.eventIf_canon hs3

theorem setpointRelease_canon {now : Nat} {fail : List Nat} {s : State} (h : s.Canon) : (setpointRelease now fail s).Canon := by
  unfold setpointRelease
  exact ite_canon h (State.rckRelease_canon (State.advance_canon h))

theorem State.solveAgain_canon {s : State} (h : s.Canon) : (s.solveAgain).Canon := by
  unfold State.solveAgain
  exact ite_canon (State.solveStart_canon (canon_of_fields h)) h

theorem State.solveShown_canon {s : State} {c : RckSolve} {now : Nat} {g : Qp} {t : Solver} (h : s.Canon) : (s.solveShown c now g t).Canon := by
  unfold State.solveShown
  split
  · exact State.put_canon (State.put_canon (State.put_canon (State.put_canon (State.put_canon (State.put_canon h)))))

theorem State.solvePlan_canon {s : State} {c : RckSolve} {g : Qp} {t : Solver} (h : s.Canon) : (s.solvePlan c g t).Canon := by
  unfold State.solvePlan
  extract_lets _ s1
  have hs1 : s1.Canon := canon_of_fields h
  exact State.clearCode_canon (State.event_canon (State.count_canon (State.put_canon (State.put_canon (State.put_canon hs1)))))

theorem State.solveDone_canon {s : State} {c : RckSolve} {r : SolveResult} {o : Nat} {g : Qp} {t : Solver}
    (h : s.Canon) : (s.solveDone c r o g t).Canon := by
  unfold State.solveDone
  extract_lets s1 s2
  have hs1 : s1.Canon := State.solveShown_canon h
  have hs2 : s2.Canon := State.solvePlan_canon hs1
  refine ite_canon (State.solveAgain_canon (State.solveFail_canon hs1)) ?_
  exact State.solveAgain_canon (ite_canon (State.rckRelease_canon hs2) hs2)

theorem solveEnd_canon {r : SolveResult} {s : State} (h : s.Canon) : (solveEnd r s).Canon := by
  obtain ⟨f, hf, hdone⟩ : ∃ f, State.solveDone = f ∧ ∀ t c o g x, State.Canon t → (f t c r o g x).Canon :=
    ⟨_, rfl, fun t c o g x ht => State.solveDone_canon ht⟩
  obtain ⟨k, hk⟩ : ∃ k, State.solveRun = k := ⟨_, rfl⟩
  unfold solveEnd
  rw [hf, hk]
  split
  · exact h
  · exact hdone _ _ _ _ _ (State.advance_canon h)

theorem State.partialRelease_canon {s : State} {now : Nat} {fail : List Nat} {n : RckRec} (h : s.Canon) : (s.partialRelease now fail n).Canon := by
  unfold State.partialRelease
  split
  · exact h
  · split
    · extract_lets _ _ s1
      have hs1 : s1.Canon := State.countClamps_canon h
      split
      · rename_i s2 _ e
        have hs2 : s2.Canon := canon_fst e (State.sendBatches_canon (canon_of_fields hs1))
        exact State.eventIf_canon hs2

theorem headroomRead_canon {now : Nat} {fail : List Nat} {s : State} (h : s.Canon) : (headroomRead now fail s).Canon := by
  unfold headroomRead
  refine ite_canon h ?_
  extract_lets s0 _ _ s1
  have hs0 : s0.Canon := foldl_canon (State.advance_canon h) (fun _ ht _ => State.headroomFault_canon ht)
  have hs1 : s1.Canon := foldl_canon hs0 (fun _ ht _ => State.partialRelease_canon ht)
  exact ite_canon hs0 (ite_canon (canon_of_fields hs1) (ite_canon (State.solveStart_canon hs1) hs1))

theorem State.rckDisable_canon {s : State} (h : s.Canon) : (s.rckDisable).Canon := by
  unfold State.rckDisable
  extract_lets s1
  have hs1 : s1.Canon := State.abortSolve_canon h
  exact canon_of_fields hs1

theorem State.mainOff_canon {s : State} {new : Nat} (h : s.Canon) : (s.mainOff new).Canon := by
  unfold State.mainOff
  extract_lets t
  have ht : t.Canon := State.wiped_canon (State.cutPulses_canon h)
  exact State.put_canon (State.put_canon (canon_of_fields ht))

theorem State.goOff_canon {s : State} (h : s.Canon) : (s.goOff).Canon := by
  unfold State.goOff
  extract_lets t
  have ht : t.Canon := State.mainOff_canon h
  exact canon_of_fields ht

theorem State.goVigil_canon {s : State} (h : s.Canon) : (s.goVigil).Canon := by
  unfold State.goVigil
  extract_lets t
  have ht : t.Canon := State.mainOff_canon h
  exact canon_of_fields ht

theorem pfwAssert_canon {dur now : Nat} {ok : Bool} {s : State} (h : s.Canon) : (pfwAssert dur now ok s).Canon := by
  unfold pfwAssert
  refine ite_canon h ?_
  extract_lets s0 _ _ s1 s2
  have hs0 : s0.Canon := State.advance_canon h
  have hs1 : s1.Canon := State.event_canon (canon_of_fields hs0)
  have hs2 : s2.Canon := State.ledgerCommit_canon hs1
  exact State.journalAdd_canon hs2

theorem pfwHoldTimeout_canon {s : State} (h : s.Canon) : (pfwHoldTimeout s).Canon := by
  unfold pfwHoldTimeout
  exact ite_canon (State.raise1_canon h) h

theorem pfwDeassert_canon {s : State} (h : s.Canon) : (pfwDeassert s).Canon := by
  unfold pfwDeassert
  exact State.clearFault_canon (canon_of_fields h)

theorem State.powerStop_canon {s : State} (h : s.Canon) : (s.powerStop).Canon := by
  unfold State.powerStop
  extract_lets s1 s2
  have hs1 : s1.Canon := foldl_canon h (fun _ ht _ => State.moveRod_canon (State.setRod_canon ht))
  have hs2 : s2.Canon := State.recTruncate_canon (State.abortSolve_canon hs1)
  exact canon_of_fields hs2

theorem vmainDetect_canon {dur now : Nat} {ok : Bool} {s : State} (h : s.Canon) : (vmainDetect dur now ok s).Canon := by
  unfold vmainDetect
  refine ite_canon h ?_
  extract_lets s0 _ s1 s2 s3 s4
  have hs0 : s0.Canon := State.advance_canon h
  have hs1 : s1.Canon := State.dropCustody_canon (canon_of_fields hs0)
  have hs2 : s2.Canon := State.ledgerCommit_canon (State.powerStop_canon hs1)
  have hs3 : s3.Canon := State.drainQueue_canon hs2
  have hs4 : s4.Canon := State.journalAdd_canon hs3
  exact State.drainQueue_canon hs4

theorem holdupEnd_canon {s : State} (h : s.Canon) : (holdupEnd s).Canon := by
  unfold holdupEnd
  refine ite_canon h ?_
  extract_lets _ s1
  have hs1 : s1.Canon := canon_of_fields h
  exact ite_canon (State.goVigil_canon hs1) (State.goOff_canon hs1)

theorem vvgInRange_canon {s : State} (h : s.Canon) : (vvgInRange s).Canon := by
  unfold vvgInRange
  extract_lets _ s1
  have hs1 : s1.Canon := canon_of_fields h
  exact ite_canon (State.goVigil_canon hs1) hs1

theorem vvgLow_canon {lost : Nat} {s : State} (h : s.Canon) : (vvgLow lost s).Canon := by
  unfold vvgLow
  extract_lets _ s1 src
  have hs1 : s1.Canon := canon_of_fields h
  have hsrc : src.Canon := State.goOff_canon hs1
  exact ite_canon (canon_of_fields hsrc) hs1

theorem vmainValid_canon {s : State} (h : s.Canon) : (vmainValid s).Canon := by
  unfold vmainValid
  refine ite_canon h ?_
  extract_lets s1
  have hs1 : s1.Canon := foldl_canon h (fun _ ht _ => State.journalAdd_canon ht)
  exact State.moduleReset_canon (canon_of_fields hs1)

theorem State.cleEdgesOf_canon {s : State} {l : List Nat} (h : s.Canon) : (s.cleEdgesOf l).Canon := by
  unfold State.cleEdgesOf
  split
  · exact foldl_canon h (fun _ ht _ => State.setRod_canon ht)
  · exact h

theorem State.cleEdges_canon {s : State} (h : s.Canon) : (s.cleEdges).Canon := by
  unfold State.cleEdges
  exact State.cleEdgesOf_canon h

theorem State.deliverImage_canon {s : State} {img : TickImage} {crcFail : Nat} (h : s.Canon) : (s.deliverImage img crcFail).Canon := by
  unfold State.deliverImage
  extract_lets _ _ _ _ s1 _ s1'1 _ s2
  have hs1 : s1.Canon := canon_of_fields h
  have hs1'1 : s1'1.Canon := ite_canon (State.cleEdgesOf_canon hs1) hs1
  have hs2 : s2.Canon := by
    unfold s2
    exact foldl_canon hs1'1 (fun _ ht _ => ite_canon (State.event_canon (State.count_canon (State.setRod_canon ht))) (State.setRod_canon ht))
  exact ite_canon (State.cleEdges_canon hs1) (canon_of_fields hs2)

theorem State.releaseImage_canon {s : State} {n : Nat} {mismatch : Bool} {crcFail : Nat}
    (h : s.Canon) : (s.releaseImage n mismatch crcFail).Canon := by
  unfold State.releaseImage
  refine ite_canon (State.cleNoImage_canon h) ?_
  split
  · rename_i s1 _ e
    have hs1 : s1.Canon := canon_fst e (State.release_canon h)
    refine ite_canon ?_ (State.deliverImage_canon hs1)
    extract_lets _ s2
    have hs2 : s2.Canon := State.raise1_canon (State.event_canon (State.count_canon (canon_of_fields hs1)))
    exact State.cleNoImage_canon hs2

theorem State.mirrorResult_canon {s : State} {n : Nat} (h : s.Canon) : (s.mirrorResult n).Canon := by
  unfold State.mirrorResult
  exact ite_canon h (canon_of_fields h)

theorem State.renumber_canon {s : State} (h : s.Canon) : (s.renumber).Canon := by
  unfold State.renumber
  exact canon_of_fields h

theorem State.enableAt_canon {s : State} {n : Nat} (h : s.Canon) : (s.enableAt n).1.Canon := by
  unfold State.enableAt
  split
  · exact h
  · extract_lets
    split
    · rename_i s1 _ e
      have hs1 : s1.Canon := canon_fst e (State.applyEnable_canon h)
      extract_lets s2
      have hs2 : s2.Canon := ite_canon (State.renumber_canon hs1) hs1
      exact ite_canon hs2 (State.emptyHistories_canon (State.loopsOff_canon (State.nrgEmpty_canon (State.recStop_canon hs2))))

theorem State.boundaryCustody_canon {s : State} {n : Nat} (h : s.Canon) : (s.boundaryCustody n).Canon := by
  unfold State.boundaryCustody
  extract_lets _ s1
  have hs1 : s1.Canon := State.tokenBoundary_canon (State.custodyBoundary_canon h)
  exact ite_canon (State.loopsReclose_canon hs1) hs1

theorem State.boundaryDecision_canon {s : State} {n doBad : Nat} (h : s.Canon) : (s.boundaryDecision n doBad).Canon := by
  unfold State.boundaryDecision
  extract_lets s1 s2
  have hs1 : s1.Canon := State.hoBoundary_canon (State.sendDigest_canon (State.doReadback_canon (State.publish_canon h)))
  have hs2 : s2.Canon := State.injBoundary_canon (State.releaseBoundary_canon (State.donorBoundary_canon hs1))
  split
  · rename_i s3 _ e
    have hs3 : s3.Canon := canon_fst e (State.fijDue_canon hs2)
    exact State.fijGive_canon hs3

theorem State.boundaryApply_canon {s : State} {n : Nat} (h : s.Canon) : (s.boundaryApply n).1.Canon := by
  unfold State.boundaryApply
  extract_lets s1
  have hs1 : s1.Canon := State.slotBoundary_canon (State.applyGcbs_canon (State.applyGsubs_canon (State.applyCommits_canon h)))
  split
  · rename_i s2 _ e
    have hs2 : s2.Canon := canon_fst e (State.joinBoundary_canon (State.cleBoundary_canon hs1))
    extract_lets s3
    have hs3 : s3.Canon := State.chanBoundary_canon (State.sliceBoundary_canon (State.rodBoundary_canon hs2))
    exact State.enableAt_canon (State.tallyBoundary_canon hs3)

theorem tickBoundary_canon {doBad : Nat} {mismatch : Bool} {crcFail : Nat} {s : State}
    (h : s.Canon) : (tickBoundary doBad mismatch crcFail s).Canon := by
  unfold tickBoundary
  refine ite_canon h ?_
  extract_lets _ s0 s1
  have hs0 : s0.Canon := State.streamNow_canon (State.advance_canon (ite_canon h (vote_canon h)))
  have hs1 : s1.Canon := State.boundaryDecision_canon (State.boundaryCustody_canon hs0)
  split
  · rename_i s2 _ e
    have hs2 : s2.Canon := canon_fst e (State.boundaryApply_canon hs1)
    refine ite_canon (State.refreshReady_canon (State.cleEdges_canon (State.mirrorResult_canon hs2))) ?_
    extract_lets s3
    have hs3 : s3.Canon := State.mirrorResult_canon (State.releaseImage_canon hs2)
    exact State.refreshReady_canon (canon_of_fields hs3)

theorem State.restartTicks_canon {s : State} (h : s.Canon) : (s.restartTicks).Canon := by
  unfold State.restartTicks
  extract_lets _ _ _ _ s1
  have hs1 : s1.Canon := ite_canon (State.discardOpen_canon h) h
  exact State.showOpen_canon (State.renumber_canon (canon_of_fields hs1))

theorem State.expireQueued_canon {s : State} (h : s.Canon) : (s.expireQueued).Canon := by
  unfold State.expireQueued
  extract_lets
  exact foldl_canon h (fun _ ht _ => (by
    split
    · exact ite_canon (frameExpiry_canon ht) ht
    · exact ht))

theorem State.stepTime_canon {s : State} {v : Int} (h : s.Canon) : (s.stepTime v).Canon := by
  unfold State.stepTime
  extract_lets
  exact State.event_canon (State.put_canon (canon_of_fields h))

theorem State.stepFollows_canon {s : State} {v : Int} (h : s.Canon) : (s.stepFollows v).Canon := by
  unfold State.stepFollows
  extract_lets s2 s3
  have hs2 : s2.Canon := ite_canon (State.emptyHistories_canon h) h
  have hs3 : s3.Canon := ite_canon hs2 (State.nrgEmpty_canon (State.restartTicks_canon hs2))
  exact ite_canon (State.expireQueued_canon hs3) hs3

theorem State.stepArmed_canon {s : State} (h : s.Canon) : (s.stepArmed).Canon := by
  unfold State.stepArmed
  split
  · exact h
  · exact ite_canon h (State.stepFollows_canon (State.stepTime_canon h))

theorem stepApply_canon {now : Nat} {s : State} (h : s.Canon) : (stepApply now s).Canon := by
  unfold stepApply
  exact State.stepArmed_canon (State.advance_canon h)

theorem State.rateWritten_canon {s old : State} (h : s.Canon) : (s.rateWritten old).Canon := by
  unfold State.rateWritten
  refine ite_canon h ?_
  exact State.loopsOff_canon (State.nrgEmpty_canon (State.recStop_canon (State.emptyHistories_canon (State.rateFollows_canon h))))

theorem State.afterWrite_canon {s old : State} {blk off : Nat} (h : s.Canon) : (s.afterWrite old blk off).Canon := by
  unfold State.afterWrite
  refine ite_canon (ite_canon (State.toTcxo_canon (canon_of_fields h)) (ite_canon (State.holdMaxWritten_canon h) h)) ?_
  refine ite_canon ?_ ?_
  · refine ite_canon (ite_canon h (foldl_canon h (fun _ ht _ => State.portStop_canon ht))) ?_
    exact ite_canon (State.portStop_canon h) h
  · refine ite_canon (ite_canon (foldl_canon h (fun _ ht _ => State.stopQueues_canon ht)) h) ?_
    refine ite_canon (State.rateWritten_canon h) ?_
    refine ite_canon (ite_canon (canon_of_fields h) h) ?_
    refine ite_canon (ite_canon (State.modEnabled_canon h) h) ?_
    refine ite_canon (ite_canon (State.put_canon (State.put_canon (canon_of_fields h))) h) ?_
    refine ite_canon (ite_canon (State.recStop_canon h) (ite_canon (State.emptyRing_canon h) h)) ?_
    refine ite_canon (ite_canon (State.clearFault_canon h) h) ?_
    refine ite_canon (ite_canon (State.loopsOff_canon h) h) ?_
    refine ite_canon (ite_canon (State.rckDisable_canon h) (ite_canon (State.showEst_canon h) h)) ?_
    exact ite_canon (ite_canon (State.put_canon h) h) (ite_canon (ite_canon (State.clearFault_canon h) h) h)

theorem rtcRegWrite_canon {off : Nat} {w : Word} {fields : List FieldSpec} {s : State} (h : s.Canon) : (rtcRegWrite off w fields s).Canon := by
  unfold rtcRegWrite
  extract_lets
  refine ite_canon (State.rtcWrite_canon h) ?_
  refine ite_canon (canon_of_fields h) ?_
  refine ite_canon (canon_of_fields h) ?_
  refine ite_canon (ite_canon (calSet_canon h) h) ?_
  refine ite_canon (ite_canon (dstAdd_canon h) (ite_canon (dstSubtract_canon h) (State.reject_canon h))) ?_
  exact ite_canon (calShift_canon h) (State.rtcWrite_canon h)

theorem recCmdWrite_canon {w : Word} {s : State} (h : s.Canon) : (recCmdWrite w s).Canon := by
  unfold recCmdWrite
  extract_lets s1 s2
  have hs1 : s1.Canon := ite_canon (recFire_canon h) h
  have hs2 : s2.Canon := ite_canon (recArmCmd_canon hs1) hs1
  exact ite_canon (recDisarm_canon hs2) hs2

theorem keepCmdWrite_canon {w : Word} {s : State} (h : s.Canon) : (keepCmdWrite w s).Canon := by
  unfold keepCmdWrite
  split
  · exact State.reject_canon h
  · exact deleteRecord_canon h
  · exact State.setRec_canon h
  · exact h

theorem loopStateWrite_canon {n : Nat} {w : Word} {s : State} (h : s.Canon) : (loopStateWrite n w s).Canon := by
  unfold loopStateWrite
  extract_lets _ s1
  have hs1 : s1.Canon := ite_canon h (State.loopOp_canon h)
  exact ite_canon (State.reject_canon h) (ite_canon hs1 (State.wr_canon hs1))

theorem rowWrite_canon {blk off : Nat} {w : Word} {fields : List FieldSpec} {s : State}
    (h : s.Canon) : ∀ t, rowWrite blk off w fields s = some t → t.Canon := by
  unfold rowWrite
  extract_lets
  refine ite_some_canon (some_canon (resetCtrlWrite_canon h)) ?_
  refine ite_some_canon (some_canon (ite_canon (ringEnable_canon h) (ringDisable_canon h))) ?_
  refine ite_some_canon (some_canon (sliceValidWrite_canon h)) ?_
  refine ite_some_canon (some_canon (incrHiWrite_canon h)) ?_
  refine ite_some_canon (some_canon (stepHiWrite_canon h)) ?_
  refine ite_some_canon (some_canon (gclChangeWrite_canon h)) ?_
  refine ite_some_canon (some_canon (rtcRegWrite_canon h)) ?_
  refine ite_some_canon (some_canon (ite_canon (fdbInstall_canon h) (ite_canon (fdbRead_canon h) (State.reject_canon h)))) ?_
  refine ite_some_canon (some_canon (ite_canon (sviEnable_canon h) (sviDisable_canon h))) ?_
  refine ite_some_canon (some_canon (ite_canon (gsubInstall_canon h) (ite_canon (gsubRead_canon h) (State.reject_canon h)))) ?_
  refine ite_some_canon (some_canon (rodEnableChange_canon h)) ?_
  refine ite_some_canon (some_canon (ite_canon (rodRearm_canon h) h)) ?_
  refine ite_some_canon (some_canon (ite_canon (gcbInstall_canon h) (ite_canon (gcbRead_canon h) (State.reject_canon h)))) ?_
  refine ite_some_canon (some_canon (ite_canon (adcCmdStop_canon h) h)) ?_
  refine ite_some_canon (some_canon (recCmdWrite_canon h)) ?_
  refine ite_some_canon (some_canon (ite_canon (chInstall_canon h) (ite_canon (chRead_canon h) (State.reject_canon h)))) ?_
  refine ite_some_canon (some_canon (ite_canon (mptInstall_canon h) (ite_canon (mptRead_canon h) (State.reject_canon h)))) ?_
  refine ite_some_canon (some_canon (keepCmdWrite_canon h)) ?_
  refine ite_some_canon (some_canon (accSnapshot_canon h)) ?_
  refine ite_some_canon (some_canon (heatReportWrite_canon h)) ?_
  refine ite_some_canon (some_canon (loopStateWrite_canon h)) ?_
  refine ite_some_canon (some_canon (ite_canon (tamperClear_canon h) h)) ?_
  exact ite_some_canon (some_canon (evtSrcWrite_canon h)) none_canon

theorem State.applyWrite_canon {s : State} {blk off : Nat} {w : Word} {r : RegSpec} {k : Nat} (h : s.Canon) : (s.applyWrite blk off w r k).Canon := by
  unfold State.applyWrite
  extract_lets _ _ _ s1 s2
  have hs1 : s1.Canon := State.wr_canon h
  have hs2 : s2.Canon := ite_canon (State.afterSet_canon (State.wr_canon hs1)) hs1
  exact State.afterWrite_canon hs2

theorem State.fieldWrite_canon {s : State} {blk off : Nat} {w : Word} {r : RegSpec} {k : Nat} (h : s.Canon) : (s.fieldWrite blk off w r k).Canon := by
  unfold State.fieldWrite
  extract_lets
  refine ite_canon (ite_canon h (State.badAccess_canon h)) ?_
  refine ite_canon (State.badAccess_canon h) ?_
  refine ite_canon (State.reject_canon h) ?_
  split
  · rename_i t e
    have ht : t.Canon := rowWrite_canon h _ e
    exact ht
  · split
    · exact State.reject_canon (State.eventIf_canon h)
    · exact State.applyWrite_canon h

theorem State.blockWrite_canon {s : State} {a : Nat} {w : Word} (h : s.Canon) : (s.blockWrite a w).Canon := by
  unfold State.blockWrite
  extract_lets
  refine ite_canon (State.badAccess_canon h) ?_
  refine ite_canon (State.badAccess_canon h) ?_
  refine ite_canon ?_ ?_
  · refine ite_canon (blockCommitWrite_canon h) ?_
    exact ite_canon (blockDiscardWrite_canon h) (State.commitWrite_canon h (fun _ ht => ht))
  · refine ite_canon (ite_canon (State.reject_canon h) (ite_canon (State.wr_canon h) h)) ?_
    split
    · exact State.fieldWrite_canon h
    · exact State.badAccess_canon h

theorem State.pageWrite_canon {s : State} {a : Nat} {w : Word} (h : s.Canon) : (s.pageWrite a w).Canon := by
  unfold State.pageWrite
  extract_lets
  refine ite_canon (State.pciWrite_canon h) ?_
  refine ite_canon (ite_canon h (ite_canon (State.wr_canon h) (ite_canon (State.wr_canon h) (msixVectorUnmask_canon h)))) ?_
  refine ite_canon h ?_
  refine ite_canon (doorbell_canon h) ?_
  refine ite_canon (evclr_canon h) ?_
  refine ite_canon (ite_canon (State.stray_canon h) (State.wr_canon h)) ?_
  refine ite_canon (mbCtrlWrite_canon h) ?_
  exact ite_canon (mbOutDb_canon h) (ite_canon (mbInDb_canon h) (ite_canon (State.put_canon h) h))

theorem registerWrite_canon {addr : Nat} {data : Word} {bytes : Nat} {s : State} (h : s.Canon) : (registerWrite addr data bytes s).Canon := by
  unfold registerWrite
  refine ite_canon h ?_
  refine ite_canon (ite_canon (State.badAccess_canon h) h) ?_
  exact ite_canon (State.blockWrite_canon h) (State.pageWrite_canon h)

theorem State.calRead_canon {s : State} {off counts : Nat} (h : s.Canon) : (s.calRead off counts).1.Canon := by
  unfold State.calRead
  extract_lets s1
  have hs1 : s1.Canon := State.passCounts_canon h
  split
  · exact canon_of_fields hs1
  · split
    · exact canon_of_fields hs1
    · exact canon_of_fields hs1

theorem State.fieldRead_canon {s : State} {a o : Nat} {r : RegSpec} {k : Nat} (h : s.Canon) : (s.fieldRead a o r k).1.Canon := by
  unfold State.fieldRead
  extract_lets _ s1
  have hs1 : s1.Canon := ite_canon (canon_of_fields h) h
  split
  · exact canon_of_fields h
  · exact ite_canon (State.clearRc_canon hs1) hs1

theorem State.wordRead_canon {s : State} {a counts : Nat} (h : s.Canon) : (s.wordRead a counts).1.Canon := by
  unfold State.wordRead
  extract_lets
  split
  · exact h
  · split
    · exact State.badAccess_canon h
    · split
      · exact h
      · split
        · exact State.timeLatch_canon h
        · split
          · exact State.popEdge_canon h
          · split
            · exact State.drawNonce_canon h
            · split
              · exact State.calRead_canon h
              · split
                · split
                  · exact State.fieldRead_canon h
                  · exact State.badAccess_canon h
                · exact State.badAccess_canon h

theorem registerRead_canon {addr width counts : Nat} {s : State} (h : s.Canon) : (registerRead addr width counts s).Canon := by
  unfold registerRead
  extract_lets p
  have hp : p.1.Canon := State.wordRead_canon h
  exact ite_canon (State.emit_canon hp) h

theorem State.withFetchWord_canon {s : State} {nbits w : Nat} (h : s.Canon) : (s.withFetchWord nbits w).Canon := by
  unfold State.withFetchWord
  split
  · exact canon_of_fields h
  · exact h

/-! ### Every command, and the step -/

theorem next_canon {s t : State} (h : s.Canon) (e : (Host.Outcome.next s : Host.Outcome State Fault Refusal) = .next t) : t.Canon := by
  cases e
  exact h

/-- KEEP_RECORD and RELEASE_RECORD write one record of the index. -/
theorem keepRecord_canon {s : State} {k : Bool} (h : s.Canon) :
    (if s.st = stBoot then s.reject 16 0xDC 3
      else match s.keepRec with | some r => s.setRec { r with keep := k } | none => s).Canon := by
  refine ite_canon (State.reject_canon h) ?_
  cases s.keepRec with
  | none => exact h
  | some r => exact State.setRec_canon h

/-- What a command answers from a canonical state is canonical. -/
theorem exec_canon {s : State} (h : s.Canon) (c : Instr) : ∀ t, exec c s = .next t → t.Canon := by
  intro t
  cases c with
  | vmainValid => exact next_canon (vmainValid_canon h)
  | vvgInRange => exact next_canon (vvgInRange_canon h)
  | vvgLow _ => exact next_canon (vvgLow_canon h)
  | pfwAssert _ _ _ => exact next_canon (pfwAssert_canon h)
  | pfwHoldTimeout => exact next_canon (pfwHoldTimeout_canon h)
  | pfwDeassert => exact next_canon (pfwDeassert_canon h)
  | vmainDetect _ _ _ => exact next_canon (vmainDetect_canon h)
  | holdupEnd => exact next_canon (holdupEnd_canon h)
  | rstNReset => exact next_canon (rstNReset_canon h)
  | rstNGlitch => exact next_canon (rstNGlitch_canon h)
  | resetExit _ _ => exact next_canon (resetExit_canon h)
  | bootStepComplete _ => exact next_canon (bootStepComplete_canon h)
  | bootTamper _ => exact next_canon (bootTamper_canon h)
  | watchdogExpiry => exact next_canon (watchdogExpiry_canon h)
  | lockstepError => exact next_canon (lockstepError_canon h)
  | heartbeatExpiry => exact next_canon (heartbeatExpiry_canon h)
  | heartbeatLatchFound => exact next_canon (heartbeatLatchFound_canon h)
  | perst => exact next_canon (State.hostReset_canon h)
  | flrD3hot => exact next_canon (State.hostReset_canon h)
  | busMasterDisable => exact next_canon (busMasterDisable_canon h)
  | pasidDisable => exact next_canon (pasidDisable_canon h)
  | pcieLinkDown => exact next_canon (pcieLinkDown_canon h)
  | custPeerRise _ => exact next_canon (custPeerRise_canon h)
  | custodyCollision => exact next_canon (custodyCollision_canon h)
  | custodySample => exact next_canon (custodySample_canon h)
  | peerLineDisagree => exact next_canon (peerLineDisagree_canon h)
  | tickBoundary _ _ _ => exact next_canon (tickBoundary_canon h)
  | vote _ => exact next_canon (vote_canon h)
  | rodResultsDelivered _ _ _ _ => exact next_canon (rodResultsDelivered_canon h)
  | sramUncorrectable _ _ => exact next_canon (sramUncorrectable_canon h)
  | rodSelftestDone _ _ => exact next_canon (rodSelftestDone_canon h)
  | rodCopyRoundEnd _ _ _ => exact next_canon (rodCopyRoundEnd_canon h)
  | rodCopyFinalRound _ _ _ => exact next_canon (rodCopyFinalRound_canon h)
  | beamSelftest _ => exact next_canon (beamSelftest_canon h)
  | diagSelftest _ _ => exact next_canon (diagSelftest_canon h)
  | gateChannelDisagree _ => exact next_canon (State.raise1_canon (State.setGate_canon h))
  | timeCounterMismatch => exact next_canon (State.raise1_canon h)
  | macFrameRx _ _ _ _ _ => exact next_canon (macFrameRx_canon h)
  | pauseRx _ _ _ => exact next_canon (ite_canon (State.pauseFrame_canon (State.advance_canon h)) h)
  | pfcRx _ _ _ _ => exact next_canon (ite_canon (State.pfcFrame_canon (State.advance_canon h)) h)
  | pauseRefresh _ => exact next_canon (pauseRefresh_canon h)
  | supervisionRx _ _ _ => exact next_canon (ite_canon (State.supervised_canon (State.advance_canon h)) h)
  | supervisionTx _ => exact next_canon (supervisionTx_canon h)
  | dupEntryForget _ _ => exact next_canon (dupEntryForget_canon h)
  | nodeEntryAge _ _ => exact next_canon (nodeEntryAge_canon h)
  | modAbsLow _ _ => exact next_canon (modAbsLow_canon h)
  | modAbsHigh _ => exact next_canon (modAbsHigh_canon h)
  | txFaultAssert _ => exact next_canon (txFaultAssert_canon h)
  | txFaultClear _ => exact next_canon (txFaultClear_canon h)
  | txDisablePulse _ => exact next_canon (txDisablePulse_canon h)
  | cageOvercurrent _ => exact next_canon (cageOvercurrent_canon h)
  | cageRetry _ => exact next_canon (cageRetry_canon h)
  | ddmRead _ _ _ _ _ => exact next_canon (ddmRead_canon h)
  | linkUp _ _ _ => exact next_canon (linkUp_canon h)
  | linkDown _ _ => exact next_canon (linkDown_canon h)
  | linkHoldEnd _ => exact next_canon (linkHoldEnd_canon h)
  | portNotUpTimer _ => exact next_canon (portNotUpTimer_canon h)
  | plcaStatusLost _ => exact next_canon (plcaStatusLost_canon h)
  | t1sCollision _ _ _ => exact next_canon (t1sCollision_canon h)
  | mkpduRx _ => exact next_canon (mkpduRx_canon h)
  | mkaPeerLost _ => exact next_canon (mkaPeerLost_canon h)
  | pnExhausted _ => exact next_canon (pnExhausted_canon h)
  | egressAdmit _ _ _ => exact next_canon (egressAdmit_canon h)
  | reseqTimeout _ _ _ _ => exact next_canon (reseqTimeout_canon h)
  | planeError _ _ => exact next_canon (planeError_canon h)
  | frameExpiry _ _ => exact next_canon (frameExpiry_canon h)
  | frameTransmit _ _ _ => exact next_canon (frameTransmit_canon h)
  | frameTxDone _ _ => exact next_canon (frameTxDone_canon h)
  | pfcRequestChange _ => exact next_canon (pfcRequestChange_canon h)
  | beadAudit _ _ => exact next_canon (beadAudit_canon h)
  | gclSwitch _ => exact next_canon (gclSwitch_canon h)
  | svIntake _ => exact next_canon (svIntake_canon h)
  | gooseIntake _ => exact next_canon (gooseIntake_canon h)
  | ownSvBuild _ => exact next_canon (ownSvBuild_canon h)
  | gooseRetransmit _ => exact next_canon (gooseRetransmit_canon h)
  | publishRelease _ => exact next_canon (publishRelease_canon h)
  | helloTx => exact next_canon (helloTx_canon h)
  | helloRx _ _ _ => exact next_canon (helloRx_canon h)
  | handshakeLoss => exact next_canon (State.handshakeLost_canon h)
  | digestRx _ _ _ _ => exact next_canon (digestRx_canon h)
  | digestSettleTimeout _ => exact next_canon (digestSettleTimeout_canon h)
  | resyncReqRx _ _ => exact next_canon (resyncReqRx_canon h)
  | resyncReqRepeat => exact next_canon (resyncReqRepeat_canon h)
  | resyncNakRx _ _ _ => exact next_canon (resyncNakRx_canon h)
  | resyncCopyRx _ _ _ _ _ => exact next_canon (resyncCopyRx_canon h)
  | resyncEndRx _ _ _ _ _ => exact next_canon (resyncEndRx_canon h)
  | resyncRetry => exact next_canon (resyncRetry_canon h)
  | resyncFailLimit _ => exact next_canon (resyncFailLimit_canon h)
  | takeoverReqTx => exact next_canon (takeoverReqTx_canon h)
  | takeoverReqRx _ _ => exact next_canon (takeoverReqRx_canon h)
  | pairFaultRx _ _ _ => exact next_canon (pairFaultRx_canon h)
  | releaseNoteRx _ _ => exact next_canon (releaseNoteRx_canon h)
  | tokenMsgRx _ _ _ _ => exact next_canon (tokenMsgRx_canon h)
  | tokenResend => exact next_canon (tokenResend_canon h)
  | soloWaitExpiry => exact next_canon (soloWaitExpiry_canon h)
  | orphanTimeout => exact next_canon (orphanTimeout_canon h)
  | safeHoldExpiry => exact next_canon (safeHoldExpiry_canon h)
  | serviceLimitReached => exact next_canon (serviceLimitReached_canon h)
  | faultF3Raise _ _ _ _ => exact next_canon (faultF3Raise_canon h)
  | hoCopyRx _ _ => exact next_canon (hoCopyRx_canon h)
  | hoDigestRx _ => exact next_canon (hoDigestRx_canon h)
  | hoDigestMissing => exact next_canon (hoDigestMissing_canon h)
  | hoCopyDeadline => exact next_canon (hoCopyDeadline_canon h)
  | hoCompareTimeout => exact next_canon (hoCompareTimeout_canon h)
  | hoReadyRx _ => exact next_canon (hoReadyRx_canon h)
  | hoGrantRx _ => exact next_canon (hoGrantRx_canon h)
  | hoAcceptRx _ => exact next_canon (hoAcceptRx_canon h)
  | hoReleaseTx => exact next_canon (hoReleaseTx_canon h)
  | hoReleaseRx _ _ => exact next_canon (hoReleaseRx_canon h)
  | hoTakenRx _ => exact next_canon (hoTakenRx_canon h)
  | hoNotTakenRx _ => exact next_canon (hoNotTakenRx_canon h)
  | hoCancelRx _ => exact next_canon (hoCancelRx_canon h)
  | hoDoubt => exact next_canon (hoDoubt_canon h)
  | hoQueryRx _ _ => exact next_canon (hoQueryRx_canon h)
  | statusRead _ _ => exact next_canon (statusRead_canon h)
  | journalRead _ _ _ _ => exact next_canon (journalRead_canon h)
  | counterRead _ _ _ _ => exact next_canon (counterRead_canon h)
  | cfgStage _ _ => exact next_canon (cfgStage_canon h)
  | cfgActivate _ _ => exact next_canon (cfgActivate_canon h)
  | cfgCancel _ _ => exact next_canon (cfgCancel_canon h)
  | fwStage _ _ => exact next_canon (fwStage_canon h)
  | moduleReset _ => exact next_canon (moduleResetCmd_canon h)
  | custodyRelease _ _ => exact next_canon (custodyRelease_canon h)
  | serviceEnter _ _ _ _ => exact next_canon (serviceEnter_canon h)
  | serviceLeave _ => exact next_canon (serviceLeave_canon h)
  | forceSet _ _ _ => exact next_canon (forceSet_canon h)
  | forceClear _ _ => exact next_canon (forceClear_canon h)
  | injectStart _ _ _ => exact next_canon (injectStart_canon h)
  | injectStop _ _ => exact next_canon (injectStop_canon h)
  | injectEnd _ _ => exact next_canon (injectEnd_canon h)
  | slotLoad _ _ _ _ _ => exact next_canon (slotLoad_canon h)
  | slotAdmit _ _ => exact next_canon (slotAdmit_canon h)
  | slotUnload _ _ => exact next_canon (slotUnload_canon h)
  | slotShadow _ _ => exact next_canon (slotShadow_canon h)
  | slotRun _ _ => exact next_canon (slotRun_canon h)
  | slotStop _ _ => exact next_canon (slotStop_canon h)
  | slotGroup _ _ _ _ _ => exact next_canon (slotGroup_canon h)
  | cleLoad _ _ _ _ => exact next_canon (cleLoad_canon h)
  | cleStart _ _ => exact next_canon (cleStart_canon h)
  | cleStop _ => exact next_canon (cleStopCmd_canon h)
  | cleWrite _ _ _ _ => exact next_canon (cleWrite_canon h)
  | sliceFreeze _ _ _ _ => exact next_canon (sliceFreeze_canon h)
  | freezeComplete => exact next_canon (freezeComplete_canon h)
  | sliceRestore _ _ _ _ => exact next_canon (sliceRestore_canon h)
  | handoverBegin _ _ _ _ _ _ => exact next_canon (handoverBegin_canon h)
  | handoverAbort _ _ => exact next_canon (handoverAbort_canon h)
  | keyStage _ _ => exact next_canon (keyStage_canon h)
  | keyVerify _ _ _ _ _ => exact next_canon (keyVerify_canon h)
  | keyPeerProof _ _ _ => exact next_canon (keyPeerProof_canon h)
  | keyCommit _ _ _ => exact next_canon (keyCommit_canon h)
  | keyStageExpiry _ _ => exact next_canon (keyStageExpiry_canon h)
  | lifecycleAdvance _ _ _ => exact next_canon (lifecycleAdvance_canon h)
  | rckModelLoad _ _ _ _ => exact next_canon (rckModelLoad_canon h)
  | rckSolveNow _ _ _ => exact next_canon (rckSolveNow_canon h)
  | rckRulesLoad _ _ _ => exact next_canon (rckRulesLoad_canon h)
  | recFetch _ _ _ _ _ _ => exact next_canon (recFetch_canon h)
  | mailboxRelay _ _ => exact next_canon (mailboxRelay_canon h)
  | mbCtrlWrite _ _ => exact next_canon (mbCtrlWrite_canon h)
  | mbOutDb _ _ => exact next_canon (mbOutDb_canon h)
  | mbInDb _ _ => exact next_canon (mbInDb_canon h)
  | mbEvclr _ _ => exact next_canon (ite_canon (State.put_canon h) h)
  | mailboxDmaError _ => exact next_canon (ite_canon (State.mbStop_canon h) h)
  | doorbell _ _ _ => exact next_canon (doorbell_canon h)
  | evclr _ _ _ => exact next_canon (evclr_canon h)
  | ringEnable _ _ => exact next_canon (ringEnable_canon h)
  | ringDisable _ _ => exact next_canon (ringDisable_canon h)
  | ringStopDone _ => exact next_canon (ringStopDone_canon h)
  | txFetch _ _ _ _ _ => exact next_canon (txFetch_canon h)
  | rxPlace _ _ _ => exact next_canon (rxPlace_canon h)
  | cmdFetch _ _ _ => exact next_canon (cmdFetch_canon h)
  | evqWrite => exact next_canon (evqWrite_canon h)
  | ringDmaError _ _ _ => exact next_canon (ringDmaError_canon h)
  | coalTimerExpiry _ => exact next_canon (coalTimerExpiry_canon h)
  | evtSrcWrite _ _ => exact next_canon (evtSrcWrite_canon h)
  | msixSignal _ => exact next_canon (ite_canon (State.event_canon h) h)
  | blockCommitWrite _ _ => exact next_canon (blockCommitWrite_canon h)
  | blockDiscardWrite _ => exact next_canon (blockDiscardWrite_canon h)
  | resetCtrlWrite _ => exact next_canon (resetCtrlWrite_canon h)
  | sliceValidWrite _ _ => exact next_canon (sliceValidWrite_canon h)
  | sviEnable => exact next_canon (sviEnable_canon h)
  | sviDisable => exact next_canon (sviDisable_canon h)
  | rodEnableChange _ => exact next_canon (rodEnableChange_canon h)
  | portEnableChange _ _ => exact next_canon (portEnableChange_canon h)
  | incrHiWrite _ => exact next_canon (incrHiWrite_canon h)
  | stepHiWrite _ => exact next_canon (stepHiWrite_canon h)
  | stepApply _ => exact next_canon (stepApply_canon h)
  | gclChangeWrite _ _ => exact next_canon (gclChangeWrite_canon h)
  | gclDisable _ => exact next_canon (gclDisable_canon h)
  | diedgePop => exact next_canon (diedgePop_canon h)
  | timeLatchRead _ => exact next_canon (timeLatchRead_canon h)
  | ptpSyncRx _ => exact next_canon (ptpSyncRx_canon h)
  | ptpAnnounceRx _ => exact next_canon (ptpAnnounceRx_canon h)
  | ptpPdelay _ _ => exact next_canon (ptpPdelay_canon h)
  | ptpSourceLoss => exact next_canon (ptpSourceLoss_canon h)
  | holdoverMaxExpiry => exact next_canon (holdoverMaxExpiry_canon h)
  | refMeasure _ => exact next_canon (refMeasure_canon h)
  | refLoss _ => exact next_canon (refLoss_canon h)
  | ppsOutPulse => exact next_canon (ppsOutPulse_canon h)
  | ppsInEdge _ => exact next_canon (ppsInEdge_canon h)
  | diEdge _ _ _ => exact next_canon (diEdge_canon h)
  | rtcWriteCross _ => exact next_canon (rtcWriteCross_canon h)
  | rtcQueueFull => exact next_canon (rtcQueueFull_canon h)
  | calSet _ => exact next_canon (calSet_canon h)
  | dstAdd => exact next_canon (dstAdd_canon h)
  | dstSubtract => exact next_canon (dstSubtract_canon h)
  | calShift _ _ => exact next_canon (calShift_canon h)
  | osfClear => exact next_canon (osfClear_canon h)
  | calSecondEdge _ => exact next_canon (calSecondEdge_canon h)
  | oscStop => exact next_canon (State.setOsf_canon h)
  | wakeFire => exact next_canon (wakeFire_canon h)
  | pwronReqAssert => exact next_canon (pwronReqAssert_canon h)
  | pwronTimeout => exact next_canon (pwronTimeout_canon h)
  | tamperActive _ _ => exact next_canon (tamperActive_canon h)
  | tamperInactive _ => exact next_canon (tamperInactive_canon h)
  | tamperClear => exact next_canon (tamperClear_canon h)
  | nonceRead _ => exact next_canon (nonceRead_canon h)
  | rodRearm _ => exact next_canon (rodRearm_canon h)
  | fdbInstall _ => exact next_canon (fdbInstall_canon h)
  | fdbRead _ => exact next_canon (fdbRead_canon h)
  | gsubInstall _ => exact next_canon (gsubInstall_canon h)
  | gsubRead _ => exact next_canon (gsubRead_canon h)
  | gcbInstall _ => exact next_canon (gcbInstall_canon h)
  | gcbRead _ => exact next_canon (gcbRead_canon h)
  | chInstall _ _ => exact next_canon (chInstall_canon h)
  | chRead _ _ => exact next_canon (chRead_canon h)
  | mptInstall _ => exact next_canon (mptInstall_canon h)
  | mptRead _ => exact next_canon (mptRead_canon h)
  | keepRecord => exact next_canon (keepRecord_canon h)
  | releaseRecord => exact next_canon (keepRecord_canon h)
  | deleteRecord => exact next_canon (deleteRecord_canon h)
  | recFire => exact next_canon (recFire_canon h)
  | recArm => exact next_canon (recArmCmd_canon h)
  | recDisarm => exact next_canon (recDisarm_canon h)
  | recorderRow _ => exact next_canon (recorderRow_canon h)
  | settlementEnd => exact next_canon (settlementEnd_canon h)
  | recordClose => exact next_canon (recordClose_canon h)
  | rearmTimeout => exact next_canon (rearmTimeout_canon h)
  | flashSegmentCommit _ _ _ => exact next_canon (flashSegmentCommit_canon h)
  | groupArmRx _ => exact next_canon (groupArmRx_canon h)
  | groupFireRx _ _ => exact next_canon (groupFireRx_canon h)
  | waveTsRx _ _ => exact next_canon (waveTsRx_canon h)
  | wavefrontDetect _ => exact next_canon (wavefrontDetect_canon h)
  | farArrivalTimeout => exact next_canon (farArrivalTimeout_canon h)
  | waveCaptureClose => exact next_canon (waveCaptureClose_canon h)
  | nrgWindowEnd _ => exact next_canon (nrgWindowEnd_canon h)
  | nrgTick _ _ => exact next_canon (nrgTick_canon h)
  | pulseStart _ _ => exact next_canon (pulseStart_canon h)
  | heatStep _ _ => exact next_canon (heatStep_canon h)
  | heatReportWrite _ _ => exact next_canon (heatReportWrite_canon h)
  | accSnapshot _ _ => exact next_canon (accSnapshot_canon h)
  | vigilSecond _ _ _ => exact next_canon (vigilSecond_canon h)
  | ledgerCommit _ _ _ => exact next_canon (ledgerTick_canon h)
  | tallyAudit _ => exact next_canon (tallyAudit_canon h)
  | perWriteDone _ _ => exact next_canon (State.popWrite_canon (State.advance_canon h))
  | loopExecute _ _ => exact next_canon (loopExecute_canon h)
  | loopOpClose _ => exact next_canon (State.loopOp_canon h)
  | loopOpOpen _ => exact next_canon (State.loopOp_canon h)
  | loopOpOff _ => exact next_canon (State.loopOp_canon h)
  | deviceReportRx _ _ _ _ _ _ _ => exact next_canon (deviceReportRx_canon h)
  | deviceReportStale _ _ _ => exact next_canon (deviceReportStale_canon h)
  | solveStart _ => exact next_canon (solveStartRow_canon h)
  | solveEnd _ => exact next_canon (solveEnd_canon h)
  | setpointRelease _ _ => exact next_canon (setpointRelease_canon h)
  | headroomRead _ _ => exact next_canon (headroomRead_canon h)
  | adcTrigger _ _ _ => exact next_canon (adcTrigger_canon h)
  | adcCmdTrig _ _ => exact next_canon (adcCmdTrig_canon h)
  | adcCmdStop => exact next_canon (adcCmdStop_canon h)
  | adcResult _ => exact next_canon (adcResult_canon h)
  | adcMonitorPair _ => exact next_canon (adcMonitorPair_canon h)
  | modTempEval => exact next_canon (modTempEval_canon h)
  | modChannelFault _ _ => exact next_canon (modChannelFault_canon h)
  | modVddLimit => exact next_canon (ite_canon h (State.raise1_canon h))
  | tempFault _ _ => exact next_canon (tempFault_canon h)
  | registerWrite _ _ _ => exact next_canon (registerWrite_canon h)
  | sampleInstant _ _ => exact next_canon (sampleInstant_canon h)
  | sramScrub _ _ => exact next_canon (sramScrub_canon h)
  | ptpSyncTx _ => exact next_canon (ptpSyncTx_canon h)
  | mkaHelloTx => exact next_canon (mkaHelloTx_canon h)
  | backupDomainPowerUp => exact next_canon (backupDomainPowerUp_canon h)
  | pcieLinkChange _ _ => exact next_canon (pcieLinkChange_canon h)
  | busMasterEnable _ => exact next_canon (busMasterEnable_canon h)
  | msixVectorUnmask _ => exact next_canon (msixVectorUnmask_canon h)
  | registerRead _ _ => exact next_canon (registerRead_canon h)
  | custPeerFall _ => exact next_canon (custPeerFall_canon h)
  | plcaStatusUp _ => exact next_canon (plcaStatusUp_canon h)
  | faultTimerExpiry _ _ _ _ _ => exact next_canon (faultTimerExpiry_canon h)
  | hardwareParityError _ _ _ => exact next_canon (hardwareParityError_canon h)
  | destroyRetry _ _ _ => exact next_canon (destroyRetry_canon h)
  | tamperLoopTest _ _ _ _ => exact next_canon (tamperLoopTest_canon h)

/-- Settles O4: the register store is canonical after the command at the front of the queue, and after a counter cycle. -/
theorem stepKeepsRegistersCanonical : Obligations.StepKeepsRegistersCanonical := by
  unfold Obligations.StepKeepsRegistersCanonical
  intro s t h
  have hs : s.Canon := h
  unfold step
  split
  · exact next_canon (State.counterCycle_canon hs)
  · exact exec_canon (canon_of_fields hs) _ t

end Sys2Proof.Machine

/-! Settled: the step, the completeness of the command table, the canonical store at reset. -/

namespace Sys2Proof.Machine

/-- Settles O1: the step is the front command on the rest of the queue, and a counter cycle on an empty queue. -/
theorem stepRunsTheFrontCommand : Obligations.StepRunsTheFrontCommand := by
  unfold Obligations.StepRunsTheFrontCommand
  refine ⟨fun c s => rfl, fun s h => ?_, fun s => rfl⟩
  simp [step, h]

/-- Settles O2: `exec` has an arm for every command, and each arm answers a next state. -/
theorem everyCommandCompletes : Obligations.EveryCommandCompletes := by
  unfold Obligations.EveryCommandCompletes
  intro c s
  cases c <;> exact ⟨_, rfl⟩

/-- Settles O5: no register is stored at reset. -/
theorem resetIsCanonical : Obligations.ResetIsCanonical := rfl

end Sys2Proof.Machine

/-! Custody given up, module resets and failed boots. -/

namespace Sys2Proof.Machine

/-- Settles O3: no register is stored, so each reads its reset word; the block identifiers are evaluated block by block. -/
theorem resetLeavesResetValues : Obligations.ResetLeavesResetValues := by
  unfold Obligations.ResetLeavesResetValues
  refine ⟨rfl, fun a => rfl, ⟨rfl, rfl⟩, ⟨rfl, rfl⟩, rfl, ?_⟩
  intro k hk
  show resetWord (k * 0x10000) = _
  unfold resetWord
  simp [show k * 65536 < 2097152 by omega, show ¬ 25 < k by omega]

/-! ### Majority vote (R408) -/

theorem majority_eq_some (x y z v : Nat) : majority x y z = some v ↔ (x = v ∧ y = v) ∨ (x = v ∧ z = v) ∨ (y = v ∧ z = v) := by
  unfold majority
  split
  · next h => simp only [Bool.or_eq_true, decide_eq_true_eq] at h; simp only [Option.some.injEq]; omega
  · next h =>
    simp only [Bool.or_eq_true, decide_eq_true_eq, not_or] at h
    split
    · simp only [Option.some.injEq]; omega
    · simp only [reduceCtorEq, false_iff]; omega

/-- The first index that meets a predicate, by its first index. -/
theorem find_range_succ (p : Nat → Bool) (n j : Nat) : ((List.range (n + 1)).find? p).map (j + ·) =
    if p 0 then some j else ((List.range n).find? fun i => p (i + 1)).map (j + 1 + ·) := by
  rw [List.range_succ_eq_map, List.find?_cons]
  cases p 0 with
  | true => simp
  | false =>
    simp only [Bool.false_eq_true, if_false, List.find?_map, Option.map_map]
    congr 1
    funext i
    simp [Nat.add_assoc, Nat.add_comm 1]

theorem vote3_cons (j a b c : Nat) (as bs cs : List Nat) : vote3 j (a :: as) (b :: bs) (c :: cs) =
    ((majority a b c).getD 0 :: (vote3 (j + 1) as bs cs).1,
      if majority a b c ≠ some a then some j else (vote3 (j + 1) as bs cs).2.1,
      if majority a b c ≠ some b then some j else (vote3 (j + 1) as bs cs).2.2.1,
      if majority a b c ≠ some c then some j else (vote3 (j + 1) as bs cs).2.2.2) := by
  rw [vote3]
  cases majority a b c with
  | none => simp
  | some m => simp [eq_comm]

/-- The words of a vote. -/
theorem vote3_word {j i : Nat} {a b c : List Nat} (hb : a.length = b.length) (hc : b.length = c.length) (hi : i < a.length) :
    (vote3 j a b c).1.getD i 0 = (majority (a.getD i 0) (b.getD i 0) (c.getD i 0)).getD 0 := by
  induction a generalizing j i b c with
  | nil => cases hi
  | cons x a ih =>
    obtain _ | ⟨y, b⟩ := b
    · cases hb
    obtain _ | ⟨z, c⟩ := c
    · cases hc
    rw [vote3_cons]
    cases i with
    | zero => rfl
    | succ i =>
      simp only [List.length_cons, Nat.add_right_cancel_iff, Nat.add_lt_add_iff_right] at hb hc hi
      simpa using ih hb hc hi

/-- Where stream `x` of a vote on `a`, `b` and `c` dissents. -/
def dissents (a b c x : List Nat) (i : Nat) : Bool := majority (a.getD i 0) (b.getD i 0) (c.getD i 0) != some (x.getD i 0)

theorem dissents_succ (a b c d : Nat) (as bs cs ds : List Nat) (i : Nat) :
    dissents (a :: as) (b :: bs) (c :: cs) (d :: ds) (i + 1) = dissents as bs cs ds i := rfl

theorem dissents_zero (a b c d : Nat) (as bs cs ds : List Nat) :
    dissents (a :: as) (b :: bs) (c :: cs) (d :: ds) 0 = (majority a b c != some d) := rfl

theorem find_dissents_cons (a b c d : Nat) (as bs cs ds : List Nat) (j : Nat) :
    ((List.range (as.length + 1)).find? (dissents (a :: as) (b :: bs) (c :: cs) (d :: ds))).map (j + ·) =
      if majority a b c ≠ some d then some j else ((List.range as.length).find? (dissents as bs cs ds)).map (j + 1 + ·) := by
  rw [find_range_succ, dissents_zero]
  simp only [bne_iff_ne, dissents_succ]

/-- The first dissents of a vote that begins at word `j`. -/
theorem vote3_dissents {j : Nat} {a b c : List Nat} (hb : a.length = b.length) (hc : b.length = c.length) :
    (vote3 j a b c).2 = (((List.range a.length).find? (dissents a b c a)).map (j + ·),
      ((List.range a.length).find? (dissents a b c b)).map (j + ·), ((List.range a.length).find? (dissents a b c c)).map (j + ·)) := by
  induction a generalizing j b c with
  | nil => simp [vote3]
  | cons x a ih =>
    obtain _ | ⟨y, b⟩ := b
    · cases hb
    obtain _ | ⟨z, c⟩ := c
    · cases hc
    simp only [List.length_cons, Nat.add_right_cancel_iff] at hb hc
    rw [vote3_cons, ih hb hc, List.length_cons, find_dissents_cons, find_dissents_cons, find_dissents_cons]

/-- Settles O19, by induction on the streams. -/
theorem voteTakesTheMajority : Obligations.VoteTakesTheMajority := by
  unfold Obligations.VoteTakesTheMajority
  refine ⟨fun a b c i hb hc hi => vote3_word hb hc hi, fun a b c hb hc => ?_, majority_eq_some, fun _ _ _ _ => rfl, fun _ _ => ⟨rfl, rfl⟩⟩
  rw [vote3_dissents hb hc]
  simp only [Nat.zero_add, Option.map_id']
  rfl


/-! ### Reading a field past writes of others -/

/-- Two fields of one word each that share no bit. -/
abbrev Field.Apart (f g : Field) : Prop :=
  f.lo + f.width ≤ 32 ∧ g.lo + g.width ≤ 32 ∧ (g.addr ≠ f.addr ∨ g.lo + g.width ≤ f.lo ∨ f.lo + f.width ≤ g.lo)

/-- A field of one word of the blocks, outside a word that is written. -/
abbrev Field.Off (f : Field) (a : Nat) : Prop := f.lo + f.width ≤ 32 ∧ f.addr ≠ a ∧ f.addr < 0x400000

theorem State.get_put_other (s : State) {f g : Field} (v : Nat) (h : f.Apart g) : (s.put f v).get g = s.get g := by
  obtain ⟨hf, hg, ha | ha⟩ := h
  · exact s.get_put_addr v hf hg ha
  · exact s.get_put_apart v hf hg ha

theorem State.flag_put_other (s : State) {f g : Field} (v : Nat) (h : f.Apart g) : (s.put f v).flag g = s.flag g :=
  congrArg (· == 1) (s.get_put_other v h)

theorem State.flag_putFlag_other (s : State) {f g : Field} (b : Bool) (h : f.Apart g) : (s.putFlag f b).flag g = s.flag g :=
  s.flag_put_other _ h

theorem State.get_event_other (s : State) {f : Field} (i : Nat) (h : f.Off (srcLoc i).1) : (s.event i).get f = s.get f :=
  s.get_event i h.1 h.2.1 h.2.2

theorem State.flag_event_other (s : State) {f : Field} (i : Nat) (h : f.Off (srcLoc i).1) : (s.event i).flag f = s.flag f :=
  congrArg (· == 1) (s.get_event_other i h)

theorem State.get_eventIf_other (s : State) {f : Field} (c : Bool) (i : Nat) (h : f.Off (srcLoc i).1) : (s.eventIf c i).get f = s.get f :=
  s.get_eventIf c i h.1 h.2.1 h.2.2

theorem State.flag_eventIf_other (s : State) {f : Field} (c : Bool) (i : Nat) (h : f.Off (srcLoc i).1) : (s.eventIf c i).flag f = s.flag f :=
  congrArg (· == 1) (s.get_eventIf_other c i h)

theorem State.get_of_regs {s t : State} (h : t.regs = s.regs) (f : Field) : t.get f = s.get f := by
  unfold State.get State.rd
  rw [h]

theorem State.flag_of_regs {s t : State} (h : t.regs = s.regs) (f : Field) : t.flag f = s.flag f := by
  unfold State.flag State.get State.rd
  rw [h]

/-! ### Custody given up -/

theorem State.gateBits_custody (s : State) (b : Bool) : (s.gateBits b).flag Reg.PAIR_STATUS_CUSTODY = b := by
  unfold State.gateBits
  simp (disch := decide) only [State.flag_eventIf_other, State.flag_putFlag_other, State.flag_putFlag]

theorem State.gateBits_permit (s : State) (b : Bool) : (s.gateBits b).flag Reg.PUB_STATUS_PERMIT = b := by
  unfold State.gateBits
  simp (disch := decide) only [State.flag_eventIf_other, State.flag_putFlag]

theorem State.gateBits_gateOpen (s : State) (b : Bool) : (s.gateBits b).pair.gateOpen = b := by
  unfold State.gateBits
  simp

theorem State.endSafeMode_pair (s : State) : s.endSafeMode.pair = { s.pair with safeMode := false } := by
  unfold State.endSafeMode
  simp

/-- A field apart from what the end of safe mode writes. -/
abbrev Field.OffSafe (f : Field) : Prop :=
  Reg.GLB_STATE_SAFECUST.Apart f ∧ Reg.PUB_STATUS_SAFEMODE.Apart f ∧ Reg.PUB_STATUS_SAFEFORM.Apart f ∧ f.Off 0xC001C

theorem State.get_endSafeMode (s : State) {f : Field} (h : f.OffSafe) : s.endSafeMode.get f = s.get f := by
  obtain ⟨h1, h2, h3, h4⟩ := h
  unfold State.endSafeMode
  dsimp only
  rw [State.get_eventIf_other _ _ _ h4, State.get_put_other _ _ h3, State.get_put_other _ _ h2, State.get_put_other _ _ h1]
  exact State.get_of_regs rfl f

theorem State.flag_endSafeMode (s : State) {f : Field} (h : f.OffSafe) : s.endSafeMode.flag f = s.flag f :=
  congrArg (· == 1) (s.get_endSafeMode h)

/-- A field apart from what the bits of the gate write. -/
abbrev Field.OffGate (f : Field) : Prop :=
  Reg.PAIR_STATUS_CUSTODY.Apart f ∧ Reg.PUB_STATUS_PERMIT.Apart f ∧ f.Off 0xB0020 ∧ f.Off 0xC001C

theorem State.get_gateBits (s : State) (b : Bool) {f : Field} (h : f.OffGate) : (s.gateBits b).get f = s.get f := by
  obtain ⟨h1, h2, h3, h4⟩ := h
  unfold State.gateBits State.putFlag
  dsimp only
  rw [State.get_eventIf_other _ _ 98 h4, State.get_eventIf_other _ _ 90 h3, State.get_put_other _ _ h2, State.get_put_other _ _ h1]
  exact State.get_of_regs rfl f

theorem State.setGate_false_eq (s : State) : s.setGate false = (s.gateBits false).endSafeMode := by
  unfold State.setGate
  exact if_neg Bool.false_ne_true

theorem State.get_setGate_false (s : State) {f : Field} (h : f.OffGate) (h' : f.OffSafe) : (s.setGate false).get f = s.get f := by
  rw [s.setGate_false_eq, State.get_endSafeMode _ h', State.get_gateBits _ _ h]

/-- A closed gate: neither custody nor the permit is shown, and safe mode is over. -/
theorem State.setGate_false (s : State) : (s.setGate false).flag Reg.PAIR_STATUS_CUSTODY = false ∧ (s.setGate false).flag Reg.PUB_STATUS_PERMIT = false ∧
    (s.setGate false).pair.gateOpen = false ∧ (s.setGate false).pair.safeMode = false := by
  rw [s.setGate_false_eq, State.endSafeMode_pair, State.flag_endSafeMode _ (by decide), State.flag_endSafeMode _ (by decide)]
  exact ⟨State.gateBits_custody s _, State.gateBits_permit s _, State.gateBits_gateOpen s _, rfl⟩

theorem State.pairSend_pair (s : State) (n : Nat) (b : PairBody) : (s.pairSend n b).pair = { s.pair with seqOut := s.pair.seqOut + 1 } := by
  unfold State.pairSend
  dsimp only
  split <;> split <;> simp

/-- Giving up custody writes the registers of a closed gate. -/
theorem State.dropCustody_regs (s : State) : s.dropCustody.regs = ((s.put Reg.GLB_STATUS_HOLD 0).setGate false).regs := by
  unfold State.dropCustody
  dsimp only
  split
  · simp
  · rfl

theorem State.dropCustody_gate (s : State) : s.dropCustody.pair.gateOpen = ((s.put Reg.GLB_STATUS_HOLD 0).setGate false).pair.gateOpen ∧
    s.dropCustody.pair.safeMode = ((s.put Reg.GLB_STATUS_HOLD 0).setGate false).pair.safeMode := by
  unfold State.dropCustody
  dsimp only
  split
  · rw [State.pairSend_pair]
    exact ⟨rfl, rfl⟩
  · exact ⟨rfl, rfl⟩

theorem State.get_dropCustody (s : State) {f : Field} (h0 : Reg.GLB_STATUS_HOLD.Apart f) (h : f.OffGate) (h' : f.OffSafe) :
    s.dropCustody.get f = s.get f := by
  rw [State.get_of_regs s.dropCustody_regs, State.get_setGate_false _ h h', State.get_put_other _ _ h0]

theorem State.dropCustody_st (s : State) : s.dropCustody.st = s.st := s.get_dropCustody (by decide) (by decide) (by decide)

theorem State.dropCustody_hold (s : State) : s.dropCustody.flag Reg.GLB_STATUS_HOLD = false := by
  rw [State.flag_of_regs s.dropCustody_regs]
  unfold State.flag
  rw [State.get_setGate_false _ (by decide) (by decide), State.get_put _ _ (by decide)]
  rfl

/-- Settles O8: the lines by the closed gate, the rest by the fields that giving up custody leaves. -/
theorem detectionDropsCustodyFirst : Obligations.DetectionDropsCustodyFirst := by
  unfold Obligations.DetectionDropsCustodyFirst
  refine ⟨fun s => ?_, fun s => ⟨s.dropCustody_st, by simp, by simp, by simp⟩⟩
  obtain ⟨hc, hp, ho, hm⟩ := State.setGate_false (s.put Reg.GLB_STATUS_HOLD 0)
  rw [s.dropCustody_gate.1, s.dropCustody_gate.2, State.flag_of_regs s.dropCustody_regs Reg.PAIR_STATUS_CUSTODY,
    State.flag_of_regs s.dropCustody_regs Reg.PUB_STATUS_PERMIT]
  exact ⟨s.dropCustody_hold, ho, hc, hp, hm⟩


/-! ### What a module reset leaves (R113, R115, R116) -/

/-- A step of a fold that leaves a word, folded. -/
theorem rd_foldl {α : Type} {f : State → α → State} {l : List α} {a : Nat} (h : ∀ s, ∀ x ∈ l, (f s x).rd a = s.rd a) (s : State) :
    (l.foldl f s).rd a = s.rd a := by
  induction l generalizing s with
  | nil => rfl
  | cons x l ih =>
    obtain ⟨hx, hl⟩ := List.forall_mem_cons.1 fun y hy t => h t y hy
    exact (ih (fun s y hy => hl y hy s) _).trans (hx s)

theorem rdList_filter_drop {p : Nat × Word → Bool} {a : Nat} (h : ∀ w, p (a, w) = false) (l : List (Nat × Word)) :
    rdList a (l.filter p) = resetWord a := by
  induction l with
  | nil => rfl
  | cons x l ih =>
    obtain ⟨b, w⟩ := x
    by_cases e : b = a
    · subst e
      rw [List.filter_cons_of_neg (by simp [h]), ih]
    · by_cases hp : p (b, w)
      · rw [List.filter_cons_of_pos hp, rdList, if_neg e, ih]
      · rw [List.filter_cons_of_neg hp, ih]

theorem State.rd_cageLines (s old : State) {a : Nat} (h : a < 0x60000) : (s.cageLines old).rd a = s.rd a := by
  refine rd_foldl (fun t p _ => ?_) s
  unfold State.putFlag
  rw [State.rd_put_ne _ _ (by simp [Reg.MACP_STAT_TX_FAULT]) (by simp [Reg.MACP_STAT_TX_FAULT]; omega),
    State.rd_put_ne _ _ (by simp [Reg.MACP_STAT_LOS]) (by simp [Reg.MACP_STAT_LOS]; omega),
    State.rd_put_ne _ _ (by simp [Reg.MACP_STAT_MOD_ABS]) (by simp [Reg.MACP_STAT_MOD_ABS]; omega)]

theorem State.rd_put_low (s : State) {f : Field} {a b : Nat} (v : Nat) (hf : f.lo + f.width ≤ 32 ∧ b ≤ f.addr) (h : a < b) :
    (s.put f v).rd a = s.rd a := s.rd_put_ne v hf.1 (by omega)

theorem State.rd_sealKept (s : State) {a : Nat} (h : a < 0x110000) : s.sealKept.rd a = s.rd a := by
  unfold State.sealKept State.putFlag
  dsimp only
  iterate 2 rw [State.rd_put_low _ _ (by decide) h]
  rw [State.rd_wr_ne _ _ (by omega)]
  iterate 11 rw [State.rd_put_low _ _ (by decide) h]
  refine rd_foldl (fun t k _ => ?_) s
  rw [State.rd_put_low _ _ ⟨by simp [Reg.KEY_SLOT_STATE_VERIFIED], by simp [Reg.KEY_SLOT_STATE_VERIFIED]; omega⟩ h,
    State.rd_put_low _ _ ⟨by simp [Reg.KEY_SLOT_STATE_STAGED], by simp [Reg.KEY_SLOT_STATE_STAGED]; omega⟩ h]
  split
  · rfl
  · exact State.rd_put_low _ _ ⟨by simp [Reg.KEY_SLOT_STATE_STATE], by simp [Reg.KEY_SLOT_STATE_STATE]; omega⟩ h

/-- A field below the MAC blocks that a reset does not keep has its reset value in the wiped state. -/
theorem State.get_wiped (s : State) {f : Field} (hf : f.lo + f.width ≤ 32) (h : f.addr < 0x60000) (hk : keptReg f.addr = false)
    (hp : Reg.GLB_STATUS_PEER.Apart f) : s.wiped.get f = State.reset.get f := by
  unfold State.wiped
  dsimp only
  rw [State.get_congr hf (State.rd_cageLines _ _ h), State.get_put_other _ _ hp, State.get_congr hf (State.rd_sealKept _ (by omega))]
  refine State.get_congr hf ?_
  exact rdList_filter_drop (fun _ => hk) _

theorem State.rd_showReint (s : State) {a : Nat} (h : a < 0xA0000) : s.showReint.rd a = s.rd a := by
  refine rd_foldl (fun t p _ => ?_) s
  rw [State.rd_put_ne _ _ (by simp [Reg.BEAM_ROD_STATE_REINT]) (by simp [Reg.BEAM_ROD_STATE_REINT]; omega)]

theorem State.showReint_only (s : State) : RegsOnly s s.showReint := RegsOnly.foldl (fun t _ => RegsOnly.put t _ _) _ _

/-- The state that a reset other than by power wipes. -/
def State.resetBase (s : State) : State := ((s.dropCustody.endInjections 4 s.inj).journalAdd (.stateChange s.st stReset 0 s.ns)).cutPulses

/-- That state wiped, with the reset's kind noted. -/
def State.resetWiped (s : State) (w : Bool) : State :=
  { s.resetBase.wiped with boot := { s.resetBase.wiped.boot with power := false, wdog := w } }

theorem State.resetWiped_regs (s : State) (w : Bool) : (s.resetWiped w).regs = s.resetBase.wiped.regs := by
  unfold State.resetWiped
  rfl

theorem State.moduleReset_eq (s : State) (c : Field) (w : Bool) : s.moduleReset c false w =
    (((((s.resetWiped w).put c 1).put Reg.GLB_STATE_PREV s.st).put Reg.GLB_STATE_HEALTH (healthOf (s.resetWiped w).faults)).put
      Reg.GLB_STATE_STATE stReset).showReint := by
  obtain ⟨wiped, hwiped⟩ : ∃ f, State.wiped = f := ⟨_, rfl⟩
  obtain ⟨put, hput⟩ : ∃ f, State.put = f := ⟨_, rfl⟩
  obtain ⟨show', hshow⟩ : ∃ f, State.showReint = f := ⟨_, rfl⟩
  unfold State.moduleReset State.resetWiped State.resetBase
  rw [hwiped, hput, hshow]
  simp only [Bool.false_eq_true, if_false]

theorem State.moduleReset_only (s : State) (c : Field) (w : Bool) : RegsOnly (s.resetWiped w) (s.moduleReset c false w) := by
  rw [s.moduleReset_eq c w]
  exact ((((RegsOnly.put _ _ _).trans (RegsOnly.put _ _ _)).trans (RegsOnly.put _ _ _)).trans (RegsOnly.put _ _ _)).trans
    (State.showReint_only _)

theorem State.get_moduleReset (s : State) {c f : Field} (w : Bool) (hf : f.lo + f.width ≤ 32) (ha : f.addr < 0xA0000) :
    (s.moduleReset c false w).get f = (((((s.resetWiped w).put c 1).put Reg.GLB_STATE_PREV s.st).put Reg.GLB_STATE_HEALTH
      (healthOf (s.resetWiped w).faults)).put Reg.GLB_STATE_STATE stReset).get f := by
  rw [s.moduleReset_eq c w, State.get_congr hf (State.rd_showReint _ ha)]

/-- The causes of a reset other than by power. -/
def resetCauses : List Field := [Reg.GLB_RESET_CAUSE_PIN, Reg.GLB_RESET_CAUSE_WATCHDOG, Reg.GLB_RESET_CAUSE_LOCKSTEP, Reg.GLB_RESET_CAUSE_COMMAND]

theorem State.moduleReset_shows (s : State) (w : Bool) {c : Field} (hc : c ∈ resetCauses) :
    (s.moduleReset c false w).st = stReset ∧ (s.moduleReset c false w).get Reg.GLB_STATE_PREV = s.st ∧
    (s.moduleReset c false w).flag c = true ∧ (s.moduleReset c false w).flag Reg.GLB_STATUS_HOLD = false := by
  have hs : s.st < 16 := s.get_lt (by decide)
  have hcause : c.lo + c.width ≤ 32 ∧ c.width = 1 ∧ c.addr < 0xA0000 ∧ Reg.GLB_STATE_PREV.Apart c ∧ Reg.GLB_STATE_HEALTH.Apart c ∧
      Reg.GLB_STATE_STATE.Apart c ∧ c.Apart Reg.GLB_STATUS_HOLD := by
    revert c; decide
  obtain ⟨h32, h1, ha, hp, hh, hst, hhold⟩ := hcause
  unfold State.flag State.st
  rw [State.get_moduleReset _ _ (by decide) (by decide), State.get_moduleReset _ _ (by decide) (by decide), State.get_moduleReset _ _ h32 ha,
    State.get_moduleReset _ _ (by decide) (by decide)]
  refine ⟨?_, ?_, ?_, ?_⟩
  · rw [State.get_put _ _ (by decide)]
    rfl
  · rw [State.get_put_other _ _ (by decide), State.get_put_other _ _ (by decide), State.get_put _ _ (by decide)]
    exact Nat.mod_eq_of_lt hs
  · rw [State.get_put_other _ _ hst, State.get_put_other _ _ hh, State.get_put_other _ _ hp, State.get_put _ _ h32, h1]
    rfl
  · rw [State.get_put_other _ _ (by decide), State.get_put_other _ _ (by decide), State.get_put_other _ _ (by decide),
      State.get_put_other _ _ hhold]
    rw [State.get_of_regs (s.resetWiped_regs w), State.get_wiped _ (by decide) (by decide) (by decide) (by decide)]
    rfl

/-- The fields that the end of an injection leaves. -/
theorem State.injGone_left (s : State) (i : Injection) : (s.injGone i).rtc = s.rtc ∧ (s.injGone i).bank = s.bank ∧ (s.injGone i).boot = s.boot ∧
    (s.injGone i).nrg = s.nrg := by
  have e : (s.injGone i).still = { s with inj := s.inj.filter fun (x : Injection) => x.id ≠ i.id }.still := by
    unfold State.injGone
    dsimp only
    rw [State.still_putFlag, State.still_put, State.still_put]
  exact ⟨(still_rtc e).trans rfl, (still_bank e).trans rfl, (still_boot e).trans rfl, (still_nrg e).trans rfl⟩

theorem State.endInj_left (s : State) (i : Injection) (n : Nat) : (s.endInj i n).rtc = s.rtc ∧ (s.endInj i n).bank = s.bank ∧
    (s.endInj i n).boot = s.boot ∧ (s.endInj i n).nrg = s.nrg := by
  obtain ⟨h1, h2, h3, h4⟩ := s.injGone_left i
  unfold State.endInj
  split
  · rw [State.event_rtc, State.event_bank, State.event_boot, State.event_nrg, State.raiseRecord_rtc, State.raiseRecord_bank,
      State.raiseRecord_boot, State.raiseRecord_nrg]
    exact ⟨h1, h2, h3, h4⟩
  · exact ⟨h1, h2, h3, h4⟩

theorem State.endInjections_left (s : State) (n : Nat) (l : List Injection) : (s.endInjections n l).rtc = s.rtc ∧ (s.endInjections n l).bank = s.bank ∧
    (s.endInjections n l).boot = s.boot ∧ (s.endInjections n l).nrg = s.nrg := by
  induction l generalizing s with
  | nil => exact ⟨rfl, rfl, rfl, rfl⟩
  | cons i l ih =>
    obtain ⟨h1, h2, h3, h4⟩ := ih (s.endInj i n)
    obtain ⟨e1, e2, e3, e4⟩ := s.endInj_left i n
    exact ⟨h1.trans e1, h2.trans e2, h3.trans e3, h4.trans e4⟩

theorem RegsOnly.rtc {s t : State} (h : RegsOnly s t) : t.rtc = s.rtc := by rw [h]
theorem RegsOnly.bank {s t : State} (h : RegsOnly s t) : t.bank = s.bank := by rw [h]
theorem RegsOnly.rings {s t : State} (h : RegsOnly s t) : t.rings = s.rings := by rw [h]
theorem RegsOnly.slots {s t : State} (h : RegsOnly s t) : t.slots = s.slots := by rw [h]
theorem RegsOnly.faults {s t : State} (h : RegsOnly s t) : t.faults = s.faults := by rw [h]

/-- Wiping writes registers over its kept fields. -/
theorem State.wiped_left (s : State) : s.wiped.rtc = s.rtc ∧ s.wiped.bank = s.bank ∧ s.wiped.rings = [] ∧ s.wiped.slots = [] ∧
    s.wiped.faults = s.faults.filter fun (f : ActiveFault) => f.record.code == 0x0502 := by
  unfold State.wiped
  dsimp only
  rw [(State.cageLines_only _ _).rtc, (State.cageLines_only _ _).bank, (State.cageLines_only _ _).rings, (State.cageLines_only _ _).slots,
    (State.cageLines_only _ _).faults, (RegsOnly.put _ _ _).rtc, (RegsOnly.put _ _ _).bank, (RegsOnly.put _ _ _).rings,
    (RegsOnly.put _ _ _).slots, (RegsOnly.put _ _ _).faults, (State.sealKept_only _).rtc, (State.sealKept_only _).bank,
    (State.sealKept_only _).rings, (State.sealKept_only _).slots, (State.sealKept_only _).faults]
  exact ⟨rfl, rfl, rfl, rfl, rfl⟩

theorem State.cutPulses_left (s : State) : s.cutPulses.rtc = s.rtc ∧ s.cutPulses.bank = s.bank ∧ s.cutPulses.boot = s.boot ∧
    s.cutPulses.nrg.pts = s.nrg.pts ∧ s.cutPulses.nrg.hms = s.nrg.hms :=
  ⟨by rw [State.cutPulses_eq], by rw [State.cutPulses_eq], by rw [State.cutPulses_eq], by rw [State.cutPulses_eq], by rw [State.cutPulses_eq]⟩

theorem State.resetBase_left (s : State) : s.resetBase.rtc = s.rtc ∧ s.resetBase.bank = s.bank ∧ s.resetBase.boot = s.boot ∧
    s.resetBase.nrg.pts = s.nrg.pts ∧ s.resetBase.nrg.hms = s.nrg.hms := by
  obtain ⟨h1, h2, h3, h4⟩ := s.dropCustody.endInjections_left 4 s.inj
  obtain ⟨k1, k2, k3, k4, k5⟩ := ((s.dropCustody.endInjections 4 s.inj).journalAdd (.stateChange s.st stReset 0 s.ns)).cutPulses_left
  have hn : ((s.dropCustody.endInjections 4 s.inj).journalAdd (.stateChange s.st stReset 0 s.ns)).nrg = s.nrg :=
    (State.journalAdd_nrg _ _).trans (h4.trans (State.dropCustody_nrg s))
  exact ⟨k1.trans ((State.journalAdd_rtc _ _).trans (h1.trans (State.dropCustody_rtc s))),
    k2.trans ((State.journalAdd_bank _ _).trans (h2.trans (State.dropCustody_bank s))),
    k3.trans ((State.journalAdd_boot _ _).trans (h3.trans (State.dropCustody_boot s))),
    k4.trans (congrArg NrgState.pts hn), k5.trans (congrArg NrgState.hms hn)⟩

theorem State.resetWiped_left (s : State) (w : Bool) : (s.resetWiped w).rtc = s.rtc ∧ (s.resetWiped w).bank = s.bank ∧
    (s.resetWiped w).boot.revs = s.boot.revs ∧ (s.resetWiped w).nrg.pts = s.nrg.pts ∧ (s.resetWiped w).nrg.hms = s.nrg.hms ∧
    (s.resetWiped w).rings = [] ∧ (s.resetWiped w).slots = [] ∧ ∀ f ∈ (s.resetWiped w).faults, f.record.code = 0x0502 := by
  obtain ⟨h1, h2, h3, h4, h5⟩ := s.resetBase_left
  obtain ⟨k1, k2, k3, k4, k5⟩ := s.resetBase.wiped_left
  obtain ⟨_, _, _, hr, _⟩ := s.resetBase.wiped_boot
  have hn := s.resetBase.wiped_nrg
  obtain ⟨t, ht⟩ : ∃ t, s.resetBase.wiped = t := ⟨_, rfl⟩
  rw [ht] at k1 k2 k3 k4 k5 hr hn
  unfold State.resetWiped
  rw [ht]
  refine ⟨k1.trans h1, k2.trans h2, hr.trans (congrArg BootState.revs h3), (congrArg NrgState.pts hn).trans h4,
    (congrArg NrgState.hms hn).trans h5, k3, k4, fun f hf => ?_⟩
  have hf' : f ∈ t.faults := hf
  rw [k5] at hf'
  simpa using (List.mem_filter.1 hf').2

/-- Settles O10: the registers by the writes over the wiped state, the rest by what the wiping keeps. -/
theorem aResetReachesResetState : Obligations.AResetReachesResetState := by
  unfold Obligations.AResetReachesResetState
  refine ⟨fun s w c hc => s.moduleReset_shows w hc, fun s w c => ?_, fun s w c => ?_⟩
  · obtain ⟨h1, h2, h3, h4, h5, _⟩ := s.resetWiped_left w
    have e := s.moduleReset_only c w
    rw [e.rtc, e.bank, e.boot, e.nrg]
    exact ⟨h1, h2, h3, h4, h5⟩
  · obtain ⟨_, _, _, _, _, h6, h7, h8⟩ := s.resetWiped_left w
    have e := s.moduleReset_only c w
    rw [e.rings, e.slots, e.faults]
    exact ⟨h6, h7, h8⟩



/-! ### The first words of the module, which most operations leave -/

/-- A field of GLB or KPR up to KPR.BOOT, apart from the health, the safe-mode custody bit, GLB.STATUS and the source flags. -/
abbrev Field.Core (f : Field) : Prop :=
  f.lo + f.width ≤ 32 ∧ f.addr < 0x10020 ∧ f.addr ≠ 0x40 ∧ f.addr ≠ 0x14 ∧ (f.addr ≠ 0x10 ∨ f.lo + f.width ≤ 4 ∨ 8 ≤ f.lo)

/-- The flags of the sources stand in GLB.EVT or above KPR.BOOT. -/
theorem srcLoc_high (i : Nat) : (srcLoc i).1 = 0x40 ∨ 0x10020 ≤ (srcLoc i).1 := by
  unfold srcLoc
  by_cases hi : i < 8
  · rw [if_pos hi]
    exact .inl rfl
  · rw [if_neg hi]
    refine .inr ?_
    iterate 25 refine ite_elim (P := fun p : Nat × Nat => 0x10020 ≤ p.1) (fun _ => by dsimp only; omega) fun _ => ?_
    dsimp only
    omega

section
variable {s : State} {f : Field} (h : f.Core)
include h

/-- A register above those words. -/
theorem State.core_put {g : Field} (v : Nat) (hg : g.lo + g.width ≤ 32 ∧ 0x10020 ≤ g.addr) : (s.put g v).get f = s.get f :=
  s.get_put_addr v hg.1 h.1 (by have := h.2.1; omega)

theorem State.core_wr {a : Nat} (v : Word) (ha : 0x10020 ≤ a) : (s.wr a v).get f = s.get f :=
  State.get_congr h.1 (State.rd_wr_ne _ _ (by have := h.2.1; omega))

theorem State.core_count {g : Field} (hg : g.lo + g.width ≤ 32 ∧ 0x10020 ≤ g.addr) : (s.count g).get f = s.get f :=
  s.get_count hg.1 h.1 (.inl (by have := h.2.1; omega))

theorem State.core_event (i : Nat) : (s.event i).get f = s.get f := by
  obtain ⟨h32, hlt, h40, _, _⟩ := h
  refine s.get_event i h32 ?_ (by omega)
  rcases srcLoc_high i with e | e <;> omega

theorem State.core_raiseRecord (code cls inst slice detail : Nat) : (s.raiseRecord code cls inst slice detail).get f = s.get f := by
  obtain ⟨h32, hlt, h40, _, hh⟩ := h
  exact s.get_raiseRecord code cls inst slice detail h32 (by omega) h40 (by omega) (by omega)

theorem State.core_clearFault (code inst : Nat) : (s.clearFault code inst).get f = s.get f := by
  obtain ⟨h32, hlt, h40, _, hh⟩ := h
  exact s.get_clearFault code inst h32 (by omega) h40 (by omega) (by omega)

theorem State.core_journalAdd (e : JEntry) : (s.journalAdd e).get f = s.get f := by
  obtain ⟨h32, hlt, h40, _, hh⟩ := h
  exact s.get_journalAdd e h32 (by omega) (by omega)

theorem State.core_queueWrite (w : Immediate) : (s.queueWrite w).get f = s.get f := by
  unfold State.queueWrite
  dsimp only
  rw [State.core_put h _ (by decide)]
  exact State.get_of_regs rfl f

theorem State.core_complete (q : Req) (c : Status) (result rflags : Nat) : (s.complete q c result rflags).get f = s.get f :=
  s.get_complete q c result rflags h.1 (by have := h.2.1; omega)

theorem State.core_dropCustody : s.dropCustody.get f = s.get f := by
  obtain ⟨h32, hlt, h40, h14, hh⟩ := h
  have hne : ∀ a, 0x10020 ≤ a → f.addr ≠ a := fun a ha => by omega
  refine s.get_dropCustody ⟨by decide, h32, .inl h14⟩ ⟨⟨by decide, h32, .inl (hne _ (by decide))⟩, ⟨by decide, h32, .inl (hne _ (by decide))⟩,
    ⟨h32, hne _ (by decide), by omega⟩, ⟨h32, hne _ (by decide), by omega⟩⟩ ⟨⟨by decide, h32, ?_⟩, ⟨by decide, h32, .inl (hne _ (by decide))⟩,
    ⟨by decide, h32, .inl (hne _ (by decide))⟩, ⟨h32, hne _ (by decide), by omega⟩⟩
  simp only [Reg.GLB_STATE_SAFECUST]
  omega

omit h in
theorem State.core_foldl {α : Type} {g : State → α → State} (hg : ∀ t x, (g t x).get f = t.get f) (l : List α) (s : State) :
    (l.foldl g s).get f = s.get f := by
  induction l generalizing s with
  | nil => rfl
  | cons x l ih => exact (ih _).trans (hg s x)

theorem State.core_injGone (i : Injection) : (s.injGone i).get f = s.get f := by
  obtain ⟨_, _, _, h14, _⟩ := id h
  unfold State.injGone State.putFlag
  dsimp only
  rw [State.get_put_addr _ _ (by decide) h.1 h14, State.core_put h _ (by decide), State.core_put h _ (by decide)]
  exact State.get_of_regs rfl f

theorem State.core_endInjections (n : Nat) (l : List Injection) : (s.endInjections n l).get f = s.get f := by
  refine State.core_foldl (fun t i => ?_) l s
  unfold State.endInj
  split
  · rw [State.core_event h, State.core_raiseRecord h, State.core_injGone h]
  · exact State.core_injGone h i

theorem State.core_abortSolve : s.abortSolve.get f = s.get f := by
  obtain ⟨t, ht, hrun⟩ : ∃ t : State, t = { (((((s.put Reg.RCK_STATUS_SOLVING 0).put Reg.RCK_STATUS_BUILDING 0).put Reg.RCK_STATUS_LAST 8).count
      Reg.RCK_FAILS_COUNT).count Reg.RCK_SOLVES_COUNT).event 145 with rck := { ((((((s.put Reg.RCK_STATUS_SOLVING 0).put
      Reg.RCK_STATUS_BUILDING 0).put Reg.RCK_STATUS_LAST 8).count Reg.RCK_FAILS_COUNT).count Reg.RCK_SOLVES_COUNT).event 145).rck with
      cur := none } } ∧ t.get f = s.get f := by
    refine ⟨_, rfl, ?_⟩
    rw [State.get_of_fields, State.core_event h, State.core_count h (by decide), State.core_count h (by decide), State.core_put h _ (by decide),
      State.core_put h _ (by decide), State.core_put h _ (by decide)]
  unfold State.abortSolve
  dsimp only
  rw [← ht]
  split
  · split
    · exact hrun
    · rw [State.core_raiseRecord h, hrun]
  · rfl

theorem State.core_cancelSliceOp : s.cancelSliceOp.get f = s.get f := by
  unfold State.cancelSliceOp
  split
  · rfl
  · rw [State.core_put h _ ⟨by simp [Reg.SLC_SLICE_STATE_MIG], by simp [Reg.SLC_SLICE_STATE_MIG]; omega⟩]
    exact State.get_of_regs rfl f

theorem State.core_abortMulti (l : List MultiCmd) : (s.abortMulti l).get f = s.get f := by
  induction l generalizing s with
  | nil => rfl
  | cons m l ih => rw [State.abortMulti, ih, State.core_complete h]

/-- A change of state writes GLB.STATE and leaves the other fields. -/
theorem State.core_setState (n r : Nat) (h0 : f.addr ≠ 0x10) : (s.setState n r).get f = s.get f := by
  obtain ⟨t, ht, hrun⟩ : ∃ t : State, t = (((s.put Reg.GLB_STATE_PREV s.st).put Reg.GLB_STATE_STATE n).event 0).journalAdd
      (.stateChange s.st n r s.ns) ∧ t.get f = s.get f := by
    refine ⟨_, rfl, ?_⟩
    rw [State.core_journalAdd h, State.core_event h, State.get_put_addr _ _ (by decide) h.1 h0, State.get_put_addr _ _ (by decide) h.1 h0]
  unfold State.setState
  dsimp only
  rw [← ht]
  split
  · rfl
  · have e : ∀ u : State, (if u.get Reg.KEY_STATUS_OP = 2 then u.put Reg.KEY_STATUS_OP 0 else u).get f = u.get f := fun u => by
      split
      · exact State.core_put h _ (by decide)
      · rfl
    rw [e, State.get_of_fields, State.core_cancelSliceOp h, State.core_abortMulti h]
    exact hrun

/-- A register of GLB.STATUS. -/
theorem State.core_putStatus {g : Field} (v : Nat) (hg : g.lo + g.width ≤ 32 ∧ g.addr = 0x14) : (s.put g v).get f = s.get f :=
  s.get_put_addr v hg.1 h.1 (by rw [hg.2]; exact h.2.2.2.1)

end

/-- A change of state shows the new state. -/
theorem State.setState_st (s : State) {n : Nat} (r : Nat) (hn : n < 16) : (s.setState n r).st = n := by
  have hc : Reg.GLB_STATE_STATE.Core := by decide
  obtain ⟨t, ht, hrun⟩ : ∃ t : State, t = (((s.put Reg.GLB_STATE_PREV s.st).put Reg.GLB_STATE_STATE n).event 0).journalAdd
      (.stateChange s.st n r s.ns) ∧ t.st = n := by
    refine ⟨_, rfl, ?_⟩
    unfold State.st
    rw [State.core_journalAdd hc, State.core_event hc, State.get_put _ _ (by decide)]
    exact Nat.mod_eq_of_lt hn
  unfold State.setState
  dsimp only
  rw [← ht]
  split
  · next e => exact e
  · have e : ∀ u : State, (if u.get Reg.KEY_STATUS_OP = 2 then u.put Reg.KEY_STATUS_OP 0 else u).st = u.st := fun u => by
      split
      · exact State.core_put hc _ (by decide)
      · rfl
    rw [e]
    unfold State.st
    rw [State.get_of_fields, State.core_cancelSliceOp hc, State.core_abortMulti hc]
    exact hrun

/-- The state that goes to SAFE: custody given up, the reason shown, injections, solve, service and trial over (R113). -/
def State.safeBase (s : State) (reason source fcode : Nat) : State :=
  let s1 := s.dropCustody
  let s2 := ((s1.put Reg.GLB_SAFE_REASON reason).put Reg.GLB_SAFE_SOURCE source).put Reg.GLB_SAFE_FCODE fcode
  let s3 := (s2.endInjections 4 s2.inj).abortSolve
  let s4 := { s3 with keys := { s3.keys with console := false } }.put Reg.GLB_STATUS_KEEPCUST 0
  let s5 := if s.st = stService then s4.serviceEvent else s4
  if s5.flag Reg.GLB_STATUS_REVTRIAL then
      { s5.put Reg.GLB_STATUS_REVTRIAL 0 with boot := { s5.boot with trialCut := true } }
    else s5

theorem State.enterSafe_eq (s : State) (reason source fcode : Nat) :
    s.enterSafe reason source fcode = (s.safeBase reason source fcode).setState stSafe fcode := rfl

theorem State.core_safeBase (s : State) {f : Field} (h : f.Core) (reason source fcode : Nat) : (s.safeBase reason source fcode).get f =
    (((s.dropCustody.put Reg.GLB_SAFE_REASON reason).put Reg.GLB_SAFE_SOURCE source).put Reg.GLB_SAFE_FCODE fcode).get f := by
  obtain ⟨t, ht⟩ : ∃ t : State, t = ((s.dropCustody.put Reg.GLB_SAFE_REASON reason).put Reg.GLB_SAFE_SOURCE source).put Reg.GLB_SAFE_FCODE
    fcode := ⟨_, rfl⟩
  have e1 : ∀ u : State, (if u.flag Reg.GLB_STATUS_REVTRIAL then ({ u.put Reg.GLB_STATUS_REVTRIAL 0 with
      boot := { u.boot with trialCut := true } } : State) else u).get f = u.get f := fun u => by
    split
    · rw [State.get_of_fields, State.core_putStatus h _ (by decide)]
    · rfl
  have e2 : ∀ u : State, (if s.st = stService then u.serviceEvent else u).get f = u.get f := fun u => by
    split
    · exact State.core_event h 10
    · rfl
  unfold State.safeBase
  dsimp only
  rw [← ht, e1, e2, State.core_putStatus h _ (by decide), State.get_of_fields, State.core_abortSolve h, State.core_endInjections h]

theorem State.core_enterSafe (s : State) {f : Field} (h : f.Core) (h0 : f.addr ≠ 0x10) (reason source fcode : Nat) :
    (s.enterSafe reason source fcode).get f =
      (((s.dropCustody.put Reg.GLB_SAFE_REASON reason).put Reg.GLB_SAFE_SOURCE source).put Reg.GLB_SAFE_FCODE fcode).get f := by
  rw [s.enterSafe_eq, State.core_setState h _ _ h0, State.core_safeBase _ h]

/-- SAFE with its reason, source and code shown; the other fields of the first words stay. -/
theorem State.enterSafe_shows (s : State) {reason source fcode : Nat} (hr : reason < 256) (hs : source < 256) (hf : fcode < 65536) :
    (s.enterSafe reason source fcode).st = stSafe ∧ (s.enterSafe reason source fcode).get Reg.GLB_SAFE_REASON = reason ∧
    (s.enterSafe reason source fcode).get Reg.GLB_SAFE_SOURCE = source ∧ (s.enterSafe reason source fcode).get Reg.GLB_SAFE_FCODE = fcode := by
  refine ⟨s.enterSafe_eq _ _ _ ▸ State.setState_st _ _ (by decide), ?_, ?_, ?_⟩ <;> rw [State.core_enterSafe _ (by decide) (by decide)]
  · rw [State.get_put_other _ _ (by decide), State.get_put_other _ _ (by decide), State.get_put _ _ (by decide)]
    exact Nat.mod_eq_of_lt hr
  · rw [State.get_put_other _ _ (by decide), State.get_put _ _ (by decide)]
    exact Nat.mod_eq_of_lt hs
  · rw [State.get_put _ _ (by decide)]
    exact Nat.mod_eq_of_lt hf

theorem State.enterSafe_keeps (s : State) {f : Field} (h : f.Core) (h0 : f.addr ≠ 0x10) (h28 : f.addr ≠ 0x28) (reason source fcode : Nat) :
    (s.enterSafe reason source fcode).get f = s.get f := by
  rw [State.core_enterSafe _ h h0, State.get_put_addr _ _ (by decide) h.1 h28, State.get_put_addr _ _ (by decide) h.1 h28,
    State.get_put_addr _ _ (by decide) h.1 h28, State.core_dropCustody h]

/-- A failed boot leaves SAFE and the step and code of its failure (R109, R113). -/
theorem State.bootFail_shows (s : State) {reason source code : Nat} (detail : Nat) (hr : reason < 256) (hs : source < 256) (hc : code < 65536)
    (hk : s.get Reg.KPR_BOOT_STAGE < 15) :
    (s.bootFail reason source code detail).st = stSafe ∧ (s.bootFail reason source code detail).get Reg.GLB_SAFE_REASON = reason ∧
    (s.bootFail reason source code detail).get Reg.GLB_SAFE_SOURCE = source ∧
    (s.bootFail reason source code detail).get Reg.GLB_SAFE_FCODE = code ∧
    (s.bootFail reason source code detail).get Reg.KPR_BOOT_FAIL_CODE = code ∧
    (s.bootFail reason source code detail).get Reg.KPR_BOOT_FAIL_STEP = s.get Reg.KPR_BOOT_STAGE + 1 := by
  unfold State.bootFail
  obtain ⟨h1, h2, h3, h4⟩ := (((s.put Reg.KPR_BOOT_FAIL_STEP (s.get Reg.KPR_BOOT_STAGE + 1)).put Reg.KPR_BOOT_FAIL_CODE code).raiseRecord
    code 4 0 0xFFFF detail).enterSafe_shows hr hs hc
  refine ⟨h1, h2, h3, h4, ?_, ?_⟩ <;> dsimp only <;>
    rw [State.enterSafe_keeps _ (by decide) (by decide) (by decide), State.core_raiseRecord (by decide)]
  · rw [State.get_put _ _ (by decide)]
    exact Nat.mod_eq_of_lt hc
  · rw [State.get_put_other _ _ (by decide), State.get_put _ _ (by decide)]
    exact Nat.mod_eq_of_lt (by simp only [Reg.KPR_BOOT_FAIL_STEP]; omega)

section
variable {s : State} {f : Field} (h : f.Core)
include h

theorem State.core_keyGive (k slice : Nat) : (s.keyGive k slice).get f = s.get f := by
  unfold State.keyGive State.give
  split
  · exact State.core_put h _ ⟨by simp [useOf, Reg.SLC_SLICE_QD_KEYS], by simp [useOf, Reg.SLC_SLICE_QD_KEYS]; omega⟩
  · rfl

theorem State.core_dropStage (k : Nat) : (s.dropStage k).get f = s.get f := by
  have e : ∀ u : State, ∀ c : Prop, ∀ _ : Decidable c, ∀ sl, (if c then u.keyGive k sl else u).get f = u.get f := fun u c _ sl => by
    split
    · exact State.core_keyGive h k sl
    · rfl
  unfold State.dropStage
  split
  · rfl
  · dsimp only
    rw [e, State.core_put h _ (by decide),
      State.core_put h _ ⟨by simp [Reg.KEY_SLOT_STATE_VERIFIED], by simp [Reg.KEY_SLOT_STATE_VERIFIED]; omega⟩,
      State.core_put h _ ⟨by simp [Reg.KEY_SLOT_STATE_STAGED], by simp [Reg.KEY_SLOT_STATE_STAGED]; omega⟩]
    exact State.get_of_regs rfl f

theorem State.core_advanceGen (k : Nat) : (s.advanceGen k).get f = s.get f := by
  unfold State.advanceGen
  dsimp only
  rw [State.core_queueWrite h, State.core_put h _ ⟨by simp [Reg.KEY_SLOT_STATE_STATE], by simp [Reg.KEY_SLOT_STATE_STATE]; omega⟩,
    State.core_put h _ ⟨by simp [Reg.KEY_SLOT_STATE_GEN], by simp [Reg.KEY_SLOT_STATE_GEN]; omega⟩]

theorem State.core_keyJournal (type cause slot gen slice kid : Nat) : (s.keyJournal type cause slot gen slice kid).get f = s.get f := by
  unfold State.keyJournal
  dsimp only
  rw [State.core_queueWrite h, State.core_put h _ (by decide)]

theorem State.core_emptySlot (k : Nat) : (s.emptySlot k).get f = s.get f := by
  unfold State.emptySlot
  dsimp only
  split
  · rfl
  · rw [State.core_clearFault h, State.core_event h, State.core_put h _ (by decide), State.get_of_fields,
      State.core_put h _ ⟨by simp [Reg.KEY_SLOT_KID_LO_BYTES], by simp [Reg.KEY_SLOT_KID_LO_BYTES]; omega⟩, State.core_wr h _ (by omega),
      State.core_wr h _ (by omega), State.core_put h _ ⟨by simp [Reg.KEY_SLOT_STATE_STATE], by simp [Reg.KEY_SLOT_STATE_STATE]; omega⟩,
      State.core_keyGive h]

/-- Emptying the key slots of a tamper group writes no word of GLB or KPR.BOOT. -/
theorem State.core_bootZero (groups : Nat) : (s.bootZero groups).get f = s.get f := by
  refine State.core_foldl (fun t k => ?_) _ s
  dsimp only
  split
  · exact State.core_advanceGen h k
  · rw [State.core_emptySlot h, State.core_keyJournal h, State.dropBlob, State.get_of_fields, State.core_dropStage h]

end

/-- Settles O12: what the failing step writes passes the raise and SAFE's entry. -/
theorem bootFailuresEndInSafe : Obligations.BootFailuresEndInSafe := by
  unfold Obligations.BootFailuresEndInSafe
  refine ⟨fun s reason source code detail hr hs hc hk _ => s.bootFail_shows detail hr hs hc hk, fun s src h1 h7 hk _ => ?_⟩
  obtain ⟨t, ht, hst⟩ : ∃ t : State, s.tamperBoot src = t.bootFail 3 src 0x0103 src ∧ t.get Reg.KPR_BOOT_STAGE < 15 := by
    refine ⟨_, rfl, ?_⟩
    rw [State.get_of_fields, State.core_bootZero (by decide)]
    exact hk
  obtain ⟨hS, hR, hsrc, _, hcode, _⟩ := t.bootFail_shows src (show 3 < 256 by decide) (show src < 256 by omega) (show 0x0103 < 65536 by decide) hst
  rw [ht]
  exact ⟨hS, hR, hsrc, hcode⟩


end Sys2Proof.Machine

/-! The bits of the logic engine, the duplicate windows, and the settlements that rest on counting alone. -/

namespace Sys2Proof.Machine
/-! ### Bits of word lists -/

/-- A number whose bit `i` is 0 and the same number with that bit set. -/
theorem testBit_add_two_pow {w i : Nat} (h : w.testBit i = false) (j : Nat) :
    (w + 2 ^ i).testBit j = if j = i then true else w.testBit j := by
  have hlo : w % 2 ^ i < 2 ^ i := Nat.mod_lt _ (Nat.two_pow_pos i)
  have hw : w = 2 ^ (i + 1) * (w / 2 ^ (i + 1)) + w % 2 ^ i := by
    have hb : w / 2 ^ i % 2 = 0 := by
      rw [Nat.testBit_eq_decide_div_mod_eq] at h
      have := of_decide_eq_false h
      omega
    have h1 := Nat.div_add_mod w (2 ^ i)
    have h2 := Nat.div_add_mod (w / 2 ^ i) 2
    rw [hb, Nat.div_div_eq_div_mul, ← Nat.pow_succ] at h2
    rw [Nat.pow_succ, Nat.mul_assoc]
    rw [Nat.pow_succ] at h2
    rw [show 2 * (w / (2 ^ i * 2)) = w / 2 ^ i by omega]
    exact h1.symm
  generalize w / 2 ^ (i + 1) = hi at hw
  generalize w % 2 ^ i = lo at hw hlo
  subst hw
  have hp : 2 ^ (i + 1) = 2 ^ i + 2 ^ i := by rw [Nat.pow_succ]; omega
  rw [show 2 ^ (i + 1) * hi + lo + 2 ^ i = 2 ^ (i + 1) * hi + (2 ^ i + lo) by omega, Nat.testBit_two_pow_mul_add _ (by omega),
    Nat.testBit_two_pow_mul_add _ (by omega)]
  by_cases hj : j = i
  · rw [if_pos (by omega), if_pos hj, hj, Nat.testBit_two_pow_add_eq, Nat.testBit_lt_two_pow hlo]
    rfl
  · rw [if_neg hj]
    by_cases hlt : j < i
    · rw [if_pos (by omega), if_pos (by omega), Nat.testBit_two_pow_add_gt hlt]
    · rw [if_neg (by omega), if_neg (by omega)]

theorem testBit_sub_two_pow {w i : Nat} (h : w.testBit i = true) (j : Nat) :
    (w - 2 ^ i).testBit j = if j = i then false else w.testBit j := by
  have hle : 2 ^ i ≤ w := Nat.ge_two_pow_of_testBit h
  have h0 : (w - 2 ^ i).testBit i = false := by
    have e := Nat.testBit_two_pow_add_eq (w - 2 ^ i) i
    rw [Nat.add_sub_cancel' hle, h] at e
    simpa using e
  have e := testBit_add_two_pow h0 j
  rw [Nat.sub_add_cancel hle] at e
  by_cases hj : j = i
  · rw [if_pos hj, hj, h0]
  · rw [if_neg hj] at e ⊢
    exact e.symm

theorem bitAt_eq (l : List Nat) (a : Nat) : bitAt l a = (l.getD (a / 32) 0).testBit (a % 32) := by
  unfold bitAt qBit
  rw [Nat.testBit_eq_decide_div_mod_eq, Nat.shiftRight_eq_div_pow]

/-- A bit written reads the value written, any other bit its old value. -/
theorem bitAt_setBit {l : List Nat} {a : Nat} (b : Bool) (ha : a < 32 * l.length) (j : Nat) :
    bitAt (setBit l a b) j = if j = a then b else bitAt l j := by
  have hlen : a / 32 < l.length := by omega
  have hset : ∀ w, bitAt (l.set (a / 32) w) j = if j / 32 = a / 32 then w.testBit (j % 32) else bitAt l j := fun w => by
    rw [bitAt_eq, bitAt_eq]
    simp only [List.getD_eq_getElem?_getD, List.getElem?_set]
    by_cases e : j / 32 = a / 32
    · rw [e, if_pos rfl, if_pos hlen, if_pos rfl]
      rfl
    · rw [if_neg (Ne.symm e), if_neg e]
  have hbit : decide ((l.getD (a / 32) 0 >>> (a % 32)) % 2 = 1) = bitAt l a := rfl
  unfold setBit
  dsimp only
  rw [hbit]
  split
  · next h =>
    by_cases e : j = a
    · rw [if_pos e, e, h]
    · rw [if_neg e]
  · next h =>
    rw [hset]
    by_cases hq : j / 32 = a / 32
    · rw [if_pos hq]
      have hj : j = a ↔ j % 32 = a % 32 := by omega
      rw [bitAt_eq l a] at h
      rw [bitAt_eq l j, hq]
      cases b with
      | true =>
        rw [if_pos rfl, testBit_add_two_pow (by simpa using h)]
        simp only [hj]
      | false =>
        rw [if_neg Bool.false_ne_true, testBit_sub_two_pow (by simpa using h)]
        simp only [hj]
    · rw [if_neg hq, if_neg (fun e => hq (by rw [e]))]

/-- Settles O38, one instruction group per clause. -/
theorem logicInstructionsCompute : Obligations.LogicInstructionsCompute := by
  unfold Obligations.LogicInstructionsCompute
  refine ⟨fun c f fs x op h1 hB => ?loads, fun c f fs x => ⟨rfl, rfl, rfl, rfl, rfl⟩, fun c f fs a j ha h20 => ?store,
    fun c f fs x op h1 h4 hfull => ?full, fun c f fs x op h1 h4 hroom => ?opens, fun c f fs x h => ?none,
    fun c f fs x k b l h => ?closes⟩
  case loads =>
    have hcases : op = 1 ∨ op = 2 ∨ op = 3 ∨ op = 4 ∨ op = 5 ∨ op = 6 ∨ op = 7 ∨ op = 8 ∨ op = 9 ∨ op = 10 ∨ op = 11 := by omega
    rcases hcases with rfl | rfl | rfl | rfl | rfl | rfl | rfl | rfl | rfl | rfl | rfl <;> exact ⟨_, rfl⟩
  case store =>
    have e : (cleEffect c f fs 0x20 (2 ^ 20 + a)).1.wq = setBit c.wq a c.ba := by
      have hw : (cleEffect c f fs 0x20 (2 ^ 20 + a)).1 = cleWriteBit { c with pc := c.pc + 1 } (2 ^ 20 + a) c.ba := rfl
      rw [hw, cleWriteBit, if_pos (by omega), show (2 ^ 20 + a) % 2 ^ 20 = a by omega]
    rw [e]
    exact bitAt_setBit c.ba ha j
  case full =>
    have hcases : op = 16 ∨ op = 17 ∨ op = 18 ∨ op = 19 ∨ op = 20 := by omega
    rcases hcases with rfl | rfl | rfl | rfl | rfl <;> exact if_pos hfull
  case opens =>
    have e : cleEffect c f fs op x =
        ({ c with pc := c.pc + 1, stack := (c.ba, op - 0x10) :: c.stack, ba := op == 0x10 || op == 0x13 }, 0) := by
      have hcases : op = 16 ∨ op = 17 ∨ op = 18 ∨ op = 19 ∨ op = 20 := by omega
      rcases hcases with rfl | rfl | rfl | rfl | rfl <;> exact if_neg (by omega)
    rw [e]
    exact ⟨rfl, rfl, rfl⟩
  case none =>
    show (match c.stack with | [] => (c, 4) | (b0, code) :: l => _) = _
    rw [h]
  case closes =>
    have e : cleEffect c f fs 0x1F x = ({ c with pc := c.pc + 1, stack := l, ba := cleJoin b k c.ba }, 0) := by
      show (match c.stack with | [] => (c, 4) | (b0, code) :: l => _) = _
      rw [h]
    rw [e]
    exact ⟨rfl, rfl⟩


/-! ### The duplicate windows (R243, R244) -/

theorem dupWindow_set (e : DupEntry) (w v : Nat) : dupWindow (setDupWindow e w v) w = v := by
  unfold dupWindow setDupWindow
  by_cases h : w = 0
  · rw [if_pos h, if_pos h]
  · by_cases h1 : w = 1
    · rw [if_neg h, if_pos h1, if_neg h, if_pos h1]
    · rw [if_neg h, if_neg h1, if_neg h, if_neg h1]

theorem setDupWindow_keeps (e : DupEntry) (w v : Nat) : (setDupWindow e w v).src = e.src ∧ (setDupWindow e w v).last = e.last ∧
    (setDupWindow e w v).high = e.high := by
  unfold setDupWindow
  split
  · exact ⟨rfl, rfl, rfl⟩
  · split <;> exact ⟨rfl, rfl, rfl⟩

/-- How far a sequence number stands ahead of the highest one, modulo 2^16. -/
def dupAhead (e : DupEntry) (q : Nat) : Nat := (q + 65536 - e.high) % 65536

/-- The entry with its windows moved on to a new highest number. -/
def dupMoved (e : DupEntry) (q : Nat) : DupEntry :=
  { e with dlv := e.dlv * 2 ^ dupAhead e q % 2 ^ 128, fw0 := e.fw0 * 2 ^ dupAhead e q % 2 ^ 128, fw1 := e.fw1 * 2 ^ dupAhead e q % 2 ^ 128,
           high := q }

theorem dupTest_inside {e : DupEntry} {w q : Nat} (h : dupAhead e q = 0 ∨ 65409 ≤ dupAhead e q) : dupTest e w q =
    if (dupWindow e w).testBit ((65536 - dupAhead e q) % 65536) then (e, false, false)
    else (setDupWindow e w (dupWindow e w + 2 ^ ((65536 - dupAhead e q) % 65536)), true, false) := by
  have hc : (decide (dupAhead e q = 0) || decide (65409 ≤ dupAhead e q)) = true := by simpa using h
  have hb : ∀ x j : Nat, (x >>> j % 2 = 1) ↔ x.testBit j = true := fun x j => by
    rw [Nat.testBit_eq_decide_div_mod_eq, Nat.shiftRight_eq_div_pow, decide_eq_true_iff]
  unfold dupTest
  simp only [← hb]
  exact if_pos hc

theorem dupTest_ahead {e : DupEntry} {w q : Nat} (h0 : dupAhead e q ≠ 0) (h : dupAhead e q ≤ 32767) : dupTest e w q =
    (setDupWindow (dupMoved e q) w (dupWindow (dupMoved e q) w + 1), true, false) := by
  have hc : ¬ (decide (dupAhead e q = 0) || decide (65409 ≤ dupAhead e q)) = true := by
    simp only [Bool.or_eq_true, decide_eq_true_eq]
    omega
  exact (if_neg hc).trans (if_pos h)

theorem dupTest_older {e : DupEntry} {w q : Nat} (h : 32767 < dupAhead e q) (h' : dupAhead e q < 65409) : dupTest e w q = (e, true, true) := by
  have hc : ¬ (decide (dupAhead e q = 0) || decide (65409 ≤ dupAhead e q)) = true := by
    simp only [Bool.or_eq_true, decide_eq_true_eq]
    omega
  exact (if_neg hc).trans (if_neg (Nat.not_le_of_lt h))

/-- A window moved on has bit 0 free. -/
theorem dupWindow_moved_even {e : DupEntry} {q : Nat} (w : Nat) (h0 : dupAhead e q ≠ 0) : dupWindow (dupMoved e q) w % 2 = 0 := by
  have h2 : ∀ x, x * 2 ^ dupAhead e q % 2 ^ 128 % 2 = 0 := fun x => by
    obtain ⟨d, hd⟩ := Nat.exists_eq_succ_of_ne_zero h0
    rw [Nat.mod_mod_of_dvd _ (by decide), hd, Nat.pow_succ, ← Nat.mul_assoc]
    exact Nat.mul_mod_left _ 2
  unfold dupWindow dupMoved
  split
  · exact h2 _
  · split <;> exact h2 _

/-- A number just taken is no first copy. -/
theorem dupTest_again {e : DupEntry} {w q : Nat} (hf : (dupTest e w q).2.1 = true) (hn : (dupTest e w q).2.2 = false) :
    (dupTest (dupTest e w q).1 w q).2.1 = false := by
  by_cases hin : dupAhead e q = 0 ∨ 65409 ≤ dupAhead e q
  · rw [dupTest_inside hin] at hf ⊢
    split at hf
    · cases hf
    · next hb =>
      rw [if_neg hb]
      have ha : ∀ v, dupAhead (setDupWindow e w v) q = dupAhead e q := fun v => by rw [dupAhead, (setDupWindow_keeps e w v).2.2, dupAhead]
      rw [dupTest_inside (by rw [ha]; exact hin), ha, dupWindow_set, testBit_add_two_pow (by simpa using hb), if_pos rfl, if_pos rfl]
  · by_cases hah : dupAhead e q ≤ 32767
    · rw [dupTest_ahead (by omega) hah]
      have ha : dupAhead (setDupWindow (dupMoved e q) w (dupWindow (dupMoved e q) w + 1)) q = 0 := by
        rw [dupAhead, (setDupWindow_keeps _ _ _).2.2]
        show (q + 65536 - q) % 65536 = 0
        omega
      have hb : (dupWindow (dupMoved e q) w + 1).testBit 0 = true := by
        have := dupWindow_moved_even (e := e) (q := q) w (by omega)
        rw [Nat.testBit_eq_decide_div_mod_eq]
        simp only [Nat.pow_zero, Nat.div_one, decide_eq_true_eq]
        omega
      rw [dupTest_inside (.inl ha), ha, dupWindow_set]
      rw [if_pos (by exact hb)]
    · rw [dupTest_older (by omega) (by omega)] at hn
      cases hn

/-- Settles O51, by where the number stands against the window. -/
theorem duplicatesAreTakenOnce : Obligations.DuplicatesAreTakenOnce := by
  unfold Obligations.DuplicatesAreTakenOnce
  refine ⟨fun e w q _ _ _ _ hf hn => dupTest_again hf hn, fun e w q hn => ?_, fun e w q => ?_⟩
  · by_cases hin : dupAhead e q = 0 ∨ 65409 ≤ dupAhead e q
    · rw [dupTest_inside hin] at hn
      split at hn <;> cases hn
    · by_cases hah : dupAhead e q ≤ 32767
      · rw [dupTest_ahead (by omega) hah] at hn
        cases hn
      · rw [dupTest_older (by omega) (by omega)]
  · by_cases hin : dupAhead e q = 0 ∨ 65409 ≤ dupAhead e q
    · rw [dupTest_inside hin]
      split
      · exact ⟨rfl, rfl, .inl rfl⟩
      · obtain ⟨h1, h2, h3⟩ := setDupWindow_keeps e w (dupWindow e w + 2 ^ ((65536 - dupAhead e q) % 65536))
        exact ⟨h1, h2, .inl h3⟩
    · by_cases hah : dupAhead e q ≤ 32767
      · rw [dupTest_ahead (by omega) hah]
        obtain ⟨h1, h2, h3⟩ := setDupWindow_keeps (dupMoved e q) w (dupWindow (dupMoved e q) w + 1)
        exact ⟨h1, h2, .inr ⟨h3, hah⟩⟩
      · rw [dupTest_older (by omega) (by omega)]
        exact ⟨rfl, rfl, .inl rfl⟩

/-! ### Phase registers and totals (R559, R678) -/

theorem State.poFeed_pts (s : State) (k units : Nat) : (s.poFeed k units).nrg.pts = s.nrg.pts := by
  unfold State.poFeed
  dsimp only
  have e : ∀ t : State, (t.raiseAt 0x1102 1 k k).nrg = t.nrg := fun t => by
    unfold State.raiseAt
    rw [State.raise_low _ _ _ _ _ _ (by decide) (by decide), State.raiseRecord_nrg]
  split
  · rw [e, State.put_nrg, State.put_nrg]
    rfl
  · rw [State.put_nrg, State.put_nrg]
    rfl

theorem State.poUnits_pts (s : State) (p φ r units : Nat) : (s.poUnits p φ r units).nrg.pts = s.nrg.pts := by
  unfold State.poUnits
  generalize List.range 4 = l
  induction l generalizing s with
  | nil => rfl
  | cons k l ih =>
    rw [List.foldl_cons, ih]
    split
    · exact s.poFeed_pts k units
    · rfl

theorem State.point_poUnits (s : State) (p φ r units k : Nat) : (s.poUnits p φ r units).point k = s.point k := by
  unfold State.point
  rw [State.poUnits_pts]

theorem State.point_setPoint_same (s : State) {x : NrgPoint} {p : Nat} (h : x.point = p) : (s.setPoint x).point p = x := by
  subst h
  unfold State.point State.setPoint
  dsimp only
  rw [findKey_setKey_same]
  rfl

theorem State.point_setPoint_ne (s : State) (x : NrgPoint) {k : Nat} (h : k ≠ x.point) : (s.setPoint x).point k = s.point k := by
  unfold State.point State.setPoint
  dsimp only
  rw [findKey_setKey_ne _ _ _ h]

theorem findKey_key {α : Type} {key : α → Nat} {k : Nat} {l : List α} {x : α} (h : findKey key k l = some x) : key x = k := by
  induction l with
  | nil => cases h
  | cons y l ih =>
    rw [findKey] at h
    split at h
    · next e => cases h; exact e
    · exact ih h

theorem State.point_point (s : State) (p : Nat) : (s.point p).point = p := by
  unfold State.point
  cases h : findKey NrgPoint.point p s.nrg.pts with
  | none => rfl
  | some x => exact findKey_key h

/-- A register list with units added to one register, modulo 2^64. -/
def bumped (l : List Nat) (i whole : Nat) : List Nat := l.set i ((l.getD i 0 + whole) % 2 ^ 64)

theorem bumped_getD {l : List Nat} {i : Nat} (whole : Nat) (h : i < l.length) (j : Nat) :
    (bumped l i whole).getD j 0 = if j = i then (l.getD i 0 + whole) % 2 ^ 64 else l.getD j 0 := by
  unfold bumped
  simp only [List.getD_eq_getElem?_getD, List.getElem?_set]
  by_cases e : i = j
  · rw [if_pos e, if_pos h, if_pos e.symm]
    rfl
  · rw [if_neg e, if_neg (Ne.symm e)]

/-- Units added to a phase register and to its total keep the sums. -/
theorem pointSums_bumped {l : List Nat} {φ r : Nat} (whole : Nat) (h1 : 1 ≤ φ) (h3 : φ ≤ 3) (hr : r < 7) (hl : l.length = 28)
    (hs : ∀ r, r < 7 → l.getD r 0 = (l.getD (7 + r) 0 + l.getD (14 + r) 0 + l.getD (21 + r) 0) % 2 ^ 64) :
    ∀ k, k < 7 → (bumped (bumped l (7 * φ + r) whole) r whole).getD k 0 =
      ((bumped (bumped l (7 * φ + r) whole) r whole).getD (7 + k) 0 + (bumped (bumped l (7 * φ + r) whole) r whole).getD (14 + k) 0 +
        (bumped (bumped l (7 * φ + r) whole) r whole).getD (21 + k) 0) % 2 ^ 64 := by
  intro k hk
  have hlen : (bumped l (7 * φ + r) whole).length = 28 := by rw [bumped, List.length_set, hl]
  have hin : 7 * φ + r < l.length := by omega
  have e : ∀ j, (bumped (bumped l (7 * φ + r) whole) r whole).getD j 0 = if j = r then (l.getD r 0 + whole) % 2 ^ 64 else
      if j = 7 * φ + r then (l.getD (7 * φ + r) 0 + whole) % 2 ^ 64 else l.getD j 0 := fun j => by
    rw [bumped_getD _ (by omega), bumped_getD _ hin, bumped_getD _ hin, if_neg (show r ≠ 7 * φ + r by omega)]
  have hsk := hs k hk
  rw [e, e, e, e, if_neg (show 7 + k ≠ r by omega), if_neg (show 14 + k ≠ r by omega), if_neg (show 21 + k ≠ r by omega)]
  by_cases hkr : k = r
  · subst hkr
    rw [if_pos rfl]
    have hcases : φ = 1 ∨ φ = 2 ∨ φ = 3 := by omega
    rcases hcases with rfl | rfl | rfl
    · rw [if_pos (by omega), if_neg (by omega), if_neg (by omega), show 7 * 1 + k = 7 + k by omega]
      omega
    · rw [if_neg (by omega), if_pos (by omega), if_neg (by omega), show 7 * 2 + k = 14 + k by omega]
      omega
    · rw [if_neg (by omega), if_neg (by omega), if_pos (by omega), show 7 * 3 + k = 21 + k by omega]
      omega
  · rw [if_neg hkr, if_neg (by omega), if_neg (by omega), if_neg (by omega), if_neg (by omega)]
    exact hsk
/-- The point's own record after units of a phase. -/
theorem State.point_addUnits (s : State) (p φ r x : Nat) : ∃ w h, (s.addUnits p φ r x).point p =
    { s.point p with phases := h, regs := bumped (bumped (s.point p).regs (7 * φ + r) w) r w } := by
  unfold State.addUnits
  dsimp only
  exact ⟨_, _, (State.point_poUnits _ _ _ _ _ _).trans (State.point_setPoint_same _ (s.point_point p))⟩

theorem auditPoint_of_sums {x : NrgPoint} (h : pointSums x) : auditPoint x = [] := by
  unfold auditPoint
  rw [List.flatMap_eq_nil_iff]
  intro r hr
  exact if_pos (h.2 r (List.mem_range.1 hr))

/-- Settles O39: the phase register and its total grow by the same units. -/
theorem totalsAreTheSumsOfTheirPhases : Obligations.TotalsAreTheSumsOfTheirPhases := by
  unfold Obligations.TotalsAreTheSumsOfTheirPhases
  refine ⟨fun s p φ r x h1 h3 hr hs => ?_, fun s p k φ r x _ _ _ hk => ?_, fun x => auditPoint_of_sums⟩
  · obtain ⟨w, h, e⟩ := s.point_addUnits p φ r x
    obtain ⟨hlen, hsum⟩ := hs
    rw [e]
    refine ⟨?_, pointSums_bumped w h1 h3 hr hlen hsum⟩
    simpa [bumped] using hlen
  · unfold State.addUnits
    dsimp only
    rw [State.point_poUnits, State.point_setPoint_ne _ _ (by rw [State.point_point]; exact hk)]

/-! ### The calendar's dates and times (R216, R217) -/

/-- The days of a year. -/
def yearDays (y : Nat) : Nat := if isLeap y then 366 else 365

theorem daysBeforeYear_succ {y : Nat} (h : 2000 ≤ y) : daysBeforeYear (y + 1) = daysBeforeYear y + yearDays y := by
  unfold daysBeforeYear yearDays
  rw [show y + 1 - 2000 = y - 2000 + 1 by omega, List.range_succ, List.map_append, List.sum_append]
  simp only [List.map_cons, List.map_nil, List.sum_cons, List.sum_nil, Nat.add_zero, show 2000 + (y - 2000) = y by omega]

theorem daysBeforeMonth_succ {y m : Nat} (h : 1 ≤ m) : daysBeforeMonth y (m + 1) = daysBeforeMonth y m + monthDays y m := by
  unfold daysBeforeMonth
  rw [show m + 1 - 1 = m - 1 + 1 by omega, List.range_succ, List.map_append, List.sum_append]
  simp only [List.map_cons, List.map_nil, List.sum_cons, List.sum_nil, Nat.add_zero, show m - 1 + 1 = m by omega]

theorem daysBeforeMonth_end (y : Nat) : daysBeforeMonth y 13 = yearDays y := by
  have h2 : monthDays y 2 = if isLeap y then 29 else 28 := rfl
  have h : daysBeforeMonth y 13 = 31 + (monthDays y 2 + 306) := by
    simp [daysBeforeMonth, List.range_succ, monthDays]
  rw [h, h2, yearDays]
  split <;> rfl

/-- The year of a day of the range that begins with year `y` and has `k + 1` years, and the day within it. -/
theorem yearOf_spec {k y d : Nat} (h : 2000 ≤ y) (hd : daysBeforeYear y + d < daysBeforeYear (y + k + 1)) :
    daysBeforeYear (yearOf k y d).1 + (yearOf k y d).2 = daysBeforeYear y + d ∧ y ≤ (yearOf k y d).1 ∧ (yearOf k y d).1 ≤ y + k ∧
      (yearOf k y d).2 < yearDays (yearOf k y d).1 := by
  induction k generalizing y d with
  | zero =>
    rw [Nat.add_zero, daysBeforeYear_succ h] at hd
    exact ⟨rfl, Nat.le_refl _, Nat.le_refl _, Nat.lt_of_add_lt_add_left hd⟩
  | succ k ih =>
    have e : yearOf (k + 1) y d = if d < yearDays y then (y, d) else yearOf k (y + 1) (d - yearDays y) := rfl
    rw [e]
    split
    · next hlt => exact ⟨rfl, Nat.le_refl _, Nat.le_add_right _ _, hlt⟩
    · next hge =>
      have hs := daysBeforeYear_succ h
      obtain ⟨h1, h2, h3, h4⟩ := ih (y := y + 1) (d := d - yearDays y) (by omega) (by rw [show y + 1 + k + 1 = y + (k + 1) + 1 by omega]; omega)
      exact ⟨by omega, by omega, by omega, h4⟩

theorem monthOf_spec {y k m d : Nat} (h : 1 ≤ m) (hd : daysBeforeMonth y m + d < daysBeforeMonth y (m + k + 1)) :
    daysBeforeMonth y (monthOf y k m d).1 + (monthOf y k m d).2 = daysBeforeMonth y m + d ∧ m ≤ (monthOf y k m d).1 ∧
      (monthOf y k m d).1 ≤ m + k ∧ (monthOf y k m d).2 < monthDays y (monthOf y k m d).1 := by
  induction k generalizing m d with
  | zero =>
    rw [Nat.add_zero, daysBeforeMonth_succ h] at hd
    exact ⟨rfl, Nat.le_refl _, Nat.le_refl _, Nat.lt_of_add_lt_add_left hd⟩
  | succ k ih =>
    rw [monthOf]
    split
    · next hlt => exact ⟨rfl, Nat.le_refl _, Nat.le_add_right _ _, hlt⟩
    · next hge =>
      have hs := daysBeforeMonth_succ (y := y) h
      obtain ⟨h1, h2, h3, h4⟩ := ih (m := m + 1) (d := d - monthDays y m) (by omega)
        (by rw [show m + 1 + k + 1 = m + (k + 1) + 1 by omega]; omega)
      exact ⟨by omega, by omega, by omega, h4⟩

theorem monthDays_le (y m : Nat) : monthDays y m ≤ 31 := by
  unfold monthDays
  split
  · split <;> decide
  · split <;> decide

/-- The calendar's range ends where 2200 begins. -/
theorem daysBeforeYear_end : daysBeforeYear 2200 = calDays := by decide +kernel

/-- The year, month and day of a day of the calendar's range. -/
theorem civilOf_spec {d : Nat} (h : d < calDays) : ∃ y m k, civilOf d = (y, m, k + 1) ∧ 2000 ≤ y ∧ y ≤ 2199 ∧ 1 ≤ m ∧ m ≤ 12 ∧
    k < monthDays y m ∧ daysBeforeYear y + daysBeforeMonth y m + k = d := by
  obtain ⟨h1, h2, h3, h4⟩ := yearOf_spec (k := 199) (y := 2000) (d := d) (Nat.le_refl _) (by
    rw [show 2000 + 199 + 1 = 2200 from rfl, daysBeforeYear_end, show daysBeforeYear 2000 = 0 from rfl]
    omega)
  unfold civilOf
  generalize yearOf 199 2000 d = p at h1 h2 h3 h4
  obtain ⟨y, r⟩ := p
  obtain ⟨k1, k2, k3, k4⟩ := monthOf_spec (y := y) (k := 11) (m := 1) (d := r) (Nat.le_refl _) (by
    rw [show 1 + 11 + 1 = 13 from rfl, daysBeforeMonth_end, show daysBeforeMonth y 1 = 0 from rfl]
    dsimp only at h4
    omega)
  dsimp only at h1 h2 h3
  dsimp only
  generalize monthOf y 11 1 r = q at k1 k2 k3 k4
  obtain ⟨m, k⟩ := q
  rw [show daysBeforeMonth y 1 = 0 from rfl] at k1
  rw [show daysBeforeYear 2000 = 0 from rfl] at h1
  exact ⟨y, m, k, rfl, h2, h3, k2, k3, k4, by dsimp only at k1; omega⟩

/-- The fields of a date word. -/
theorem dateWord_fields {y m k w : Nat} (hy : y ≤ 2199) (hm : m ≤ 12) (hk : k ≤ 31) (hw : w ≤ 7) :
    (y * 2 ^ 16 + w * 2 ^ 12 + m * 2 ^ 8 + k) / 2 ^ 16 % 2 ^ 12 = y ∧ (y * 2 ^ 16 + w * 2 ^ 12 + m * 2 ^ 8 + k) / 2 ^ 8 % 16 = m ∧
    (y * 2 ^ 16 + w * 2 ^ 12 + m * 2 ^ 8 + k) % 32 = k ∧ (y * 2 ^ 16 + w * 2 ^ 12 + m * 2 ^ 8 + k) / 2 ^ 12 % 8 = w := by
  omega

theorem timeWord_fields {x : Nat} (h : x < 86400) : timeWord x / 2 ^ 16 % 32 = x / 3600 ∧ timeWord x / 2 ^ 8 % 64 = x / 60 % 60 ∧
    timeWord x % 64 = x % 60 := by
  have h1 : x / 3600 ≤ 23 := by omega
  have h2 : x / 60 % 60 < 60 := Nat.mod_lt _ (by decide)
  have h3 : x % 60 < 60 := Nat.mod_lt _ (by decide)
  unfold timeWord
  generalize x / 3600 = a at h1 ⊢
  generalize x / 60 % 60 = b at h2 ⊢
  generalize x % 60 = c at h3 ⊢
  omega

/-- Settles O46: the year and the month of a day by the recursions of `civilOf`, the words by their fields. -/
theorem datesConvertBothWays : Obligations.DatesConvertBothWays := by
  unfold Obligations.DatesConvertBothWays
  refine ⟨fun d w hd h1 h7 => ?_, fun x hx => ?_⟩
  · obtain ⟨y, m, k, e, hy0, hy1, hm0, hm1, hk, hsum⟩ := civilOf_spec hd
    have h31 := monthDays_le y m
    have ew : dateWord d w = y * 2 ^ 16 + w * 2 ^ 12 + m * 2 ^ 8 + (k + 1) := by
      unfold dateWord
      rw [e]
    obtain ⟨f1, f2, f3, f4⟩ := dateWord_fields (y := y) (m := m) (k := k + 1) (w := w) hy1 hm1 (by omega) h7
    rw [ew]
    refine ⟨?_, f4, ?_⟩
    · unfold dayOfDate
      rw [f1, f2, f3]
      exact hsum
    · unfold stagedOk
      rw [f1, f2, f3, f4]
      simp only [Bool.and_eq_true, decide_eq_true_eq]
      omega
  · obtain ⟨f1, f2, f3⟩ := timeWord_fields hx
    refine ⟨?_, ?_⟩
    · unfold secOfTime
      rw [f1, f2, f3]
      omega
    · obtain ⟨g1, g2, -, g4⟩ := dateWord_fields (y := 2000) (m := 1) (k := 1) (w := 6) (by decide) (by decide) (by decide) (by decide)
      rw [show dateWord 0 6 = 2000 * 2 ^ 16 + 6 * 2 ^ 12 + 1 * 2 ^ 8 + 1 by decide]
      unfold stagedOk
      simp only [f1, f2, f3, g1, g2, g4]
      simp only [Bool.and_eq_true, decide_eq_true_eq, show monthDays 2000 1 = 31 from rfl]
      omega

/-! ### The increment and armed steps (R188, R190, R211) -/

theorem State.computing_of_slots {s t : State} (h : t.slots = s.slots) : t.computing = s.computing := by
  unfold State.computing
  rw [h]

theorem incrRange_le (c : Bool) : (incrRange c).1 ≤ (incrRange c).2 := by cases c <;> decide

/-- What an increment is cut to. -/
def incrClamped (c : Bool) (v : Nat) : Nat := if v < (incrRange c).1 then (incrRange c).1 else if (incrRange c).2 < v then (incrRange c).2 else v

theorem incrClamped_range (c : Bool) (v : Nat) : (incrRange c).1 ≤ incrClamped c v ∧ incrClamped c v ≤ (incrRange c).2 := by
  have := incrRange_le c
  unfold incrClamped
  split
  · omega
  · split <;> omega

theorem incrClamped_of_range {c : Bool} {v : Nat} (h1 : (incrRange c).1 ≤ v) (h2 : v ≤ (incrRange c).2) : incrClamped c v = v := by
  unfold incrClamped
  rw [if_neg (by omega), if_neg (by omega)]

theorem State.applyIncr_left (s : State) (v : Nat) : (s.applyIncr v).tim.incr = incrClamped s.computing v ∧ (s.applyIncr v).slots = s.slots ∧
    (s.applyIncr v).rings = s.rings ∧ (s.applyIncr v).time = s.time := by
  have e : ∃ t : State, (s.applyIncr v = t ∨ s.applyIncr v = t.put Reg.TIM_STATUS_INCR_CLAMP 1) ∧ t.tim.incr = incrClamped s.computing v ∧
      t.slots = s.slots ∧ t.rings = s.rings ∧ t.time = s.time := by
    refine ⟨{ s with tim := { s.tim with
      incr := incrClamped s.computing v, history := (s.time, incrClamped s.computing v) :: keepFrom (s.time - meanSpan) s.tim.history } },
      ?_, rfl, rfl, rfl, rfl⟩
    by_cases hv : incrClamped s.computing v = v
    · exact .inl (if_pos hv)
    · exact .inr (if_neg hv)
  obtain ⟨t, ht | ht, h1, h2, h3, h4⟩ := e
  · rw [ht]
    exact ⟨h1, h2, h3, h4⟩
  · rw [ht, State.put_tim, State.put_slots, State.put_rings, State.put_time]
    exact ⟨h1, h2, h3, h4⟩

theorem incrHiWrite_eq {s : State} {data : Word} (hb : s.st ≠ stBoot) : incrHiWrite data s =
    (s.put Reg.TIM_INCR_HI_INT (data.field 0 8)).applyIncr (data.field 0 8 * 2 ^ 32 + s.get Reg.TIM_INCR_LO_FRAC) := by
  unfold incrHiWrite
  rw [if_neg hb]
  dsimp only
  rw [State.get_put_other _ _ (by decide)]

theorem stepHiWrite_zero {s : State} {data : Word} (hb : s.st ≠ stBoot) (h : signed 64 (data.toNat * 2 ^ 32 + s.get Reg.TIM_STEP_LO_NS) = 0) :
    stepHiWrite data s = ({ s.put Reg.TIM_STEP_HI_NS data.toNat with tim := { s.tim with armed := none } }.put Reg.TIM_STATUS_STEP_PEND 0).event 17 := by
  unfold stepHiWrite
  rw [if_neg hb]
  dsimp only
  rw [State.get_put_other _ _ (by decide), if_pos h, State.put_tim]

theorem stepHiWrite_refused {s : State} {data : Word} {v : Int} (hb : s.st ≠ stBoot)
    (hv : v = signed 64 (data.toNat * 2 ^ 32 + s.get Reg.TIM_STEP_LO_NS)) (h0 : v ≠ 0) (hc : s.computing = true) (h : 1000 < v.natAbs) :
    stepHiWrite data s = ((({ s.put Reg.TIM_STEP_HI_NS data.toNat with tim := { s.tim with armed := none } }.put Reg.TIM_STATUS_STEP_PEND 0).put
      Reg.TIM_STATUS_STEP_REFUSED 1).event 18).raise1 0x0405 0 (s.get Reg.TIM_STEP_LO_NS) := by
  unfold stepHiWrite
  rw [if_neg hb]
  dsimp only
  rw [State.get_put_other _ _ (by decide), ← hv, if_neg h0, State.computing_of_slots (State.put_slots _ _ _), hc,
    if_pos (by simpa using h), State.put_tim]

theorem stepHiWrite_armed {s : State} {data : Word} {v : Int} (hb : s.st ≠ stBoot)
    (hv : v = signed 64 (data.toNat * 2 ^ 32 + s.get Reg.TIM_STEP_LO_NS)) (h0 : v ≠ 0) (h : s.computing = false ∨ v.natAbs ≤ 1000) :
    stepHiWrite data s = { s.put Reg.TIM_STEP_HI_NS data.toNat with tim := { s.tim with armed := some v, armedAt := s.time } }.put
      Reg.TIM_STATUS_STEP_PEND 1 := by
  have hn : ¬ (s.computing && decide (1000 < v.natAbs)) = true := by
    rcases h with h | h
    · simp [h]
    · simp [Nat.not_lt.2 h]
  unfold stepHiWrite
  rw [if_neg hb]
  dsimp only
  rw [State.get_put_other _ _ (by decide), ← hv, if_neg h0, State.computing_of_slots (State.put_slots _ _ _), if_neg hn, State.put_tim]

/-- Settles O43: the increment by its clamp, the step by the three answers of its write. -/
theorem incrementStaysPermitted : Obligations.IncrementStaysPermitted := by
  unfold Obligations.IncrementStaysPermitted
  refine ⟨fun s data hb => ?incr, fun s a b data hb hd h0 ha hbb => ?disarm, fun s data v hb hv h0 hc hlong => ?refused,
    fun s data v hb hv h0 h => ?armed, fun s data hb => ?boot⟩
  case incr =>
    obtain ⟨h1, h2, h3, h4⟩ := (s.put Reg.TIM_INCR_HI_INT (data.field 0 8)).applyIncr_left (data.field 0 8 * 2 ^ 32 + s.get Reg.TIM_INCR_LO_FRAC)
    rw [State.computing_of_slots (State.put_slots _ _ _)] at h1
    refine ⟨_, rfl, ?_⟩
    rw [incrHiWrite_eq hb, h1, h2, h3, h4]
    generalize data.field 0 8 * 2 ^ 32 + s.get Reg.TIM_INCR_LO_FRAC = v
    obtain ⟨hlo, hhi⟩ := incrClamped_range s.computing v
    exact ⟨hlo, hhi, incrClamped_of_range, State.put_slots _ _ _, State.put_rings _ _ _, State.put_time _ _ _⟩
  case disarm =>
    subst hd ha hbb
    rw [exec_stepHiWrite, stepHiWrite_zero hb (by rw [h0]; decide), State.put_tim]
    rfl
  case refused =>
    refine ⟨_, rfl, ?_⟩
    rw [stepHiWrite_refused hb hv h0 hc hlong, State.raise1, State.raise_low _ _ _ _ _ _ (by decide) (by decide), State.raiseRecord_tim,
      State.event_tim, State.put_tim, State.put_tim, State.raiseRecord_slots, State.event_slots, State.put_slots, State.put_slots]
    have hpend : Reg.TIM_STATUS_STEP_REFUSED.Apart Reg.TIM_STATUS_STEP_PEND := by decide
    refine ⟨rfl, ?_, ?_, ?_, State.put_slots _ _ _⟩ 
    all_goals refine (congrArg (· == 1) (State.get_raiseRecord _ _ _ _ _ _ (by decide) (by decide) (by decide) (by decide) (by decide))).trans ?_
    · rw [State.get_event_other _ _ (by decide), State.get_put_other _ _ hpend, State.get_put _ _ (by decide)]
      rfl
    · rw [State.get_event_other _ _ (by decide), State.get_put _ _ (by decide)]
      rfl
    · exact State.srcFlag_event _ 18 (by decide)
  case armed =>
    refine ⟨_, rfl, ?_⟩
    rw [stepHiWrite_armed hb hv h0 h, State.put_tim, State.put_faults]
    refine ⟨rfl, ?_, by simp⟩
    unfold State.flag
    rw [State.get_put _ _ (by decide)]
    rfl
  case boot =>
    exact ⟨by rw [exec_incrHiWrite, incrHiWrite, if_pos hb], by rw [exec_stepHiWrite, stepHiWrite, if_pos hb]⟩

/-! ### Source flags and vectors (R62, R63) -/

/-- No source flag stands in the word that routes a source, nor in HIF.LINK, nor among the MSI-X structures. -/
theorem srcLoc_notRouting (i j : Nat) (hi : i < 1472) : (srcLoc i).1 ≠ 0x191000 + 4 * j ∨ 1472 ≤ j := by
  unfold srcLoc
  iterate 26 refine ite_elim (P := fun p : Nat × Nat => p.1 ≠ 0x191000 + 4 * j ∨ 1472 ≤ j) (fun _ => by dsimp only; omega) fun _ => ?_
  dsimp only
  omega

theorem srcLoc_notLink (i : Nat) : (srcLoc i).1 ≠ 0x20010 := by
  unfold srcLoc
  iterate 26 refine ite_elim (P := fun p : Nat × Nat => p.1 ≠ 0x20010) (fun _ => by dsimp only; omega) fun _ => ?_
  dsimp only
  omega

theorem msixPend_fits (v : Nat) : (msixPend v).lo + (msixPend v).width ≤ 32 := by
  unfold msixPend
  dsimp only
  omega

/-- Writing another field leaves whether a vector can be sent. -/
theorem State.msixOpen_put (s : State) {f : Field} (x v : Nat) (hf : f.lo + f.width ≤ 32) (h1 : f.addr < 0x400000)
    (h2 : f.Apart Reg.HIF_LINK_BME) : (s.put f x).msixOpen v = s.msixOpen v := by
  unfold State.msixOpen
  rw [State.flag_put_other _ _ h2, State.flag_put_other _ _ ⟨hf, by decide, .inl (by simp only [msixEnable]; omega)⟩,
    State.flag_put_other _ _ ⟨hf, by decide, .inl (by simp only [msixFnMask]; omega)⟩,
    State.flag_put_other _ _ ⟨hf, by simp [msixMask], .inl (by simp only [msixMask]; omega)⟩]

/-- The first occurrence of a source sets its flag, and signals the vector routed to it. -/
theorem State.event_first {s : State} {i : Nat} (hi : i < 1472) (h : s.srcFlag i = false) : s.event i =
    if s.flag (Reg.EVT_SRC_MSIX_EN i) then (s.put (srcField i) 1).signal (s.get (Reg.EVT_SRC_VECTOR i)) else s.put (srcField i) 1 := by
  have hne := srcLoc_notRouting i i hi
  have h1 : (srcField i).Apart (Reg.EVT_SRC_MSIX_EN i) := ⟨srcField_fits i, by simp [Reg.EVT_SRC_MSIX_EN],
    .inl (by simp only [srcField, Reg.EVT_SRC_MSIX_EN]; omega)⟩
  have h2 : (srcField i).Apart (Reg.EVT_SRC_VECTOR i) := ⟨srcField_fits i, by simp [Reg.EVT_SRC_VECTOR],
    .inl (by simp only [srcField, Reg.EVT_SRC_VECTOR]; omega)⟩
  unfold State.event
  rw [h, if_neg Bool.false_ne_true]
  dsimp only
  rw [State.flag_put_other _ _ h1, State.get_put_other _ _ h2]

theorem State.msixOpen_srcFlag (s : State) {i : Nat} (hi : i < 1472) (v : Nat) : (s.put (srcField i) 1).msixOpen v = s.msixOpen v :=
  s.msixOpen_put 1 v (srcField_fits i) (srcLoc_lt i hi) ⟨srcField_fits i, by decide, .inl (Ne.symm (srcLoc_notLink i))⟩

theorem State.flag_put_one (s : State) {f : Field} (h : f.lo + f.width ≤ 32) (h1 : f.width = 1) : (s.put f 1).flag f = true := by
  unfold State.flag
  rw [State.get_put _ _ h, h1]
  rfl

/-- Settles O31, by the branches of an occurrence and of a write of its routing. -/
theorem sourceFlagsSignalVectors : Obligations.SourceFlagsSignalVectors := by
  unfold Obligations.SourceFlagsSignalVectors
  refine ⟨fun s i hi hf => ?again, fun s i hi hf hen => ?unrouted, fun s i hi hf hen hopen => ?sent, fun s i hi hf hen hopen => ?pending,
    fun s i data hi hb => ?boot, fun s i data h192 hi hb hen hv => ?outside, fun s a i data hi hb hok ha => ?routed, fun s a v hv ha => ?unmask⟩
  case again =>
    rw [exec_msixSignal, if_pos hi, s.event_set i hf]
  case unrouted =>
    rw [exec_msixSignal, if_pos hi, State.event_first hi hf, hen, if_neg Bool.false_ne_true]
  case sent =>
    refine ⟨_, rfl, ?_⟩
    rw [if_pos hi]
    have e : s.event i = (s.put (srcField i) 1).emit (.msix (s.get (Reg.EVT_SRC_VECTOR i))) := by
      rw [State.event_first hi hf, hen, if_pos rfl, State.signal, State.msixOpen_srcFlag s hi, hopen, if_pos rfl]
    refine ⟨s.srcFlag_event i hi, ?_, State.event_rings s i, State.event_faults s i, fun a ha => ?_⟩
    · rw [e, State.emit, State.put_outbox]
    · rw [e, State.rd_emit, State.rd_put_ne _ _ (srcField_fits i) ha]
  case pending =>
    refine ⟨_, rfl, ?_⟩
    rw [if_pos hi]
    have e : s.event i = (s.put (srcField i) 1).put (msixPend (s.get (Reg.EVT_SRC_VECTOR i))) 1 := by
      rw [State.event_first hi hf, hen, if_pos rfl, State.signal, State.msixOpen_srcFlag s hi, hopen, if_neg Bool.false_ne_true]
    refine ⟨s.srcFlag_event i hi, ?_, ?_⟩
    · rw [e]
      exact State.flag_put_one _ (msixPend_fits _) rfl
    · rw [e, State.put_outbox, State.put_outbox]
  case boot =>
    rw [exec_evtSrcWrite, evtSrcWrite, if_neg (Nat.not_le_of_lt hi), if_pos hb]
  case outside =>
    rw [exec_evtSrcWrite, evtSrcWrite, if_neg (Nat.not_le_of_lt hi), if_neg hb, if_pos (by simp [h192, hen, hv])]
  case routed =>
    have hn : ¬ (decide (192 ≤ i) && decide (data.field 11 1 = 1) && !s.vectorOk (s.srcOwner i) (data.field 0 11)) = true := by
      rcases hok with h | h | h
      · simp [Nat.not_le_of_lt h]
      · simp [h]
      · simp [h]
    rw [exec_evtSrcWrite, evtSrcWrite, if_neg (Nat.not_le_of_lt hi), if_neg hb, if_neg hn]
    dsimp only
    rw [← ha]
    congr 1
    simp [and_assoc]
  case unmask =>
    rw [exec_msixVectorUnmask, msixVectorUnmask, if_neg (by omega), ← ha, State.flushMsix]
    simp only [Bool.and_eq_true]

/-! ### Reads and writes of registers (R46–R50, R54, R60) -/

/-- A whole word written to a block, while the BAR is served. -/
theorem registerWrite_block {s : State} {addr : Nat} {data : Word} (hb : s.barServed = true) (hm : s.mainAbsent = false) (h4 : addr % 4 = 0)
    (h : addr < 0x200000) : registerWrite addr data 15 s = s.blockWrite addr data := by
  unfold registerWrite
  rw [if_neg (by simp [hb, hm]), if_neg (by simp [h4]), if_pos h]

theorem registerWrite_page {s : State} {addr : Nat} {data : Word} (hb : s.barServed = true) (hm : s.mainAbsent = false) (h4 : addr % 4 = 0)
    (h : 0x200000 ≤ addr) : registerWrite addr data 15 s = s.pageWrite addr data := by
  unfold registerWrite
  rw [if_neg (by simp [hb, hm]), if_neg (by simp [h4]), if_neg (Nat.not_lt.2 h)]

theorem registerWrite_partial {s : State} {addr bytes : Nat} {data : Word} (hb : s.barServed = true) (hm : s.mainAbsent = false)
    (h : addr < 0x200000) (hp : addr % 4 ≠ 0 ∨ bytes ≠ 15) : registerWrite addr data bytes s = s.badAccess 2 addr := by
  unfold registerWrite
  rw [if_neg (by simp [hb, hm]), if_pos (by simpa using hp), if_pos h]

/-- The block and the offset of an address. -/
theorem blockAddr {blk off : Nat} (h : off < 0x10000) : (blk * 0x10000 + off) / 0x10000 = blk ∧ (blk * 0x10000 + off) % 0x10000 = off := by omega

theorem State.blockWrite_field {s : State} {blk off k : Nat} {data : Word} {r : RegSpec} (hblk : blk ≤ 25) (h0 : 0x10 ≤ off) (h : off < 0x10000)
    (hr : findSpec off (blockSpecs blk) = some (r, k)) : s.blockWrite (blk * 0x10000 + off) data = s.fieldWrite blk off data r k := by
  obtain ⟨h1, h2⟩ := blockAddr (blk := blk) h
  unfold State.blockWrite
  dsimp only
  rw [h1, h2, if_neg (by omega), if_neg (by omega), if_neg (by omega), if_neg (by omega), hr]

section
variable {s : State} {blk off k : Nat} {data : Word} {r : RegSpec}

/-- A write to a register without a writable field, outside RTC whose alarms take the write as commands. -/
theorem State.fieldWrite_readOnly (h : (r.fields.any fun f => f.inWord k && f.writable) = false) (h5 : blk ≠ 5) :
    s.fieldWrite blk off data r k = if r.fields.any (fun f => f.acc == .rc) then s else s.badAccess 1 (blk * 0x10000 + off) := by
  unfold State.fieldWrite
  dsimp only
  rw [h, if_pos (by simp [h5])]

theorem State.fieldWrite_writable (h : (r.fields.any fun f => f.inWord k && f.writable) = true) :
    s.fieldWrite blk off data r k =
      if s.placeRo blk off then s.badAccess 1 (blk * 0x10000 + off)
      else if s.st = stBoot then s.reject blk off 3
      else match rowWrite blk off data r.fields s with
        | some t => t
        | none => match s.refusal blk off data r k with
          | some n => (s.eventIf (blk == 18 && n == 3) 141).reject blk off n
          | none => s.applyWrite blk off data r k := by
  unfold State.fieldWrite
  dsimp only
  rw [h, if_neg (by simp)] <;> rfl

end

theorem State.pageWrite_doorbell {s : State} {slice k : Nat} {data : Word} (hs : slice ≤ 255) (hk : k ≤ 63) :
    s.pageWrite (0x200000 + 0x1000 * slice + 4 * k) data = doorbell slice k data.toNat s := by
  have e1 : (0x200000 + 0x1000 * slice + 4 * k - 0x200000) / 0x1000 = slice := by omega
  have e2 : (0x200000 + 0x1000 * slice + 4 * k) % 0x1000 = 4 * k := by omega
  unfold State.pageWrite
  dsimp only
  rw [e1, e2, if_neg (by omega), if_neg (by omega), if_neg (by omega), if_pos (by omega), Nat.mul_div_cancel_left _ (by decide)]

theorem State.pageWrite_evclr {s : State} {slice k : Nat} {data : Word} (hs : slice ≤ 255) (hk : k ≤ 63) :
    s.pageWrite (0x200100 + 0x1000 * slice + 4 * k) data = evclr slice k data.toNat s := by
  have e1 : (0x200100 + 0x1000 * slice + 4 * k - 0x200000) / 0x1000 = slice := by omega
  have e2 : (0x200100 + 0x1000 * slice + 4 * k) % 0x1000 = 0x100 + 4 * k := by omega
  unfold State.pageWrite
  dsimp only
  rw [e1, e2, if_neg (by omega), if_neg (by omega), if_neg (by omega), if_neg (by omega), if_pos (by omega), Nat.add_sub_cancel_left,
    Nat.mul_div_cancel_left _ (by decide)]

/-- A read of a block's own register, outside the ranges with reads of their own. -/
theorem State.wordRead_block {s : State} {blk off counts : Nat} (hblk : blk ≤ 25) (h4 : blk ≠ 4) (h5 : blk ≠ 5) (h20 : blk ≠ 20) (h0 : 0x10 ≤ off)
    (h : off < 0x10000) : s.wordRead (blk * 0x10000 + off) counts =
      match findSpec (shadowOf blk off) (blockSpecs blk) with
      | some (r, k) => if shadowOf blk off = off || r.isT then s.fieldRead (blk * 0x10000 + off) (shadowOf blk off) r k
          else (s.badAccess 0 (blk * 0x10000 + off), 0)
      | none => (s.badAccess 0 (blk * 0x10000 + off), 0) := by
  obtain ⟨h1, h2⟩ := blockAddr (blk := blk) h
  have hlatch : ¬ isTimeLatch (blk * 0x10000 + off) = true := by
    simp only [isTimeLatch, Bool.or_eq_true, beq_iff_eq]
    omega
  unfold State.wordRead
  dsimp only
  rw [h1, h2, if_neg (by omega), if_neg (by omega), if_neg (by omega), if_neg hlatch, if_neg (by omega), if_neg (by omega),
    if_neg (by simp [h5])] <;> rfl

/-- Settles O60: each access by the branch that serves it. -/
theorem registerAccessesAreServed : Obligations.RegisterAccessesAreServed := by
  unfold Obligations.RegisterAccessesAreServed
  refine ⟨fun s addr bytes data hb hm h hp => ?misaligned, fun s addr data hb hm h h4 hres => ?reserved, fun s blk off data hb hm hblk hoff => ?common,
    fun s blk off k data r hb hm hblk h0 h h4 hr => ?field, fun s blk off k data r h h5 => State.fieldWrite_readOnly h h5,
    fun s blk off k data r h => ?writable, fun s slice k data hb hm hs hk => ?page, fun s slice k data x hr hx => ?evclr,
    fun s a addr width counts w hb hw => ?read, fun s addr counts h1 h2 => ?readReserved, fun s addr counts h => if_pos h,
    fun s blk off counts hblk hoff => ?readCommon, fun s blk off o counts hblk h4 h5 h20 h0 h ho => ?readField,
    fun s a o k b v r hl => ?latched, fun s t a o k r hl ht => ?plain⟩
  case misaligned =>
    rw [exec_registerWrite, registerWrite_partial hb hm h hp]
  case reserved =>
    rw [exec_registerWrite, registerWrite_block hb hm h4 h, State.blockWrite]
    rw [if_pos (by omega)]
  case common =>
    obtain ⟨h1, h2⟩ := blockAddr (blk := blk) (off := off) (by omega)
    rw [exec_registerWrite, registerWrite_block hb hm (by omega) (by omega), State.blockWrite]
    rw [h1, h2, if_neg (by omega), if_pos (by omega)]
  case field =>
    rw [exec_registerWrite, registerWrite_block hb hm (by omega) (by omega), State.blockWrite_field hblk h0 h hr]
  case writable =>
    rw [State.fieldWrite_writable h]
    refine ⟨fun hp => by rw [if_pos hp], fun hp hst => ?_, fun t hp hst hrow => ?_, fun n hp hst hrow hn => ?_, fun hp hst hrow hn => ?_⟩
    all_goals rw [hp, if_neg Bool.false_ne_true]
    · rw [if_pos hst]
    · rw [if_neg hst, hrow]
    · rw [if_neg hst, hrow, hn]
    · rw [if_neg hst, hrow, hn]
  case page =>
    rw [exec_registerWrite, exec_registerWrite, exec_doorbell, exec_evclr, registerWrite_page hb hm (by omega) (by omega),
      registerWrite_page hb hm (by omega) (by omega), State.pageWrite_doorbell hs hk, State.pageWrite_evclr hs hk]
    exact ⟨rfl, rfl⟩
  case evclr =>
    rw [exec_evclr, evclr, hx]
    dsimp only
    rw [hr, if_neg (by simp)]
  case read =>
    rw [exec_registerRead, registerRead, hw]
    dsimp only
    rw [hb, if_pos (by simp)]
    rfl
  case readReserved =>
    unfold State.wordRead
    dsimp only
    rw [if_neg (by omega), if_pos (by omega)]
  case readCommon =>
    obtain ⟨h1, h2⟩ := blockAddr (blk := blk) (off := off) (by omega)
    unfold State.wordRead
    dsimp only
    rw [h1, h2, if_neg (by omega), if_neg (by omega), if_pos hoff]
  case readField =>
    subst ho
    rw [State.wordRead_block hblk h4 h5 h20 h0 h]
    refine ⟨fun hn => by rw [hn], fun r k hr hne hT => ?_, fun r k hr hor => ?_⟩
    · rw [hr]
      exact if_neg (by simp [hne, hT])
    · rw [hr]
      exact if_pos (by simpa using hor)
  case latched =>
    unfold State.fieldRead
    rw [hl]
  case plain =>
    unfold State.fieldRead
    rw [hl]
    simp only [Bool.or_eq_true, Bool.and_eq_true, decide_eq_true_eq, ← ht]

end Sys2Proof.Machine

/-! The reckoner, the switch core and the sampled values. -/

namespace Sys2Proof.Machine

/-! ### The reckoner (R603, R604, R611–R627) -/

theorem rckModelLoad_eq {s : State} {q : Req} {len mode : Nat} {buf : List Nat} (h : s.reaches 0x80 q = true) (hv : q.version = 1) :
    rckModelLoad q len mode buf s =
      if (s.loadCheck (q.ring.isNone && !s.keys.console) q.slice len mode buf).1 ≠ .ok then
        s.complete q (s.loadCheck (q.ring.isNone && !s.keys.console) q.slice len mode buf).1
          (s.loadCheck (q.ring.isNone && !s.keys.console) q.slice len mode buf).2 0
      else
        ((((((cutRecs (len / 16 + 1) (buf.take len)).1.map rckRecOf).foldl (fun s r => s.loadRec r)
          (if mode = 0 then s.rckClear q.slice else s)).showEst.event 151).complete q .ok
          (((cutRecs (len / 16 + 1) (buf.take len)).1.map rckRecOf).length -
            (((cutRecs (len / 16 + 1) (buf.take len)).1.map rckRecOf).foldl
              (fun (a : List RckRec × Nat) r => ((applyRec a.1 r).1, if (applyRec a.1 r).2 then a.2 + 1 else a.2))
              ((if mode = 0 then s.rckClear q.slice else s).rck.model, 0)).2) 0)) := by
  unfold rckModelLoad
  rw [h, if_neg (by simp), if_neg (by simp [hv])]

/-- The end of a solve with what its solver reached. -/
theorem solveEnd_eq {s : State} {r : SolveResult} {c : RckSolve} {o : Nat} {g : Qp} {t : Solver} (hc : s.rck.cur = some c)
    (hr : (s.advance (r.now * nsUnit)).solveRun c r = (o, g, t)) : solveEnd r s = (s.advance (r.now * nsUnit)).solveDone c r o g t := by
  obtain ⟨f, hf⟩ : ∃ f, State.solveDone = f := ⟨_, rfl⟩
  obtain ⟨k, hk⟩ : ∃ f, State.solveRun = f := ⟨_, rfl⟩
  obtain ⟨a, ha⟩ : ∃ a, s.advance (r.now * nsUnit) = a := ⟨_, rfl⟩
  rw [hk, ha] at hr
  unfold solveEnd
  rw [hf, hk, ha, hc]
  dsimp only
  rw [hr]

/-- Settles O58, one command per clause. -/
theorem reckonerLoadsSolvesReleases : Obligations.ReckonerLoadsSolvesReleases := by
  unfold Obligations.ReckonerLoadsSolvesReleases
  refine ⟨fun s q len mode buf rs b h hv hok hrs hb => ?load, fun s q len mode res st buf h hv hst hne => ?loadFails,
    fun s q len mode buf hv => ?version, fun s q len buf l h hv hl => ?rules, fun s a b q cold now ha ht hrun hen hidle hb => ?solveNow,
    fun s a q cold now ha ht => ?solveNowFails, fun s a now hen hsol hst hper hns ha => ?solveStart,
    fun s a b r c o g t hc ha hrun hb => ?solveEnd, fun s now fail hm hd hns => ?release, fun s a b now fail low hm hmode hns ha hlow hb => ?headroom,
    fun s slice b fail => ?batchFails, fun s a slice seq half b c hlen hbme hseq hhalf hc ha => ?batch⟩
  case load =>
    subst hrs hb
    rw [exec_rckModelLoad, rckModelLoad_eq h hv, hok, if_neg (by simp)]
  case loadFails =>
    rw [exec_rckModelLoad, rckModelLoad_eq h hv, hst, if_pos hne]
  case version =>
    refine ⟨fun h => ?_, fun h => ?_⟩
    · rw [exec_rckModelLoad, rckModelLoad, h, if_neg (by simp), if_pos hv]
    · rw [exec_rckRulesLoad, rckRulesLoad, h, if_neg (by simp), if_pos hv]
  case rules =>
    have e : ∀ x : Option Nat, l.findIdx? (fun b => !ruleOk s.rck.model b) = x → rckRulesLoad q len buf s = match x with
      | some i => s.complete q .param i 0
      | none =>
        if len % 40 ≠ 0 || decide (buf.length < len) then s.complete q .param 0xFFFFFFFF 0
        else if (q.ring.isNone && !s.keys.console) || (l.map ruleOf).any fun r => !s.rckOwns q.slice r.node then s.complete q .priv 0 0
        else if !stRun.contains s.st then s.complete q .state 0 0
        else ({ s with rck := { s.rck with rules := (s.rck.rules.filter fun (r : RckRule) => !s.rckOwns q.slice r.node) ++ l.map ruleOf } }.event
          151).complete q .ok (l.map ruleOf).length 0 := by
      intro x hx
      subst hl
      rw [← hx, rckRulesLoad, h, if_neg (by simp), if_neg (by simp [hv])] <;> rfl
    have hall : l.all (ruleOk s.rck.model) = true → l.findIdx? (fun b => !ruleOk s.rck.model b) = none := fun ha => by
      simpa [List.findIdx?_eq_none_iff] using ha
    refine ⟨fun i hi => ?_, fun ha hlen => ?_, fun priv ha hlen hbuf hpriv => ?_⟩
    · rw [exec_rckRulesLoad, e _ hi]
    · rw [exec_rckRulesLoad, e _ (hall ha)]
      exact congrArg _ (if_pos (by simpa using hlen))
    · rw [exec_rckRulesLoad, e _ (hall ha)]
      dsimp only
      rw [if_neg (by simp [hlen, hbuf]), ← hpriv, List.length_map]
      simp only [Bool.not_eq_true']
  case solveNow =>
    subst hb
    rw [exec_rckSolveNow, rckSolveNow]
    dsimp only
    have hmem : a.st ∈ stRun := by simpa using hrun
    rw [← ha, State.command_taken ht (by simp [hmem, hen, hidle])]
  case solveNowFails =>
    refine ⟨fun h => ?_, fun h1 h2 h3 => ?_⟩ <;> rw [exec_rckSolveNow, rckSolveNow] <;> dsimp only <;> rw [← ha]
    · rw [State.command_failed (c := .state) ht (by
        have hmem : a.st ∈ stRun → a.flag Reg.RCK_CTRL_EN = false := fun hm => h.resolve_left (by simpa using hm)
        simpa [firstFail] using hmem)]
      rfl
    · have hmem : a.st ∈ stRun := by simpa using h1
      rw [State.command_failed (c := .busy) ht (by simp [firstFail, hmem, h2, h3])]
      rfl
  case solveStart =>
    rw [exec_solveStart, solveStartRow, if_neg (by simp [hen, hsol, hst, hper, hns])]
    dsimp only
    rw [← ha]
  case solveEnd =>
    subst ha
    rw [exec_solveEnd, solveEnd_eq hc hrun, State.solveDone]
    dsimp only
    rw [← hb]
    refine ⟨fun ho => by rw [if_pos ho], fun d ho hd => ?_⟩
    rw [if_neg (by simp [ho]), ← hd]
  case release =>
    rw [exec_setpointRelease, setpointRelease, if_neg (by simp [hm, hd, hns])]
  case headroom =>
    rw [exec_headroomRead, headroomRead, if_neg (by simp [hm, hmode, hns])]
    dsimp only
    rw [← ha]
    generalize hl : List.filter _ (gridsOf a.rck.model) = l
    have e : low = l := hlow.trans hl
    subst e
    rw [← hb]
  case batchFails =>
    refine ⟨fun h => ?_, fun h hf => ?_⟩ <;> rw [State.sendBatch]
    · rw [if_pos h]
    · rw [if_neg (Nat.not_lt.2 h), if_pos (by simpa using hf)]
  case batch =>
    subst hc hhalf hseq ha
    rw [State.sendBatch, if_neg (Nat.not_lt.2 hlen), if_neg (by simp [hbme])]

/-! ### The switch core (R199–R204, R278–R290) -/

section
variable {s : State} {c : CoreCopy} {f : CoreFrame} {draw : Nat}

theorem State.admitCopy_down (hf : s.coreFrame c.frame = some f) (ht : s.egressTakes c.port f.eth = false) :
    s.admitCopy c draw = (s.count (Reg.SWC_PORT_EG_DOWN_COUNT c.port)).refuseCopy c none := by
  unfold State.admitCopy
  rw [hf]
  dsimp only
  rw [ht, if_pos (by simp)]

/-- The decision of a copy that the port takes, by its expiry and its class's average depth (R282, R283). -/
def State.admitBy (s : State) (c : CoreCopy) (f : CoreFrame) (draw : Nat) (expired : Option Bool) (avg : Nat × Nat) : State :=
  if expired.isSome then
    ((s.count (Reg.SWC_PORT_EXPIRED_COUNT c.port)).lateCounted f c.port (expired.getD false)).refuseCopy c (some .timeout)
  else
    let low := decide (c.tc < 4)
    let i := 3 * c.tc + f.colour
    let s1 := if low then { s with swc := { s.swc with avgs := setKey Prod.fst (16 * c.port + c.tc, avg.1, avg.2) s.swc.avgs } } else s
    if low && s.get (Reg.SWC_PORT_EGR_QLIM c.port) ≤ s.queueDepth c.port c.tc then
      (s1.count (Reg.SWC_PORT_QFULL_DROP_COUNT c.port)).refuseCopy c none
    else if low && wredDrops avg.1 avg.2 (s.getA (Reg.SWC_WRED_TH_MIN i)) (s.getA (Reg.SWC_WRED_TH_MAX i))
        (s.getA (Reg.SWC_WRED_P_MAXP i)) draw then (s1.count (Reg.SWC_PORT_WRED_DROP_COUNT c.port)).refuseCopy c none
    else
      let s2 := { s1 with swc := { s1.swc with order := s1.swc.order + 1 } }.putCopy { c with stage := 2, order := s1.swc.order }
      s2.setFrame { f with refs := f.refs + 1, undecided := f.undecided - 1 }

/-- Whether a frame has expired, and how. -/
def expiredOf (ns : Nat) (x : Option (Nat × Bool)) : Option Bool := x.bind fun p => if p.1 < ns then some p.2 else none

theorem State.admitCopy_eq (hf : s.coreFrame c.frame = some f) (ht : s.egressTakes c.port f.eth = true) : s.admitCopy c draw =
    s.admitBy c f draw (expiredOf s.ns (s.expiryOf f c.port)) (avgStep ((findKey Prod.fst (16 * c.port + c.tc) s.swc.avgs).elim 0 fun x => x.2.1)
      ((findKey Prod.fst (16 * c.port + c.tc) s.swc.avgs).elim 0 fun x => x.2.2) (s.queueDepth c.port c.tc)
      (s.getA (Reg.SWC_WRED_P_W (3 * c.tc + f.colour)))) := by
  unfold State.admitCopy
  rw [hf]
  dsimp only
  rw [ht, if_neg (by simp)]
  unfold expiredOf
  cases findKey Prod.fst (16 * c.port + c.tc) s.swc.avgs <;> cases s.expiryOf f c.port <;> rfl

theorem State.admitCopy_expired {t : Nat} {late : Bool} (hf : s.coreFrame c.frame = some f) (ht : s.egressTakes c.port f.eth = true)
    (he : s.expiryOf f c.port = some (t, late)) (hlt : t < s.ns) : s.admitCopy c draw =
      ((s.count (Reg.SWC_PORT_EXPIRED_COUNT c.port)).lateCounted f c.port late).refuseCopy c (some .timeout) := by
  have e : expiredOf s.ns (s.expiryOf f c.port) = some late := by rw [he]; exact if_pos hlt
  rw [State.admitCopy_eq hf ht, e]
  rfl

theorem expiredOf_live {ns : Nat} {x : Option (Nat × Bool)} (h : ∀ t late, x = some (t, late) → ns ≤ t) : expiredOf ns x = none := by
  cases x with
  | none => rfl
  | some p => exact if_neg (Nat.not_lt.2 (h p.1 p.2 rfl))

theorem State.admitBy_high (avg : Nat × Nat) (h : 4 ≤ c.tc) : s.admitBy c f draw none avg =
    ({ s with swc := { s.swc with order := s.swc.order + 1 } }.putCopy { c with stage := 2, order := s.swc.order }).setFrame
      { f with refs := f.refs + 1, undecided := f.undecided - 1 } := by
  have hlow : decide (c.tc < 4) = false := by simpa using h
  unfold State.admitBy
  dsimp only
  rw [hlow]
  rfl

end

/-- An error of a plane, which closes the plane or not (R281). -/
def State.planeBy (s : State) (plane frame : Nat) (close : Bool) : State :=
  let s1 := { s with swc := { s.swc with planeErr := setKey Prod.fst (plane, s.time) s.swc.planeErr } }
  let s2 := if close then s1.put Reg.SWC_PLANES_UP (s.get Reg.SWC_PLANES_UP - 2 ^ plane) else s1
  (((s2.swc.copies.filter fun c => c.stage == 0 && c.plane == plane && c.frame == frame).foldl (fun s c => s.refuseCopy c none) s2).event
    62).raiseAt 0x0703 2 plane (plane + if close then 2 else 0)

theorem planeError_eq {plane : Nat} (frame : Nat) (s : State) (h : plane ≤ 1) : planeError plane frame s = s.planeBy plane frame
    ((findKey Prod.fst plane s.swc.planeErr).any (fun x => decide (s.time < x.2 + 1000000000 * nsUnit)) && s.get Reg.SWC_PLANES_UP == 3) := by
  obtain ⟨w, hw⟩ : ∃ w, 1000000000 * nsUnit = w := ⟨_, rfl⟩
  obtain ⟨g, hg⟩ : ∃ g, State.raiseAt = g := ⟨_, rfl⟩
  unfold planeError State.planeBy
  rw [if_neg (Nat.not_lt.2 h), hw, hg]
  cases findKey Prod.fst plane s.swc.planeErr <;> rfl

theorem State.planeBy_open {s a : State} (plane frame : Nat)
    (ha : a = { s with swc := { s.swc with planeErr := setKey Prod.fst (plane, s.time) s.swc.planeErr } }) : s.planeBy plane frame false =
      (((a.swc.copies.filter fun c => c.stage == 0 && c.plane == plane && c.frame == frame).foldl
        (fun s c => s.refuseCopy c none) a).event 62).raiseAt 0x0703 2 plane plane := by
  obtain ⟨g, hg⟩ : ∃ g, State.raiseAt = g := ⟨_, rfl⟩
  subst ha
  rw [State.planeBy, hg]
  rfl

theorem State.planeBy_closed {s a : State} (plane frame : Nat) (hup : s.get Reg.SWC_PLANES_UP = 3)
    (ha : a = { s with swc := { s.swc with planeErr := setKey Prod.fst (plane, s.time) s.swc.planeErr } }.put Reg.SWC_PLANES_UP (3 - 2 ^ plane)) :
    s.planeBy plane frame true = (((a.swc.copies.filter fun c => c.stage == 0 && c.plane == plane && c.frame == frame).foldl
        (fun s c => s.refuseCopy c none) a).event 62).raiseAt 0x0703 2 plane (plane + 2) := by
  obtain ⟨g, hg⟩ : ∃ g, State.raiseAt = g := ⟨_, rfl⟩
  obtain ⟨w, hw⟩ : ∃ w, State.put = w := ⟨_, rfl⟩
  subst ha
  rw [State.planeBy, hg, hup, hw]
  rfl

/-- Whether the second error of a plane closes it (R281). -/
theorem planeCloses_of {old : Option (Nat × Nat)} {now w up : Nat} (h : (∀ q t, old = some (q, t) → t + w ≤ now) ∨ up ≠ 3) :
    (old.any (fun x => decide (now < x.2 + w)) && up == 3) = false := by
  rcases h with h | h
  · cases old with
    | none => rfl
    | some x => simp [Nat.not_lt.2 (h x.1 x.2 rfl)]
  · simp [h]

theorem frameTransmit_eq {s : State} {p : Nat} (now : Nat) (luck : List Nat) (hp : p ≤ 16) (h12 : p ≠ 12)
    (hidle : s.swc.copies.any (fun c => c.port == p && c.stage == 3) = false) : frameTransmit p now luck s =
      match ((s.advance (now * nsUnit)).dropOversize p).nextCopy p now with
      | none => (s.advance (now * nsUnit)).dropOversize p
      | some (c, s1) => match s1.coreFrame c.frame with
        | none => s1
        | some f => s1.txStart c f p now luck := by
  obtain ⟨a, ha⟩ : ∃ a, s.advance (now * nsUnit) = a := ⟨_, rfl⟩
  unfold frameTransmit
  rw [if_neg (by simp [Nat.not_lt.2 hp, h12, hidle]), ha] <;> rfl

theorem frameTxDone_eq {s : State} {p now : Nat} {c : CoreCopy} {f : CoreFrame}
    (hc : s.swc.copies.find? (fun c => c.port == p && c.stage == 3) = some c) (hf : (s.advance (now * nsUnit)).coreFrame c.frame = some f) :
    ∃ b, b = ((s.advance (now * nsUnit)).countMod (Reg.MACP_TX_FRAMES_COUNT (macWindow p)) 1).countMod (Reg.MACP_TX_OCTETS_COUNT (macWindow p))
      (if p < 12 then (s.advance (now * nsUnit)).macBytes f p else f.len + 4) ∧ frameTxDone p now s =
        (({ b with macs := { b.macs with attempts := dropKey Prod.fst p b.macs.attempts } }.setFrame
           { f with left := true, txts := some (c.start / nsUnit) }).releaseCopy c none).macFlush p := by
  refine ⟨_, rfl, ?_⟩
  obtain ⟨a, ha⟩ : ∃ a, s.advance (now * nsUnit) = a := ⟨_, rfl⟩
  obtain ⟨g, hg⟩ : ∃ g, State.macFlush = g := ⟨_, rfl⟩
  rw [ha] at hf
  unfold frameTxDone
  rw [hc, ha, hg]
  dsimp only
  rw [hf]

/-- Settles O55, one command per clause. -/
theorem switchMovesFrames : Obligations.SwitchMovesFrames := by
  unfold Obligations.SwitchMovesFrames
  refine ⟨fun s frame port draws c fl d hc hst hfl hd => ?enters, fun s c f draw hf ht => State.admitCopy_down hf ht,
    fun s c f draw t late hf ht he hlt => State.admitCopy_expired hf ht he hlt, fun s c f draw hf ht hx h4 => ?high,
    fun s a c f draw depth i key num e hf ht hx h4 hdep hi hkey ha haa => ?low, fun s port src tc draws held fl d hheld hfl hd => ?reseq,
    fun s a plane frame hp hn ha => ?plane, fun s a plane frame q t hp hk hlt hup ha => ?planeCloses,
    fun s a frame port t late c f hc hf hst hx ha => ?expiry, fun s a p now luck hp h12 hidle ha => ?transmit,
    fun s a b p now c f hc ha hf hb => ?done, fun s p hp hh => ?hold, fun s tc m htc hm hne => ?pfc,
    fun s a b lost doubled q i run again ha hq hb hagain hrun c d e hc hd he => ?audit, fun s index hi hst => ?install,
    fun s index lo hi dest hidx hst he => ?read, fun s index hst => ?boot⟩
  case enters =>
    have hst' : ¬ c.stage ≠ 0 := by simp [hst]
    have e : egressAdmit frame port draws s = if d = 0 then
        ((s.setFlow { fl with expect := (fl.expect + 1) % 65536 }).admitCopy c (draws.headD 0)).releaseHeld
           (flowKey c.src c.port c.tc) s.swc.copies.length draws.tail
      else if d < 32768 then s.putCopy { c with stage := 1 }
      else (s.count (Reg.SWC_PORT_RESEQ_LATE port)).refuseCopy c none := by
      rw [egressAdmit, hc]
      dsimp only
      rw [if_neg hst', ← hfl, ← hd]
    rw [exec_egressAdmit, e]
    refine ⟨fun h0 => by rw [if_pos h0], fun h0 hlt => by rw [if_neg (by omega), if_pos hlt], fun hge => by rw [if_neg (by omega), if_neg (by omega)]⟩
  case high =>
    rw [State.admitCopy_eq hf ht, expiredOf_live hx, State.admitBy_high _ h4]
  case low =>
    subst hdep hi hkey haa
    have hlow : decide (c.tc < 4) = true := by simpa using h4
    rw [State.admitCopy_eq hf ht, expiredOf_live hx, ← ha, State.admitBy]
    simp only [hlow, Bool.true_and, decide_eq_true_eq, if_true, Option.isSome_none, Bool.false_eq_true, if_false]
  case reseq =>
    rw [exec_reseqTimeout, reseqTimeout]
    dsimp only
    rw [← hheld, ← hfl, hd]
  case plane =>
    rw [exec_planeError, planeError_eq _ _ hp, planeCloses_of hn, State.planeBy_open _ _ ha]
  case planeCloses =>
    have hclose : (Option.any (fun x => decide (s.time < x.2 + 1000000000 * nsUnit)) (some (q, t)) && 3 == 3) = true := by
      rw [Option.any_some, decide_eq_true hlt]
      decide
    rw [exec_planeError, planeError_eq _ _ hp, hk, hup, hclose, State.planeBy_closed _ _ hup ha]
  case expiry =>
    rw [exec_frameExpiry, frameExpiry, hc, hf]
    dsimp only
    rw [if_neg hst, hx]
    dsimp only
    rw [← ha]
    simp
  case transmit =>
    rw [exec_frameTransmit, frameTransmit_eq now luck hp h12 hidle]
    rw [← ha]
    refine ⟨fun hn => by rw [hn], fun b c f hn hf => by rw [hn]; dsimp only; rw [hf]⟩
  case done =>
    subst ha
    obtain ⟨b', hb', e⟩ := frameTxDone_eq hc hf
    rw [exec_frameTxDone, e, hb, ← hb']
  case hold =>
    rw [exec_linkHoldEnd, linkHoldEnd, if_pos (by simp [hp, hh])]
  case pfc =>
    rw [exec_pfcRequestChange, pfcRequestChange, if_neg (by omega)]
    dsimp only
    rw [← hm, if_neg hne]
  case audit =>
    rw [exec_beadAudit, beadAudit]
    dsimp only
    rw [← ha, hq]
    dsimp only
    rw [← hb, hagain, ← hrun, ← hc, ← hd, ← he]
  case install =>
    rw [exec_fdbInstall, fdbInstall, Nat.mod_eq_of_lt (by omega)]
    dsimp only
    rw [if_neg hst]
    simp only [Bool.and_eq_true, beq_iff_eq, List.any_eq_true, decide_eq_true_eq, ne_eq, and_assoc]
  case read =>
    rw [exec_fdbRead, fdbRead, if_neg hst, Nat.mod_eq_of_lt (by omega)]
    cases hk : findKey Prod.fst index s.swc.fdb with
    | none =>
      rw [hk] at he
      cases he
      rfl
    | some x =>
      obtain ⟨_, a, b, c⟩ := x
      rw [hk] at he
      cases he
      rfl
  case boot =>
    rw [exec_fdbInstall, exec_fdbRead, fdbInstall, fdbRead]
    dsimp only
    rw [if_pos hst, if_pos hst]
    exact ⟨rfl, rfl⟩

/-! ### SV and GOOSE intake, publication (R295–R320, R460–R467) -/

/-- A choice under an equivalent condition, with equal alternatives. -/
theorem ite_iff {α : Type} {b c : Prop} [Decidable b] [Decidable c] {x y u v : α} (h : b ↔ c) (hx : x = u) (hy : y = v) :
    (if b then x else y) = if c then u else v := by
  subst hx hy
  by_cases hc : c
  · rw [if_pos hc, if_pos (h.2 hc)]
  · rw [if_neg hc, if_neg (mt h.1 hc)]

section
variable {s a : State} {fr : SvFrame} {k reason nch c t r : Nat} {x : Asdu}

theorem State.svAsdu_none (h : x.smpCnt = none) :
    s.svAsdu fr k reason nch (some x) = if fr.dup then s.svDuplicate nch else s.svInvalid k 1 nch := by
  simp only [State.svAsdu, Option.bind_some, h]

/-- What an ASDU does from the samples on that its subscription takes, `here` of them (R299). -/
def State.svSamples (s : State) (fr : SvFrame) (k t r here : Nat) (v : SubView) (x : Asdu) : State :=
  if fr.dup then s.svDuplicate here
  else if r ≠ 0 then s.svInvalid k r here
  else if s.svi.last.any (fun n => decide (t ≤ n)) || decide (instantOf t s.tg.f s.tg.rho ≤ fr.stamp) then
    s.svLateAsdu k (s.getA (Reg.SVI_SUB_POLICY_TEST_OK k) == 1) (x.data.take here)
  else s.svHold k t v.base (s.getA (Reg.SVI_SUB_POLICY_SYNC k) == 3 && decide (x.smpSynch < 2))
    (s.getA (Reg.SVI_SUB_POLICY_TEST_OK k) == 1) (x.data.take here)

theorem State.svAsdu_high (h : x.smpCnt = some c) (hr : r = (if reason ≠ 0 then reason else s.asduReason fr x k)) (hf : s.tg.f ≤ c) :
    s.svAsdu fr k reason nch (some x) = if fr.dup then s.svDuplicate nch else s.svInvalid k r nch := by
  subst hr
  simp only [State.svAsdu, Option.bind_some, h, Option.map_some, Option.getD_some, if_pos hf]

theorem State.svAsdu_unexpected (h : x.smpCnt = some c) (hr : r = (if reason ≠ 0 then reason else s.asduReason fr x k)) (hf : c < s.tg.f)
    (ht : t = tickOf c fr.stamp s.tg.f) (ha : a = (if r = 0 then s.svArrive k (arrival t fr.stamp s.tg.f) else s))
    (hv : a.viewAt k t = none ∨ t < a.svi.firstTick) (hn : 0 < nch) : s.svAsdu fr k reason nch (some x) = a.svUnexpected nch := by
  have hview : ((a.viewAt k t).filter fun _ => decide (a.svi.firstTick ≤ t)) = none := by
    rcases hv with hv | hv
    · rw [hv]
      rfl
    · simp only [Option.filter_eq_none_iff, decide_eq_true_eq]
      omega
  simp only [State.svAsdu, Option.bind_some, h, Option.map_some, Option.getD_some, if_neg (Nat.not_le.2 hf)]
  rw [← hr, ← ht, ← ha, hview]
  simp [hn]

theorem State.svAsdu_taken {b : State} {v : SubView} {here : Nat} (h : x.smpCnt = some c)
    (hr : r = (if reason ≠ 0 then reason else s.asduReason fr x k)) (hf : c < s.tg.f) (ht : t = tickOf c fr.stamp s.tg.f)
    (ha : a = (if r = 0 then s.svArrive k (arrival t fr.stamp s.tg.f) else s)) (hv : a.viewAt k t = some v) (hfirst : a.svi.firstTick ≤ t)
    (hhere : here = min v.nch nch) (hpos : 0 < here) (hb : b = (if here < nch then a.svUnexpected (nch - here) else a)) :
    s.svAsdu fr k reason nch (some x) = b.svSamples fr k t r here v x := by
  have hview : ((a.viewAt k t).filter fun _ => decide (a.svi.firstTick ≤ t)) = some v := by
    rw [hv]
    simp [hfirst]
  simp only [State.svAsdu, Option.bind_some, h, Option.map_some, Option.getD_some, if_neg (Nat.not_le.2 hf)]
  rw [← hr, ← ht, ← ha, hview]
  simp only [Option.elim_some, ← hhere, ← hb, Nat.ne_of_gt hpos, if_false]
  rfl

theorem State.svSamples_good {here : Nat} {v : SubView} (hd : fr.dup = false) : s.svSamples fr k t 0 here v x =
    if (∃ n, s.svi.last = some n ∧ t ≤ n) ∨ instantOf t s.tg.f s.tg.rho ≤ fr.stamp then
      s.svLateAsdu k (s.getA (Reg.SVI_SUB_POLICY_TEST_OK k) == 1) (x.data.take here)
    else s.svHold k t v.base (s.getA (Reg.SVI_SUB_POLICY_SYNC k) == 3 && decide (x.smpSynch < 2))
      (s.getA (Reg.SVI_SUB_POLICY_TEST_OK k) == 1) (x.data.take here) := by
  rw [State.svSamples, hd, if_neg Bool.false_ne_true, if_neg (by simp)]
  refine ite_iff ?_ rfl rfl
  cases s.svi.last <;> simp

end

theorem gooseIntake_eq {s a : State} {fr : GooseFrame} {g : Gsub} (ha : a = s.advance fr.stamp)
    (hg : a.svi.gsubs.find? (fun g => gEn g.words && gMatch g.words == [fr.dst, fr.vid, fr.appid, fr.ref.length, crc32c fr.ref]) = some g) :
    gooseIntake fr s =
      let s1 := a.keyRefused (!gAuth g.words || a.keyUsable (gKey g.words) (gSlice g.words) 2)
      let g1 := { g with never := false, st := fr.st, sq := fr.sq, expiry := fr.stamp + fr.tal * 1000000 * nsUnit,
                         test := fr.test, vals := memberValues g.words fr.data, age := 0, stale := false }
      if fr.confRev ≠ g.words.getD 4 0 || (gAuth g.words && !(fr.tagOk && a.keyUsable (gKey g.words) (gSlice g.words) 2)) || fr.nds ||
          ((fr.test || fr.sim) && !gTestOk g.words) || !(gMembers g.words).all (memberFits fr.data) then s1.count Reg.SVI_GOOSE_BAD_COUNT
      else if !(g.never || decide (g.expiry ≤ fr.stamp) || newer fr.st fr.sq g.st g.sq) then s1.count Reg.SVI_GOOSE_OLD_COUNT
      else (({ s1 with svi := { s1.svi with gsubs := setKey Gsub.idx g1 s1.svi.gsubs } }.count Reg.SVI_GOOSE_RX_COUNT).clearFault 0x0805 g.idx) := by
  obtain ⟨w, hw⟩ : ∃ w, s.advance fr.stamp = w := ⟨_, rfl⟩
  obtain ⟨u, hu⟩ : ∃ u, nsUnit = u := ⟨_, rfl⟩
  rw [hw] at ha
  subst ha
  unfold gooseIntake
  rw [hw, hu]
  dsimp only
  rw [hg]

/-- What the release of the frame `f` does (R319, R320). -/
def State.releaseFrame (s1 : State) (f : PubFrame) (len : Nat) : State :=
  if 0x1000 ≤ f.src then
    let k := f.src - 0x1000
    if s1.pair.gateOpen && !s1.pair.safeMode then
      let mark := s1.svi.ownMark.contains k
      let g := if mark then { f with data := markFirst f.nch f.data } else f
      let s2 := { s1 with svi := { s1.svi with ownMark := s1.svi.ownMark.filter fun x => x ≠ k } }
      ((((s2.eventIf mark 71).count (Reg.SVI_OWN_SENT_COUNT k)).emit (.frame g)).pubCore g len).svTake (loopFrame g)
    else s1.count (Reg.SVI_OWN_GATED_COUNT k)
  else if s1.pair.gateOpen && s1.tokenOpen f.slice (s1.tg.next - 1) then ((s1.count Reg.PUB_GOOSE_SENT_COUNT).emit (.frame f)).pubCore f len
  else s1.count Reg.PUB_GOOSE_GATED_COUNT

theorem publishRelease_eq {s a : State} {len : Nat} {f : PubFrame} {l : List PubFrame} (hm : s.mainAbsent = false) (hf : s.pub.frames = f :: l)
    (ha : a = { s.advance (f.release * nsUnit) with pub := { s.pub with frames := l } }) : publishRelease len s = a.releaseFrame f len := by
  subst ha
  unfold publishRelease
  rw [hf]
  exact if_neg (by simp [hm])

theorem gooseRetransmit_eq {s : State} {b : Nat} {g : Gcb} (hm : s.mainAbsent = false) (hg : findKey Gcb.idx b s.pub.gcbs = some g)
    (hen : s.flag Reg.PUB_CTRL_EN = true) (hgen : gcbEn g.words = true) (hfr : g.fresh = false) (hst : g.st ≠ 0) : gooseRetransmit b s =
      let a := s.advance ((g.next - 2000) * nsUnit)
      let iv := min (2 * g.interval) (gcbTmax g.words * 1000)
      let g1 := { g with sq := if g.sq = 2 ^ 32 - 1 then 1 else g.sq + 1, interval := iv, next := g.next + iv * 1000 }
      (a.setGcb g1).buildGoose g1 g.next 0 (encodeAll (gcbTest g.words) g.members) := by
  unfold gooseRetransmit
  rw [hg]
  dsimp only
  rw [if_neg (by simp [hm, hen, hgen, hfr, hst])]

/-- Settles O56, one command per clause. -/
theorem samplesComeInAndFramesGoOut : Obligations.SamplesComeInAndFramesGoOut := by
  unfold Obligations.SamplesComeInAndFramesGoOut
  refine ⟨fun s fr => ?intake, fun s fr x l hl hs => ?noSub, fun s a fr k nch no hs hn ho ha => ?take,
    fun s fr k reason nch x r hr => ⟨State.svAsdu_none, fun c hc hf => State.svAsdu_high hc hr hf⟩,
    fun s a fr k reason nch c t r x hr hc hf ht ha => ?asdu, fun s a sub k base q q0 q1 v sync testOk img h0 h1 hi ha => ?hold,
    fun s a fr ha hg => ?gooseNone, fun s a b fr g g1 bad ha hg hb hbad hg1 => ?goose, fun s hst hen => ?enable, fun s hst hen => ?disable,
    fun s g hst => ?gsub, fun s k w hst hw => ?gsubRead, fun s b hst => ?gcb, fun s a c g b hst hg ha hc => ?gcbRead, fun s n hst => ?boot,
    fun s k last x l hm hk hen hrun hfine hno hle => ?own, fun s a b iv g g1 hm hg hen hgen hfr hst ha hiv hg1 => ?retransmit,
    fun s a len f l hm hf ha => ?release⟩
  case intake => rw [exec_svIntake, svIntake]
  case noSub =>
    unfold State.svTake
    rw [hs, hl]
  case take =>
    subst hn ho
    have e : s.svTake fr = if !a.svi.enabled then a.svUnexpected (s.getA (Reg.SVI_SUB_LAYOUT_NOASDU k) * s.getA (Reg.SVI_SUB_LAYOUT_NCH k)) else
        (List.range (s.getA (Reg.SVI_SUB_LAYOUT_NOASDU k))).foldl
          (fun t j => t.svAsdu fr k (a.frameReason fr k) (s.getA (Reg.SVI_SUB_LAYOUT_NCH k)) fr.asdus[j]?)
          (a.keyRefused (!(a.getA (Reg.SVI_SUB_POLICY_AUTH k) == 1) ||
            a.keyUsable (a.getA (Reg.SVI_SUB_POLICY_KEYSLOT k)) (a.getA (Reg.SVI_SUB_LAYOUT_SLICE k)) 1)) := by
      unfold State.svTake
      rw [hs]
      dsimp only
      rw [← ha]
    rw [e]
    exact ⟨fun h => by rw [h]; exact if_pos rfl, fun h => by rw [h]; exact if_neg (by decide)⟩
  case asdu =>
    refine ⟨State.svAsdu_unexpected hc hr hf ht ha, fun b v here hv hfirst hhere hpos hb => ?_⟩
    rw [State.svAsdu_taken hc hr hf ht ha hv hfirst hhere hpos hb]
    refine ⟨fun hd => ?_, fun hd h0 => ?_, fun hd h0 => ?_⟩
    · rw [State.svSamples, hd, if_pos rfl]
    · rw [State.svSamples, hd, if_neg Bool.false_ne_true, if_pos h0]
    · rw [h0, State.svSamples_good hd]
  case hold =>
    subst h0 h1
    simp only [State.svHold, Bool.and_eq_true, decide_eq_true_eq, Bool.not_eq_true']
    rw [← hi, ← ha]
  case gooseNone =>
    rw [exec_gooseIntake, gooseIntake]
    dsimp only
    rw [← ha, List.find?_eq_none.2 (by simpa using hg)]
  case goose =>
    have e := gooseIntake_eq ha hg
    dsimp only at e
    rw [← hb, ← hg1] at e
    rw [exec_gooseIntake, e, hbad]
    congr 1
    refine ite_iff ?_ rfl ?_
    · simp [Bool.or_eq_true, or_assoc]
    · refine (ite_iff ?_ rfl rfl).trans (ite_not _ _ _)
      simp [and_assoc]
  case enable => rw [exec_sviEnable, sviEnable, if_neg hst, if_neg (by simp [hen])]
  case disable => rw [exec_sviDisable, sviDisable, if_neg hst, if_neg (by simp [hen])]
  case gsub =>
    rw [exec_gsubInstall, gsubInstall]
    dsimp only
    rw [if_neg hst]
    simp only [Bool.and_eq_true, decide_eq_true_eq]
  case gsubRead =>
    rw [exec_gsubRead, gsubRead]
    rw [if_neg hst, ← hw]
  case gcb =>
    rw [exec_gcbInstall, gcbInstall]
    obtain ⟨w, tpl⟩ := s.gcbStaged
    dsimp only
    rw [if_neg hst]
    simp only [Bool.and_eq_true, decide_eq_true_eq]
  case gcbRead =>
    rw [exec_gcbRead, gcbRead, if_neg hst, ← hg]
    refine ⟨fun hb => ?_, fun hb => by rw [if_pos hb]⟩
    rw [if_neg (by omega)]
    dsimp only
    rw [← ha, ← hc]
  case boot =>
    rw [exec_sviEnable, exec_sviDisable, exec_gsubInstall, exec_gsubRead, exec_gcbInstall, exec_gcbRead, sviEnable, sviDisable, gsubInstall, gsubRead,
      gcbInstall, gcbRead]
    dsimp only
    simp only [if_pos hst, and_self]
  case own =>
    have hact : ¬ (s.mainAbsent || decide (3 < k) || s.getA (Reg.SVI_OWN_CTRL_EN k) ≠ 1 || !s.tg.running) = true := by
      simp [hm, hen, hrun, hk]
    rw [exec_ownSvBuild, ownSvBuild, if_neg hact]
    dsimp only
    rw [hfine]
    dsimp only
    rw [if_neg (by simp; omega)]
    simp [State.keyRefused, State.eventIf]
  case retransmit =>
    rw [exec_gooseRetransmit, gooseRetransmit_eq hm hg hen hgen hfr hst]
    dsimp only
    rw [← ha, ← hiv, ← hg1]
  case release =>
    rw [exec_publishRelease, publishRelease_eq hm hf ha, State.releaseFrame]
    refine ⟨fun h => by rw [if_neg (by omega)], fun k hk hgate => ?_, fun k mark g b hk hopen hsafe hmark hg hb => ?_⟩
    · rw [if_pos (by omega), if_neg (by rcases hgate with h | h <;> simp [h]), hk, Nat.add_sub_cancel_left]
    · have hsub : f.src - 0x1000 = k := by omega
      rw [if_pos (by omega), if_pos (by simp [hopen, hsafe]), hsub]
      dsimp only
      rw [← hmark, ← hg, ← hb]

end Sys2Proof.Machine

/-! Supplies, resets and service (R72–R82, R113–R124) -/

namespace Sys2Proof.Machine


/-- Settles O6: the power domain's moves leave what `goVigil_left` and `goOff_left` say. -/
theorem supplyEventsMoveTheModule : Obligations.SupplyEventsMoveTheModule := by
  unfold Obligations.SupplyEventsMoveTheModule
  refine ⟨fun s h => ?valid, fun s a h ha => ?range, fun s a lost h ha => ?low, fun s a h ha => ?holdup, fun s => ?deassert,
    fun s h hv => ?timeout, fun s => ?deassertShows, fun s h hv => ?timeoutShows⟩
  case valid => rw [exec_vmainValid, vmainValid, if_neg (by simp [h])]
  case range =>
    obtain ⟨h1, _, _, h2, h3⟩ := a.goVigil_left
    rw [exec_vvgInRange, vvgInRange, if_pos h, ← ha]
    exact ⟨rfl, h1, by rw [h2, ha], h3⟩
  case low =>
    obtain ⟨h1, _, _, h2, _⟩ := a.goOff_left
    rw [exec_vvgLow, vvgLow, if_pos h]
    exact ⟨by rw [ha], h1, by rw [h2, ha]⟩
  case holdup =>
    obtain ⟨h1, h2, h3, _⟩ := a.goVigil_left
    obtain ⟨k1, k2, k3, _⟩ := a.goOff_left
    have hd : ¬ s.boot.detected.isNone = true := by simp [← Option.not_isSome, h]
    rw [exec_holdupEnd, holdupEnd, if_neg hd]
    exact ⟨by rw [ha], h1, h2, h3, k1, k2, k3⟩
  case deassert => rw [exec_pfwDeassert, pfwDeassert]
  case timeout => rw [exec_pfwHoldTimeout, pfwHoldTimeout, if_pos (by simp [h, hv])]
  case deassertShows =>
    refine ⟨_, exec_pfwDeassert s, ?_, State.clearFault_active _ _ _⟩
    rw [pfwDeassert, State.clearFault_boot]
  case timeoutShows =>
    refine ⟨s.raise1 0x0001 1 0, by rw [exec_pfwHoldTimeout, pfwHoldTimeout, if_pos (by simp [h, hv])], ?_⟩
    rw [State.raise1, State.raise_low _ _ _ _ _ _ (by decide) (by decide)]
    refine ⟨State.raiseRecord_active _ _ _ _ _ _ (by decide), ?_, ?_⟩
    · exact State.get_raiseRecord _ _ _ _ _ _ (by decide) (by decide) (by decide) (by decide) (by decide)
    · rw [State.flag, State.flag, State.get_raiseRecord _ _ _ _ _ _ (by decide) (by decide) (by decide) (by decide) (by decide)]

/-- Settles O7, both lines in the order of R79 and R80. -/
theorem powerFailureCommitsAndDropsCustody : Obligations.PowerFailureCommitsAndDropsCustody := by
  unfold Obligations.PowerFailureCommitsAndDropsCustody
  refine ⟨fun s dur now ok hm hp hd => ?_, fun s dur now ok hm hd => ?_⟩
  · rw [exec_pfwAssert, pfwAssert, if_neg (by simp [hm, hp, hd])]
  · rw [exec_vmainDetect, vmainDetect, if_neg (by simp [hm, hd])]

/-- Settles O9: each request resets with its cause. -/
theorem resetRequestsLeadToReset : Obligations.ResetRequestsLeadToReset := by
  unfold Obligations.ResetRequestsLeadToReset
  refine ⟨fun s h => ?pin, fun s h => ?watchdog, fun s h => ?lockstep, fun s => ?may, fun s h => ?glitch, fun s q ht hq hb hm => ?command,
    fun s data hr hst hb hm hk h1 => ?write, fun s data hr hb hk h1 => ?rejected, fun s => ?barred⟩
  case pin => rw [exec_rstNReset, rstNReset, if_pos h]
  case watchdog => rw [exec_watchdogExpiry, watchdogExpiry, if_pos h]
  case lockstep => rw [exec_lockstepError, lockstepError, if_pos h]
  case may => simp [State.mayReset]
  case glitch => rw [exec_rstNGlitch, rstNGlitch, if_neg (by simp [h])]
  case command =>
    rw [exec_moduleReset, moduleResetCmd, State.command_taken ht (by simp [hq, hb]), if_pos hm]
  case write =>
    rw [exec_resetCtrlWrite, resetCtrlWrite, if_neg hst, if_neg (by simp [hr, hk, h1]), if_neg (by simp [hb]), if_pos hm]
  case rejected =>
    rw [exec_resetCtrlWrite, resetCtrlWrite]
    split
    · rfl
    · rw [if_neg (by simp [hr, hk, h1])]
  case barred => simp [State.resetBarred, or_assoc]

/-- Settles O15. -/
theorem serviceEnds : Obligations.ServiceEnds := by
  unfold Obligations.ServiceEnds
  refine ⟨fun s h => ?_, fun s q ht hq h => ?_, fun s => ?_⟩
  · rw [exec_serviceLimitReached, serviceLimitReached, if_pos h]
  · rw [exec_serviceLeave, serviceLeave, State.command_taken ht (by simp [hq, h])]
  · rw [State.leaveService]

/-! ### The start-up (R108–R112) -/

/-- The step that the start-up performs, by the number of those done (R108). -/
def State.bootStep (s : State) (r : BootRep) : Nat → State
  | 0 => s.ledTest.stepDone
  | 1 => s.bootLatch r
  | 2 => s.bootLive
  | 3 => s.bootSelf r 7 fun s => (s.extend 0 r.digest).stepDone
  | 4 => s.bootFirmware
  | 5 => s.bootTests r
  | 6 => if r.ok && s.boot.micro.all s.imageAccepted then ((s.extend 3 (s.microDigest 3)).extend 4 (s.microDigest 4)).stepDone
    else s.bootFail 2 0 0x0101 7
  | 7 => s.bootConfig
  | 8 => s.bootSecrets r
  | _ => s.bootLast r

theorem bootStepComplete_eq {s : State} {r : BootRep} (h : s.st = stBoot) : bootStepComplete r s = s.bootStep r (s.get Reg.KPR_BOOT_STAGE) := by
  rw [bootStepComplete, if_neg (by simp [h])]
  dsimp only
  generalize s.get Reg.KPR_BOOT_STAGE = n
  match n with
  | 0 | 1 | 2 | 3 | 4 | 5 | 6 | 7 | 8 => rfl
  | n + 9 =>
    iterate 9 rw [if_neg (by omega)]
    rfl

theorem exec_bootStep {s : State} {r : BootRep} {n : Nat} (h : s.st = stBoot) (hn : s.get Reg.KPR_BOOT_STAGE = n) :
    exec (.bootStepComplete r) s = .next (s.bootStep r n) := by rw [exec_bootStepComplete, bootStepComplete_eq h, hn]

theorem State.bootLatch_calm {s : State} {r : BootRep} (hr : r.ok = true)
    (h : s.get Reg.TMP_LATCHSRC_SRC &&& (127 - (s.boot.handled &&& 127)) = 0) : s.bootLatch r = s.lifecycleResume.stepDone := by
  rw [State.bootLatch]
  dsimp only
  rw [if_neg (by simp [hr]), if_pos h]

theorem State.bootLive_calm {s : State} (h : s.get Reg.TMP_STATUS_ACTIVE = 0) : s.bootLive = s.stepDone := by
  rw [State.bootLive, h, List.find?_eq_none.2 (by simp)]

theorem State.bootSelf_good {s : State} {r : BootRep} (hr : r.ok = true) (tests : Nat) (next : State → State) :
    s.bootSelf r tests next = next (s.selfPass tests) := by
  rw [State.bootSelf, hr]
  rfl

theorem State.bootSelf_bad {s a : State} {r : BootRep} {tests : Nat} (hr : r.ok = false) (ha : a = s.selfPass (r.pass &&& tests))
    (next : State → State) : s.bootSelf r tests next = a.bootFail 2 0 0x0102 (a.get Reg.KPR_SELFTEST_PASS) := by
  rw [State.bootSelf, hr, if_neg Bool.false_ne_true, if_neg Bool.false_ne_true, ← ha]

/-- Settles O11, one step of the start-up per clause. -/
theorem bootRunsItsSteps : Obligations.BootRunsItsSteps := by
  unfold Obligations.BootRunsItsSteps
  refine ⟨fun s a pos slot hst hv hd ha => ?exit, fun s r h hk => ?leds, fun s r h hk hr hl => ?latch, fun s r h hk => ?latched,
    fun s r h hk ht => ?live, fun s r i h hk hi => ?tamper, fun s r h hk hr => ?self, fun s r b i h hk hb => ?firmware,
    fun s r h hk hb => ?noBank, fun s r h hk hr => ?tests, fun s r h hk hr hm => ?micro, fun s a r rev h hk hc => ?config,
    fun s r h hk hr hl => ?secrets, fun s r h hk => ?last, fun s a r tests h hr hk ha => ?testFails, fun s r h hk hr => ?keysFail,
    fun s r h hr hk => ?microFails, fun s src h h1 h7 => ?bootTamper⟩
  case exit =>
    rw [exec_resetExit, resetExit, if_neg (by simp [hst, hv, hd])]
    dsimp only
    rw [← ha]
  case leds => rw [exec_bootStep h hk, State.bootStep]
  case latch => rw [exec_bootStep h hk, State.bootStep, State.bootLatch_calm hr hl]
  case latched => rw [exec_bootStep h hk, State.bootStep]
  case live => rw [exec_bootStep h hk, State.bootStep, State.bootLive_calm ht]
  case tamper => rw [exec_bootStep h hk, State.bootStep, State.bootLive, hi]
  case self => rw [exec_bootStep h hk, State.bootStep, State.bootSelf_good hr]
  case firmware => rw [exec_bootStep h hk, State.bootStep, State.bootFirmware, hb]
  case noBank => rw [exec_bootStep h hk, State.bootStep, State.bootFirmware, hb]
  case tests => rw [exec_bootStep h hk, State.bootStep, State.bootTests, State.bootSelf_good hr]
  case micro => rw [exec_bootStep h hk, State.bootStep, if_pos (by rw [hr, hm]; rfl)]
  case config => rw [exec_bootStep h hk, State.bootStep, State.bootConfig, hc]
  case secrets => rw [exec_bootStep h hk, State.bootStep, State.bootSecrets, if_neg (by simp [hr, hl])]
  case last =>
    rw [exec_bootStep h hk, State.bootStep, State.bootLast]
    all_goals decide
  case testFails =>
    rcases hk with ⟨hk, rfl⟩ | ⟨hk, rfl⟩
    · rw [exec_bootStep h hk, State.bootStep, State.bootSelf_bad hr ha]
    · rw [exec_bootStep h hk, State.bootStep, State.bootTests, State.bootSelf_bad hr ha]
  case keysFail => rw [exec_bootStep h hk, State.bootStep, State.bootSecrets, if_pos (by simp [hr])]
  case microFails => rw [exec_bootStep h hk, State.bootStep, if_neg (by simp [hr])]
  case bootTamper => rw [exec_bootTamper, bootTamper, if_neg (by simp [h]; omega)]

/-! ### Custody lines and heartbeat (R443–R448) -/

theorem State.setGate_false_held (s : State) : (s.setGate false).pair.heldSinceHandshake = s.pair.heldSinceHandshake := by
  rw [s.setGate_false_eq, State.endSafeMode_pair, State.gateBits]
  simp

/-- Closing an open gate leaves it closed, and neither the partner's line nor the note of a held line changes. -/
theorem State.gateClosed_shows {x t : State} (ht : t = if x.pair.gateOpen then x.setGate false else x) : t.pair.gateOpen = false ∧
    t.flag Reg.GLB_STATUS_PEER = x.flag Reg.GLB_STATUS_PEER ∧ t.pair.heldSinceHandshake = x.pair.heldSinceHandshake := by
  rw [ht]
  split
  case isTrue =>
    obtain ⟨_, _, hg, _⟩ := x.setGate_false
    exact ⟨hg, congrArg (· == 1) (State.get_setGate_false x (by decide) (by decide)), x.setGate_false_held⟩
  case isFalse h => exact ⟨by simpa using h, rfl, rfl⟩

/-- Settles O13. -/
theorem custodyLinesAndHeartbeat : Obligations.CustodyLinesAndHeartbeat := by
  unfold Obligations.CustodyLinesAndHeartbeat
  refine ⟨fun s a stamp ha => ?rise, fun s stamp => ?riseShows, fun s a stamp ha => ?fall, fun s stamp => ?fallShows, fun s hh hp => ?collision,
    fun s a hm ha => ?heartbeat, fun s hm => ?heartbeatShows, fun s h => ?latch, fun s hh hp hs hf => ?disagree, fun s d => ?gate,
    fun s code cls inst d h => ?raise, fun s a code inst d h ha => ?f3, fun s a code inst d h ha hr hs => ?f4⟩
  case rise =>
    rw [exec_custPeerRise, custPeerRise, ← ha]
  case riseShows =>
    refine ⟨_, exec_custPeerRise .., ?_⟩
    obtain ⟨w, hw⟩ : ∃ w, s.advance (stamp * nsUnit) = w := ⟨_, rfl⟩
    obtain ⟨hg, hp, hh⟩ := State.gateClosed_shows (t := custPeerRise stamp s) (by rw [custPeerRise, hw])
    refine ⟨hg, hp.trans ?_, hh⟩
    exact (congrArg (· == 1) (State.get_of_regs rfl _)).trans (State.flag_put_one w (by decide) (by decide))
  case fall => rw [exec_custPeerFall, custPeerFall, ← ha]
  case fallShows =>
    refine ⟨_, exec_custPeerFall .., ?_⟩
    obtain ⟨w, hw⟩ : ∃ w, s.advance (stamp * nsUnit) = w := ⟨_, rfl⟩
    have hpair : w.pair = s.pair := by rw [← hw, State.advance_pair]
    rw [custPeerFall, hw]
    dsimp only
    refine ⟨?_, ?_, ?_, ?_⟩
    · rw [State.flag, State.get_put_other _ _ (by decide)]
      refine (congrArg (· == 1) ((State.get_of_regs rfl _).trans (State.get_put _ _ (by decide)))).trans ?_
      decide
    · rw [State.flag, State.get_put _ _ (by decide)]
      decide
    · obtain ⟨v, hv⟩ : ∃ v, w.put Reg.GLB_STATUS_PEER 0 = v := ⟨_, rfl⟩
      rw [hv, State.put_pair, State.put_time]
    · rw [State.put_pair, State.put_pair, hpair]
  case collision => rw [exec_custodyCollision, custodyCollision, if_pos (by simp [hh, hp])]
  case heartbeat =>
    rw [exec_heartbeatExpiry, heartbeatExpiry, if_neg (by simp [hm])]
    dsimp only
    rw [← ha]
  case heartbeatShows =>
    refine ⟨_, exec_heartbeatExpiry .., ?_⟩
    rw [heartbeatExpiry, if_neg (by simp [hm])]
    obtain ⟨_, _, hg, _⟩ := State.setGate_false (s.put Reg.GLB_STATUS_HOLD 0)
    refine ⟨hg, rfl, ?_⟩
    refine (congrArg (· == 1) ((State.get_of_regs rfl _).trans ((State.get_setGate_false _ (by decide) (by decide)).trans
      (State.get_put _ _ (by decide))))).trans ?_
    decide
  case latch => rw [exec_heartbeatLatchFound, heartbeatLatchFound, if_pos h]
  case disagree =>
    rw [exec_peerLineDisagree, peerLineDisagree, if_pos (by simp [hh, hp, hs, hf])]
    refine ⟨rfl, ?_⟩
    rw [State.raise1, State.raise_low _ _ _ _ _ _ (by decide) (by decide)]
    exact State.raiseRecord_active _ _ _ _ _ _ (by decide)
  case gate => rw [exec_gateChannelDisagree]
  case raise => rw [exec_faultF3Raise, faultF3Raise, if_pos (by simpa using h)]
  case f3 =>
    rw [State.raiseAt, State.raise, if_neg (by simp [h]), ← ha, State.classResponse, if_pos rfl]
    simp
  case f4 =>
    rw [State.raiseAt, State.raise, if_neg (by simp [h]), ← ha, State.classResponse, if_neg (by decide), if_pos rfl, if_pos (by simp [hr, hs])]

/-- Settles O14. -/
theorem custodyReleasedAndTried : Obligations.CustodyReleasedAndTried := by
  unfold Obligations.CustodyReleasedAndTried
  refine ⟨fun s q force ht hq hst hf => ?release, fun s s1 hr h1 => ?sample, fun s h => ?want, fun s hp hst => ?shadow, fun s hp hst => ?active,
    fun s a hp hst ha => ?sync, fun s a hst hh hp ha => ?orphan, fun s hst hp => ?safe⟩
  case release =>
    have hgo : force = false → (s.flag Reg.PAIR_STATUS_PARTNER = true ∧ s.flag Reg.PAIR_STATUS_PEER_READY = true) ∧
        (s.pair.peerDigests.head?.any fun d => decide (d.health ≤ 1)) = true := fun h =>
      (and_assoc.2 (hf.resolve_left (by simp [h])))
    rw [exec_custodyRelease, custodyRelease]
    dsimp only
    rw [State.command_taken ht (by simpa [hq, hst] using hgo)]
  case sample =>
    rw [exec_custodySample, custodySample, if_neg (by simp [hr]), ← h1]
    refine ⟨fun hw => ?_, fun k hw hn => ?_, fun k hw hp ht => ?_⟩
    · rw [State.tryCustody, hw]
    · rw [State.tryCustody, hw]
      dsimp only
      rw [if_pos (by simpa using hn)]
    · rw [State.tryCustody, hw]
      dsimp only
      rw [if_neg (by simp [hp, ht])]
  case want =>
    rw [State.wantCustody, if_pos (by simpa using h)]
  case shadow => rw [exec_soloWaitExpiry, soloWaitExpiry, if_neg (by simp [hp]), if_neg (by rw [hst]; decide), if_pos hst]
  case active =>
    rw [exec_soloWaitExpiry, soloWaitExpiry, if_neg (by simp [hp]), if_neg (by rw [hst]; decide), if_neg (by rw [hst]; decide), if_pos hst]
  case sync => rw [exec_soloWaitExpiry, soloWaitExpiry, if_neg (by simp [hp]), if_pos hst, ← ha]
  case orphan =>
    have hk : (if (!(!s.pair.heldSinceHandshake && s.flag Reg.PAIR_STATUS_PARTNER) && !s.roleA) = true then 2 else 1) =
        if (s.pair.heldSinceHandshake = true ∨ s.flag Reg.PAIR_STATUS_PARTNER = false) ∧ s.roleA = false then 2 else 1 :=
      ite_iff (by simp) rfl rfl
    rw [exec_orphanTimeout, orphanTimeout, if_neg (by simp [hst, hh, hp])]
    dsimp only
    rw [hk, ← ha]
  case safe => rw [exec_safeHoldExpiry, safeHoldExpiry, if_pos (by simp [hst, hp])]

/-! ### The tick boundary and steps of time (R27, R57, R190, R191) -/

theorem State.stepArmed_may {a : State} {v : Int} (hv : a.tim.armed = some v) (hm : a.stepMay a.time = true) : a.stepArmed =
    (let s1 := a.stepTime v
     let s2 := if 1000 < v.natAbs then s1.emptyHistories else s1
     let s3 := if s2.computing || !s2.tg.running then s2 else s2.restartTicks.nrgEmpty
     if 0 < v then s3.expireQueued else s3) := by
  rw [State.stepArmed, hv]
  dsimp only
  rw [if_neg (by simp [hm]), State.stepFollows]

/-- Settles O16. -/
theorem tickBoundaryRunsFiveActions : Obligations.TickBoundaryRunsFiveActions := by
  unfold Obligations.TickBoundaryRunsFiveActions
  refine ⟨fun s d m c hr => ?boundary, fun s a now v ha hv hm => ?step, fun s v => ?time, fun s t h => ?may⟩
  case boundary => rw [exec_tickBoundary, tickBoundary, if_neg (by simp [hr])]
  case step => rw [exec_stepApply, stepApply, ← ha, State.stepArmed_may hv hm]
  case time =>
    refine ⟨?_, ?_, State.srcFlag_event _ _ (by decide)⟩
    · rw [State.stepTime, State.event_time, State.put_time]
    · rw [State.stepTime, State.flag_event_other _ _ (by decide), State.flag, State.get_put _ _ (by decide)]
      decide
  case may => rw [State.stepMay, h, Bool.not_false, Bool.true_or]

/-! ### Slot commands (R330–R335) -/

section
variable {s : State} {slot n : Nat} {q : Req} {x : Slot}

theorem State.slotState_of (h : s.findSlot slot = some x) : s.slotState slot = x.state := by
  rw [State.slotState, h]

theorem slotBound_taken {op : Nat} {from' : List Nat} {mgr busy stop : Bool} (ht : s.takes op q) (hs : slot ≤ 1023)
    (hx : s.findSlot slot = some x) (hown : x.slice = q.slice ∨ (mgr = true ∧ q.slice = 0)) (hr : s.notIn stRun = false)
    (hst : from'.contains (s.slotState slot) = true) (hb : busy = false) (hstop : stop = false) :
    slotBound q op slot from' mgr busy stop s = (s.atBoundary ⟨q, op, slot, 0, 0⟩).holdRing op q := by
  have hmay : ¬ x.slice = q.slice → mgr = true ∧ q.slice = 0 := hown.resolve_left
  have hmem : s.slotState slot ∈ from' := by simpa using hst
  rw [slotBound, State.command_taken ht (by simpa [hs, hx, hr, hmem, hb, hstop] using hmay)]

theorem slotGroup_taken {group mode : Nat} (clear : Bool) (ht : s.takes 0x46 q) (hs : slot ≤ 1023) (hx : s.findSlot slot = some x)
    (hsl : x.slice = q.slice) (hg : group = 0xFF ∨ group < x.img.ngroups)
    (hm : mode = 0 ∨ mode = 0xFF ∨ (mode = 1 ∧ x.img.elems.any isTopo = true)) (ha : x.auto = false ∨ group = 0xFF ∨ mode = 0)
    (hr : s.notIn stRun = false) (hl : slLoaded ≤ x.state) (hu : x.state ≤ slRunning) : slotGroup q slot group mode clear s =
      State.holdRing (if x.state ≤ slAdmitted then s.applyGroup q x group mode clear
        else s.atBoundary ⟨q, 0x46, slot, group + 256 * mode, if clear then 1 else 0⟩) 0x46 q := by
  have hauto : (x.auto && group ≠ 0xFF && mode ≠ 0) = false := by
    rcases ha with h | h | h <;> simp [h]
  have hmode : (mode == 0 || mode == 1 || mode == 0xFF) = true ∧ (mode == 1 && !x.img.elems.any isTopo) = false := by
    rcases hm with h | h | ⟨h, hz⟩
    · simp [h]
    · simp [h]
    · rw [h, hz]
      simp
  have hgrp : (group ≠ 0xFF && decide (x.img.ngroups ≤ group)) = false := by
    rcases hg with h | h <;> simp [h]
  rw [slotGroup, hx]
  dsimp only
  rw [State.command_taken ht]
  simp only [List.mem_cons, List.not_mem_nil, or_false, forall_eq_or_imp, forall_eq, Option.any_some]
  refine ⟨?_, by simp [hsl], ?_⟩
  · rw [hmode.1, hgrp, hmode.2]
    simp [hs]
  · rw [hauto, hr, State.slotState_of hx]
    simp [hl, hu]

end

/-- Settles O18. -/
theorem slotCommandsActOrWait : Obligations.SlotCommandsActOrWait := by
  unfold Obligations.SlotCommandsActOrWait
  refine ⟨fun s q slot len key img ht hv hs hi hp ho hu hst hem hq hm hd hsig hk => ?load, fun s q slot x ht hs hx hsl hst hl ha => ?doAdmit,
    fun s q slot x ht hs hx hsl hst hl => ?unload, fun s q slot group mode clear x ht hs hx hsl hg hm ha hst hl hr => ?group,
    fun s q slot x ht hs hx hsl hst hl => ?shadow, fun s q slot x ht hs hx hsl hst hl ha hf => ?run, fun s q slot x ht hs hx hsl hst hl => ?stop,
    fun s q slot group mode clear x ht hs hx hsl hg hm ha hst hl => ?groupLater, fun s n slot q x hx hl => ?shadowRuns,
    fun s n slot q x hx hl => ?shadowStarts, fun s n slot q x hx hl ha hf => ?runs, fun s n slot q x hx hl => ?stops⟩
  case load =>
    rw [exec_slotLoad, slotLoad]
    rw [State.command_taken ht (by simp [hv, hs, hi, hp, ho, hu, hst, hem, hq, hm, hd, hsig, hk])]
  case doAdmit =>
    rw [exec_slotAdmit, slotAdmit]
    dsimp only
    rw [State.command_taken ht (by simp [hs, hx, hsl, hst, hl, ha]), hx] <;> rfl
  case unload =>
    have hmay : ¬ x.slice = q.slice → q.slice = 0 := hsl.resolve_left
    have hfrom : (s.slotState slot == slLoaded || s.slotState slot == slAdmitted || s.slotState slot == slQuarantined) = true := by
      simpa [or_assoc] using hl
    rw [exec_slotUnload, slotUnload]
    dsimp only
    rw [State.command_taken ht (by simpa [hs, hx, hst, hfrom] using hmay), hx]
  case group =>
    rw [exec_slotGroup, slotGroup_taken clear ht hs hx hsl hg hm ha hst hl (Nat.le_trans hr (by decide)), if_pos hr]
  case shadow =>
    rw [exec_slotShadow, slotShadow, slotBound_taken ht hs hx (.inl hsl) hst (by simpa using hl) rfl rfl]
  case run => 
    rw [exec_slotRun, slotRun, slotBound_taken ht hs hx (.inl hsl) hst (by simpa using hl) ha (by rw [hx]; exact hf)]
  case stop =>
    rw [exec_slotStop, slotStop, slotBound_taken ht hs hx (hsl.imp_right fun h => ⟨rfl, h⟩) hst (by simpa using hl) rfl rfl]
  case groupLater =>
    have hbounds : slLoaded ≤ x.state ∧ x.state ≤ slRunning ∧ ¬ x.state ≤ slAdmitted := by
      rcases hl with h | h <;> rw [h] <;> decide
    obtain ⟨hlo, hhi, hrun⟩ := hbounds
    rw [exec_slotGroup, slotGroup_taken clear ht hs hx hsl hg hm ha hst hlo hhi, if_neg hrun]
  case shadowRuns =>
    rw [State.applyBound, hx]
    dsimp only
    rw [if_pos rfl, hl, if_neg (by decide), if_pos rfl]
  case shadowStarts =>
    rw [State.applyBound, hx]
    dsimp only
    rw [if_pos rfl, hl, if_pos rfl]
  case runs =>
    rw [State.applyBound, hx]
    dsimp only
    rw [if_neg (by decide), if_pos rfl, if_pos (by simp [hl, ha, hf])]
  case stops =>
    rw [State.applyBound, hx]
    dsimp only
    rw [if_neg (by decide), if_neg (by decide), if_pos rfl, if_pos (by simpa using hl)]

end Sys2Proof.Machine

/-! The vote, the rods, readouts and injections -/

namespace Sys2Proof.Machine

/-! ### The vote, results and rods (R325, R336–R348, R408–R420) -/

/-- What a vote that comes in time does, before the tick settles. -/
theorem vote_runs {s a b : State} {d : Option Nat} (hr : s.tg.running = true) (hn : s.isSettled s.tg.next = false)
    (ha : a = s.advance (s.voteInstant s.tg.next)) (hb : b = a.benchesAt s.tg.next) : vote d s = b.settleVote s.tg.next d := by
  rw [vote]
  rw [if_neg (by simp [hr, hn]), ← ha, ← hb]

section
variable {s a : State} {r corr : Nat} {overs voted : List Nat} {upset : List (Nat × Nat)} {w : Work} {l : List Work} {c : RodState × Delivery}

/-- A delivery to a rod that computes, up to whether its tick is settled (R336–R338). -/
theorem rodResultsDelivered_eq (hr : r ≤ 2) (hst : s.rodSt r = rodVoting ∨ s.rodSt r = rodVerifying) (ht : (s.rod r).todo = w :: l)
    (hc : c = computeRod s.tg.f s.cle.prog w overs upset (s.rod r))
    (ha : a = ((s.countBy (Reg.ROD_RODSTAT_ECC_CORR r) corr).noteOver w.image.tick r overs).donorStream r w.image.tick c.2.sdig (s.rod r) c.1) :
    rodResultsDelivered r overs corr upset s = if a.isSettled w.image.tick then
        match findKey Prod.fst w.image.tick a.core.retained with
        | none => a.setRod r { c.1 with result := none }
        | some (_, voted) =>
          if voted == c.2.stream then a.setRod r { c.1 with result := none }
          else (((((a.setRod r c.1).event 75).count (Reg.ROD_RODSTAT_OUTCOME_BENCH r)).bench r 2).raiseAt 0x0902 2 r (r + 16)).restartIfShort
      else a.setRod r { c.1 with result := some c.2 } := by
  have hgo : ¬ (decide (2 < r) || !(s.rodSt r == rodVoting || s.rodSt r == rodVerifying)) = true := by
    rcases hst with h | h <;> simp [h, hr]
  obtain ⟨d, res⟩ := c
  rw [rodResultsDelivered]
  dsimp only
  rw [if_neg hgo, ht]
  dsimp only
  rw [← hc]
  dsimp only
  rw [← ha] <;> rfl

end

/-- Settles O20. -/
theorem voteSettlesTheTick : Obligations.VoteSettlesTheTick := by
  unfold Obligations.VoteSettlesTheTick
  refine ⟨fun s a b d l hr hn ha hb he hi hl hen hrs => ?decided, fun s a b c d x hr hn ha hb he hi hx hc => ?noImage,
    fun s a b d hr hn ha hb h => ?noLayout, fun s a b d l hr hn ha hb he hi hl h => ?idle,
    fun s a r corr overs upset w l c hr hst ht hc ha hs => ?kept, fun s a r corr overs voted upset w l c hr hst ht hc ha hs hv => ?late,
    fun s r hr hst => ?pass, fun s r hr hst => ?fail, fun s r corr hr hm => ?scrub, fun s a r word hr hm ha => ?uncorrectable⟩
  case decided =>
    rw [exec_vote, vote_runs hr hn ha hb, State.settleVote, if_neg (by simp [he]), if_neg hi, hl]
    dsimp only
    rw [if_neg (by simp [hen, hrs])]
  case noImage =>
    have hnone : b.settleNone s.tg.next = c := by rw [hc, hx, State.settleNone]
    rw [exec_vote, vote_runs hr hn ha hb, State.settleVote, if_neg (by simp [he]), if_pos hi, hnone]
  case noLayout =>
    rw [exec_vote, vote_runs hr hn ha hb, State.settleVote]
    by_cases he : b.svi.enabled = false
    · rw [if_pos (by simp [he])]
    · obtain ⟨hi, hl⟩ := h.resolve_left he
      rw [if_neg (by simpa using he), if_neg hi, hl]
  case idle =>
    rw [exec_vote, vote_runs hr hn ha hb, State.settleVote, if_neg (by simp [he]), if_neg hi, hl]
    dsimp only
    rw [if_pos (by simpa using h)]
  case kept => rw [exec_rodResultsDelivered, rodResultsDelivered_eq hr hst ht hc ha, if_neg (by simp [hs])]
  case late =>
    rw [exec_rodResultsDelivered, rodResultsDelivered_eq hr hst ht hc ha, if_pos hs, hv]
    simp only [beq_iff_eq]
  case pass => rw [exec_rodSelftestDone, rodSelftestDone, if_neg (by simp [hr, hst]), if_pos rfl]
  case fail => rw [exec_rodSelftestDone, rodSelftestDone, if_neg (by simp [hr, hst]), if_neg Bool.false_ne_true]
  case scrub => rw [exec_sramScrub, sramScrub, if_neg (by simp [hr, hm])]
  case uncorrectable =>
    rw [exec_sramUncorrectable, sramUncorrectable, if_neg (by simp [hr, hm])]
    dsimp only
    rw [← ha]

section
variable {s : State} {r written : Nat} {un : Bool}

theorem rodCopyRoundEnd_eq (hr : r ≤ 2) (hst : s.rodSt r = rodCopying) (hf : (s.rod r).finalDue = false) : rodCopyRoundEnd r written un s =
    let s1 := s.put (Reg.BEAM_ROD_COPY_REMAIN r) (min written (2 ^ 24 - 1))
    if un || s.donor.isNone then s1.reintFail r 1 6
    else if written ≤ 262144 then s1.setRod r { s1.rod r with finalDue := true }
    else if 64 ≤ s.get (Reg.BEAM_ROD_COPY_ROUNDS r) then s1.reintFail r 1 6
    else s1.put (Reg.BEAM_ROD_COPY_ROUNDS r) (s.get (Reg.BEAM_ROD_COPY_ROUNDS r) + 1) := by
  rw [rodCopyRoundEnd, if_neg (by simp [hr, hst, hf])]

end

/-- Settles O21. -/
theorem rodsRejoin : Obligations.RodsRejoin := by
  unfold Obligations.RodsRejoin
  refine ⟨fun s r written hr hst hf hd hw => ?short, fun s r written hr hst hf hd hw hk => ?long, fun s r written hr hst hf => ?bad,
    fun s r written dn hr hst hf hn hd hres hw => ?final, fun s hst hen => ?on, fun s hst hen => ?off, fun s en hst hen => ?same,
    fun s en hst => ?boot, fun s r hr hst => ?notService, fun s r hr hst hl => ?rearm, fun s a hm hn ha => ?passes,
    fun s a b v hm hn ha hb => ?fails⟩
  case short =>
    rw [exec_rodCopyRoundEnd, rodCopyRoundEnd_eq hr hst hf]
    dsimp only
    rw [if_neg (by simpa using hd), if_pos hw]
  case long =>
    rw [exec_rodCopyRoundEnd, rodCopyRoundEnd_eq hr hst hf]
    dsimp only
    rw [if_neg (by simpa using hd), if_neg (by omega), if_neg (by omega)]
  case bad =>
    rw [exec_rodCopyRoundEnd, rodCopyRoundEnd_eq hr hst hf]
    dsimp only
    rw [if_pos (by simp)]
  case final =>
    have hres' : (resultFor (s.rod dn) s.tg.next).isNone = false := by simpa [← Option.not_isSome] using hres
    rw [exec_rodCopyFinalRound, rodCopyFinalRound, if_neg (by simp [hr, hst, hf, hn]), hd]
    dsimp only
    rw [if_neg Bool.false_ne_true, if_neg (by simp [hres']), if_neg (by omega)]
  case on =>
    rw [exec_rodEnableChange, rodEnableChange]
    dsimp only
    rw [if_neg hst, if_pos (by simp [hen])]
  case off =>
    rw [exec_rodEnableChange, rodEnableChange]
    dsimp only
    rw [if_neg hst, if_neg (by simp), if_pos (by simp [hen])]
  case same =>
    rw [exec_rodEnableChange, rodEnableChange]
    dsimp only
    rw [if_neg hst, hen, if_neg (by simp), if_neg (by simp)]
  case boot =>
    rw [exec_rodEnableChange, rodEnableChange]
    dsimp only
    rw [if_pos hst]
  case notService => rw [exec_rodRearm, rodRearm, if_neg (by omega), if_pos hst]
  case rearm => rw [exec_rodRearm, rodRearm, if_neg (by omega), if_neg (by simp [hst]), if_neg (by simp [hl])]
  case passes =>
    have hgo : (s.mainAbsent || (s.tg.running && s.isSettled s.tg.next)) = false := by rcases hn with h | h <;> simp [hm, h]
    rw [exec_beamSelftest, beamSelftest, hgo, if_neg Bool.false_ne_true]
    dsimp only
    rw [Option.isSome_none, ← ha]
  case fails =>
    have hgo : (s.mainAbsent || (s.tg.running && s.isSettled s.tg.next)) = false := by rcases hn with h | h <;> simp [hm, h]
    rw [exec_beamSelftest, beamSelftest, hgo, if_neg Bool.false_ne_true]
    dsimp only
    rw [Option.isSome_some, ← ha, ← hb]

/-! ### Readouts (R248, R695–R697) -/

/-- Settles O22. -/
theorem readoutsAnswer : Obligations.ReadoutsAnswer := by
  unfold Obligations.ReadoutsAnswer
  refine ⟨fun s q len hr hv hl => ?status, fun s q len hr hv hl => ?statusShort, fun s q start len l hr hv hq hl hk => ?journal,
    fun s q start len l hr hv hq hl hk => ?keys, fun s a q block len clear offs hr hv hq hb ho hl ha => ?counters,
    fun s q block len clear offs hr hv hq hb ho hl => ?countersShort⟩
  case status =>
    rw [exec_statusRead, statusRead]
    rw [State.commandAny_taken hr hv (by simpa using hl)]
  case statusShort =>
    rw [exec_statusRead, statusRead]
    rw [State.commandAny_failed (c := .nores) hr hv (by simp [firstFail, hl])]
    rfl
  case journal =>
    subst hk
    rw [exec_journalRead, journalRead, State.commandAny_taken hr hv (by simp [hq]; omega), if_pos rfl]
  case keys =>
    subst hk
    rw [exec_journalRead, journalRead, State.commandAny_taken hr hv (by simp [hq]; omega), if_neg (by decide)]
  case counters =>
    have hoffs : counterOffs block = offs := by rw [ho, counterOffs]
    rw [exec_counterRead, counterRead]
    rw [State.commandAny_taken hr hv (by simp [hq, hb, hoffs]; omega), hoffs, State.countersOut]
    rw [← ha]
  case countersShort =>
    have hoffs : counterOffs block = offs := by rw [ho, counterOffs]
    rw [exec_counterRead, counterRead, hoffs]
    rw [State.commandAny_failed (c := .nores) hr hv (by simp [firstFail, hq, hl, Nat.not_lt.2 hb])]
    rfl

/-! ### Injections, self-tests and timers (R67, R103, R128, R691–R704) -/

/-- A request none of whose conditions fails passes the check of the console too. -/
theorem State.consoleCheck_passes {s : State} {op : Nat} {q : Req} {l : List (Status × Bool)} (ht : s.takes op q) (hl : ∀ x ∈ l, x.2 = false) :
    firstFail ((.version, decide (q.version ≠ 1)) :: s.consoleCheck q l) = none := by
  obtain ⟨_, hv, hc⟩ := ht
  have hconsole : (q.ring.isNone && !s.keys.console) = false := by
    rcases hc with h | h
    · simp [← Option.not_isSome, h]
    · simp [h]
  refine firstFail_none fun x hx => ?_
  simp only [State.consoleCheck, List.mem_cons, List.mem_append, List.not_mem_nil, or_false] at hx
  rcases hx with rfl | (hx | rfl) | hx
  · simp [hv]
  · exact hl x ((List.takeWhile_sublist _).subset hx)
  · exact hconsole
  · exact hl x ((List.dropWhile_sublist _).subset hx)

/-- Settles O23. -/
theorem injectionsAndSelfTests : Obligations.InjectionsAndSelfTests := by
  unfold Obligations.InjectionsAndSelfTests
  refine ⟨fun s q d i ht hv hd hp hst hk hn hi he => ?start, fun s q id ht hi hp => ?stop, fun s a id now i ha hi hr => ?ends,
    fun s test hm h8 h5 => ?pass, fun s a test hm h8 h5 ha => ?fail, fun s unit addr hm => ?parity,
    fun s a code unit d now ha hc hact hcs => ?timer, fun s a b plate die hm ha hb => ?temp⟩
  case start =>
    have hmem : s.st ∈ stRun := by simpa using hst
    have hmulti : (d.kind == 5 && !(([1, 2, 4] : List Nat).contains d.target) && s.flag Reg.GLB_STATUS_KEEPCUST) = false := by
      rcases hk with h | h | h
      · simp [h]
      · have hc : ([1, 2, 4] : List Nat).contains d.target = true := by simpa using h
        rw [hc]
        simp
      · simp [h]
    have hpass : ∀ x ∈ [(Status.version, decide (d.version ≠ 1)), (.param, decide ((32 : Nat) ≠ 32) || descBad d), (.priv, s.injPriv q d),
        (.state, !stRun.contains s.st || (d.kind == 5 && !(([1, 2, 4] : List Nat).contains d.target) && s.flag Reg.GLB_STATUS_KEEPCUST)),
        (.nores, decide (8 ≤ s.inj.length) || s.inj.any fun i => i.id == s.injId d)], x.2 = false := by
      rw [hmulti, hi]
      simp [hv, hd, hp, hmem, hn]
    have hnone := State.consoleCheck_passes ht hpass
    rw [exec_injectStart, injectStart]
    dsimp only
    rw [if_neg (by rw [hnone]; simp), State.command_taken ht hpass, ← he]
  case stop =>
    have hid : (decide (7 < id) && decide (id ≠ 0xFF)) = false := by
      rcases hi with h | h
      · simp; omega
      · simp [h]
    have hpriv : (decide (q.slice ≠ 0) && s.inj.any fun i => i.id == id && decide (i.slice ≠ q.slice)) = false := by
      rcases hp with h | h
      · simp [h]
      · rw [h, Bool.and_false]
    rw [exec_injectStop, injectStop]
    dsimp only
    rw [State.command_taken ht (by simp only [List.mem_cons, List.not_mem_nil, or_false, forall_eq_or_imp, forall_eq]; exact ⟨hid, hpriv⟩)]
  case ends =>
    rw [exec_injectEnd, injectEnd, ← ha, State.injOver, hi]
    dsimp only
    rw [if_neg hr]
  case pass => rw [exec_diagSelftest, diagSelftest, if_neg (by simp [h5, hm]; omega), if_pos rfl]
  case fail =>
    rw [exec_diagSelftest, diagSelftest, if_neg (by simp [h5, hm]; omega), if_neg Bool.false_ne_true]
    dsimp only
    rw [← ha]
  case parity =>
    refine ⟨?_, ?_, ?_, ?_, ?_, ?_, ?_, ?_, ?_, ?_, ?_⟩ <;>
      rw [exec_hardwareParityError, hardwareParityError, hm, if_neg Bool.false_ne_true]
    · rw [if_pos rfl]
    · rw [if_neg (by decide), if_pos rfl]
    · iterate 2 rw [if_neg (by decide)]
      rw [if_pos rfl]
    · iterate 3 rw [if_neg (by decide)]
      rw [if_pos rfl]
    · iterate 4 rw [if_neg (by decide)]
      rw [if_pos rfl]
    · iterate 5 rw [if_neg (by decide)]
      rw [if_pos rfl]
    · iterate 6 rw [if_neg (by decide)]
      rw [if_pos rfl]
    · iterate 7 rw [if_neg (by decide)]
      rw [if_pos rfl]
    · iterate 8 rw [if_neg (by decide)]
      rw [if_pos rfl]
    · iterate 9 rw [if_neg (by decide)]
      rw [if_pos rfl]
    · iterate 10 rw [if_neg (by decide)]
      rw [if_pos rfl]
  case timer =>
    rw [exec_faultTimerExpiry, faultTimerExpiry, ← ha, if_neg Bool.false_ne_true, if_pos (by simpa [hact, hcs] using hc)]
  case temp =>
    rw [exec_tempFault, tempFault]
    dsimp only
    rw [← ha, hm, if_neg Bool.false_ne_true]
    simp only [Bool.and_eq_true, decide_eq_true_eq, Bool.not_eq_true']
    rw [← hb]

/-! ### Slices (R158–R174) -/

/-- Settles O24. -/
theorem slicesAreMadeFrozenRestored : Obligations.SlicesAreMadeFrozenRestored := by
  unfold Obligations.SlicesAreMadeFrozenRestored
  refine ⟨fun s k data hk hst => ?boot, fun s s1 k data h1 hk hst hv hd hok hs1 => ?valid, fun s k data h1 hk hst hv hd hu => ?invalid,
    fun s data hst hp => ?slice0, fun s q k len buf ht h1 hk hp hq hr hv hm hl ho => ?freeze,
    fun s q k len buf ht h1 hk hp hq hr hv hm hl => ?freezeShort, fun s o i ho hr hs hb hi hl => ?frozen,
    fun s q k len img ht h1 hk hp hq hr hv hm ho => ?thaw,
    fun s a q k len img ht hv1 h1 hk hp hmk hq hr hv hm hn hl hqs hrg hd hbl hpas ho hdg hf ha => ?restore⟩
  case boot => rw [exec_sliceValidWrite, sliceValidWrite, if_neg (by omega), if_pos hst]
  case valid =>
    have hnow : (data.field 31 1 == 1) = true := by simp [hd]
    rw [exec_sliceValidWrite, sliceValidWrite, if_neg (by omega), if_neg hst, if_neg (by omega)]
    dsimp only
    rw [hv, hnow, if_neg (by simp), if_neg (by simp), if_neg (by simp [hok]), ← hs1]
    simp
  case invalid =>
    have hnow : (data.field 31 1 == 1) = false := by simp [hd]
    rw [exec_sliceValidWrite, sliceValidWrite, if_neg (by omega), if_neg hst, if_neg (by omega)]
    dsimp only
    rw [hv, hnow, hu]
    split
    · rfl
    · rw [if_pos (by simp)]
  case slice0 =>
    rw [exec_sliceValidWrite, sliceValidWrite, if_neg (by omega), if_neg hst, if_pos rfl]
    dsimp only
    rw [if_neg (by simp [hp])]
  case freeze =>
    rw [exec_sliceFreeze, sliceFreeze]
    rw [State.command_taken ht (by simp [hp, hq, hr, hv, hm, hl, ho]; omega)]
  case freezeShort =>
    have hk' : (decide (k = 0) || decide (255 < k) || s.isProt k) = false := by simp [hp]; omega
    rw [exec_sliceFreeze, sliceFreeze]
    rw [State.command_failed (c := .nores) ht (by simp [firstFail, hk', hq, hr, hv, hm, hl])]
    rfl
  case frozen =>
    rw [exec_freezeComplete, freezeComplete, ho]
    dsimp only
    rw [if_neg (by rw [hr, hs, hb]; simp), ← hi, if_neg (Nat.not_lt.2 hl)]
  case thaw =>
    rw [exec_sliceRestore, sliceRestore]
    dsimp only
    rw [State.command_taken ht (by simp [hp, hq, hr, hv, hm, ho]; omega)]
    simp only [beq_self_eq_true, if_true]
  case restore =>
    have hpas' : (decide (0 < img.rings.length) && !s.flag Reg.HIF_LINK_PASID_EN) = false := by
      rcases hpas with h | h <;> simp [h]
    have hres : (decide (s.freeRings.length < img.rings.length) || decide (s.get (Reg.SLC_SLICE_DRAMW_SIZE k) < img.dramMiB) ||
        !img.blocks.all s.blockFree || (decide (0 < img.rings.length) && !s.flag Reg.HIF_LINK_PASID_EN)) = false := by
      rw [hpas', hbl, decide_eq_false (Nat.not_lt.2 hrg), decide_eq_false (Nat.not_lt.2 hd)]
      rfl
    have hk' : (decide (k = 0) || decide (255 < k) || decide (1 < 0) || s.isProt k) = false := by
      simp [hp]
      omega
    rw [exec_sliceRestore, sliceRestore]
    dsimp only
    rw [State.command_taken ht (by
      rw [hres, hk', hmk, hqs]
      simp [hv1, hq, hr, hv, hm, hn, hl, ho, ← hdg, hf])]
    simp only [Nat.reduceBEq, Bool.false_eq_true, if_false]
    rw [← ha]

/-! ### Mailboxes (R165–R170) -/

/-- Settles O25. -/
theorem mailboxWritesAndRelay : Obligations.MailboxWritesAndRelay := by
  unfold Obligations.MailboxWritesAndRelay
  refine ⟨fun s a k data hp hf hd ha => ?enable, fun s k data hp hf hd => ?disable, fun s k data hp hf h1 h2 => ?out, fun s k data hp hf h => ?outBad,
    fun s k data hp hf h => ?into, fun s k data hp hf h => ?intoBad, fun s k m hm => ?take, fun s a k next x w hm ha hw => ?deliver,
    fun s k data hk hd => ?clear, fun s k hk hf => ?dmaError⟩
  case enable =>
    rw [exec_mbCtrlWrite, mbCtrlWrite, if_neg (by simp [hp])]
    dsimp only
    rw [if_pos (by simp [hd, hf]), ← ha]
  case disable =>
    rw [exec_mbCtrlWrite, mbCtrlWrite, if_neg (by simp [hp])]
    dsimp only
    rw [if_neg (by simp [hd]), if_pos (by simp [hd, hf])]
  case out =>
    rw [exec_mbOutDb, mbOutDb, if_neg (by simp [hp, hf])]
    dsimp only
    rw [if_pos (by simp [h1, h2])]
  case outBad =>
    rw [exec_mbOutDb, mbOutDb, if_neg (by simp [hp, hf])]
    dsimp only
    rw [if_neg (by simp only [Bool.and_eq_true, decide_eq_true_eq]; omega)]
  case into =>
    rw [exec_mbInDb, mbInDb, if_neg (by simp [hp, hf])]
    dsimp only
    rw [if_pos h]
  case intoBad =>
    rw [exec_mbInDb, mbInDb, if_neg (by simp [hp, hf])]
    dsimp only
    rw [if_neg (Nat.not_le.2 h)]
  case take =>
    rw [exec_mailboxRelay, mailboxRelay, if_neg (by simp [hm])]
    dsimp only [Option.elim_some]
    cases ((s.mbTake k m).mbOf k).waiting <;> rfl
  case deliver =>
    rw [exec_mailboxRelay, mailboxRelay, if_neg (by simp [hm]), ← ha]
    dsimp only
    rw [hw]
    dsimp only
    rw [if_neg (by decide)]
    exact ⟨fun h => by rw [h, if_pos rfl], fun h => by rw [if_neg h]⟩
  case clear => rw [exec_mbEvclr, if_pos (by simp [hd]; omega)]
  case dmaError =>
    rw [exec_mailboxDmaError, if_pos (by omega), State.mbStop, if_pos hf]

/-! ### Handovers begun and moved (R177–R186) -/

/-- Whether the digests of tick m − 2 of both ends are there and equal (R181). -/
def State.hoSame (s : State) : Bool :=
  (findKey Prod.fst (s.ho.m - 2) s.ho.mine).any fun a => (findKey Prod.fst (s.ho.m - 2) s.ho.theirs).any fun b => a.2 == b.2

theorem hoReleaseTx_eq {s : State} (hp : s.hoPhase = 3) (hr : s.ho.role = 0) : hoReleaseTx s =
    if !(s.ho.accepted && s.ho.durable) then (s.hoCancel 4).hoKeep
    else if !s.hoSame then (s.hoCancel 5).hoKeep
    else
      let s1 := s.hoSend s.ho.m .release
      { s1 with ho := { s1.ho with released := true, moves := s1.ho.moves ++ [(s1.ho.dsid, 2, s1.ho.m)] } }.hoGo 4 := by
  have hsame : (match findKey Prod.fst (s.ho.m - 2) s.ho.mine, findKey Prod.fst (s.ho.m - 2) s.ho.theirs with
      | some a, some b => a.2 == b.2
      | _, _ => false) = s.hoSame := by
    unfold State.hoSame
    cases findKey Prod.fst (s.ho.m - 2) s.ho.mine <;> cases findKey Prod.fst (s.ho.m - 2) s.ho.theirs <;> rfl
  rw [hoReleaseTx, if_neg (by simp [hr, hp])]
  dsimp only
  rw [← hsame] <;> rfl

theorem hoSame_missing {s : State} (h : findKey Prod.fst (s.ho.m - 2) s.ho.mine = none ∨ findKey Prod.fst (s.ho.m - 2) s.ho.theirs = none) :
    s.hoSame = false := by
  rcases h with h | h
  · rw [State.hoSame, h]
    rfl
  · rw [State.hoSame, h]
    cases findKey Prod.fst (s.ho.m - 2) s.ho.mine <;> rfl

/-- Settles O26. -/
theorem handoverBeginsAndMoves : Obligations.HandoverBeginsAndMoves := by
  unfold Obligations.HandoverBeginsAndMoves
  refine ⟨fun s a q slice peer path ps e h ht hs hp hpa hps hq hr hv hpr he hes h0 hh ha => ?source,
    fun s a q slice peer path ps dsid h ht hs hp hpa hps hq hr hv hpr hd hes hsl hroom hload h0 hh ha => ?destination,
    fun s q slice ht hs hq => ⟨fun hr h0 hsl hrel => ?abort, fun hrel => ?abortLate⟩, fun s m ha hr hp => ?ready, fun s m ha hr hp => ?grant,
    fun s a m hacc hr hp hm ha => ?accept, fun s a x y hp hr hacc hdur hx hy ha => ?release, fun s hp hr => ?releaseFails,
    fun s a m stamp hacc hr hp hm ha => ?releaseRx, fun s m hres hacc hr hp => ?taken, fun s m hres => ?resolved⟩
  case source =>
    have hany : (some e).any (fun x => x.status == 1 || x.status == 4) = true := by simpa using hes
    rw [exec_handoverBegin, handoverBegin, he]
    dsimp only
    rw [hany, State.command_taken ht (by simp [hs, hp, hpa, hps, hq, hr, hv, hpr, h0])]
    simp only [Option.elim_some, beq_self_eq_true, Nat.zero_ne_one, if_false, if_true]
    rw [← hh, ← ha]
  case destination =>
    subst hd
    have hany : (s.tokenOf (s.get (Reg.SLC_SLICE_DSID_DSID slice))).any (fun x => x.status == 1 || x.status == 4) = false := by
      cases he : s.tokenOf (s.get (Reg.SLC_SLICE_DSID_DSID slice)) with
      | none => rfl
      | some e => simp [hes e he]
    have hall : (s.sliceSlots slice).all (fun x => decide (slAdmitted ≤ x.state ∧ x.state ≤ slRunning)) = true :=
      List.all_eq_true.2 fun x hx => decide_eq_true (hsl x hx)
    have hfull : (s.sliceEngines slice).any (fun g => decide (admissionLimit (s.get Reg.SVI_CFG_RATE) <
        engLoad s.slots [] g + s.copyCycles slice path)) = false :=
      List.any_eq_false.2 fun g hg => by simpa using hload g hg
    rw [exec_handoverBegin, handoverBegin]
    dsimp only
    rw [hany, hall, hfull, State.command_taken ht (by simp [hs, hp, hpa, hps, hq, hr, hv, hpr, h0, hroom])]
    simp only [Nat.reduceBEq, Nat.one_ne_zero, if_false, if_true]
    rw [← hh, ← ha]
  case abort =>
    rw [exec_handoverAbort, handoverAbort, State.command_taken ht (by simp [hs, hq, hr, h0, hsl, hrel])]
  case abortLate =>
    rw [exec_handoverAbort, handoverAbort, State.command_failed (c := .state) ht (by simp [firstFail, Nat.not_lt.2 hs, hq, hrel])]
    rfl
  case ready => rw [exec_hoReadyRx, hoReadyRx, if_neg (by simp [ha, hr, hp])]
  case grant => rw [exec_hoGrantRx, hoGrantRx, if_neg (by simp [ha, hr, hp])]
  case accept =>
    rw [exec_hoAcceptRx, hoAcceptRx, if_neg (by simp [hacc, hr, hp, hm])]
    refine ⟨fun h => ?_, fun h => by rw [if_neg (Nat.not_le.2 h)]⟩
    rw [if_pos h, ha]
  case release =>
    have hsame : s.hoSame = (x.2 == y.2) := by
      rw [State.hoSame, hx, hy]
      rfl
    rw [exec_hoReleaseTx, hoReleaseTx_eq hp hr, hsame, if_neg (by simp [hacc, hdur])]
    dsimp only
    rw [← ha]
    exact ⟨fun h => by rw [if_neg (by simp [h])], fun h => by rw [if_pos (by simp [h])]⟩
  case releaseFails =>
    rw [exec_hoReleaseTx, hoReleaseTx_eq hp hr]
    refine ⟨fun h => by rw [if_pos (by simpa using h)], fun hacc hdur h => ?_⟩
    rw [if_neg (by simp [hacc, hdur]), if_pos (by rw [hoSame_missing h]; rfl)]
  case releaseRx =>
    rw [exec_hoReleaseRx, hoReleaseRx, if_neg (by simp [hacc, hr, hp, hm]), ← ha]
    exact ⟨fun h => by rw [if_pos h], fun h => by rw [if_neg (Nat.not_lt.2 h)]⟩
  case taken =>
    rw [exec_hoTakenRx, exec_hoNotTakenRx, hoTakenRx, hoNotTakenRx, hres, if_neg Bool.false_ne_true, if_neg Bool.false_ne_true,
      if_neg (by simp [hacc, hr, hp]), if_neg (by simp [hacc, hr, hp])]
    exact ⟨rfl, rfl⟩
  case resolved =>
    rw [exec_hoTakenRx, exec_hoNotTakenRx, hoTakenRx, hoNotTakenRx, if_pos hres, if_pos hres]
    exact ⟨rfl, rfl⟩

end Sys2Proof.Machine

/-! Handovers, the pair and resynchronisation -/

namespace Sys2Proof.Machine

/-! ### Copies, digests and doubts of a handover (R180–R183, R454) -/

theorem State.onAccept_some {s a : State} {lane seq : Nat} (h : s.pairAccept lane seq = some a) (act : State → State) :
    s.onAccept lane seq act = act a := by
  rw [State.onAccept, h]

/-- A state whose phase and role are those of a handover that is not passed does nothing of its own in a doubt. -/
theorem hoDoubt_idle {s : State} (h : s.ho.role ≠ 0 ∨ s.hoPhase < 4) : (decide (s.ho.role = 0) && (decide (s.hoPhase = 4) || decide (s.hoPhase = 5))) = false := by
  rcases h with h | h
  · simp [h]
  · simp only [Bool.and_eq_false_iff, Bool.or_eq_false_iff, decide_eq_false_iff_not]
    omega

/-- Settles O27. -/
theorem handoverCopiesAndCompares : Obligations.HandoverCopiesAndCompares := by
  unfold Obligations.HandoverCopiesAndCompares
  refine ⟨fun s a m stamp rate rho digests state seqs hb hacc hr hp ha => ?copy, fun s hp hr => ?deadline, fun s m d hb hacc => ?digest,
    fun s a hp ha => ?missing, fun s hp hr => ?timeout, fun s m hacc => ?cancel, fun s m hr hm hres hp => ?doubt,
    fun s d serial tick h hres => ?doubts, fun s m path e ht he hs hse => ?taken, fun s m path tick ht he hmem => ?notTaken,
    fun s a b lane seq ack e ha hb => ?token, fun s a b lane seq ack ha hb => ?ack, fun s a ha => ?resend⟩
  case copy =>
    rw [exec_hoCopyRx, hoCopyRx, hb]
    dsimp only
    rw [if_neg (by simp [hacc, hr, hp]), ← ha]
    refine ⟨fun hf hl => ?_, fun hf hl => ?_, fun hf => ?_⟩
    · rw [if_neg (by simp [hf]), if_neg (by simp [hl])]
    · rw [if_neg (by simp [hf]), if_pos hl]
    · rw [if_pos (by simp [hf])]
  case deadline => rw [exec_hoCopyDeadline, hoCopyDeadline, if_pos (by simp [hp, hr])]
  case digest =>
    rw [exec_hoDigestRx, hoDigestRx, hb]
    dsimp only
    rw [if_neg (by simp [hacc])]
  case missing =>
    rw [exec_hoDigestMissing, hoDigestMissing, if_neg (by omega), ← ha]
    refine ⟨fun hr => ?_, fun hr h2 hth => ?_⟩
    · have har : a.ho.role = 1 := by rw [ha, State.put_ho, hr]
      rw [if_neg (by simp [har])]
    · rw [if_pos (by simp [hr, h2, hth])]
  case timeout => rw [exec_hoCompareTimeout, hoCompareTimeout, if_pos (by simpa [hr] using hp)]
  case cancel =>
    rw [exec_hoCancelRx, hoCancelRx, if_neg (by simp [hacc])]
    exact ⟨fun h => by rw [if_neg (by simp [h])], fun h => by rw [if_pos h]⟩
  case doubt =>
    rw [exec_hoDoubt, hoDoubt, hres, if_pos (by simpa [hr] using hp), ← hm, List.foldl_nil]
  case doubts =>
    rw [exec_hoDoubt, hoDoubt, hres, hoDoubt_idle h, if_neg Bool.false_ne_true, List.foldl_cons, List.foldl_nil]
  case taken =>
    rw [exec_hoQueryRx, hoQueryRx]
    rw [if_neg (by simp [ht]), he, if_pos (by simp [hs, hse])]
  case notTaken =>
    have hany : (s.ho.notTaken.any fun x => x.1 == m.dsid && x.2.1 == m.serial) = true :=
      List.any_eq_true.2 ⟨_, hmem, by simp⟩
    rw [exec_hoQueryRx, hoQueryRx]
    rw [if_neg (by simp [ht]), he, if_neg (by simp), if_pos hany]
  case token =>
    rw [exec_tokenMsgRx, tokenMsgRx, State.onAccept_some ha]
    dsimp only
    rw [← hb]
    exact ⟨fun h => by rw [if_pos h], fun h => by rw [if_neg (by simp [h])]⟩
  case ack => rw [exec_tokenMsgRx, tokenMsgRx, State.onAccept_some ha, ← hb]
  case resend =>
    rw [exec_tokenResend, tokenResend, ← ha]
    exact ⟨fun h => by rw [if_pos (by simp [h])], fun h => by rw [if_neg (by simp [h])]⟩

/-! ### The pair's messages (R425–R458) -/

/-- Settles O28. -/
theorem pairMessagesKeepTheHandshake : Obligations.PairMessagesKeepTheHandshake := by
  unfold Obligations.PairMessagesKeepTheHandshake
  refine ⟨fun s hr => ?helloTx, fun s a lane seq h ha => ?helloRx, fun s a hp ha => ?loss, fun s a lane seq delay d ha hp => ?digest,
    fun s n => ?settle, fun s a lane seq r ha => ?fault, fun s a b lane seq ha hb => ?note, fun s a hst hh hp ha => ?ask,
    fun s a lane seq ha hst hs hh => ?asked⟩
  case helloTx => rw [exec_helloTx, helloTx, if_neg (by simp [hr])]
  case helloRx => rw [exec_helloRx, helloRx, State.onAccept_some ha]
  case loss =>
    rw [exec_handshakeLoss, State.handshakeLost, if_neg (by simp [hp]), ← ha]
    refine ⟨fun h => ?_, fun h1 h3 => ?_, fun h => ?_⟩
    · dsimp only
      rw [if_neg (by rcases h with h | h <;> rw [h] <;> decide), if_neg (by rcases h with h | h <;> rw [h] <;> decide)]
    · dsimp only
      rw [if_pos (by simp [h1, h3])]
    · dsimp only
      rw [if_neg (by rw [h]; decide), if_pos h]
  case digest =>
    rw [exec_digestRx, digestRx, State.onAccept_some ha, if_neg (by simp [hp])]
  case settle => rw [exec_digestSettleTimeout, digestSettleTimeout]
  case fault =>
    rw [exec_pairFaultRx, pairFaultRx, State.onAccept_some ha]
    refine ⟨fun h1 h3 => ?_, fun h => ?_⟩
    · rw [h1, decide_eq_true h3]
      rfl
    · have hno : (r.raised && decide (3 ≤ r.cls)) = false := by
        rcases h with h | h
        · rw [h, Bool.false_and]
        · rw [decide_eq_false (Nat.not_le.2 h), Bool.and_false]
      rw [hno]
      rfl
  case note => rw [exec_releaseNoteRx, releaseNoteRx, State.onAccept_some ha, hb]
  case ask =>
    have htick : a.tickNow = s.tickNow := by rw [ha, State.tickNow, State.tickNow]
    rw [exec_takeoverReqTx, takeoverReqTx, if_pos (by simp [hst, hh, hp]), ← ha, htick]
  case asked => rw [exec_takeoverReqRx, takeoverReqRx, State.onAccept_some ha, if_pos (by simp [hst, hs, hh])]

/-! ### Resynchronisation (R437–R441) -/

/-- Settles O29. -/
theorem resyncCopiesAState : Obligations.ResyncCopiesAState := by
  unfold Obligations.ResyncCopiesAState
  refine ⟨fun s a lane seq ha hp hd => ?nak, fun s a b lane seq ha hp hd h2 hsame hb => ?donor, fun s h => ?again,
    fun s a lane seq reason ha h => ?refused, fun s a b c lane seq entries seqs all ha h hb hc => ?copyFirst,
    fun s a b c lane seq entries seqs all ha h hb hc => ?copyMore, fun s a b lane seq n sdig stamp ha hb h => ?ends,
    fun s a h ha => ?retry, fun s h => ?backlog, fun s h => ?joinWait⟩
  case nak =>
    rw [exec_resyncReqRx, resyncReqRx, State.onAccept_some ha]
    dsimp only
    rw [if_neg (by simp [hp, hd])]
    refine ⟨fun h => by rw [if_pos h], fun h h1 h3 => ?_, fun h hi hs => ?_⟩
    · rw [if_neg (by omega), if_pos (by simp [h1, h3])]
    · rw [if_neg (by omega), if_neg (by rcases hi with hi | hi <;> rw [hi] <;> decide), if_pos (by rw [hs]; rfl)]
  case donor =>
    have hnot : a.rs ≠ rsDonor := by rcases hd with h | h <;> rw [h] <;> decide
    rw [exec_resyncReqRx, resyncReqRx, State.onAccept_some ha]
    dsimp only
    rw [if_neg (by simp [hp, hnot]), if_neg (by omega), if_neg (by rcases hd with hi | hi <;> rw [hi] <;> decide), if_neg (by rw [hsame]; decide),
      ← hb]
  case again => rw [exec_resyncReqRepeat, resyncReqRepeat, if_pos h]
  case refused =>
    rw [exec_resyncNakRx, resyncNakRx, State.onAccept_some ha, if_pos (by rcases h with h | h | h <;> rw [h] <;> decide)]
  case copyFirst =>
    rw [exec_resyncCopyRx, resyncCopyRx, State.onAccept_some ha]
    dsimp only
    have hfirst : (a.rs == rsRequested) = true := by rw [h]; decide
    have hjoin : decide (a.rs = rsJoin) = false := by rw [h]; decide
    rw [if_neg (by rw [h]; decide), hfirst, hjoin, Bool.or_false]
    simp only [if_true]
    rw [← hb, ← hc]
  case copyMore =>
    have hfirst : (a.rs == rsRequested) = false := by rcases h with h | h <;> rw [h] <;> decide
    rw [exec_resyncCopyRx, resyncCopyRx, State.onAccept_some ha]
    dsimp only
    rw [if_neg (by rcases h with h | h <;> rw [h] <;> decide), hfirst]
    simp only [Bool.false_eq_true, if_false, Bool.or_eq_true, decide_eq_true_eq]
    rw [← hb, ← hc]
  case ends =>
    rw [exec_resyncEndRx, resyncEndRx, State.onAccept_some ha]
    dsimp only
    rw [← hb]
    have hin : (decide (rsCopying ≤ b.rs) && decide (b.rs ≤ rsJoin)) = true := by rcases h with h | h <;> rw [h] <;> decide
    rw [hin]
    exact ⟨fun h => by rw [if_pos (by simpa using h)], fun h => by rw [if_neg (by simpa using h)]⟩
  case retry =>
    rw [exec_resyncRetry, resyncRetry, if_neg (by simp [h])]
    dsimp only
    rw [← ha]
  case backlog => rw [exec_resyncFailLimit, resyncFailLimit, if_pos (by simpa using h)]
  case joinWait => rw [exec_resyncFailLimit, resyncFailLimit, if_neg (by simp), if_pos (by simp [h])]

end Sys2Proof.Machine

/-! Rings and the host link -/

namespace Sys2Proof.Machine

/-! ### Rings (R132–R153) -/

theorem State.eventIf_true (s : State) (i : Nat) : s.eventIf true i = s.event i := rfl
theorem State.eventIf_false (s : State) (i : Nat) : s.eventIf false i = s := rfl

/-- Settles O32. -/
theorem ringsStartAndStop : Obligations.RingsStartAndStop := by
  unfold Obligations.RingsStartAndStop
  refine ⟨fun s r data hr hf hy => ?refused, fun s r data k hr hf hy hk => ?quota, fun s a r data x hr hf hy hx ha => ?start,
    fun s r data hr hf hst hc => ?enabled, fun s r data hr => ⟨fun hst => ?boot, fun hst hc => ?bad⟩,
    fun s r data x y s1 s2 hr hst hc hf h1 hx h2 hy => ?disable, fun s a r x hx hs hf ht hc ha => ?done,
    fun s r kind addr x hx hr => ?dma, fun s r x hx hc hu hf => ?coal⟩
  case refused =>
    have h2 : decide (s.enableReason r data = 2) = false := by rcases hy with h | h <;> rw [h] <;> decide
    rw [exec_ringEnable, ringEnable, if_neg (by omega)]
    dsimp only
    rw [if_neg (by simp [hf]), if_pos (by omega), h2, Bool.false_and, State.eventIf_false]
  case quota =>
    rw [exec_ringEnable, ringEnable, if_neg (by omega)]
    dsimp only
    rw [if_neg (by simp [hf]), if_pos (by omega), decide_eq_true hy, Bool.true_and, hy, hk]
  case start =>
    rw [exec_ringEnable, ringEnable, if_neg (by omega)]
    dsimp only
    rw [if_neg (by simp [hf]), if_neg (by omega), ← hx, ← ha]
  case enabled =>
    rw [exec_ringEnable, ringEnable, if_neg (by omega)]
    dsimp only
    rw [if_pos hf, if_neg hst, if_neg (by simp [hc])]
  case boot => rw [exec_ringDisable, ringDisable, if_neg (by omega), if_pos hst]
  case bad => rw [exec_ringDisable, ringDisable, if_neg (by omega), if_neg hst, if_pos hc]
  case disable =>
    rw [exec_ringDisable, ringDisable, if_neg (by omega), if_neg hst, if_neg (by simp [hc])]
    dsimp only
    rw [if_neg (by simp [hf]), ← h1, hx]
    dsimp only
    rw [← h2, hy]
  case done =>
    rw [exec_ringStopDone, ringStopDone, hx]
    dsimp only
    rw [if_neg (by simp [hs, hf, ht, hc]), ← ha]
  case dma =>
    rw [exec_ringDmaError, ringDmaError, hx]
    dsimp only
    rw [if_pos hr]
  case coal =>
    rw [exec_coalTimerExpiry, coalTimerExpiry, hx]
    dsimp only
    rw [if_pos (by simp [hc, hu, hf])]

/-- Two conditions differ as Booleans where they are not equivalent. -/
theorem decide_bne_decide (b c : Prop) [Decidable b] [Decidable c] : (decide b != decide c) = decide (¬(b ↔ c)) := by
  by_cases hb : b <;> by_cases hc : c <;> simp [hb, hc]

/-- Settles O33. -/
theorem ringEntriesAreServed : Obligations.RingEntriesAreServed := by
  unfold Obligations.RingEntriesAreServed
  refine ⟨fun s a r now given es b luck x hx hes hr ha => ?tx, fun s a s1 lens luck now c f ha hn hc hf => ?rx,
    fun s a lens luck now h ha hh => ?held, fun s a r opcode version m x hx ht hr hst hfz hc ho hrd hm ha => ?cmd, fun s a i l hl ha => ?evq⟩
  case tx =>
    subst hes
    rw [exec_txFetch, txFetch, hx]
    dsimp only
    rw [if_neg (by simp [hr]), ← ha]
    refine ⟨fun hn => ?_, fun st hn => ?_⟩
    · rw [hn, if_neg (by decide)]
    · rw [hn, if_pos (by rfl)]
  case rx =>
    rw [exec_rxPlace, rxPlace, ← ha, State.rxNext, hn]
    dsimp only
    rw [hc]
    dsimp only
    rw [State.rxCopy, hf]
    dsimp only
    exact ⟨fun x hx => by rw [hx], fun hx => by rw [hx]⟩
  case held => rw [exec_rxPlace, rxPlace, ← ha, State.rxNext, hh]
  case cmd =>
    have hgo : (!(x.type == 2 || x.type == 4) || !s.ringRuns r || x.stopping || x.frozen || x.cur.isSome || decide (s.outstanding x = 0) ||
        !s.ready) = false := by
      rw [hr, hst, hfz, hc, hrd, decide_eq_false ho]
      rcases ht with h | h <;> rw [h] <;> rfl
    have hkind : ((opcode == 0x90) != (x.type == 4)) = decide (¬(opcode = 0x90 ↔ x.type = 4)) := by
      exact decide_bne_decide (opcode = 0x90) (x.type = 4)
    rw [exec_cmdFetch, cmdFetch, hx]
    dsimp only
    rw [hgo, if_neg Bool.false_ne_true, ← hm, ← ha, hkind]
    refine ⟨fun hv hop hk => ?_, fun hv => by rw [if_pos hv], fun hv h => ?_⟩
    · rw [if_neg (by simp [hv]), if_neg (by rw [hop, decide_eq_false (Classical.not_not.2 hk)]; decide)]
    · rw [if_neg (by simp [hv]), if_pos (by simpa only [Bool.or_eq_true, Bool.not_eq_true', decide_eq_true_eq] using h)]
  case evq =>
    subst ha
    rw [exec_evqWrite, evqWrite, hl]

/-- Settles O34. -/
theorem hostLinkEvents : Obligations.HostLinkEvents := by
  unfold Obligations.HostLinkEvents
  refine ⟨fun s a b ho hv ha hb => ?reset, fun s a b ha hb => ?disable, fun s => ?enablePasid, fun s => ?enable, fun s a b hp ha hb => ?pasid,
    fun s hw ho hv => ?down, fun s a width speed hw hsp ha => ?change⟩
  case reset =>
    rw [exec_perst, exec_flrD3hot, State.hostReset, if_neg (by simp [ho, hv])]
    dsimp only
    rw [← ha, ← hb]
    exact ⟨rfl, rfl⟩
  case disable =>
    rw [exec_busMasterDisable, busMasterDisable, ← ha, State.dmaStopAll, List.filter_eq_self.2 fun _ _ => rfl]
    dsimp only [Option.getD_none]
    rw [← hb]
  case enablePasid => rw [exec_busMasterEnable, busMasterEnable, if_pos rfl]
  case enable => rw [exec_busMasterEnable, busMasterEnable, if_neg Bool.false_ne_true]
  case pasid =>
    rw [exec_pasidDisable, pasidDisable, if_neg (by simp [hp]), ← ha, State.dmaStopAll]
    dsimp only [Option.getD_some]
    rw [← hb]
  case down => rw [exec_pcieLinkDown, pcieLinkDown, if_pos (by simp [hw, ho, hv])]
  case change =>
    have hw' : width % 16 = width := by omega
    have hs' : speed % 16 = speed := by omega
    have hdiff : (s.get Reg.HIF_LINK_WIDTH ≠ width ∨ s.get Reg.HIF_LINK_SPEED ≠ speed) →
        (!(decide (s.get Reg.HIF_LINK_WIDTH = width) && decide (s.get Reg.HIF_LINK_SPEED = speed))) = true := fun h => by
      rcases h with h | h <;> simp [h]
    rw [exec_pcieLinkChange, pcieLinkChange, ← ha, hw', hs']
    refine ⟨fun h h0 => ?_, fun h h0 => ?_⟩
    · rw [hdiff h, State.eventIf_true, if_pos h0]
    · rw [hdiff h, State.eventIf_true, if_neg (by omega)]

/-! ### Keys (R635–R658) -/

theorem State.keyRefused_ok {s : State} {ok : Bool} (h : ok = true) : s.keyRefused ok = s := by
  rw [h]
  rfl

theorem State.keyRefused_if {s : State} {c : Prop} [Decidable c] {ok : Bool} (h : c → ok = true) : (if c then s.keyRefused ok else s) = s := by
  split
  case isTrue hc => exact State.keyRefused_ok (h hc)
  case isFalse => rfl

theorem State.notIn_false {s : State} {l : List Nat} (h : s.notIn l = false) : l.contains s.st = true := by simpa [State.notIn] using h

section
variable {s : State} {q : Req} {r : KeyRecord}

/-- The conditions of KEY_STAGE that a record's words alone do not decide (R641). -/
theorem keyStage_clear (hs : q.slice = polOwner r.policy) (hh : s.keySt r.slot = keyEmpty ∨ s.get (Reg.KEY_SLOT_POLICY_OWNER r.slot) = q.slice)
    (hg : ∀ h, s.stageOf r.slot = some h → h.slice = q.slice) (hf : 16 ≤ r.slot ∨ q.slice = 0)
    (hw : r.mode ≠ 2 ∨ (s.keyOwn r.wrapSlot q.slice = true ∧ s.keyUsable r.wrapSlot q.slice 6 = true)) :
    (q.slice ≠ polOwner r.policy || (s.keySt r.slot != keyEmpty && s.get (Reg.KEY_SLOT_POLICY_OWNER r.slot) ≠ q.slice) ||
      (s.stageOf r.slot).any (fun g => g.slice != q.slice) || (decide (r.slot < 16) && q.slice ≠ 0) ||
      (r.mode = 2 && (!s.keyOwn r.wrapSlot q.slice || !(r.mode ≠ 2 || s.keyUsable r.wrapSlot q.slice 6)))) = false := by
  have h1 : (s.keySt r.slot != keyEmpty && s.get (Reg.KEY_SLOT_POLICY_OWNER r.slot) ≠ q.slice) = false := by
    rcases hh with h | h <;> simp [h]
  have h2 : (s.stageOf r.slot).any (fun g => g.slice != q.slice) = false := by
    cases he : s.stageOf r.slot with
    | none => rfl
    | some g => simp [hg g he]
  have h3 : (decide (r.slot < 16) && decide (q.slice ≠ 0)) = false := by
    rcases hf with h | h
    · simp [Nat.not_lt.2 h]
    · simp [h]
  have h4 : (decide (r.mode = 2) && (!s.keyOwn r.wrapSlot q.slice || !(decide (r.mode ≠ 2) || s.keyUsable r.wrapSlot q.slice 6))) = false := by
    rcases hw with h | ⟨h, h'⟩
    · simp [h]
    · simp [h, h']
  rw [h1, h2, h3, h4, decide_eq_false (Classical.not_not.2 hs)]
  rfl

theorem keyStage_room (hr : s.stageOf r.slot ≠ none ∨ ((s.keySt r.slot ≠ keyEmpty ∨ r.slot < 16 ∨ s.overQuota (Reg.SLC_SLICE_QD_KEYS q.slice) 1 = false) ∧
    s.keys.stages.length < 16)) :
    ((s.stageOf r.slot).isNone && ((!(s.keySt r.slot != keyEmpty) && decide (16 ≤ r.slot) && s.overQuota (Reg.SLC_SLICE_QD_KEYS q.slice) 1) ||
      decide (16 ≤ s.keys.stages.length))) = false := by
  rcases hr with h | ⟨h, hl⟩
  · simp [Option.isNone_eq_false_iff.2 (Option.isSome_iff_ne_none.2 h)]
  · rw [decide_eq_false (Nat.not_le.2 hl)]
    rcases h with h | h | h
    · simp [h]
    · simp [Nat.not_le.2 h]
    · simp [h]

end

theorem List.foldl_five {α β : Type} (f : α → β → α) (a : α) (b c d e g : β) :
    [b, c, d, e, g].foldl f a = f (f (f (f (f a b) c) d) e) g := rfl

/-- Settles O35. -/
theorem keysStageVerifyCommit : Obligations.KeysStageVerifyCommit := by
  unfold Obligations.KeysStageVerifyCommit
  refine ⟨fun s a b c q r gen kid g ht hv hp hs hh hg hf hw hr hl hroom hb hm hgen hkid hgg ha hbb hc => ?stage,
    fun s q k len ok g ht hk hg hs hl hr hb hm => ?verify, fun s a q k len ok g ht hk hg hs hu hr hb hm ha => ?peer,
    fun s a k now m hm ha => ?proof, fun s a q k gen g ht hk hg hs hv hh hr hb hgen ha => ?commit,
    fun s a q k gen ht h2 hk hh hp hr hb hgen ha => ?destroy, fun s k now g hg hn ho => ?expiry, fun s a b k gen step hr ha hs hb => ?retry⟩
  case stage =>
    have hst : stRun.contains s.st = true := State.notIn_false hr
    have hgroup : decide ((s.get Reg.KEY_STATUS_LOCKGRP >>> (if (s.keySt r.slot != keyEmpty) = true then s.get (Reg.KEY_SLOT_POLICY_GROUP r.slot)
        else polGroup r.policy)) % 2 = 1) = false := by
      refine decide_eq_false ?_
      split at hl
      case isTrue he => rw [if_neg (by simp [he])]; omega
      case isFalse he => rw [if_pos (by simpa using he)]; omega
    have hmode : (decide (2 ≤ r.mode) && !r.engineOk) = false := by
      rcases hm with h | h
      · rw [decide_eq_false (Nat.not_le.2 h), Bool.false_and]
      · rw [h]
        simp
    have hnew : ((s.stageOf r.slot).isNone && !(s.keySt r.slot != keyEmpty)) = decide (s.stageOf r.slot = none ∧ s.keySt r.slot = keyEmpty) := by
      cases s.stageOf r.slot <;> by_cases he : s.keySt r.slot = keyEmpty <;> simp [he]
    rw [exec_keyStage, keyStage]
    dsimp only
    rw [State.keyRefused_if (fun hc => (hw.resolve_left (by simp at hc; exact Classical.not_not.2 hc.1.2)).2), State.command_taken ht (by
      simp only [List.mem_cons, List.not_mem_nil, or_false, forall_eq_or_imp, forall_eq]
      exact ⟨by simp [hv], hp, keyStage_clear hs hh hg hf hw, by rw [hst, hgroup]; rfl, keyStage_room hroom, hb, hmode⟩)]
    rw [← hgen, ← hkid, ← hgg, hnew]
    simp only [decide_eq_true_eq]
    have hlen : (setKey KeyStaged.slot g a.keys.stages).length = b.keys.stages.length := by rw [hbb]
    rw [← ha, hlen, ← hbb, ← hc]
  case verify =>
    have hst : s.st ∈ stRun := by simpa using State.notIn_false hr
    rw [exec_keyVerify, keyVerify, hg]
    rw [State.command_taken ht (by
      have hmul : s.multi.any (fun m => m.opcode == opVerify) = false := hm
      rw [hmul]
      simp [hk, hl, hs, hst, hb]
      exact ite_iff Iff.rfl rfl rfl)]
    rw [if_neg (by decide), if_pos rfl]
  case peer =>
    have hst : s.st ∈ stRun := by simpa using State.notIn_false hr
    rw [exec_keyVerify, keyVerify, hg]
    rw [State.command_taken ht (by
      have hmul : s.multi.any (fun m => m.opcode == opVerify) = false := hm
      rw [hmul]
      simp [hk, hu, hs, hst, hb])]
    rw [if_pos rfl, ← ha]
  case proof =>
    rw [exec_keyPeerProof, exec_keyPeerProof, keyPeerProof, keyPeerProof, hm]
    dsimp only
    rw [← ha, if_pos rfl]
    exact ⟨rfl, fun h => by rw [if_neg Bool.false_ne_true, if_pos h]⟩
  case commit =>
    have hst : s.st ∈ stRun := by simpa using State.notIn_false hr
    have hown : (s.keySt k != keyEmpty && s.get (Reg.KEY_SLOT_POLICY_OWNER k) ≠ q.slice) = false := by rcases hh with h | h <;> simp [h]
    rw [exec_keyCommit, keyCommit, hg]
    dsimp only
    rw [State.command_taken ht (by
      rw [hown]
      simp [hk, hs, hst, hv, hb])]
    rw [if_neg Bool.false_ne_true, ← hgen, ← ha]
  case destroy =>
    have hst : stRun.contains s.st = true := State.notIn_false hr
    have hheld : (s.keySt k != keyEmpty) = true := by simpa using hh
    have halien : (q.slice ≠ 0 && ((s.stageOf k).any (fun g => g.slice != q.slice) ||
        ((s.keySt k != keyEmpty) && s.get (Reg.KEY_SLOT_POLICY_OWNER k) ≠ q.slice))) = false := by
      rcases hp with h | ⟨h, ho⟩
      · simp [h]
      · have hany : (s.stageOf k).any (fun g => g.slice != q.slice) = false := by
          cases he : s.stageOf k with
          | none => rfl
          | some g => simp [h g he]
        rw [hany, decide_eq_false (Classical.not_not.2 ho)]
        simp
    rw [exec_keyCommit, keyCommit]
    dsimp only
    rw [State.command_taken ht (by
      simp only [List.mem_cons, List.not_mem_nil, or_false, forall_eq_or_imp, forall_eq, if_true]
      exact ⟨decide_eq_false (by omega), by rw [halien, decide_eq_false (by omega)]; rfl, by rw [hst, hheld]; rfl, hb⟩)]
    rw [if_pos rfl, ← hgen, ← ha]
  case expiry =>
    rw [exec_keyStageExpiry, keyStageExpiry, hg]
    dsimp only
    rw [if_pos (by rw [ho]; simp [hn])]
  case retry =>
    subst ha hs hb
    rw [exec_destroyRetry, destroyRetry, if_neg (by rw [hr]; simp)]

/-! ### Service, life cycle and tamper (R111, R648–R661) -/

section
variable {s : State} {q : Req} {len : Nat} {keep ok : Bool}

/-- SERVICE_ENTER of a request none of whose conditions fails: what was judged of its key and nonce leaves no trace (R649). -/
theorem serviceEnter_taken (hr : s.reaches 0x22 q = true) (hv : q.version = 1) (hq : q.slice = 0)
    (hlen : len = 96 ∨ (s.get Reg.KEY_STATUS_LIFECYCLE = 0 ∧ len = 0)) (hst : s.st = stShadow ∨ s.st = stSolo)
    (hok : s.get Reg.KEY_STATUS_LIFECYCLE = 0 ∨ (s.keyUsable 3 0 7 = true ∧
      (s.keys.nonceAt.any (fun t => decide (s.ns < t + 300000000000)) && ok) = true)) : serviceEnter q len keep ok s =
      (let s1 := { s with keys := { s.keys with nonceAt := none, console := q.ring.isNone } }
       let s2 := if s.st = stSolo ∧ keep = false then s1.dropCustody else s1
       let s3 := (s2.putFlag Reg.GLB_STATUS_KEEPCUST (s.st == stSolo && keep)).serviceEvent
       (s3.setState stService 0x22).complete q .ok 0 0).holdRing 0x22 q := by
  have hfails : ∀ x ∈ ([(.param, len ≠ 96 && !(decide (s.get Reg.KEY_STATUS_LIFECYCLE = 0) && len = 0)), (.priv, q.slice ≠ 0),
      (.state, (s.st ≠ stShadow && s.st ≠ stSolo) || (!decide (s.get Reg.KEY_STATUS_LIFECYCLE = 0) && !s.keyUsable 3 0 7)),
      (.integrity, !decide (s.get Reg.KEY_STATUS_LIFECYCLE = 0) && !(s.keys.nonceAt.any (fun t => decide (s.ns < t + 300000000000)) && ok))] :
      List (Status × Bool)), x.2 = false := by
    have hsol : (decide (s.st ≠ stShadow) && decide (s.st ≠ stSolo)) = false := by rcases hst with h | h <;> simp [h]
    have hpar : (decide (len ≠ 96) && !(decide (s.get Reg.KEY_STATUS_LIFECYCLE = 0) && decide (len = 0))) = false := by
      rcases hlen with h | ⟨h, h'⟩
      · simp [h]
      · simp [h, h']
    simp only [List.mem_cons, List.not_mem_nil, or_false, forall_eq_or_imp, forall_eq]
    refine ⟨hpar, by simp [hq], ?_, ?_⟩
    · rw [hsol, Bool.false_or]
      rcases hok with h | ⟨h, _⟩ <;> simp [h]
    · rcases hok with h | ⟨_, h⟩
      · simp [h]
      · rw [h]
        simp
  have hnone := firstFail_none hfails
  have hjudged : ∀ c : Bool, (c && decide ((none : Option Status) = some .integrity)) = false := fun c => by simp
  rw [serviceEnter]
  dsimp only
  rw [hnone, hjudged, if_neg Bool.false_ne_true, State.keyRefused_if (fun hc => (hok.resolve_left (by simp at hc; exact hc.2)).1),
    State.commandAny_taken hr hv hfails]
  simp only [Bool.and_eq_true, decide_eq_true_eq, Bool.not_eq_true', Bool.beq_eq_decide_eq]

end

/-- Settles O36. -/
theorem serviceLifecycleAndTamper : Obligations.ServiceLifecycleAndTamper := by
  unfold Obligations.ServiceLifecycleAndTamper
  refine ⟨fun s a now ha => ?nonce, fun s a q t0 keep hr hv hq hst hl hk hn ht ha => ?enter, fun s a q keep ok hr hv hq hst hl ha => ?blank,
    fun s a q target ht hq hst htg hb ha => ?life, fun s a b src sub h1 h7 hm hact ha hb => ?active, fun s src h1 h7 h => ?inactive,
    fun s h => ?notService, fun s hst h => ?stillActive, fun s a b hst h ha hb => ?clear, fun s a b c bad0 bad1 caseOpen temp sub failed ha hb hc => ?test⟩
  case nonce => rw [exec_nonceRead, nonceRead, ← ha]
  case enter =>
    rw [exec_serviceEnter, serviceEnter_taken hr hv hq (.inl rfl) hst (.inr ⟨hk, by rw [hn, Option.any_some, decide_eq_true ht, Bool.true_and]⟩)]
    dsimp only
    rw [← ha]
  case blank =>
    rw [exec_serviceEnter, serviceEnter_taken hr hv hq (.inr ⟨hl, rfl⟩) (.inl hst) (.inl hl)]
    have hsolo : ¬ s.st = stSolo := by rw [hst]; decide
    dsimp only
    rw [← ha, if_neg (fun h => hsolo h.1), beq_eq_false_iff_ne.2 hsolo, Bool.false_and]
  case life =>
    have htarget : (!(decide (target = s.get Reg.KEY_STATUS_LIFECYCLE + 1) && decide (target ≤ 4)) && decide (target ≠ 4)) = false := by
      rcases htg with ⟨h, h'⟩ | h
      · rw [decide_eq_true h', decide_eq_true h]
        rfl
      · simp [h]
    rw [exec_lifecycleAdvance, lifecycleAdvance]
    dsimp only
    rw [State.command_taken ht (by
      rw [htarget]
      simp [hq, hst, hb]), ← ha]
  case active =>
    have hgo : (decide (src = 0) || decide (7 < src) || (decide (5 < src) && s.mainAbsent) ||
        decide ((s.get Reg.TMP_STATUS_ACTIVE >>> src) % 2 = 1)) = false := by
      rw [decide_eq_false (show ¬ src = 0 by omega), decide_eq_false (show ¬ 7 < src by omega),
        decide_eq_false (show ¬ (s.get Reg.TMP_STATUS_ACTIVE >>> src) % 2 = 1 by omega)]
      rcases hm with h | h
      · rw [decide_eq_false (Nat.not_lt.2 h)]
        rfl
      · rw [h, Bool.and_false]
        rfl
    rw [exec_tamperActive, tamperActive, hgo, if_neg Bool.false_ne_true]
    dsimp only
    rw [← ha, ← hb]
  case inactive => rw [exec_tamperInactive, tamperInactive, if_neg (by simp [h]; omega)]
  case notService => rw [exec_tamperClear, tamperClear, if_pos h]
  case stillActive => rw [exec_tamperClear, tamperClear, if_neg (Classical.not_not.2 hst), if_pos h]
  case clear =>
    rw [exec_tamperClear, tamperClear, if_neg (Classical.not_not.2 hst), if_neg (Classical.not_not.2 h)]
    dsimp only
    rw [← ha, ← hb]
  case test =>
    rw [exec_tamperLoopTest, tamperLoopTest]
    dsimp only
    rw [← ha, ← hb, ← hc, List.foldl_five]

/-! ### The cyclic logic engine's commands (R490–R496) -/

/-- Settles O37. -/
theorem logicEngineCommands : Obligations.LogicEngineCommands := by
  unfold Obligations.LogicEngineCommands
  refine ⟨fun s q len key img ht hv hz hl hc hp ho hu hr hst hd hsig hk => ?load, fun s q cold ht hp hr hst hprog hen => ?start,
    fun s q ht hp hr => ⟨fun hst hb => ?stopped, fun h => ?stop⟩, fun s q target value at' ht hw hp hr hst hn => ?write,
    fun s q addr value l ht ha hq hst hl hroom => ?force, fun s q addr ht hq hst => ?clear⟩
  case load =>
    rw [exec_cleLoad, cleLoad, State.command_taken ht (by
      rw [hz, hc]
      simp [hv, hl, hp, ho, hu, hr, hst, hd, hsig, hk])]
  case start =>
    rw [exec_cleStart, cleStart, State.command_taken ht (by simp [hp, hr, hst, Option.isSome_iff_ne_none.2 hprog, hen])]
  case stopped =>
    rw [exec_cleStop, cleStopCmd, State.command_taken ht (by simp [hp, hr]), if_pos (by simp [hst, hb])]
  case stop =>
    rw [exec_cleStop, cleStopCmd, State.command_taken ht (by simp [hp, hr]), if_neg (by
      rcases h with h | h <;> simp [h])]
  case write =>
    rw [exec_cleWrite, cleWrite, State.command_taken ht (by simp [hw, hp, hr, hst, hn])]
  case force =>
    have hexist : ((addr / 2 ^ 20 == 0 && (decide (addr % 2 ^ 20 < 8) || (decide (0x100 ≤ addr % 2 ^ 20) && decide (addr % 2 ^ 20 < 0x2100)) ||
        (decide (0x4000 ≤ addr % 2 ^ 20) && decide (addr % 2 ^ 20 < 0xC000)))) || (addr / 2 ^ 20 == 1 && decide (addr % 2 ^ 20 < 8192))) = true := by
      simp only [Bool.or_eq_true, Bool.and_eq_true, beq_iff_eq, decide_eq_true_eq]
      omega
    have hfull : (decide (256 ≤ l.length) && !l.any fun x => x.1 == addr) = false := by
      rcases hroom with h | h
      · rw [decide_eq_false (Nat.not_le.2 h), Bool.false_and]
      · rw [h]
        simp
    rw [exec_forceSet, forceSet]
    dsimp only
    rw [← hl, State.command_taken ht (by
      simp only [List.mem_cons, List.not_mem_nil, or_false, forall_eq_or_imp, forall_eq]
      exact ⟨by rw [hexist]; rfl, by simp [hq], by simp [hst], hfull⟩)]
  case clear => rw [exec_forceClear, forceClear, State.command_taken ht (by simp [hq, hst])]

end Sys2Proof.Machine

/-! Energy, heat and loops -/

namespace Sys2Proof.Machine

/-! ### Energy, pulses and heat (R557–R573) -/

/-- Settles O40. -/
theorem energyWindowsAndTicks : Obligations.EnergyWindowsAndTicks := by
  unfold Obligations.EnergyWindowsAndTicks
  refine ⟨fun s p he hd => ?window, fun s a p n he hr hp hl ha => ?tick, fun s a b p hst hp ha hb => ?point, fun s a b h x hst hh hx ha hb => ?meter,
    fun s i heat hst hi => ?noIndex, fun s i heat hst => ?boot,
    fun s a second n calm sums on v chans overs rms top flow hst hn hv hon hch hov hrms htop hcalm hflow ha => ?vigil⟩
  case window => rw [exec_nrgWindowEnd, nrgWindowEnd, if_pos (by simp [he, hd])]
  case tick =>
    have hlast : (s.point p).last.any (fun k => decide (n ≤ k)) = false := by
      cases hk : (s.point p).last with
      | none => rfl
      | some k => simp [hl k hk]
    rw [exec_nrgTick, nrgTick, if_neg (by simp [he, hr, hlast]; omega)]
    dsimp only
    rw [← ha]
  case point =>
    rw [exec_accSnapshot, accSnapshot, if_neg hst, if_neg (by simp; omega)]
    dsimp only
    rw [if_neg Bool.false_ne_true, ← ha, ← hb]
  case meter =>
    rw [exec_accSnapshot, accSnapshot, if_neg hst, if_neg (by simp; omega)]
    dsimp only
    rw [if_pos rfl, ← ha, ← hx, ← hb]
  case noIndex =>
    rw [exec_accSnapshot, accSnapshot, if_neg hst, if_pos (by
      rcases hi with h | ⟨h, h'⟩
      · simp [h]
      · simp [h, h'])]
  case boot => rw [exec_accSnapshot, accSnapshot, if_pos hst]
  case vigil =>
    rw [exec_vigilSecond, vigilSecond, if_neg (by simp [hst]; omega)]
    dsimp only
    rw [← hv, ← hon, ← hch, ← hov, ← hrms, ← htop, ← hcalm, ha, hflow] <;> rfl

/-- Settles O41. -/
theorem pulsesAndHeat : Obligations.PulsesAndHeat := by
  unfold Obligations.PulsesAndHeat
  refine ⟨fun s a b c k now n r w width x hk ha he hm hen hn h1 hx hbusy hr hw hwd hb hc => ?pulse,
    fun s a b h now ts tr v he hh hen hnow hns ha hb hin => ?step, fun s a h lph hh hst hl ha => ?report, fun s h lph hh hst => ?boot⟩
  case pulse =>
    rw [exec_pulseStart, pulseStart]
    dsimp only
    rw [← ha, ← hn, ← hx, if_neg (by simp [he, hm, hen]; omega), ← hr, ← hw, ← hwd, ← hb, ← hc]
  case step =>
    rw [exec_heatStep, heatStep, if_neg (by simp [he, hen, hnow]; omega)]
    dsimp only
    rw [← ha, ← hb, hin]
    dsimp only
    refine ⟨fun h1 h2 h3 => by rw [h1, h2, h3, if_pos (by rfl)], fun h => ?_⟩
    rw [if_neg (by rcases h with h | h | h <;> simp [h])]
  case report =>
    rw [exec_heatReportWrite, heatReportWrite, if_neg (by simp; omega), if_neg hst]
    dsimp only
    rw [Nat.mod_eq_of_lt hl, ← ha]
  case boot => rw [exec_heatReportWrite, heatReportWrite, if_neg (by simp; omega), if_pos hst]

/-! ### Loops (R578–R597) -/

section
variable {s a : State} {n d : Nat}

theorem State.loopOp_taken {op : Nat} (hn : n ≤ 127) (hst : s.st ≠ stBoot) (h : op = 3 ∨ s.loopSt n ≠ loOff ∨
    ((s.loopRec n).op ≠ 1 ∧ (s.loopRec n).op ≠ 2 ∧ s.loopsOut < loopCap s.tg.f)) : s.loopOp n op = s.setLoop { s.loopRec n with op := op } := by
  have hgo : (decide (op ≠ 3) && decide (s.loopSt n = loOff) && decide (loopCap s.tg.f ≤
      s.loopsOut - (if s.loopSt n = loOff && ((s.loopRec n).op = 1 || (s.loopRec n).op = 2) then 1 else 0))) = false := by
    rcases h with h | h | ⟨h1, h2, h3⟩
    · simp [h]
    · simp [h]
    · rw [if_neg (by simp [h1, h2]), Nat.sub_zero, decide_eq_false (Nat.not_le.2 h3), Bool.and_false]
  rw [State.loopOp]
  dsimp only
  rw [if_neg (by omega), if_neg hst, hgo, if_neg Bool.false_ne_true]

theorem State.loopOp_full {op : Nat} (hn : n ≤ 127) (hst : s.st ≠ stBoot) (hop : op ≠ 3) (hoff : s.loopSt n = loOff) (h1 : (s.loopRec n).op ≠ 1)
    (h2 : (s.loopRec n).op ≠ 2) (h3 : loopCap s.tg.f ≤ s.loopsOut) : s.loopOp n op = s.reject 18 (0x1050 + 0x80 * n) 1 := by
  rw [State.loopOp]
  dsimp only
  rw [if_neg (by omega), if_neg hst, if_pos (by simp [hop, hoff, h1, h2, h3])]

theorem State.loopOp_boot {op : Nat} (hn : n ≤ 127) (hst : s.st = stBoot) : s.loopOp n op = s.reject 18 (0x1050 + 0x80 * n) 3 := by
  rw [State.loopOp]
  dsimp only
  rw [if_neg (by omega), if_pos hst]

end

/-- What the report of channel `ch` leaves, by the device it matches and whether its type is that of R591. -/
def State.reportBy (s0 : State) (ch status position value : Nat) : Option Nat → Bool → State
  | some d, true =>
    let r : DevReport := { key := 256 * d + ch, at' := s0.ns, fault := status % 2 == 1, position := signed 32 position, value := signed 32 value,
                           seen := status % 2 == 1, good := if status % 2 == 1 then (s0.reportOf d ch).bind DevReport.good else some (signed 32 position) }
    let s1 := { s0 with lce := { s0.lce with reports := setKey DevReport.key r s0.lce.reports } }.count Reg.LCE_REPORT_RX_COUNT
    if status % 2 == 1 then (if !s0.reportStale d (s0.reportOf d ch) && s1.reportUsed d ch then (s1.event 143).raiseAt 0x1202 1 d d else s1)
    else s1.clearFault 0x1202 d
  | _, _ => s0.count Reg.LCE_REPORT_BAD_COUNT

theorem deviceReportRx_eq {s a : State} {now : Nat} (src type ch status position value : Nat) (he : s.flag Reg.LCE_CTRL_EN = true)
    (ha : a = s.advance (now * nsUnit)) :
    deviceReportRx src type ch status position value now s = a.reportBy ch status position value (a.reportMatch src ch) (type == 0x41) := by
  rw [deviceReportRx, if_neg (by simp [he]), ← ha]
  clear ha
  dsimp only
  unfold State.reportBy
  cases a.reportMatch src ch <;> cases type == 0x41 <;> rfl

theorem State.reportBy_none {s : State} {ch status position value : Nat} {d : Option Nat} {b : Bool} (h : d = none ∨ b = false) :
    s.reportBy ch status position value d b = s.count Reg.LCE_REPORT_BAD_COUNT := by
  rcases h with rfl | rfl
  · rw [State.reportBy]
    simp
  · rw [State.reportBy]
    simp

/-- Settles O42. -/
theorem loopsRunAndTakeOrders : Obligations.LoopsRunAndTakeOrders := by
  unfold Obligations.LoopsRunAndTakeOrders
  refine ⟨fun s a b n k close runs hn he hr hw hm ha hb => ?execute, fun s n hn hst hl => ?order, fun s n hn hst => ?off,
    fun s n hn hst hl h1 h2 => ?fromOff, fun s n hn hst => ?boot, fun s a b src ch status position value now d r he ha hd hs hr hb => ?good,
    fun s a b c src ch status position value now d r he ha hd hs hr hb hc => ?bad, fun s a src type ch status position value now he ha h => ?alien,
    fun s a b d ch now r he hd ha hr hs hst hb => ?stale⟩
  case execute =>
    have hfirst : (List.range n).any (fun m => s.loopWaits m k) = false := List.any_eq_false.2 fun m hmem => by simp [hm m (List.mem_range.1 hmem)]
    rw [exec_loopExecute, loopExecute, if_neg (by simp [he, hr, hw, hfirst]; omega), ← ha]
    dsimp only
    rw [hb]
  case order =>
    rw [exec_loopOpClose, exec_loopOpOpen, State.loopOp_taken hn hst (.inr (.inl hl)), State.loopOp_taken hn hst (.inr (.inl hl))]
    exact ⟨rfl, rfl⟩
  case off => rw [exec_loopOpOff, State.loopOp_taken hn hst (.inl rfl)]
  case fromOff =>
    rw [exec_loopOpClose, exec_loopOpOpen]
    refine ⟨fun h => ?_, fun h => ?_⟩
    · rw [State.loopOp_taken hn hst (.inr (.inr ⟨h1, h2, h⟩)), State.loopOp_taken hn hst (.inr (.inr ⟨h1, h2, h⟩))]
      exact ⟨rfl, rfl⟩
    · rw [State.loopOp_full hn hst (by decide) hl h1 h2 h, State.loopOp_full hn hst (by decide) hl h1 h2 h]
      exact ⟨rfl, rfl⟩
  case boot =>
    rw [exec_loopOpClose, exec_loopOpOpen, exec_loopOpOff, State.loopOp_boot hn hst, State.loopOp_boot hn hst, State.loopOp_boot hn hst]
    exact ⟨rfl, rfl, rfl⟩
  case good =>
    have hbit : (status % 2 == 1) = false := by simp [hs]
    rw [exec_deviceReportRx, deviceReportRx_eq _ _ _ _ _ _ he ha, hd, beq_self_eq_true, State.reportBy]
    dsimp only
    rw [hbit, if_neg Bool.false_ne_true, if_neg Bool.false_ne_true, ← hr, ← hb]
  case bad =>
    have hbit : (status % 2 == 1) = true := by simp [hs]
    rw [exec_deviceReportRx, deviceReportRx_eq _ _ _ _ _ _ he ha, hd, beq_self_eq_true, State.reportBy]
    dsimp only
    rw [hbit, if_pos rfl, if_pos rfl, ← hr, ← hb, ← hc]
    simp only [Bool.and_eq_true, Bool.not_eq_true']
  case alien =>
    rw [exec_deviceReportRx, deviceReportRx_eq _ _ _ _ _ _ he ha, State.reportBy_none (h.imp_right beq_eq_false_iff_ne.2)]
  case stale =>
    rw [exec_deviceReportStale, deviceReportStale, if_neg (by simp [he]; omega), ← ha]
    dsimp only
    rw [hr]
    dsimp only
    rw [if_neg (by simp [hs, hst]), ← hb]

/-! ### Time sources (R192–R197, R211) -/

section
variable {s a : State} {m : Announce}

/-- An announce of a port and a domain that count (R196). -/
theorem ptpAnnounceRx_taken (hd : s.get Reg.TIM_PTP_CFG_DOMAIN = m.domain) (hp : (s.get Reg.TIM_PTP_CFG_PORTS >>> m.port) % 2 = 1)
    {l : List Announce} (hl : l = if m.ptpTimescale then setKey Announce.port m s.tim.announces else dropKey Announce.port m.port s.tim.announces)
    (ha : a = { s with tim := { s.tim with announces := l } }) :
    ptpAnnounceRx m s = if m.ptpTimescale = true ∧ a.runBmca.ptpParent = m.port then a.runBmca.keepUtcOffset m.utcOffset else a.runBmca := by
  have hgo : (decide (s.get Reg.TIM_PTP_CFG_DOMAIN ≠ m.domain) || decide ((s.get Reg.TIM_PTP_CFG_PORTS >>> m.port) % 2 = 0)) = false := by
    rw [decide_eq_false (Classical.not_not.2 hd), decide_eq_false (by omega)]
    rfl
  rw [ptpAnnounceRx, hgo, if_neg Bool.false_ne_true]
  cases ht : m.ptpTimescale with
  | false =>
    rw [ht, if_neg Bool.false_ne_true] at hl
    rw [if_pos (by rfl), ← hl, ← ha, if_neg (by simp)]
  | true =>
    rw [ht, if_pos rfl] at hl
    rw [if_neg (by decide), ← hl, ← ha]
    simp only [true_and]

end

/-- Settles O44. -/
theorem timeSourcesLockAndFail : Obligations.TimeSourcesLockAndFail := by
  unfold Obligations.TimeSourcesLockAndFail
  refine ⟨fun s m h => ?ignored, fun s a b c m ofs ht hm ho ha hb hc => ?sync, fun s m h => ?announceIgnored, fun s a m l hd hp hl ha => ?announce,
    fun s a port x hp hpt ha => ?pdelay, fun s port pcs cls x hst hup hpa h => ?send, fun s a ht ha => ?loss, fun s h => ?holdover,
    fun s => ?mismatch, fun s a d hm he ha => ?noRef, fun s a b d hm he ha hb => ?ref, fun s a b d hm ha hb => ?refLoss⟩
  case ignored => rw [exec_ptpSyncRx, ptpSyncRx, if_pos (by rcases h with h | h <;> simp [h])]
  case sync =>
    rw [exec_ptpSyncRx, ptpSyncRx, if_neg (by simp [ht, hm]), ← ho]
    dsimp only
    rw [← ha]
    simp only [decide_eq_true_eq, Bool.and_eq_true]
    rw [← hb, ← hc]
  case announceIgnored =>
    rw [exec_ptpAnnounceRx, ptpAnnounceRx, if_pos (by simpa using h)]
  case announce => rw [exec_ptpAnnounceRx, ptpAnnounceRx_taken hd hp hl ha]
  case pdelay =>
    have hgo : (decide (7 < port) || decide ((s.get Reg.TIM_PTP_CFG_PORTS >>> port) % 2 = 0)) = false := by
      rw [decide_eq_false (Nat.not_lt.2 hp), decide_eq_false (by omega)]
      rfl
    rw [exec_ptpPdelay, ptpPdelay, hgo, if_neg Bool.false_ne_true]
    dsimp only
    rw [← ha]
  case send =>
    have hhl : ¬ clsHoldover = clsLocked := by decide
    rw [exec_ptpSyncTx, ptpSyncTx]
    dsimp only
    rw [if_neg (by simp [hst, hup, hpa])]
    rcases h with ⟨h1, h2, h3⟩ | ⟨h1, h3⟩
    · rw [if_pos h1, h2, h3]
    · rw [if_neg (by rw [h1]; exact hhl), if_pos h1, h3]
  case loss =>
    rw [exec_ptpSourceLoss, ptpSourceLoss, if_neg (by simp [ht]), ← ha]
  case holdover => rw [exec_holdoverMaxExpiry, holdoverMaxExpiry, if_pos h]
  case mismatch => rw [exec_timeCounterMismatch]
  case noRef => rw [exec_refMeasure, refMeasure, if_neg (by simp [hm]), if_pos (by simp [he]), ← ha]
  case ref =>
    have hrun : (if d.natAbs ≤ 400 then s.tim.refRun + 1 else 0) = a.tim.refRun := by rw [ha]
    rw [exec_refMeasure, refMeasure, if_neg (by simp [hm]), if_neg (by simp [he])]
    simp only [decide_eq_true_eq, Bool.and_eq_true]
    rw [← ha, hrun, ← hb]
    exact ⟨fun h => by rw [if_pos h], fun h => by rw [if_neg (by omega)]⟩
  case refLoss =>
    rw [exec_refLoss, refLoss, if_neg (by simp [hm])]
    dsimp only
    rw [← ha, ← hb]

end Sys2Proof.Machine

/-! Time stamps, gates and the calendar, the recorder -/

namespace Sys2Proof.Machine

/-! ### Stamps, edges and gates (R189, R205–R208) -/

/-- Settles O45. -/
theorem stampsEdgesAndGates : Obligations.StampsEdgesAndGates := by
  unfold Obligations.StampsEdgesAndGates
  refine ⟨fun s a b k sec ht hk hs ha hb => ?pulse, fun s a b stamp t hr ha ht hb => ?pps, fun s a b input stamp falling e hr ha hi hsel he hb => ?edge,
    fun s a input stamp falling hr ha hsel => ?unselected, fun s a t i f l hl hi ha => ?pop, fun s => ?now, fun s x hx => ?latched,
    fun s p data hp hst hpend h1 h256 hen hch => ?change, fun s a p hp hst ha => ?disable, fun s a b c p w hw ha hb hc => ?switch⟩
  case pulse =>
    obtain ⟨second, hsec⟩ : ∃ w, 1000000000 * nsUnit = w := ⟨_, rfl⟩
    obtain ⟨move, hmove⟩ : ∃ w, State.advance = w := ⟨_, rfl⟩
    rw [hsec] at hk
    rw [hmove] at ha
    rw [exec_ppsOutPulse, ppsOutPulse, if_neg (by simp [ht]), hsec, hmove, ← hk]
    dsimp only
    rw [← hs, ← ha, ← hb, hb]
    simp only [Bool.and_eq_true, decide_eq_true_eq, and_assoc]
  case pps =>
    rw [exec_ppsInEdge, ppsInEdge, if_neg (by simp [hr]), ← ha, ← ht]
    refine ⟨fun h => ?_, fun hseen hlt => ?_⟩
    · rw [if_neg (by
        rcases h with h | h
        · simp [h]
        · rw [decide_eq_false (Nat.not_lt.2 h)]
          simp), ← hb]
    · rw [if_pos (by rw [hseen, decide_eq_true hlt]; rfl)]
  case edge =>
    rw [exec_diEdge, diEdge, if_neg (by simp [hr]), ← ha]
    dsimp only
    rw [if_neg (by rw [Bool.or_eq_true, decide_eq_true_eq, decide_eq_true_eq]; omega), ← he, ← hb]
  case unselected =>
    rw [exec_diEdge, diEdge, if_neg (by simp [hr]), ← ha]
    dsimp only
    rw [if_pos (by rw [decide_eq_true hsel, Bool.or_true])]
  case pop =>
    have hword : (BitVec.ofNat 32 (2 ^ 31 + i * 256 + if f then 1 else 0)).toNat = 2 ^ 31 + i * 256 + if f then 1 else 0 := by
      rw [BitVec.toNat_ofNat]
      refine Nat.mod_eq_of_lt ?_
      split <;> omega
    rw [exec_diedgePop, diedgePop, State.popEdge, hl]
    dsimp only
    rw [hword, ← ha]
  case now =>
    have hword : (BitVec.ofNat 32 (s.ns % 1000000000)).toNat = s.ns % 1000000000 := by
      rw [BitVec.toNat_ofNat]
      exact Nat.mod_eq_of_lt (by omega)
    rw [exec_timeLatchRead, timeLatchRead, if_pos (by decide), State.timeLatch, if_pos rfl, hword]
  case latched =>
    have hne : ¬ x = 0x40020 := by rintro rfl; exact absurd hx (by decide)
    have hlatch : isTimeLatch x = true := by
      simp only [List.mem_cons, List.not_mem_nil, or_false] at hx
      rcases hx with rfl | rfl | rfl <;> decide
    have hlt : s.get ⟨x, 0, 30⟩ < 2 ^ 30 := s.get_lt (show 0 + 30 ≤ 32 by decide)
    have hword : (BitVec.ofNat 32 (s.get ⟨x, 0, 30⟩)).toNat = s.get ⟨x, 0, 30⟩ := by
      rw [BitVec.toNat_ofNat]
      exact Nat.mod_eq_of_lt (by omega)
    rw [exec_timeLatchRead, timeLatchRead, if_pos hlatch, State.timeLatch, if_neg hne, hword]
  case change =>
    have hlen : (!false && (decide (data.field 16 9 = 0) || decide (256 < data.field 16 9))) = false := by
      rw [decide_eq_false (by omega), decide_eq_false (by omega)]
      rfl
    rw [exec_gclChangeWrite, gclChangeWrite, if_neg (by omega), if_neg hst]
    simp only [hpend, hlen, hen, hch, Bool.false_and, Bool.false_eq_true, if_false, Nat.one_ne_zero, decide_true, Bool.true_or, if_true]
  case disable =>
    rw [exec_gclDisable, gclDisable, if_neg (by omega), if_neg hst, ← ha]
  case switch =>
    rw [exec_gclSwitch, gclSwitch, hw]
    dsimp only
    rw [← ha, ← hb, ← hc]


/-! ### The calendar's writes (R213–R231) -/

/-- Settles O47. -/
theorem calendarIsWrittenAndRuns : Obligations.CalendarIsWrittenAndRuns := by
  unfold Obligations.CalendarIsWrittenAndRuns
  refine ⟨fun s sub hst => ?set, fun s hst => ?add, fun s hst => ?subtract, fun s k pos hst h1 hk hp => ?shift, fun s back hst => ?noShift,
    fun s hst => ?osf, fun s sub k back hst => ?boot, fun s a b counts w l hq ha hb => ?cross, fun s h => ?full, fun s a b stamp ha hb => ?second,
    fun s a b hw ha hb => ?wake, fun s a hm hd ha => ?pwron, fun s a hp ht ha => ?timeout, fun s => ?stop, fun s a ha => ?power⟩
  case set =>
    rw [exec_calSet, calSet, State.rtcWrite, if_neg hst]
    exact ⟨fun h => by rw [if_neg (by simp [h])], fun h => by rw [if_pos (by simp [h])]⟩
  case add =>
    rw [exec_dstAdd, dstAdd, State.rtcWrite, if_neg hst]
    refine ⟨fun h1 h2 h3 => by rw [if_neg (by rw [h1, h2, decide_eq_false (Nat.not_le.2 h3)]; decide)], fun h => ?_⟩
    rw [if_pos (by rcases h with h | h | h <;> simp [h])]
  case subtract =>
    rw [exec_dstSubtract, dstSubtract, State.rtcWrite, if_neg hst]
    refine ⟨fun h1 h2 h3 => by rw [if_neg (by rw [h1, h2, decide_eq_false (Nat.not_lt.2 h3)]; decide)], fun h => ?_⟩
    rw [if_pos (by rcases h with h | h | h <;> simp [h])]
  case shift =>
    have hmod : k % 2 ^ 15 = k := Nat.mod_eq_of_lt hk
    rw [exec_calShift, exec_calShift, calShift, calShift, hmod, ← hp]
    have hk0 : ¬ k = 0 := by omega
    simp only [State.rtcWrite, if_neg hst, if_neg hk0, if_true, Bool.false_eq_true, if_false]
    refine ⟨?_, ?_⟩
    · by_cases h : k ≤ pos
      · rw [if_pos h, if_neg (by simpa using h)]
      · rw [if_neg h, if_pos (by simpa using h)]
    · by_cases h : pos + k < calEnd * 32768
      · rw [if_pos h, if_neg (by simpa using h), Nat.add_zero]
      · rw [if_neg h, if_pos (by simpa using h)]
  case noShift =>
    rw [exec_calShift, calShift, Nat.zero_mod, if_pos rfl, if_neg hst]
  case osf =>
    rw [exec_osfClear, osfClear, State.rtcWrite, if_neg hst]
    cases s.flag Reg.RTC_STATUS_TIME_SET <;> rfl
  case boot =>
    rw [exec_calSet, exec_dstAdd, exec_dstSubtract, exec_calShift, exec_osfClear, calSet, dstAdd, dstSubtract, calShift, osfClear]
    simp only [State.rtcWrite, if_pos hst, ite_self, and_self]
  case cross =>
    rw [exec_rtcWriteCross, rtcWriteCross, hq, ← ha]
    dsimp only
    rw [← hb]
  case full =>
    rw [exec_rtcQueueFull, rtcQueueFull, if_pos h]
  case second =>
    rw [exec_calSecondEdge, calSecondEdge, ← ha, ← hb]
  case wake =>
    rw [exec_wakeFire, wakeFire, if_neg (by simp [hw]), ← ha]
    dsimp only
    rw [← hb]
  case pwron =>
    rw [exec_pwronReqAssert, pwronReqAssert, if_pos (by simp [hm, hd]), ← ha]
  case timeout =>
    rw [exec_pwronTimeout, pwronTimeout, if_pos (by simp [hp, ht]), ← ha]
  case stop =>
    rw [exec_oscStop]
  case power =>
    rw [exec_backupDomainPowerUp, backupDomainPowerUp, ← ha]

/-! ### Installs of channels and masks (R526–R528, R544) -/

/-- The check of CH_INSTALL refuses exactly where one of its six conditions fails. -/
theorem chanRefused_iff (bin range valid overs fits : Bool) (i w1 : Nat) :
    ((decide (4096 ≤ i) && !bin) || decide (8192 ≤ i) || !range || (bin && decide (4 ≤ w1)) || (!bin && decide (w1 ≠ 0)) || !valid || overs ||
      !fits) = true ↔
      (if bin then 8191 else 4095) < i ∨ range = false ∨ (if bin then 3 else 0) < w1 ∨ valid = false ∨ overs = true ∨ fits = false := by
  simp only [Bool.or_eq_true, Bool.and_eq_true, Bool.not_eq_true', decide_eq_true_eq]
  cases bin
  · simp only [Bool.false_eq_true, if_false]
    grind
  · simp only [if_true]
    grind

/-- One of two entries filtered by `p` meets `q` exactly where an entry meets both. -/
theorem any_filter_option {α : Type} (p q : α → Bool) (o : Option α) : (o.filter p).any q = o.any fun x => p x && q x := by
  cases o with
  | none => rfl
  | some x =>
    rw [Option.filter_some]
    cases hx : p x <;> simp [hx]

/-- Settles O48. -/
theorem recorderChannelsAndMasks : Obligations.RecorderChannelsAndMasks := by
  unfold Obligations.RecorderChannelsAndMasks
  refine ⟨fun s a b bin gain i w0 w1 k old quota l hst hr h0 h1 hk hq ho hg hl hi hrange hw1 hv hgain hfit ha hb => ?install,
    fun s bin overs i w0 w1 k l hst hr h0 h1 hk hl ho h => ?refused, fun s bin i hst hr => ?armed, fun s bin i hst => ?boot,
    fun s bin i c hst hc => ?read, fun s i l hst hr hl => ?masks, fun s i j o u l hst hm => ?maskRead⟩
  case install =>
    have hover : (gain && s.overQuota (quota k) 1) = false := by rcases hgain with h | h <;> simp [h]
    have hok := mt (chanRefused_iff bin (chRangeOk (capOf (s.get Reg.SVI_CFG_RATE)) bin w0) (s.sliceValid k) false (s.recFits l) i w1).1 (by
      rw [hrange, hv, hfit]
      simp only [Bool.true_eq_false, Bool.false_eq_true, false_or, or_false]
      exact not_or.2 ⟨Nat.not_lt.2 hi, Nat.not_lt.2 hw1⟩)
    rw [exec_chInstall, chInstall]
    dsimp only
    rw [← h0, ← h1, ← hk, ← hq, ← ho, ← hg, hover, ← hl, if_neg hst, if_neg (Classical.not_not.2 hr), if_neg hok, hb, ha] <;> rfl
  case refused =>
    have hbad := (chanRefused_iff bin _ _ _ _ i w1).2 h
    rw [exec_chInstall, chInstall]
    dsimp only
    rw [← h0, ← h1, ← hk, any_filter_option, apply_ite (fun quota : Nat → Field => quota k), ← ho, ← hl, if_neg hst, if_neg (Classical.not_not.2 hr), if_pos hbad]
  case armed =>
    rw [exec_chInstall, exec_mptInstall, chInstall, mptInstall]
    simp only [if_neg hst, if_pos hr, and_self]
  case boot =>
    rw [exec_chInstall, exec_chRead, exec_mptInstall, exec_mptRead, chInstall, chRead, mptInstall, mptRead]
    simp only [if_pos hst, and_self]
  case read =>
    rw [exec_chRead, chRead, if_neg hst, hc]
  case masks =>
    rw [exec_mptInstall, mptInstall, ← hl]
    refine ⟨fun h => ?_, fun h => ?_⟩
    · rw [if_neg hst, if_neg (Classical.not_not.2 hr), if_neg (by simp [h])]
    · rw [if_neg hst, if_neg (Classical.not_not.2 hr), if_pos (by simp [h])]
  case maskRead =>
    rw [exec_mptRead, mptRead, if_neg hst, hm]

/-! ### Triggers and arming (R530–R537) -/

/-- Settles O49. -/
theorem recorderTriggersAndArms : Obligations.RecorderTriggersAndArms := by
  unfold Obligations.RecorderTriggersAndArms
  refine ⟨fun s hst hen => ?fire, fun s a r hst hen h1 hr ha => ?starts, fun s hst hg hen => ?arm, fun s h => ?armRefused, fun s hst h => ?disarm,
    fun s hst h => ?disarmPost, fun s a h3 ha h3' har hg => ?rearm, fun s a m hg hen hm hmas ha => ?armRx, fun s a b m now hg hen ha hm hb => ?fireRx⟩
  case fire =>
    rw [exec_recFire, recFire, if_neg (by simp [hst, hen])]
    refine ⟨rfl, fun h => ?_⟩
    rw [State.recTrigger, h] <;> rfl
  case starts =>
    rw [exec_recFire, recFire, if_neg (by simp [hst, hen]), State.recTrigger, h1]
    rw [ha, hr] <;> rfl
  case arm =>
    rw [exec_recArm, recArmCmd, if_neg (by rcases hg with h | h <;> simp [hst, h]), if_neg (by simp [hen])]
    refine ⟨fun h => ?_, fun h => ?_⟩
    · rw [if_pos (by rcases h with h | h <;> simp [h])]
    · rw [if_neg (by simp [h]), if_pos h]
  case armRefused =>
    rw [exec_recArm, recArmCmd, if_pos (by
      rcases h with h | ⟨h, h'⟩
      · simp [h]
      · simp [h, h'])]
  case disarm =>
    rw [exec_recDisarm, recDisarm, if_neg hst, if_pos (by rcases h with h | h <;> simp [h])]
  case disarmPost =>
    rw [exec_recDisarm, recDisarm, if_neg hst, if_neg (by simp [h]), if_pos h]
  case rearm =>
    rw [exec_rearmTimeout, rearmTimeout, if_pos h3, ← ha]
    rw [if_pos (by rcases hg with h | h <;> simp [h3', har, h])]
  case armRx =>
    rw [exec_groupArmRx, groupArmRx, if_neg (by simp [hg, hen]), hm]
    dsimp only
    rw [← ha, if_neg (by simp [hmas])]
    refine ⟨fun h => ?_, fun h => ?_⟩
    · rw [if_pos (by rcases h with h | h <;> simp [h])]
    · rw [if_neg (by simp [h]), if_pos h]
  case fireRx =>
    rw [exec_groupFireRx, groupFireRx, if_neg (by simp [hg, hen]), ← ha]
    dsimp only
    rw [hm]
    dsimp only
    rw [← hb]
    refine ⟨fun hid ht => ?_, fun hid ht => ?_, fun hid => ?_⟩
    · rw [if_neg (Classical.not_not.2 hid), if_neg (Nat.not_lt.2 ht)]
    · rw [if_neg (Classical.not_not.2 hid), if_pos ht]
    · rw [if_pos hid]

/-! ### Ports, transceivers and links (R237–R265) -/

/-- Settles O53. -/
theorem portsFollowTheirLines : Obligations.PortsFollowTheirLines := by
  unfold Obligations.PortsFollowTheirLines
  refine ⟨fun s p i hp ho => ?stop, fun s p i hp ho h0 => ?start, fun s a p i hp hm ha => ?comes, fun s a p hp hm ha => ?goes,
    fun s a p hp hm ha => ?fault, fun s a p hp hm ha => ?faultEnds, fun s p hp h2 ho => ?pulse, fun s a p hp hm ha => ?current, fun s p => ?retry,
    fun s a p temp tx rx alarm hp hd hm ha => ?ddm, fun s a p an res done hp ho hd ha => ?up, fun s a p why los hp hm ha hw => ?down,
    fun s p hp hu => ?timer⟩
  case stop =>
    rw [exec_portEnableChange, portEnableChange, if_neg (Nat.not_lt.2 hp), if_pos (by simp [ho])]
  case start =>
    rw [exec_portEnableChange, portEnableChange, if_neg (Nat.not_lt.2 hp), if_neg (by simp [ho]), if_pos h0]
  case comes =>
    rw [exec_modAbsLow, modAbsLow, if_neg (by simp [hm]; omega), ← ha]
  case goes =>
    rw [exec_modAbsHigh, modAbsHigh, if_neg (by simp [hm]; omega), ← ha]
  case fault =>
    rw [exec_txFaultAssert, txFaultAssert, if_neg (by simp [hm]; omega), ← ha]
  case faultEnds =>
    rw [exec_txFaultClear, txFaultClear, if_neg (by simp [hm]; omega), ← ha]
    simp only [Bool.and_eq_true, decide_eq_true_eq, Bool.not_eq_true', and_assoc]
  case pulse =>
    rw [exec_txDisablePulse, txDisablePulse, if_pos (by simp [h2, ho]; omega)]
  case current =>
    rw [exec_cageOvercurrent, cageOvercurrent, if_neg (by simp [hm]; omega), ← ha]
  case retry => rw [exec_cageRetry, cageRetry]
  case ddm =>
    rw [exec_ddmRead, ddmRead, if_neg (by simp [hd, hm]; omega), ← ha]
  case up =>
    rw [exec_linkUp, linkUp, if_neg (by simp [ho]; omega), ← hd]
    dsimp only
    rw [← ha]
  case down =>
    rw [exec_linkDown, linkDown, if_neg (by simp [hm]; omega), ← ha, ← hw]
    refine ⟨fun h => ?_, fun h h3 => ?_⟩
    · rw [if_pos h]
    · rw [if_neg (by simp [h]), if_pos h3]
  case timer =>
    rw [exec_portNotUpTimer, portNotUpTimer, if_neg (by simp [hu]; omega)]
    simp only [Bool.not_eq_true']

/-! ### 10BASE-T1S and MACsec (R249–R259) -/

/-- The two shared ports belong to no redundant pair. -/
theorem State.redundant_shared (s : State) {p : Nat} (hp : p = 10 ∨ p = 11) : s.redundant p = false := by
  rcases hp with rfl | rfl <;> rfl

/-- The PLCA status of the two shared ports is no part of their own address. -/
theorem State.ownAddr_put_plca (s : State) (v : Nat) {p : Nat} (hp : p = 10 ∨ p = 11) :
    (s.put (Reg.MACP_STAT_PLCA_ST p) v).ownAddr p = s.ownAddr p := by
  rw [State.ownAddr, State.ownAddr, State.redundant_shared _ hp, State.redundant_shared _ hp,
    State.get_put_other _ _ (by rcases hp with rfl | rfl <;> decide), State.get_put_other _ _ (by rcases hp with rfl | rfl <;> decide)]

/-- Settles O54. -/
theorem portsOfOtherKinds : Obligations.PortsOfOtherKinds := by
  unfold Obligations.PortsOfOtherKinds
  refine ⟨fun s a b p now n late c hp hc ha hb hn => ?collision, fun s p hp hf => ?lost, fun s a p hp ho he ha => ?plca, fun s a m hp ho he hk hi hf ha => ?peer,
    fun s m q hp ho he hk hi hf hq => ?second, fun s m hp ho he hk => ?noKey, fun s a b p q hp hf ha hb => ?peerLost, fun s p q hp hm hf => ?exhausted,
    fun s => ?hello⟩
  case collision =>
    rw [exec_t1sCollision, t1sCollision, if_neg (by rcases hp with h | h <;> simp [h]), hc]
    dsimp only
    rw [← ha, ← hb, ← hn]
    refine ⟨fun h => ⟨_, congrArg Host.Outcome.next (if_neg (Nat.not_le.2 h)), rfl, rfl, rfl, rfl⟩, fun d h hd => ?_⟩
    rw [if_pos h, ← hd]
  case lost =>
    rw [exec_plcaStatusLost, plcaStatusLost, if_pos (by rcases hp with h | h <;> simp [← h, hf])]
  case plca =>
    have hown : a.ownAddr p = s.ownAddr p := by rw [ha, State.ownAddr_put_plca s 1 hp]
    rw [exec_plcaStatusUp, plcaStatusUp, if_pos (by rcases hp with h | h <;> simp [← h, ho, he]), ← ha, hown]
  case peer =>
    rw [exec_mkpduRx, mkpduRx]
    dsimp only
    rw [if_neg (by simp [ho, he]; omega), if_neg (by simp [hk]), if_neg (by simp [hi]), hf]
    dsimp only
    rw [← ha]
    refine ⟨fun h => ?_, fun h => ?_⟩
    · rw [if_pos (by rcases h with h | ⟨h, h'⟩ <;> simp [*])]
    · rw [if_neg]
      rcases h with h | ⟨h, h'⟩
      · simp; omega
      · simp [*]
  case second =>
    rw [exec_mkpduRx, mkpduRx]
    dsimp only
    rw [if_neg (by simp [ho, he]; omega), if_neg (by simp [hk]), if_neg (by simp [hi]), hf]
    dsimp only
    rw [if_pos hq]
  case noKey =>
    rw [exec_mkpduRx, mkpduRx]
    dsimp only
    rw [if_neg (by simp [ho, he]; omega), if_pos (by simp [hk])]
  case peerLost =>
    rw [exec_mkaPeerLost, mkaPeerLost, if_neg (by simp [hf]; omega), ← ha]
    dsimp only
    rw [← hb]
  case exhausted =>
    rw [exec_pnExhausted, pnExhausted, if_pos (by simp [hp, hm, hf])]
  case hello =>
    rw [exec_mkaHelloTx, mkaHelloTx]

/-! ### Frames and pairs (R240–R255) -/

/-- Settles O52. -/
theorem macFramesAndPairs : Obligations.MacFramesAndPairs := by
  unfold Obligations.MacFramesAndPairs
  refine ⟨fun s p c u w luck ho h3 => ?frame, fun s p q now ho => ?pause, fun s p c now q ho => ?pfc, fun s p hp hu => ?again,
    fun s k node now hk hr => ?supervision, fun s a k seqs hk hr ho hn => ?sends, fun s k src e hk hf => ?forget, fun s k node t0 hk hf => ?age⟩
  case frame => rw [exec_macFrameRx, macFrameRx, if_neg (by simp [ho]; omega)]
  case pause => rw [exec_pauseRx, if_pos ho]
  case pfc => rw [exec_pfcRx, if_pos ho]
  case again =>
    have hopen : ¬ (decide (7 < p) || !s.portUp p) = true := by
      rw [decide_eq_false (Nat.not_lt.2 hp), hu]
      decide
    rw [exec_pauseRefresh, pauseRefresh, if_neg hopen]
    refine ⟨fun hm h1 => ?_, fun hm h2 h0 => ?_⟩
    · rw [if_pos (by rw [hm, decide_eq_true h1]; rfl)]
    · rw [if_neg (by rw [hm, Bool.false_and]; exact Bool.false_ne_true), if_pos (by rw [decide_eq_true h2, decide_eq_true h0]; rfl)]
  case supervision => rw [exec_supervisionRx, if_pos (by simp [hr]; omega)]
  case sends =>
    rw [exec_supervisionTx, supervisionTx, if_neg (by rcases ho with h | h <;> simp [hr, h] <;> omega), hn]
  case forget => rw [exec_dupEntryForget, dupEntryForget, if_neg (Nat.not_lt.2 hk), hf]
  case age => rw [exec_nodeEntryAge, nodeEntryAge, if_neg (Nat.not_lt.2 hk), hf]

/-! ### Modulators and converters (R503–R516) -/

/-- Settles O57. -/
theorem modulatorsAndConverters : Obligations.ModulatorsAndConverters := by
  unfold Obligations.ModulatorsAndConverters
  refine ⟨fun s a b di fine ht ha hb => ?sample, fun s c hm he hc ho => ?faults, fun s c hc => ?ends, fun s hm => ?vdd, fun s c hm => ?off,
    fun s a hm ht ha => ?held, fun s a l hm ht hl ha => ?taken, fun s a start d hidle ha => ?start, fun s start d hb => ?busy,
    fun s trig start n d he ht => ?trigger, fun s start d hst he hsrc => ?command, fun s hst hr => ?stop, fun s start d hst => ?boot,
    fun s a b codes e hb he ha hbb => ?result, fun s a l hst ha => ?monitors, fun s a b m bad good v ha hb hbad hgood c hc => ?monitor⟩
  case sample =>
    rw [exec_sampleInstant, sampleInstant, if_neg (by simp [ht])]
    obtain ⟨instant, htime⟩ : ∃ g, instantOf = g := ⟨_, rfl⟩
    rw [htime] at ha ⊢
    dsimp only
    rw [← ha, ← hb]
  case faults =>
    have hon : (s.flag Reg.MOD_CTRL_EN && decide (c < 16) && s.modOn c && !s.mainAbsent) = true := by simp [he, hc, ho, hm]
    simp only [exec_modChannelFault, modChannelFault, hon, Bool.true_and, decide_eq_true_eq]
    refine ⟨fun h => ?_, fun h => ?_, fun h => ?_, fun h => ?_, fun h => ?_⟩
    · rw [if_pos h]
    · rw [if_pos h]
    · rw [if_pos h]
    · rw [if_pos h]
    · rw [if_pos (by simp [he, h, hm])]
  case ends =>
    simp only [exec_modChannelFault, modChannelFault, if_pos hc, and_self]
  case vdd =>
    rw [exec_modVddLimit, if_neg (by simp [hm])]
  case off =>
    rw [exec_modVddLimit, exec_modTempEval, modTempEval, if_pos hm, if_pos hm]
    simp only [exec_modChannelFault, modChannelFault, Bool.false_and, Bool.false_eq_true, if_false, hm, Bool.not_true, Bool.and_false, and_self]
  case held =>
    rw [exec_modTempEval, modTempEval, if_neg (by simp [hm]), if_pos ht, ← ha]
  case taken =>
    rw [exec_modTempEval, modTempEval, if_neg (by simp [hm]), if_neg (by simp [ht])]
    dsimp only
    rw [← hl, ← ha]
  case start =>
    rw [State.adcStart, if_neg (by simp [hidle]), ← ha]
  case busy =>
    rw [State.adcStart, if_pos hb]
  case trigger =>
    refine ⟨fun h => ?_, fun i f h => ?_⟩
    · rcases h with rfl | rfl
      · rw [exec_adcTrigger, adcTrigger, if_pos (by simp [he, ht])] <;> simp
      · rw [exec_adcTrigger, adcTrigger, if_pos (by simp [he, ht])] <;> simp
    · subst h
      rw [exec_adcTrigger, adcTrigger, if_pos (by simp [he, ht]), Bool.and_true]
  case command =>
    rw [exec_adcCmdTrig, adcCmdTrig, if_neg hst, if_pos (by simp [he, hsrc])]
  case stop =>
    rw [exec_adcCmdStop, adcCmdStop, if_neg hst, if_pos hr]
  case boot =>
    rw [exec_adcCmdTrig, exec_adcCmdStop, adcCmdTrig, adcCmdStop, if_pos hst, if_pos hst]
    exact ⟨rfl, rfl⟩
  case result =>
    rw [exec_adcResult, adcResult, if_neg (by simp [hb]), ← he]
    dsimp only
    rw [← ha, ← hbb]
  case monitors =>
    rw [exec_adcMonitorPair, adcMonitorPair, if_neg (by
      rcases hst with h | ⟨h, h'⟩
      · simp; omega
      · simp [h]; omega), ← ha]
  case monitor =>
    rw [State.monitor]
    dsimp only
    rw [← ha, ← hb, ← hbad, ← hgood, ← hc]

/-! ### A stored revision staged again (R121) -/

/-- A configuration revision signed by key slot 2, whose checks pass. -/
def storedRevision : Revision := ⟨3, 0, true, true, 2, [], [], none, none⟩

/-- SHADOW with an open console, a key of slice 0 for configuration signing in slot 2, and `storedRevision` stored. -/
def revisionStored : State :=
  { State.reset with
    regs := [(0x10, 5), (0x141020, 0x100000), (0x141024, 0x10), (0x141028, 2)]
    boot.revs := [storedRevision]
    keys.console := true }

/-- A request of slice 0 on the console. -/
def consoleRequest : Req := ⟨0, none, 1⟩

/-- CFG_STAGE of a stored number answers NORES without a quota: source 184 stays as it was. -/
theorem cfgStage_revisionStored : exec (.cfgStage consoleRequest storedRevision) revisionStored =
    .next (revisionStored.complete consoleRequest .nores 0 0) := by
  have ht : revisionStored.takes 0x10 consoleRequest := by decide
  rw [exec_cfgStage, cfgStage, State.command_failed (c := .nores) ht (by decide)]
  rfl

/-- Refutes O59: a CFG_STAGE of a stored number completes with NORES but does not set source 184, as the clause has it. -/
theorem not_storeAndTally : ¬ Obligations.StoreAndTally := by
  unfold Obligations.StoreAndTally
  rintro ⟨hstage, -⟩
  obtain ⟨-, hnores, -⟩ := hstage revisionStored consoleRequest storedRevision (by decide) (by decide)
  have h := cfgStage_revisionStored.symm.trans (hnores rfl (by decide) (by decide) (Or.inl (by decide)))
  have hflag := congrArg (fun t => t.srcFlag 184) (Host.Outcome.next.inj h)
  exact absurd hflag (by decide)

/-! ### Records and wave captures (R524–R552) -/

/-- TWL_RESULT of a wave without a far arrival, with a distance that is a free value, and its event (R549). -/
def State.resultAlone (s : State) : State :=
  (((s.put Reg.AQE_TWL_RESULT_VALID 1).put Reg.AQE_TWL_RESULT_STATUS 2).put Reg.AQE_TWL_RESULT_DIST s.free).drawn.event 125

theorem State.get_drawn (s : State) (f : Field) : s.drawn.get f = s.get f := rfl

theorem State.resultAlone_status (s : State) : s.resultAlone.get Reg.AQE_TWL_RESULT_STATUS = 2 := by
  rw [State.resultAlone, State.get_event_other _ _ (by decide), State.get_drawn, State.get_put_other _ _ (by decide),
    State.get_put _ _ (by decide)]
  rfl

theorem State.resultAlone_valid (s : State) : s.resultAlone.flag Reg.AQE_TWL_RESULT_VALID = true := by
  rw [State.flag, State.resultAlone, State.get_event_other _ _ (by decide), State.get_drawn, State.get_put_other _ _ (by decide),
    State.get_put_other _ _ (by decide), State.get_put _ _ (by decide)]
  rfl

theorem State.resultAlone_aqe (s : State) : s.resultAlone.aqe = s.aqe := by
  rw [State.resultAlone, State.event_aqe]
  simp only [State.drawn, State.put_aqe]

theorem State.resultAlone_slots (s : State) : s.resultAlone.slots = s.slots := by
  rw [State.resultAlone, State.event_slots]
  simp only [State.drawn, State.put_slots]

theorem State.resultAlone_event (s : State) : s.resultAlone.srcFlag 125 = true := State.srcFlag_event _ 125 (by decide)

/-- Settles O50. -/
theorem recordsAndWavesAreKept : Obligations.RecordsAndWavesAreKept := by
  unfold Obligations.RecordsAndWavesAreKept
  refine ⟨fun s n full pinned he hr hn hf hp => ?row, fun s r hc hs => ?settlement, fun s a id wear wave r hr hst hfl hs ha => ?segment,
    fun s a b c r hr hs hrc ha hb hc => ?closes, fun s a r hst hk ha => ?kept, fun s hst => ?boot,
    fun s q id part len off buf r all chunk ht hr hp h1 hl ho hst ha hc => ?fetch, fun s b dets a chan l hw hf hl hb => ?wave,
    fun s b m now a hb he hm hn hd hf ht => ?far, fun s b c m now hb he hm hn hd hf hc => ?first, fun s a hf => ?timeout,
    fun s b c r hw hr hb hc => ?capture⟩
  case row =>
    have hnew : (s.aqe.rows.head?.any fun r => decide (n ≤ r.tick)) = false := by
      cases h : s.aqe.rows.head? with
      | none => rfl
      | some r => simpa using hn r (by simp [h])
    rw [exec_recorderRow, recorderRow, hnew, if_neg (by simp [he, hr]), ← hf]
    dsimp only
    rw [hp] <;> rfl
  case settlement =>
    rw [exec_settlementEnd, settlementEnd, hc]
    dsimp only
    rw [if_neg (by simp [hs])]
  case segment =>
    have hgo : ¬ (decide (r.state ≠ 0) || hasFlag r 4 || (decide (r.type = 0) && !s.aqe.settled)) = true := by
      rcases hs with h | h <;> simp [hst, hfl, h]
    have hworn : (decide (800 ≤ wear) && !(s.put Reg.AQE_FLASH_WEAR wear).isActive 0x1002 0) = true ↔
        800 ≤ wear ∧ (s.put Reg.AQE_FLASH_WEAR wear).isActive 0x1002 0 = false := by
      rw [Bool.and_eq_true, decide_eq_true_eq, Bool.not_eq_true']
    simp only [exec_flashSegmentCommit, flashSegmentCommit, hr, if_neg hgo, hworn, ← ha]
    refine ⟨fun b hw hroom => ?_, fun hw hroom => ?_, fun hw => ?_, fun _ => trivial⟩
    · rw [if_neg (Nat.not_le.2 hw), hroom]
    · rw [if_neg (Nat.not_le.2 hw), hroom]
    · rw [if_pos hw]
  case closes =>
    rw [exec_recordClose, recordClose, hr]
    dsimp only
    rw [if_neg (by simp [hs, hrc]), ← ha, ← hb, ← hc] <;> rfl
  case kept =>
    rw [exec_keepRecord, exec_releaseRecord, exec_deleteRecord, deleteRecord, if_neg hst, if_neg hst, if_neg hst, hk]
    dsimp only
    rw [← ha]
    exact ⟨rfl, rfl, rfl⟩
  case boot =>
    rw [exec_keepRecord, exec_releaseRecord, exec_deleteRecord, deleteRecord, if_pos hst, if_pos hst, if_pos hst]
    exact ⟨rfl, rfl, rfl⟩
  case fetch =>
    rw [exec_recFetch, recFetch, hr]
    dsimp only
    rw [State.command_taken ht (by
      simp only [List.mem_cons, List.not_mem_nil, or_false, forall_eq_or_imp, forall_eq]
      refine ⟨by simp; omega, ?_, by simp [hst]⟩
      rcases ho with h | h <;> simp [h]), ← ha, ← hc]
  case wave =>
    rw [exec_wavefrontDetect, wavefrontDetect, if_neg (by simp [hw]), hf]
    dsimp only
    rw [← hl, ← hb]
  case far =>
    rw [exec_waveTsRx, waveTsRx, ← hb, if_neg (by simp [he]), hm]
    dsimp only
    rw [if_neg (by simp [hn, hd]), hf]
    dsimp only
    rw [if_pos ht]
  case first =>
    rw [exec_waveTsRx, waveTsRx, ← hb, if_neg (by simp [he]), hm]
    dsimp only
    rw [if_neg (by simp [hn, hd]), hf]
    dsimp only
    rw [← hc]
  case timeout =>
    obtain ⟨move, hmove⟩ : ∃ w, State.advance = w := ⟨_, rfl⟩
    have hslots (t : Nat) : (move s t).slots = s.slots := hmove ▸ State.advance_slots s t
    rw [exec_farArrivalTimeout, farArrivalTimeout, hf, hmove]
    dsimp only
    obtain ⟨b, hb⟩ : ∃ b : State, { move s ((a / 65536 + 20000000) * nsUnit) with aqe := { s.aqe with farPend := none } } = b := ⟨_, rfl⟩
    have hpend : b.aqe.farPend = none := by rw [← hb]
    have hb' : b.slots = s.slots := by rw [← hb, hslots]
    rw [hb]
    exact ⟨b.resultAlone, rfl, by rw [b.resultAlone_aqe, hpend], b.resultAlone_status, b.resultAlone_valid, b.resultAlone_event,
      by rw [b.resultAlone_slots, hb']⟩
  case capture =>
    rw [exec_waveCaptureClose, waveCaptureClose, hw]
    dsimp only
    rw [if_neg (by simp [hr]), ← hb, ← hc]

end Sys2Proof.Machine
